-- ==== Sys2Proof/Word.lean ====
section
/-! DEFINITION. The words of the Scaden cluster: bytes, 32-bit and 64-bit words, and the numbers of its units. -/

namespace Sys2Proof

/-- A byte of scratchpad, tile or payload. -/
abbrev Byte := BitVec 8
/-- A 16-bit field. -/
abbrev W16 := BitVec 16
/-- A 32-bit word. -/
abbrev W32 := BitVec 32
/-- A 64-bit word (a register, a scratchpad word, a TB value). -/
abbrev W64 := BitVec 64
/-- A macro-op (R215). -/
abbrev MacroOp := BitVec 256

/-- Core number C0 to C7 (R16). -/
abbrev CoreId := Fin 8
/-- Array index a = 4n + k (R53). -/
abbrev ArrayId := Fin 32
/-- Engine queue number (R34). -/
abbrev QueueId := Fin 52
/-- Data-mover channel DM0 to DM3. -/
abbrev ChanId := Fin 4
/-- Fabric lane (R312). -/
abbrev LaneId := Fin 4
/-- Crossing FIFO: 2i outbound, 2i + 1 inbound of lane i (R322). -/
abbrev FifoId := Fin 8
/-- Context number (R370). -/
abbrev CtxId := Fin 64
/-- Scratchpad bank (R279). -/
abbrev BankId := Fin 256
/-- Ring number (R338). -/
abbrev RingId := Fin 8192
/-- Sorus entry number (R344). -/
abbrev SorusId := Fin 512
/-- Fault source number (R412). -/
abbrev SrcId := Fin 128

end Sys2Proof
end

