-- ==== Sys2Proof/Syntax.lean ====
section
/-! DEFINITION. The commands of the cluster, one constructor per row of the table of operations and events.
A command for an event inside the cluster names the unit only (its op, walk entry, instruction or spore stands
in the state); a command for a stimulus from outside carries its data. -/

namespace Sys2Proof

/-- A droop request level (R438): 0, 1, 2, 4 or 8. -/
inductive DroopLevel where
  | l0 | l1 | l2 | l4 | l8
  deriving DecidableEq, Repr

/-- The number of a droop level. -/
def DroopLevel.val : DroopLevel → Nat
  | .l0 => 0 | .l1 => 1 | .l2 => 2 | .l4 => 4 | .l8 => 8

/-- The counts that have a fence threshold (R427): witness COUNT, stop count, bank count. -/
inductive FenceKind where
  | witness | lockstep | bank
  deriving DecidableEq, Repr

/-- The two grant levels of the security block, as sampled with a request (R464). -/
structure Grants where
  maint : Bool
  debug : Bool
  deriving DecidableEq, Repr

/-- What stage 2 finds (R450): bad columns of each array (pairs array, 34-bit mask), banks that fail their march,
and the LSOK bit of each core. -/
structure Findings where
  badCols   : List (Nat × BitVec 34)
  failBanks : BitVec 256
  lsok      : Byte
  deriving DecidableEq, Repr

/-- One telemetry update (R447): a thermal sensor, or the rail word. -/
inductive Telemetry where
  | temp (i : Fin 9) (v : W16)
  | rail (w : W64)
  deriving DecidableEq, Repr

/-- A flit on a lane (R311): header bits [127:0], the CRC field [159:128], and the payload bytes. -/
structure Flit where
  hdr     : BitVec 128
  crc     : W32
  payload : List Byte
  deriving DecidableEq, Repr

/-- The commands, one constructor per row of the table. -/
inductive Instr where
  /-- POWER_GOOD (R448). -/
  | powerGood
  /-- POWER_LOSS (R443). -/
  | powerLoss
  /-- PLL_LOCK (R449). -/
  | pllLock
  /-- PLL_LOCK_TIMEOUT (R449). -/
  | pllLockTimeout
  /-- DROOP_CALIBRATION_DONE (R449). -/
  | droopCalibrationDone (cal : W64)
  /-- CALIBRATION_TIMEOUT (R449). -/
  | calibrationTimeout
  /-- CROSSING_ALIGN (R318). -/
  | crossingAlign (j : FifoId)
  /-- CROSSING_ALIGN_TIMEOUT (R449). -/
  | crossingAlignTimeout (lane : LaneId)
  /-- TB_LOAD_TIMEOUT (R449). -/
  | tbLoadTimeout
  /-- STAGE_COMPLETE (R448). -/
  | stageComplete (find : Findings)
  /-- ALIGNMENT_PULSE (R442). -/
  | alignmentPulse (v : W64)
  /-- ALIGNMENT_PULSE_MISSING (R442). -/
  | alignmentPulseMissing
  /-- DROOP_REQUEST (R438). -/
  | droopRequest (level : DroopLevel)
  /-- STRETCH_DECAY (R438). -/
  | stretchDecay
  /-- STRETCH_TIMEOUT (R415). -/
  | stretchTimeout
  /-- CLOCK_MONITOR_WINDOW (R415). -/
  | clockMonitorWindow (count : Nat)
  /-- PLL_LOSS_OF_LOCK (R415). -/
  | pllLossOfLock
  /-- RAIL_FAULT (R443). -/
  | railFault
  /-- THERMAL_TRIP (R445). -/
  | thermalTrip
  /-- COLLECTOR_PARITY_ERROR (R415). -/
  | collectorParityError
  /-- THROTTLE_REQUEST (R445). -/
  | throttleRequest (req : Fin 16)
  /-- THROTTLE_PERIOD (R42). -/
  | throttlePeriod
  /-- TELEMETRY_UPDATE (R447). -/
  | telemetryUpdate (t : Telemetry)
  /-- ALIVE_TOGGLE (R426). -/
  | aliveToggle
  /-- HOLD_BEGIN (R41). -/
  | holdBegin
  /-- HOLD_END (R41). -/
  | holdEnd
  /-- HOLD_TIMEOUT (R47). -/
  | holdTimeout
  /-- CROSSING_RECENTRE (R320). -/
  | crossingRecentre (j : FifoId) (fill : Fin 17)
  /-- OP_END (R32). -/
  | opEnd (q : QueueId)
  /-- MMA (R225). -/
  | mma (a : ArrayId)
  /-- MMAS (R226). -/
  | mmas (a : ArrayId)
  /-- MMAG (R227). -/
  | mmag (a : ArrayId)
  /-- MMAC (R228). -/
  | mmac (a : ArrayId)
  /-- MDRAIN (R229). -/
  | mdrain (a : ArrayId)
  /-- MPRE (R230). -/
  | mpre (a : ArrayId)
  /-- MNUL (R231). -/
  | mnul (a : ArrayId)
  /-- DRAIN (R98). -/
  | drain (a : ArrayId)
  /-- TCFG (R200). -/
  | tcfg (n : CoreId)
  /-- TLD (R205). -/
  | tld (n : CoreId)
  /-- TST (R207). -/
  | tst (n : CoreId)
  /-- TMOV (R209). -/
  | tmov (n : CoreId)
  /-- TREL (R203). -/
  | trel (n : CoreId)
  /-- TZERO (R203). -/
  | tzero (n : CoreId)
  /-- VRUN (R182). -/
  | vrun (n : CoreId)
  /-- VBCAST (R186). -/
  | vbcast (n : CoreId)
  /-- VRED (R187). -/
  | vred (n : CoreId)
  /-- VTOPK (R188). -/
  | vtopk (n : CoreId)
  /-- VGATH (R191). -/
  | vgath (n : CoreId)
  /-- VSCAT (R191). -/
  | vscat (n : CoreId)
  /-- VCVT (R192). -/
  | vcvt (n : CoreId)
  /-- VSTAT (R193). -/
  | vstat (n : CoreId)
  /-- DMGET (R244). -/
  | dmget (c : ChanId)
  /-- DMPUT (R244). -/
  | dmput (c : ChanId)
  /-- DMARR (R246). -/
  | dmarr (c : ChanId)
  /-- LAUNCH (R248). -/
  | launch
  /-- SEGBR (R140). -/
  | segbr
  /-- PPMARK (R250). -/
  | ppmark
  /-- SAVE_COMPLETE (R383). -/
  | saveComplete
  /-- SCREED (R366). -/
  | screed
  /-- DISPATCH (R380). -/
  | dispatch
  /-- ISSUE (R261). -/
  | issue (n : CoreId)
  /-- WALKER_QFULL_RESUME (R258). -/
  | walkerQfullResume (n : CoreId)
  /-- LOOP (R261). -/
  | loop (n : CoreId)
  /-- ENDL (R261). -/
  | endl (n : CoreId)
  /-- WAITK (R264). -/
  | waitk (n : CoreId)
  /-- WAITK_RELEASE (R264). -/
  | waitkRelease (n : CoreId)
  /-- SEL (R274). -/
  | sel (n : CoreId)
  /-- SEL_RESUME (R274). -/
  | selResume (n : CoreId)
  /-- JMP (R261). -/
  | jmp (n : CoreId)
  /-- SYNC (R266). -/
  | syncRec (n : CoreId)
  /-- END (R276). -/
  | endWalk (n : CoreId)
  /-- ADD (R268). -/
  | add (n : CoreId)
  /-- SUB (R268). -/
  | sub (n : CoreId)
  /-- AND (R268). -/
  | andR (n : CoreId)
  /-- OR (R268). -/
  | orR (n : CoreId)
  /-- XOR (R268). -/
  | xorR (n : CoreId)
  /-- SHL (R268). -/
  | shl (n : CoreId)
  /-- SHR (R268). -/
  | shr (n : CoreId)
  /-- SHRA (R268). -/
  | shra (n : CoreId)
  /-- MUL (R268). -/
  | mul (n : CoreId)
  /-- MULHU (R268). -/
  | mulhu (n : CoreId)
  /-- MULHS (R268). -/
  | mulhs (n : CoreId)
  /-- MIN (R268). -/
  | minS (n : CoreId)
  /-- MAX (R268). -/
  | maxS (n : CoreId)
  /-- MINU (R268). -/
  | minU (n : CoreId)
  /-- MAXU (R268). -/
  | maxU (n : CoreId)
  /-- ADDI (R268). -/
  | addi (n : CoreId)
  /-- ANDI (R268). -/
  | andi (n : CoreId)
  /-- ORI (R268). -/
  | ori (n : CoreId)
  /-- XORI (R268). -/
  | xori (n : CoreId)
  /-- SHLI (R268). -/
  | shli (n : CoreId)
  /-- SHRI (R268). -/
  | shri (n : CoreId)
  /-- SHRAI (R268). -/
  | shrai (n : CoreId)
  /-- MOVK (R268). -/
  | movk (n : CoreId)
  /-- CMP (R268). -/
  | cmp (n : CoreId)
  /-- CMPI (R268). -/
  | cmpi (n : CoreId)
  /-- PLOG (R268). -/
  | plog (n : CoreId)
  /-- BR (R268). -/
  | br (n : CoreId)
  /-- JAL (R268). -/
  | jal (n : CoreId)
  /-- JR (R268). -/
  | jr (n : CoreId)
  /-- LD64 (R268). -/
  | ld64 (n : CoreId)
  /-- LD32U (R268). -/
  | ld32u (n : CoreId)
  /-- ST64 (R268). -/
  | st64 (n : CoreId)
  /-- ST32 (R268). -/
  | st32 (n : CoreId)
  /-- HLD (R288). -/
  | hld (n : CoreId)
  /-- HST (R288). -/
  | hst (n : CoreId)
  /-- RRD (R269). -/
  | rrd (n : CoreId)
  /-- RWR (R269). -/
  | rwr (n : CoreId)
  /-- WSTEP (R267). -/
  | wstep (n : CoreId)
  /-- WSTAT (R268). -/
  | wstat (n : CoreId)
  /-- WDRAIN (R268). -/
  | wdrain (n : CoreId)
  /-- SYWAIT_FULL (R356). -/
  | sywaitFull (n : CoreId)
  /-- SYWAIT_TAKE (R356). -/
  | sywaitTake (n : CoreId)
  /-- SYWAIT_GE (R356). -/
  | sywaitGe (n : CoreId)
  /-- SYWAIT_EMPTY (R356). -/
  | sywaitEmpty (n : CoreId)
  /-- SYWAIT_POLL (R359). -/
  | sywaitPoll (n : CoreId)
  /-- SYSIG_SET (R355). -/
  | sysigSet (n : CoreId)
  /-- SYSIG_ADD (R355). -/
  | sysigAdd (n : CoreId)
  /-- SYSIG_OR (R355). -/
  | sysigOr (n : CoreId)
  /-- SYSIG_CLEAR (R355). -/
  | sysigClear (n : CoreId)
  /-- SYSIG_FENCE (R364). -/
  | sysigFence (n : CoreId)
  /-- SPSEND_WAIT (R329). -/
  | spsendWait (n : CoreId)
  /-- SPSEND_POSTED (R329). -/
  | spsendPosted (n : CoreId)
  /-- SPSEND_FENCE (R329). -/
  | spsendFence (n : CoreId)
  /-- SPRECV_POLL (R343). -/
  | sprecvPoll (n : CoreId)
  /-- SPRECV_WAIT (R343). -/
  | sprecvWait (n : CoreId)
  /-- SPRECV_DISCARD (R343). -/
  | sprecvDiscard (n : CoreId)
  /-- SPRECV_OCC (R343). -/
  | sprecvOcc (n : CoreId)
  /-- RECV_TIMEOUT (R343). -/
  | recvTimeout (n : CoreId)
  /-- TBRD (R268). -/
  | tbrd (n : CoreId)
  /-- LCCRD (R268). -/
  | lccrd (n : CoreId)
  /-- TBWAIT (R268). -/
  | tbwait (n : CoreId)
  /-- TBWAIT_RELEASE (R268). -/
  | tbwaitRelease (n : CoreId)
  /-- LCCWAIT (R268). -/
  | lccwait (n : CoreId)
  /-- LCCWAIT_RELEASE (R268). -/
  | lccwaitRelease (n : CoreId)
  /-- SETCTX (R271). -/
  | setctx (n : CoreId)
  /-- HALT (R276). -/
  | halt (n : CoreId)
  /-- NOP (R268). -/
  | nop (n : CoreId)
  /-- SCRUB_REQUEST (R295). -/
  | scrubRequest
  /-- SCRUB (R295). -/
  | scrub (bank : BankId)
  /-- REPAIR_WRITE (R292). -/
  | repairWrite (bank : BankId)
  /-- BOUNDARY_ACCESS (R284). -/
  | boundaryAccess (bank : BankId)
  /-- DMV_BLOCK_SEND (R307). -/
  | dmvBlockSend (c : ChanId)
  /-- DM_TIMEOUT (R308). -/
  | dmTimeout (c : ChanId) (slot : Fin 16)
  /-- LINK (R312). -/
  | linkFlit (lane : LaneId) (f : Flit)
  /-- RD (R312). -/
  | rdReq (lane : LaneId) (f : Flit)
  /-- WR (R312). -/
  | wrReq (lane : LaneId) (f : Flit)
  /-- RDDATA (R317). -/
  | rdData (lane : LaneId) (f : Flit)
  /-- WRACK (R312). -/
  | wrAck (lane : LaneId) (f : Flit)
  /-- ERR (R312). -/
  | errReply (lane : LaneId) (f : Flit)
  /-- SPORE (R333). -/
  | sporeFlit (lane : LaneId) (f : Flit)
  /-- SPREPLY (R332). -/
  | spReply (lane : LaneId) (f : Flit)
  /-- SYNC_FLIT (R363). -/
  | syncFlit (lane : LaneId) (f : Flit)
  /-- SORUS (R333). -/
  | sorusFlit (lane : LaneId) (f : Flit)
  /-- RESEND_TIMEOUT (R315). -/
  | resendTimeout (lane : LaneId)
  /-- SPORE_PLACEMENT (R340). -/
  | sporePlacement (ring : RingId)
  /-- SORUS_ADD (R345). -/
  | sorusAdd (e : SorusId)
  /-- SORUS_RESULT_PLACE (R347). -/
  | sorusResultPlace (e : SorusId)
  /-- SORUS_RESULT_TIMEOUT (R347). -/
  | sorusResultTimeout (e : SorusId)
  /-- RING_TIMEOUT (R336). -/
  | ringTimeout (h : Fin 64)
  /-- REPLY_TIMEOUT (R332). -/
  | replyTimeout (n : CoreId) (slot : Fin 8)
  /-- SYNC_APPLY (R363). -/
  | syncApply
  /-- WAIT_TIMEOUT (R358). -/
  | waitTimeout (n : CoreId)
  /-- SIGNAL_SEND (R361). -/
  | signalSend (n : CoreId) (slot : Fin 8)
  /-- SIGNAL_RESEND (R364). -/
  | signalResend (n : CoreId) (slot : Fin 8)
  /-- SIGNAL_TIMEOUT (R364). -/
  | signalTimeout (n : CoreId) (slot : Fin 8)
  /-- QUIET_EXPIRY (R423). -/
  | quietExpiry
  /-- FRAME_FORWARD (R457). -/
  | frameForward (bytes : List Byte)
  /-- READ (R458). -/
  | readFrame (bytes : List Byte) (g : Grants)
  /-- WRITE (R458). -/
  | writeFrame (bytes : List Byte) (g : Grants)
  /-- EVACK (R468). -/
  | evack (bytes : List Byte)
  /-- EVENT_SEND (R468). -/
  | eventSend
  /-- EVENT_RESEND (R468). -/
  | eventResend
  /-- DICT_WRITE (R466). -/
  | dictWrite (index : W16) (sub : Byte) (value : List Byte) (g : Grants)
  /-- OPEN (R396). -/
  | openIntake
  /-- COMMIT (R401). -/
  | commit
  /-- ABANDON (R395). -/
  | abandon
  /-- ACCEPTANCE_VERDICT (R401). -/
  | acceptanceVerdict (accept : Bool)
  /-- ACCEPT_TIMEOUT (R401). -/
  | acceptTimeout
  /-- ADMISSION (R406). -/
  | admission
  /-- RETIRE (R407). -/
  | retire (slot : Fin 8)
  /-- RETIREMENT (R407). -/
  | retirement (slot : Fin 8)
  /-- DISPATCH_SUBMIT (R377). -/
  | dispatchSubmit
  /-- DISPATCH_CANCEL (R394). -/
  | dispatchCancel (lid : W16)
  /-- STOP_REQUEST (R382). -/
  | stopRequest
  /-- TEARDOWN_REQUEST (R386). -/
  | teardownRequest (ctx : CtxId)
  /-- REARM (R387). -/
  | rearm (ctx : CtxId)
  /-- SNAPSHOT (R392). -/
  | snapshot (ctx : CtxId)
  /-- RING_RESET (R348). -/
  | ringReset (v : W16)
  /-- SORUS_RESET (R348). -/
  | sorusReset (v : W16)
  /-- PARK_ABORT (R309). -/
  | parkAbort (c : ChanId)
  /-- WINDOW_COMMIT (R310). -/
  | windowCommit (w : Fin 64) (v : W64)
  /-- BUDGET_WRITE (R61). -/
  | budgetWrite (v : W16)
  /-- THROTTLE_FLOOR_WRITE (R445). -/
  | throttleFloorWrite (v : Byte)
  /-- SCRUB_INTERVAL_WRITE (R295). -/
  | scrubIntervalWrite (v : W32)
  /-- FENCE_THRESHOLD_WRITE (R427). -/
  | fenceThresholdWrite (which : FenceKind) (v : Nat)
  /-- BANK_FENCE_MASK_WRITE (R302). -/
  | bankFenceMaskWrite (k : Fin 4) (v : W64) (g : Grants)
  /-- CORE_FENCE_MASK_WRITE (R430). -/
  | coreFenceMaskWrite (v : Byte) (g : Grants)
  /-- BAD_COLUMN_MAP_WRITE (R113). -/
  | badColumnMapWrite (a : ArrayId) (v : W64) (g : Grants)
  /-- ACKNOWLEDGE (R419). -/
  | acknowledge (v : Byte)
  /-- CLEAR_FIRST (R418). -/
  | clearFirst
  /-- FORCE_FAULT (R432). -/
  | forceFault (src : SrcId) (g : Grants)
  /-- FORCE_DISARM (R432). -/
  | forceDisarm (src : SrcId) (g : Grants)
  /-- HALT_REQUEST (R475). -/
  | haltRequest (g : Grants)
  /-- HALT_RELEASE (R475). -/
  | haltRelease (g : Grants)
  /-- STEP (R475). -/
  | stepHalted (count : W32) (g : Grants)
  /-- DEBUG_GRANT_WITHDRAW (R475). -/
  | debugGrantWithdraw
  /-- DBGDATA_READ (R474). -/
  | dbgdataRead (count : W16) (g : Grants)
  /-- DBGDATA_WRITE (R474). -/
  | dbgdataWrite (data : List Byte) (g : Grants)
  /-- READ_AHEAD_OF_START (R93). -/
  | readAheadOfStart (a : ArrayId)
  /-- FINTB_RECORD (R376). -/
  | fintbRecord (ctx : CtxId)
  deriving DecidableEq, Repr

end Sys2Proof
end

