-- ==== Sys2Proof/Decode.lean ====
section
/-! DEFINITION. Words of the table of operations. The table gives bits to no row: the commands are events and
register operations, and none is spelled by a word. -/

namespace Sys2Proof

/-- The command that a word of the table spells: none, since no row of the table has bits. -/
def decodeTableWord (_nbits _w : Nat) : Option Instr := none

end Sys2Proof
end

