-- ==== Sys2Proof/Machine/Bits.lean ====
section
/-! DEFINITION. Bit fields, little-endian bytes, clamps and the CRC-32C of R314. -/

namespace Sys2Proof.Machine

/-- Field [hi:lo] of a word, as a number (bit ranges are written as in R11). -/
def fld {w : Nat} (x : BitVec w) (hi lo : Nat) : Nat := (x.toNat >>> lo) % 2 ^ (hi + 1 - lo)

/-- Bit [n] of a word. -/
def bitAt {w : Nat} (x : BitVec w) (n : Nat) : Bool := x.getLsbD n

/-- Word with field [hi:lo] replaced by v (truncated to the field). -/
def setFld {w : Nat} (x : BitVec w) (hi lo : Nat) (v : Nat) : BitVec w :=
  let m := BitVec.ofNat w ((2 ^ (hi + 1 - lo) - 1) <<< lo)
  (x &&& ~~~m) ||| (BitVec.ofNat w ((v % 2 ^ (hi + 1 - lo)) <<< lo))

/-- A field placed at its lowest bit, for building a register word. -/
def place (v lo : Nat) : W64 := BitVec.ofNat 64 (v <<< lo)

/-- One bit placed at n. -/
def placeB (b : Bool) (n : Nat) : W64 := if b then place 1 n else 0

/-- Signed value of an n-bit field. -/
def sextN (n v : Nat) : Int := if v < 2 ^ (n - 1) then (v : Int) else (v : Int) - 2 ^ n

/-- Ceiling division. -/
def cdiv (a b : Nat) : Nat := (a + b - 1) / b

/-- Clamp to lo..hi. -/
def clampN (lo hi v : Nat) : Nat := if v < lo then lo else if hi < v then hi else v

/-- Saturate at m. -/
def satN (m v : Nat) : Nat := if m < v then m else v

/-- Little-endian number of a byte list (R66). -/
def leNat : List Byte → Nat
  | [] => 0
  | b :: bs => b.toNat + 256 * leNat bs

/-- n little-endian bytes of a number (R66). -/
def leBytes : Nat → Nat → List Byte
  | 0, _ => []
  | n + 1, v => BitVec.ofNat 8 v :: leBytes n (v / 256)

/-- Population count of the low n bits. -/
def popcount : Nat → Nat → Nat
  | 0, _ => 0
  | n + 1, v => v % 2 + popcount n (v / 2)

/-- Numbers of the set bits among the low n bits, ascending. -/
def bitsOf (n v : Nat) : List Nat := (List.range n).filter (fun i => v.testBit i)

/-- One bit of the reflected CRC-32C register (polynomial 0x1EDC_6F41, R314). -/
def crcBit (c : Nat) : Nat := if c % 2 = 1 then (c / 2) ^^^ 0x82F63B78 else c / 2

/-- k shifts of the CRC register. -/
def crcShift : Nat → Nat → Nat
  | 0, c => c
  | k + 1, c => crcShift k (crcBit c)

/-- CRC-32C of a byte list: initial value and final exclusive-or 0xFFFF_FFFF (R314). -/
def crc32c (bs : List Byte) : W32 :=
  BitVec.ofNat 32 ((bs.foldl (fun c b => crcShift 8 (c ^^^ b.toNat)) 0xFFFFFFFF) ^^^ 0xFFFFFFFF)

/-- Replace the element at an index (no change past the end). -/
def listSet {α : Type} (l : List α) (i : Nat) (x : α) : List α := l.set i x

/-- First index at which p holds. -/
def findIdxN {α : Type} (p : α → Bool) : List α → Option Nat
  | [] => none
  | x :: xs => if p x then some 0 else (findIdxN p xs).map (· + 1)

/-- Delete the element at an index. -/
def eraseAt {α : Type} : List α → Nat → List α
  | [], _ => []
  | _ :: xs, 0 => xs
  | x :: xs, n + 1 => x :: eraseAt xs n

/-- Insert into a sorted list, behind equal keys. -/
def insSorted {α : Type} (key : α → Nat) (x : α) : List α → List α
  | [] => [x]
  | y :: ys => if key x < key y then x :: y :: ys else y :: insSorted key x ys

/-- Stable insertion sort by a key. -/
def sortOn {α : Type} (key : α → Nat) (l : List α) : List α := l.foldl (fun acc x => insSorted key x acc) []

/-- Maximum of a list of numbers, 0 for the empty list. -/
def maxOf (l : List Nat) : Nat := l.foldl max 0

end Sys2Proof.Machine
end

