-- ==== Sys2Proof/Machine/Fp.lean ====
section
/-! DEFINITION. Number formats and arithmetic (R62 to R86): exact values, one rounding at the end. -/

namespace Sys2Proof.Machine

/-- A value as the arithmetic sees it: NaN, an infinity, or the exact value (-1)^neg * m * 2^e. -/
inductive FV where
  | nan
  | inf (neg : Bool)
  | fin (neg : Bool) (m : Nat) (e : Int)
  deriving DecidableEq, Repr

/-- Rounding of R76; stochastic rounding carries U of R77. -/
inductive Rnd where
  | rne
  | sr (u : Nat)
  | tz
  deriving DecidableEq, Repr

/-- Positive zero. -/
def FV.zero : FV := .fin false 0 0

/-- Exact value of an integer. -/
def FV.ofInt (i : Int) : FV := .fin (decide (i < 0)) i.natAbs 0

/-- Parameters of a float format (R63): mantissa bits, bias, exponent bits, whether it has infinities and NaNs
of the IEEE kind, and whether exponent and mantissa all ones is NaN (E4M3). -/
structure FloatFmt where
  mb   : Nat
  eb   : Nat
  bias : Nat
  ieee : Bool
  e4m3 : Bool
  deriving DecidableEq, Repr

def fmtF32  : FloatFmt := ⟨23, 8, 127, true, false⟩
def fmtBF16 : FloatFmt := ⟨7, 8, 127, true, false⟩
def fmtF16  : FloatFmt := ⟨10, 5, 15, true, false⟩
def fmtE4M3 : FloatFmt := ⟨3, 4, 7, false, true⟩
def fmtE5M2 : FloatFmt := ⟨2, 5, 15, true, false⟩
def fmtE3M2 : FloatFmt := ⟨2, 3, 3, false, false⟩
def fmtE2M1 : FloatFmt := ⟨1, 2, 1, false, false⟩

/-- Exponent of the smallest subnormal. -/
def FloatFmt.qmin (f : FloatFmt) : Int := 1 - (f.bias : Int) - (f.mb : Int)

/-- Decode a bit pattern; every pattern is a valid input, subnormals included (R63, R65). -/
def FloatFmt.dec (f : FloatFmt) (x : Nat) : FV :=
  let neg := (x >>> (f.mb + f.eb)) % 2 == 1
  let ex := (x >>> f.mb) % 2 ^ f.eb
  let m := x % 2 ^ f.mb
  if f.ieee && ex == 2 ^ f.eb - 1 then (if m == 0 then .inf neg else .nan)
  else if f.e4m3 && ex == 15 && m == 7 then .nan
  else if ex == 0 then .fin neg m f.qmin
  else .fin neg (m + 2 ^ f.mb) ((ex : Int) - 1 + f.qmin)

/-- Round a magnitude m * 2^e (plus a positive part below any bit when sticky) to p significant bits with no
unit below 2^qmin; the result is a multiple of the returned unit (R73, R76, R77). -/
def roundMag (p : Nat) (qmin : Int) (r : Rnd) (m : Nat) (e : Int) (sticky : Bool) : Nat × Int :=
  if m = 0 then (0, qmin) else
  let q := max qmin (e + (Nat.log2 m : Int) - ((p : Int) - 1))
  if q ≤ e then (m * 2 ^ (e - q).toNat, q) else
  let sh := (q - e).toNat
  let hi := m >>> sh
  let rem := m % 2 ^ sh
  let up := match r with
    | .rne => decide (2 ^ (sh - 1) < rem) || (decide (rem = 2 ^ (sh - 1)) && (sticky || hi % 2 == 1))
    | .tz => false
    | .sr u => decide (65536 ≤ rem * 65536 / 2 ^ sh + u)
  (if up then hi + 1 else hi, q)

/-- Code of a rounded magnitude without its sign; a carry out of the mantissa raises the exponent. -/
def FloatFmt.encMag (f : FloatFmt) (mq : Nat × Int) : Nat :=
  if mq.1 < 2 ^ f.mb then mq.1 else (mq.2 - f.qmin + 1).toNat * 2 ^ f.mb + (mq.1 - 2 ^ f.mb)

/-- Largest finite code without sign (R63). -/
def FloatFmt.maxCode (f : FloatFmt) : Nat :=
  if f.ieee then (2 ^ f.eb - 1) * 2 ^ f.mb - 1
  else if f.e4m3 then 0x7E else 2 ^ (f.eb + f.mb) - 1

/-- Sign bit of a format. -/
def FloatFmt.sgn (f : FloatFmt) (neg : Bool) : Nat := if neg then 2 ^ (f.mb + f.eb) else 0

/-- Canonical NaN the cluster writes (R63, R64); 0 for formats without NaN. -/
def FloatFmt.qnan (f : FloatFmt) : Nat :=
  if f.ieee then (2 ^ f.eb - 1) * 2 ^ f.mb + 2 ^ (f.mb - 1)
  else if f.e4m3 then 0x7F else 0

/-- Narrow a value into a format, with the overflow rules of R80 and R70. -/
def FloatFmt.enc (f : FloatFmt) (r : Rnd) (v : FV) (sticky : Bool := false) : Nat :=
  match v with
  | .nan => f.qnan
  | .inf neg =>
    if f.ieee then f.sgn neg + (2 ^ f.eb - 1) * 2 ^ f.mb
    else if f.e4m3 then f.qnan else f.sgn neg + f.maxCode
  | .fin neg m e =>
    let c := f.encMag (roundMag (f.mb + 1) f.qmin r m e sticky)
    if c ≤ f.maxCode then f.sgn neg + c
    else if f.ieee && f.eb != 5 || f.ieee && f.mb == 10 then
      (match r with
       | .tz => f.sgn neg + f.maxCode
       | _ => f.sgn neg + (2 ^ f.eb - 1) * 2 ^ f.mb)
    else f.sgn neg + f.maxCode

/-- Value of FP32 bits. -/
def f32 (x : W32) : FV := fmtF32.dec x.toNat
/-- Round an exact value once to FP32, to nearest, ties to even (R73). -/
def toF32 (v : FV) (sticky : Bool := false) : W32 := BitVec.ofNat 32 (fmtF32.enc .rne v sticky)

/-- Negation; NaN stays NaN. -/
def FV.neg : FV → FV
  | .nan => .nan
  | .inf n => .inf (!n)
  | .fin n m e => .fin (!n) m e

/-- Exact product (R73); infinity times zero is NaN. -/
def FV.mul : FV → FV → FV
  | .nan, _ => .nan
  | _, .nan => .nan
  | .inf a, .inf b => .inf (a != b)
  | .inf a, .fin b m _ => if m = 0 then .nan else .inf (a != b)
  | .fin a m _, .inf b => if m = 0 then .nan else .inf (a != b)
  | .fin a m e, .fin b n f => .fin (a != b) (m * n) (e + f)

/-- Exact sum of two values; an exact zero is -0 only when both are -0. -/
def FV.add : FV → FV → FV
  | .nan, _ => .nan
  | _, .nan => .nan
  | .inf a, .inf b => if a == b then .inf a else .nan
  | .inf a, .fin _ _ _ => .inf a
  | .fin _ _ _, .inf b => .inf b
  | .fin a m e, .fin b n f =>
    let q := min e f
    let x : Int := (if a then -1 else 1) * ((m * 2 ^ (e - q).toNat : Nat) : Int)
    let y : Int := (if b then -1 else 1) * ((n * 2 ^ (f - q).toNat : Nat) : Int)
    let z := x + y
    if z = 0 then .fin (a && b && decide (m = 0) && decide (n = 0)) 0 0
    else .fin (decide (z < 0)) z.natAbs q

/-- Exact sum of a list; the empty sum is +0. -/
def FV.sum : List FV → FV
  | [] => .zero
  | v :: vs => vs.foldl FV.add v

/-- Scale by a power of two, exactly. -/
def FV.scale (v : FV) (k : Int) : FV :=
  match v with
  | .fin n m e => .fin n m (e + k)
  | w => w

/-- Apply an E8M0 scale byte (R67): 0xFF reads as NaN. -/
def FV.mxScale (v : FV) (s : Nat) : FV := if s % 256 = 255 then .nan else v.scale ((s % 256 : Nat) - 127)

/-- Magnitude. -/
def FV.abs : FV → FV
  | .nan => .nan
  | .inf _ => .inf false
  | .fin _ m e => .fin false m e

/-- Is the value NaN? -/
def FV.isNan : FV → Bool
  | .nan => true
  | _ => false

/-- Is the value finite? -/
def FV.isFin : FV → Bool
  | .fin _ _ _ => true
  | _ => false

/-- Exact comparison of two values that are not NaN; -0 equals +0. -/
def FV.le (a b : FV) : Bool :=
  match a, b with
  | .nan, _ => false
  | _, .nan => false
  | .inf true, _ => true
  | _, .inf false => true
  | .inf false, _ => false
  | _, .inf true => false
  | x, y =>
    match FV.add y x.neg with
    | .fin n m _ => !n || decide (m = 0)
    | _ => false

/-- Strictly less. -/
def FV.lt (a b : FV) : Bool := a.le b && !(b.le a)

/-- FP32 addition, subtraction, multiplication and fused multiply-add, each rounded once (R179). -/
def fadd (a b : W32) : W32 := toF32 ((f32 a).add (f32 b))
def fsub (a b : W32) : W32 := toF32 ((f32 a).add (f32 b).neg)
def fmul (a b : W32) : W32 := toF32 ((f32 a).mul (f32 b))
def ffma (a b c : W32) : W32 := toF32 (((f32 a).mul (f32 b)).add (f32 c))

/-- Quotient with enough bits that one rounding gives the correctly rounded result. -/
def FV.div (a b : FV) : FV × Bool :=
  match a, b with
  | .nan, _ => (.nan, false)
  | _, .nan => (.nan, false)
  | .inf _, .inf _ => (.nan, false)
  | .inf x, .fin y _ _ => (.inf (x != y), false)
  | .fin x _ _, .inf y => (.fin (x != y) 0 0, false)
  | .fin x m e, .fin y n f =>
    if n = 0 then (if m = 0 then .nan else .inf (x != y), false)
    else
      let num := m * 2 ^ (64 + Nat.log2 n)
      let q := num / n
      (.fin (x != y) (2 * q + (if num % n = 0 then 0 else 1)) (e - f - 65 - (Nat.log2 n : Int)), num % n != 0)

/-- FP32 division, rounded to nearest, ties to even. -/
def fdiv (a b : W32) : W32 := toF32 ((f32 a).div (f32 b)).1 ((f32 a).div (f32 b)).2

/-- Comparisons on FP32 bits (R179 FCMP). -/
def fcmpEq (a b : W32) : Bool := (f32 a).le (f32 b) && (f32 b).le (f32 a)
def fcmpLt (a b : W32) : Bool := (f32 a).lt (f32 b)
def fcmpLe (a b : W32) : Bool := (f32 a).le (f32 b)
def fcmpUn (a b : W32) : Bool := (f32 a).isNan || (f32 b).isNan

/-- Canonical FP32 NaN. -/
def qnan32 : W32 := 0x7FC00000

/-- FMIN and FMAX: -0 < +0; NaN if either is NaN (R179). -/
def fminNum (a b : W32) : W32 :=
  if fcmpUn a b then qnan32
  else if fcmpEq a b then (if bitAt a 31 then a else b)
  else if fcmpLt a b then a else b
def fmaxNum (a b : W32) : W32 :=
  if fcmpUn a b then qnan32
  else if fcmpEq a b then (if bitAt a 31 then b else a)
  else if fcmpLt a b then b else a

/-- Round a value to an integer (R80), then saturate it into a signed range of n bits; NaN gives 0. -/
def toIntSat (n : Nat) (r : Rnd) (v : FV) : Int :=
  let hi : Int := 2 ^ (n - 1) - 1
  let lo : Int := -(2 ^ (n - 1))
  match v with
  | .nan => 0
  | .inf neg => if neg then lo else hi
  | .fin neg m e =>
    let mag : Nat :=
      if 0 ≤ e then m * 2 ^ e.toNat
      else
        let sh := (-e).toNat
        let h := m >>> sh
        let rem := m % 2 ^ sh
        let up := match r with
          | .rne => decide (2 ^ (sh - 1) < rem) || (decide (rem = 2 ^ (sh - 1)) && h % 2 == 1)
          | .tz => false
          | .sr u => decide (65536 ≤ rem * 65536 / 2 ^ sh + u)
        if up then h + 1 else h
    let i : Int := if neg then -(mag : Int) else mag
    if i < lo then lo else if hi < i then hi else i

/-- INT32 to FP32 with a rounding (R80). -/
def i32ToF32 (r : Rnd) (x : W32) : W32 := BitVec.ofNat 32 (fmtF32.enc r (FV.ofInt x.toInt))

/-- U32 to FP32, to nearest (R168 f(n)). -/
def u32ToF32 (n : Nat) : W32 := toF32 (.fin false n 0)

/-- Width in bits of a format code (R62, R66). -/
def fmtBits (c : Nat) : Nat :=
  match c with
  | 0 => 32 | 1 => 16 | 2 => 16 | 3 => 8 | 4 => 8 | 5 => 6 | 6 => 4 | 7 => 8 | 8 => 4 | 9 => 32 | _ => 0

/-- Float format of a code, if it is a float format. -/
def fmtFloat (c : Nat) : Option FloatFmt :=
  match c with
  | 0 => some fmtF32 | 1 => some fmtBF16 | 2 => some fmtF16 | 3 => some fmtE4M3 | 4 => some fmtE5M2
  | 5 => some fmtE3M2 | 6 => some fmtE2M1 | _ => none

/-- Is the code an integer format? -/
def fmtIsInt (c : Nat) : Bool := c == 7 || c == 8 || c == 9
/-- Is the code an MX format? -/
def fmtIsMx (c : Nat) : Bool := c == 5 || c == 6

/-- Exact value of an element of a format, before any block scale. -/
def elemFV (c x : Nat) : FV :=
  match fmtFloat c with
  | some f => f.dec x
  | none => FV.ofInt (sextN (fmtBits c) (x % 2 ^ fmtBits c))

/-- Signed integer of an element of an integer format. -/
def elemInt (c x : Nat) : Int := sextN (fmtBits c) (x % 2 ^ fmtBits c)

/-- Narrow an FP32 or exact value into a (non-MX) format (R80). -/
def narrow (c : Nat) (r : Rnd) (v : FV) : Nat :=
  match fmtFloat c with
  | some f => f.enc r v
  | none => ((toIntSat (fmtBits c) r v) % (2 ^ fmtBits c : Int)).toNat

/-- Saturate an INT32 into a narrower integer format (R80). -/
def narrowInt (c : Nat) (x : W32) : Nat := ((toIntSat (fmtBits c) .tz (FV.ofInt x.toInt)) % (2 ^ fmtBits c : Int)).toNat

/-- Scale byte of an MX block of values (R69); emax is 2 for E2M1 and 4 for E3M2. -/
def mxScaleOf (emax : Int) (vs : List FV) : Nat :=
  if vs.any (fun v => !v.isFin) then 0xFF
  else
    let logs := vs.filterMap (fun v => match v with
      | .fin _ m e => if m = 0 then none else some (e + (Nat.log2 m : Int))
      | _ => none)
    match logs with
    | [] => 0
    | l :: ls => (max (ls.foldl max l - emax) (-127) + 127).toNat

/-- Elements of an MX block for its scale (R69, R70): NaN blocks write 0, finite overflow saturates. -/
def mxElem (f : FloatFmt) (r : Rnd) (s : Nat) (v : FV) : Nat :=
  if s = 0xFF then 0 else
  match v with
  | .fin n m e =>
    if m = 0 then f.sgn n else f.enc r (.fin n m (e - ((s : Int) - 127)))
  | _ => 0

/-- Is a value zero? -/
def FV.isZero : FV → Bool
  | .fin _ m _ => decide (m = 0)
  | _ => false

/-- An MX block of a format: its scale byte and elements; a block whose largest magnitude is 0 holds +0 (R69). -/
def mxBlock (f : Nat) (rnd : Nat → Rnd) (vs : List FV) : Nat × List Nat :=
  let g := if f = 5 then fmtE3M2 else fmtE2M1
  let s := mxScaleOf (if f = 5 then 4 else 2) vs
  (s, vs.zipIdx.map (fun v => if vs.all FV.isZero then 0 else mxElem g (rnd v.2) s v.1))

/-- The counter-based generator of R78. -/
def srGen (seed linseq stamp : W32) (lane step site : Nat) : W32 :=
  let x0 := seed ^^^ (linseq * 0x9E3779B9) ^^^ (stamp * 0x85EBCA6B)
    ^^^ (BitVec.ofNat 32 lane * 0xC2B2AE35) ^^^ (BitVec.ofNat 32 (step * 32 + site) * 0x27D4EB2F)
  let x1 := (x0 ^^^ (x0 >>> 16)) * 0x7FEB352D
  let x2 := (x1 ^^^ (x1 >>> 15)) * 0x846CA68B
  x2 ^^^ (x2 >>> 16)

/-- The rounding a 2-bit field selects (R76), with U drawn from R78. -/
def rndOf (code : Nat) (g : W32) : Rnd :=
  match code with
  | 1 => .sr (g.toNat >>> 16)
  | 2 => .tz
  | _ => .rne

/-- acc = round(acc + exact sum of the products) (R73); sub subtracts the products (R82). -/
def accStep (acc : W32) (ps : List FV) (sub : Bool := false) : W32 :=
  let s := FV.sum ps
  toF32 ((f32 acc).add (if sub then s.neg else s))

/-- Integer accumulate modulo 2^32 (R74). -/
def accStepInt (acc : W32) (s : Int) : W32 := acc + BitVec.ofInt 32 s

/-- Unpack n elements of w bits from packed little-endian bytes (R66). -/
def unpack (w n : Nat) (bs : List Byte) : List Nat :=
  let v := leNat bs
  (List.range n).map (fun i => (v >>> (w * i)) % 2 ^ w)

/-- Pack elements of w bits into bytes (R66). -/
def packElems (w : Nat) (xs : List Nat) : List Byte :=
  let v := (xs.zipIdx.map (fun p => (p.1 % 2 ^ w) <<< (w * p.2))).foldl (· + ·) 0
  leBytes (cdiv (w * xs.length) 8) v

/-- Pairwise tree sum: pairs (2i, 2i+1), level by level, k levels (R167, R187). -/
def treeSum : Nat → List W32 → W32
  | 0, xs => xs.headD 0
  | k + 1, xs => treeSum k (pairs xs)
where
  pairs : List W32 → List W32
    | a :: b :: rest => fadd a b :: pairs rest
    | [a] => [a]
    | [] => []

end Sys2Proof.Machine
end

