-- ==== Sys2Proof/Machine/Sfu.lean ====
section
/-! DEFINITION. The special-function unit (R157, R168, R184): each function evaluated in fixed point with 1,024
fraction bits, far beyond what separates an FP32 argument's result from a rounding boundary, and rounded once. Log
entries of its readings and choices: 69 DEDUCED. -/

namespace Sys2Proof.Machine

/-- Fraction bits of the fixed-point evaluation. -/
def fxF : Nat := 1024
/-- One, in fixed point. -/
def fxOne : Int := 2 ^ fxF
/-- Product in fixed point. -/
def fxMul (a b : Int) : Int := a * b / fxOne
/-- Quotient in fixed point. -/
def fxDiv (a b : Int) : Int := if b = 0 then 0 else a * fxOne / b

/-- The fixed-point value of a finite FV. -/
def fxOf (v : FV) : Int :=
  match v with
  | .fin n m e =>
    let x : Int := if 0 ≤ e + (fxF : Int) then ((m * 2 ^ (e + (fxF : Int)).toNat : Nat) : Int)
      else ((m / 2 ^ (-(e + (fxF : Int))).toNat : Nat) : Int)
    if n then -x else x
  | _ => 0

/-- The value of a fixed-point number times 2^k. -/
def fxVal (x : Int) (k : Int) : FV := .fin (decide (x < 0)) x.natAbs (k - (fxF : Int))

/-- Integer square root, bit by bit from a high bit downward. -/
def isqrt : Nat → Nat → Nat → Nat
  | 0, _, r => r
  | b + 1, n, r => isqrt b n (if (r + 2 ^ b) * (r + 2 ^ b) ≤ n then r + 2 ^ b else r)

/-- Square root in fixed point of a value below 2^16. -/
def fxSqrt (x : Int) : Int := (isqrt (fxF + 10) (x.toNat * 2 ^ fxF) 0 : Nat)

/-- Sum of z^(2i+1) / (2i+1), i below n: the inverse hyperbolic tangent; with `alt` the terms alternate (arctangent). -/
def atanhSer (alt : Bool) (z2 : Int) : Nat → Nat → Int → Int
  | 0, _, _ => 0
  | n + 1, i, p =>
    let t := p / ((2 * i + 1 : Nat) : Int)
    (if alt && i % 2 = 1 then -t else t) + atanhSer alt z2 n (i + 1) (fxMul p z2)

/-- ln 2. -/
def fxLn2 : Int := 2 * atanhSer false (fxDiv fxOne (9 * fxOne)) 340 0 (fxOne / 3)
/-- Arctangent of 1/k. -/
def fxAtanInv (k : Int) : Int := atanhSer true (fxOne / (k * k)) 240 0 (fxOne / k)
/-- Pi (Machin). -/
def fxPi : Int := 16 * fxAtanInv 5 - 4 * fxAtanInv 239

/-- Taylor sum of e^r from term n downward. -/
def expSer (r : Int) : Nat → Int → Int
  | 0, acc => acc
  | n + 1, acc => expSer r n (fxOne + fxMul r acc / ((n + 1 : Nat) : Int))

/-- e^(x + k ln 2), from fixed point. -/
def expCore (x : Int) (k0 : Int) : FV :=
  let k := (x + fxLn2 / 2) / fxLn2
  fxVal (expSer (x - k * fxLn2) 160 fxOne) (k + k0)

/-- Clamp an argument of the exponential: beyond 512 the result is below or above every FP32 number. -/
def expArg (v : FV) : FV :=
  if (FV.ofInt 512).le v then FV.ofInt 512 else if v.le (FV.ofInt (-512)) then FV.ofInt (-512) else v

/-- e^v of a finite value. -/
def expV (v : FV) : FV := expCore (fxOf (expArg v)) 0

/-- 2^v of a finite value; exact for integers. -/
def exp2V (v : FV) : FV :=
  let x := fxOf (expArg v)
  let k := x / fxOne
  if x = k * fxOne then .fin false 1 k else expCore (fxMul (x - k * fxOne) fxLn2) k

/-- ln of a positive finite value m * 2^e. -/
def lnV (m : Nat) (e : Int) : FV :=
  let l := Nat.log2 m
  let f : Int := if l ≤ fxF then ((m * 2 ^ (fxF - l) : Nat) : Int) else ((m / 2 ^ (l - fxF) : Nat) : Int)
  let big := decide (fxOne + fxOne / 2 < f)
  let f := if big then f / 2 else f
  let k : Int := e + l + (if big then 1 else 0)
  let z := fxDiv (f - fxOne) (f + fxOne)
  fxVal (2 * atanhSer false (fxMul z z) 340 0 z + k * fxLn2) 0

/-- log2 of a positive finite value; exact for powers of two. -/
def log2V (m : Nat) (e : Int) : FV :=
  let l := Nat.log2 m
  if m = 2 ^ l then FV.ofInt (e + l) else fxVal (fxDiv (fxOf (lnV m e)) fxLn2) 0

/-- Quotient to 1,100 bits. -/
def divV (a b : FV) : FV :=
  match a, b with
  | .fin x m e, .fin y n f =>
    if n = 0 then .nan else .fin (x != y) (m * 2 ^ (1100 + Nat.log2 n) / n) (e - f - 1100 - (Nat.log2 n : Int))
  | _, _ => .nan

/-- Series of erf: sum of (-1)^i x^(2i+1) / (i! (2i+1)). -/
def erfSer (x2 : Int) : Nat → Nat → Int → Int
  | 0, _, _ => 0
  | n + 1, i, p => p / ((2 * i + 1 : Nat) : Int) + erfSer x2 n (i + 1) (-(fxMul p x2) / ((i + 1 : Nat) : Int))

/-- erf of a fixed-point argument, saturated where it differs from 1 by less than any FP32 result shows. -/
def fxErf (x : Int) : Int :=
  if 12 * fxOne ≤ x then fxOne
  else if x ≤ -12 * fxOne then -fxOne
  else fxDiv (2 * erfSer (fxMul x x) 700 0 x) (fxSqrt fxPi)

/-- 1 + a value. -/
def onePlus (v : FV) : FV := (FV.ofInt 1).add v
/-- Logistic function of a finite value. -/
def sigmoidV (v : FV) : FV := divV (FV.ofInt 1) (onePlus (expV v.neg))
/-- Hyperbolic tangent of a finite value: 2 / (1 + e^-2v) - 1, or the value itself where that is closest. -/
def tanhV (v : FV) : FV :=
  let d := divV (FV.ofInt 2) (onePlus (expV (v.scale 1).neg))
  d.add (FV.ofInt (-1))

/-- The sign of a value. -/
def FV.negSign : FV → Bool
  | .nan => false
  | .inf n => n
  | .fin n _ _ => n

/-- The functions at a finite argument that is not zero (R184). -/
def sfuFin (f : Nat) (n : Bool) (m : Nat) (e : Int) : FV :=
  let v := FV.fin n m e
  match f with
  | 0x1 => (v.scale (-1)).mul (fxVal (fxOne + fxErf (fxDiv (fxOf v) (fxSqrt (2 * fxOne)))) 0)
  | 0x2 =>
    let u := v.add (divV (((v.mul v).mul v).mul (FV.ofInt 44715)) (FV.ofInt 1000000))
    let a := u.mul (fxVal (fxSqrt (fxDiv (2 * fxOne) fxPi)) 0)
    (v.scale (-1)).mul (onePlus (tanhV a))
  | 0x3 => v.mul (sigmoidV v)
  | 0x4 => sigmoidV v
  | 0x5 => tanhV v
  | 0x6 => if (FV.ofInt 512).le v then v else (match onePlus (expV v) with
      | .fin _ p q => lnV p q
      | w => w)
  | 0x8 => expV v
  | 0x9 => exp2V v
  | 0xA => if n then .nan else lnV m e
  | 0xB => if n then .nan else log2V m e
  | 0xC => divV (FV.ofInt 1) v
  | 0xD => if n then .nan else
      (let e2 := e - e % 2
       divV (FV.ofInt 1) (.fin false (isqrt 1200 (m * 2 ^ (e % 2).toNat * 2 ^ 2000) 0) (e2 / 2 - 1000)))
  | 0xE => if n then .nan else
      (let e2 := e - e % 2
       .fin false (isqrt 1200 (m * 2 ^ (e % 2).toNat * 2 ^ 2000) 0) (e2 / 2 - 1000))
  | 0xF => fxVal (fxErf (fxOf v)) 0
  | _ => .nan

/-- The functions at a zero (R184). -/
def sfuZero (f : Nat) (n : Bool) : FV :=
  match f with
  | 0x4 => .fin false 1 (-1)
  | 0x6 => fxVal fxLn2 0
  | 0x8 => FV.ofInt 1
  | 0x9 => FV.ofInt 1
  | 0xA => .inf true
  | 0xB => .inf true
  | 0xC => .inf n
  | 0xD => .inf n
  | _ => .fin n 0 0

/-- The functions at an infinity (R184). -/
def sfuInf (f : Nat) (n : Bool) : FV :=
  match f with
  | 0x1 => if n then .zero else .inf false
  | 0x2 => if n then .zero else .inf false
  | 0x3 => if n then .fin true 0 0 else .inf false
  | 0x4 => if n then .zero else FV.ofInt 1
  | 0x5 => FV.ofInt (if n then -1 else 1)
  | 0x6 => if n then .zero else .inf false
  | 0x8 => if n then .zero else .inf false
  | 0x9 => if n then .zero else .inf false
  | 0xC => .fin n 0 0
  | 0xF => FV.ofInt (if n then -1 else 1)
  | _ => if n then .nan else (if f = 0xD then .zero else .inf false)

/-- Round a result; one that has lost its magnitude keeps the argument's sign where the function is odd or has the sign
of its argument, and is positive elsewhere. -/
def sfuRound (f : Nat) (n : Bool) (v : FV) : W32 :=
  match v with
  | .fin _ 0 _ => toF32 (.fin (n && (f == 1 || f == 2 || f == 3 || f == 5 || f == 0xF)) 0 0)
  | w => toF32 w

/-- The special-function unit (R184). -/
def sfu (f : Nat) (x : W32) : W32 :=
  match f32 x with
  | .nan => qnan32
  | .inf n => toF32 (sfuInf f n)
  | .fin n 0 _ => toF32 (sfuZero f n)
  | .fin n m e => sfuRound f n (sfuFin f n m e)

/-- Activation functions of the chains (R157): ReLU, squared ReLU, and the unit's functions. -/
def actFn (f : Nat) (x : W32) : W32 :=
  match f32 x with
  | .nan => qnan32
  | v =>
    if f = 0 then (if v.negSign || v.isZero then 0 else x)
    else if f = 7 then (if v.negSign || v.isZero then 0 else fmul x x)
    else sfu f x

end Sys2Proof.Machine
end

