-- ==== Sys2Proof/Config.lean ====
section
/-! DEFINITION. What the manual leaves open: the free values, as constants without a body.
Each is applied to the plain counter `State.freeCtr`, so that every use is a value nothing constrains. -/

namespace Sys2Proof.Config

/-- Unspecified bytes: weights after a breaking of R89 or R94, operands after a late list (R129),
reads in a static conflict (R282), per-token values that no setup wrote (R163). Log entry 3. -/
opaque freeByte : Nat → BitVec 8

/-- Unspecified 32-bit values of the same kinds, where the value is a word. Log entry 3. -/
opaque freeWord : Nat → BitVec 32

/-- Syndrome of a scratchpad error (SPD_ERRLOG.SYND): the (72,64) code is not named (R280). Log entry 4. -/
opaque freeSyndrome : Nat → BitVec 8

/-- FP32 word of an MX element (format, code, scale byte) whose scaled value lies beyond the FP32 range: R80 calls
the widening exact and names no result there. Log entry 3. -/
opaque mxWide : Nat → Nat → Nat → BitVec 32

/-- FP32 word of a DEQUANT difference (stored element, zero point) outside INT32, where R162 names no result. Log entry 3. -/
opaque dequantWide : Int → Int → BitVec 32

/-- CK_M cycles from the start of a request's service to the first byte of its RESP; R458 gives only the bound, below
which the model takes it. Log entry 19. -/
opaque respDelay : Nat → Nat

end Sys2Proof.Config
end

