-- ==== Sys2Proof/Machine/Mem.lean ====
section
/-! DEFINITION. Sparse memories: lists of (key, value) pairs in one canonical form. Keys rise strictly, and no entry
equals what an unlisted key reads as, which is zero. Log entries of its readings and choices: 5 DESIGN CHOICE. -/

namespace Sys2Proof.Machine

/-- A sparse map from numbers to w-bit values; an unlisted key reads as 0. -/
abbrev Sparse (w : Nat) := List (Nat × BitVec w)

/-- Byte memory as a list of cells; an unlisted address reads as 0 (R296; log entry 5). -/
abbrev Memory := List Host.Cell

/-- Value at a key. -/
def Sparse.get {w : Nat} : Sparse w → Nat → BitVec w
  | [], _ => 0#w
  | (k, v) :: rest, a => if k = a then v else Sparse.get rest a

/-- Write a value at a key, keeping the canonical form: writing zero removes the entry. -/
def Sparse.set {w : Nat} : Sparse w → Nat → BitVec w → Sparse w
  | [], a, x => if x = 0#w then [] else [(a, x)]
  | (k, v) :: rest, a, x =>
    if a < k then (if x = 0#w then (k, v) :: rest else (a, x) :: (k, v) :: rest)
    else if a = k then (if x = 0#w then rest else (k, x) :: rest)
    else (k, v) :: Sparse.set rest a x

/-- The canonical form: strictly rising keys above a bound, no zero value. -/
def Sparse.wfFrom {w : Nat} : Nat → Sparse w → Bool
  | _, [] => true
  | lo, (k, v) :: rest => decide (lo ≤ k) && decide (v ≠ 0#w) && Sparse.wfFrom (k + 1) rest

/-- The canonical form of a sparse map. -/
def Sparse.wf {w : Nat} (m : Sparse w) : Bool := Sparse.wfFrom 0 m

/-- The canonical form of a byte memory. -/
abbrev Memory.wf (m : Memory) : Bool := Sparse.wf (w := 8) m

/-- Write a list of (key, value) pairs in order. -/
def Sparse.setAll {w : Nat} (m : Sparse w) (kvs : List (Nat × BitVec w)) : Sparse w :=
  kvs.foldl (fun m kv => Sparse.set m kv.1 kv.2) m

/-- Remove every entry whose key lies in [lo, hi). -/
def Sparse.clearRange {w : Nat} (m : Sparse w) (lo hi : Nat) : Sparse w :=
  m.filter (fun kv => decide (kv.1 < lo) || decide (hi ≤ kv.1))

/-- One byte of a memory. -/
def Memory.byte (m : Memory) (a : Nat) : Byte := Sparse.get (w := 8) m a

/-- The entries whose keys lie in [lo, hi). -/
def Sparse.window {w : Nat} (m : Sparse w) (lo hi : Nat) : Sparse w :=
  m.filter (fun kv => decide (lo ≤ kv.1) && decide (kv.1 < hi))

/-- n bytes from an address. -/
def Memory.bytes (m : Memory) (a n : Nat) : List Byte :=
  let v : Memory := Sparse.window (w := 8) m a (a + n)
  (List.range n).map (fun i => Memory.byte v (a + i))

/-- The entries that hold values from a key upward; a value of zero has none. -/
def Sparse.cells {w : Nat} (lo : Nat) : List (BitVec w) → Sparse w
  | [] => []
  | v :: vs => if v = 0#w then Sparse.cells (lo + 1) vs else (lo, v) :: Sparse.cells (lo + 1) vs

/-- Replace the values of the keys from lo on by a list. -/
def Sparse.putRange {w : Nat} (m : Sparse w) (lo : Nat) (vs : List (BitVec w)) : Sparse w :=
  m.filter (fun kv => decide (kv.1 < lo)) ++ Sparse.cells lo vs ++ m.filter (fun kv => decide (lo + vs.length ≤ kv.1))

/-- Write bytes from an address upward. -/
def Memory.write (m : Memory) (a : Nat) (bs : List Byte) : Memory := Sparse.putRange (w := 8) m a bs

/-- A little-endian 64-bit word at an address (R66). -/
def Memory.word64 (m : Memory) (a : Nat) : W64 := BitVec.ofNat 64 (leNat (Memory.bytes m a 8))

end Sys2Proof.Machine
end

