-- ==== Sys2Proof/Machine/State.lean ====
section
/-! DEFINITION. The state of the cluster as plain data, and the state after reset. Registers that software reads and
writes as words stand in `reg` under their own local addresses (R23), dictionary settings without a register of their
own in `dict` under index * 256 + subindex; everything that drives behaviour has a field. Log entries of its readings
and choices: 1 DESIGN CHOICE, 2 DESIGN CHOICE, 9 DESIGN CHOICE, 32 DESIGN CHOICE, 46 DESIGN CHOICE, 74 DESIGN CHOICE.
-/

namespace Sys2Proof.Machine

/-- Why a command stops the model: no command of this block does. -/
inductive Fault where
  /-- Raised by nobody: every row of the table has an effect in every state. Safe. -/
  | stuck
  deriving DecidableEq, Repr

/-- Why a command is refused. -/
inductive Refusal where
  /-- The arm of a command that has no meaning yet (Dispatch only). Safe. -/
  | notModelled (mnemonic : String)
  deriving DecidableEq, Repr

/-- Clocks (R434 to R442). Times of stretch are in eighths of an unstretched CK_A period. -/
structure Clk where
  locked      : Bool        -- CLK_STATUS.LOCK
  sen         : Bool        -- CLK_STATUS.SEN
  reqR        : Nat         -- requested level R (R438)
  decD        : Nat         -- decaying level D
  decAt       : Nat         -- CLK_FREE at which D was last set or fell
  free        : Nat         -- CLK_FREE
  ckm         : Nat         -- CK_M cycles since power-good
  phaseT      : Nat         -- eighths gone of the current tick (112 to a tick)
  phaseM      : Nat         -- eighths gone of the current CK_M cycle (140 to a cycle)
  phaseF      : Nat         -- eighths gone of the current cycle of the die fabric clock (8 to a cycle) (R318)
  unstretched : Nat         -- consecutive CK_A cycles begun with level 0 (R320)
  lockAt      : Nat         -- CK_M cycle of PLL lock
  calAt       : Nat         -- CK_M cycle in which calibration was done
  riseAt      : Nat         -- CLK_FREE at the latest rise of R (R415)
  fullAt      : Nat         -- CK_M cycle in which R became 8 (R415, R438)
  thOff       : Int         -- threshold offset in force, mV (R439)
  deriving DecidableEq, Repr

/-- Timebase (R441, R442). `debt` is how far TB still has to be corrected while it slews. -/
structure Tb where
  value  : W64
  runs   : Bool
  ok     : Bool
  tbok   : Bool
  debt   : Int
  slewN  : Nat
  dev    : Int
  miss   : Nat
  far    : Nat
  dbgTk  : Nat      -- ticks spent in DEBUG holds (timeouts in tk freeze, R43)
  deriving DecidableEq, Repr

/-- A hold that is decided or in force (R41): the LCC value it holds, whether held cycles have begun, the tick of
its first held cycle, the exit count (1 the evaluation found every condition clear, 2 the exit cycle), the causes
last active, the contexts last named as having caused it (R46), and the limit in force when it began (R465). -/
structure Hold where
  target : Nat
  begun  : Bool
  since  : Nat
  exit   : Nat
  mask   : Nat
  blame  : List Nat
  limit  : Nat
  deriving DecidableEq, Repr

/-- The static domain's time (R30 to R48). -/
structure Timing where
  lcc      : Nat
  running  : Bool           -- LCC 0 executes or is held, and the lining has not ended
  hold     : Option Hold
  next     : Option Hold    -- decided for the LCC value behind that of `hold` (R41)
  duty     : Nat            -- throttle duty in force (R42)
  dutyNext : Nat            -- duty computed in the last cycle before the present period (R445)
  req      : Nat            -- throttle request (R445)
  held     : Nat            -- held cycles of the lining
  haltReq  : Bool           -- HALTREQ (R475)
  haltSeen : Bool           -- HALTREQ as the hold evaluation sees it: as it stood when the CK_A cycle began (R475)
  haltKept : Bool           -- the halt of a lining that ended while halted is still in force (R475)
  stepEnd  : Option Nat     -- LCC value at which a STEP halts again (R475)
  waive    : List Nat       -- contexts whose late DMARRs complete after a HOLD_TIMEOUT (R47)
  recentre : Nat            -- a re-centring (R320): 0 none, 3 fills are not all at 8, 2 and 1 its last two cycles
  deriving DecidableEq, Repr

/-- An entry of an engine queue: the op and the free-running cycle from which it is visible (R256). -/
structure QEnt where
  op  : MacroOp
  vis : Nat
  deriving DecidableEq, Repr

/-- An op that an engine has started: its start and end LCC values and whether it is nullified. -/
structure RunOp where
  op  : MacroOp
  t0  : Nat
  fin : Nat
  nul : Bool
  deriving DecidableEq, Repr

/-- An engine queue (R17, R35): entries, ops started, end E of the previous op, the running op, the context of
the last op started, the lining's op count, and the free-running cycles in which the latest entries were freed. -/
structure EngQ where
  ents    : List QEnt
  started : Nat
  fin     : Nat
  run     : Option RunOp
  lastCtx : Nat
  count   : Nat
  freed   : List Nat
  deriving DecidableEq, Repr

/-- A per-token register set of a primer (R164): mean and rstd per presented column, and PERTOK operands
(stage number, column, FP32 bits). `full` is false until a setup has written it. -/
structure PrimSet where
  full : Bool
  mean : List W32
  rstd : List W32
  tok  : List (Nat × Nat × W32)
  deriving DecidableEq, Repr

/-- A source slice (R91, R163): its operand cycle, the codes of its elements in slice order, past the primer where
the op has one, and the block scale of each column. -/
structure Slice where
  i     : Nat
  codes : List Nat
  scs   : List Nat
  deriving DecidableEq, Repr

/-- What an array op has read ahead of its start besides feeder lines (R129, R163): whether its list read has been made,
its index list with out-of-range entries as padding, the per-token set its setup loaded (true: the second), the slices
in its primer, and the tiles it refers to for these reads (R201). A list that is absent was never read, or had not been
written when it was. -/
structure Ahead where
  op     : MacroOp
  t0     : Nat
  listed : Bool
  list   : Option (List W16)
  set    : Option Bool
  slices : List Slice
  tiles  : List Nat
  deriving DecidableEq, Repr

/-- The operands of one operand cycle in an array's pipeline (R88, R95): the slice, and for each row the bits of its
value stream, of its mask stream, and its scale byte. -/
structure Entered where
  slice : Slice
  wts   : List Nat
  msk   : List Nat
  wsc   : List Nat
  deriving DecidableEq, Repr

/-- A fill under way (R95 to R97): the op and its start, the set that was front for it, whether it counts malformed
masks for its core, its list, its per-token set, the slices in its primer, and the operands in its pipeline. -/
structure Fill where
  op     : MacroOp
  t0     : Nat
  front  : Bool
  counts : Bool
  list   : Option (List W16)
  set    : Option Bool
  slices : List Slice
  pipe   : List Entered
  deriving DecidableEq, Repr

/-- A drain that is due or under way (R98): the op, the LCC value of group 0, the set, whether it is nullified, its
part (1: the second destination region of a Gauss op, R107), whether it preloads the set (R101), the raw groups it has
read, the preload groups it has written, and whether a row has mismatched (R117). -/
structure DrainJob where
  op    : MacroOp
  due   : Nat
  set1  : Bool
  nul   : Bool
  part  : Nat
  pre   : Bool
  seen  : List (List W32)
  held  : List (List W32)
  hit   : Bool
  deriving DecidableEq, Repr

/-- An MPRE under way (R101): the op, its start, and the groups it has written. -/
structure PreJob where
  op   : MacroOp
  t    : Nat
  held : List (List W32)
  deriving DecidableEq, Repr

/-- A drain group on its way through the skim: raw lanes, present lanes, whether they are still INT32, the codes of
QUANT with their format, and MX scale bytes. -/
structure Skim where
  raw    : List W32
  vals   : List W32
  isInt  : Bool
  codes  : Option (Nat × List Nat)
  scales : List Nat
  deriving DecidableEq, Repr

/-- One matrix array's control state (R95 to R107, R164): `drn` is the drain under way, `todo` the feeder reads of
this cycle, `statIn` the lanes that a STAT stage has passed (drain, group, lanes). -/
structure ArrSt where
  front    : Bool           -- front set once every swap so far has come: false S0, true S1
  swaps    : List Nat       -- LCC values from which swaps still in the pipeline show
  jobs     : List DrainJob
  drn      : Option DrainJob
  mpre     : List PreJob
  pathFree : Nat            -- LCC at which the drain path is free
  ahead    : List Ahead
  todo     : List (MacroOp × Nat × List (Nat × Nat))
  fills    : List Fill
  statIn   : List (Nat × Nat × List W32)
  prim0    : PrimSet
  prim1    : PrimSet
  primLast : Bool           -- set used by the last op with a setup point
  deriving DecidableEq, Repr

/-- A feeder read that has been issued (R89, R93): the weight stream, the start and end of its op, the kind (0 value,
1 mask, 2 scale) and number of the line. -/
structure FKey where
  key  : List Nat
  t0   : Nat
  fin  : Nat
  kind : Nat
  i    : Nat
  deriving DecidableEq, Repr

/-- A line in a feeder: 64 bytes of each row, or a scale vector (R92). -/
structure FLine where
  key  : List Nat
  t0   : Nat
  i    : Nat
  bs   : List Byte
  deriving DecidableEq, Repr

/-- The feeders of a core (R92): the 4 value lines and 2 mask lines that every row feeder holds, and the 32 scale
vectors, oldest first; and the reads issued. -/
structure Feeder where
  vals   : List FLine
  masks  : List FLine
  scales : List FLine
  issued : List FKey
  deriving DecidableEq, Repr

/-- A vector op under way (R172, R182): the op, its start and DURmin, the runs read so far, each lane's statistic
values, and the index list of a gather or scatter. -/
structure VecJob where
  op   : MacroOp
  t0   : Nat
  dm   : Nat
  runs : List (List Nat)
  vals : List (List (Nat × List W32))
  ents : List (W16 × Nat)
  deriving DecidableEq, Repr

/-- A segment record (R274), and the LCC value from which it is readable. -/
structure SegRec where
  tab : Nat
  ctx : Nat
  alt : Nat
  at_ : Nat
  deriving DecidableEq, Repr

/-- A result in a pipeline of the static domain, to be delivered at the end of a cycle. -/
inductive Post where
  /-- Bytes for a row of a tile: core, tile, row, bytes (R196). -/
  | row (n t r : Nat) (bs : List Byte)
  /-- Bytes for a tile as a stream from byte `off` of a row on: `lo` low bits of the first byte and `hi` high bits of
  the last are not written. -/
  | stream (n t r off lo hi : Nat) (bs : List Byte)
  /-- Bytes for the MA0 stage buffer (R208). -/
  | sbuf (n off : Nat) (bs : List Byte)
  /-- Bytes for scratchpad, by a queue (R281, R282), with the bits not written. -/
  | spd (q a lo hi : Nat) (bs : List Byte)
  /-- A line for a feeder (R93). -/
  | feed (n kind : Nat) (l : FLine)
  /-- A drain group on its way to stage k of its skim (R147): array, drain, group. -/
  | skim (a : Nat) (j : DrainJob) (i k : Nat) (g : Skim)
  /-- Statistic records for a side buffer (R167): array, slot, records by column. -/
  | stat (a slot : Nat) (recs : List (BitVec 96))
  /-- A TCFG, TREL or TZERO of a core, which acts at the end of its cycle (R200, R203). -/
  | config (n : Nat) (o : MacroOp)
  /-- The choice of a SEGBR (R140, R274): CTX_SEGLAST and CTX_SEGSEL, and the record with the cores that take it. -/
  | choice (log : Option (W64 × W64)) (cores : List Nat) (r : SegRec)
  deriving DecidableEq, Repr

/-- A posted result: the LCC value at the end of whose cycle it is delivered, and its rank among the writers of that
cycle (R198). -/
structure Posted where
  at_  : Nat
  rank : Nat
  what : Post
  deriving DecidableEq, Repr

/-- An in-flight reference to a tile (R201), from LCC lo to hi, held by an op of a queue. -/
structure TileRef where
  q    : Nat
  tile : Nat
  lo   : Nat
  hi   : Nat
  deriving DecidableEq, Repr

/-- A tile-mover op that owes writes (R205 to R212): core, kind, op, start, count of reads, first write offset, count
of writes, the rows a transposed move has read, and whether forerunner mode has stopped it. -/
structure Mov where
  n      : Nat
  kind   : Nat
  op     : MacroOp
  t0     : Nat
  reads  : Nat
  woff   : Nat
  writes : Nat
  rows   : List (List Byte)
  stop   : Bool
  deriving DecidableEq, Repr

/-- A loop of the issue walker (R261). -/
structure Loop where
  opn : Bool
  idx : Nat
  cnt : Nat
  at_ : Nat
  deriving DecidableEq, Repr

/-- A spore in a send slot (R329): its header and data, whether it is posted, and the tick at which REPLY_TO expires. -/
structure SendSlot where
  hdr    : BitVec 128
  data   : List Byte
  posted : Bool
  due    : Nat
  deriving DecidableEq, Repr

/-- A cross-form signal in a signal slot (R361): target, kind, operand, context, whether it is sent, the tick at
which its timeout expires, and the tick at which a BUSY allows a re-send. -/
structure SigSlot where
  dcl    : Nat
  dctx   : Nat
  vid    : Nat
  kind   : Nat
  operand : W32
  ctx    : Nat
  sent   : Bool
  due    : Nat
  busy   : Option Nat
  seq    : Nat
  deriving DecidableEq, Repr

/-- What a scalar core is stalled on. -/
inductive Stall where
  | none
  | spWait (slot rs : Nat)
  | spFence (rs : Nat)
  | sigFence (rs : Nat)
  | recv (ring rd rb rs deadline : Nat)
  | tbWait (v : W64)
  | lccWait (v : Nat)
  | wdrain
  /-- An HLD or HST whose group of boundary requests is open (R288). -/
  | port (grp : Nat)
  /-- No send or signal slot is free; `code` is the WAIT code (R329, R361). -/
  | slotWait (code : Nat)
  /-- A receive that reads its record (R343): ring, registers, whether it copies, group of requests. -/
  | recvRead (ring rd rb rs : Nat) (copy : Bool) (grp : Nat)
  deriving DecidableEq, Repr

/-- One control core (R253 to R278). `wwait` is the walker's stall, in the WAIT codes of CORE_STATE. -/
structure Core where
  mode     : Nat
  lsok     : Bool
  present  : Bool
  walkRun  : Bool
  codeRun  : Bool
  stopped  : Bool
  wwait    : Nat
  stall    : Stall
  cur      : Nat
  widx     : Nat
  loops    : Vector Loop 4
  credit   : Nat
  pc       : Nat
  regs     : Vector W64 32
  preds    : Vector Bool 8
  segq     : List SegRec
  segOvf   : Bool
  segLost  : List Nat       -- SEGTABs of the records that a full segment queue discarded (R275)
  sendSeq  : Nat
  seqAt0   : Nat            -- send counter at LCC 0 of the first run (R327)
  send     : Vector (Option SendSlot) 8
  refused  : Bool           -- a posted spore was refused since the last FENCE
  sig      : Vector (Option SigSlot) 8
  sigFail  : Bool           -- a cross-form signal failed since the last FENCE
  tmpl     : Nat            -- base of the template store in instruction memory (R260)
  delta    : Nat            -- base of the delta table
  walk     : Nat            -- base of the walk program
  codeLo   : Nat            -- code region
  codeHi   : Nat
  reloadI  : Bool           -- reload instruction memory before the next lining (R278)
  reloadD  : Bool
  deriving DecidableEq, Repr

/-- A core's wait (R357): `live` once it is registered; until its first evaluation, and after its expiry, it is the
operation `id` of the synchronisation unit. -/
structure Waiter where
  live     : Bool
  id       : Nat
  word     : Nat
  vid      : Nat
  kind     : Nat
  operand  : W32
  ctx      : Nat
  engine   : Bool           -- true: the issue walker
  deadline : Nat
  rd       : Nat
  rs       : Nat
  deriving DecidableEq, Repr

/-- What an operation on a sync word does (R352, R355, R358, R366). -/
inductive SyncWhat where
  | baseline (full : Bool) (v : W32)
  | signal (kind : Nat) (operand : W32) (sctx scl score : Nat)
  | wait (n timeout : Nat)
  | expire (n : Nat)
  | restore (v : W64)
  deriving DecidableEq, Repr

/-- An operation of the synchronisation unit (R289, R352): word, context, the cycle in which it reached the unit and
its rank in it, the WRACK that its write-back sends, and whether it is under way. -/
structure SyncOp where
  id   : Nat
  word : Nat
  ctx  : Nat
  at_  : Nat
  rank : Nat
  what : SyncWhat
  ack  : Option (Nat × BitVec 128)
  busy : Bool
  deriving DecidableEq, Repr

/-- A reply that goes out in the next cycle (R335, R363): lane, header of the request, type, LMASK. -/
structure Ack where
  lane  : Nat
  hdr   : BitVec 128
  ty    : Nat
  lmask : Nat
  deriving DecidableEq, Repr

/-- An exact running sum of one sorus element (R346); the sum is in units of 2^-149. -/
structure SorAcc where
  sum    : Int
  nan    : Bool
  pinf   : Bool
  ninf   : Bool
  negz   : Bool             -- every contribution was -0
  any    : Bool
  deriving DecidableEq, Repr

/-- A header entry of the inbound store (R333). -/
structure InSpore where
  hdr    : BitVec 128
  txn    : Nat
  srccl  : Nat
  gaddr  : W64
  lane   : Nat
  sorus  : Bool
  got    : Nat              -- flits received
  data   : List Byte
  done   : Bool             -- complete
  order  : Nat              -- order of completion
  at_    : Nat              -- tick of completion
  due    : Nat              -- tick at which its RING_TO expires
  grp    : Option Nat       -- the group of boundary requests that places or adds it
  deriving DecidableEq, Repr

/-- A sorus result that waits to be placed (R347), and the group of boundary requests that reads its area or places
it. -/
structure SorRes where
  e    : Nat
  rec_ : List Byte
  due  : Nat
  grp  : Option Nat
  deriving DecidableEq, Repr

/-- An outstanding transfer (R307). -/
structure Xfer where
  op     : MacroOp
  blocks : Nat
  slot   : Nat              -- its slot in the channel's table, which the TXN of its blocks names
  sent   : Nat              -- next block to send
  asked  : Nat              -- next block of a DMPUT whose lines are to be read
  got    : Nat              -- blocks complete
  parked : Bool
  at_    : Nat              -- tick of entry or of the last completed block; while parked, the ticks already counted
  lim    : Nat              -- DM_TIMEOUT in force when the interval began (R465)
  order  : Nat
  dec    : List Nat         -- blocks in flight
  sentTo : List (Nat × Nat) -- blocks sent, with the address that each flit of theirs names
  deriving DecidableEq, Repr

/-- A data-mover channel (R307 to R309): its table, the failed transfers that have left it with blocks in flight, the
park (table slot), and the transfers that the lining has issued: op number on the channel's queue, and order in the table
(R246). -/
structure Chan where
  tab   : Vector (Option Xfer) 16
  left  : List Xfer
  park  : Option Nat
  begun : List (Nat × Nat)
  deriving DecidableEq, Repr

/-- A flit kept for re-send (R315). -/
structure Kept where
  flit  : Flit
  sends : Nat
  at_   : Nat
  deriving DecidableEq, Repr

/-- A fabric lane (R312 to R318). -/
structure Lane where
  up      : Bool
  dead    : Bool            -- missed its alignment in stage 1, or went down: down until power-off
  alignO  : Bool            -- outbound half aligned
  alignI  : Bool            -- inbound half aligned
  tx      : Nat
  rx      : Nat
  kept    : List Kept
  nakOpen : Bool
  owe     : Option Bool     -- an acknowledgement to send (true: with NAK), on the next flit of the half (R312, R315)
  deriving DecidableEq, Repr

/-- A crossing FIFO (R318): its fill, the writer's credits, and the credits on their way back: those that the next
write cycle brings, and those of the reads since the last one. -/
structure Fifo where
  fill : Nat
  cred : Nat
  back : Nat
  got  : Nat
  deriving DecidableEq, Repr

/-- What the completion of a boundary request group does. -/
inductive BDone where
  | rdReply (lane : Nat) (f : Flit)
  | wrReply (lane : Nat) (f : Flit)
  | putBlock (ch ord k : Nat)   -- the transfer is named by its order
  | getBlock (ch ord k : Nat)
  /-- HLD of core n into rd, and HST (R288). -/
  | hld (n rd : Nat)
  | hst (n : Nat)
  /-- The read of a sync operation, and its write-back (R289). -/
  | syncRead (id : Nat)
  | syncWrite (id : Nat)
  /-- A record of n slots placed in ring r behind a pad of `pad` slots: a spore of the inbound store, or the result of
  entry e (R335, R347). -/
  | placeSpore (i r n pad : Nat)
  | placeSorus (e r n pad : Nat)
  /-- The first slot of a record for core n, and the others behind it (R343). -/
  | recvHead (n : Nat)
  | recvBody (n : Nat) (head : List Byte)
  /-- The lines of a contribution read and written back, and the lines of a release (R345, R347). -/
  | sorusRead (i : Nat)
  | sorusWrite (i : Nat)
  | sorusOut (e : Nat)
  /-- A debug read, asked for by a READ frame (R474). -/
  | debug (frame : List Byte)
  /-- Lines of the staging region that the intake unit reads (R401 to R403): 0 the header, 1 the rest of the image, 2 the
  image at LOAD. -/
  | stage (k : Nat)
  /-- Nothing. -/
  | quiet
  deriving DecidableEq, Repr

/-- A group of boundary requests that belong together (R284); `ctx` is the context that errors are logged with. -/
structure BGroup where
  id   : Nat
  ctx  : Nat
  left : Nat
  data : List (Nat × List Byte)
  bad  : Bool
  done : BDone
  deriving DecidableEq, Repr

/-- One boundary request for one line (R284): class, line, byte offset and length in it, group, index in the group, and
write data. -/
structure BReq where
  cls  : Nat
  line : Nat
  off  : Nat
  len  : Nat
  grp  : Nat
  idx  : Nat
  wr   : Option (List Byte)
  deriving DecidableEq, Repr

/-- An entry of a bank's repair queue (R292): physical bank, line, the words to rewrite with their values, and
the entry's cycle. -/
structure Repair where
  bank  : Nat
  line  : Nat
  words : List (Nat × W64)
  at_   : Nat
  deriving DecidableEq, Repr

/-- Scratchpad housekeeping (R284, R292, R295, R297). -/
structure Spd where
  reqs     : List BReq
  groups   : List BGroup
  nextGrp  : Nat
  rr       : Sparse 8       -- round-robin pointer per bank
  repairs  : List Repair
  scrubs   : Sparse 64      -- per bank: 1 + CLK_FREE of the pending scrub request
  ptr      : Sparse 16      -- sander line pointer per bank
  wrapped  : BitVec 256     -- banks whose pointer has wrapped in this pass
  turn     : BitVec 256     -- banks whose next open slot is the boundary's (R297)
  taken    : List Nat       -- physical banks that the boundary, the sander or a repair has accessed in this cycle (R281)
  lastReq  : Nat
  mark     : Sparse 8       -- words corrected or rewritten since the sander last reached them (R293)
  urgent   : List Nat       -- lines to scrub ahead of every other (R299)
  deriving DecidableEq, Repr

/-- A context (R371, R372, R388). -/
structure Ctx where
  state   : Nat
  torn    : Bool
  tornAt  : Nat             -- ops that start at this LCC value or later are nullified, while torn
  tornEff : Nat             -- CLK_FREE from which control cores and other units see the teardown (R386)
  pmiss   : Bool
  level   : Nat             -- variant level in force
  var     : Nat             -- variant of the bound lining
  pin     : Nat
  hist    : List Nat
  rest    : Nat
  linseq  : W32
  client  : W32
  sampled : Bool            -- CLIENT has been sampled since admission
  srseed  : W32
  dlrel   : Nat
  allow   : Nat
  fintb   : W64
  finSet  : Bool            -- FINTB recorded in this lining
  dl      : Nat
  nvar    : Nat
  fin     : Vector Nat 3
  hchg    : Nat
  exits   : List (Nat × Nat)          -- exit ranges in force (R144)
  alts    : List (Nat × Nat × Nat)    -- (segment-table entry, alternative, LCC at which it is known) (R140, R143)
  rearm   : Bool            -- re-arm waits for the lining's end
  snap    : Bool            -- snapshot waits for the lining's end
  deriving DecidableEq, Repr

/-- The lining that is dispatching or running (R380). -/
structure Run where
  lid      : Nat
  prio     : Nat
  now      : Bool
  tbat     : W64
  rerun    : Bool
  tb0      : W64
  tbref    : Nat
  begun    : Bool           -- LCC 0 reached
  ready    : Nat            -- CLK_FREE at which dispatch completes
  ctxs     : List Nat
  ctl      : List MacroOp   -- control ops not yet executed
  sendEnd  : Nat            -- SEND
  stop     : Bool           -- stop requested (R382)
  saving   : Option (Nat × Nat)   -- (t_p, LIVEIDX) of a pre-emption in progress
  detect   : Option Bool    -- SPD_DETECT met; true: uncorrectable
  detTorn  : List Nat       -- contexts that only the detection tore down
  detLines : List Nat       -- detected lines
  resumed  : Bool
  reqId    : Nat            -- the request that it serves
  period   : Nat            -- PERIOD of that request
  skip     : Nat            -- periods skipped at its dispatch (R378)
  started  : List Nat       -- ops started per queue at t_p, for the save area (R383)
  saveRan  : Nat            -- cycles that the save of a pre-emption has run (R384, R446)
  choices  : List Posted    -- choices of SEGBRs that a pre-emption found on their way (R140, R382)
  deriving DecidableEq, Repr

/-- A suspended lining (R382). -/
structure Susp where
  lid   : Nat
  prio  : Nat
  tp    : Nat
  live  : Nat
  ctxs  : List Nat
  run   : Run
  begun : List (List (Nat × Nat))
  deriving DecidableEq, Repr

/-- A dispatch request (R377). -/
structure Req where
  id     : Nat
  lid    : Nat
  tbat   : W64
  now    : Bool
  prio   : Nat
  period : Nat
  deriving DecidableEq, Repr

/-- A lining entry (R373): LID, image slot, and the 576 bytes of its descriptor. -/
structure LinEnt where
  lid  : Nat
  slot : Nat
  desc : List Byte
  deriving DecidableEq, Repr

/-- The padding ops of one alternative of a segment region on one queue (R143): its context's ops numbered lo to hi - 1
on the queue. -/
structure Pad where
  lid : Nat
  ctx : Nat
  tab : Nat
  alt : Nat
  q   : Nat
  lo  : Nat
  hi  : Nat
  byVar : Bool              -- a variant region: the alternative in force is the context's variant
  deriving DecidableEq, Repr

/-- What a check (channel, tag) of DMARR number `num` of channel `ch` names, as the verifier fixed it (R246): op number
`at_` of the checked channel. It holds under a choice: alternatives by segment-table entry, and the variant of context k
under 4096 + k. -/
structure Named where
  lid  : Nat
  pick : List (Nat × Nat)
  ch   : Nat
  num  : Nat
  chk  : Nat × Nat
  at_  : Nat
  deriving DecidableEq, Repr

/-- Where an image's walk structures and code lie in a core's instruction memory (R260, R268). -/
structure CoreSec where
  core   : Nat
  tmpl   : Nat
  delta  : Nat
  walk   : Nat
  codeLo : Nat
  codeHi : Nat
  deriving DecidableEq, Repr

/-- An admitted image (R406): what it owns, beside its INT_IMG register. -/
structure Img where
  imgid   : Nat
  c1      : Bool
  modes   : Nat
  latman  : List Nat
  widthm  : Nat
  witm    : Nat
  wittol  : List Nat
  holes   : Nat
  ctxs    : List Nat
  handles : List Nat
  rings   : List Nat
  sorus   : List Nat
  xlat    : List Nat
  bases   : List Nat
  base    : Nat
  lines   : Nat
  peak    : Nat
  peakWin : Nat
  retire  : Bool
  pads    : List Pad
  named   : List Named
  secs    : List CoreSec
  regs    : List Nat        -- addresses of its chain, frond, descriptor and comparator words
  uses    : List (Nat × Nat)          -- contexts with the queues on which they have ops (R406)
  deriving DecidableEq, Repr

/-- The first failing check of the verifier (R402, R404): code, step, and the LID, queue and index at fault. -/
structure Rej where
  code  : Nat
  step  : Nat
  lid   : Nat
  queue : Nat
  index : Nat
  deriving DecidableEq, Repr

/-- What an image brings into force at its admission, from the shape as it was read when CHECK began (R403, R406):
ROT, fences and patch maps. -/
structure Plan where
  img  : Img
  rot  : Nat
  fenA : BitVec 32
  fenC : BitVec 8
  fenB : BitVec 256
  maps : List Nat
  deriving DecidableEq, Repr

/-- The intake unit (R395). -/
structure Intake where
  state  : Nat
  step   : Nat
  base   : Nat              -- staging region, from OPEN
  lines  : Nat
  since  : Nat              -- tick at which CHECK began
  limit  : Nat              -- ACCEPT_TO in force then (R465)
  fail   : Option Rej       -- outcome of steps 3 to 15 on what was read when CHECK began (R403)
  plan   : Option Plan
  lastCode : Nat
  lastSlot : Nat
  stream : List Byte        -- what the last CHECK has sent to the security block: TAG, then the image (R401)
  grp    : Option Nat       -- the group of line reads under way (R284)
  deriving DecidableEq, Repr

/-- An event of the moss agent (R469): EVSEQ and the 28 payload bytes. -/
structure Event where
  seq : Nat
  pay : List Byte
  deriving DecidableEq, Repr

/-- The moss agent (R454 to R476). -/
structure Moss where
  maint   : Bool
  debug   : Bool
  last    : Option (Byte × Nat × Nat × List Byte)   -- last WRITE: SEQ, INDEX, SUB, kept RESP
  events  : List Event
  evSeq   : Nat
  evSent  : Option Nat      -- CK_M cycle at which the oldest event was last sent
  lost    : Nat
  clamps  : Nat             -- CLAMPSEQ
  busyTo  : Nat                       -- CK_M cycle from which the latest RESP has left whole (R458)
  queue   : List (List Byte)          -- requests that wait for the one in service (R458)
  out     : List (List Byte)          -- frames put on the ring
  deriving DecidableEq, Repr

/-- A fault on its way into the collector (R413): source, class, instance, scope, context, forced at the collector,
excluded from escalation by R421, whether its context was TORN when it was detected (R414), and the TB of its
detection. -/
structure FaultIn where
  src    : Nat
  cls    : Nat
  inst   : Nat
  scope  : Nat
  ctx    : Nat
  forced : Bool := false
  noEsc  : Bool := false
  torn   : Bool := false
  tb     : W64 := 0
  deriving DecidableEq, Repr

/-- The fault collector's own state (R417 to R428); its records are registers. -/
structure Flt where
  hstate   : Nat
  quietAt  : Nat            -- tick at which the U state clears
  fatal    : Bool
  fatalSrc : Nat
  alive    : Bool
  aliveAt  : Nat            -- CK_M cycle of the last ALIVE edge
  recov    : Nat
  pendA    : BitVec 32
  pendC    : BitVec 8
  pendB    : BitVec 256
  fenA     : BitVec 32
  fenC     : BitVec 8
  fenB     : BitVec 256
  armed    : List (Nat × Nat)         -- (source, instance) of armed detectors
  shapeSeq : Nat
  inbox    : List FaultIn             -- faults that the collector has not taken into its records yet (R413)
  deriving DecidableEq, Repr

/-- Everything the cluster holds but the queue of waiting commands. -/
structure Cluster where
  powered  : Bool
  stage    : Nat
  straps   : BitVec 6                 -- cluster number (R472)
  stepping : Byte                     -- mask ROM (R9)
  clk      : Clk
  tb       : Tb
  tim      : Timing
  queues   : Vector EngQ 52
  arrs     : Vector ArrSt 32
  refs     : List TileRef
  movs     : List Mov                 -- tile-mover ops that owe writes
  vecs     : Vector (Option VecJob) 8
  feeds    : Vector Feeder 8
  posts    : List Posted              -- results on their way
  uses     : List (Nat × Nat)         -- static port uses of this cycle: logical bank, 2 * queue + write
  cores    : Vector Core 8
  ctxs     : Vector Ctx 64
  run      : Option Run
  freeAt   : Nat                      -- CLK_FREE of the cycle in which the last lining ended or was saved (R380)
  susp     : List Susp
  reqs     : List Req
  rerun    : Option (Nat × Nat × W64 × Bool)    -- re-run arranged: LID, PRIO, TBAT, NOW (R299)
  linings  : List LinEnt
  imgs     : Vector (Option Img) 8
  intake   : Intake
  spd      : Spd
  mem      : Memory                   -- scratchpad and tile slots, by local address
  memErr   : Sparse 64                -- stored bits in error, by word address
  imem     : Memory                   -- instruction memories, core * 65536 + offset
  imemErr  : Sparse 64                -- stored bits in error of instruction memory, by word address
  dmem     : Memory                   -- data memories
  dmemErr  : Sparse 64                -- stored bits in error of data memory, by word address
  sbuf     : Memory                   -- MA0 stage buffers
  acc      : Sparse 32                -- accumulators, ((a * 2 + set) * 128 + row) * 34 + physical column
  side     : Sparse 96                -- statistic records, (a * 32 + slot) * 32 + column
  chans    : Vector Chan 4
  lanes    : Vector Lane 4
  fifos    : Vector Fifo 8            -- crossing FIFOs: 2i outbound, 2i + 1 inbound of lane i (R318, R322)
  turned   : List (BitVec 128 × List Byte)   -- turned-round read replies that wait for the landing buffer (R306, R317)
  winOld   : List (Nat × W64 × W64)   -- window entries as they stood before a commit of this cycle (R310)
  fabOut   : List (Nat × Flit)        -- flits sent, by lane
  waiters  : Vector (Option Waiter) 8
  syncOps  : List SyncOp              -- operations that have reached the synchronisation unit, in order (R352)
  acks     : List Ack
  xlat     : Sparse 32                -- sync translation store
  syncIn   : List (Nat × Nat × Flit)  -- queued inbound SYNC flits: lane (4: turned round inside), cycle, flit
  rdesc    : Sparse 64                -- ring descriptors (MSG_RDESC layout)
  prod     : Sparse 32
  cons     : Sparse 32
  consOld  : List (Nat × W32)         -- CONS at the start of this cycle, of the rings that have moved it (R341)
  pads     : List (Nat × W32)         -- pad records in rings: ring, and the PROD value at which each begins (R341)
  sdesc0   : Sparse 64                -- sorus descriptors (MSG_SDESC layout)
  sdesc1   : Sparse 64
  scount   : Sparse 16
  sround   : Sparse 16
  sacc     : List (Nat × SorAcc)      -- exact sums, entry * 512 + element
  sorRes   : List SorRes
  resets   : List (Bool × Nat)        -- resets that wait for the lining's end: (sorus?, number)
  store    : Vector (Option InSpore) 64
  nextOrd  : Nat
  moss     : Moss
  flt      : Flt
  reg      : Sparse 64                -- registers, by local address
  dict     : Sparse 64                -- dictionary settings, index * 256 + subindex
  tabErr   : Sparse 64                -- stored bits in error of verifier-written table words, by register address
  vgath    : List (Nat × MacroOp × Nat × Nat)   -- VXE_GATHSTAT by core: op, entry, INDEX (R191)
  freeCtr  : Nat                      -- the model's own counter of free values
  deriving DecidableEq, Repr

/-- The machine: the waiting commands, first in first out, and the cluster they act on. -/
structure State where
  pending : List Instr
  cl      : Cluster
  deriving DecidableEq, Repr

/-- Clocks before PLL lock. -/
def Clk.reset : Clk := ⟨false, false, 0, 0, 0, 0, 0, 0, 0, 0, 0, 0, 0, 0, 0, 0⟩
/-- Timebase before it is loaded. -/
def Tb.reset : Tb := ⟨0, false, false, false, 0, 0, 0, 0, 0, 0⟩
/-- No lining. -/
def Timing.reset : Timing := ⟨0, false, none, none, 0, 0, 0, 0, false, false, false, none, [], 0⟩
/-- An empty queue. -/
def EngQ.reset : EngQ := ⟨[], 0, 0, none, 0, 0, []⟩
/-- An unwritten per-token set. -/
def PrimSet.reset : PrimSet := ⟨false, [], [], []⟩
/-- An idle array with S0 in front. -/
def ArrSt.reset : ArrSt := ⟨false, [], [], none, [], 0, [], [], [], [], PrimSet.reset, PrimSet.reset, false⟩
/-- Empty feeders. -/
def Feeder.reset : Feeder := ⟨[], [], [], []⟩
/-- A closed loop. -/
def Loop.reset : Loop := ⟨false, 0, 0, 0⟩
/-- A control core that no image uses. -/
def Core.reset : Core where
  mode := 0
  lsok := false
  present := true
  walkRun := false
  codeRun := false
  stopped := false
  wwait := 0
  stall := .none
  cur := 0
  widx := 0
  loops := Vector.replicate 4 Loop.reset
  credit := 0
  pc := 0
  regs := Vector.replicate 32 0
  preds := Vector.replicate 8 false
  segq := []
  segOvf := false
  segLost := []
  sendSeq := 0
  seqAt0 := 0
  send := Vector.replicate 8 none
  refused := false
  sig := Vector.replicate 8 none
  sigFail := false
  tmpl := 0
  delta := 0
  walk := 0
  codeLo := 0
  codeHi := 0
  reloadI := false
  reloadD := false
/-- A FREE context (R371). -/
def Ctx.reset : Ctx where
  state := 0
  torn := false
  tornAt := 0
  tornEff := 0
  pmiss := false
  level := 0
  var := 0
  pin := 0
  hist := []
  rest := 0
  linseq := 0
  client := 0
  sampled := false
  srseed := 0
  dlrel := 0
  allow := 0
  fintb := 0
  finSet := false
  dl := 0
  nvar := 0
  fin := Vector.replicate 3 0
  hchg := 0
  exits := []
  alts := []
  rearm := false
  snap := false
/-- An empty channel. -/
def Chan.reset : Chan := ⟨Vector.replicate 16 none, [], none, []⟩
/-- A lane before stage 1. -/
def Lane.reset : Lane := ⟨false, false, false, false, 0, 0, [], false, none⟩
/-- An empty crossing FIFO, whose writer holds every credit (R318). -/
def Fifo.reset : Fifo := ⟨0, 16, 0, 0⟩
/-- Scratchpad housekeeping at power-good. -/
def Spd.reset : Spd := ⟨[], [], 0, [], [], [], [], 0, 0, [], 0, [], []⟩
/-- Intake IDLE. -/
def Intake.reset : Intake := ⟨0, 0, 0, 1, 0, 0, none, none, 0, 0, [], none⟩
/-- The moss agent at power-good. -/
def Moss.reset : Moss := ⟨false, false, none, [], 0, none, 0, 0, 0, [], []⟩
/-- The collector at power-good: NORMAL, ALIVE low. -/
def Flt.reset : Flt := ⟨0, 0, false, 0, false, 0, 0, 0, 0, 0, 0, 0, 0, [], 0, []⟩

/-- Hardware minimum latencies of R50 for a stepping (0x01 SA, otherwise SB). -/
def hwMin (stepping : Byte) (i : Nat) : Nat :=
  match i with
  | 0 => 14 | 1 => 32 | 2 => 10 | 3 => 12
  | 4 => if stepping = 1 then 22 else 18
  | 5 => 16
  | 6 => if stepping = 1 then 8 else 6
  | 7 => 2 | 8 => 2 | 9 => 6 | 10 => 64 | 11 => 4
  | _ => 0

/-- Registers whose reset value is not zero: the floors, TIL_EMPTY, PWR_BUDGET, SPD_SANDER.FIRST, MGT_NODE. -/
def regReset (straps : BitVec 6) (stepping : Byte) : Sparse 64 :=
  let floors : List (Nat × BitVec 64) :=
    (List.range 12).map (fun i => (0x20001400 + 4 * i, BitVec.ofNat 64 (hwMin stepping i * 65536 + hwMin stepping i)))
  let empties : List (Nat × BitVec 64) :=
    (List.range 8).flatMap (fun n => (List.range 48).map (fun j => (0x2010C100 + n * 0x10000 + 8 * j, 0xFFFFFFFFFFFFFFFF#64)))
  floors ++ [(0x20020000, 0x3E8#64), (0x20040000, BitVec.ofNat 64 (straps.toNat * 256 + 0x10 + straps.toNat % 16)),
    (0x200B0040, 0x100000000#64)] ++ empties

/-- Dictionary settings whose default is not zero. -/
def dictReset : Sparse 64 :=
  [(0x210001, 1024#64), (0x210002, 4#64), (0x220001, 3#64), (0x230010, 2#64),
   (0x230201, 25000#64), (0x230202, 1250#64), (0x230203, 32#64), (0x238002, 1#64), (0x238201, 12500000#64),
   (0x240010, 125000#64), (0x240011, 1250000#64), (0x270001, 2500#64), (0x270002, 5000#64), (0x270003, 2500#64),
   (0x278301, 12500#64), (0x278302, 8#64)]

/-- The cluster with its power domain at power-good, stage 0 about to run, for given straps and stepping (R14). -/
def Cluster.atPowerGood (straps : BitVec 6) (stepping : Byte) : Cluster where
  powered := true
  stage := 0
  straps := straps
  stepping := stepping
  clk := Clk.reset
  tb := Tb.reset
  tim := Timing.reset
  queues := Vector.replicate 52 EngQ.reset
  arrs := Vector.replicate 32 ArrSt.reset
  refs := []
  movs := []
  vecs := Vector.replicate 8 none
  feeds := Vector.replicate 8 Feeder.reset
  posts := []
  uses := []
  cores := Vector.replicate 8 Core.reset
  ctxs := Vector.replicate 64 Ctx.reset
  run := none
  freeAt := 0
  susp := []
  reqs := []
  rerun := none
  linings := []
  imgs := Vector.replicate 8 none
  intake := Intake.reset
  spd := Spd.reset
  mem := []
  memErr := []
  imem := []
  imemErr := []
  dmem := []
  dmemErr := []
  sbuf := []
  acc := []
  side := []
  chans := Vector.replicate 4 Chan.reset
  lanes := Vector.replicate 4 Lane.reset
  fifos := Vector.replicate 8 Fifo.reset
  turned := []
  winOld := []
  fabOut := []
  waiters := Vector.replicate 8 none
  syncOps := []
  acks := []
  xlat := []
  syncIn := []
  rdesc := []
  prod := []
  cons := []
  consOld := []
  pads := []
  sdesc0 := []
  sdesc1 := []
  scount := []
  sround := []
  sacc := []
  sorRes := []
  resets := []
  store := Vector.replicate 64 none
  nextOrd := 0
  moss := Moss.reset
  flt := Flt.reset
  reg := regReset straps stepping
  dict := dictReset
  tabErr := []
  vgath := []
  freeCtr := 0

/-- The machine right after reset: power-good asserted, stage 0 begins (R14, R448). Straps 0 and stepping SB are
the model's own choice (DESIGN CHOICE, log entries 1 and 2). -/
def State.reset : State := ⟨[], Cluster.atPowerGood 0 2⟩

end Sys2Proof.Machine
end

