-- ==== Sys2Proof/Machine/Flags.lean ====
section
/-! DEFINITION. Access to the parts of the cluster by number, and the flag computations: 48-bit counters with wrap
bits (R39), sticking counters, and records that latch while their VALID bit is clear. Log entries of its readings and
choices: 3 DESIGN CHOICE, 7 DESIGN CHOICE. -/

namespace Sys2Proof.Machine

/-- Element of a vector, or a default past its end. -/
def vat {α : Type} {n : Nat} (v : Vector α n) (i : Nat) (d : α) : α := v[i]?.getD d

/-- Vector with element i replaced (no change past its end). -/
def vset {α : Type} {n : Nat} (v : Vector α n) (i : Nat) (x : α) : Vector α n := v.setIfInBounds i x

/-- Context k. -/
def Cluster.ctx (c : Cluster) (k : Nat) : Ctx := vat c.ctxs k Ctx.reset
def Cluster.setCtx (c : Cluster) (k : Nat) (x : Ctx) : Cluster := { c with ctxs := vset c.ctxs k x }
/-- Control core n. -/
def Cluster.core (c : Cluster) (n : Nat) : Core := vat c.cores n Core.reset
def Cluster.setCore (c : Cluster) (n : Nat) (x : Core) : Cluster := { c with cores := vset c.cores n x }
/-- Engine queue q (R34). -/
def Cluster.queue (c : Cluster) (q : Nat) : EngQ := vat c.queues q EngQ.reset
def Cluster.setQueue (c : Cluster) (q : Nat) (x : EngQ) : Cluster := { c with queues := vset c.queues q x }
/-- Matrix array a. -/
def Cluster.arr (c : Cluster) (a : Nat) : ArrSt := vat c.arrs a ArrSt.reset
def Cluster.setArr (c : Cluster) (a : Nat) (x : ArrSt) : Cluster := { c with arrs := vset c.arrs a x }
/-- Data-mover channel k. -/
def Cluster.chan (c : Cluster) (k : Nat) : Chan := vat c.chans k Chan.reset
def Cluster.setChan (c : Cluster) (k : Nat) (x : Chan) : Cluster := { c with chans := vset c.chans k x }
/-- Fabric lane i. -/
def Cluster.lane (c : Cluster) (i : Nat) : Lane := vat c.lanes i Lane.reset
def Cluster.setLane (c : Cluster) (i : Nat) (x : Lane) : Cluster := { c with lanes := vset c.lanes i x }

/-- A stored register word (R23). -/
def Cluster.regAt (c : Cluster) (a : Nat) : W64 := Sparse.get c.reg a
def Cluster.setReg (c : Cluster) (a : Nat) (v : W64) : Cluster := { c with reg := Sparse.set c.reg a v }
/-- A stored dictionary setting, by index and subindex. -/
def Cluster.dictAt (c : Cluster) (i sub : Nat) : Nat := (Sparse.get c.dict (i * 256 + sub)).toNat
def Cluster.setDict (c : Cluster) (i sub v : Nat) : Cluster :=
  { c with dict := Sparse.set c.dict (i * 256 + sub) (BitVec.ofNat 64 v) }

/-- Set bit n of a stored register. -/
def Cluster.setBit (c : Cluster) (a n : Nat) : Cluster := c.setReg a (c.regAt a ||| BitVec.ofNat 64 (2 ^ n))

/-- Add n to a 48-bit performance counter at `a`; a wrap sets bit `bit` of register `evt` (R39). -/
def Cluster.bump (c : Cluster) (a evt bit n : Nat) : Cluster :=
  let v := (c.regAt a).toNat % 2 ^ 48 + n
  let c := c.setReg a (BitVec.ofNat 64 (v % 2 ^ 48))
  if 2 ^ 48 ≤ v then c.setBit evt bit else c

/-- Add n to field [hi:lo] of a stored register, sticking at all ones. -/
def Cluster.stick (c : Cluster) (a hi lo n : Nat) : Cluster :=
  let v := c.regAt a
  c.setReg a (setFld v hi lo (satN (2 ^ (hi + 1 - lo) - 1) (fld v hi lo + n)))

/-- Write a record whose VALID bit is bit 63, unless one is recorded already. -/
def Cluster.latch (c : Cluster) (a : Nat) (v : W64) : Cluster :=
  if bitAt (c.regAt a) 63 then c else c.setReg a (v ||| placeB true 63)

/-- Register bases (R23). -/
def rClu : Nat := 0x20000000
def rClk : Nat := 0x20010000
def rPwr : Nat := 0x20020000
def rTb  : Nat := 0x20030000
def rMgt : Nat := 0x20040000
def rInt : Nat := 0x20050000
def rFlt : Nat := 0x20060000
def rCtx : Nat := 0x20070000
def rSyn : Nat := 0x20080000
def rMsg : Nat := 0x20090000
def rDmv : Nat := 0x200A0000
def rSpd : Nat := 0x200B0000
/-- Window of core n: CORE_ at +0, MXE_ at +0x4000, VXE_ at +0x8000, TIL_ at +0xC000 (R23). -/
def rCore (n : Nat) : Nat := 0x20100000 + n * 0x10000
def rMxe (n : Nat) : Nat := rCore n + 0x4000
def rVxe (n : Nat) : Nat := rCore n + 0x8000
def rTil (n : Nat) : Nat := rCore n + 0xC000

/-- Next free value (R7, R282, R129): the counter moves on, so that each use is a value of its own. -/
def Cluster.freeB (c : Cluster) : Byte × Cluster := (Config.freeByte c.freeCtr, { c with freeCtr := c.freeCtr + 1 })
/-- n free bytes. -/
def Cluster.freeBs (c : Cluster) (n : Nat) : List Byte × Cluster :=
  ((List.range n).map (fun i => Config.freeByte (c.freeCtr + i)), { c with freeCtr := c.freeCtr + n })
/-- One free 32-bit word. -/
def Cluster.freeW (c : Cluster) : W32 × Cluster := (Config.freeWord c.freeCtr, { c with freeCtr := c.freeCtr + 1 })

/-- The live clock of timeouts counted in tk: TB less the ticks of DEBUG holds (R43). -/
def Cluster.tk (c : Cluster) : Nat := c.tb.value.toNat - c.tb.dbgTk

/-- Latency in force of manifest entry i (R50, R52). -/
def Cluster.floor (c : Cluster) (i : Nat) : Nat := fld (c.regAt (0x20001400 + 4 * i)) 15 0

/-- The LCC value executing, or next to execute while held (R30). -/
def Cluster.lcc (c : Cluster) : Nat := c.tim.lcc

/-- Add n to accounting counter k of a context: saturating at 64 bits with a sticky bit (R391). -/
def Cluster.account (c : Cluster) (ctx k n : Nat) : Cluster :=
  let a := rCtx + 0x4000 + 0x100 * ctx
  let v := (c.regAt (a + 8 * k)).toNat + n
  if v < 2 ^ 64 then c.setReg (a + 8 * k) (BitVec.ofNat 64 v)
  else (c.setReg (a + 8 * k) (BitVec.ofNat 64 (2 ^ 64 - 1))).setBit (a + 0x80) k

/-- Fold a state change over a list. -/
def Cluster.each {α : Type} (c : Cluster) (l : List α) (f : Cluster → α → Cluster) : Cluster := l.foldl f c

/-- The outcome of a command: the cluster after it, with the queue as it was. -/
def done (s : State) (c : Cluster) : Host.Outcome State Fault Refusal := .next { s with cl := c }

end Sys2Proof.Machine
end

