-- ==== Sys2Proof/Machine/Operands.lean ====
section
/-! DEFINITION. Operand forms: the common fields of a macro-op (R215), banks and lines (R279), handles (R286),
tile addressing (R195), flit headers (R311) and spore headers (R325). -/

namespace Sys2Proof.Machine

/-- Common fields of a macro-op (R215). -/
def opOpc (o : MacroOp) : Nat := fld o 255 248
def opCtx (o : MacroOp) : Nat := fld o 247 242
def opPP (o : MacroOp) : Bool := bitAt o 241
def opNul (o : MacroOp) : Bool := bitAt o 240
def opDur (o : MacroOp) : Nat := fld o 239 224
def opStamp (o : MacroOp) : Nat := fld o 223 192

/-- Line, logical bank and bank line of a scratchpad address (R279). -/
def lineOf (a : Nat) : Nat := a / 64
def lbankOf (a : Nat) : Nat := a / 64 % 256
def qlineOf (a : Nat) : Nat := a / 64 / 256
/-- End of the scratchpad, and base of the sync window (R21). -/
def spdEnd : Nat := 0x0C000000
def syncBase : Nat := 0x0BF00000

/-- Rotation in force (R301). -/
def Cluster.rot (c : Cluster) : Nat := fld (c.regAt 0x200B0000) 15 8
/-- Physical bank of a logical bank (R279). -/
def Cluster.pbank (c : Cluster) (l : Nat) : Nat := (l + c.rot) % 256
/-- Is the bank of a scratchpad address fenced? -/
def Cluster.fencedAt (c : Cluster) (a : Nat) : Bool := c.flt.fenB.getLsbD (c.pbank (lbankOf a))

/-- Register address of handle h (R286). -/
def rHnd (h : Nat) : Nat := 0x200B8000 + 8 * h
/-- Fields of a handle entry. -/
def hndValid (w : W64) : Bool := bitAt w 63
def hndOwner (w : W64) : Nat := fld w 57 52
def hndBase (w : W64) : Nat := fld w 43 22
def hndSize (w : W64) : Nat := fld w 21 0

/-- The valid handles whose range covers a line, ascending: number and entry (R287). -/
def Cluster.handlesAt (c : Cluster) (line : Nat) : List (Nat × W64) :=
  (c.reg.filter (fun kv => decide (rHnd 0 ≤ kv.1) && decide (kv.1 < rHnd 4096) && hndValid kv.2 &&
    decide (hndBase kv.2 ≤ line) && decide (line < hndBase kv.2 + hndSize kv.2))).map
    (fun kv => ((kv.1 - rHnd 0) / 8, kv.2))

/-- Local address of line `off` of handle h. -/
def Cluster.hndLine (c : Cluster) (h off : Nat) : Nat := (hndBase (c.regAt (rHnd h)) + off) * 64

/-- Tiles: slot address (R22), configuration and empty bits (R195, R196). -/
def tileSlot (n t : Nat) : Nat := 0x10000000 + n * 0x100000 + t * 0x8000
def rTilCfg (n t : Nat) : Nat := rTil n + 4 * t
def rTilEmpty (n t : Nat) : Nat := rTil n + 0x100 + 0x10 * t
def Cluster.tileCfg (c : Cluster) (n t : Nat) : W64 := c.regAt (rTilCfg n t)
def Cluster.tileValid (c : Cluster) (n t : Nat) : Bool := decide (t < 24) && bitAt (c.tileCfg n t) 11
def Cluster.tileRows (c : Cluster) (n t : Nat) : Nat := fld (c.tileCfg n t) 10 4 + 1
def Cluster.tileB (c : Cluster) (n t : Nat) : Nat := 16 * (fld (c.tileCfg n t) 3 0 + 1)
/-- Empty bits of a tile as one 128-bit number. -/
def Cluster.tileEmpty (c : Cluster) (n t : Nat) : Nat :=
  (c.regAt (rTilEmpty n t)).toNat + (c.regAt (rTilEmpty n t + 8)).toNat * 2 ^ 64
def Cluster.setTileEmpty (c : Cluster) (n t v : Nat) : Cluster :=
  (c.setReg (rTilEmpty n t) (BitVec.ofNat 64 v)).setReg (rTilEmpty n t + 8) (BitVec.ofNat 64 (v / 2 ^ 64))

/-- Row r of a tile: B bytes; zero when empty, unconfigured or beyond the configuration (R196, R199). -/
def Cluster.tileRow (c : Cluster) (n t r : Nat) : List Byte :=
  if c.tileValid n t && decide (r < c.tileRows n t) && !(c.tileEmpty n t).testBit r then
    Memory.bytes c.mem (tileSlot n t + r * c.tileB n t) (c.tileB n t)
  else List.replicate (c.tileB n t) 0

/-- Byte k of a tile taken as one stream from row 0 (R196, R199). -/
def Cluster.tileByte (c : Cluster) (n t k : Nat) : Byte :=
  let b := c.tileB n t
  let r := k / b
  if c.tileValid n t && decide (r < c.tileRows n t) && !(c.tileEmpty n t).testBit r then
    Memory.byte c.mem (tileSlot n t + k)
  else 0

/-- n bytes of a tile from stream byte k. -/
def Cluster.tileBytes (c : Cluster) (n t k len : Nat) : List Byte :=
  (List.range len).map (fun i => c.tileByte n t (k + i))

/-- Bytes from stream position k across several tiles in order, each of its configured size (R91, R130). -/
def Cluster.tilesBytes (c : Cluster) (n : Nat) (ts : List Nat) (k len : Nat) : List Byte :=
  match ts with
  | [] => List.replicate len 0
  | t :: rest =>
    let sz := c.tileRows n t * c.tileB n t
    if k < sz then
      let here := min len (sz - k)
      c.tileBytes n t k here ++ (if here < len then c.tilesBytes n rest 0 (len - here) else [])
    else c.tilesBytes n rest (k - sz) len

/-- Write bytes into row r of a tile from byte off: an empty row is first zeroed in its other bytes, bytes beyond
the configuration are dropped (R196, R199). -/
def Cluster.tileWrite (c : Cluster) (n t r off : Nat) (bs : List Byte) : Cluster :=
  if c.tileValid n t && decide (r < c.tileRows n t) then
    let b := c.tileB n t
    let bs := bs.take (b - off)
    if bs.isEmpty then c else
    let base := tileSlot n t + r * b
    let e := c.tileEmpty n t
    if e.testBit r then
      let mem := Memory.write (Sparse.clearRange (w := 8) c.mem base (base + b)) (base + off) bs
      ({ c with mem := mem }).setTileEmpty n t (e - 2 ^ r)
    else { c with mem := Memory.write c.mem (base + off) bs }
  else c

/-- Write a byte stream into a tile from stream byte k, row by row; a row only partly covered follows R196. -/
def Cluster.tileStream (c : Cluster) (n t k : Nat) (bs : List Byte) : Cluster :=
  let b := c.tileB n t
  let rows := (k + bs.length + b - 1) / b - k / b
  c.each (List.range rows) (fun c i =>
    let r := k / b + i
    let lo := max k (r * b)
    let hi := min (k + bs.length) ((r + 1) * b)
    c.tileWrite n t r (lo - r * b) ((bs.drop (lo - k)).take (hi - lo)))

/-- Return a tile to its state at LCC 0: no geometry, every row empty (R197, R203). -/
def Cluster.tileRelease (c : Cluster) (n t : Nat) : Cluster :=
  (c.setReg (rTilCfg n t) 0).setTileEmpty n t (2 ^ 128 - 1)

/-- Header fields of a flit (R311). -/
def fLseq (f : Flit) : Nat := fld f.hdr 127 116
def fAseq (f : Flit) : Nat := fld f.hdr 115 104
def fAv (f : Flit) : Bool := bitAt f.hdr 103
def fNak (f : Flit) : Bool := bitAt f.hdr 102
def fType (f : Flit) : Nat := fld f.hdr 101 98
def fStat (f : Flit) : Nat := fld f.hdr 97 94
def fSrccl (f : Flit) : Nat := fld f.hdr 93 88
def fTxn (f : Flit) : Nat := fld f.hdr 87 68
def fLmask (f : Flit) : Nat := fld f.hdr 67 64
def fGaddr (f : Flit) : Nat := fld f.hdr 47 0

/-- A header of the given type, status, requester, transaction, line mask and address (R311); the sequence and
acknowledgement fields are filled when the flit is sent. -/
def mkHdr (ty stat srccl txn lmask gaddr : Nat) : BitVec 128 :=
  BitVec.ofNat 128 ((ty % 16) <<< 98 + (stat % 16) <<< 94 + (srccl % 64) <<< 88 + (txn % 2 ^ 20) <<< 68
    + (lmask % 16) <<< 64 + gaddr % 2 ^ 48)

/-- The 16 header bytes [127:0], little-endian (R314). -/
def hdrBytes (h : BitVec 128) : List Byte := leBytes 16 h.toNat

/-- Header fields of a spore (R325). -/
def sSeq (h : BitVec 128) : Nat := fld h 127 112
def sScl (h : BitVec 128) : Nat := fld h 111 106
def sScore (h : BitVec 128) : Nat := fld h 105 103
def sElemOff (h : BitVec 128) : Nat := fld h 102 94
def sNelc (h : BitVec 128) : Nat := fld h 93 85 + 1
def sDcl (h : BitVec 128) : Nat := fld h 63 58
def sDcore (h : BitVec 128) : Nat := fld h 57 55
def sDring (h : BitVec 128) : Nat := fld h 54 42
def sLen (h : BitVec 128) : Nat := fld h 25 21 + 1
def sCtx (h : BitVec 128) : Nat := fld h 20 15
def sClass (h : BitVec 128) : Bool := bitAt h 14
def sKind (h : BitVec 128) : Nat := fld h 13 12

end Sys2Proof.Machine
end

