-- ==== Sys2Proof/Machine/Ops.lean ====
section
/-! DEFINITION. Shared operations: events of the moss agent (R468), the fault collector (R410 to R428), pending fences
(R427), teardown (R386), and faults contained to a context. Log entries of its readings and choices: 14 DEDUCED, 42
DEDUCED, 47 DEDUCED, 48 DEDUCED, 68 DEDUCED, 86 DEDUCED, 105 DEDUCED. -/

namespace Sys2Proof.Machine

/-- Powered and not in F: the state in which the units act (R424, R443). -/
def Cluster.live (c : Cluster) : Bool := c.powered && !c.flt.fatal
/-- Stage 3, powered and not in F (R448). -/
def Cluster.ready (c : Cluster) : Bool := c.live && c.stage == 3

/-- Does the moss agent answer writes: powered, not in F, and stage 0 complete (R424, R452, R461)? -/
def Cluster.answers (c : Cluster) : Bool := c.live && decide (1 ≤ c.stage)

/-- Low n bits of TB at present. -/
def Cluster.tbNow (c : Cluster) : Nat := c.tb.value.toNat

/-- Queue an event, or count it LOST when 8 are queued (R468, R469). -/
def Cluster.event (c : Cluster) (code : Nat) (data : List Byte) : Cluster :=
  let m := c.moss
  if m.events.length < 8 then
    let pay := leBytes 2 m.evSeq ++ leBytes 1 code ++ leBytes 1 0 ++ leBytes 8 c.tbNow ++
      (data ++ List.replicate 16 0).take 16
    { c with moss := { m with events := m.events ++ [⟨m.evSeq, pay⟩], evSeq := (m.evSeq + 1) % 65536 } }
  else { c with moss := { m with lost := satN 0xFFFF (m.lost + 1) } }

/-- Class, scope, escalation domain (0 none, 1 bank, 2 core, 3 array, 4 cluster) and force point of a source. -/
structure SrcInfo where
  cls   : Nat
  scope : Nat
  esc   : Nat
  det   : Bool
  deriving DecidableEq, Repr

/-- The fault sources (R412). Classes: 1 C, 2 U, 3 F. -/
def srcInfo (s : Nat) : Option SrcInfo :=
  if 1 ≤ s && s ≤ 7 then some ⟨3, 5, 0, false⟩
  else if s = 8 then some ⟨1, 0, 0, false⟩
  else if s = 0x15 then some ⟨2, 2, 0, false⟩
  else if s = 0x19 then some ⟨1, 0, 0, false⟩
  else if 0x10 ≤ s && s ≤ 0x1F then some ⟨2, 1, 0, false⟩
  else if s = 0x20 then some ⟨1, 0, 1, true⟩
  else if s = 0x21 then some ⟨2, 3, 1, true⟩
  else if s = 0x22 then some ⟨1, 0, 0, true⟩
  else if s = 0x23 then some ⟨2, 1, 1, false⟩
  else if s = 0x24 then some ⟨1, 0, 2, true⟩
  else if s = 0x25 then some ⟨2, 2, 2, true⟩
  else if s = 0x26 then some ⟨2, 2, 2, true⟩
  else if s = 0x27 then some ⟨2, 2, 2, false⟩
  else if s = 0x28 then some ⟨2, 1, 3, true⟩
  else if s = 0x29 then some ⟨1, 0, 0, true⟩
  else if s = 0x2A then some ⟨2, 0, 0, false⟩
  else if s = 0x2B then some ⟨1, 0, 4, true⟩
  else if s = 0x2C then some ⟨2, 4, 4, true⟩
  else none

/-- Make bank p pending for fencing (R427). -/
def Cluster.pendBank (c : Cluster) (p : Nat) : Cluster :=
  if c.flt.fenB.getLsbD p then c
  else { c with flt := { c.flt with pendB := c.flt.pendB ||| BitVec.ofNat 256 (2 ^ p) } }
/-- Make array a pending for fencing (R427). -/
def Cluster.pendArr (c : Cluster) (a : Nat) : Cluster :=
  if c.flt.fenA.getLsbD a then c
  else { c with flt := { c.flt with pendA := c.flt.pendA ||| BitVec.ofNat 32 (2 ^ a) } }
/-- Make core n pending for fencing, and its four arrays with it (R427). -/
def Cluster.pendCore (c : Cluster) (n : Nat) : Cluster :=
  if c.flt.fenC.getLsbD n then c
  else
    let c := { c with flt := { c.flt with pendC := c.flt.pendC ||| BitVec.ofNat 8 (2 ^ n) } }
    c.each [4 * n, 4 * n + 1, 4 * n + 2, 4 * n + 3] Cluster.pendArr

/-- Is the instance of an escalation domain fenced or pending (R420)? -/
def Cluster.condemned (c : Cluster) (dom inst : Nat) : Bool :=
  match dom with
  | 1 => c.flt.fenB.getLsbD inst || c.flt.pendB.getLsbD inst
  | 2 => c.flt.fenC.getLsbD inst || c.flt.pendC.getLsbD inst
  | 3 => c.flt.fenA.getLsbD inst || c.flt.pendA.getLsbD inst
  | _ => false

/-- Make the unit of an escalation domain pending for fencing (R420). -/
def Cluster.pendUnit (c : Cluster) (dom inst : Nat) : Cluster :=
  match dom with
  | 1 => c.pendBank inst
  | 2 => c.pendCore inst
  | 3 => c.pendArr inst
  | _ => c

/-- Escalation domain of a source (R412). -/
def escDomain (s : Nat) : Nat :=
  match srcInfo s with
  | some i => i.esc
  | none => 0

/-- Change HSTATE, with its event (R422, R469). -/
def Cluster.setHealth (c : Cluster) (h : Nat) : Cluster :=
  if c.flt.hstate = h then c
  else
    let old := c.flt.hstate
    let c := { c with flt := { c.flt with hstate := h } }
    c.event 1 (leBytes 1 h ++ leBytes 1 old ++ leBytes 1 c.flt.fatalSrc ++ leBytes 1 0 ++ leBytes 2 c.flt.recov)

/-- Entry to F (R424): every unit stops; linings, suspended linings and intake end with no further action. -/
def Cluster.fatalEntry (c : Cluster) (src : Nat) : Cluster :=
  if c.flt.fatal then c
  else
    let c := { c with flt := { c.flt with fatal := true, fatalSrc := src } }
    let c := { c with run := none, susp := [], rerun := none, tim := { c.tim with running := false, hold := none, next := none },
                      intake := { c.intake with state := 0, step := 0 } }
    c.setHealth 3

/-- QUIET in tk (R423). -/
def Cluster.quiet (c : Cluster) : Nat := c.dictAt 0x2400 0x11

/-- Latch FLT_FIRST, or set OVF while it is valid (R418). -/
def Cluster.latchFirst (c : Cluster) (f : FaultIn) (cls : Nat) (esc : Bool) : Cluster :=
  let a := rFlt + 0x10
  let w := c.regAt a
  if bitAt w 63 then c.setReg a (w ||| placeB true 62)
  else
    let w := placeB true 63 ||| place cls 60 ||| placeB esc 59 ||| placeB f.forced 58 ||| place f.src 50
      ||| place (if cls = 3 then 5 else f.scope) 47 ||| place (if f.scope = 1 then f.ctx else 0) 41 ||| place f.inst 29
    let c := (c.setReg a w).setReg (a + 8) f.tb
    c.event 2 (leBytes 8 w.toNat ++ leBytes 8 f.tb.toNat)

/-- A source record after one more fault: COUNT and LASTTB (R417). -/
def countFault (r : W64) (tb : Nat) : W64 := setFld (setFld r 47 32 (satN 0xFFFF (fld r 47 32 + 1))) 31 0 tb

/-- A source record that becomes pending (R417). -/
def pendFault (r : W64) (cls inst : Nat) : W64 :=
  setFld (setFld (setFld (setFld r 63 63 1) 62 61 cls) 60 60 0) 59 48 inst

/-- The health state after a fault of a class (R422, R423). -/
def Cluster.health (c : Cluster) (cls src : Nat) : Cluster :=
  if cls = 3 then c.fatalEntry src
  else if cls = 2 then
    let c := { c with flt := { c.flt with quietAt := c.tk + c.quiet } }
    if c.flt.hstate ≤ 1 then c.setHealth 2 else c
  else if c.flt.hstate = 0 then c.setHealth 1
  else c

/-- The collector takes a fault into its records (R413 to R422). -/
def Cluster.takeFault (c : Cluster) (f : FaultIn) : Cluster :=
  let a := rFlt + 0x1000 + 8 * f.src
  let r := c.regAt a
  let r1 := countFault r f.tb.toNat
  if f.scope = 1 && f.torn then c.setReg a r1
  else
    let dom := escDomain f.src
    let esc := dom != 0 && bitAt r 63 && fld r 62 61 == f.cls && fld r 59 48 == f.inst && f.cls != 3 && !f.noEsc
      && !c.condemned dom f.inst
    let cls := if esc then (if dom = 4 && f.cls = 2 then 3 else 2) else f.cls
    let r2 :=
      if esc then setFld (setFld r1 62 61 2) 60 60 1
      else if !bitAt r 63 && f.cls != 3 then pendFault r1 f.cls f.inst
      else r1
    let c := c.setReg a r2
    let c := if esc then c.pendUnit dom f.inst else c
    (c.latchFirst f cls esc).health cls f.src

/-- Hand a detected fault to the collector (R413). -/
def Cluster.record (c : Cluster) (f : FaultIn) : Cluster :=
  { c with flt := { c.flt with inbox := c.flt.inbox ++ [{ f with tb := c.tb.value }] } }

/-- The collector's CK_M cycle: the faults that have reached it are recorded in ascending source, and within one
source in ascending instance (R413). -/
def Cluster.collect (c : Cluster) : Cluster :=
  let key : FaultIn → Nat := fun f => 4096 * f.src + f.inst
  ({ c with flt := { c.flt with inbox := [] } }).each (sortOn key c.flt.inbox) Cluster.takeFault

/-- A context is torn down for more than a detection of forerunner mode, so that the re-run does not undo it (R299). -/
def Cluster.keepTorn (c : Cluster) (k : Nat) : Cluster :=
  match c.run with
  | none => c
  | some r => { c with run := some { r with detTorn := r.detTorn.filter (fun j => j != k) } }

/-- Teardown of context k (R386, R387, R391): ops that start at LCC t + 2 or later are nullified; a context that
is not bound, or whose lining has not executed LCC 0, is torn down from the start. -/
def Cluster.teardown (c : Cluster) (k : Nat) : Cluster :=
  let x := c.ctx k
  if x.torn then c.keepTorn k
  else
    let c := c.account k 15 1
    let bound := x.state == 2
    let begun := match c.run with
      | some r => r.begun
      | none => false
    c.setCtx k { x with torn := true, tornAt := if bound && begun then c.lcc + 2 else 0,
                        tornEff := c.clk.free + (if bound then 2 else 0) }

/-- Raise a fault of scope 0 or 1: containment first, then the collector (R411, R413). -/
def Cluster.raise (c : Cluster) (src inst ctx : Nat) : Cluster :=
  match srcInfo src with
  | none => c
  | some i =>
    let torn := (c.ctx ctx).torn
    let c := if i.scope = 1 then c.teardown ctx else c
    c.record { src := src, cls := i.cls, inst := inst, scope := i.scope, ctx := ctx, torn := torn }

/-- Raise a fault whose source contains it to no context (F sources, C sources). -/
def Cluster.raise0 (c : Cluster) (src inst : Nat) : Cluster :=
  match srcInfo src with
  | none => c
  | some i => c.record { src := src, cls := i.cls, inst := inst, scope := i.scope, ctx := 0 }

/-- Is context k torn down as the control cores and the other units see it (R272, R386)? -/
def Cluster.tornSeen (c : Cluster) (k : Nat) : Bool := (c.ctx k).torn && decide ((c.ctx k).tornEff ≤ c.clk.free)

/-- Is an op of context k that starts at LCC t nullified by teardown (R136, R386)? -/
def Cluster.tornOp (c : Cluster) (k t : Nat) : Bool := (c.ctx k).torn && decide ((c.ctx k).tornAt ≤ t)

/-- Is the armed detector of a source and instance set (R432)? -/
def Cluster.armedAt (c : Cluster) (src inst : Nat) : Bool := c.flt.armed.contains (src, inst)
/-- Use up an armed injection: the force bit reads 0 again (R432). -/
def Cluster.disarm (c : Cluster) (src : Nat) : Cluster :=
  { c with flt := { c.flt with armed := c.flt.armed.filter (fun p => p.1 != src) } }

/-- Table words that the verifier writes (R416): a single-bit error is corrected, written back and raises TAB_CE;
the answer tells whether every word could be used. TAB_UE is raised by `tabRead` of the lining operations. -/
def Cluster.tabFix (c : Cluster) (keys : List Nat) : Cluster × Bool :=
  let bad := c.tabErr.filter (fun kv => keys.contains kv.1)
  let c1 := bad.foldl (fun (c : Cluster) kv =>
    if popcount 64 kv.2.toNat = 1 then { c with tabErr := Sparse.set c.tabErr kv.1 0 }.raise0 0x2B 0 else c) c
  (c1, bad.all (fun kv => popcount 64 kv.2.toNat == 1))

/-- Keys of the table words that have no register address of their own. -/
def kRing (r : Nat) : Nat := 0x100000000 + r
def kSorus (e : Nat) : Nat := 0x100010000 + 2 * e
def kXlat (i : Nat) : Nat := 0x100100000 + i
def kLining (lid : Nat) : Nat := 0x100200000 + 72 * lid

/-- Does the DEBUG cause hold LCC t (R475)? -/
def Cluster.debugAt (c : Cluster) (t : Nat) : Bool :=
  c.tim.haltSeen && (match c.tim.stepEnd with
    | some e => decide (e ≤ t)
    | none => true)

/-- Does DEBUG hold the static domain in the present cycle (R43, R475)? -/
def Cluster.debugHeld (c : Cluster) : Bool :=
  c.tim.running && (match c.tim.hold with
    | some h => decide (h.target ≤ c.lcc) && h.mask.testBit 4 && c.debugAt h.target
    | none => false)

/-- Is a halt in force: DEBUG holds the static domain, or a lining has ended while it did, and HALTREQ has stood since
(R475, log entry 105)? -/
def Cluster.halted (c : Cluster) : Bool := c.tim.haltKept || c.debugHeld

end Sys2Proof.Machine
end

