-- ==== Sys2Proof/Machine/Port.lean ====
section
/-! DEFINITION. The fabric port: sending, keeping, acknowledging and re-sending flits, lanes that go down (R311 to
R316), and the completion of own transfers (R307, R308). Log entries of its readings and choices: 43 DEDUCED, 44
DEDUCED, 85 DEDUCED, 90 DEDUCED. -/

namespace Sys2Proof.Machine

/-- Retry buffer occupancy: flits sent and not acknowledged, over the four outbound halves (R315). -/
def Cluster.retryOcc (c : Cluster) : Nat :=
  ((List.range 4).map (fun i => ((c.lane i).kept.filter (fun k => k.sends != 0)).length)).foldl (· + ·) 0

/-- May the port send a new flit (R315)? -/
def Cluster.portRoom (c : Cluster) : Bool := decide (c.retryOcc < 1024)

/-- A flit with its sequence, acknowledgement and CRC fields filled (R311, R314, R315). -/
def sealFlit (lseq rx : Nat) (nak : Bool) (f : Flit) : Flit :=
  let h := setFld (setFld (setFld (setFld f.hdr 127 116 lseq) 115 104 rx) 103 103 1) 102 102 (if nak then 1 else 0)
  { f with hdr := h, crc := crc32c (hdrBytes h ++ f.payload) }

/-- Put a flit on the outbound half of a lane. -/
def Cluster.emit (c : Cluster) (l : Nat) (f : Flit) : Cluster := { c with fabOut := c.fabOut ++ [(l, f)] }

/-- Does the next flit of a half carry a NAK (R315)? -/
def Lane.owesNak (ln : Lane) : Bool := ln.owe == some true

/-- Send the acknowledgement, or the NAK, that a lane still owes as a LINK flit: no other flit of the half has carried it
(R312, R315). -/
def Cluster.flushAck (c : Cluster) (l : Nat) : Cluster :=
  let ln := c.lane l
  if ln.up && ln.owe.isSome then
    (c.setLane l { ln with owe := none }).emit l (sealFlit 0 ln.rx ln.owesNak ⟨mkHdr 0 0 c.straps.toNat 0 0 0, 0, []⟩)
  else c

/-- Send the first flit of a lane that has not been sent yet, if the retry buffer has room (R315). -/
def Cluster.pumpLane (c : Cluster) (l : Nat) : Cluster :=
  let ln := c.lane l
  match findIdxN (fun k => k.sends == 0) ln.kept with
  | none => c
  | some i =>
    if c.portRoom && ln.up then
      match ln.kept[i]? with
      | none => c
      | some k =>
        let f := sealFlit ln.tx ln.rx ln.owesNak k.flit
        (c.setLane l { ln with tx := (ln.tx + 1) % 4096, kept := listSet ln.kept i ⟨f, 1, c.clk.free⟩, owe := none }).emit l f
    else c

/-- Send every waiting flit that the retry buffer has room for. -/
def Cluster.pump (c : Cluster) : Cluster :=
  c.each (List.range 4) (fun c l => c.each (List.range (c.lane l).kept.length) (fun c _ => c.pumpLane l))

/-- Lane of a network for an address: GADDR[8], or the partner when that lane is down (R312, R316). -/
def Cluster.laneFor (c : Cluster) (ty gaddr : Nat) : Nat :=
  let net := if ty = 1 || ty = 2 || ty = 6 || ty = 8 || ty = 9 then 0 else 2
  let l := net + gaddr / 256 % 2
  if (c.lane l).up then l else net + (gaddr / 256 + 1) % 2

/-- Hand a flit to the port: it is sent now, or as soon as the retry buffer has room (R315, R424). -/
def Cluster.sendFlit (c : Cluster) (h : BitVec 128) (payload : List Byte) : Cluster :=
  if !c.live then c
  else
    let l := c.laneFor (fld h 101 98) (fld h 47 0)
    let ln := c.lane l
    (c.setLane l { ln with kept := ln.kept ++ [⟨⟨h, 0, payload⟩, 0, c.clk.free⟩] }).pumpLane l

/-- LINK_LIMIT (R323). -/
def Cluster.linkLimit (c : Cluster) : Nat := c.dictAt 0x2783 2

/-- Lane l goes down: its kept flits move to the partner ahead of new flits, renumbered; FAB_LANE, and FAB_PORT
when both lanes of the network are down (R316). -/
def Cluster.laneDown (c : Cluster) (l : Nat) : Cluster :=
  let p := if l % 2 = 0 then l + 1 else l - 1
  let ln := c.lane l
  let pt := c.lane p
  let sent := ln.kept.filter (fun k => k.sends != 0)
  let new := ln.kept.filter (fun k => k.sends == 0)
  let c := c.setLane l { ln with up := false, dead := true, kept := [] }
  let c :=
    if pt.up then
      let moved := sent.zipIdx.map (fun ki =>
        (⟨sealFlit ((pt.tx + ki.2) % 4096) pt.rx (ki.2 == 0 && pt.owesNak) ki.1.flit, 1, c.clk.free⟩ : Kept))
      let done_ := pt.kept.filter (fun k => k.sends != 0)
      let wait := pt.kept.filter (fun k => k.sends == 0)
      let c := c.setLane p { pt with
        tx := (pt.tx + sent.length) % 4096
        kept := done_ ++ moved ++ wait ++ new
        owe := if sent.isEmpty then pt.owe else none }
      let c := c.each moved (fun c k => c.emit p k.flit)
      c.bump (rMsg + 0xC008 + 0x20 * p) (rMsg + 0xC090) p sent.length
    else c
  let c := c.raise0 0x2A l
  if pt.up then c else c.raise0 0x06 0

/-- Re-send kept flit i of a lane and those behind it, in order; one at LINK_LIMIT takes the lane down (R315, R316). -/
def Cluster.resendFrom (c : Cluster) (l : Nat) : Nat → Nat → Cluster
  | 0, _ => c
  | n + 1, i =>
    let ln := c.lane l
    match ln.kept[i]? with
    | none => c
    | some k =>
      if k.sends = 0 then c
      else if c.linkLimit ≤ k.sends then c.laneDown l
      else
        let f := sealFlit (fLseq k.flit) ln.rx ln.owesNak k.flit
        let c := (c.setLane l { ln with kept := listSet ln.kept i ⟨f, k.sends + 1, c.clk.free⟩, owe := none }).emit l f
        (c.bump (rMsg + 0xC008 + 0x20 * l) (rMsg + 0xC090) l 1).resendFrom l n (i + 1)

/-- Re-send every kept flit of a lane. -/
def Cluster.resendAll (c : Cluster) (l : Nat) : Cluster := c.resendFrom l (c.lane l).kept.length 0

/-- Take the acknowledgement fields of an inbound flit for the reverse half of its lane (R315). -/
def Cluster.takeAck (c : Cluster) (l : Nat) (f : Flit) : Cluster :=
  if !fAv f then c
  else
    let ln := c.lane l
    let a := fAseq f
    let keep := ln.kept.filter (fun k => k.sends == 0 || decide ((fLseq k.flit + 4096 - a) % 4096 < 2048))
    let c := c.setLane l { ln with kept := keep }
    let c := if fNak f then c.resendAll l else c
    c.pump

/-- Owe a NAK with the expected number, once per gap (R315). -/
def Cluster.nak (c : Cluster) (l : Nat) : Cluster :=
  let ln := c.lane l
  if ln.nakOpen then c else c.setLane l { ln with nakOpen := true, owe := some true }

/-- What a flit with a correct CRC does to the sequence of its lane (R315): accepted in its turn, acknowledged again, or
a gap. The answer tells whether it is accepted. -/
def Cluster.sequence (c : Cluster) (l : Nat) (f : Flit) : Cluster × Bool :=
  let ln := c.lane l
  if fLseq f = ln.rx then (c.setLane l { ln with rx := (ln.rx + 1) % 4096, nakOpen := false, owe := some false }, true)
  else if (ln.rx + 4096 - fLseq f) % 4096 ≤ 2048 then (c.setLane l { ln with owe := some ln.owesNak }, false)
  else (c.nak l, false)

/-- A flit arrives on a lane: CRC, type and sequence, and its acknowledgement fields (R314, R315). The answer tells
whether it is accepted. -/
def Cluster.accept (c : Cluster) (l : Nat) (f : Flit) : Cluster × Bool :=
  let armed := c.armedAt 0x29 l
  if armed || f.crc != crc32c (hdrBytes f.hdr ++ f.payload) || decide (10 ≤ fType f) then
    let c := if armed then c.disarm 0x29 else c
    let c := c.bump (rMsg + 0xC010 + 0x20 * l) (rMsg + 0xC090) (4 + l) 1
    ((c.raise0 0x29 l).nak l, false)
  else if fType f = 0 then (c.takeAck l f, false)
  else
    let p := c.sequence l f
    (p.1.takeAck l f, p.2)

/-- Lane that names the port's own turn-round (R306). -/
def selfLane : Nat := 4

/-- The record and fault of a failed transfer (R308): status, channel, context, address and number of the block. -/
def Cluster.xferLog (c : Cluster) (stat ch : Nat) (op : MacroOp) (k : Nat) : Cluster :=
  let c :=
    if bitAt (c.regAt (rDmv + 0x100)) 63 then c
    else (c.setReg (rDmv + 0x100) (placeB true 63 ||| place stat 59 ||| place ch 57 ||| place (opCtx op) 51
      ||| place ((fld op 191 144 + 256 * k) % 2 ^ 48) 0)).setReg (rDmv + 0x108) (place k 32 ||| place (opStamp op) 0)
  (c.bump (rDmv + 0x110) (rDmv + 0x118) 0 1).raise 0x18 ch (opCtx op)

/-- Clear the park record of a channel (R309). -/
def Cluster.parkClear (c : Cluster) (ch : Nat) : Cluster :=
  let a := rDmv + 0x40 + 0x10 * ch
  (c.setChan ch { c.chan ch with park := none }).setReg a (c.regAt a &&& 0x7FFFFFFFFFFFFFFF)

/-- Channel, table slot and block that the TXN of a block names (R307). -/
def txnBlock (txn : Nat) : Nat × Nat × Nat := (txn / 2 ^ 18 % 4, txn / 2 ^ 14 % 16, txn % 2 ^ 14)

/-- Transfers of a channel with blocks that may be in flight: the failed ones that have left its table first. -/
def Chan.all (cn : Chan) : List Xfer := cn.left ++ cn.tab.toList.filterMap id

/-- Has a failed transfer left the table with blocks in flight (R308)? -/
def Chan.gone (cn : Chan) (ord : Nat) : Bool := cn.left.any (fun x => x.order == ord)

/-- Put the changed transfer of its order back where it is. -/
def Chan.put (cn : Chan) (x : Xfer) : Chan :=
  if cn.gone x.order then { cn with left := cn.left.map (fun y => if y.order = x.order then x else y) }
  else { cn with tab := vset cn.tab x.slot (some x) }

/-- Take a transfer out. -/
def Chan.drop (cn : Chan) (x : Xfer) : Chan :=
  if cn.gone x.order then { cn with left := cn.left.filter (fun y => y.order != x.order) }
  else { cn with tab := vset cn.tab x.slot none }

/-- Drop what a DMPUT has read of blocks that it has not sent. -/
def Cluster.dropReads (c : Cluster) (ch ord : Nat) : Cluster :=
  let keep : BGroup → Bool := fun g => match g.done with
    | .putBlock a b _ => !(a == ch && b == ord)
    | _ => true
  { c with spd := { c.spd with groups := c.spd.groups.filter keep } }

/-- A transfer of a channel fails at block k: it sends no more blocks and leaves the table as complete; blocks in
flight complete normally; DMV_XFER is raised (R308). `gone` drops block k from those in flight. -/
def Cluster.xferFail (c : Cluster) (ch slot stat k : Nat) (gone : Bool) : Cluster :=
  let cn := c.chan ch
  match vat cn.tab slot none with
  | none => c
  | some x =>
    let x' := { x with parked := false, dec := if gone then x.dec.filter (· != k) else x.dec }
    let c := c.setChan ch { cn with tab := vset cn.tab slot none, left := if x'.dec.isEmpty then cn.left else cn.left ++ [x'] }
    let c := c.dropReads ch x.order
    let c := if cn.park = some slot then c.parkClear ch else c
    c.xferLog stat ch x.op k

/-- Lines of block k of a transfer (R307). -/
def xferLines (op : MacroOp) (k : Nat) : Nat := min 4 (fld op 109 90 + 1 - 4 * k)

/-- Block k of the transfer of an order completes: progress, accounting, and the table entry when it was the last (R307,
R308, R391). -/
def Cluster.blockDone (c : Cluster) (ch ord k : Nat) : Cluster :=
  let cn := c.chan ch
  match cn.all.find? (fun x => x.order == ord) with
  | none => c
  | some x =>
    if !x.dec.contains k then c else
    let x' := { x with got := x.got + 1, at_ := if x.parked then 0 else c.tk, lim := c.dictAt 0x2783 1, dec := x.dec.filter (· != k) }
    let gone := if cn.gone ord then x'.dec.isEmpty else decide (x'.blocks ≤ x'.got)
    (c.setChan ch (if gone then cn.drop x' else cn.put x')).account (opCtx x.op) (if opOpc x.op = 0x40 then 7 else 8)
      (64 * xferLines x.op k)

/-- Has block k of the transfer of an order landed, and its lines are still being written (R317)? -/
def Cluster.landed (c : Cluster) (ch ord k : Nat) : Bool :=
  c.spd.groups.any (fun g => match g.done with
    | .getBlock a b d => a == ch && b == ord && d == k
    | _ => false)

/-- The transfer whose block in flight a reply answers: slot and block from its TXN, the op code that its type fits, and
the address that it echoes (R307, R317). -/
def Cluster.flight (c : Cluster) (b : Nat × Nat × Nat) (opc ga : Nat) : Option Xfer :=
  (c.chan b.1).all.find? (fun x => x.slot == b.2.1 && opOpc x.op == opc && x.dec.contains b.2.2
    && x.sentTo.contains (b.2.2, ga) && !c.landed b.1 x.order b.2.2)

/-- Landing buffer: blocks of DMGET replies not yet written (R317). -/
def Cluster.landing (c : Cluster) : Nat :=
  (c.spd.groups.filter (fun g => match g.done with
    | .getBlock _ _ _ => true
    | _ => false)).length

/-- A request for a whole line, as number j of its group (R284). -/
def lineReq (j line : Nat) (wr : Option (List Byte)) : BReq := ⟨0, line, 0, 64, 0, j, wr⟩

/-- A request for n bytes of a line from an address on, as number j of its group. -/
def partReq (j a n : Nat) (wr : Option (List Byte)) : BReq := ⟨0, a / 64, a % 64, n, 0, j, wr⟩

/-- Put a group of boundary requests of a class into its bank queues (R284). -/
def Cluster.addGroup (c : Cluster) (cls ctx : Nat) (done_ : BDone) (rs : List BReq) : Cluster :=
  let id := c.spd.nextGrp
  { c with spd := { c.spd with
      nextGrp := id + 1
      groups := c.spd.groups ++ [⟨id, ctx, rs.length, [], false, done_⟩]
      reqs := c.spd.reqs ++ rs.map (fun r => { r with cls := cls, grp := id }) } }

/-- The table word of the handle that a landing block's lines lie in. -/
def Cluster.landKeys (c : Cluster) (h : BitVec 128) : List Nat :=
  match c.flight (txnBlock (fld h 87 68)) 0x40 (fld h 47 0) with
  | none => []
  | some x => [rHnd (fld x.op 143 132)]

/-- RDDATA for an own DMGET block lands: its lines join class 0 of their banks (R317). -/
def Cluster.landData (c : Cluster) (h : BitVec 128) (payload : List Byte) : Cluster :=
  let b := txnBlock (fld h 87 68)
  match c.flight b 0x40 (fld h 47 0) with
  | none => c
  | some x =>
    let base := hndBase (c.regAt (rHnd (fld x.op 143 132))) + fld x.op 131 110 + 4 * b.2.2
    c.addGroup 0 0 (.getBlock b.1 x.order b.2.2)
      ((List.range (xferLines x.op b.2.2)).map (fun j => lineReq j (base + j) (some ((payload.drop (64 * j)).take 64))))

/-- RDDATA reaches the landing buffer; what the port has turned round inside waits while the buffer is full (R306, R317),
and a block whose handle word is in error until that word has been read (R416). -/
def Cluster.rdData (c : Cluster) (h : BitVec 128) (payload : List Byte) : Cluster :=
  if 64 ≤ c.landing || (c.landKeys h).any (fun k => Sparse.get c.tabErr k != 0) then { c with turned := c.turned ++ [(h, payload)] }
  else c.landData h payload

/-- WRACK for an own DMPUT block (R307, R317). -/
def Cluster.ackBlock (c : Cluster) (h : BitVec 128) : Cluster :=
  let b := txnBlock (fld h 87 68)
  match c.flight b 0x41 (fld h 47 0) with
  | none => c
  | some x => c.blockDone b.1 x.order b.2.2

/-- The transfer block in flight that an ERR answers. -/
def Cluster.errFlight (c : Cluster) (h : BitVec 128) : Option Xfer :=
  let b := txnBlock (fld h 87 68)
  (c.flight b 0x40 (fld h 47 0)).orElse (fun _ => c.flight b 0x41 (fld h 47 0))

/-- ERR for an own transfer block (R308, R317). -/
def Cluster.errBlock (c : Cluster) (h : BitVec 128) (stat : Nat) : Cluster :=
  let b := txnBlock (fld h 87 68)
  let cn := c.chan b.1
  match c.errFlight h with
  | none => c
  | some x =>
    if cn.gone x.order then
      let x' := { x with dec := x.dec.filter (· != b.2.2) }
      c.setChan b.1 (if x'.dec.isEmpty then cn.drop x' else cn.put x')
    else c.xferFail b.1 x.slot stat b.2.2 true

end Sys2Proof.Machine
end

