-- ==== Sys2Proof/Machine/Lining.lean ====
section
/-! DEFINITION. Outcomes that come back to the control cores (R332, R364), replies, refusals, and the end of a lining,
retirement, and the faults that reach a lining or every image (R381, R388, R390, R407, R411). Log entries of its
readings and choices: 10 DESIGN CHOICE, 16 DEDUCED, 29 DEDUCED, 34 DESIGN CHOICE, 42 DEDUCED, 44 DEDUCED, 46 DESIGN
CHOICE, 70 DEDUCED, 86 DEDUCED, 105 DEDUCED. -/

namespace Sys2Proof.Machine

/-- Write a scalar register. -/
def Core.setS (x : Core) (r : Nat) (v : W64) : Core := { x with regs := vset x.regs r v }
/-- Read a scalar register. -/
def Core.s (x : Core) (r : Nat) : W64 := vat x.regs r 0
/-- Go on to the next instruction, with no stall. -/
def Core.adv (x : Core) : Core := { x with pc := (x.pc + 4) % 65536, stall := .none }
/-- Does a scalar core run and wait for nothing but its own stall? -/
def Core.codeLive (x : Core) : Bool := x.codeRun && !x.stopped

/-- End a spore fence that has nothing left to wait for (R329). -/
def Cluster.spFenceCheck (c : Cluster) (n : Nat) : Cluster :=
  let x := c.core n
  match x.stall with
  | .spFence rs =>
    if x.send.toList.any (fun s => match s with
      | some s => s.posted
      | none => false) then c
    else c.setCore n { (x.setS rs (if x.refused then 2 else 0)).adv with refused := false }
  | _ => c

/-- End a signal fence that has nothing left to wait for (R364). -/
def Cluster.sigFenceCheck (c : Cluster) (n : Nat) : Cluster :=
  let x := c.core n
  match x.stall with
  | .sigFence rs =>
    if x.sig.toList.any (fun s => s.isSome) then c
    else c.setCore n { (x.setS rs (if x.sigFail then 11 else 0)).adv with sigFail := false }
  | _ => c

/-- The record and fault of a refused spore (R332). -/
def Cluster.logRefused (c : Cluster) (n : Nat) (h : BitVec 128) (reason : Nat) : Cluster :=
  let c := c.bump (rMsg + 0x218) (rMsg + 0x240) 3 1
  let c :=
    if bitAt (c.regAt (rMsg + 0x100)) 63 then c
    else (c.setReg (rMsg + 0x100) (placeB true 63 ||| place reason 59 ||| place (sCtx h) 53 ||| place n 50
      ||| place (sDcl h) 44 ||| place (sDcore h) 41 ||| place (sDring h) 28 ||| place (sSeq h) 12)).setReg
      (rMsg + 0x108) c.tb.value
  if (c.ctx (sCtx h)).torn then c else c.raise 0x1A n (sCtx h)

/-- The outcome of a spore in a send slot: OK, or refused for a reason (R329, R332). -/
def Cluster.sporeOutcome (c : Cluster) (n slot : Nat) (refused : Option Nat) : Cluster :=
  let x := c.core n
  match vat x.send slot none with
  | none => c
  | some sp =>
    let x := { x with send := vset x.send slot none }
    let x := if sp.posted then { x with refused := x.refused || refused.isSome }
      else match x.stall with
        | .spWait k rs => if k = slot then (x.setS rs (if refused.isSome then 2 else 0)).adv else x
        | _ => x
    let c := c.setCore n x
    let c := match refused with
      | some r => c.logRefused n sp.hdr r
      | none => c
    c.spFenceCheck n

/-- The failed outcome of a signal: its record and its fault (R364). -/
def Cluster.logSignal (c : Cluster) (n : Nat) (g : SigSlot) (stat : Nat) : Cluster :=
  let c :=
    if bitAt (c.regAt (rSyn + 0x420)) 63 then c
    else ((c.setReg (rSyn + 0x420) (placeB true 63 ||| place stat 59 ||| place g.ctx 53 ||| place n 50 ||| place g.dcl 44
      ||| place g.dctx 38 ||| place g.vid 22 ||| place g.kind 20)).setReg (rSyn + 0x428) (place g.operand.toNat 0)).setReg
      (rSyn + 0x430) c.tb.value
  if (c.ctx g.ctx).torn then c else c.raise 0x1F n g.ctx

/-- The outcome of a signal: OK, or failed with a status (R364). -/
def Cluster.signalOutcome (c : Cluster) (n slot : Nat) (failed : Option Nat) : Cluster :=
  let x := c.core n
  match vat x.sig slot none with
  | none => c
  | some g =>
    let c := c.setCore n { x with sig := vset x.sig slot none, sigFail := x.sigFail || failed.isSome }
    let c := match failed with
      | some st => c.logSignal n g st
      | none => c
    c.sigFenceCheck n

/-- Address field of a signal's flit (R362). -/
def SigSlot.gaddr (g : SigSlot) : Nat :=
  g.dcl <<< 40 + g.dctx <<< 34 + g.kind <<< 32 + g.operand.toNat

/-- The sent signal that a reply answers, if any: its core and slot (R362). -/
def Cluster.sigOf (c : Cluster) (h : BitVec 128) : Option (Nat × Nat) :=
  let n := fld h 87 85
  let slot := fld h 66 64
  match vat (c.core n).sig slot none with
  | none => none
  | some g =>
    if g.sent && g.gaddr == fld h 47 0 && g.vid == fld h 83 68 && !bitAt h 84 && !bitAt h 67 then some (n, slot) else none

/-- Address field of flit i of a spore (R328). -/
def sporeGaddr (h : BitVec 128) (i : Nat) : Nat := sDcl h <<< 40 + (sDring h % 2) <<< 8 + i

/-- The spore in a send slot that an error reply answers (R328, R332). -/
def Cluster.sporeOf (c : Cluster) (h : BitVec 128) : Option (Nat × Nat) :=
  let n := fld h 87 85
  let slot := fld h 84 82
  match vat (c.core n).send slot none with
  | none => none
  | some sp => if sporeGaddr sp.hdr (fld h 70 68) == fld h 47 0 && fld h 81 71 == 0 then some (n, slot) else none

/-- Has a reply the form of one to a spore (R328)? -/
def sporeForm (h : BitVec 128) : Bool :=
  fld h 81 71 == 0 && fld h 47 46 == 0 && fld h 39 9 == 0 && fld h 7 3 == 0 && fld h 2 0 == fld h 70 68

/-- A reply for a spore without a spore in flight that it fits is late, and counted (R332). -/
def Cluster.lateReply (c : Cluster) : Cluster := c.bump (rMsg + 0x228) (rMsg + 0x240) 5 1

/-- An ERR reaches a cross-form signal: BUSY leaves its outcome open, to be sent again 64 tk later (R364). -/
def Cluster.signalErr (c : Cluster) (n k stat : Nat) : Cluster :=
  if stat = 5 then
    let x := c.core n
    match vat x.sig k none with
    | some g => c.setCore n { x with sig := vset x.sig k (some { g with busy := some (c.tk + 64) }) }
    | none => c
  else c.signalOutcome n k (some stat)

/-- An ERR reaches the cluster: for a signal, a spore or a transfer block in flight, or a late one (R308, R332, R364). -/
def Cluster.takeErr (c : Cluster) (h : BitVec 128) (stat : Nat) : Cluster :=
  match c.sigOf h with
  | some (n, k) => c.signalErr n k stat
  | none =>
    match c.sporeOf h with
    | some (n, k) => c.sporeOutcome n k (some (if stat = 1 then 4 else stat))
    | none =>
      if (c.errFlight h).isSome then c.errBlock h stat else if sporeForm h then c.lateReply else c

/-- A reply reaches the cluster, from a lane or turned round inside (R306, R317). -/
def Cluster.takeReply (c : Cluster) (h : BitVec 128) (payload : List Byte) : Cluster :=
  let stat := fld h 97 94
  match fld h 101 98 with
  | 3 => c.rdData h payload
  | 4 =>
    (match c.sigOf h with
     | some (n, k) => c.signalOutcome n k none
     | none => c.ackBlock h)
  | 5 => c.takeErr h stat
  | 7 =>
    (match c.sporeOf h with
     | some (n, k) => c.sporeOutcome n k (if stat = 0 then none else some (fld h 67 64))
     | none => c.lateReply)
  | _ => c

/-- Answer a request: on the reply network, or inside when it was turned round (R306). -/
def Cluster.reply (c : Cluster) (lane : Nat) (req : BitVec 128) (ty stat lmask : Nat) (payload : List Byte) : Cluster :=
  let h := mkHdr ty stat (fld req 93 88) (fld req 87 68) lmask (fld req 47 0)
  if lane = selfLane then c.takeReply h payload else c.sendFlit h payload

/-- Refuse the spore in header entry i of the inbound store (R333, R334, R336, R337). -/
def Cluster.refuse (c : Cluster) (i reason : Nat) : Cluster :=
  match vat c.store i none with
  | none => c
  | some sp =>
    let c := { c with store := vset c.store i none }
    let c := c.bump (rMsg + 0x210) (rMsg + 0x240) 2 1
    c.reply sp.lane (mkHdr 6 0 sp.srccl sp.txn 0 sp.gaddr.toNat) 7 4 reason []

/-- Header entries of complete spores that wait for a ring, or for a sorus entry, in order of completion (R334). -/
def Cluster.waiting (c : Cluster) (sorus : Bool) (k : Nat) : List Nat :=
  let l := c.store.toList.zipIdx.filterMap (fun p => match p.1 with
    | some sp =>
      if sp.done && sp.sorus == sorus && (if sorus then sDring sp.hdr % 512 else sDring sp.hdr) == k
      then some (sp.order, p.2) else none
    | none => none)
  (sortOn (fun a => a.1) l).map (fun p => p.2)

/-- Set the stored bits in error of a scratchpad word. -/
def Cluster.setErr (c : Cluster) (w : Nat) (m : W64) : Cluster := { c with memErr := Sparse.set c.memErr w m }

/-- Apply an armed injection to a write: the lowest enabled word of the next write to bank INST is stored with data
bit 0 inverted, or bits 0 and 1 (R432). -/
def Cluster.injectSpd (c : Cluster) (a : Nat) : Cluster :=
  let p := c.pbank (lbankOf a)
  let w := a / 8 * 8
  let c := if c.armedAt 0x20 p then (c.setErr w 1).disarm 0x20 else c
  if c.armedAt 0x21 p then (c.setErr w 3).disarm 0x21 else c

/-- Repair entries without the words that a write hits (R292). -/
def cancelRepairs (hit : Nat → Bool) (rs : List Repair) : List Repair :=
  let cut : Repair → Repair := fun r => { r with words := r.words.filter (fun q => !hit (r.line * 64 + q.1 * 8)) }
  (rs.map cut).filter (fun r => !r.words.isEmpty)

/-- Write bytes of one line: check bits are fresh, a queued repair of a written word is cancelled, a fenced bank
drops the write (R280, R292, R300). -/
def Cluster.spdWriteLine (c : Cluster) (a : Nat) (bs : List Byte) : Cluster :=
  if bs.isEmpty || c.fencedAt a then c
  else
    let hit := fun (w : Nat) => decide (a < w + 8) && decide (w < a + bs.length)
    let c := { c with
      mem := Memory.write c.mem a bs
      memErr := c.memErr.filter (fun kv => !hit kv.1)
      spd := { c.spd with repairs := cancelRepairs hit c.spd.repairs } }
    c.injectSpd a

/-- Hole mask of the image that owns a context (R300, R339). -/
def Cluster.holesOf (c : Cluster) (ctx : Nat) : Nat :=
  match c.imgs.toList.find? (fun i => match i with
      | some i => i.ctxs.contains ctx
      | none => false) with
  | some (some i) => i.holes
  | _ => 0

/-- The line that lies i unmasked lines at and beyond a line (R339). -/
def skipHoles (holes : Nat) : Nat → Nat → Nat → Nat
  | 0, line, _ => line
  | fuel + 1, line, i =>
    if holes.testBit (line % 256) then skipHoles holes fuel (line + 1) i
    else if i = 0 then line else skipHoles holes fuel (line + 1) (i - 1)

/-- Line of slot i of a ring or area that starts at a line (R339): whole rounds of 256 banks first. -/
def slotLine (holes line i : Nat) : Nat :=
  let per := 256 - popcount 256 holes
  if per = 0 then line + i else skipHoles holes 512 (line + 256 * (i / per)) (i % per)

/-- Length of entry e's accumulation area in lines (R344). -/
def Cluster.areaLen (c : Cluster) (e : Nat) : Nat :=
  let d := Sparse.get c.sdesc0 e
  cdiv ((if bitAt d 56 then 4 else 40) * (fld d 55 47 + 1)) 64

/-- Address of line i of entry e's accumulation area, laid out as the slots of a ring (R339, R344). -/
def Cluster.areaLine (c : Cluster) (e i : Nat) : Nat :=
  let d := Sparse.get c.sdesc1 e
  64 * slotLine (c.holesOf (fld (Sparse.get c.sdesc0 e) 62 57)) (hndBase (c.regAt (rHnd (fld d 63 52))) + fld d 51 30) i

/-- Clear an entry's area (R344, R347, R348): its exact sums are empty, and its lines become zero through class 1, ahead of
every later request of the message unit to them (R284). -/
def Cluster.clearArea (c : Cluster) (e : Nat) : Cluster :=
  let c := { c with sacc := c.sacc.filter (fun p => p.1 / 512 != e) }
  if bitAt (Sparse.get c.sdesc0 e) 63 then
    c.addGroup 1 0 .quiet
      ((List.range (c.areaLen e)).map (fun i => lineReq i (c.areaLine e i / 64) (some (List.replicate 64 0))))
  else c

/-- Reset a ring or a sorus entry: counters and area cleared, waiting spores refused with BADDEST (R348). -/
def Cluster.msgReset (c : Cluster) (sorus : Bool) (k : Nat) : Cluster :=
  let c :=
    if sorus then
      let c := c.clearArea k
      { c with scount := Sparse.set c.scount k 0, sorRes := c.sorRes.filter (fun r => r.e != k) }
    else { c with prod := Sparse.set c.prod k 0, cons := Sparse.set c.cons k 0, consOld := c.consOld.filter (fun p => p.1 != k),
                  pads := c.pads.filter (fun p => p.1 != k),
                  sorRes := c.sorRes.map (fun r => if fld (Sparse.get c.sdesc0 r.e) 46 34 = k && !r.rec_.isEmpty then { r with grp := none } else r) }
  c.each (c.waiting sorus k) (fun c i => c.refuse i 2)

/-- Owner context of a ring or sorus entry. -/
def Cluster.msgOwner (c : Cluster) (sorus : Bool) (k : Nat) : Nat :=
  if sorus then fld (Sparse.get c.sdesc0 k) 62 57 else fld (Sparse.get c.rdesc k) 62 57

/-- The allowance A of a context from its history (R388). -/
def Cluster.allowance (c : Cluster) (hist : List Nat) : Nat :=
  if hist.length < 8 then c.dictAt 0x2302 1 else max (c.dictAt 0x2302 2) (maxOf hist)

/-- Re-arm a context (R387). -/
def Cluster.doRearm (c : Cluster) (k : Nat) : Cluster :=
  let x := { c.ctx k with torn := false, hist := [], rest := 0, level := 0, rearm := false }
  c.setCtx k { x with allow := c.allowance [] }

/-- Snapshot of a context's counters, sticky mask and CLIENT; counters and mask are cleared (R392). -/
def Cluster.doSnapshot (c : Cluster) (k : Nat) : Cluster :=
  let x := c.ctx k
  let a := rCtx + 0x4000 + 0x100 * k
  let c := c.each (List.range 16) (fun c i => c.setDict (0x2680 + k) (i + 1) (c.regAt (a + 8 * i)).toNat)
  let c := c.setDict (0x2680 + k) 0x11 (c.regAt (a + 0x80)).toNat
  let c := c.setDict (0x2680 + k) 0x12 (if x.sampled then x.client.toNat else c.dictAt (0x2310 + k) 1)
  let c := c.setDict (0x2680 + k) 0x13 c.tbNow
  let c := { c with reg := Sparse.clearRange c.reg a (a + 0x88) }
  c.setCtx k { x with snap := false }

/-- The variant rule (R390): new level, restore count, and steps down and up. A pinned context changes nothing. -/
def variantRule (x : Ctx) (restoreN : Nat) : Nat × Nat × Nat × Nat :=
  if x.pin ≠ 0 then (x.level, x.rest, 0, 0)
  else if x.pmiss || decide (x.dl < x.fintb.toNat) then
    if x.level < x.nvar - 1 then (x.level + 1, 0, 1, 0) else (x.level, 0, 0, 0)
  else if x.fintb.toNat + x.allow ≤ x.dl then
    if restoreN ≠ 0 && restoreN ≤ x.rest + 1 then
      (if 0 < x.level then (x.level - 1, 0, 0, 1) else (x.level, 0, 0, 0))
    else (x.level, satN 0xFFFF (x.rest + 1), 0, 0)
  else (x.level, 0, 0, 0)

/-- What the end of a lining does for one bound context (R376, R381, R387, R388, R390, R391, R392). -/
def Cluster.ctxEnd (c : Cluster) (k : Nat) : Cluster :=
  let x := c.ctx k
  let c :=
    if x.torn then c.setCtx k { x with state := 1, pmiss := false }
    else
      let x := if x.finSet then x else { x with fintb := c.tb.value, finSet := true }
      let mon := x.dlrel != 0
      let v := if mon then variantRule x (c.dictAt 0x2302 3) else (x.level, x.rest, 0, 0)
      let c := if x.pmiss then c.account k 11 1 else c
      let c := if mon && decide (x.dl < x.fintb.toNat) then c.account k 12 1 else c
      let c := c.account k 13 v.2.2.1
      let c := c.account k 14 v.2.2.2
      let hist := (cdiv x.hchg 14 :: x.hist).take 8
      c.setCtx k { x with state := 1, pmiss := false, level := v.1, rest := v.2.1, hist := hist, allow := c.allowance hist }
  let c := if (c.ctx k).rearm then c.doRearm k else c
  if (c.ctx k).snap then c.doSnapshot k else c

/-- Stop a control core at the end of a lining, or at a pre-emption (R276). -/
def Core.halt_ (x : Core) : Core :=
  { x with walkRun := false, codeRun := false, stall := .none, wwait := if x.stopped then 11 else 10 }

/-- Stop every control core and drop their waits (R276). -/
def Cluster.stopCores (c : Cluster) : Cluster :=
  { c with cores := c.cores.map Core.halt_, waiters := Vector.replicate 8 none }

/-- A queue with nothing in it; the context of the last op that it started stays (R46). -/
def EngQ.idle (e : EngQ) : EngQ := { EngQ.reset with lastCtx := e.lastCtx }

/-- Drop what has not started, in every queue, and what is still under way in the static domain: no cycle is left to
perform it (R283, R381, R382). -/
def Cluster.dropOps (c : Cluster) : Cluster :=
  { c with queues := c.queues.map EngQ.idle,
           arrs := c.arrs.map (fun a => { a with
             jobs := [], drn := none, mpre := [], ahead := [], todo := [], fills := [], statIn := [], swaps := [],
             pathFree := 0 }),
           vecs := Vector.replicate 8 none, refs := [], movs := [], posts := [], uses := [] }

/-- Deferred ring and sorus resets of contexts bound to the ending lining (R348). -/
def Cluster.lateResets (c : Cluster) (ctxs : List Nat) : Cluster :=
  let now := c.resets.filter (fun p => ctxs.contains (c.msgOwner p.1 p.2))
  let c := { c with resets := c.resets.filter (fun p => !ctxs.contains (c.msgOwner p.1 p.2)) }
  c.each now (fun c p => c.msgReset p.1 p.2)

/-- Forerunner: what the end of a lining that met SPD_DETECT arranges (R299). -/
def Cluster.rerunEnd (c : Cluster) (r : Run) : Cluster :=
  match r.detect with
  | none => c
  | some ue =>
    let c := c.each r.detTorn (fun c k => c.setCtx k { c.ctx k with torn := false })
    let c := { c with spd := { c.spd with urgent := c.spd.urgent ++ r.detLines } }
    if ue || r.rerun then c else { c with rerun := some (r.lid, r.prio, r.tbat, r.now) }

/-- The lining ends (R35, R381): queues are emptied, control cores stop, contexts return to IDLE with FINTB, the
variant rule, history and accounting, and deferred requests act. -/
def Cluster.liningEnd (c : Cluster) : Cluster :=
  match c.run with
  | none => c
  | some r =>
    let c := (c.dropOps).stopCores
    let c := c.each r.ctxs Cluster.ctxEnd
    let c := { c with run := none, freeAt := c.clk.free,
                      tim := { c.tim with running := false, hold := none, next := none, haltKept := c.halted, stepEnd := none } }
    (c.lateResets r.ctxs).rerunEnd r

/-- A fault that ends a lining leaves nothing to run again; the detected lines are still scrubbed (R299). -/
def Cluster.noRerun (c : Cluster) : Cluster :=
  match c.run with
  | none => c
  | some r => { c with run := some { r with detect := r.detect.map (fun _ => true) } }

/-- Containment to the lining: every bound context is torn down and the lining ends at once (R381, R411). -/
def Cluster.containLining (c : Cluster) : Cluster :=
  match c.run with
  | none => c
  | some r => (c.each r.ctxs Cluster.teardown).noRerun.liningEnd

/-- Raise a fault of scope 2 (R411). -/
def Cluster.raiseLining (c : Cluster) (src inst : Nat) : Cluster :=
  c.containLining.record { src := src, cls := 2, inst := inst, scope := 2, ctx := 0 }

/-- A context becomes FREE; a re-arm and a snapshot that wait for the end of its lining act (R387, R392, R407). -/
def Cluster.freeCtx (c : Cluster) (k : Nat) : Cluster :=
  let c := c.setCtx k { c.ctx k with state := 0, pmiss := false }
  let c := if (c.ctx k).rearm then c.doRearm k else c
  if (c.ctx k).snap then c.doSnapshot k else c

/-- Retirement of the image in a slot acts (R407). -/
def Cluster.doRetire (c : Cluster) (slot : Nat) : Cluster :=
  match vat c.imgs slot none with
  | none => c
  | some im =>
    let lids := (c.linings.filter (fun l => l.slot == slot)).map (fun l => l.lid)
    let regs := im.handles.map rHnd ++ im.bases.map (fun i => rSyn + 0x8000 + 8 * i) ++ im.ctxs.map (fun k => rSyn + 8 * k)
      ++ im.regs
    let keys := regs ++ im.rings.map kRing ++ im.sorus.flatMap (fun e => [kSorus e, kSorus e + 1]) ++ im.xlat.map kXlat
      ++ lids.flatMap (fun l => (List.range 72).map (fun j => kLining l + j))
    let c := { c with
      imgs := vset c.imgs slot none
      reqs := c.reqs.filter (fun q => !lids.contains q.lid)
      susp := c.susp.filter (fun q => !lids.contains q.lid)
      rerun := match c.rerun with
        | some p => if lids.contains p.1 then none else some p
        | none => none
      linings := c.linings.filter (fun l => l.slot != slot)
      reg := c.reg.filter (fun kv => !regs.contains kv.1)
      rdesc := c.rdesc.filter (fun kv => !im.rings.contains kv.1)
      prod := c.prod.filter (fun kv => !im.rings.contains kv.1)
      cons := c.cons.filter (fun kv => !im.rings.contains kv.1)
      consOld := c.consOld.filter (fun kv => !im.rings.contains kv.1)
      pads := c.pads.filter (fun p => !im.rings.contains p.1)
      resets := c.resets.filter (fun p => !(if p.1 then im.sorus else im.rings).contains p.2) }
    let c := { c with
      sdesc0 := c.sdesc0.filter (fun kv => !im.sorus.contains kv.1)
      sdesc1 := c.sdesc1.filter (fun kv => !im.sorus.contains kv.1)
      scount := c.scount.filter (fun kv => !im.sorus.contains kv.1)
      sround := c.sround.filter (fun kv => !im.sorus.contains kv.1)
      sacc := c.sacc.filter (fun p => !im.sorus.contains (p.1 / 512))
      sorRes := c.sorRes.filter (fun p => !im.sorus.contains p.e)
      xlat := c.xlat.filter (fun kv => !im.xlat.contains kv.1)
      tabErr := c.tabErr.filter (fun kv => !keys.contains kv.1) }
    let c := c.each im.ctxs (fun c k => c.freeCtx k)
    let a := rInt + 0x100 + 0x10 * slot
    let c := c.setReg a (c.regAt a &&& 0x7FFFFFFFFFFFFFFF)
    let c1 := c.imgs.toList.any (fun i => match i with
      | some i => i.c1
      | none => false)
    c.setReg rSpd (setFld (c.regAt rSpd) 0 0 (if c1 then 1 else 0))

/-- Slot of the image that declares a lining. -/
def Cluster.slotOf (c : Cluster) (lid : Nat) : Option Nat :=
  (c.linings.find? (fun l => l.lid == lid)).map (fun l => l.slot)

/-- Slot of the image whose lining is running or dispatching. -/
def Cluster.runSlot (c : Cluster) : Option Nat :=
  match c.run with
  | some r => c.slotOf r.lid
  | none => none

/-- Retire an image at once; its running lining first ends as on a lining-contained fault (R397, R407). -/
def Cluster.retireNow (c : Cluster) (slot : Nat) : Cluster :=
  (if c.runSlot = some slot then c.containLining else c).doRetire slot

/-- Read verifier-written table words: corrected words are written back (TAB_CE); an uncorrectable word raises
TAB_UE, which retires every image, and is not used (R411, R416). -/
def Cluster.tabRead (c : Cluster) (keys : List Nat) : Cluster × Bool :=
  let p := c.tabFix keys
  if p.2 then p
  else
    let c := { p.1 with tabErr := p.1.tabErr.filter (fun kv => !keys.contains kv.1) }
    let c := c.containLining
    let c := c.each (List.range 8) Cluster.doRetire
    (c.record { src := 0x2C, cls := 2, inst := 0, scope := 4, ctx := 0 }, false)

/-- A resident line is uncorrectable: the image is retired and marked DAMAGED (R397). -/
def Cluster.damage (c : Cluster) (slot : Nat) : Cluster :=
  let c := c.retireNow slot
  let a := rInt + 0x100 + 0x10 * slot
  c.setReg a (setFld (c.regAt a) 61 61 1)

end Sys2Proof.Machine
end

