-- ==== Sys2Proof/Machine/Spd.lean ====
section
/-! DEFINITION. Access to the scratchpad and its errors: SEC-DED on every word, repair queues, fenced banks,
forerunner detection, static ports and their conflicts (R279 to R302). Log entries of its readings and choices: 4
DESIGN CHOICE, 21 DEDUCED, 41 DESIGN CHOICE, 87 DEDUCED. -/

namespace Sys2Proof.Machine

/-- The repair queue of a bank holds a word of a line (R292). -/
def Cluster.inRepair (c : Cluster) (w : Nat) : Bool :=
  c.spd.repairs.any (fun r => r.line == w / 64 && r.words.any (fun p => p.1 == w / 8 % 8))

/-- Put a word into its bank's repair queue; an entry that finds the queue full is discarded (R292). -/
def Cluster.addRepair (c : Cluster) (w : Nat) (v : W64) : Cluster :=
  let p := c.pbank (lbankOf w)
  let word := w / 8 % 8
  let rs := c.spd.repairs
  if rs.any (fun r => r.line == w / 64) then
    { c with spd := { c.spd with repairs := rs.map (fun r =>
        if r.line = w / 64 then { r with words := r.words.filter (fun q => q.1 != word) ++ [(word, v)] } else r) } }
  else if (rs.filter (fun r => r.bank == p)).length < 4 then
    { c with spd := { c.spd with repairs := rs ++ [⟨p, w / 64, [(word, v)], c.clk.free⟩] } }
  else c

/-- Record the first scratchpad error (R294): kind, agent, context, and whether the word was uncorrectable, which bit 0
of SYND tells (log entry 4: the code is not named). -/
def Cluster.logSpd (c : Cluster) (kind agent ctx w : Nat) (ue : Bool) : Cluster :=
  if bitAt (c.regAt (rSpd + 0x10)) 63 then c
  else
    let h := (c.handlesAt (w / 64)).head?
    let synd := (Config.freeSyndrome c.freeCtr).toNat / 2 * 2 + (if ue then 0 else 1)
    let w0 := placeB true 63 ||| place kind 60 ||| place agent 58 ||| place (c.pbank (lbankOf w)) 50 ||| place (qlineOf w) 36
      ||| place (w / 8 % 8) 33 ||| place synd 25 ||| placeB h.isSome 24 |||
      (match h with
       | some p => place p.1 12
       | none => 0)
    let c := (c.setReg (rSpd + 0x10) w0).setReg (rSpd + 0x18) (place ctx 32 ||| place (c.lcc % 2 ^ 32) 0)
    { c with freeCtr := c.freeCtr + 1 }

/-- Add to a bank's error count, and compare it with the bank fence threshold (R293, R427). -/
def Cluster.bankErr (c : Cluster) (p : Nat) : Cluster :=
  let c := c.stick (rSpd + 0x1000 + 4 * p) 7 0 1
  if c.dictAt 0x2100 2 ≤ fld (c.regAt (rSpd + 0x1000 + 4 * p)) 7 0 then c.pendBank p else c

/-- The contexts that map a line: owners of every valid handle that covers it (R287). -/
def Cluster.mappers (c : Cluster) (line : Nat) : List Nat :=
  ((c.handlesAt line).map (fun p => hndOwner p.2)).eraseDups

/-- A corrected word (R290, R293, R294, R421). -/
def Cluster.spdCe (c : Cluster) (w agent ctx : Nat) : Cluster :=
  let p := c.pbank (lbankOf w)
  let sticky := Sparse.get c.spd.mark w != 0
  let queued := c.inRepair w
  let c := c.logSpd (if sticky then 3 else 0) agent ctx w false
  let c := c.bump (rSpd + 0x20) (rSpd + 0x38) 0 1
  let c := if sticky then c.bankErr p else c
  let c := c.addRepair w (Memory.word64 c.mem w)
  c.record { src := 0x20, cls := 1, inst := p, scope := 0, ctx := 0, noEsc := queued }

/-- The slot of the admitted image whose resident region holds a line (R397). -/
def Cluster.residentOf (c : Cluster) (line : Nat) : Option Nat :=
  findIdxN (fun i => match i with
    | some im => decide (im.base ≤ line) && decide (line < im.base + im.lines)
    | none => false) c.imgs.toList

/-- An uncorrectable word: it is delivered as zero, every context mapping the line is torn down, and the word is
queued to be rewritten as zero (R291, R293); in a resident region it retires the image as damaged (R397). -/
def Cluster.spdUe (c : Cluster) (w agent ctx : Nat) : Cluster :=
  let p := c.pbank (lbankOf w)
  let sticky := Sparse.get c.spd.mark w != 0
  let c := c.logSpd (if sticky then 3 else 1) agent ctx w true
  let c := c.bump (rSpd + 0x28) (rSpd + 0x38) 1 1
  let c := c.bankErr p
  let c := c.each (c.mappers (w / 64)) Cluster.teardown
  let c := c.addRepair w 0
  let c := c.record { src := 0x21, cls := 2, inst := p, scope := 3, ctx := 0 }
  match c.residentOf (w / 64) with
  | some slot => c.damage slot
  | none => c

/-- Stored words in error among n bytes from a, outside fenced banks. -/
def Cluster.badWords (c : Cluster) (a n : Nat) : List (Nat × W64) :=
  c.memErr.filter (fun kv => decide (a < kv.1 + 8) && decide (kv.1 < a + n) && !c.fencedAt kv.1)

/-- n bytes from a, with the words of a list zero, and every byte of a fenced bank zero (R291, R300). -/
def Cluster.maskBytes (c : Cluster) (a n : Nat) (zero : List Nat) : List Byte :=
  (List.range n).map (fun i =>
    if zero.contains ((a + i) / 8 * 8) || c.fencedAt (a + i) then 0 else Memory.byte c.mem (a + i))

/-- Uncorrectable words among n bytes from a. -/
def Cluster.ueWords (c : Cluster) (a n : Nat) : List Nat :=
  ((c.badWords a n).filter (fun kv => decide (2 ≤ popcount 64 kv.2.toNat))).map (fun kv => kv.1)

/-- n bytes from a as a read delivers them: an uncorrectable word as zero (R290, R291). -/
def Cluster.spdBytes (c : Cluster) (a n : Nat) : List Byte := c.maskBytes a n (c.ueWords a n)

/-- What a boundary or sander read of n bytes from a does about the errors that it meets (R290, R291). -/
def Cluster.spdScan (c : Cluster) (agent ctx a n : Nat) : Cluster :=
  let ue := c.ueWords a n
  c.each (c.badWords a n) (fun c kv => if ue.contains kv.1 then c.spdUe kv.1 agent ctx else c.spdCe kv.1 agent ctx)

/-- A boundary or sander read: bytes, the cluster after its errors, and whether a word was uncorrectable. -/
def Cluster.spdRead (c : Cluster) (agent ctx a n : Nat) : List Byte × Cluster × Bool :=
  (c.spdBytes a n, c.spdScan agent ctx a n, !(c.ueWords a n).isEmpty)

/-- Write bytes anywhere in the scratchpad, line by line (R280). -/
def Cluster.spdWrite (c : Cluster) (a : Nat) (bs : List Byte) : Cluster :=
  let n := (a + bs.length + 63) / 64 - a / 64
  c.each (List.range n) (fun c i =>
    let lo := max a ((a / 64 + i) * 64)
    let hi := min (a + bs.length) ((a / 64 + i + 1) * 64)
    if lo < spdEnd then c.spdWriteLine lo ((bs.drop (lo - a)).take (hi - lo)) else c)

/-- Tear down for a detection the contexts of the lining that are not torn yet (R299). -/
def Cluster.detectTear (c : Cluster) (ctxs : List Nat) : Cluster :=
  c.each ctxs (fun c k => if (c.ctx k).torn then c else c.teardown k)

/-- What a detection in a first run arranges (R299): the contexts that it alone tore down, and the line to scrub. -/
def Cluster.detectNote (c : Cluster) (fresh keep : List Nat) (line : Nat) (ue : Bool) : Cluster :=
  match c.run with
  | none => c
  | some r =>
    { c with run := some { r with
        detect := some (ue || r.detect == some true)
        detTorn := (r.detTorn ++ fresh).filter (fun k => !keep.contains k)
        detLines := (r.detLines ++ [line]).eraseDups } }

/-- Is a static read one of a re-run: of the lining r that runs, or of one that a read of this cycle has ended (R299)? -/
def Cluster.inRerun (c : Cluster) (r : Option Run) : Bool :=
  match r with
  | some r => r.rerun
  | none => decide (c.freeAt = c.clk.free) && bitAt (c.regAt rCtx) 62

/-- Forerunner detection on a static read in the lining r (R293, R298, R299): the lining's contexts are torn down in
the lining; in a re-run the fault is class U and ends the lining; an uncorrectable word also takes R291. -/
def Cluster.spdDetect (c : Cluster) (r : Option Run) (w ctx : Nat) (ue : Bool) : Cluster :=
  let p := c.pbank (lbankOf w)
  let sticky := Sparse.get c.spd.mark w != 0
  let again := c.inRerun r
  let ks := match r with
    | some r => r.ctxs
    | none => []
  let fresh := ks.filter (fun k => !(c.ctx k).torn)
  let keep := if ue then c.mappers (w / 64) else []
  let c := c.logSpd (if sticky then 3 else 2) 0 ctx w ue
  let c := if again then c.containLining else c.detectTear ks
  let c := if ue then c.spdUe w 0 ctx else if sticky then c.bankErr p else c
  let c := c.record { src := 0x22, cls := if again then 2 else 1, inst := p, scope := if again then 2 else 0, ctx := 0 }
  if again then c else c.detectNote fresh keep (w / 64) ue

/-- A static read of n bytes for an op of context ctx: errors are corrected, or detected while DETONLY is set. The
flag tells that forerunner mode detected an error (R281, R290, R298, R432). -/
def Cluster.staticRead (c : Cluster) (ctx a n : Nat) : List Byte × Cluster × Bool :=
  if bitAt (c.regAt rSpd) 0 then
    let p := c.pbank (lbankOf a)
    let armed := c.armedAt 0x22 p
    let c := if armed then (c.disarm 0x22).setErr (a / 8 * 8) (Sparse.get c.memErr (a / 8 * 8) ||| 1) else c
    let bad := c.badWords a n
    let bs := c.maskBytes a n (bad.map (fun kv => kv.1))
    let r := c.run
    let c := c.each bad (fun c kv => c.spdDetect r kv.1 ctx (decide (2 ≤ popcount 64 kv.2.toNat)))
    (bs, c, !bad.isEmpty)
  else
    let r := c.spdRead 0 ctx a n
    (r.1, r.2.1, false)

/-- Lines that n bytes from a touch. -/
def linesOf (a n : Nat) : List Nat := (List.range ((a + n + 63) / 64 - a / 64)).map (fun i => a / 64 + i)

/-- The part of n bytes from a that lies in a line: its address and length. -/
def linePart (a n line : Nat) : Nat × Nat := (max a (64 * line), min (a + n) (64 * line + 64) - max a (64 * line))

/-- Static port uses of lines by queue q: logical bank, and 2 * q, or 2 * q + 1 for a write (R282, R283). -/
def portUses (q : Nat) (wr : Bool) (lines : List Nat) : List (Nat × Nat) :=
  lines.map (fun l => (l % 256, 2 * q + (if wr then 1 else 0)))

/-- Enter static port uses of this cycle. -/
def Cluster.addUses (c : Cluster) (us : List (Nat × Nat)) : Cluster := { c with uses := c.uses ++ us }

/-- Does more than one static use meet a logical bank in this cycle (R282)? -/
def Cluster.hot (c : Cluster) (bank : Nat) : Bool := decide (2 ≤ (c.uses.filter (fun u => u.1 == bank)).length)

/-- Count the banks in which static uses meet in this cycle (R282). -/
def Cluster.countConflicts (c : Cluster) : Cluster :=
  let n := ((List.range 256).filter c.hot).length
  if n = 0 then c else c.bump (rSpd + 0x30) (rSpd + 0x38) 2 n

/-- One line's part of a static read, which takes in the whole line (R281): unspecified where uses meet in its bank
(R282). -/
def Cluster.portPart (ctx a n : Nat) (p : List Byte × Cluster × Bool) (line : Nat) : List Byte × Cluster × Bool :=
  let x := linePart a n line
  if p.2.1.hot (line % 256) then
    let f := p.2.1.freeBs x.2
    (p.1 ++ f.1, f.2, p.2.2)
  else
    let r := p.2.1.staticRead ctx (64 * line) 64
    (p.1 ++ (r.1.drop (x.1 - 64 * line)).take x.2, r.2.1, p.2.2 || r.2.2)

/-- A static read of n bytes in this cycle (R281, R282). -/
def Cluster.portRead (c : Cluster) (ctx a n : Nat) : List Byte × Cluster × Bool :=
  (linesOf a n).foldl (Cluster.portPart ctx a n) ([], c, false)

/-- Bytes to store where `lo` low bits of the first byte and `hi` high bits of the last keep their old value. -/
def keepBits (lo hi first last : Nat) (bs : List Byte) : List Byte :=
  let one : Byte × Nat → Byte := fun p =>
    let x := if p.2 = 0 then p.1.toNat / 2 ^ lo * 2 ^ lo + first % 2 ^ lo else p.1.toNat
    let y := if p.2 + 1 = bs.length then x % 2 ^ (8 - hi) + last / 2 ^ (8 - hi) * 2 ^ (8 - hi) else x
    BitVec.ofNat 8 y
  bs.zipIdx.map one

/-- A static write by queue q in this cycle: of the writes that meet in a bank, only the one of the lowest-numbered
queue is performed (R281, R282). -/
def Cluster.portWrite (c : Cluster) (q a lo hi : Nat) (bs : List Byte) : Cluster :=
  let first := (Memory.byte c.mem a).toNat
  let last := (Memory.byte c.mem (a + bs.length - 1)).toNat
  let bs := keepBits lo hi first last bs
  c.each (linesOf a bs.length) (fun c line =>
    let x := linePart a bs.length line
    if c.uses.any (fun u => u.1 == line % 256 && u.2 % 2 == 1 && decide (u.2 / 2 < q)) then c
    else c.spdWrite x.1 ((bs.drop (x.1 - a)).take x.2))

end Sys2Proof.Machine
end

