-- ==== Sys2Proof/Machine/Timing.lean ====
section
/-! DEFINITION. The static domain's time: when an op is due (R33, R36), the hold conditions (R40, R41), which cycles
are held, and the starting of an op with its slip, nullification and accounting (R32, R38, R136, R391). Log entries of
its readings and choices: 7 DESIGN CHOICE, 10 DESIGN CHOICE, 11 DESIGN CHOICE, 12 DEDUCED, 30 DEDUCED, 42 DEDUCED, 68
DEDUCED, 78 DEDUCED, 89 DEDUCED. -/

namespace Sys2Proof.Machine

/-- Level of the stretcher in force: 8 while calibration holds it, else max(R, D) (R438, R449). -/
def Cluster.level (c : Cluster) : Nat :=
  if !c.clk.locked then 0 else if c.clk.sen then max c.clk.reqR c.clk.decD else 8

/-- Is the present CK_A cycle gated by a throttle period (R42, R446)? -/
def Cluster.throttled (c : Cluster) : Bool := c.clk.locked && decide (c.clk.free % 256 < 16 * c.tim.duty)

/-- Is a decided hold in force in this cycle (R41)? -/
def Cluster.inHold (c : Cluster) : Bool :=
  match c.tim.hold with
  | some h => decide (h.target ≤ c.lcc)
  | none => false

/-- Is the present cycle held, so that it executes no LCC value (R30)? -/
def Cluster.heldNow (c : Cluster) : Bool := c.tim.running && (c.inHold || c.throttled)

/-- Does the present cycle execute the value CLU_LCC? -/
def Cluster.runs (c : Cluster) : Bool := c.ready && c.tim.running && !c.heldNow

/-- Head op of a queue, if it is visible (R256). -/
def Cluster.headOp (c : Cluster) (q : Nat) : Option MacroOp :=
  match (c.queue q).ents with
  | [] => none
  | e :: _ => if e.vis ≤ c.clk.free then some e.op else none

/-- Where a queue whose previous op ends at `fin` stands at LCC t: the end of the last op that starts before t, how many
ops have started, and what is left of the visible ops (R33). -/
def queueAt (t : Nat) : List MacroOp → Nat → Nat → Nat × Nat × List MacroOp
  | [], fin, n => (fin, n, [])
  | o :: os, fin, n => if max (opStamp o) fin < t then queueAt t os (max (opStamp o) fin + opDur o) (n + 1) else (fin, n, o :: os)

/-- Queue q as it will stand at LCC t with the ops visible now (R33, R256). -/
def Cluster.ahead (c : Cluster) (t q : Nat) : Nat × Nat × List MacroOp :=
  let e := c.queue q
  queueAt t ((e.ents.takeWhile (fun x => decide (x.vis ≤ c.clk.free))).map (fun x => x.op)) e.fin e.started

/-- The ops visible in a queue with their numbers and the LCC values at which they will start (R33, R256). -/
def Cluster.upcoming (c : Cluster) (q : Nat) : List (Nat × MacroOp × Nat) :=
  let e := c.queue q
  let vis := e.ents.takeWhile (fun x => decide (x.vis ≤ c.clk.free))
  ((vis.take (e.count - e.started)).foldl (fun (p : List (Nat × MacroOp × Nat) × Nat) x =>
    let t := max (opStamp x.op) p.2
    (p.1 ++ [(e.started + p.1.length, x.op, t)], t + opDur x.op)) ([], e.fin)).1
/-- Number of the op of a queue that will start at LCC t. -/
def Cluster.numAt (c : Cluster) (q t : Nat) : Nat := (((c.upcoming q).find? (fun p => p.2.2 == t)).map (fun p => p.1)).getD 0

/-- Is a queue short at LCC t: open, its previous op ended at or before t, and no op visible (R36)? -/
def Cluster.shortAt (c : Cluster) (t q : Nat) : Bool :=
  let p := c.ahead t q
  decide (p.2.1 < (c.queue q).count) && decide (p.1 ≤ t) && p.2.2.isEmpty

/-- The image of the running lining. -/
def Cluster.runImg (c : Cluster) : Option Img :=
  match c.runSlot with
  | some s => vat c.imgs s none
  | none => none

/-- Does a choice agree with the alternatives chosen and the variants in force (R140, R375)? -/
def Cluster.picked (c : Cluster) (k : Nat) (pick : List (Nat × Nat)) : Bool :=
  pick.all (fun p => if 4096 ≤ p.1 then (c.ctx (p.1 - 4096)).var == p.2
    else (c.ctx k).alts.all (fun a => a.1 != p.1 || a.2.1 == p.2))

/-- The op number that check (channel, tag) of op number i of channel ch names, a DMARR of context k (R246). -/
def Cluster.namedBy (c : Cluster) (k ch i : Nat) (p : Nat × Nat) : Option Nat :=
  match c.run, c.runImg with
  | some r, some im =>
    (im.named.find? (fun x => x.lid == r.lid && x.ch == ch && x.num == i && x.chk == p && c.picked k x.pick)).map (fun x => x.at_)
  | _, _ => none

/-- Is op number m of channel ch complete: started, and its transfer, if it issued one, no longer outstanding (R246)? -/
def Cluster.xferDone (c : Cluster) (ch m : Nat) : Bool :=
  let cn := c.chan ch
  decide (m < (c.queue (48 + ch)).started) && (match cn.begun.find? (fun b => b.1 == m) with
    | none => true
    | some b => !cn.tab.toList.any (fun x => match x with
      | some x => x.order == b.2
      | none => false))

/-- Is the transfer complete that check (channel, tag) of op number i of channel ch names (R246)? -/
def Cluster.xferComplete (c : Cluster) (k ch i : Nat) (p : Nat × Nat) : Bool :=
  match c.namedBy k ch i p with
  | some m => c.xferDone p.1 m
  | none => false

/-- The checks (channel, tag) of a DMARR (R245). -/
def arrChecks (o : MacroOp) : List (Nat × Nat) :=
  (List.range 4).filterMap (fun k =>
    if bitAt o (188 + k) then some (fld o (187 - 10 * k) (186 - 10 * k), fld o (185 - 10 * k) (178 - 10 * k)) else none)

/-- Is op number i of queue q a padding op of the alternative in force, as far as the choice is known at LCC x (R140,
R143)? -/
def Cluster.paddingAt (c : Cluster) (q i : Nat) (o : MacroOp) (x : Nat) : Bool :=
  let k := opCtx o
  match c.run, c.runImg with
  | some r, some im =>
    im.pads.any (fun p => p.lid == r.lid && p.ctx == k && p.q == q && decide (p.lo ≤ i) && decide (i < p.hi)
      && (if p.byVar then (c.ctx k).var == p.alt
          else (c.ctx k).alts.any (fun e => e.1 == p.tab && e.2.1 == p.alt && decide (e.2.2 < x))))
  | _, _ => false

/-- Op codes that are never nullified (R138). -/
def neverNul (opc : Nat) : Bool := opc == 0x20 || opc == 0x24 || opc == 0x50 || opc == 0x52 || opc == 0x53

/-- Is op number i of queue q, starting at LCC t, nullified: by teardown, by an exit range in force, or as a padding op
of the alternative in force (R136, R143, R144)? -/
def Cluster.nullified (c : Cluster) (q i : Nat) (o : MacroOp) (t : Nat) : Bool :=
  let k := opCtx o
  !neverNul (opOpc o) && (c.tornOp k t || (opNul o && (c.ctx k).exits.any (fun r =>
    decide (r.1 ≤ opStamp o) && decide (opStamp o < r.2))) || c.paddingAt q i o (2 ^ 32))

/-- Are the reads that op number i of queue q makes at LCC x ahead of its start suppressed (R104)? -/
def Cluster.nullAhead (c : Cluster) (q i : Nat) (o : MacroOp) (x : Nat) : Bool :=
  let k := opCtx o
  c.tornOp k x || (opNul o && (c.ctx k).exits.any (fun r => decide (r.1 ≤ opStamp o) && decide (opStamp o < r.2)
    && decide (r.1 + c.floor 2 < x + c.floor 10))) || c.paddingAt q i o x

/-- Does op number i of channel ch, a DMARR that would start at LCC t, wait for an incomplete check (R246)? A context whose
DMARR has timed out waits no longer (R47). -/
def Cluster.arrWaits (c : Cluster) (ch i : Nat) (o : MacroOp) (t : Nat) : Bool :=
  !c.nullified (48 + ch) i o t && !c.tim.waive.contains (opCtx o)
    && (arrChecks o).any (fun x => !c.xferComplete (opCtx o) ch i x)

/-- The context of a DMARR that would start at LCC t with an incomplete check (R40, R246). -/
def Cluster.lateAt (c : Cluster) (t ch : Nat) : Option Nat :=
  let q := 48 + ch
  let p := c.ahead t q
  match p.2.2 with
  | [] => none
  | o :: _ =>
    if opOpc o == 0x42 && max (opStamp o) p.1 == t && c.arrWaits ch p.2.1 o t then some (opCtx o) else none

/-- Contexts of the DMARRs that are late at LCC t. -/
def Cluster.lateCtxs (c : Cluster) (t : Nat) : List Nat := (List.range 4).filterMap (fun ch => c.lateAt t ch)

/-- Queues that are short at LCC t. -/
def Cluster.shortQs (c : Cluster) (t : Nat) : List Nat := (List.range 52).filter (fun q => c.shortAt t q)

/-- Causes active for LCC t, as a mask by code (R40), THROTTLE apart. -/
def Cluster.causes (c : Cluster) (t : Nat) : Nat :=
  (if (c.shortQs t).isEmpty then 0 else 1) + (if (c.lateCtxs t).isEmpty then 0 else 2)
    + (if c.tim.recentre = 0 then 0 else 4) + (if c.debugAt t then 16 else 0)

/-- Contexts named as having caused a hold of LCC t (R46). -/
def Cluster.blameOf (c : Cluster) (t mask : Nat) : List Nat :=
  if mask / 4 ≠ 0 then []
  else if mask.testBit 1 then (c.lateCtxs t).eraseDups
  else ((c.shortQs t).map (fun q => (c.queue q).lastCtx)).eraseDups

/-- A HALT event: a DEBUG halt begins or ends, with the LCC value next to execute (R469). -/
def Cluster.haltEvent (c : Cluster) (begins : Bool) (t : Nat) : Cluster :=
  c.event 5 (leBytes 1 (if begins then 1 else 0) ++ leBytes 3 0 ++ leBytes 4 t)

/-- Causes shown by CLU_HOLDACT in this cycle (R45). -/
def Cluster.holdAct (c : Cluster) : Nat :=
  if c.tim.running then
    (match c.tim.hold with
     | some h => if h.target ≤ c.lcc then h.mask else 0
     | none => 0) + (if c.throttled then 8 else 0)
  else 0

/-- The code of the highest-priority cause of a mask (R40): DEBUG, THROTTLE, CROSSING, LATE_ARRIVAL, MISSING_OP. -/
def topCause (mask : Nat) : Nat :=
  if mask.testBit 4 then 4 else if mask.testBit 3 then 3 else if mask.testBit 2 then 2
  else if mask.testBit 1 then 1 else 0

/-- Open a hold for LCC t with its causes, behind the one already decided (R41); a DEBUG cause queues a HALT event
(R475). -/
def Cluster.openHold (c : Cluster) (t : Nat) : Cluster :=
  let m := c.causes t
  let h : Hold := ⟨t, false, c.tk, 0, m, c.blameOf t (m % 8), c.dictAt 0x2400 0x10⟩
  let c := { c with tim := if c.tim.hold.isNone then { c.tim with hold := some h } else { c.tim with next := some h } }
  if m.testBit 4 && !c.tim.haltKept then c.haltEvent true t else c

/-- LCC value at which the head op of a queue starts, when its engine is free (R33). -/
def Cluster.startOf (c : Cluster) (q : Nat) : Option (MacroOp × Nat) :=
  match c.headOp q with
  | none => none
  | some o =>
    let e := c.queue q
    if e.run.isNone && decide (e.started < e.count) then some (o, max (opStamp o) e.fin) else none

/-- Is a pre-emption point due that has not acted (R250, R382)? No op starts ahead of it. -/
def Cluster.pointDue (c : Cluster) : Bool :=
  match c.run with
  | some r => r.ctl.any (fun o => opOpc o == 0x52 && decide (opStamp o ≤ c.lcc))
  | none => false

/-- The op of code opc that starts in this cycle on queue q, if one does (R33). -/
def Cluster.starting (c : Cluster) (q opc : Nat) : Option MacroOp :=
  if c.runs && !c.pointDue then
    match c.startOf q with
    | some (o, t) => if opOpc o == opc && decide (t ≤ c.lcc) then some o else none
    | none => none
  else none

/-- Token rate of an op on a queue (R59, R221), without its witness increment. -/
def tokRate (o : MacroOp) : Nat :=
  let pair := fun (w a : Nat) =>
    if w = 1 || w = 2 then 20 else if w = 3 || w = 4 || w = 7 || w = 5 then 22
    else if w = 6 then (if a = 3 || a = 4 then 22 else 24) else 24
  match opOpc o with
  | 0x10 => pair (fld o 159 156) (fld o 155 152)
  | 0x11 => pair (fld o 159 156) (fld o 155 152) + 4
  | 0x12 => pair (fld o 159 156) (fld o 155 152)
  | 0x13 => if fld o 17 16 = 0 then 20 else if fld o 17 16 = 1 then 22 else if fld o 17 16 = 3 then 20
            else pair (fld o 159 156) (fld o 155 152)
  | 0x14 => 20
  | 0x15 => 20
  | 0x16 => 2
  | 0x40 => 6
  | 0x41 => 6
  | 0x42 => 6
  | k => if 0x20 ≤ k && k ≤ 0x25 then 2 else if 0x30 ≤ k && k ≤ 0x37 then 12 else 0

/-- Array of an array queue, if it is one (R34). -/
def arrayOfQ (q : Nat) : Option Nat := if q < 48 && q % 6 < 4 then some (q / 6 * 4 + q % 6) else none
/-- Queue of array a, of the tile mover and of the vector engine of core n (R34). -/
def qArr (a : Nat) : Nat := 6 * (a / 4) + a % 4
def qVec (n : Nat) : Nat := 6 * n + 4
def qTile (n : Nat) : Nat := 6 * n + 5
def qChan (k : Nat) : Nat := 48 + k

/-- Does the witness run on an array (R54)? -/
def Cluster.witness (c : Cluster) (a : Nat) : Bool := bitAt (c.regAt 0x20001508) a

/-- The slip of an op that starts after its STAMP (R38). -/
def Cluster.slip (c : Cluster) (q : Nat) (o : MacroOp) : Cluster :=
  if c.lcc ≤ opStamp o then c
  else
    let c := c.bump (0x20001100 + 8 * q) 0x20001040 (6 + q) 1
    c.latch 0x20001300 (place q 57 ||| place (opCtx o) 51 ||| place (satN 0x7FFFF (c.lcc - opStamp o)) 32
      ||| place (opStamp o) 0)

/-- The entries freed in the CK_C cycle that free-running cycle f lies in: they can be written from the next on (R256, R257). -/
def EngQ.fresh (e : EngQ) (f : Nat) : List Nat := e.freed.filter (fun g => decide (f / 2 * 2 ≤ g))
/-- Has a queue no entry to write in this CK_C cycle (R257, R258)? -/
def EngQ.full (e : EngQ) (f : Nat) : Bool := decide (64 ≤ e.ents.length + (e.fresh f).length)

/-- Start an op on a queue: the entry is freed, the op runs for DUR from this LCC value, a slip and the accounting
of its cycles are recorded (R32, R38, R257, R391). The flag tells whether it is nullified. -/
def Cluster.startOp (c : Cluster) (q : Nat) (o : MacroOp) : Cluster × Bool :=
  let e := c.queue q
  let nul := c.nullified q e.started o c.lcc
  let c := c.setQueue q { e with ents := e.ents.drop 1, started := e.started + 1, fin := c.lcc + opDur o,
                                 run := some ⟨o, c.lcc, c.lcc + opDur o, nul⟩, lastCtx := opCtx o,
                                 freed := c.clk.free :: e.fresh c.clk.free }
  let c := c.slip q o
  let k := opCtx o
  let wit := match arrayOfQ q with
    | some a => if c.witness a && opOpc o != 0x16 then 1 else 0
    | none => 0
  let c := if nul then c.account k 3 (opDur o)
    else (c.account k 2 (opDur o)).account k 4 (opDur o * (tokRate o + wit))
  (c, nul)

/-- Run f on the op of code opc that starts on queue q in this cycle; no such op, no effect. A nullified op only
occupies its slot (R137). -/
def Cluster.onStart (c : Cluster) (q opc : Nat) (f : Cluster → MacroOp → Cluster) : Cluster :=
  match c.starting q opc with
  | none => c
  | some o =>
    let p := c.startOp q o
    if p.2 then p.1 else f p.1 o

/-- Is an op due to start in this cycle (R33)? -/
def Cluster.startsDue (c : Cluster) : Bool :=
  c.runs && (List.range 52).any (fun q => match c.startOf q with
    | some p => decide (p.2 ≤ c.lcc)
    | none => false)

/-- Post a result of the static domain for the end of the cycle that executes LCC t (R52). -/
def Cluster.post (c : Cluster) (t rank : Nat) (w : Post) : Cluster := { c with posts := c.posts ++ [⟨t, rank, w⟩] }

/-- Use words of the verifier-written tables: a word that is uncorrectable is not used (R416). -/
def Cluster.withTab (c : Cluster) (keys : List Nat) (f : Cluster → Cluster) : Cluster :=
  let p := c.tabRead keys
  if p.2 then f p.1 else p.1

/-- Use a handle. -/
def Cluster.withHandle (c : Cluster) (h : Nat) (f : Cluster → Cluster) : Cluster := c.withTab [rHnd h] f

/-- Enter in-flight tile references of a queue's op (R201). -/
def Cluster.addRefs (c : Cluster) (q lo hi : Nat) (tiles : List Nat) : Cluster :=
  { c with refs := (tiles.map (fun t => (⟨q, t, lo, hi⟩ : TileRef))) ++ c.refs.filter (fun r => decide (c.lcc ≤ r.hi)) }

/-- The command list and control op due in this cycle (R247). -/
def Cluster.ctlHead (c : Cluster) (opc : Nat) : Option (Run × MacroOp) :=
  if c.runs then
    match c.run with
    | some r =>
      (match r.ctl with
       | o :: _ => if opOpc o == opc && decide (opStamp o ≤ c.lcc) && r.begun then some (r, o) else none
       | [] => none)
    | none => none
  else none

/-- Take the head off the control list. -/
def Cluster.popCtl (c : Cluster) : Cluster :=
  match c.run with
  | some r => { c with run := some { r with ctl := r.ctl.drop 1 } }
  | none => c

end Sys2Proof.Machine
end

