-- ==== Sys2Proof/Machine/Chains.lean ====
section
/-! DEFINITION. The chain table, stage operands, row statistics, the primer stages (R146 to R168), shared by the
arrays' fills and drains and, for the statistics, by the vector engine. Log entries of its readings and choices: 3
DESIGN CHOICE, 51 DESIGN CHOICE, 65 DEDUCED, 67 DEDUCED, 83 DEDUCED. -/

namespace Sys2Proof.Machine

/-- Address of word s of chain entry j of core n (R152). -/
def rChain (n j s : Nat) : Nat := rMxe n + 0x1000 + 0x80 * j + 8 * s
/-- Keys of a chain entry's words, for the check of their ECC (R416). -/
def chainKeys (n j : Nat) : List Nat := (List.range 9).map (fun s => rChain n j s)
/-- Header and stages of an entry, if its KIND is k (R152): 1 skim, 2 primer. -/
def Cluster.chain (c : Cluster) (n j k : Nat) : Option (W64 × List W64) :=
  let h := c.regAt (rChain n j 0)
  if fld h 63 62 = k then some (h, (List.range (fld h 61 58)).map (fun s => c.regAt (rChain n j (s + 1)))) else none

/-- Fields of a stage word (R152). -/
def stCode (w : W64) : Nat := fld w 63 60
def stParam (w : W64) : Nat := fld w 59 56
def stOpk (w : W64) : Nat := fld w 55 54
def stAux (w : W64) : Nat := fld w 39 32
def stImm (w : W64) : W32 := BitVec.ofNat 32 (fld w 31 0)

/-- Bytes of a stage operand, from its tile or from the MA0 stage buffer (R155, R165). -/
def Cluster.stageBytes (c : Cluster) (n : Nat) (w : W64) (off len : Nat) : List Byte :=
  if bitAt w 52 then Memory.bytes c.sbuf (n * 65536 + 16 * fld w 51 40 + off) len
  else c.tileBytes n (fld w 51 47) (fld w 46 40 * c.tileB n (fld w 51 47) + off) len

/-- Element i of a stage operand: FP32, or BF16 widened (R155). -/
def Cluster.stageElem (c : Cluster) (n : Nat) (w : W64) (i : Nat) : W32 :=
  if bitAt w 53 then BitVec.ofNat 32 (leNat (c.stageBytes n w (2 * i) 2) * 65536)
  else BitVec.ofNat 32 (leNat (c.stageBytes n w (4 * i) 4))

/-- Tile that a stage reads an operand from, if it reads one. -/
def stTile (w : W64) : Option Nat := if bitAt w 52 then none else some (fld w 51 47)

/-- A statistic record: count, mean, sum of squared deviations (R166). -/
abbrev Stat := Nat × W32 × W32

/-- The record with no value. -/
def Stat.none : Stat := (0, 0, 0)
/-- Layout of a record (R166). -/
def Stat.bits (s : Stat) : BitVec 96 := BitVec.ofNat 96 (s.1 % 2 ^ 32 + s.2.1.toNat <<< 32 + s.2.2.toNat <<< 64)
/-- A record from its bits. -/
def Stat.of (x : BitVec 96) : Stat := (fld x 31 0, BitVec.ofNat 32 (fld x 63 32), BitVec.ofNat 32 (fld x 95 64))

/-- Partial statistic of the first nrow of 128 values (R167). -/
def statPart (nrow : Nat) (xs : List W32) : Stat :=
  let v := (List.range 128).map (fun r => if r < nrow then xs.getD r 0 else 0)
  let mean := fdiv (treeSum 7 v) (u32ToF32 nrow)
  let q := v.zipIdx.map (fun p => if p.2 < nrow then fmul (fsub p.1 mean) (fsub p.1 mean) else 0)
  (nrow, mean, treeSum 7 q)

/-- Merge one record into a running one (R168). -/
def statMerge (s b : Stat) : Stat :=
  if b.1 = 0 then s
  else if s.1 = 0 then b
  else
    let nt := (s.1 + b.1) % 2 ^ 32
    let d := fsub b.2.1 s.2.1
    let fn := u32ToF32 s.1
    let fb := u32ToF32 b.1
    let ft := u32ToF32 nt
    (nt, fadd s.2.1 (fmul d (fdiv fb ft)), fadd (fadd s.2.2 b.2.2) (fmul (fmul d d) (fdiv (fmul fn fb) ft)))

/-- Finalise a record (R168): mean and reciprocal standard deviation, for layer or RMS norm. -/
def statFin (rms : Bool) (s : Stat) (eps : W32) : W32 × W32 :=
  let ms := if s.1 = 0 then 0 else fdiv s.2.2 (u32ToF32 s.1)
  if rms then (0, sfu 0xD (fadd (if s.1 = 0 then 0 else fadd ms (fmul s.2.1 s.2.1)) eps))
  else (s.2.1, sfu 0xD (fadd ms eps))

/-- Key of a side-buffer record: array, slot, column (R166). -/
def sideKey (a slot p : Nat) : Nat := (a * 32 + slot) * 32 + p

/-- Side-buffer record of array a (R166, R167). -/
def Cluster.sideAt (c : Cluster) (a slot p : Nat) : Stat := Stat.of (Sparse.get c.side (sideKey a slot p))

/-- Write the records of a slot of array a, by column (R167). -/
def Cluster.landStat (c : Cluster) (a slot : Nat) (recs : List (BitVec 96)) : Cluster :=
  { c with side := Sparse.setAll c.side (recs.zipIdx.map (fun r => (sideKey a slot r.2, r.1))) }

/-- Record of slot s, column p, as a FIN stage reads it: from a tile, or from the array's side buffer (R162, R168). -/
def Cluster.finRecord (c : Cluster) (a : Nat) (w : W64) (s p : Nat) : Stat :=
  if stOpk w = 2 then Stat.of (BitVec.ofNat 96 (leNat (c.stageBytes (a / 4) w (512 * s + 16 * p) 12)))
  else c.sideAt a s p

/-- Per-token mean and rstd of column p that a FIN stage sets (R168). -/
def Cluster.finCol (c : Cluster) (a : Nat) (w : W64) (p : Nat) : W32 × W32 :=
  let first := fld w 36 32
  let n := fld w 21 16 + 1
  let s := (List.range n).foldl (fun s i => statMerge s (c.finRecord a w (first + i) p)) Stat.none
  statFin (stParam w == 1) s (BitVec.ofNat 32 (fld w 15 0 * 65536))

/-- Primer entry of an op on core n, if its PRIDX names one (R146, R163). -/
def Cluster.primer (c : Cluster) (n : Nat) (o : MacroOp) : Option (W64 × List W64) :=
  if fld o 115 110 = 0 then none else c.chain n (fld o 115 110) 2

/-- L_pri (R163). -/
def Cluster.lpri (c : Cluster) (n : Nat) (o : MacroOp) : Nat :=
  match c.primer n o with
  | none => 0
  | some p => max p.2.length 1 * c.floor 7

/-- Does the primer of an op have a setup point (R163)? -/
def Cluster.hasSetup (c : Cluster) (n : Nat) (o : MacroOp) : Bool :=
  match c.primer n o with
  | none => false
  | some p => p.2.any (fun w => stCode w == 9 || stOpk w == 2)

/-- The per-token values that a setup loads (R163, R168): FIN's means, and every PERTOK operand by stage. -/
def Cluster.setupSet (c : Cluster) (a : Nat) (stages : List W64) : PrimSet :=
  let cols := List.range 32
  let fin := match stages.find? (fun w => stCode w == 9) with
    | some w => cols.map (fun p => c.finCol a w p)
    | none => []
  let tok := stages.zipIdx.flatMap (fun e =>
    if stOpk e.1 = 2 && stCode e.1 != 9 then cols.map (fun p => (e.2, p, c.stageElem (a / 4) e.1 p)) else [])
  ⟨true, fin.map (fun m => m.1), fin.map (fun m => m.2), tok⟩

/-- A per-token set whose setup was missed: free values (R163, R7). -/
def Cluster.freeSet (c : Cluster) (stages : List W64) : PrimSet × Cluster :=
  let k := c.freeCtr
  let tok := stages.zipIdx.flatMap (fun e => (List.range 32).map (fun p => (e.2, p, Config.freeWord (k + 64 + 32 * e.2 + p))))
  (⟨true, (List.range 32).map (fun p => Config.freeWord (k + p)), (List.range 32).map (fun p => Config.freeWord (k + 32 + p)), tok⟩,
   { c with freeCtr := k + 64 + 32 * stages.length })

/-- Operand of a SCALE or DEQUANT stage for column p at position k (R155, R162). -/
def Cluster.primOperand (c : Cluster) (n : Nat) (set : PrimSet) (i : Nat) (w : W64) (p k : Nat) : W32 :=
  match stOpk w with
  | 1 => c.stageElem n w k
  | 2 =>
    (match set.tok.find? (fun t => t.1 == i && t.2.1 == p) with
     | some t => t.2.2
     | none => Config.freeWord c.freeCtr)
  | _ => stImm w

/-- Widen a stored element to FP32, its block scale applied (R80, R161). -/
def widen (f code : Nat) (sc : Option Nat) : W32 :=
  match sc with
  | none => if f = 9 then i32ToF32 .rne (BitVec.ofNat 32 code) else toF32 (elemFV f code)
  | some s =>
    let v := (elemFV f code).mxScale s
    if v.isFin && (FV.fin false 1 128).le v.abs then Config.mxWide f code s else toF32 v

/-- A DEQUANT stage on a stored element (R162): the zero point is subtracted exactly, then one multiplication. -/
def dequantVal (src code : Nat) (sc : Option Nat) (w : W64) (s : W32) : W32 :=
  if fmtIsInt src && bitAt w 56 && stOpk w != 0 then
    let x := elemInt src code
    let zp := sextN 16 (fld w 15 0)
    let d := x - zp
    fmul (if d < -(2 ^ 31) || decide ((2 : Int) ^ 31 ≤ d) then Config.dequantWide x zp else i32ToF32 .rne (BitVec.ofInt 32 d)) s
  else fmul (widen src code sc) s

/-- NORM (R162). -/
def normVal (rms : Bool) (mean rstd : W32) (gb : Option (W32 × W32)) (x : W32) : W32 :=
  let y := fmul (if rms then x else fsub x mean) rstd
  match gb with
  | some g => fadd (fmul y g.1) g.2
  | none => y

/-- One primer stage after the first widening (R162). -/
def Cluster.primStage (c : Cluster) (n : Nat) (set : PrimSet) (p k : Nat) (x : W32) (e : W64 × Nat) : W32 :=
  let w := e.1
  match stCode w with
  | 2 => fmul x (c.primOperand n set e.2 w p k)
  | 5 => actFn (stParam w) x
  | 0xA => normVal (stParam w == 1) (set.mean.getD p 0) (set.rstd.getD p 0)
      (if stOpk w = 1 then some (c.stageElem n w (2 * k), c.stageElem n w (2 * k + 1)) else none) x
  | _ => x

/-- A stored element through the primer, in the op's entry format (R161, R162). -/
def Cluster.primVal (c : Cluster) (n : Nat) (pr : W64 × List W64) (set : PrimSet) (afmt p k code : Nat) (sc : Option Nat) : Nat :=
  let src := fld pr.1 57 54
  let st := pr.2.zipIdx
  let x := match st with
    | (w, i) :: rest =>
      if stCode w = 8 then rest.foldl (c.primStage n set p k) (dequantVal src code sc w (c.primOperand n set i w p k))
      else st.foldl (c.primStage n set p k) (widen src code sc)
    | [] => widen src code sc
  narrow afmt (if fld pr.1 53 52 = 2 then .tz else .rne) (f32 x)

end Sys2Proof.Machine
end

