-- ==== Sys2Proof/Machine/Crossing.lean ====
section
/-! DEFINITION. The crossings between CK_F and the die fabric clock: FIFO fills, writer credits and re-centring (R318
to R320). Log entries of its readings and choices: 75 DESIGN CHOICE. -/

namespace Sys2Proof.Machine

/-- Crossing FIFO j. -/
def Cluster.fifo (c : Cluster) (j : Nat) : Fifo := vat c.fifos j Fifo.reset
/-- Replace crossing FIFO j. -/
def Cluster.setFifo (c : Cluster) (j : Nat) (f : Fifo) : Cluster := { c with fifos := vset c.fifos j f }

/-- Is the reader of FIFO j released (R318)? -/
def Cluster.fifoRuns (c : Cluster) (j : Nat) : Bool := if j % 2 = 0 then (c.lane (j / 2)).alignO else (c.lane (j / 2)).alignI

/-- The alignment at mid-depth: it consumes 8 of the 16 credits (R318). -/
def Cluster.alignFifo (c : Cluster) (j : Nat) : Cluster := c.setFifo j ⟨8, 8, 0, 0⟩

/-- A fill that the crossing samples: the credits are those of the free entries, apart from credits on their way. -/
def Cluster.setFill (c : Cluster) (j fill : Nat) : Cluster :=
  let f := c.fifo j
  c.setFifo j (if fill + f.back + f.got ≤ 16 then { f with fill := fill, cred := 16 - (fill + f.back + f.got) } else ⟨fill, 16 - fill, 0, 0⟩)

/-- A writer's cycle: the credits of the reads of two cycles ago come back, and a beat is written where it may be and
a credit is left (R318). -/
def Fifo.write (f : Fifo) (go : Bool) : Fifo :=
  let cred := f.cred + f.back
  if go && decide (0 < cred) then ⟨f.fill + 1, cred - 1, f.got, 0⟩ else ⟨f.fill, cred, f.got, 0⟩

/-- A reader's cycle (R318). -/
def Fifo.read (f : Fifo) (go : Bool) : Fifo := if go && decide (0 < f.fill) then { f with fill := f.fill - 1, got := f.got + 1 } else f

/-- Does the re-centring stop the writer of an inbound FIFO or the reader of an outbound one in this cycle (R320)? -/
def Cluster.fifoStopped (c : Cluster) (j : Nat) : Bool :=
  c.tim.recentre != 0 && (if j % 2 = 1 then decide (8 < (c.fifo j).fill) else decide ((c.fifo j).fill < 8))

/-- One CK_F cycle of FIFO j, in which the fabric clock has e cycles (R318, R319). -/
def Cluster.passFifo (c : Cluster) (e j : Nat) : Cluster :=
  if c.fifoRuns j then
    let go := !c.fifoStopped j
    let f := c.fifo j
    c.setFifo j (if j % 2 = 1 then ((List.range e).foldl (fun f _ => f.write go) f).read true
      else (List.range e).foldl (fun f _ => f.read go) (f.write true))
  else c

/-- Is the fill of FIFO j within a band, if its lane carries traffic? -/
def Cluster.fillIn (c : Cluster) (lo hi j : Nat) : Bool :=
  !(c.lane (j / 2)).up || (decide (lo ≤ (c.fifo j).fill) && decide ((c.fifo j).fill ≤ hi))

/-- The count of a re-centring after one more cycle: it ends 2 cycles after every fill is back at 8 (R320). -/
def Cluster.recentreAged (c : Cluster) : Nat :=
  if c.tim.recentre = 0 then 0 else if (List.range 8).all (c.fillIn 8 8) then c.tim.recentre - 1 else 3

/-- One CK_F cycle of the crossings at stretch level l (R318 to R320). -/
def Cluster.passCrossings (c : Cluster) (l : Nat) : Cluster :=
  let p := c.clk.phaseF + 8 + l
  let c := ({ c with clk := { c.clk with phaseF := p % 8 } }).each (List.range 8) (fun c j => c.passFifo (p / 8) j)
  { c with tim := { c.tim with recentre := c.recentreAged } }

/-- Does a fill outside 4 to 12 make the crossing re-centre (R320)? -/
def Cluster.recentreDue (c : Cluster) : Bool :=
  c.live && c.tim.recentre == 0 && decide (64 ≤ c.clk.unstretched) && !(List.range 8).all (c.fillIn 4 12)

/-- A re-centring begins, and is counted (R320). -/
def Cluster.recentreBegin (c : Cluster) : Cluster :=
  ({ c with tim := { c.tim with recentre := 3 } }).bump (rMsg + 0xC088) (rMsg + 0xC090) 8 1

end Sys2Proof.Machine
end

