-- ==== Sys2Proof/Machine/Clock.lean ====
section
/-! DEFINITION. Start-up, clocks, power and the timebase (R434 to R453), and the cluster-level fault sources (R415).
Log entries of its readings and choices: 27 DEDUCED, 73 DEDUCED, 103 DEDUCED. -/

namespace Sys2Proof.Machine

/-- Power-good is asserted: stage 0 begins with nothing kept (R5, R443, R448). -/
def powerGoodC (c : Cluster) : Cluster := if c.powered then c else Cluster.atPowerGood c.straps c.stepping
def execPowerGood (s : State) : Host.Outcome State Fault Refusal := done s (powerGoodC s.cl)

/-- Loss of power-good removes the power domain; nothing is kept (R5, R443). -/
def powerLossC (c : Cluster) : Cluster :=
  if c.powered then { Cluster.atPowerGood c.straps c.stepping with powered := false } else c
def execPowerLoss (s : State) : Host.Outcome State Fault Refusal := done s (powerLossC s.cl)

/-- The die PLL locks in stage 1: CLK_FREE starts at 0, the stretcher is held at level 8 (R436, R449). -/
def pllLockC (c : Cluster) : Cluster :=
  if c.live && c.stage == 1 && !c.clk.locked then
    { c with clk := { c.clk with locked := true, free := 0, decAt := 0, lockAt := c.clk.ckm, phaseT := 0 } }
  else c
def execPllLock (s : State) : Host.Outcome State Fault Refusal := done s (pllLockC s.cl)

/-- No lock within 100 us of power-good: CLK_PLL (R449). -/
def pllLockTimeoutC (c : Cluster) : Cluster :=
  if c.live && c.stage ≤ 1 && !c.clk.locked && 10000 ≤ c.clk.ckm then c.raise0 0x03 0 else c
def execPllLockTimeout (s : State) : Host.Outcome State Fault Refusal := done s (pllLockTimeoutC s.cl)

/-- Calibration of the droop thresholds is done; the stretcher then follows R438 (R439, R449). -/
def droopCalibrationDoneC (c : Cluster) (cal : W64) : Cluster :=
  if c.live && c.stage == 1 && c.clk.locked && !c.clk.sen then
    let c := c.setReg (rClk + 0x40) cal
    { c with clk := { c.clk with sen := true, calAt := c.clk.ckm } }
  else c
def execDroopCalibrationDone (cal : W64) (s : State) : Host.Outcome State Fault Refusal :=
  done s (droopCalibrationDoneC s.cl cal)

/-- Calibration has not settled within 60 us of lock: CLK_STRETCH (R449). -/
def calibrationTimeoutC (c : Cluster) : Cluster :=
  if c.live && c.stage == 1 && c.clk.locked && !c.clk.sen && c.clk.lockAt + 6000 ≤ c.clk.ckm then c.raise0 0x02 0 else c
def execCalibrationTimeout (s : State) : Host.Outcome State Fault Refusal := done s (calibrationTimeoutC s.cl)

/-- Crossing FIFO j reaches fill 8 and its reader is released; a lane with both halves aligned is up (R318, R449). -/
def crossingAlignC (c : Cluster) (j : Nat) : Cluster :=
  let ln := c.lane (j / 2)
  if c.live && c.stage == 1 && c.clk.sen && !ln.dead then
    let ln := if j % 2 = 0 then { ln with alignO := true } else { ln with alignI := true }
    (c.setLane (j / 2) { ln with up := ln.alignO && ln.alignI }).alignFifo j
  else c
def execCrossingAlign (j : FifoId) (s : State) : Host.Outcome State Fault Refusal := done s (crossingAlignC s.cl j.val)

/-- A lane has not aligned 20 us after calibration: it stays down; FAB_LANE, and FAB_PORT when both lanes of its
network are down (R449). -/
def crossingAlignTimeoutC (c : Cluster) (l : Nat) : Cluster :=
  let ln := c.lane l
  let p := if l % 2 = 0 then l + 1 else l - 1
  if c.live && c.stage == 1 && c.clk.sen && !ln.up && !ln.dead && c.clk.calAt + 2000 ≤ c.clk.ckm then
    let c := (c.setLane l { ln with dead := true }).raise0 0x2A l
    if (c.lane p).dead then c.raise0 0x06 0 else c
  else c
def execCrossingAlignTimeout (lane : LaneId) (s : State) : Host.Outcome State Fault Refusal :=
  done s (crossingAlignTimeoutC s.cl lane.val)

/-- Every lane is aligned or given up (R449 step 3). -/
def Cluster.lanesDone (c : Cluster) : Bool := c.clk.sen && (List.range 4).all (fun l => (c.lane l).up || (c.lane l).dead)

/-- No good pulse by 200 us: TB_ALIGN, and TB counts from 0 with TBOK clear (R449 step 4). -/
def tbLoadTimeoutC (c : Cluster) : Cluster :=
  if c.live && c.stage == 1 && c.lanesDone && !c.tb.runs && 20000 ≤ c.clk.ckm then
    ({ c with tb := { c.tb with runs := true, value := 0 } }).raise0 0x08 0
  else c
def execTbLoadTimeout (s : State) : Host.Outcome State Fault Refusal := done s (tbLoadTimeoutC s.cl)

/-- Columns that are bad in a 34-bit map. -/
def badCount (m : Nat) : Nat := popcount 34 m
/-- Width code that b bad columns allow (R112, R53). -/
def capCode (b : Nat) : Nat := if b ≤ 2 then 3 else if b ≤ 10 then 2 else if b ≤ 18 then 1 else 0
/-- Register address of MXE_PATCH of array a (R120). -/
def rPatch (a : Nat) : Nat := rMxe (a / 4) + 0x10 * (a % 4)

/-- Put a patch map in force for array a, with its widest width and fence state (R110, R112). -/
def Cluster.setPatch (c : Cluster) (a map : Nat) : Cluster :=
  let fenced := c.flt.fenA.getLsbD a
  let w := setFld (setFld (setFld (c.regAt (rPatch a)) 33 0 map) 37 37 (if fenced then 1 else 0)) 39 38
    (if fenced then 0 else capCode (badCount map))
  c.setReg (rPatch a) w

/-- The patch map of array a that the next admission puts in force: its BIST and supplied maps together (R110). -/
def Cluster.nextMap (c : Cluster) (a : Nat) : Nat := (c.dictAt 0x2202 (a + 1) ||| c.dictAt 0x2201 (a + 1)) % 2 ^ 34
/-- An array with more than 18 bad columns in its map becomes pending for fencing (R112, R427). -/
def Cluster.judgeMap (c : Cluster) (a : Nat) : Cluster := if 18 < badCount (c.nextMap a) then c.pendArr a else c

/-- What stage 2 leaves (R296, R450, R451): maps, fences, zeroed memories. The map of BIST is in force from here on; a
supplied one enters at the first admission. -/
def Cluster.selfTest (c : Cluster) (find : Findings) : Cluster :=
  let map := fun (a : Nat) => (((find.badCols.filter (fun p => p.1 == a)).map (fun p => p.2.toNat)).foldl (· ||| ·) 0)
  let c := { c with mem := [], memErr := [], imem := [], imemErr := [], dmem := [], dmemErr := [],
                    flt := { c.flt with fenB := c.flt.fenB ||| find.failBanks, pendB := c.flt.pendB &&& ~~~find.failBanks } }
  let c := c.each (List.range 32) (fun c a =>
    let c := c.setDict 0x2202 (a + 1) (map a)
    (c.setPatch a (map a)).judgeMap a)
  let c := c.each (List.range 8) (fun c n =>
    let ok := find.lsok.getLsbD n
    let c := c.setCore n { c.core n with lsok := ok }
    if ok then c else c.pendCore n)
  let c := c.setDict 0x1100 7 (((List.range 32).map (fun a => badCount (map a))).foldl (· + ·) 0)
  let c := c.setDict 0x1100 8 (popcount 256 find.failBanks.toNat)
  c.setDict 0x1100 9 find.lsok.toNat

/-- Enter the next stage, with the CK_M time of completion and a STAGE event (R448, R453, R469). -/
def Cluster.nextStage (c : Cluster) : Cluster :=
  let k := c.stage
  let c := { c with stage := k + 1 }.setDict 0x1100 (k + 2) (c.clk.ckm % 2 ^ 32)
  c.event 3 (leBytes 1 k ++ leBytes 3 0 ++ leBytes 4 c.clk.ckm)

/-- A start-up stage completes (R448 to R451). The logic of stage 0 goes on after an F decision (R424, R452), and the
self-test makes no progress in a cycle that a throttle holds (R446). -/
def stageCompleteC (c : Cluster) (find : Findings) : Cluster :=
  if !c.powered then c
  else if c.stage = 0 then c.nextStage
  else if c.flt.fatal then c
  else if c.stage = 1 then (if c.lanesDone && c.tb.runs then c.nextStage else c)
  else if c.stage = 2 then (if c.tb.tbok && !c.throttled then (c.selfTest find).nextStage else c)
  else c
def execStageComplete (find : Findings) (s : State) : Host.Outcome State Fault Refusal := done s (stageCompleteC s.cl find)

/-- A good alignment pulse with value V (R442): the first one loads TB; later ones form D and slew. -/
def alignmentPulseC (c : Cluster) (v : W64) : Cluster :=
  if !c.live || !c.lanesDone then c
  else if !c.tb.tbok then
    { c with tb := { c.tb with value := v, runs := true, ok := true, tbok := true, debt := 0, dev := 0, dbgTk := 0 },
             flt := { c.flt with quietAt := c.flt.quietAt - c.tk + v.toNat } }
  else
    let d : Int := (c.tb.value - v).toInt
    let far := decide (1 < d.natAbs)
    let c := { c with tb := { c.tb with
      debt := d, slewN := if d = 0 then 0 else c.tb.slewN
      dev := max (-127) (min 127 d)
      ok := !far
      far := if far then satN 0xFFFF (c.tb.far + 1) else c.tb.far } }
    if far then c.raise0 0x08 0 else c
def execAlignmentPulse (v : W64) (s : State) : Host.Outcome State Fault Refusal := done s (alignmentPulseC s.cl v)

/-- A pulse is missing or its frame bad: TB keeps counting, MISS rises and TB_ALIGN is raised (R442). -/
def alignmentPulseMissingC (c : Cluster) : Cluster :=
  if c.live && c.tb.runs then
    ({ c with tb := { c.tb with ok := false, miss := satN 0xFFFF (c.tb.miss + 1) } }).raise0 0x08 0
  else c
def execAlignmentPulseMissing (s : State) : Host.Outcome State Fault Refusal := done s (alignmentPulseMissingC s.cl)

/-- The droop detectors request a level: every rise sets D to max(D, R) and is counted; while R is not below D, D stays
set (R438, R440). -/
def droopRequestC (c : Cluster) (r : Nat) : Cluster :=
  if c.live && c.clk.locked && c.clk.sen then
    let k := c.clk
    let k1 := { k with reqR := r, decAt := if k.decD ≤ k.reqR then k.free else k.decAt,
                       fullAt := if k.reqR = 8 then k.fullAt else k.ckm }
    if k.reqR < r then
      ({ c with clk := { k1 with decD := max k.decD r, decAt := k.free, riseAt := k.free } }).bump (rClk + 0x28) (rClk + 0x30) 2 1
    else { c with clk := k1 }
  else c
def execDroopRequest (level : DroopLevel) (s : State) : Host.Outcome State Fault Refusal :=
  done s (droopRequestC s.cl level.val)

/-- Is a decay of D due: R below D, and 32 CK_A cycles since D was set or fell (R438)? -/
def Cluster.decayDue (c : Cluster) : Bool :=
  c.live && c.clk.locked && c.clk.sen && decide (c.clk.reqR < c.clk.decD) && decide (c.clk.decAt + 32 ≤ c.clk.free)

/-- D falls by 1 (R438). -/
def stretchDecayC (c : Cluster) : Cluster :=
  if c.decayDue then { c with clk := { c.clk with decD := c.clk.decD - 1, decAt := c.clk.free } } else c
def execStretchDecay (s : State) : Host.Outcome State Fault Refusal := done s (stretchDecayC s.cl)

/-- May the monitor report the stretcher: 4 root cycles after a rise whose stretch it finds not applied, or when a
request of level 8 has persisted for 10 us (R415, R438, log entry 103)? -/
def Cluster.stretchFailed (c : Cluster) : Bool :=
  let k := c.clk
  (decide (0 < k.reqR) && k.free == k.riseAt + 2) || (k.reqR == 8 && decide (k.fullAt + 1000 ≤ k.ckm))

/-- A stretch is not applied in time, or a request of level 8 has persisted for 10 us: CLK_STRETCH (R415, R438). -/
def stretchTimeoutC (c : Cluster) : Cluster :=
  if c.live && c.clk.locked && c.clk.sen && c.stretchFailed then c.raise0 0x02 0 else c
def execStretchTimeout (s : State) : Host.Outcome State Fault Refusal := done s (stretchTimeoutC s.cl)

/-- A window of 100 CK_M cycles ends with a count of root cycles outside 1,600 to 3,700: CLK_ROOT (R415). -/
def clockMonitorWindowC (c : Cluster) (count : Nat) : Cluster :=
  if c.powered && c.clk.locked && (decide (count < 1600) || decide (3700 < count)) then c.raise0 0x01 0 else c
def execClockMonitorWindow (count : Nat) (s : State) : Host.Outcome State Fault Refusal :=
  done s (clockMonitorWindowC s.cl count)

/-- The die PLL reports loss of lock: CLK_PLL (R415). -/
def pllLossOfLockC (c : Cluster) : Cluster := if c.powered && c.clk.locked then c.raise0 0x03 0 else c
def execPllLossOfLock (s : State) : Host.Outcome State Fault Refusal := done s (pllLossOfLockC s.cl)

/-- A rail leaves its window while power-good is asserted: PWR_RAIL (R443). -/
def railFaultC (c : Cluster) : Cluster := if c.powered then c.raise0 0x04 0 else c
def execRailFault (s : State) : Host.Outcome State Fault Refusal := done s (railFaultC s.cl)

/-- Thermal trip: PWR_THERM (R445). -/
def thermalTripC (c : Cluster) : Cluster := if c.powered then c.raise0 0x05 0 else c
def execThermalTrip (s : State) : Host.Outcome State Fault Refusal := done s (thermalTripC s.cl)

/-- The collector's own parity check fails: FLT_SELF (R415). -/
def collectorParityErrorC (c : Cluster) : Cluster := if c.powered then c.raise0 0x07 0 else c
def execCollectorParityError (s : State) : Host.Outcome State Fault Refusal := done s (collectorParityErrorC s.cl)

/-- Duty computed from the request and the floor as they stand (R445). -/
def Cluster.dutyNow (c : Cluster) : Nat := max (min c.tim.req 12) (c.dictAt 0x2000 0x10)

/-- The power block sends a throttle request (R445). -/
def throttleRequestC (c : Cluster) (r : Nat) : Cluster :=
  if c.live then { c with tim := { c.tim with req := r } } else c
def execThrottleRequest (req : Fin 16) (s : State) : Host.Outcome State Fault Refusal := done s (throttleRequestC s.cl req.val)

/-- A throttle period begins with the duty computed in the last cycle before it (R42, R445). -/
def throttlePeriodC (c : Cluster) : Cluster :=
  if c.live && c.clk.locked then { c with tim := { c.tim with duty := c.tim.dutyNext } } else c
def execThrottlePeriod (s : State) : Host.Outcome State Fault Refusal := done s (throttlePeriodC s.cl)

/-- A thermal or rail reading arrives; the highest temperature is kept (R447). -/
def telemetryUpdateC (c : Cluster) (t : Telemetry) : Cluster :=
  if !(c.live && decide (1 ≤ c.stage)) then c
  else
    match t with
    | .temp i v =>
      let a := rPwr + 0x100 + 4 * i.val
      let old := c.regAt a
      let seen := bitAt old 32
      let mx := if seen && decide (sextN 16 v.toNat ≤ sextN 16 (fld old 31 16)) then fld old 31 16 else v.toNat
      c.setReg a (place v.toNat 0 ||| place mx 16 ||| placeB true 32)
    | .rail w => c.setReg (rPwr + 0x200) w
def execTelemetryUpdate (t : Telemetry) (s : State) : Host.Outcome State Fault Refusal := done s (telemetryUpdateC s.cl t)

/-- ALIVE inverts every 50,000 CK_M cycles from stage 0 onward, until F (R424, R426). -/
def aliveToggleC (c : Cluster) : Cluster :=
  if c.live && decide (c.flt.aliveAt + 50000 ≤ c.clk.ckm) then
    { c with flt := { c.flt with alive := !c.flt.alive, aliveAt := c.flt.aliveAt + 50000 } }
  else c
def execAliveToggle (s : State) : Host.Outcome State Fault Refusal := done s (aliveToggleC s.cl)

end Sys2Proof.Machine
end

