-- ==== Sys2Proof/Machine/Holds.lean ====
section
/-! DEFINITION. Holds, the end of an op, re-centring and FINTB (R32, R35, R41 to R47, R320, R376). Log entries of its
readings and choices: 13 DEDUCED, 78 DEDUCED. -/

namespace Sys2Proof.Machine

/-- Is a hold of LCC t decided? -/
def Cluster.decided (c : Cluster) (t : Nat) : Bool := [c.tim.hold, c.tim.next].any (fun h => match h with
  | some h => h.target == t
  | none => false)

/-- Is a hold to be decided in this cycle: one that executes LCC t - 2 while a condition for LCC t holds (R41)? -/
def Cluster.holdDue (c : Cluster) : Bool := c.runs && !c.decided (c.lcc + 2) && c.causes (c.lcc + 2) != 0

/-- HOLD_BEGIN (R41). -/
def holdBeginC (c : Cluster) : Cluster := if c.holdDue then c.openHold (c.lcc + 2) else c
def execHoldBegin (s : State) : Host.Outcome State Fault Refusal := done s (holdBeginC s.cl)

/-- Does the evaluation of the present held cycle find every condition clear (R41)? -/
def Cluster.holdClear (c : Cluster) : Bool :=
  c.ready && c.tim.running && (match c.tim.hold with
    | some h => decide (h.target ≤ c.lcc) && h.exit == 0 && c.causes h.target == 0
    | none => false)

/-- A halt ends, before LCC t executes (R469, R475). -/
def Cluster.haltOver (c : Cluster) (t : Nat) : Cluster :=
  ({ c with tim := { c.tim with haltKept := false } }).haltEvent false t

/-- HOLD_END: the next cycle is the exit cycle, and the one after it executes the held LCC value (R41). The end of
a DEBUG halt queues a HALT event (R475). -/
def holdEndC (c : Cluster) : Cluster :=
  if c.holdClear then
    match c.tim.hold with
    | some h =>
      let c := { c with tim := { c.tim with hold := some { h with exit := 1 } } }
      if h.mask.testBit 4 then c.haltOver h.target else c
    | none => c
  else c
def execHoldEnd (s : State) : Host.Outcome State Fault Refusal := done s (holdEndC s.cl)

/-- Late DMARRs of a hold: each context is torn down, and its DMARR completes (R47). -/
def Cluster.timeoutLate (c : Cluster) (t : Nat) : Cluster :=
  c.each (List.range 4) (fun c ch =>
    match c.lateAt t ch with
    | some k =>
      let c := c.raise 0x11 (48 + ch) k
      { c with tim := { c.tim with waive := k :: c.tim.waive } }
    | none => c)

/-- HOLD_TIMEOUT (R47): every active cause raises its own fault; first the contexts of late DMARRs, then the lining. -/
def holdTimeoutC (c : Cluster) : Cluster :=
  match c.tim.hold with
  | none => c
  | some h =>
    let m := c.causes h.target % 8
    if c.ready && c.tim.running && h.begun && decide (h.target ≤ c.lcc) && !c.halted && m != 0 && decide (h.since + h.limit < c.tk) then
      let q := (c.shortQs h.target).headD 0
      let c := if m.testBit 1 then c.timeoutLate h.target else c
      let c := if m.testBit 2 || m.testBit 0 then c.containLining else c
      let c := if m.testBit 2 then c.record { src := 0x11, cls := 2, inst := 0, scope := 2, ctx := 0 } else c
      if m.testBit 0 then c.record { src := 0x11, cls := 2, inst := q, scope := 2, ctx := 0 } else c
    else c
def execHoldTimeout (s : State) : Host.Outcome State Fault Refusal := done s (holdTimeoutC s.cl)

/-- The crossing samples the fill of FIFO j; one outside 4 to 12 after 64 unstretched cycles re-centres (R320). -/
def crossingRecentreC (c : Cluster) (j fill : Nat) : Cluster :=
  if c.live && (c.lane (j / 2)).up then
    let c := c.setFill j fill
    if c.recentreDue then c.recentreBegin else c
  else c
def execCrossingRecentre (j : FifoId) (fill : Fin 17) (s : State) : Host.Outcome State Fault Refusal :=
  done s (crossingRecentreC s.cl j.val fill.val)

/-- Every queue closed and every started op ended (R35). -/
def Cluster.allClosed (c : Cluster) : Bool := c.queues.toList.all (fun q => decide (q.count ≤ q.started) && q.run.isNone)

/-- The lining ends when every queue is closed and every started op has ended (R35). -/
def Cluster.endCheck (c : Cluster) : Cluster := if c.tim.running && c.allClosed then c.liningEnd else c

/-- Is the end of the running op of a queue due (R32)? -/
def Cluster.endDue (c : Cluster) (q : Nat) : Bool :=
  c.ready && c.tim.running && (match (c.queue q).run with
    | some r => decide (r.fin ≤ c.lcc)
    | none => false)

/-- OP_END: the engine is free for the next op (R32); the last one ends the lining (R35). -/
def opEndC (c : Cluster) (q : Nat) : Cluster :=
  if c.endDue q then (c.setQueue q { c.queue q with run := none }).endCheck else c
def execOpEnd (q : QueueId) (s : State) : Host.Outcome State Fault Refusal := done s (opEndC s.cl q.val)

/-- Is FINTB of a context due: the cycle executes LCC FIN[v] (R376)? -/
def Cluster.finDue (c : Cluster) (k : Nat) : Bool :=
  let x := c.ctx k
  c.runs && x.state == 2 && !x.torn && !x.finSet && vat x.fin x.var 0 == c.lcc

/-- FINTB_RECORD (R376). -/
def fintbRecordC (c : Cluster) (k : Nat) : Cluster :=
  if c.finDue k then c.setCtx k { c.ctx k with fintb := c.tb.value, finSet := true } else c
def execFintbRecord (ctx : CtxId) (s : State) : Host.Outcome State Fault Refusal := done s (fintbRecordC s.cl ctx.val)

/-- Is a drain of an array due (R98)? -/
def Cluster.drainDue (c : Cluster) (a : Nat) : Bool :=
  c.runs && (match (c.arr a).jobs with
    | j :: _ => decide (j.due ≤ c.lcc)
    | [] => false)

/-- Is LAUNCH due: dispatch complete, and TB at TBAT or NOW set (R248, R273, R380)? -/
def Cluster.launchDue (c : Cluster) : Bool :=
  c.ready && !c.tim.running && (match c.run with
    | some r => !r.begun && decide (r.ready ≤ c.clk.free) && r.saving.isNone &&
        (if r.now then (List.range 52).all (fun q => !c.shortAt 0 q) else decide (r.tbat.toNat ≤ c.tbNow))
    | none => false)

end Sys2Proof.Machine
end

