-- ==== Sys2Proof/Machine/Feeders.lean ====
section
/-! DEFINITION. Row feeders, scale feeders, index lists and the reads that an array op makes ahead of its start (R89
to R94, R108, R109, R121 to R132, R163). Log entries of its readings and choices: 12 DEDUCED, 30 DEDUCED, 51 DESIGN
CHOICE, 56 DEDUCED, 64 DEDUCED, 68 DEDUCED, 79 DEDUCED, 80 DEDUCED, 83 DEDUCED, 95 DESIGN CHOICE. -/

namespace Sys2Proof.Machine

/-- Op codes of the MMA family. -/
def isMma (opc : Nat) : Bool := opc == 0x10 || opc == 0x11 || opc == 0x12 || opc == 0x13
/-- Formats of an op (R222). -/
def opWfmt (o : MacroOp) : Nat := fld o 159 156
def opAfmt (o : MacroOp) : Nat := fld o 155 152
def opLead (o : MacroOp) : Nat := fld o 151 145
/-- CMODE of an MMAC (R228). -/
def opCmode (o : MacroOp) : Nat := fld o 17 16
def isMmac (o : MacroOp) (m : Nat) : Bool := opOpc o == 0x13 && opCmode o == m
def isGauss (o : MacroOp) : Bool := isMmac o 3
def isComplex (o : MacroOp) : Bool := isMmac o 2
def isStip (o : MacroOp) : Bool := opOpc o == 0x11
def isGathK (o : MacroOp) : Bool := opOpc o == 0x12 && bitAt o 17
def isGathRow (o : MacroOp) : Bool := opOpc o == 0x12 && !bitAt o 17

/-- Dense K advance of a pair (R71). -/
def pairAdv (w a : Nat) : Nat :=
  if (w = 1 || w = 2) && (a = 1 || a = 2) then 1 else if (w = 6 && a = 6) || (w = 8 && a = 8) then 4 else 2
/-- Dense K advance of an op (R71, R223). -/
def kAdv (o : MacroOp) : Nat := if isMmac o 0 then 1 else pairAdv (opWfmt o) (opAfmt o)
/-- K positions of one operand cycle (R88). -/
def kPos (o : MacroOp) : Nat := if isStip o then 2 * kAdv o else kAdv o
/-- Passes over K (R106). -/
def passes (o : MacroOp) : Nat :=
  if opOpc o = 0x13 then (if opCmode o = 0 || opCmode o = 3 then 3 else 4) else 1
/-- Operand cycles of one pass (R223). -/
def passLen (o : MacroOp) : Nat :=
  let pc := fld o 132 120 + 1
  if isGathK o then pc * 128 / kAdv o else pc
/-- Operand cycles N (R106, R223). -/
def opN (o : MacroOp) : Nat := passes o * passLen o
/-- K length in elements. -/
def kLen (o : MacroOp) : Nat := kPos o * passLen o
/-- Group size G and kept count n of a stipple pattern (R121). -/
def stip (o : MacroOp) : Nat × Nat :=
  match fld o 17 16 with
  | 0 => (4, 2)
  | 1 => (4, 1)
  | _ => (8, 4)
/-- Elements of each row's value stream in one pass (R123). -/
def kept (o : MacroOp) : Nat := if isStip o then kLen o / (stip o).1 * (stip o).2 else kLen o

/-- Stored width of one K element of an operand format (R72, R94): complex pairs are two elements. -/
def storeBits (o : MacroOp) (f : Nat) : Nat :=
  if isMmac o 0 then 32 else if isMmac o 1 then 16 else if isComplex o || isGauss o then 2 * fmtBits f else fmtBits f
/-- Stored width of a weight element. -/
def wBits (o : MacroOp) : Nat := storeBits o (opWfmt o)

/-- Value, mask and scale lines of one pass (R93). -/
def nLines (o : MacroOp) (kind : Nat) : Nat :=
  match kind with
  | 0 => cdiv (kept o * wBits o) 512
  | 1 => if isStip o then cdiv (kLen o) 512 else 0
  | 2 => if fmtIsMx (opWfmt o) then cdiv (kLen o) 32 else 0
  | _ => 0
/-- Bits of a row's value stream that one operand cycle consumes (R94). -/
def useBits (o : MacroOp) : Nat := if isStip o then kPos o * (stip o).2 * wBits o / (stip o).1 else kPos o * wBits o
/-- Operand cycle within the pass in which the first byte of line j is consumed (R93). -/
def firstUse (o : MacroOp) (kind j : Nat) : Nat :=
  match kind with
  | 0 => 512 * j / useBits o
  | 1 => 512 * j / kPos o
  | _ => 32 * j / kPos o
/-- Operand cycle of the op in which line i, over all passes, is first used. -/
def lineCycle (o : MacroOp) (kind i : Nat) : Nat :=
  let n := nLines o kind
  i / n * passLen o + firstUse o kind (i % n)

/-- What two ops that share one weight stream agree in (R89, R131). -/
def weightKey (o : MacroOp) : List Nat :=
  let mode :=
    if isStip o then [1, fld o 17 0] else if isGathK o then [2, fld o 17 0] else if opOpc o = 0x13 then [3, opCmode o] else [0]
  [opStamp o, fld o 191 160, opWfmt o, fld o 151 133, fld o 132 120, kAdv o, fld o 45 18] ++ mode

/-- An entry of an index list (R128). -/
def entValid (e : W16) : Bool := bitAt e 15
def entIndex (e : W16) : Nat := fld e 14 0

/-- The granule that block m of the value stream comes from: none for a padding entry (R108, R131). -/
def granuleOf (o : MacroOp) (list : Option (List W16)) (m : Nat) : Option Nat :=
  if isGathK o then
    let e := (list.getD []).getD (fld o 6 0 + m) 0
    if entValid e then some (entIndex e) else none
  else some m

/-- Lines per row of a skewed block (R108). -/
def skewL (o : MacroOp) : Nat := wBits o / 4
/-- Line number of stored line cc of stored row r of granule g, from the handle line `base` (R108). -/
def skewLine (o : MacroOp) (base g r cc : Nat) : Nat :=
  (base / 256 + g * skewL o + cc) * 256 + (base % 256 + (r + 128 / skewL o * cc) % 128) % 256

/-- The 128 lines that value line j of a pass reads, in rows (or in stored rows, transposed) (R108, R109). -/
def valueLines (o : MacroOp) (base g j : Nat) : List Nat :=
  let l := skewL o
  if !bitAt o 144 then (List.range 128).map (fun r => base + r * fld o 142 133 + j)
  else if bitAt o 143 then (List.range 128).map (fun s => skewLine o base g (128 / l * (j % l) + s / l) (s % l))
  else (List.range 128).map (fun r => skewLine o base g r (j % l))

/-- The transpose network: row i of a transposed line takes element i mod (128 / L) of stored line i / (128 / L) of
every stored row of the band (R109). -/
def transposeLine (o : MacroOp) (stored : List (List Byte)) : List (List Byte) :=
  let l := skewL o
  let per := 128 / l
  let els := (stored.map (fun bs => (unpack (wBits o) per bs).toArray)).toArray
  (List.range 128).map (fun i => packElems (wBits o) ((List.range per).map (fun k =>
    ((els[k * l + i / per]?).getD #[])[i % per]?.getD 0)))

/-- The granule or block of a pass that value line j belongs to. -/
def blockOf (o : MacroOp) (j : Nat) : Nat := if bitAt o 144 then j / skewL o else 0

/-- Is K position k under a padding entry, so that its weight is zero (R131)? -/
def padK (o : MacroOp) (list : Option (List W16)) (k : Nat) : Bool := isGathK o && list.isSome && (granuleOf o list (k / 128)).isNone

/-- Is a feeder line suppressed, or not addressable: a padding entry of a gathered op, or a list that was late (R131)? -/
def lineSkipped (o : MacroOp) (list : Option (List W16)) (kind j : Nat) : Bool :=
  isGathK o && kind != 1 && (list.isNone || (granuleOf o list (if kind = 0 then blockOf o j else j / 4)).isNone)

/-- The scratchpad lines that line j of a pass of a feeder is read from: 128 rows, or the two lines of a scale vector
(R93, R108, R124, R131). A SKEW layout of 6-bit elements has no place in R108: it names none. -/
def Cluster.lineAddrs (c : Cluster) (o : MacroOp) (list : Option (List W16)) (kind j : Nat) : List Nat :=
  let wl := hndBase (c.regAt (rHnd (fld o 191 180))) + fld o 179 160
  let sl := hndBase (c.regAt (rHnd (fld o 45 34)))
  match kind with
  | 0 =>
    if bitAt o 144 && wBits o % 4 != 0 then []
    else valueLines o wl ((granuleOf o list (blockOf o j)).getD 0) j
  | 1 =>
    let m := sl + fld o 15 0
    (List.range 128).map (fun r => (m / 256 + j) * 256 + (m % 256 + r) % 256)
  | _ =>
    let b := if isGathK o then 4 * (granuleOf o list (j / 4)).getD 0 + j % 4 else j
    [sl + fld o 33 18 + 2 * b, sl + fld o 33 18 + 2 * b + 1]

/-- Read lines through static ports. -/
def Cluster.readLines (c : Cluster) (ctx : Nat) (ls : List Nat) : List (List Byte) × Cluster :=
  ls.foldl (fun p l =>
    let r := p.2.portRead ctx (l * 64) 64
    (p.1 ++ [r.1], r.2.1)) ([], c)

/-- Bytes of a feeder line of a kind, all rows together (R92). -/
def lineLen (kind : Nat) : Nat := if kind = 2 then 128 else 8192

/-- Read line i of an op into its core's feeder, where it lands F_R cycles later (R93). -/
def Cluster.feederRead (c : Cluster) (n : Nat) (o : MacroOp) (t0 : Nat) (list : Option (List W16)) (k : Nat × Nat) : Cluster :=
  let ls := c.lineAddrs o list k.1 (k.2 % nLines o k.1)
  let r := if ls.isEmpty then (([(c.freeBs (lineLen k.1)).1] : List (List Byte)), (c.freeBs (lineLen k.1)).2) else c.readLines (opCtx o) ls
  let bs := (if k.1 = 0 && !ls.isEmpty && bitAt o 144 && bitAt o 143 then transposeLine o r.1 else r.1).flatten
  r.2.post (c.lcc + c.floor 2) 0 (.feed n k.1 ⟨weightKey o, t0, k.2, bs⟩)

/-- Feeders of core n (R92). -/
def Cluster.feed (c : Cluster) (n : Nat) : Feeder := vat c.feeds n Feeder.reset
def Cluster.setFeed (c : Cluster) (n : Nat) (x : Feeder) : Cluster := { c with feeds := vset c.feeds n x }

/-- The last k of a list. -/
def lastN {α : Type} (k : Nat) (l : List α) : List α := l.drop (l.length - k)

/-- Lines of a kind that land in core n's feeder in this cycle. -/
def Cluster.linesLanding (c : Cluster) (n kind : Nat) : Nat :=
  (c.posts.filter (fun p => decide (p.at_ ≤ c.lcc) && (match p.what with
    | .feed m k _ => m == n && k == kind
    | _ => false))).length

/-- The slots that the lines of this cycle land in: what they held is not there for an operand of this cycle (R94). -/
def Cluster.freeSlots (c : Cluster) (n : Nat) : Cluster :=
  let x := c.feed n
  c.setFeed n { x with vals := lastN (4 - c.linesLanding n 0) x.vals, masks := lastN (2 - c.linesLanding n 1) x.masks,
                       scales := lastN (32 - c.linesLanding n 2) x.scales }

/-- A line lands in a feeder, over the oldest one where no slot is free (R92, R94). -/
def Cluster.landLine (c : Cluster) (n kind : Nat) (l : FLine) : Cluster :=
  let x := c.feed n
  c.setFeed n (match kind with
    | 0 => { x with vals := lastN 4 (x.vals ++ [l]) }
    | 1 => { x with masks := lastN 2 (x.masks ++ [l]) }
    | _ => { x with scales := lastN 32 (x.scales ++ [l]) })

/-- Lines of a kind that a feeder holds. -/
def Feeder.held (x : Feeder) (kind : Nat) : List FLine :=
  match kind with
  | 0 => x.vals
  | 1 => x.masks
  | _ => x.scales

/-- Line i of a kind of the op that starts at t0, if the feeder holds it. -/
def Feeder.line (x : Feeder) (o : MacroOp) (t0 kind i : Nat) : Option (List Byte) :=
  ((x.held kind).find? (fun l => l.t0 == t0 && l.i == i && l.key == weightKey o)).map (fun l => l.bs)

/-- The feeder lines of an op that are read in this cycle (R93), but for those that are suppressed. -/
def Cluster.linesDue (c : Cluster) (o : MacroOp) (t0 : Nat) (list : Option (List W16)) : List (Nat × Nat) :=
  [0, 1, 2].flatMap (fun kind => (List.range (passes o * nLines o kind)).filterMap (fun i =>
    if t0 + lineCycle o kind i == c.lcc + opLead o && !lineSkipped o list kind (i % nLines o kind) then some (kind, i) else none))

/-- Feeder lines that no array of the core has asked for yet: arrays of one weight stream share their reads (R89). -/
def Cluster.notIssued (c : Cluster) (n : Nat) (o : MacroOp) (t0 : Nat) (ks : List (Nat × Nat)) : List (Nat × Nat) :=
  ks.filter (fun k => !(c.feed n).issued.contains ⟨weightKey o, t0, t0 + opN o, k.1, k.2⟩)

/-- Ask for feeder lines in this cycle: their static port uses are entered (R93). -/
def Cluster.issueLines (c : Cluster) (a : Nat) (o : MacroOp) (t0 : Nat) (list : Option (List W16)) (ks : List (Nat × Nat)) : Cluster :=
  let n := a / 4
  let ks := c.notIssued n o t0 ks
  if ks.isEmpty then c
  else
    let x := c.feed n
    let keys := ks.map (fun k => (⟨weightKey o, t0, t0 + opN o, k.1, k.2⟩ : FKey))
    let c := c.setFeed n { x with issued := x.issued.filter (fun k => decide (c.lcc < k.fin)) ++ keys }
    let y := c.arr a
    let c := c.setArr a { y with todo := y.todo ++ [(o, t0, ks)] }
    c.addUses (portUses (qArr a) false (ks.flatMap (fun k => c.lineAddrs o list k.1 (k.2 % nLines o k.1))))

/-- Stored format of the activations (R91, R161). -/
def Cluster.srcFmt (c : Cluster) (n : Nat) (o : MacroOp) : Nat :=
  match c.primer n o with
  | some p => fld p.1 57 54
  | none => opAfmt o
/-- Stored width of an activation element. -/
def Cluster.xBits (c : Cluster) (n : Nat) (o : MacroOp) : Nat := storeBits o (c.srcFmt n o)

/-- Activation tiles of an op (R91, R130, R222). -/
def actTiles (o : MacroOp) : List Nat := (List.range (fld o 99 97 + 1)).map (fun i => fld o 103 100 + i)

/-- Presented width of an array in force (R53, R56, R120). -/
def Cluster.presW (c : Cluster) (a : Nat) : Nat :=
  match fld (c.regAt (rPatch a)) 41 40 with
  | 1 => 16
  | 2 => 24
  | 3 => 32
  | _ => 0

/-- Elements of one token of a gathered-row source table, all its tiles in order (R130). -/
def Cluster.tokenElems (c : Cluster) (n : Nat) (o : MacroOp) (tok : Nat) : List Nat :=
  let bs := (actTiles o).flatMap (fun t => c.tileRow n t tok)
  unpack (c.xBits n o) (bs.length * 8 / c.xBits n o) bs

/-- Unspecified codes of w bits. -/
def Cluster.freeCodes (c : Cluster) (cnt w : Nat) : List Nat × Cluster :=
  let f := c.freeBs (8 * cnt)
  ((List.range cnt).map (fun i => leNat ((f.1.drop (8 * i)).take 8) % 2 ^ w), f.2)

/-- Scale byte of the activations of a source slice, by column: of the block at K position k, in a stream or in the
token's row of a gathered-row source table, unspecified where its list was not there (R66, R91, R129, R130). -/
def Cluster.actScales (c : Cluster) (n : Nat) (o : MacroOp) (list : Option (List W16)) (k : Nat) : List Nat × Cluster :=
  let t := fld o 87 84
  if !fmtIsMx (c.srcFmt n o) then ([], c)
  else if isGathRow o then
    match list with
    | none => c.freeCodes 32 8
    | some l =>
      ((List.range 32).map (fun p =>
        let e := l.getD (fld o 6 0 + p) 0
        if entValid e then ((c.tileRow n t (entIndex e)).getD (k / 32) 0).toNat else 127), c)
  else ((List.range 32).map (fun p => (c.tileByte n t (k / 32 * 32 + p)).toNat), c)

/-- The stored elements of the source slice of operand cycle t of a pass: 32 columns by the K positions of the cycle
(R91, R130, R163), unspecified where a gathered op reads it before its list (DESIGN CHOICE, log entry 51). -/
def Cluster.sliceCodes (c : Cluster) (a : Nat) (o : MacroOp) (list : Option (List W16)) (t : Nat) : List Nat × Cluster :=
  let n := a / 4
  let w := c.xBits n o
  let cnt := 32 * kPos o
  if isGathRow o then
    match list with
    | none => c.freeCodes cnt w
    | some l =>
      let cols := (List.range 32).map (fun p =>
        let e := l.getD (fld o 6 0 + p) 0
        if entValid e && decide (p < c.presW a) then ((c.tokenElems n o (entIndex e)).drop (t * kPos o)).take (kPos o) else [])
      ((List.range (kPos o)).flatMap (fun j => cols.map (fun e => e.getD j 0)), c)
  else (unpack w cnt (c.tilesBytes n (actTiles o) (64 * fld o 96 88 + t * (cnt * w / 8)) (cdiv (cnt * w) 8)), c)

/-- Per-token register set of an array (R164). -/
def Cluster.primSet (c : Cluster) (a : Nat) (b : Option Bool) : PrimSet :=
  match b with
  | some true => (c.arr a).prim1
  | some false => (c.arr a).prim0
  | none => PrimSet.reset

/-- The per-token set that an op loads is the one that the array's previous op with a setup point did not use (R164). -/
def Cluster.loadSet (c : Cluster) (a : Nat) (s : PrimSet) : Bool × Cluster :=
  let x := c.arr a
  let b := !x.primLast
  (b, c.setArr a { x with primLast := b, prim0 := if b then x.prim0 else s, prim1 := if b then s else x.prim1 })

/-- The per-token set of an op that uses it now: a set whose setup was missed holds free values (R163, R7). -/
def Cluster.needSet (c : Cluster) (a : Nat) (o : MacroOp) (s : Option Bool) : Option Bool × Cluster :=
  match s, c.primer (a / 4) o with
  | some b, _ => (some b, c)
  | none, some p =>
    if c.hasSetup (a / 4) o then
      let f := c.freeSet p.2
      let r := f.2.loadSet a f.1
      (some r.1, r.2)
    else (none, c)
  | none, none => (none, c)

/-- Read source slice s of an op, and pass it through the primer (R91, R130, R161 to R163); the per-K operands of
every stage are read with it (DEDUCED, log entry 56). -/
def Cluster.readSlice (c : Cluster) (a : Nat) (o : MacroOp) (list : Option (List W16)) (set : Option Bool) (s : Nat) : Slice × Cluster :=
  let n := a / 4
  let t := s % passLen o
  let r := c.sliceCodes a o list t
  let sc := r.2.actScales n o list (t * kPos o)
  match c.primer n o with
  | none => (⟨s, r.1, sc.1⟩, sc.2)
  | some p =>
    let ps := c.primSet a set
    let codes := r.1.zipIdx.map (fun x => c.primVal n p ps (opAfmt o) (x.2 % 32) (t * kPos o + x.2 / 32) x.1 (sc.1[x.2 % 32]?))
    (⟨s, codes, []⟩, sc.2)

/-- Array ops visible in the queue of array a, with the LCC values at which they will start (R33). -/
def Cluster.planned (c : Cluster) (a : Nat) : List (MacroOp × Nat) :=
  ((c.upcoming (qArr a)).map (fun p => p.2)).filter (fun p => isMma (opOpc p.1))

/-- What has been read ahead for an op that will start at LCC t0. -/
def Cluster.aheadOf (c : Cluster) (a : Nat) (o : MacroOp) (t0 : Nat) : Ahead :=
  (((c.arr a).ahead.find? (fun e => e.t0 == t0 && e.op == o))).getD ⟨o, t0, false, none, none, [], []⟩
/-- Keep what has been read ahead for an op. -/
def Cluster.keepAhead (c : Cluster) (a : Nat) (e : Ahead) : Cluster :=
  let x := c.arr a
  c.setArr a { x with ahead := x.ahead.filter (fun f => !(f.t0 == e.t0 && f.op == e.op)) ++ [e] }
/-- Tiles that an op refers to ahead of its start, beside those it refers to already. -/
def Ahead.refer (e : Ahead) (ts : List Nat) : Ahead := { e with tiles := (e.tiles ++ ts).eraseDups }

/-- Is the list read of an MMAG due at LCC x (R129)? -/
def listDue (o : MacroOp) (x : Nat) : Bool :=
  if isGathRow o then x + 4 == opStamp o else isGathK o && x + opLead o + 4 == opStamp o

/-- The reads of an op due in this cycle, ahead of its start t0: kinds 0 to 2 feeder lines, 3 source slices, 4 the
primer setup, 5 the list; those made already, and those that a known nullification suppresses, are not due (R93, R104,
R129, R163). -/
def Cluster.readsDue (c : Cluster) (a : Nat) (o : MacroOp) (t0 : Nat) : List (Nat × Nat) :=
  let x := c.lcc
  let e := c.aheadOf a o t0
  if t0 ≤ x || c.nullAhead (qArr a) (c.numAt (qArr a) t0) o x then []
  else
    let n := a / 4
    let lp := c.lpri n o
    let lines := c.notIssued n o t0 (c.linesDue o t0 e.list)
    let s := x + lp - t0
    let slice := if t0 ≤ x + lp && decide (s < opN o) && !e.slices.any (fun l => l.i == s) then [(3, s)] else []
    let setup := if c.hasSetup n o && x + lp + 96 == t0 && e.set.isNone then [(4, 0)] else []
    let list := if listDue o x && !e.listed then [(5, 0)] else []
    list ++ setup ++ slice ++ lines

/-- The ops of an array that have reads due in this cycle. -/
def Cluster.aheadDue (c : Cluster) (a : Nat) : Bool := c.runs && (c.planned a).any (fun p => !(c.readsDue a p.1 p.2).isEmpty)

/-- Does a handle cover a line (R287)? -/
def hndCovers (h : W64) (l : Nat) : Bool := decide (hndBase h ≤ l) && decide (l < hndBase h + hndSize h)

/-- Is a granule outside the weight handle (R132)? -/
def Cluster.granuleOut (c : Cluster) (o : MacroOp) (g : Nat) : Bool :=
  let h := c.regAt (rHnd (fld o 191 180))
  let base := hndBase h + fld o 179 160
  !(List.range 128).all (fun r => [0, skewL o - 1].all (fun cc => hndCovers h (skewLine o base g r cc)))

/-- The index list of an MMAG as it lies in its tile, and its lowest used entry that is out of range (R128,
R132); an unconfigured source table counts as one row (DESIGN CHOICE, log entry 95). -/
def Cluster.rawList (c : Cluster) (a : Nat) (o : MacroOp) : List W16 :=
  (unpack 16 128 (c.tileBytes (a / 4) (16 + fld o 16 14) (fld o 13 7 * c.tileB (a / 4) (16 + fld o 16 14)) 256)).map (BitVec.ofNat 16)
def Cluster.entryOut (c : Cluster) (a : Nat) (o : MacroOp) (e : W16) : Bool :=
  entValid e && (if isGathK o then c.granuleOut o (entIndex e) else decide (c.tileRows (a / 4) (fld o 103 100) ≤ entIndex e))
def Cluster.firstOut (c : Cluster) (a : Nat) (o : MacroOp) (l : List W16) : Option Nat :=
  let cnt := if isGathK o then fld o 132 120 + 1 else c.presW a
  ((List.range cnt).map (fun i => fld o 6 0 + i)).find? (fun i => c.entryOut a o (l.getD i 0))

/-- Have the list entries that an op uses been written by now: no row that holds one of them is empty (R128, R129, R196)? -/
def Cluster.listThere (c : Cluster) (a : Nat) (o : MacroOp) : Bool :=
  let n := a / 4
  let t := 16 + fld o 16 14
  let b := c.tileB n t
  let lo := fld o 13 7 * b + 2 * fld o 6 0
  let cnt := if isGathK o then fld o 132 120 + 1 else c.presW a
  c.tileValid n t && (List.range ((lo + 2 * cnt + b - 1) / b - lo / b)).all (fun i => !(c.tileEmpty n t).testBit (lo / b + i))

/-- Read the list of an op: out-of-range entries become padding (R132), and one that has not been written is not there; the
op refers to its list tile until it starts (R129). -/
def Cluster.readList (c : Cluster) (a : Nat) (o : MacroOp) (t0 : Nat) : Cluster :=
  let l := (c.rawList a o).map (fun e => if c.entryOut a o e then e &&& 0x7FFF else e)
  let e := { c.aheadOf a o t0 with listed := true, list := if c.listThere a o then some l else none }
  c.keepAhead a (e.refer [16 + fld o 16 14])

/-- Record an out-of-range entry in MXE_GATHSTAT and raise its fault (R132, R133). -/
def Cluster.gatherFault (c : Cluster) (a : Nat) (o : MacroOp) (i : Nat) (e : W16) : Cluster :=
  let n := a / 4
  (c.latch (rMxe n + 0x308) (place (opCtx o) 57 ||| place (a % 4) 55 ||| placeB (isGathK o) 54 ||| place i 47
    ||| place (entIndex e) 32 ||| place (opStamp o) 0)).raise 0x13 n (opCtx o)

/-- The list reads due on core n in this cycle: every array's, with one fault for all (R132). -/
def Cluster.readLists (c : Cluster) (n : Nat) : Cluster :=
  let due := [4 * n, 4 * n + 1, 4 * n + 2, 4 * n + 3].flatMap (fun a =>
    ((c.planned a).filter (fun p => (c.readsDue a p.1 p.2).contains (5, 0))).map (fun p => (a, p)))
  let bad := due.findSome? (fun d => (c.firstOut d.1 d.2.1 (c.rawList d.1 d.2.1)).map (fun i => (d, i)))
  let c1 := c.each due (fun c d => c.readList d.1 d.2.1 d.2.2)
  match bad with
  | some (d, i) => c1.gatherFault d.1 d.2.1 i ((c.rawList d.1 d.2.1).getD i 0)
  | none => c1

/-- Source tiles of an op: activations, and their scales where they are MX (R91). -/
def Cluster.srcTiles (c : Cluster) (n : Nat) (o : MacroOp) : List Nat :=
  actTiles o ++ (if fmtIsMx (c.srcFmt n o) then [fld o 87 84] else [])
/-- Tiles of the per-K operands of an op's primer (R163). -/
def Cluster.perKTiles (c : Cluster) (n : Nat) (o : MacroOp) : List Nat :=
  match c.primer n o with
  | some p => p.2.filterMap (fun w => if stOpk w = 1 then stTile w else none)
  | none => []

/-- Tiles of the per-token operands and records of an op's primer (R163, R201). -/
def Cluster.perTokTiles (c : Cluster) (n : Nat) (o : MacroOp) : List Nat :=
  match c.primer n o with
  | some p => p.2.filterMap (fun w => if stOpk w = 2 then stTile w else none)
  | none => []

/-- Make the tile reads of an op that are due: a source slice, or the primer's setup (R163, R164). Tiles keep their
contents through a cycle, so that the order of the reads in it does not matter (R198). -/
def Cluster.makeRead (c : Cluster) (a : Nat) (o : MacroOp) (t0 : Nat) (r : Nat × Nat) : Cluster :=
  let e := c.aheadOf a o t0
  let n := a / 4
  if r.1 = 3 then
    let p := c.needSet a o e.set
    let s := p.2.readSlice a o e.list p.1 r.2
    s.2.keepAhead a (({ e with set := p.1, slices := e.slices ++ [s.1] }).refer (c.srcTiles n o ++ c.perKTiles n o))
  else if r.1 = 4 then
    match c.primer n o with
    | none => c
    | some p =>
      let s := c.loadSet a (c.setupSet a p.2)
      s.2.keepAhead a (({ e with set := some s.1 }).refer (c.srcTiles n o ++ c.perTokTiles n o))
  else c

/-- Keys of the table words that an op's reads use (R416). -/
def opKeys (n : Nat) (o : MacroOp) : List Nat :=
  [rHnd (fld o 191 180), rHnd (fld o 45 34)] ++ (if fld o 115 110 = 0 then [] else chainKeys n (fld o 115 110))

/-- READ_AHEAD_OF_START: every read of the array's waiting ops that is due in this cycle (R93, R129, R163). Feeder
lines are read through their ports as the cycle passes. -/
def readAheadC (c : Cluster) (a : Nat) : Cluster :=
  if c.aheadDue a then
    let c := c.readLists (a / 4)
    c.each (c.planned a) (fun c p =>
      let due := c.readsDue a p.1 p.2
      if due.isEmpty then c
      else c.withTab (opKeys (a / 4) p.1) (fun c =>
        (c.each due (fun c r => c.makeRead a p.1 p.2 r)).issueLines a p.1 p.2 (c.aheadOf a p.1 p.2).list
          (due.filter (fun r => decide (r.1 < 3)))))
  else c
def execReadAheadOfStart (a : ArrayId) (s : State) : Host.Outcome State Fault Refusal := done s (readAheadC s.cl a.val)

/-- Are the static port uses of this cycle all entered but a SEGBR's: nothing that starts or reads ahead in it is still
to come? -/
def Cluster.settled (c : Cluster) : Bool := !c.startsDue && !(List.range 32).any (fun a => c.aheadDue a)

/-- Are they entered, a SEGBR's selector read among them (R140)? -/
def Cluster.portsKnown (c : Cluster) : Bool :=
  c.settled && (match c.run with
    | some r => !r.ctl.any (fun o => opOpc o == 0x51 && decide (opStamp o ≤ c.lcc))
    | none => true)

end Sys2Proof.Machine
end

