-- ==== Sys2Proof/Machine/Boundary.lean ====
section
/-! DEFINITION. The boundary port and inbound fabric requests: RD and WR, the open slots of a bank, scrubs and repairs
(R24 to R26, R283 to R297, R306, R312). Log entries of its readings and choices: 11 DESIGN CHOICE, 40 DEDUCED, 76
DESIGN CHOICE, 91 DESIGN CHOICE. -/

namespace Sys2Proof.Machine

/-- Lines of a block that a request names: index j and scratchpad line (R311). -/
def reqLines (ga lmask : Nat) : List (Nat × Nat) := (bitsOf 4 lmask).map (fun j => (j, ga % 2 ^ 32 / 64 + j))

/-- Does a request name an address that no fabric request may reach (R24 to R26, R289)? That one of another cluster or of
another SPACE counts among them is a DESIGN CHOICE (log entry 91). -/
def Cluster.reqUnmapped (c : Cluster) (ga : Nat) (lines : List (Nat × Nat)) : Bool :=
  ga / 2 ^ 40 != c.straps.toNat || ga / 2 ^ 32 % 256 != 0 || decide (syncBase ≤ ga % 2 ^ 32)
    || lines.any (fun p => decide (syncBase ≤ p.2 * 64))

/-- Is every line of a request covered by a valid handle that permits it (R288)? Bit 60 permits reads, 59 writes. -/
def Cluster.reqGranted (c : Cluster) (bit : Nat) (lines : List (Nat × Nat)) : Bool :=
  lines.all (fun p => (c.handlesAt p.2).any (fun h => bitAt h.2 bit))

/-- Table words that the check of a request reads. -/
def Cluster.reqKeys (c : Cluster) (lines : List (Nat × Nat)) : List Nat :=
  (lines.flatMap (fun p => (c.handlesAt p.2).map (fun h => rHnd h.1))).eraseDups

/-- Serve an inbound RD: an error reply, or line reads in class 3 of the banks (R284, R288, R312). One with LMASK 0 names
no line: it is answered with a payload of zeros (log entry 76). -/
def Cluster.serveRd (c : Cluster) (lane : Nat) (f : Flit) : Cluster :=
  let lines := reqLines (fGaddr f) (fLmask f)
  if c.reqUnmapped (fGaddr f) lines then c.reply lane f.hdr 5 1 (fLmask f) []
  else
    let p := c.tabRead (c.reqKeys lines)
    if !p.1.reqGranted 60 lines then p.1.reply lane f.hdr 5 2 (fLmask f) []
    else if lines.isEmpty then p.1.reply lane f.hdr 3 0 0 (List.replicate 256 0)
    else p.1.addGroup 3 0 (.rdReply lane f) (lines.map (fun p => lineReq p.1 p.2 none))

/-- Is a request's every line inside the open staging region (R396)? -/
def Cluster.stagingLines (c : Cluster) (lines : List (Nat × Nat)) : Bool :=
  c.intake.state == 1 && lines.all (fun p => decide (c.intake.base ≤ p.2) && decide (p.2 < c.intake.base + c.intake.lines))

/-- Serve an inbound WR: an error reply, or line writes in class 3 of the banks; a write into the open staging region
goes through class 5 with no handle check (R396). One with LMASK 0 names no line, and is acknowledged (log entry 76). -/
def Cluster.serveWr (c : Cluster) (lane : Nat) (f : Flit) : Cluster :=
  let lines := reqLines (fGaddr f) (fLmask f)
  if c.reqUnmapped (fGaddr f) lines then c.reply lane f.hdr 5 1 (fLmask f) []
  else
    let stage := c.stagingLines lines
    let p := c.tabRead (c.reqKeys lines)
    if !stage && !p.1.reqGranted 59 lines then p.1.reply lane f.hdr 5 2 (fLmask f) []
    else if lines.isEmpty then p.1.reply lane f.hdr 4 0 0 []
    else p.1.addGroup (if stage then 5 else 3) 0 (.wrReply lane f)
      (lines.map (fun p => lineReq p.1 p.2 (some ((f.payload.drop (64 * p.1)).take 64))))

/-- Hand a request to the port: out on a lane, or turned round when it names this cluster (R306). -/
def Cluster.sendReq (c : Cluster) (ty txn lmask target : Nat) (payload : List Byte) : Cluster :=
  let h := mkHdr ty 0 c.straps.toNat txn lmask target
  if target / 2 ^ 40 = c.straps.toNat then
    (if ty = 1 then c.serveRd selfLane ⟨h, 0, payload⟩ else c.serveWr selfLane ⟨h, 0, payload⟩)
  else c.sendFlit h payload

/-- 256 payload bytes from the lines of a group, each at its place in the block. -/
def groupPayload (data : List (Nat × List Byte)) : List Byte :=
  (List.range 4).flatMap (fun j => match data.find? (fun p => p.1 == j) with
    | some p => p.2
    | none => List.replicate 64 0)

/-- Is it settled whether the present cycle executes an LCC value: no LAUNCH and no duty of a new period is to come in it
(R42, R248)? -/
def Cluster.cycleKnown (c : Cluster) : Bool := !c.launchDue && (!c.clk.locked || c.tim.duty == c.tim.dutyNext)

/-- Is a slot open in a physical bank in this cycle: no static use reaches it, and no other access has (R281, R283)? In
an unheld cycle every use of the cycle is entered first. -/
def Cluster.slotOpen (c : Cluster) (p : Nat) : Bool :=
  c.live && !c.spd.taken.contains p && c.cycleKnown && (!c.runs || (c.portsKnown && !c.uses.any (fun u => c.pbank u.1 == p)))

/-- Note the access of a bank in this cycle. -/
def Cluster.take (c : Cluster) (p : Nat) : Cluster := { c with spd := { c.spd with taken := p :: c.spd.taken } }

/-- Do class 5, the sander and the repair queues wait: a held cycle of a throttle, inside a lining or not (R43, R446)? -/
def Cluster.backWaits (c : Cluster) : Bool := c.throttled

/-- Requests that wait for a physical bank and may be served in this cycle, in arrival order (R43, R284). -/
def Cluster.bankReqs (c : Cluster) (p : Nat) : List BReq :=
  c.spd.reqs.filter (fun r => c.pbank (r.line % 256) == p && !(r.cls == 5 && c.backWaits))

/-- SCRUB interval in force (R295, R296). -/
def Cluster.scrubEvery (c : Cluster) : Nat :=
  if bitAt (c.regAt (rSpd + 0x40)) 32 then 64 else c.dictAt 0x2100 1

/-- Has a repair or scrub of a bank waited so long that it goes ahead of the boundary classes (R297)? -/
def Cluster.overdue (c : Cluster) (p : Nat) : Bool :=
  let old := fun (at_ : Nat) => decide (at_ + c.scrubEvery ≤ c.clk.free)
  !c.backWaits && !c.flt.fenB.getLsbD p && ((c.spd.repairs.any (fun r => r.bank == p && old r.at_)) ||
    (let s := (Sparse.get c.spd.scrubs p).toNat
     s != 0 && old (s - 1)))

/-- Does the open slot of a bank go to its arbiter (R297)? -/
def Cluster.arbiterTurn (c : Cluster) (p : Nat) : Bool :=
  !(c.bankReqs p).isEmpty && (c.spd.turn.getLsbD p || !c.overdue p)

/-- Does the open slot of a bank go to the sander or the repair queue (R297)? -/
def Cluster.sanderTurn (c : Cluster) (p : Nat) : Bool :=
  !c.backWaits && ((c.bankReqs p).isEmpty || (c.overdue p && !c.spd.turn.getLsbD p))

/-- The sander or the repair queue has taken a slot; when the item was overdue, the next open slot goes to the arbiter
if it has a request by then (R297). -/
def Cluster.sanderServed (c : Cluster) (p : Nat) (late : Bool) : Cluster :=
  let b := BitVec.ofNat 256 (2 ^ p)
  { c.take p with spd := { (c.take p).spd with turn := if late then c.spd.turn ||| b else c.spd.turn &&& ~~~b } }

/-- The cycle ends: what a bank's next open slot was kept for is over when the slot passed unused, and no access of the
cycle counts any more (R281, R297). -/
def Cluster.endSlots (c : Cluster) : Cluster :=
  let passed := (List.range 256).filter (fun p => c.spd.turn.getLsbD p && c.slotOpen p)
  { c with spd := { c.spd with
      turn := passed.foldl (fun (t : BitVec 256) p => t &&& ~~~BitVec.ofNat 256 (2 ^ p)) c.spd.turn
      taken := [] } }

/-- Is a scrub request due (R295): the interval has passed since the last one? -/
def Cluster.scrubReqDue (c : Cluster) : Bool :=
  c.ready && c.clk.locked && decide (c.spd.lastReq + c.scrubEvery ≤ c.clk.free)

/-- SCRUB_REQUEST: one scrub per bank that has none pending and is not fenced (R295). -/
def scrubRequestC (c : Cluster) : Cluster :=
  if c.scrubReqDue then
    let add : Sparse 64 → Nat → Sparse 64 := fun m p =>
      if c.flt.fenB.getLsbD p || Sparse.get m p != 0 then m else Sparse.set m p (BitVec.ofNat 64 (c.clk.free + 1))
    { c with spd := { c.spd with scrubs := (List.range 256).foldl add c.spd.scrubs, lastReq := c.clk.free } }
  else c
def execScrubRequest (s : State) : Host.Outcome State Fault Refusal := done s (scrubRequestC s.cl)

/-- Bank line the sander reads next: an urgent line of the bank first (R299), else the pointer's line. -/
def Cluster.scrubLine (c : Cluster) (p : Nat) : Nat × Bool :=
  match c.spd.urgent.find? (fun l => c.pbank (l % 256) == p) with
  | some l => (l, true)
  | none => ((Sparse.get c.spd.ptr p).toNat * 256 + (p + 256 - c.rot) % 256, false)

/-- End of a pass: every unfenced bank's pointer has wrapped (R295, R296). -/
def Cluster.passEnd (c : Cluster) : Cluster :=
  let s := c.spd
  if (s.wrapped ||| c.flt.fenB) = BitVec.allOnes 256 then
    let a := rSpd + 0x40
    let w := c.regAt a
    let c := c.setReg a (place (satN (2 ^ 32 - 1) (fld w 31 0 + 1)) 0)
    { c with spd := { s with wrapped := 0 } }
  else c

/-- Move the sander's pointer of a bank on; the marks of the line it has reached are dropped (R293, R295). -/
def Cluster.scrubMove (c : Cluster) (p : Nat) : Cluster :=
  let q := (Sparse.get c.spd.ptr p).toNat
  let s := { c.spd with
    ptr := Sparse.set c.spd.ptr p (BitVec.ofNat 16 ((q + 1) % 12288))
    wrapped := if q = 12287 then c.spd.wrapped ||| BitVec.ofNat 256 (2 ^ p) else c.spd.wrapped }
  ({ c with spd := s }).passEnd

/-- Read a line for the sander: its errors are corrected or rewritten through the repair queue (R290, R291). The
sander has reached the line, so its marks are dropped first (R293). -/
def Cluster.scrubRead (c : Cluster) (line : Nat) : Cluster :=
  let c := { c with spd := { c.spd with mark := Sparse.clearRange c.spd.mark (line * 64) (line * 64 + 64),
                                        urgent := c.spd.urgent.filter (fun l => l != line) } }
  (c.spdRead 2 0 (line * 64) 64).2.1

/-- Serve the pending scrub of a bank, or the scrub of an urgent line ahead of it (R295, R299). -/
def Cluster.doScrub (c : Cluster) (p : Nat) : Cluster :=
  let late := c.overdue p
  let l := c.scrubLine p
  if l.2 then (c.scrubRead l.1).sanderServed p late
  else
    let c := { c with spd := { c.spd with scrubs := Sparse.set c.spd.scrubs p 0 } }
    ((c.scrubRead l.1).sanderServed p late).scrubMove p

/-- SCRUB (R295, R297): a scrub is pending, the slot is open and no repair of the bank waits. -/
def scrubC (c : Cluster) (p : Nat) : Cluster :=
  if c.slotOpen p && c.sanderTurn p && (Sparse.get c.spd.scrubs p != 0 || (c.scrubLine p).2)
      && !c.flt.fenB.getLsbD p && !c.spd.repairs.any (fun r => r.bank == p) then c.doScrub p
  else c
def execScrub (bank : BankId) (s : State) : Host.Outcome State Fault Refusal := done s (scrubC s.cl bank.val)

/-- Write the words of a repair entry back (R292), and mark them as corrected or rewritten (R293). -/
def Cluster.repairWords (c : Cluster) (r : Repair) : Cluster :=
  c.each r.words (fun c w =>
    let a := r.line * 64 + 8 * w.1
    { c with mem := Memory.write c.mem a (leBytes 8 w.2.toNat), memErr := Sparse.set c.memErr a 0,
             spd := { c.spd with mark := Sparse.set c.spd.mark a 1 } })

/-- REPAIR_WRITE: the oldest repair entry of a bank is written (R292, R297). -/
def repairWriteC (c : Cluster) (p : Nat) : Cluster :=
  match c.spd.repairs.find? (fun r => r.bank == p) with
  | none => c
  | some r =>
    if c.slotOpen p && c.sanderTurn p && !c.flt.fenB.getLsbD p then
      let late := c.overdue p
      let c := { c with spd := { c.spd with repairs := c.spd.repairs.erase r } }
      (c.repairWords r).sanderServed p late
    else c
def execRepairWrite (bank : BankId) (s : State) : Host.Outcome State Fault Refusal := done s (repairWriteC s.cl bank.val)

end Sys2Proof.Machine
end

