-- ==== Sys2Proof/Machine/DataMover.lean ====
section
/-! DEFINITION. The data mover: DMGET, DMPUT, DMARR, the sending, parking and failing of blocks (R244 to R246, R304 to
R310). Log entries of its readings and choices: 11 DESIGN CHOICE, 13 DEDUCED, 85 DEDUCED, 90 DEDUCED. -/

namespace Sys2Proof.Machine

/-- Outstanding transfers of a channel: those of its table (R307, R308). -/
def Chan.outstanding (cn : Chan) : Nat := (cn.tab.toList.filter (fun x => x.isSome)).length

/-- A slot for a new transfer: the first free one of the table. -/
def Chan.slotFor (cn : Chan) : Nat := (findIdxN (fun x => x.isNone) cn.tab.toList).getD 0

/-- A transfer whose op has just started enters the table of its channel, where DMARR finds it (R246, R307); a seventeenth one fails with OVF (R308). -/
def Cluster.enterXfer (c : Cluster) (ch : Nat) (op : MacroOp) : Cluster :=
  let cn := c.chan ch
  if 16 ≤ cn.outstanding then c.xferLog 0xE ch op 0
  else
    let x : Xfer := { op := op, blocks := cdiv (fld op 109 90 + 1) 4, slot := cn.slotFor, sent := 0, asked := 0, got := 0, parked := false,
                      at_ := c.tk, lim := c.dictAt 0x2783 1, order := c.nextOrd, dec := [], sentTo := [] }
    { c.setChan ch { cn with tab := vset cn.tab cn.slotFor (some x), begun := ((c.queue (qChan ch)).started - 1, c.nextOrd) :: cn.begun }
      with nextOrd := c.nextOrd + 1 }

/-- A DMGET or DMPUT starts; a nullified one issues no transfer (R137, R244, R307). -/
def Cluster.startXfer (c : Cluster) (ch opc : Nat) : Cluster :=
  match c.starting (qChan ch) opc with
  | none => c
  | some o =>
    let p := c.startOp (qChan ch) o
    if p.2 then p.1 else p.1.enterXfer ch o

/-- DMGET (R244). -/
def dmgetC (c : Cluster) (ch : Nat) : Cluster := c.startXfer ch 0x40
def execDmget (c : ChanId) (s : State) : Host.Outcome State Fault Refusal := done s (dmgetC s.cl c.val)

/-- DMPUT (R244). -/
def dmputC (c : Cluster) (ch : Nat) : Cluster := c.startXfer ch 0x41
def execDmput (c : ChanId) (s : State) : Host.Outcome State Fault Refusal := done s (dmputC s.cl c.val)

/-- DMARR: it starts when every checked transfer is complete; until then it holds (R246). -/
def dmarrC (c : Cluster) (ch : Nat) : Cluster :=
  match c.starting (qChan ch) 0x42 with
  | none => c
  | some o => if c.arrWaits ch (c.queue (qChan ch)).started o c.lcc then c else (c.startOp (qChan ch) o).1
def execDmarr (c : ChanId) (s : State) : Host.Outcome State Fault Refusal := done s (dmarrC s.cl c.val)

/-- The two words of window w as a translation in this cycle meets them: a commit shows in the next (R310). -/
def Cluster.window (c : Cluster) (w : Nat) : W64 × W64 :=
  match c.winOld.find? (fun p => p.1 == w) with
  | some p => p.2
  | none => (c.regAt (rDmv + 0x1000 + 0x10 * w), c.regAt (rDmv + 0x1008 + 0x10 * w))

/-- Translation of a block address of n lines (R305): the target, or the fault kind of R321. -/
def Cluster.translate (c : Cluster) (ga n : Nat) (put : Bool) : Nat × Option Nat :=
  if ga / 2 ^ 46 % 4 != 2 then (ga, none)
  else
    let e := c.window (ga / 2 ^ 40 % 64)
    let w := e.1
    let size := fld e.2 33 0
    let ofs := ga % 2 ^ 40
    let tbase := fld w 47 0
    if !bitAt w 63 then (0, some 0)
    else if size < cdiv (ofs + 64 * n) 64 then (0, some 1)
    else if !bitAt w (if put then 61 else 62) then (0, some 2)
    else if 2 ≤ tbase / 2 ^ 46 then (0, some 3)
    else ((tbase + ofs) % 2 ^ 48, none)

/-- The transfer of a channel whose block goes out next, with its slot: the first in start order that has unsent blocks
and is not parked (R307, R309). -/
def Chan.nextSend (cn : Chan) : Option (Nat × Xfer) :=
  let l := cn.tab.toList.zipIdx.filterMap (fun p => match p.1 with
    | some x => if !x.parked && decide (x.sent < x.blocks) then some (p.2, x) else none
    | none => none)
  (sortOn (fun p => p.2.order) l).head?

/-- Address of block k of a transfer (R307). -/
def blockAddr (op : MacroOp) (k : Nat) : Nat := (fld op 191 144 + 256 * k) % 2 ^ 48

/-- Park the unsent blocks of a transfer, of which nothing stays read (R309); with the park taken, the transfer fails
(R308). -/
def Cluster.parkBlock (c : Cluster) (ch slot : Nat) (x : Xfer) (kind : Nat) : Cluster :=
  let c := c.dropReads ch x.order
  let cn := c.chan ch
  if cn.park.isSome then c.xferFail ch slot 0xC x.sent false
  else
    let ga := blockAddr x.op x.sent
    let a := rDmv + 0x40 + 0x10 * ch
    let c := c.setChan ch { cn with park := some slot, tab := vset cn.tab slot (some { x with parked := true, asked := x.sent, at_ := c.tk - x.at_ }) }
    let c := (c.setReg a (placeB true 63 ||| place kind 61 ||| place (ga / 2 ^ 40 % 64) 55 ||| place (opCtx x.op) 49
      ||| placeB (opOpc x.op == 0x41) 48 ||| place ga 0)).setReg (a + 8)
      (place (x.blocks - x.sent) 32 ||| place (opStamp x.op) 0)
    c.raise0 0x19 ch

/-- Does a target name this cluster, whose port turns the request round inside (R306)? -/
def Cluster.turnsRound (c : Cluster) (target : Nat) : Bool := target / 2 ^ 40 == c.straps.toNat

/-- The next block of a transfer is in flight. -/
def Xfer.next (x : Xfer) : Xfer := { x with sent := x.sent + 1, dec := x.dec ++ [x.sent] }

/-- The flit of block k of a transfer goes to its target (R307). -/
def Cluster.sendBlock (c : Cluster) (ch slot : Nat) (x : Xfer) (k target : Nat) (payload : List Byte) : Cluster :=
  let x := { x with sentTo := (k, target % 2 ^ 48) :: x.sentTo.filter (fun p => p.1 != k) }
  (c.setChan ch { (c.chan ch) with tab := vset (c.chan ch).tab slot (some x) }).sendReq (if opOpc x.op = 0x40 then 1 else 2)
    (ch * 2 ^ 18 + slot * 2 ^ 14 + k) (2 ^ xferLines x.op k - 1) target payload

/-- The next block of a DMGET is translated, and sent or parked (R305, R307, R309). -/
def Cluster.sendGet (c : Cluster) (ch slot : Nat) (x : Xfer) : Cluster :=
  let t := c.translate (blockAddr x.op x.sent) (xferLines x.op x.sent) false
  match t.2 with
  | some kind => c.parkBlock ch slot x kind
  | none => if c.turnsRound t.1 || c.portRoom then c.sendBlock ch slot x.next x.sent t.1 [] else c

/-- The lines of the next block of a DMPUT are read through class 0, before the block is sent (R307); all of them may have
been asked for. -/
def Cluster.readPut (c : Cluster) (ch slot : Nat) (x : Xfer) : Cluster :=
  if x.blocks ≤ x.asked then c
  else
    c.withTab [rHnd (fld x.op 143 132)] fun c =>
      let base := hndBase (c.regAt (rHnd (fld x.op 143 132))) + fld x.op 131 110 + 4 * x.asked
      let cn := c.chan ch
      (c.setChan ch { cn with tab := vset cn.tab slot (some { x with asked := x.asked + 1 }) }).addGroup 0 0
        (.putBlock ch x.order x.asked) ((List.range (xferLines x.op x.asked)).map (fun j => lineReq j (base + j) none))

/-- DMV_BLOCK_SEND (R307, R309): the next block of a channel. -/
def dmvBlockSendC (c : Cluster) (ch : Nat) : Cluster :=
  if c.live then
    match (c.chan ch).nextSend with
    | none => c
    | some (slot, x) => if opOpc x.op = 0x40 then c.sendGet ch slot x else c.readPut ch slot x
  else c
def execDmvBlockSend (c : ChanId) (s : State) : Host.Outcome State Fault Refusal := done s (dmvBlockSendC s.cl c.val)

/-- The transfer of the table whose order a DMPUT block names. -/
def Cluster.putXfer (c : Cluster) (ch ord : Nat) : Option Xfer :=
  ((c.chan ch).tab.toList.filterMap id).find? (fun x => x.order == ord)

/-- Must a block whose lines have been read wait: its translation is good, and the port has no room (R305, R315)? -/
def Cluster.putWaits (c : Cluster) (ch ord k : Nat) : Bool :=
  match c.putXfer ch ord with
  | none => false
  | some x =>
    let t := c.translate (blockAddr x.op k) (xferLines x.op k) true
    t.2.isNone && !c.turnsRound t.1 && !c.portRoom

/-- The next block of a DMPUT, whose lines have been read, is translated, and sent or parked (R305, R307, R309). -/
def Cluster.putDone (c : Cluster) (ch ord k : Nat) (payload : List Byte) : Cluster :=
  match c.putXfer ch ord with
  | none => c
  | some x =>
    let t := c.translate (blockAddr x.op k) (xferLines x.op k) true
    match t.2 with
    | some kind => c.parkBlock ch x.slot x kind
    | none => c.sendBlock ch x.slot x.next k t.1 payload

/-- The DMPUT block of a channel whose lines were asked for first (R307). -/
def Cluster.putHead (c : Cluster) (ch : Nat) : Option BGroup :=
  c.spd.groups.find? (fun g => match g.done with
    | .putBlock a _ _ => a == ch
    | _ => false)

/-- Send the blocks of a channel whose lines have been read, in the order of its transfers and blocks (R307). -/
def Cluster.flushPuts (c : Cluster) (ch : Nat) : Nat → Cluster
  | 0 => c
  | n + 1 =>
    match c.putHead ch with
    | none => c
    | some g =>
      match g.done with
      | .putBlock _ ord k =>
        if g.left ≠ 0 || c.putWaits ch ord k then c
        else
          let c := { c with spd := { c.spd with groups := c.spd.groups.filter (fun h => h.id != g.id) } }
          (c.putDone ch ord k (groupPayload g.data)).flushPuts ch n
      | _ => c

/-- Blocks that waited for room in the port go out (R307, R315). -/
def Cluster.flushAll (c : Cluster) : Cluster := c.each (List.range 4) (fun c ch => c.flushPuts ch c.spd.groups.length)

/-- The landing buffer has room again for a block that waits to land; its handle word is read first (R306, R317, R416). -/
def Cluster.drainTurned (c : Cluster) : Cluster :=
  match c.turned with
  | [] => c
  | p :: rest =>
    if 64 ≤ c.landing then c
    else
      let c := { c with turned := rest }
      c.withTab (c.landKeys p.1) fun c => c.landData p.1 p.2

/-- First block of a transfer that is not complete: the lowest in flight, else the next to send. -/
def Xfer.firstOpen (x : Xfer) : Nat :=
  match x.dec with
  | [] => x.sent
  | k :: ks => ks.foldl min k

/-- DM_TIMEOUT (R308): an unparked transfer has completed no block for its limit. -/
def dmTimeoutC (c : Cluster) (ch slot : Nat) : Cluster :=
  match vat (c.chan ch).tab slot none with
  | none => c
  | some x =>
    if c.live && !x.parked && decide (x.at_ + x.lim ≤ c.tk) then c.xferFail ch slot 0xD x.firstOpen false else c
def execDmTimeout (c : ChanId) (slot : Fin 16) (s : State) : Host.Outcome State Fault Refusal :=
  done s (dmTimeoutC s.cl c.val slot.val)

/-- Translate the parked blocks of a channel again; if the translation is now good, the park clears (R309). -/
def Cluster.retryPark (c : Cluster) (ch : Nat) : Cluster :=
  match (c.chan ch).park with
  | none => c
  | some slot =>
    match vat (c.chan ch).tab slot none with
    | none => c
    | some x =>
      let t := c.translate (blockAddr x.op x.sent) (xferLines x.op x.sent) (opOpc x.op == 0x41)
      if t.2.isSome then c
      else
        let cn := c.chan ch
        (c.setChan ch { cn with tab := vset cn.tab slot (some { x with parked := false, at_ := c.tk - x.at_ }) }).parkClear ch

/-- End the park of a channel under R308 with status XLATE (R309, R324). -/
def Cluster.abortPark (c : Cluster) (ch : Nat) : Cluster :=
  match (c.chan ch).park with
  | none => c
  | some slot =>
    match vat (c.chan ch).tab slot none with
    | none => c
    | some x => c.xferFail ch slot 0xC x.sent false

/-- Commit a window entry with its staged SIZE: translations meet it from the next cycle on (R310). -/
def Cluster.commitWindow (c : Cluster) (w : Nat) (v : W64) : Cluster :=
  let a := rDmv + 0x1000 + 0x10 * w
  let c := { c with winOld := (w, c.window w) :: c.winOld.filter (fun p => p.1 != w) }
  (c.setReg a v).setReg (a + 8) (BitVec.ofNat 64 (c.dictAt 0x2781 (w + 1)))

/-- The cycle after a commit: the new entries are met, and what is parked is translated again (R309, R310). -/
def Cluster.windowsIn (c : Cluster) : Cluster :=
  if c.winOld.isEmpty then c else ({ c with winOld := [] }).each (List.range 4) Cluster.retryPark

end Sys2Proof.Machine
end

