-- ==== Sys2Proof/Machine/Drain.lean ====
section
/-! DEFINITION. Accumulator sets, preloads, and the drain of a set through the skim chain (R69, R70, R98 to R101, R114
to R118, R155 to R160, R166, R167). DRAIN begins a drain in the cycle that reads its group 0; every later cycle reads
one group more, and each group goes through the stages by itself. Log entries of its readings and choices: 65 DEDUCED,
66 DESIGN CHOICE, 67 DEDUCED, 71 DEDUCED, 82 DEDUCED. -/

namespace Sys2Proof.Machine

/-- Is the accumulator of an op INT32 (R71)? -/
def opInt (o : MacroOp) : Bool := fmtIsInt (opWfmt o)
/-- Does a job's set hold INT32 (R156, R229)? -/
def jobInt (j : DrainJob) : Bool := if opOpc j.op = 0x14 then bitAt j.op 17 else opInt j.op

/-- Key of the accumulator of a cell: array, set, row, physical column (R87). -/
def accKey (a : Nat) (set1 : Bool) (r col : Nat) : Nat := ((a * 2 + (if set1 then 1 else 0)) * 128 + r) * 34 + col
/-- The cells of a set. -/
def Cluster.setCells (c : Cluster) (a : Nat) (set1 : Bool) : Sparse 32 :=
  Sparse.window c.acc (accKey a set1 0 0) (accKey a set1 128 0)
/-- Write cells of a set, given by row and physical column. -/
def Cluster.putCells (c : Cluster) (a : Nat) (set1 : Bool) (vs : List (Nat × Nat × W32)) : Cluster :=
  { c with acc := Sparse.setAll c.acc (vs.map (fun v => (accKey a set1 v.1 v.2.1, v.2.2))) }
/-- Good physical columns of an array in the patch map in force, ascending: presented column p lies on the (p + 1)-th,
and the witness behind the last presented one (R111). -/
def Cluster.goodCols (c : Cluster) (a : Nat) : List Nat := (List.range 34).filter (fun p => !bitAt (c.regAt (rPatch a)) p)

/-- Cell (row, presented column) of lane l of drain group i (R98). -/
def drainCell (orient : Bool) (i l : Nat) : Nat × Nat := if orient then (4 * i + l / 32, l % 32) else (l, i)

/-- The 128 lanes of a drain group; lanes that carry nothing read 0 (R98). -/
def Cluster.rawGroup (c : Cluster) (a : Nat) (set1 orient : Bool) (i : Nat) : List W32 :=
  let v := c.setCells a set1
  let good := c.goodCols a
  let w := c.presW a
  (List.range 128).map (fun l =>
    let x := drainCell orient i l
    if x.2 < w then Sparse.get v (accKey a set1 x.1 (good.getD x.2 34)) else 0)

/-- The 128 lanes of group i of a preload tile (R101). -/
def Cluster.preLanes (c : Cluster) (n tile i : Nat) : List W32 :=
  (unpack 32 128 (c.tileBytes n tile (512 * i) 512)).map (BitVec.ofNat 32)

/-- The rows that are complete with group i at presented width w, each with its presented values: in a row drain those
of the group, in a column drain all of them with group w - 1 (R98, R116). `seen` are the groups before it. -/
def rowsDone (orient : Bool) (w i : Nat) (seen : List (List W32)) (lanes : List W32) : List (Nat × List W32) :=
  if orient then (List.range 4).map (fun k => (4 * i + k, (lanes.drop (32 * k)).take w))
  else if i + 1 = w then (List.range 128).map (fun r => (r, (seen ++ [lanes]).map (fun g => g.getD r 0)))
  else []

/-- Witness of a preloaded row (R115). -/
def preWitness (int : Bool) (vs : List W32) : W32 :=
  if int then vs.foldl (· + ·) 0 else toF32 (FV.sum (vs.map f32))

/-- Write group i of a set with preload values, and the witness of the rows complete with it (R101, R115). -/
def Cluster.preGroup (c : Cluster) (a : Nat) (set1 int orient : Bool) (i : Nat) (held : List (List W32)) (lanes : List W32) : Cluster :=
  let w := c.presW a
  let good := c.goodCols a
  let cells := lanes.zipIdx.filterMap (fun v =>
    let x := drainCell orient i v.2
    if x.2 < w then some (x.1, good.getD x.2 34, v.1) else none)
  let wit := if c.witness a then (rowsDone orient w i held lanes).map (fun r => (r.1, good.getD w 34, preWitness int r.2)) else []
  c.putCells a set1 (cells ++ wit)

/-- Stages of the skim chain of an op. -/
def Cluster.skimStages (c : Cluster) (n : Nat) (o : MacroOp) : List W64 :=
  match (if fld o 109 104 = 0 then none else c.chain n (fld o 109 104) 1) with
  | none => []
  | some p => p.2

/-- Latency of a skim stage (R147). -/
def Cluster.stageLat (c : Cluster) (w : W64) : Nat := if stCode w = 7 then c.floor 9 else c.floor 8
/-- Latency of the stages of an op's skim chain (R98, R147). -/
def Cluster.lskim (c : Cluster) (n : Nat) (o : MacroOp) : Nat := ((c.skimStages n o).map c.stageLat).foldl (· + ·) 0

/-- The LCC value at which the last group that writes anything is written, for a drain whose group 0 is read at `due`:
group w - 1 of a column drain, group 31 of a row drain (R98). -/
def Cluster.lastWrite (c : Cluster) (a : Nat) (o : MacroOp) (due : Nat) : Nat :=
  due + (if bitAt o 117 then 32 else c.presW a) + c.lskim (a / 4) o

/-- References of a drain to the operand tiles of its skim stages: from the read of group 0 to the cycle in which the
last group passes the stage (R160). -/
def Cluster.skimRefs (c : Cluster) (a due : Nat) (st : List W64) : Cluster :=
  (st.foldl (fun (p : Cluster × Nat) w =>
    ((match (if stOpk w = 0 then none else stTile w) with
      | some t => p.1.addRefs (qArr a) due p.2 [t]
      | none => p.1), p.2 + c.stageLat w)) (c, due + 32)).1

/-- Enter a drain whose group 0 is read at LCC t or, while the path is busy, behind it (R98, R99); it refers to its
destination, preload, operand and scale tiles (R91, R160). -/
def Cluster.startDrain (c : Cluster) (a : Nat) (o : MacroOp) (t : Nat) (set1 nul : Bool) (part : Nat) (pre : Bool) : Cluster :=
  let x := c.arr a
  let n := a / 4
  let due := max t x.pathFree
  let c := c.setArr a { x with jobs := x.jobs ++ [⟨o, due, set1, nul, part, pre, [], [], false⟩], pathFree := due + 32 }
  if nul then c
  else
    let q := qArr a
    let last := c.lastWrite a o due
    let st := c.skimStages n o
    let c := if bitAt o 83 then c else c.addRefs q c.lcc last [fld o 82 78]
    let c := if pre then c.addRefs q c.lcc (due + 31) [fld o 50 46] else c
    (c.skimRefs a due st).addRefs q c.lcc last (st.filterMap (fun w => if stCode w = 7 && fmtIsMx (stParam w) then stTile w else none))

/-- Operand of a skim stage for a cell (R155). -/
def Cluster.skimOperand (c : Cluster) (n : Nat) (orient : Bool) (w : W64) (x : Nat × Nat) : W32 :=
  match stOpk w with
  | 1 => c.stageElem n w x.1
  | 2 => c.stageElem n w x.2
  | 3 => c.stageElem n w (if orient then x.1 * 32 + x.2 else x.2 * 128 + x.1)
  | _ => stImm w

/-- Generator output for a cell of a drain (R78, R158). -/
def Cluster.skimGen (c : Cluster) (a : Nat) (o : MacroOp) (x : Nat × Nat) : W32 :=
  let k := c.ctx (opCtx o)
  srGen k.srseed k.linseq (BitVec.ofNat 32 (opStamp o)) ((a / 4 * 5 + a % 4) * 128 + x.1) x.2 0

/-- INT32 values become FP32 ahead of the first stage other than QUANT (R156). -/
def Skim.toFp (s : Skim) : Skim :=
  if s.isInt then { s with vals := s.vals.map (i32ToF32 .rne), isInt := false } else s

/-- QUANT to an MX format: the 4 blocks of 32 rows of a column (R69, R70, R159). A STAT behind it takes the elements
with their block scale. -/
def Cluster.quantMx (c : Cluster) (a : Nat) (o : MacroOp) (f rnd i : Nat) (s : Skim) : Skim :=
  let vs := s.toFp.vals
  let blocks := (List.range 4).map (fun b =>
    mxBlock f (fun l => rndOf rnd (c.skimGen a o (32 * b + l, i))) (((vs.drop (32 * b)).take 32).map f32))
  { s.toFp with
    codes := some (f, blocks.flatMap (fun b => b.2))
    vals := blocks.flatMap (fun b => b.2.map (fun x => toF32 ((elemFV f x).mxScale b.1)))
    scales := blocks.map (fun b => b.1) }

/-- QUANT of one value to a format of its own (R80, R158). -/
def quantOne (isInt : Bool) (f : Nat) (g : Rnd) (x : W32) : Nat :=
  if isInt then
    (if f = 9 then x.toNat else if fmtIsInt f then narrowInt f x else narrow f g (f32 (i32ToF32 .rne x)))
  else narrow f g (f32 x)

/-- QUANT to a format of its own. A STAT behind it takes the narrowed values, widened to FP32. -/
def Cluster.quantPlain (c : Cluster) (a : Nat) (o : MacroOp) (f rnd i : Nat) (s : Skim) : Skim :=
  let cs := s.vals.zipIdx.map (fun v => quantOne s.isInt f (rndOf rnd (c.skimGen a o (drainCell (bitAt o 117) i v.2))) v.1)
  { s with codes := some (f, cs), isInt := false,
           vals := cs.map (fun x => if f = 9 then i32ToF32 .rne (BitVec.ofNat 32 x) else toF32 (elemFV f x)) }

/-- Apply a function of the cell to every lane of group i. -/
def Skim.each (s : Skim) (orient : Bool) (i : Nat) (f : Nat × Nat → W32 → W32) : Skim :=
  { s with vals := s.vals.zipIdx.map (fun v => f (drainCell orient i v.2) v.1) }

/-- One skim stage on group i (R156). -/
def Cluster.skimStage (c : Cluster) (a : Nat) (o : MacroOp) (i : Nat) (s : Skim) (st : W64) : Skim :=
  let orient := bitAt o 117
  let v := c.skimOperand (a / 4) orient st
  match stCode st with
  | 1 => s.toFp.each orient i (fun x y => fadd y (v x))
  | 2 => s.toFp.each orient i (fun x y => fmul y (v x))
  | 3 => s.toFp.each orient i (fun x y => fadd y (v x))
  | 4 => s.toFp.each orient i (fun x y => fmul y (v x))
  | 5 => s.toFp.each orient i (fun _ y => actFn (stParam st) y)
  | 6 => s.toFp
  | 7 => if fmtIsMx (stParam st) then c.quantMx a o (stParam st) (fld st 33 32) i s else c.quantPlain a o (stParam st) (fld st 33 32) i s
  | _ => s

/-- The records of a STAT stage from the 32 groups that passed it (R167). -/
def statRecords (orient : Bool) (w nrow : Nat) (groups : List (List W32)) : List (BitVec 96) :=
  (List.range 32).map (fun p =>
    if p < w then
      (statPart nrow ((List.range 128).map (fun r =>
        if orient then (groups.getD (r / 4) []).getD (r % 4 * 32 + p) 0 else (groups.getD p []).getD r 0))).bits
    else Stat.none.bits)

/-- A group passes a STAT stage; the last one gives the record, which stands 48 cycles after the drain's end (R167). -/
def Cluster.statPass (c : Cluster) (a : Nat) (j : DrainJob) (i : Nat) (st : W64) (lanes : List W32) : Cluster :=
  let x := c.arr a
  let all := x.statIn ++ [(j.due, i, lanes)]
  if i = 31 then
    let mine := (all.filter (fun e => e.1 == j.due)).map (fun e => e.2.2)
    (c.setArr a { x with statIn := all.filter (fun e => !(e.1 == j.due)) }).post (j.due + 79) 9
      (.stat a (fld st 36 32) (statRecords (bitAt j.op 117) (c.presW a) (fld st 6 0 + 1) mine))
  else c.setArr a { x with statIn := all }

/-- Element width of what a drain writes (R158). -/
def Cluster.drainBits (c : Cluster) (n : Nat) (o : MacroOp) : Nat :=
  match (c.skimStages n o).find? (fun w => stCode w == 7) with
  | some w => fmtBits (stParam w)
  | none => 32

/-- The codes that a group writes: QUANT's, or 32 bits; INT32 where the chain holds only STAT or is empty (R158). -/
def Skim.out (s : Skim) (st : List W64) : List Nat :=
  match s.codes with
  | some k => k.2
  | none => (if st.all (fun w => stCode w == 6) then s.raw else s.vals).map (fun x => x.toNat)

/-- The pieces that group i writes: byte offset in the stream, and bytes (R98, R158, R224). -/
def groupPieces (orient : Bool) (ew w i : Nat) (codes : List Nat) : List (Nat × List Byte) :=
  if orient then
    (List.range 4).map (fun k => ((4 * i + k) * 4 * ew, packElems ew ((codes.drop (32 * k)).take w)))
  else if i < w then [(i * 16 * ew, packElems ew codes)]
  else []

/-- Post one piece of a drain for LCC t: to a tile, or to scratchpad in whole words (R98, R107, R224, R280). -/
def Cluster.postPiece (c : Cluster) (a : Nat) (j : DrainJob) (t : Nat) (p : Nat × List Byte) : Cluster :=
  let o := j.op
  if p.2.isEmpty then c
  else if bitAt o 83 then
    c.post t (3 + a % 4) (.spd (qArr a) (c.hndLine (fld o 82 71) (fld o 70 51) + 16384 * j.part + p.1) 0 0
      (p.2 ++ List.replicate ((8 - p.2.length % 8) % 8) 0))
  else c.post t (3 + a % 4) (.stream (a / 4) (fld o 82 78) (fld o 77 71) (16384 * j.part + p.1) 0 0 p.2)

/-- Post what a group that has left the skim writes at LCC t, and its MX scale bytes (R98, R159). -/
def Cluster.postGroup (c : Cluster) (a : Nat) (j : DrainJob) (i t : Nat) (g : Skim) : Cluster :=
  let n := a / 4
  let st := c.skimStages n j.op
  let w := c.presW a
  let c := c.each (groupPieces (bitAt j.op 117) (c.drainBits n j.op) w i (g.out st)) (fun c p => c.postPiece a j t p)
  match st.find? (fun w => stCode w == 7) with
  | some q =>
    if g.scales.isEmpty || decide (w ≤ i) then c
    else c.post t (3 + a % 4) (.stream n (fld q 51 47) (fld q 46 40) (4 * i) 0 0 (g.scales.map (BitVec.ofNat 8)))
  | none => c

/-- A group is due at stage k at LCC t; behind the last stage it is written then (R98, R147). -/
def Cluster.skimEnter (c : Cluster) (a : Nat) (j : DrainJob) (i k t : Nat) (g : Skim) : Cluster :=
  if k < (c.skimStages (a / 4) j.op).length then c.post t 9 (.skim a j i k g) else c.postGroup a j i t g

/-- A group passes stage k in this cycle. -/
def Cluster.skimPass (c : Cluster) (a : Nat) (j : DrainJob) (i k : Nat) (g : Skim) : Cluster :=
  let w := (c.skimStages (a / 4) j.op).getD k 0
  let g := c.skimStage a j.op i g w
  let c := if stCode w = 6 then c.statPass a j i w g.vals else c
  c.skimEnter a j i (k + 1) (c.lcc + c.stageLat w) g

/-- Does a row mismatch (R116)? None: the row is skipped. -/
def rowMismatch (int : Bool) (tol : W64) (vs : List W32) (w : W32) : Option Bool :=
  if int then some (vs.foldl (· + ·) 0 != w)
  else
    let xs := vs.map f32
    let wv := f32 w
    if !wv.isFin || xs.any (fun x => !x.isFin) then none
    else
      let s := FV.sum xs
      let m := FV.sum (xs.map FV.abs)
      let ab := fld tol 7 0
      let lim := ((m.add wv.abs).scale (-(fld tol 12 8 : Nat))).add (if ab = 0 then .zero else .fin false 1 ((ab : Int) - 127))
      some (lim.lt (wv.add s.neg).abs)

/-- A drain mismatches, lowest at row r: the count, the record, the fence threshold and the fault (R117, R118). -/
def Cluster.witnessFault (c : Cluster) (a : Nat) (j : DrainJob) (r : Nat) : Cluster :=
  let b := rMxe (a / 4) + 0x10 * (a % 4) + 0x100
  let c := c.stick b 63 48 1
  let v := c.regAt b
  let c := if bitAt v 47 then c
    else c.setReg b (place (fld v 63 48) 48 ||| placeB true 47 ||| place (opCtx j.op) 41 ||| place r 34
      ||| placeB j.set1 33 ||| place (opStamp j.op) 0)
  let c := if c.dictAt 0x2200 1 ≤ fld v 63 48 then c.pendArr a else c
  c.raise 0x28 a (opCtx j.op)

/-- The comparison of complete rows of a drain with their witness: skipped rows are counted, and the first mismatch of
the drain is its one fault. The flag tells whether the drain has mismatched (R116 to R118, R432). -/
def Cluster.witnessRows (c : Cluster) (a : Nat) (j : DrainJob) (rows : List (Nat × List W32)) : Cluster × Bool :=
  if rows.isEmpty then (c, j.hit)
  else
    let n := a / 4
    let b := rMxe n + 0x10 * (a % 4)
    let v := c.setCells a j.set1
    let wit := (c.goodCols a).getD (c.presW a) 34
    let out := rows.map (fun r => (r.1, rowMismatch (jobInt j) (c.regAt (b + 8)) r.2 (Sparse.get v (accKey a j.set1 r.1 wit))))
    let skipped := (out.filter (fun m => m.2.isNone)).length
    let armed := c.armedAt 0x28 a
    let out := if armed then (rows.take 1).map (fun r => (r.1, some true)) ++ out.drop 1 else out
    let c := if armed then c.disarm 0x28 else c
    let c := if skipped = 0 then c else c.bump (rMxe n + 0x140 + 8 * (a % 4)) (b + 0x200) 8 skipped
    match out.find? (fun m => m.2 == some true) with
    | none => (c, j.hit)
    | some m => (if j.hit then c else c.witnessFault a j m.1, true)

/-- What a drain does in the cycle that reads its group i (R98, R101, R116). The old values are read before a preload
writes new ones. -/
def Cluster.drainGroup (c : Cluster) (a : Nat) (j : DrainJob) (i : Nat) : Cluster × DrainJob :=
  let orient := bitAt j.op 117
  let raw := c.rawGroup a j.set1 orient i
  let seen := if orient || decide (c.presW a ≤ i) then j.seen else j.seen ++ [raw]
  let x := if c.witness a then c.witnessRows a j (rowsDone orient (c.presW a) i j.seen raw) else (c, j.hit)
  let c := x.1.skimEnter a j i 0 (c.lcc + 1) ⟨raw, raw, jobInt j, none, []⟩
  if j.pre then
    let lanes := c.preLanes (a / 4) (fld j.op 50 46) i
    (c.preGroup a j.set1 (jobInt j) orient i j.held lanes,
     { j with seen := seen, hit := x.2, held := if orient then j.held else j.held ++ [lanes] })
  else (c, { j with seen := seen, hit := x.2 })

/-- The group of the drain under way that this cycle reads; a nullified drain reads and writes nothing (R98, R104, R138). -/
def Cluster.drainCycle (c : Cluster) (a : Nat) : Cluster :=
  match (c.arr a).drn with
  | none => c
  | some j =>
    let i := c.lcc - j.due
    let r := if j.nul then (c, j) else c.drainGroup a j i
    r.1.setArr a { r.1.arr a with drn := if i < 31 then some r.2 else none }

/-- The front set of an array in the cycle that executes LCC t: every swap that has come by then counts (R97). -/
def Cluster.frontAt (c : Cluster) (a t : Nat) : Bool :=
  let x := c.arr a
  x.front != ((x.swaps.filter (fun u => decide (t < u))).length % 2 == 1)

/-- The group of an MPRE that this cycle writes, into the set that is shadow in it (R101, R115). -/
def Cluster.preCycle (c : Cluster) (a : Nat) (p : PreJob) : Cluster :=
  if c.lcc ≤ p.t then c
  else
    let i := c.lcc - p.t - 1
    let o := p.op
    let orient := bitAt o 117
    let lanes := c.preLanes (a / 4) (fld o 50 46) i
    let c := c.preGroup a (!c.frontAt a c.lcc) (bitAt o 17) orient i p.held lanes
    let x := c.arr a
    let next : List PreJob := if i < 31 then [{ p with held := if orient then p.held else p.held ++ [lanes] }] else []
    c.setArr a { x with mpre := x.mpre.filter (fun e => e != p) ++ next }

/-- Table words that a drain uses (R416). -/
def drainKeys (n : Nat) (o : MacroOp) : List Nat :=
  (if fld o 109 104 = 0 then [] else chainKeys n (fld o 109 104)) ++ (if bitAt o 83 then [rHnd (fld o 82 71)] else [])

/-- The drain j of array a is under way. -/
def Cluster.beginDrain (c : Cluster) (a : Nat) (j : DrainJob) : Cluster := c.setArr a { c.arr a with drn := some j }

/-- DRAIN: the drain that is due begins; its group 0 is read in this cycle (R98). -/
def drainC (c : Cluster) (a : Nat) : Cluster :=
  if c.drainDue a then
    match (c.arr a).jobs with
    | [] => c
    | j :: rest =>
      let c := c.setArr a { c.arr a with jobs := rest }
      if j.nul then c.beginDrain a j else c.withTab (drainKeys (a / 4) j.op) (fun c => c.beginDrain a j)
  else c
def execDrain (a : ArrayId) (s : State) : Host.Outcome State Fault Refusal := done s (drainC s.cl a.val)

end Sys2Proof.Machine
end

