-- ==== Sys2Proof/Machine/ImageOps.lean ====
section
/-! DEFINITION. What the cluster reads of an admitted image after admission: its sections, segment-table entries and
live-mask entries (R373, R397, R399, R400). The layouts of the segment table, the live-mask entries and the
instruction-memory section's head are the model's own (log entry 20). Log entries of its readings and choices: 20
DESIGN CHOICE, 87 DEDUCED, 93 DEDUCED. -/

namespace Sys2Proof.Machine

/-- A little-endian field of a byte list (R399). -/
def leAt (bs : List Byte) (off len : Nat) : Nat := leNat ((bs.drop off).take len)

/-- An entry of the section directory (R399). -/
structure DirEnt where
  ty    : Nat
  core  : Nat
  first : Nat
  off   : Nat
  len   : Nat
  count : Nat
  deriving DecidableEq, Repr

/-- A directory entry from its 16 bytes. -/
def dirEnt (bs : List Byte) : DirEnt :=
  ⟨leAt bs 0 1, leAt bs 1 1, leAt bs 2 2, leAt bs 4 4, leAt bs 8 4, leAt bs 12 4⟩

/-- Bytes of a memory section that are loaded (R400): COUNT units of 64 bytes, as FIRST counts them, behind the head of
an instruction section. -/
def DirEnt.skip (d : DirEnt) : Nat := if d.ty = 0x10 then 64 else 0
def DirEnt.loads (d : DirEnt) : Nat := min (64 * d.count) (d.len - d.skip)

/-- Entry i of the directory of an image that starts at a scratchpad line. -/
def Cluster.dirAt (c : Cluster) (base i : Nat) : DirEnt := dirEnt (c.spdBytes (base * 64 + 0x100 + 16 * i) 16)

/-- The directory of an image that starts at a scratchpad line. -/
def Cluster.dir (c : Cluster) (base : Nat) : List DirEnt :=
  (List.range (leNat (c.spdBytes (base * 64 + 0x0C) 2))).map (c.dirAt base)

/-- The first section of a type, if the image has one. -/
def Cluster.sectionOf (c : Cluster) (base ty : Nat) : Option DirEnt := (c.dir base).find? (fun d => d.ty == ty)

/-- Class-5 reads of the lines that n bytes from a touch take their open slots; the bytes themselves are at hand already
(R284, R397, log entry 93). -/
def Cluster.claimSlots (c : Cluster) (a n : Nat) : Cluster :=
  if n = 0 then c else c.addGroup 5 0 .quiet ((linesOf a n).zipIdx.map (fun l => lineReq l.2 l.1 (some [])))

/-- Read a part of the resident region of the image in a slot, through class 5: with an uncorrectable word, which retires
the image as damaged, nothing is read (R397). -/
def Cluster.residentRead (c : Cluster) (slot off n : Nat) : Option (List Byte) × Cluster :=
  match vat c.imgs slot none with
  | none => (none, c)
  | some im =>
    let p := c.spdRead 1 0 (im.base * 64 + off) n
    (if p.2.2 then none else some p.1, p.2.1.claimSlots (im.base * 64 + off) n)

/-- Read the header and directory of the image in a slot; the flag tells that it could be read (R397). -/
def Cluster.residentDir (c : Cluster) (slot : Nat) (im : Img) : Cluster × Bool :=
  let p := c.residentRead slot 0 (0x100 + 16 * leNat (c.spdBytes (im.base * 64 + 0x0C) 2))
  (p.2, p.1.isSome)

/-- Read entry i of a resident table of a section type with entries of a size: the directory is read first. -/
def Cluster.residentEntry (c : Cluster) (slot ty size i : Nat) : Option (List Byte) × Cluster :=
  match vat c.imgs slot none with
  | none => (none, c)
  | some im =>
    let q := c.residentDir slot im
    if !q.2 then (none, q.1)
    else match c.sectionOf im.base ty with
      | none => (none, q.1)
      | some d => if (i + 1) * size ≤ d.len then q.1.residentRead slot (d.off + i * size) size else (none, q.1)

/-- Size of a segment-table entry and of a live-mask entry, as the model lays them out. -/
def segSize : Nat := 1088
def liveSize : Nat := 1024

/-- Fields of a segment-table entry: kind (1: variant region), context, alternatives, cores, start, join; the number of
the region's first op on queue q; and how many ops, and how many of them padding, alternative a has there. -/
def segVar (e : List Byte) : Bool := leAt e 0 1 == 1
def segCtx (e : List Byte) : Nat := leAt e 1 1 % 64
def segAlts (e : List Byte) : Nat := leAt e 2 1
def segCores (e : List Byte) : Nat := leAt e 3 1
def segStart (e : List Byte) : Nat := leAt e 4 4
def segJoin (e : List Byte) : Nat := leAt e 8 4
def segFirst (e : List Byte) (q : Nat) : Nat := leAt e (16 + 4 * q) 4
def segOps (e : List Byte) (a q : Nat) : Nat := leAt e (224 + 4 * (52 * a + q)) 2
def segPadCount (e : List Byte) (a q : Nat) : Nat := leAt e (226 + 4 * (52 * a + q)) 2

/-- Fields of a live-mask entry: tiles of core n, its resume walk index, loop index k, resume address, whether its
scalar state is saved, and the sync words. -/
def liveTiles (e : List Byte) (n : Nat) : List Nat := bitsOf 24 (leAt e (4 * n) 4)
def liveWalk (e : List Byte) (n : Nat) : Nat := leAt e (32 + 2 * n) 2
def liveLoop (e : List Byte) (n k : Nat) : Nat := leAt e (48 + 8 * n + 2 * k) 2
def livePc (e : List Byte) (n : Nat) : Nat := leAt e (112 + 2 * n) 2
def liveScalar (e : List Byte) (n : Nat) : Bool := (leAt e 128 1).testBit n
def liveSync (e : List Byte) : List Nat := (List.range (min 208 (leAt e 130 2))).map (fun i => leAt e (192 + 4 * i) 4 % 131072)

/-- The segment-table entry of the running lining's image, and the cluster after the read. -/
def Cluster.segEntry (c : Cluster) (tab : Nat) : Option (List Byte) × Cluster :=
  match c.runSlot with
  | none => (none, c)
  | some slot => c.residentEntry slot 0x09 segSize tab

end Sys2Proof.Machine
end

