-- ==== Sys2Proof/Machine/SyncUnit.lean ====
section
/-! DEFINITION. The synchronisation unit: sync words, translation, signals, waits and baselines (R289, R351 to R366).
Log entries of its readings and choices: 13 DEDUCED, 77 DEDUCED. -/

namespace Sys2Proof.Machine

/-- Local address of sync word w (R351). -/
def syncAddr (w : Nat) : Nat := syncBase + 8 * w

/-- Fields of a sync word (R351). -/
def syFull (x : W64) : Bool := bitAt x 63
def syValue (x : W64) : W32 := BitVec.ofNat 32 (fld x 31 0)

/-- An operation reaches the unit (R352): behind those of earlier cycles, and in its own cycle behind those of no
higher rank: baselines 0, core n 1 + n, inbound lane l 16 + l. -/
def Cluster.syncPost (c : Cluster) (word ctx rank : Nat) (what : SyncWhat) (ack : Option (Nat × BitVec 128)) : Cluster :=
  let o : SyncOp := ⟨c.nextOrd, word, ctx, c.clk.free, rank, what, ack, false⟩
  let ahead : SyncOp → Bool := fun p => p.at_ != o.at_ || decide (p.rank ≤ rank)
  { c with nextOrd := c.nextOrd + 1, syncOps := c.syncOps.takeWhile ahead ++ o :: c.syncOps.dropWhile ahead }

/-- The unit takes operation i of its list when every earlier one on the word has written back: its read joins class 2
(R289, R352). -/
def Cluster.syncTake (c : Cluster) (i : Nat) : Cluster :=
  match c.syncOps[i]? with
  | none => c
  | some o =>
    if o.busy || (c.syncOps.take i).any (fun p => p.word == o.word) then c
    else ({ c with syncOps := listSet c.syncOps i { o with busy := true } }).addGroup 2 0 (.syncRead o.id)
      [partReq 0 (syncAddr o.word) 8 none]

/-- The unit takes every operation that it may take. -/
def Cluster.syncIssue (c : Cluster) : Cluster := c.each (List.range c.syncOps.length) Cluster.syncTake

/-- The condition of a wait kind (R356). -/
def waitHolds (kind : Nat) (operand : W32) (x : W64) : Bool :=
  match kind with
  | 0 => syFull x
  | 1 => syFull x
  | 2 => syFull x && decide (0 ≤ (syValue x - operand).toInt)
  | 3 => !syFull x
  | _ => false

/-- The word as the release of a wait of a kind leaves it: TAKE clears FULL (R356). -/
def waitEffect (kind : Nat) (x : W64) : W64 := if kind = 1 then setFld x 63 63 0 else x

/-- End a wait on core n with a value and a status: a scalar core goes on to its next instruction, a walker to its
next entry (R270, R358). -/
def Cluster.endWait (c : Cluster) (n : Nat) (engine : Bool) (rd rs : Nat) (v : W32) (status : Nat) : Cluster :=
  let x := c.core n
  if engine then c.setCore n { x with wwait := 0, widx := x.widx + 1 }
  else c.setCore n ((x.setS rd (v.zeroExtend 64)).setS rs (BitVec.ofNat 64 status)).adv

/-- Evaluate core n's waiter on a word (R357). -/
def Cluster.tryWaiter (w : Nat) (p : Cluster × W64) (n : Nat) : Cluster × W64 :=
  match vat p.1.waiters n none with
  | none => p
  | some wt =>
    if wt.live && wt.word = w && waitHolds wt.kind wt.operand p.2 then
      let c := { p.1 with waiters := vset p.1.waiters n none }
      (c.endWait n wt.engine wt.rd wt.rs (syValue p.2) 0, waitEffect wt.kind p.2)
    else p

/-- The value and the full bit that a signal kind leaves (R355). -/
def signalled (kind : Nat) (operand : W32) (x : W64) : Bool × W32 :=
  match kind with
  | 0 => (true, operand)
  | 1 => (true, syValue x + operand)
  | 2 => (true, syValue x ||| operand)
  | _ => (false, syValue x)

/-- A sync word from its fields (R351). -/
def mkSync (full : Bool) (sctx scl score tblo : Nat) (v : W32) : W64 :=
  placeB full 63 ||| place (sctx % 64) 57 ||| place (scl % 64) 51 ||| place (score % 8) 48 ||| place (tblo % 65536) 32
    ||| place v.toNat 0

/-- Translate VID v of context ctx: the store entry (R353). The flag tells whether the table could be used (R416). -/
def Cluster.translateVid (c : Cluster) (ctx v : Nat) : Option W32 :=
  let m := c.regAt (rSyn + 8 * ctx)
  let vlo := fld m 62 47
  if bitAt m 63 && decide (vlo ≤ v) && decide (v < vlo + fld m 46 35 + 1) then
    let e := Sparse.get c.xlat (fld m 33 17 + (v - vlo))
    if bitAt e 31 then some e else none
  else none

/-- Table words that a translation reads (R416). -/
def Cluster.vidKeys (c : Cluster) (ctx v : Nat) : List Nat :=
  let m := c.regAt (rSyn + 8 * ctx)
  [rSyn + 8 * ctx, kXlat (fld m 33 17 + (v - fld m 62 47))]

/-- Translate a VID with the table's own check: a word that cannot be used does not translate. -/
def Cluster.vid (c : Cluster) (ctx v : Nat) : Cluster × Option W32 :=
  let p := c.tabRead (c.vidKeys ctx v)
  (p.1, if p.2 then p.1.translateVid ctx v else none)

/-- Sync word of a store entry. -/
def xWord (e : W32) : Nat := fld e 16 0
/-- XSIG of a store entry. -/
def xXsig (e : W32) : Bool := bitAt e 30

/-- A wait of core n goes to the unit; the core stalls until it is answered (R356 to R359). A poll has timeout 0. -/
def Cluster.doWait (c : Cluster) (n : Nat) (wt : Waiter) (timeout : Nat) : Cluster :=
  ({ c with waiters := vset c.waiters n (some { wt with live := false, id := c.nextOrd }) }).syncPost wt.word wt.ctx (1 + n)
    (.wait n timeout) none

/-- The first evaluation of a wait on its word (R356, R358, R359): released, answered as a poll, or registered. -/
def Cluster.evalWait (c : Cluster) (n timeout : Nat) (wt : Waiter) (x : W64) : Cluster × W64 :=
  let c := c.bump (rSyn + 0x508) (rSyn + 0x518) 1 1
  let gone := { c with waiters := vset c.waiters n none }
  if waitHolds wt.kind wt.operand x then (gone.endWait n wt.engine wt.rd wt.rs (syValue x) 0, waitEffect wt.kind x)
  else if timeout = 0 then (gone.endWait n wt.engine wt.rd wt.rs (syValue x) 10, x)
  else ({ c with waiters := vset c.waiters n (some { wt with live := true, deadline := c.tk + timeout }) }, x)

/-- An expired wait is answered with TIMEOUT, logged and raised (R358). -/
def Cluster.expireWait (c : Cluster) (n : Nat) (wt : Waiter) (x : W64) : Cluster :=
  let c := ({ c with waiters := vset c.waiters n none }).bump (rSyn + 0x510) (rSyn + 0x518) 2 1
  let c :=
    if bitAt (c.regAt (rSyn + 0x400)) 63 then c
    else ((c.setReg (rSyn + 0x400) (placeB true 63 ||| place wt.ctx 57 ||| place c.straps.toNat 51 ||| place n 48
      ||| placeB wt.engine 47 ||| place wt.kind 44 ||| place wt.vid 28 ||| place wt.word 11)).setReg
      (rSyn + 0x408) (placeB (syFull x) 32 ||| place (syValue x).toNat 0)).setReg (rSyn + 0x410) c.tb.value
  (c.endWait n wt.engine wt.rd wt.rs (syValue x) 1).raise 0x1D n wt.ctx

/-- WAIT_TIMEOUT of core n (R358): the wait is deregistered, and the unit reads its word for the answer. -/
def waitTimeoutC (c : Cluster) (n : Nat) : Cluster :=
  match vat c.waiters n none with
  | none => c
  | some wt =>
    if c.ready && wt.live && decide (wt.deadline ≤ c.tk) && !c.tornSeen wt.ctx then
      ({ c with waiters := vset c.waiters n (some { wt with live := false, id := c.nextOrd }) }).syncPost wt.word wt.ctx (1 + n)
        (.expire n) none
    else c
def execWaitTimeout (n : CoreId) (s : State) : Host.Outcome State Fault Refusal := done s (waitTimeoutC s.cl n.val)

/-- What an operation makes of its word; one of a wait that has ended meanwhile changes nothing (R352 to R366). -/
def Cluster.syncApply (c : Cluster) (o : SyncOp) (x : W64) : Cluster × W64 :=
  match o.what with
  | .baseline full v => (c, mkSync full o.ctx c.straps.toNat 0 c.tbNow v)
  | .signal kind operand sctx scl score =>
    let v := signalled kind operand x
    (c.bump (rSyn + 0x500) (rSyn + 0x518) 0 1, mkSync v.1 sctx scl score c.tbNow v.2)
  | .wait n timeout =>
    (match vat c.waiters n none with
     | some wt => if !wt.live && wt.id == o.id then c.evalWait n timeout wt x else (c, x)
     | none => (c, x))
  | .expire n =>
    (match vat c.waiters n none with
     | some wt => if !wt.live && wt.id == o.id then (c.expireWait n wt x, x) else (c, x)
     | none => (c, x))
  | .restore v => (c, v)

/-- The unit has read the word of an operation: it applies it, evaluates the word's waiters in ascending core number, and
writes the word back (R289, R352, R357). An uncorrectable word has been read as zero, and raises SYN_WORD_UE (R365). -/
def Cluster.syncReadDone (c : Cluster) (id : Nat) (x : W64) (bad : Bool) : Cluster :=
  match c.syncOps.find? (fun o => o.id == id) with
  | none => c
  | some o =>
    let c := if bad then c.raise 0x23 (c.pbank (lbankOf (syncAddr o.word))) o.ctx else c
    let p := (List.range 8).foldl (Cluster.tryWaiter o.word) (c.syncApply o x)
    p.1.addGroup 2 0 (.syncWrite id) [partReq 0 (syncAddr o.word) 8 (some (leBytes 8 p.2.toNat))]

/-- An operation has written back: it leaves the unit, and an inbound one is answered in the next cycle (R352, R363). -/
def Cluster.syncWriteDone (c : Cluster) (id : Nat) : Cluster :=
  match c.syncOps.find? (fun o => o.id == id) with
  | none => c
  | some o =>
    let acks := match o.ack with
      | some a => [(⟨a.1, a.2, 4, fld a.2 67 64⟩ : Ack)]
      | none => []
    { c with syncOps := c.syncOps.filter (fun p => p.id != id), acks := c.acks ++ acks }

/-- Send the replies that the last cycle has left for this one (R335, R363). -/
def Cluster.sendAcks (c : Cluster) : Cluster :=
  ({ c with acks := [] }).each c.acks (fun c a => c.reply a.lane a.hdr a.ty 0 a.lmask [])

/-- Inbound SYNC flits that the unit holds (R363). -/
def Cluster.syncHeld (c : Cluster) : Nat := c.syncIn.length + (c.syncOps.filter (fun o => o.ack.isSome)).length

/-- An inbound SYNC flit is queued, those of one cycle by lane, or answered with BUSY when 64 are held (R352, R363). -/
def Cluster.syncArrive (c : Cluster) (lane : Nat) (f : Flit) : Cluster :=
  if 64 ≤ c.syncHeld then c.reply lane f.hdr 5 5 (fLmask f) []
  else
    let ahead : Nat × Nat × Flit → Bool := fun p => p.2.1 != c.clk.free || decide (p.1 ≤ lane)
    { c with syncIn := c.syncIn.takeWhile ahead ++ (lane, c.clk.free, f) :: c.syncIn.dropWhile ahead }

/-- The context that signalled: a flit does not carry it, so SCTX takes a free value, but for a signal of this cluster's
own, whose slot holds it (R351, R355). -/
def Cluster.signaller (c : Cluster) (lane : Nat) (f : Flit) : Nat × Cluster :=
  match if lane = selfLane then vat (c.core (fTxn f / 2 ^ 17 % 8)).sig (fLmask f % 8) none else none with
  | some g => (g.ctx, c)
  | none =>
    let b := c.freeB
    (b.1.toNat, b.2)

/-- The signal of a queued SYNC flit goes to its word, or is answered with an error (R354, R363). -/
def Cluster.applyFlit (c : Cluster) (lane : Nat) (f : Flit) : Cluster :=
  let ga := fGaddr f
  let dctx := ga / 2 ^ 34 % 64
  let p := c.vid dctx (fTxn f % 65536)
  match p.2 with
  | none => p.1.reply lane f.hdr 5 1 (fLmask f) []
  | some e =>
    if !xXsig e then p.1.reply lane f.hdr 5 2 (fLmask f) []
    else
      let k := p.1.signaller lane f
      k.2.syncPost (xWord e) dctx (16 + lane)
        (.signal (ga / 2 ^ 32 % 4) (BitVec.ofNat 32 ga) k.1 (fSrccl f) (fTxn f / 2 ^ 17)) (some (lane, f.hdr))

/-- SYNC_APPLY (R363): the head of the inbound queue. -/
def syncApplyC (c : Cluster) : Cluster :=
  if c.live then
    match c.syncIn with
    | [] => c
    | (lane, _, f) :: rest => ({ c with syncIn := rest }).applyFlit lane f
  else c
def execSyncApply (s : State) : Host.Outcome State Fault Refusal := done s (syncApplyC s.cl)

/-- The SYNC flit of a signal slot (R362). -/
def SigSlot.hdr (g : SigSlot) (cl n slot : Nat) : BitVec 128 := mkHdr 8 0 cl (n * 2 ^ 17 + g.vid) slot g.gaddr

/-- Put the flit of a signal on its way: out on a lane, or turned round inside (R306, R361). -/
def Cluster.launchSignal (c : Cluster) (n slot : Nat) (g : SigSlot) : Cluster :=
  let h := g.hdr c.straps.toNat n slot
  if g.dcl = c.straps.toNat then c.syncArrive selfLane ⟨h, 0, []⟩ else c.sendFlit h []

/-- Is an earlier signal of core n to the same target without an outcome (R361)? -/
def Core.earlier (x : Core) (g : SigSlot) : Bool :=
  x.sig.toList.any (fun s => match s with
    | some s => decide (s.seq < g.seq) && s.dcl == g.dcl && s.dctx == g.dctx && s.vid == g.vid
    | none => false)

/-- SIGNAL_SEND (R361): REPLY_TO runs from here. -/
def signalSendC (c : Cluster) (n slot : Nat) : Cluster :=
  let x := c.core n
  match vat x.sig slot none with
  | none => c
  | some g =>
    if c.live && !g.sent && !x.earlier g && (c.portRoom || g.dcl == c.straps.toNat) then
      (c.setCore n { x with sig := vset x.sig slot (some { g with sent := true, due := c.tk + c.dictAt 0x2700 2 }) }).launchSignal n slot g
    else c
def execSignalSend (n : CoreId) (slot : Fin 8) (s : State) : Host.Outcome State Fault Refusal :=
  done s (signalSendC s.cl n.val slot.val)

/-- SIGNAL_RESEND: 64 tk after a BUSY (R364). -/
def signalResendC (c : Cluster) (n slot : Nat) : Cluster :=
  let x := c.core n
  match vat x.sig slot none with
  | none => c
  | some g =>
    match g.busy with
    | none => c
    | some t =>
      if c.live && decide (t ≤ c.tk) && (c.portRoom || g.dcl == c.straps.toNat) then
        (c.setCore n { x with sig := vset x.sig slot (some { g with busy := none }) }).launchSignal n slot g
      else c
def execSignalResend (n : CoreId) (slot : Fin 8) (s : State) : Host.Outcome State Fault Refusal :=
  done s (signalResendC s.cl n.val slot.val)

/-- SIGNAL_TIMEOUT: REPLY_TO expires with no outcome (R364). -/
def signalTimeoutC (c : Cluster) (n slot : Nat) : Cluster :=
  match vat (c.core n).sig slot none with
  | none => c
  | some g => if c.live && g.sent && decide (g.due ≤ c.tk) then c.signalOutcome n slot (some 0xD) else c
def execSignalTimeout (n : CoreId) (slot : Fin 8) (s : State) : Host.Outcome State Fault Refusal :=
  done s (signalTimeoutC s.cl n.val slot.val)

/-- A baseline entry goes to its word, unless its context is torn down (R366, R386). -/
def Cluster.baseline (c : Cluster) (i : Nat) : Cluster :=
  c.withTab [rSyn + 0x8000 + 8 * i] fun c =>
    let b := c.regAt (rSyn + 0x8000 + 8 * i)
    let k := fld b 62 57
    if !bitAt b 63 || c.tornSeen k then c
    else
      let q := c.vid k (fld b 55 40)
      match q.2 with
      | none => q.1
      | some e => q.1.syncPost (xWord e) k 0 (.baseline (bitAt b 56) (BitVec.ofNat 32 (fld b 31 0))) none

/-- SCREED (R251, R366). -/
def screedC (c : Cluster) : Cluster :=
  match c.ctlHead 0x53 with
  | none => c
  | some (_, o) => c.popCtl.each (List.range (fld o 179 164 + 1)) (fun c i => c.baseline (fld o 191 180 + i))
def execScreed (s : State) : Host.Outcome State Fault Refusal := done s (screedC s.cl)

end Sys2Proof.Machine
end

