-- ==== Sys2Proof/Machine/Messages.lean ====
section
/-! DEFINITION. The message unit: the inbound store, ring placement and consumption, and sorus combining (R325 to
R348). Log entries of its readings and choices: 13 DEDUCED, 40 DEDUCED, 45 DEDUCED, 46 DESIGN CHOICE, 61 DEDUCED. -/

namespace Sys2Proof.Machine

/-- Descriptor of ring r (R338). -/
def Cluster.ringD (c : Cluster) (r : Nat) : W64 := Sparse.get c.rdesc r
def ringValid (d : W64) : Bool := bitAt d 63
def ringCtx (d : W64) : Nat := fld d 62 57
def ringCore (d : W64) : Nat := fld d 56 54
def ringSize (d : W64) : Nat := 2 ^ fld d 53 49

/-- Scratchpad address of slot i of ring r (R339). -/
def Cluster.ringSlot (c : Cluster) (r i : Nat) : Nat :=
  let d := c.ringD r
  64 * slotLine (c.holesOf (ringCtx d)) (hndBase (c.regAt (rHnd (fld d 48 37))) + fld d 36 15) i

/-- PROD, CONS and occupancy of a ring (R340). -/
def Cluster.prodOf (c : Cluster) (r : Nat) : W32 := Sparse.get c.prod r
def Cluster.consOf (c : Cluster) (r : Nat) : W32 := Sparse.get c.cons r
def Cluster.ringOcc (c : Cluster) (r : Nat) : Nat := (c.prodOf r - c.consOf r).toNat

/-- CONS of a ring at the start of this cycle (R341). -/
def Cluster.consStart (c : Cluster) (r : Nat) : W32 :=
  match c.consOld.find? (fun p => p.1 == r) with
  | some p => p.2
  | none => c.consOf r

/-- Move CONS of a ring on. -/
def Cluster.consume (c : Cluster) (r n : Nat) : Cluster :=
  { c with consOld := if c.consOld.any (fun p => p.1 == r) then c.consOld else (r, c.consOf r) :: c.consOld
           cons := Sparse.set c.cons r (c.consOf r + BitVec.ofNat 32 n) }

/-- Skip a pad record that CONS has reached: its T slots count as consumed (R341). -/
def Cluster.padSkip (c : Cluster) (r : Nat) : Cluster :=
  let s := ringSize (c.ringD r)
  let v := c.consOf r
  if c.pads.contains (r, v) then ({ c with pads := c.pads.erase (r, v) }).consume r (s - v.toNat % s) else c

/-- Slots of the pad behind which a record of n slots fits in ring r now; none where it waits (R340, R341). -/
def Cluster.ringFit (c : Cluster) (r n : Nat) : Option Nat :=
  let s := ringSize (c.ringD r)
  let t := s - (c.prodOf r).toNat % s
  let f := s - (c.prodOf r - c.consStart r).toNat
  if n ≤ t && n ≤ f then some 0 else if t < n && t + n ≤ f then some t else none

/-- The writes that place a record of n slots in ring r, behind a pad record of `pad` slots (R335, R340). -/
def Cluster.placeReqs (c : Cluster) (r n pad : Nat) (data : List Byte) : List BReq :=
  let p := (c.prodOf r).toNat % ringSize (c.ringD r)
  let first := if pad = 0 then p else 0
  let padHdr := hdrBytes (setFld (setFld 0 13 12 2) 25 21 (pad - 1))
  (if pad = 0 then [] else [partReq n (c.ringSlot r p) 16 (some padHdr)]) ++
    (List.range n).map (fun j => lineReq j (c.ringSlot r (first + j) / 64) (some ((data.drop (64 * j)).take 64)))

/-- Is a record being placed in ring r? -/
def Cluster.placing (c : Cluster) (r : Nat) : Bool :=
  c.spd.groups.any (fun g => match g.done with
    | .placeSpore _ q _ _ => q == r
    | .placeSorus _ q _ _ => q == r
    | _ => false)

/-- The last line of a record is written: PROD advances, past its pad too (R335, R340, R341). -/
def Cluster.produce (c : Cluster) (r n pad : Nat) : Cluster :=
  let c := if pad = 0 then c else ({ c with pads := (r, c.prodOf r) :: c.pads }).bump (rMsg + 0x220) (rMsg + 0x240) 4 1
  ({ c with prod := Sparse.set c.prod r (c.prodOf r + BitVec.ofNat 32 (pad + n)) }).padSkip r

/-- Slots of the inbound store in use, by spores of a class or of both (R333). -/
def Cluster.storeSlots (c : Cluster) (reqOnly : Bool) : Nat :=
  (c.store.toList.map (fun s => match s with
    | some sp => if reqOnly && sClass sp.hdr then 0 else sLen sp.hdr
    | none => 0)).foldl (· + ·) 0
/-- Header entries in use (R333). -/
def Cluster.storeHdrs (c : Cluster) (reqOnly : Bool) : Nat :=
  (c.store.toList.filter (fun s => match s with
    | some sp => !(reqOnly && sClass sp.hdr)
    | none => false)).length

/-- Table words that name a ring and where it lies (R338, R416). -/
def Cluster.ringKeys (c : Cluster) (r : Nat) : List Nat := [kRing r, rHnd (fld (c.ringD r) 48 37)]
/-- Table words that describe a sorus entry and where its area lies (R344, R416). -/
def Cluster.sorusKeys (c : Cluster) (e : Nat) : List Nat := [kSorus e, kSorus e + 1, rHnd (fld (Sparse.get c.sdesc1 e) 63 52)]
/-- Table words that the check of a spore's destination reads (R334, R416). -/
def Cluster.destKeys (c : Cluster) (sorus : Bool) (h : BitVec 128) : List Nat :=
  if sorus then (if sDring h < 512 then c.sorusKeys (sDring h) else []) else c.ringKeys (sDring h)

/-- Can the store take a spore with this header (R333)? -/
def Cluster.storeRoom (c : Cluster) (h : BitVec 128) : Bool :=
  decide (c.storeHdrs false < 64) && decide (c.storeSlots false + sLen h ≤ 512) &&
    (sClass h || (decide (c.storeHdrs true < 48) && decide (c.storeSlots true + sLen h ≤ 384)))

/-- Apply an armed injection to a data-memory write of core n at a word (R432). -/
def Cluster.injectDmem (c : Cluster) (n w : Nat) : Cluster :=
  let c := if c.armedAt 0x24 n then ({ c with dmemErr := Sparse.set c.dmemErr w 1 }).disarm 0x24 else c
  if c.armedAt 0x25 n then ({ c with dmemErr := Sparse.set c.dmemErr w 3 }).disarm 0x25 else c

/-- Write data memory of core n: the words take fresh check bits (R277). -/
def Cluster.dmemPut (c : Cluster) (n a : Nat) (bs : List Byte) : Cluster :=
  let k := n * 65536 + a
  let lo := k / 8 * 8
  let c := { c with dmem := Memory.write c.dmem k bs, dmemErr := Sparse.clearRange c.dmemErr lo ((k + bs.length + 7) / 8 * 8) }
  c.injectDmem n lo

/-- A receive of core n takes the head record of ring r: its first slot is read through class 1 (R343). -/
def Cluster.takeHead (c : Cluster) (n r rd rb rs : Nat) (copy : Bool) : Cluster :=
  let p := (c.consOf r).toNat % ringSize (c.ringD r)
  (c.setCore n { c.core n with stall := .recvRead r rd rb rs copy c.spd.nextGrp }).addGroup 1 0 (.recvHead n)
    [lineReq 0 (c.ringSlot r p / 64) none]

/-- Slots of a record with a header (R325, R342). -/
def recSlots (h : BitVec 128) : Nat := if sKind h = 3 then cdiv (16 + 4 * sNelc h) 64 else sLen h

/-- A receive is complete: its bytes are in data memory, the record is consumed, and the slot count answered (R343). -/
def Cluster.recvDone (c : Cluster) (n r rd rb rs len : Nat) (bs : List Byte) : Cluster :=
  let dst := ((c.core n).s rb).toNat
  let c := c.each (List.range (bs.length / 64)) (fun c j => c.dmemPut n (dst + 64 * j) ((bs.drop (64 * j)).take 64))
  let c := (c.consume r len).padSkip r
  let x := c.core n
  c.setCore n ((x.setS rd (BitVec.ofNat 64 len)).setS rs 0).adv

/-- The first slot of a record has been read for core n: a record that does not fit in data memory is left with status
RANGE; else the other slots are read (R343). -/
def Cluster.recvHeadDone (c : Cluster) (id n : Nat) (bs : List Byte) : Cluster :=
  let x := c.core n
  match x.stall with
  | .recvRead r rd rb rs copy g =>
    if g ≠ id then c
    else
      let len := recSlots (BitVec.ofNat 128 (leNat (bs.take 16)))
      let p := (c.consOf r).toNat % ringSize (c.ringD r)
      if !copy then c.recvDone n r rd rb rs len []
      else if 65536 < (x.s rb).toNat + 64 * len then (c.setCore n ((x.setS rd 0).setS rs 7).adv).raise 0x1B n x.cur
      else if len = 1 then c.recvDone n r rd rb rs len bs
      else (c.setCore n { x with stall := .recvRead r rd rb rs copy c.spd.nextGrp }).addGroup 1 0 (.recvBody n bs)
        ((List.range (len - 1)).map (fun j => lineReq j (c.ringSlot r (p + 1 + j) / 64) none))
  | _ => c

/-- The other slots of a record have been read for core n (R343). -/
def Cluster.recvBodyDone (c : Cluster) (id n : Nat) (bs : List Byte) : Cluster :=
  match (c.core n).stall with
  | .recvRead r rd rb rs _ g => if g = id then c.recvDone n r rd rb rs (bs.length / 64) bs else c
  | _ => c

/-- A record has been placed in a ring: a core that waits for it takes it (R343). -/
def Cluster.recvCheck (c : Cluster) (r : Nat) : Cluster :=
  c.each (List.range 8) (fun c n =>
    match (c.core n).stall with
    | .recv ring rd rb rs _ => if ring = r && c.ringOcc r != 0 && !c.tornSeen (c.core n).cur then c.takeHead n r rd rb rs true else c
    | _ => c)

/-- A spore leaves the inbound store, placed or added. -/
def Cluster.sporeGone (c : Cluster) (i : Nat) : Cluster :=
  ({ c with store := vset c.store i none }).bump (rMsg + 0x208) (rMsg + 0x240) 1 1

/-- Header of the request that a spore's reply answers (R337). -/
def InSpore.req (sp : InSpore) : BitVec 128 := mkHdr 6 0 sp.srccl sp.txn 0 sp.gaddr.toNat

/-- A spore is written in its ring; the sender is answered in the next cycle (R335). -/
def Cluster.placeSporeDone (c : Cluster) (id i r n pad : Nat) : Cluster :=
  match vat c.store i none with
  | none => c
  | some sp =>
    if sp.grp ≠ some id then c
    else
      let c := (c.produce r n pad).sporeGone i
      ({ c with acks := c.acks ++ [(⟨sp.lane, sp.req, 7, 0⟩ : Ack)] }).recvCheck r

/-- SPORE_PLACEMENT: the first spore that waits for a ring goes to its slots, if it fits (R335, R340). -/
def sporePlacementC (c : Cluster) (r : Nat) : Cluster :=
  if !c.live || c.placing r then c
  else
    match (c.waiting false r).head? with
    | none => c
    | some i =>
      match vat c.store i none with
      | none => c
      | some sp => c.withTab (c.ringKeys r) fun c =>
        match c.ringFit r (sLen sp.hdr) with
        | none => c
        | some pad => ({ c with store := vset c.store i (some { sp with grp := some c.spd.nextGrp }) }).addGroup 1 0
            (.placeSpore i r (sLen sp.hdr) pad) (c.placeReqs r (sLen sp.hdr) pad sp.data)
def execSporePlacement (ring : RingId) (s : State) : Host.Outcome State Fault Refusal :=
  done s (sporePlacementC s.cl ring.val)

/-- RING_TIMEOUT of a header entry that nothing places yet (R336). -/
def ringTimeoutC (c : Cluster) (i : Nat) : Cluster :=
  match vat c.store i none with
  | none => c
  | some sp => if c.live && sp.done && sp.grp.isNone && decide (sp.due ≤ c.tk) then c.refuse i 0 else c
def execRingTimeout (h : Fin 64) (s : State) : Host.Outcome State Fault Refusal := done s (ringTimeoutC s.cl h.val)

/-- Fields of a sorus entry (R344). -/
def Cluster.sorusValid (c : Cluster) (e : Nat) : Bool := bitAt (Sparse.get c.sdesc0 e) 63
def Cluster.sorusOwner (c : Cluster) (e : Nat) : Nat := fld (Sparse.get c.sdesc0 e) 62 57
def Cluster.sorusInt (c : Cluster) (e : Nat) : Bool := bitAt (Sparse.get c.sdesc0 e) 56
def Cluster.sorusNel (c : Cluster) (e : Nat) : Nat := fld (Sparse.get c.sdesc0 e) 55 47 + 1
def Cluster.sorusRing (c : Cluster) (e : Nat) : Nat := fld (Sparse.get c.sdesc0 e) 46 34
def Cluster.sorusTag (c : Cluster) (e : Nat) : Nat := fld (Sparse.get c.sdesc0 e) 33 18
def Cluster.sorusExpect (c : Cluster) (e : Nat) : Nat := fld (Sparse.get c.sdesc1 e) 15 0

/-- Must a complete spore be refused with BADDEST (R334)? -/
def Cluster.badDest (c : Cluster) (sorus : Bool) (h : BitVec 128) : Bool :=
  if sorus then
    let e := sDring h
    decide (512 ≤ e) || !c.sorusValid e || sDcore h != 0 || decide (c.sorusNel e < sElemOff h + sNelc h)
  else
    let d := c.ringD (sDring h)
    !ringValid d || ringCore d != sDcore h

/-- The last flit of a spore has arrived in header entry i: it is refused, or joins its placement queue (R333, R334). -/
def Cluster.sporeComplete (c : Cluster) (i : Nat) : Cluster :=
  match vat c.store i none with
  | none => c
  | some sp =>
    let sp := { sp with done := true, order := (c.clk.free * 8 + sp.lane) * 65536 + c.nextOrd % 65536, at_ := c.tk,
                        due := c.tk + c.dictAt 0x2700 1 }
    let c := { c with store := vset c.store i (some sp), nextOrd := c.nextOrd + 1 }
    let p := c.tabRead (c.destKeys sp.sorus sp.hdr)
    if !p.2 || p.1.badDest sp.sorus sp.hdr then p.1.refuse i 2 else p.1

/-- The first flit of a spore: a header entry and slots are reserved, or the spore is refused with STORE (R333). -/
def Cluster.sporeFirst (c : Cluster) (lane : Nat) (f : Flit) (sorus : Bool) : Cluster :=
  let h := BitVec.ofNat 128 (leNat (f.payload.take 16))
  match findIdxN (fun s => s.isNone) c.store.toList with
  | some i =>
    if c.storeRoom h then
      let sp : InSpore := { hdr := h, txn := fTxn f, srccl := fSrccl f, gaddr := BitVec.ofNat 64 (fGaddr f), lane := lane,
                            sorus := sorus, got := 1, data := f.payload.take (64 * sLen h), done := false, order := 0,
                            at_ := 0, due := 0, grp := none }
      let c := { c with store := vset c.store i (some sp) }
      if sLen h ≤ 4 then c.sporeComplete i else c
    else (c.bump (rMsg + 0x210) (rMsg + 0x240) 2 1).reply lane f.hdr 7 4 1 []
  | none => (c.bump (rMsg + 0x210) (rMsg + 0x240) 2 1).reply lane f.hdr 7 4 1 []

/-- A further flit of a spore: it joins the oldest incomplete entry that expects it, or is discarded (R333). -/
def Cluster.sporeMore (c : Cluster) (f : Flit) : Cluster :=
  let k := fGaddr f % 8
  match findIdxN (fun s => match s with
      | some sp => !sp.done && sp.srccl == fSrccl f && sp.txn / 2 ^ 14 == fTxn f / 2 ^ 14 && sp.got == k
      | none => false) c.store.toList with
  | none => c
  | some i =>
    match vat c.store i none with
    | none => c
    | some sp =>
      let sp := { sp with got := k + 1, data := (sp.data ++ f.payload).take (64 * sLen sp.hdr) }
      let c := { c with store := vset c.store i (some sp) }
      if sLen sp.hdr ≤ 4 * (k + 1) then c.sporeComplete i else c

/-- A SPORE or SORUS flit reaches the message unit (R333). -/
def Cluster.sporeArrive (c : Cluster) (lane : Nat) (f : Flit) : Cluster :=
  if fGaddr f % 8 = 0 then c.sporeFirst lane f (fType f == 9) else c.sporeMore f

/-- The flits of a spore, in order (R328). -/
def sporeFlits (cl n slot : Nat) (h : BitVec 128) (data : List Byte) : List Flit :=
  (List.range (cdiv (sLen h) 4)).map (fun i =>
    let lines := min 4 (sLen h - 4 * i)
    let bs := (data.drop (256 * i)).take 256
    ⟨mkHdr (if sKind h = 1 then 9 else 6) 0 cl (n * 2 ^ 17 + slot * 2 ^ 14 + i) (2 ^ lines - 1) (sporeGaddr h i), 0,
      bs ++ List.replicate (256 - bs.length) 0⟩)

/-- Hand a spore to the port: out on its lane, or turned round inside (R306, R328). -/
def Cluster.launchSpore (c : Cluster) (n slot : Nat) (h : BitVec 128) (data : List Byte) : Cluster :=
  c.each (sporeFlits c.straps.toNat n slot h data) (fun c f =>
    if sDcl h = c.straps.toNat then c.sporeArrive selfLane f else c.sendFlit f.hdr f.payload)

/-- REPLY_TIMEOUT: no reply within REPLY_TO of the handover (R332). -/
def replyTimeoutC (c : Cluster) (n slot : Nat) : Cluster :=
  match vat (c.core n).send slot none with
  | none => c
  | some sp => if c.live && decide (sp.due ≤ c.tk) then c.sporeOutcome n slot (some 3) else c
def execReplyTimeout (n : CoreId) (slot : Fin 8) (s : State) : Host.Outcome State Fault Refusal :=
  done s (replyTimeoutC s.cl n.val slot.val)

/-- An element that has received nothing in the round (R346). -/
def SorAcc.empty : SorAcc := ⟨0, false, false, false, true, false⟩

/-- Add one FP32 contribution to an element's exact sum, in units of 2^-149 (R346). -/
def SorAcc.addF (a : SorAcc) (x : W32) : SorAcc :=
  let a := { a with any := true, negz := a.negz && x == 0x80000000 }
  match f32 x with
  | .nan => { a with nan := true }
  | .inf false => { a with pinf := true }
  | .inf true => { a with ninf := true }
  | .fin neg m e => { a with sum := a.sum + (if neg then -1 else 1) * ((m * 2 ^ (e + 149).toNat : Nat) : Int) }

/-- Value of an FP32 element at release (R346). -/
def SorAcc.outF (a : SorAcc) : W32 :=
  if a.nan || (a.pinf && a.ninf) then qnan32
  else if a.pinf then 0x7F800000
  else if a.ninf then 0xFF800000
  else if a.sum = 0 then (if a.any && a.negz then 0x80000000 else 0)
  else toF32 (.fin (decide (a.sum < 0)) a.sum.natAbs (-149))

/-- A sum that an uncorrectable word of its area has lost (R291): a free value, because the manual does not lay out the
40 bytes of an FP32 element. -/
def SorAcc.lost (k : Nat) : SorAcc :=
  let w := Config.freeWord k
  ⟨((List.range 10).foldl (fun (a : BitVec 320) i => (a <<< 32) ||| (Config.freeWord (k + 1 + i)).setWidth 320) 0).toInt,
    bitAt w 0, bitAt w 1, bitAt w 2, bitAt w 3, bitAt w 4⟩

/-- Exact sum of FP32 element i of entry e. -/
def Cluster.sorElem (c : Cluster) (e i : Nat) : SorAcc :=
  match c.sacc.find? (fun p => p.1 == e * 512 + i) with
  | some p => p.2
  | none => SorAcc.empty
/-- Set it. -/
def Cluster.putSor (c : Cluster) (e i : Nat) (a : SorAcc) : Cluster :=
  { c with sacc := (e * 512 + i, a) :: c.sacc.filter (fun p => p.1 != e * 512 + i) }

/-- Bytes of an element in the area (R344). -/
def Cluster.sorWidth (c : Cluster) (e : Nat) : Nat := if c.sorusInt e then 4 else 40
/-- Lines of the area that n elements from lo touch. -/
def Cluster.sorLines (c : Cluster) (e lo n : Nat) : List Nat :=
  (List.range (cdiv (c.sorWidth e * (lo + n)) 64)).drop (c.sorWidth e * lo / 64)

/-- Lose the FP32 sums that lie in the uncorrectable words of line i of the area. -/
def Cluster.loseSums (c : Cluster) (e i : Nat) (ue : List Nat) : Cluster :=
  if c.sorusInt e then c
  else c.each ue (fun c w =>
    let k := c.freeCtr
    ({ c with freeCtr := k + 11 }).putSor e ((8 * i + w) / 5) (SorAcc.lost k))

/-- Element i of a contribution. -/
def sorX (data : List Byte) (i : Nat) : W32 := BitVec.ofNat 32 (leNat ((data.drop (16 + 4 * i)).take 4))

/-- An INT32 line with the elements of a contribution added modulo 2^32 (R346). -/
def sorLineInt (bs data : List Byte) (i lo n : Nat) : List Byte :=
  (List.range 16).flatMap (fun m =>
    let k := 16 * i + m
    let v : W32 := BitVec.ofNat 32 (leNat ((bs.drop (4 * m)).take 4))
    leBytes 4 (if lo ≤ k && decide (k < lo + n) then v + sorX data (k - lo) else v).toNat)

/-- An FP32 line after an addition: the bytes of the elements added to are free, since their layout is not given. -/
def sorLineFp (k : Nat) (bs : List Byte) (i lo n : Nat) : List Byte :=
  bs.zipIdx.map (fun b => if 40 * lo ≤ 64 * i + b.2 && decide (64 * i + b.2 < 40 * (lo + n)) then Config.freeByte (k + b.2) else b.1)

/-- Line i of the area as a contribution leaves it (R345). -/
def Cluster.sorLine (c : Cluster) (e lo n : Nat) (data : List Byte) (i : Nat) (bs : List Byte) : List Byte × Cluster :=
  if c.sorusInt e then (sorLineInt bs data i lo n, c)
  else (sorLineFp c.freeCtr bs i lo n, { c with freeCtr := c.freeCtr + 64 })

/-- The lines that a contribution adds to have been read: they are written back with it (R345, R346). -/
def Cluster.sorusReadDone (c : Cluster) (id i : Nat) (lines : List (Nat × List Byte)) : Cluster :=
  match vat c.store i none with
  | none => c
  | some sp =>
    if sp.grp ≠ some id then c
    else
      let e := sDring sp.hdr % 512
      let one : List BReq × Cluster → Nat × List Byte → List BReq × Cluster := fun p l =>
        let r := p.2.sorLine e (sElemOff sp.hdr) (sNelc sp.hdr) sp.data l.1 l.2
        (p.1 ++ [lineReq l.1 (c.areaLine e l.1 / 64) (some r.1)], r.2)
      let p := lines.foldl one ([], c)
      ({ p.2 with store := vset p.2.store i (some { sp with grp := some p.2.spd.nextGrp }) }).addGroup 1 0 (.sorusWrite i) p.1

/-- The result record of an entry whose area holds bytes bs (R342, R346, R347). -/
def Cluster.sorRecord (c : Cluster) (e : Nat) (bs : List Byte) : List Byte :=
  let nel := c.sorusNel e
  let r := c.sorusRing e
  let cl := c.straps.toNat
  let h : BitVec 128 := BitVec.ofNat 128 ((Sparse.get c.sround e).toNat <<< 112 + cl <<< 106 + (nel - 1) <<< 85 + cl <<< 58
    + (ringCore (c.ringD r)) <<< 55 + r <<< 42 + (c.sorusTag e) <<< 26 + (c.sorusOwner e) <<< 15 + 3 <<< 12)
  hdrBytes h ++ (if c.sorusInt e then bs.take (4 * nel) else (List.range nel).flatMap (fun i => leBytes 4 (c.sorElem e i).outF.toNat))

/-- Release a round: the area is read, and the result waits to be placed (R347). -/
def Cluster.sorRelease (c : Cluster) (e : Nat) : Cluster :=
  ({ c with sorRes := c.sorRes ++ [(⟨e, [], c.tk + c.dictAt 0x2700 1, some c.spd.nextGrp⟩ : SorRes)] }).addGroup 1 0 (.sorusOut e)
    ((List.range (c.areaLen e)).map (fun i => lineReq i (c.areaLine e i / 64) none))

/-- The area of a release has been read: the record is formed. The bytes of its last slot beyond the elements are free
(R342, R346, R347). -/
def Cluster.sorusOutDone (c : Cluster) (id e : Nat) (bs : List Byte) : Cluster :=
  let r := c.sorRecord e bs
  let f := c.freeBs ((64 - r.length % 64) % 64)
  { f.2 with sorRes := f.2.sorRes.map (fun x => if x.e = e && x.grp == some id then { x with rec_ := r ++ f.1, grp := none } else x) }

/-- Count a contribution; the one that reaches EXPECT releases the round (R345, R347). -/
def Cluster.sorCount (c : Cluster) (e : Nat) : Cluster :=
  let n := (Sparse.get c.scount e).toNat + 1
  let c := { c with scount := Sparse.set c.scount e (BitVec.ofNat 16 n) }
  if n = c.sorusExpect e then c.sorRelease e else c

/-- The last element of a contribution is added: it is counted, and the sender answered (R345, R346). -/
def Cluster.sorusWriteDone (c : Cluster) (id i : Nat) : Cluster :=
  match vat c.store i none with
  | none => c
  | some sp =>
    if sp.grp ≠ some id then c
    else
      let e := sDring sp.hdr % 512
      let lo := sElemOff sp.hdr
      let c := if c.sorusInt e then c
        else c.each (List.range (sNelc sp.hdr)) (fun c k => c.putSor e (lo + k) ((c.sorElem e (lo + k)).addF (sorX sp.data k)))
      ((c.sporeGone i).sorCount e).reply sp.lane sp.req 7 0 0 []

/-- Is a contribution being added to entry e? -/
def Cluster.adding (c : Cluster) (e : Nat) : Bool :=
  (c.waiting true e).any (fun i => match vat c.store i none with
    | some sp => sp.grp.isSome
    | none => false)

/-- SORUS_ADD: the first contribution that waits for an entry is added, unless a result waits (R345, R347). -/
def sorusAddC (c : Cluster) (e : Nat) : Cluster :=
  if !c.live || c.adding e || c.sorRes.any (fun r => r.e == e) then c
  else
    match (c.waiting true e).head? with
    | none => c
    | some i =>
      match vat c.store i none with
      | none => c
      | some sp => c.withTab (c.sorusKeys e) fun c =>
        ({ c with store := vset c.store i (some { sp with grp := some c.spd.nextGrp }) }).addGroup 1 0 (.sorusRead i)
          ((c.sorLines e (sElemOff sp.hdr) (sNelc sp.hdr)).map (fun k => lineReq k (c.areaLine e k / 64) none))
def execSorusAdd (e : SorusId) (s : State) : Host.Outcome State Fault Refusal := done s (sorusAddC s.cl e.val)

/-- Re-arm an entry after its round: the area is cleared, COUNT is 0, ROUND rises (R347). -/
def Cluster.sorRearm (c : Cluster) (e : Nat) : Cluster :=
  let c := c.clearArea e
  { c with scount := Sparse.set c.scount e 0, sround := Sparse.set c.sround e (Sparse.get c.sround e + 1),
           sorRes := c.sorRes.filter (fun r => r.e != e) }

/-- The result that waits to be placed for entry e, and that nothing reads or places. -/
def Cluster.resultOf (c : Cluster) (e : Nat) : Option SorRes := c.sorRes.find? (fun r => r.e == e && r.grp.isNone)

/-- A result is written in its ring (R347). -/
def Cluster.placeSorusDone (c : Cluster) (id e r n pad : Nat) : Cluster :=
  if c.sorRes.any (fun x => x.e == e && x.grp == some id) then ((c.produce r n pad).sorRearm e).recvCheck r else c

/-- SORUS_RESULT_PLACE (R347): the record goes to its slots, if it fits. -/
def sorusResultPlaceC (c : Cluster) (e : Nat) : Cluster :=
  match c.resultOf e with
  | none => c
  | some res =>
    if !c.live then c else c.withTab (c.sorusKeys e ++ c.ringKeys (c.sorusRing e)) fun c =>
    let r := c.sorusRing e
    let n := cdiv res.rec_.length 64
    if ringValid (c.ringD r) && !c.placing r then
      match c.ringFit r n with
      | none => c
      | some pad => ({ c with sorRes := c.sorRes.map (fun (x : SorRes) => if x.e = e then { x with grp := some c.spd.nextGrp } else x) }).addGroup
          1 0 (.placeSorus e r n pad) (c.placeReqs r n pad res.rec_)
    else c
def execSorusResultPlace (e : SorusId) (s : State) : Host.Outcome State Fault Refusal := done s (sorusResultPlaceC s.cl e.val)

/-- SORUS_RESULT_TIMEOUT: a result that nothing places yet is discarded, the entry re-arms, MSG_SORUS_DROP is raised
(R347). -/
def sorusResultTimeoutC (c : Cluster) (e : Nat) : Cluster :=
  match c.resultOf e with
  | none => c
  | some res =>
    if c.live && decide (res.due ≤ c.tk) then
      ((c.sorRearm e).bump (rMsg + 0x230) (rMsg + 0x240) 6 1).raise 0x1C 0 (c.sorusOwner e)
    else c
def execSorusResultTimeout (e : SorusId) (s : State) : Host.Outcome State Fault Refusal := done s (sorusResultTimeoutC s.cl e.val)

end Sys2Proof.Machine
end

