-- ==== Sys2Proof/Machine/Walker.lean ====
section
/-! DEFINITION. The issue walker of a control core, and the stops of R278 (R253 to R266, R274 to R278). Log entries of
its readings and choices: 7 DESIGN CHOICE, 10 DESIGN CHOICE, 11 DESIGN CHOICE, 30 DEDUCED, 37 DESIGN CHOICE, 38
DEDUCED, 40 DEDUCED, 63 DEDUCED. -/

namespace Sys2Proof.Machine

/-- Do the control cores of the running or dispatching lining run in this cycle (R273, R475)? -/
def Cluster.coresRun (c : Cluster) : Bool := c.ready && c.run.isSome && !c.debugHeld

/-- Is control core n active in a lining (CORE_STATE.RUN)? -/
def Core.active (x : Core) : Bool := (x.walkRun || x.codeRun) && !x.stopped

/-- The record of a stop: COUNT always rises; the rest latches while VALID is clear (R278). -/
def stopRecord (w : W64) (kind pc lcc : Nat) : W64 :=
  let n := satN 0xFF (fld w 60 53 + 1)
  if bitAt w 63 then setFld w 60 53 n
  else placeB true 63 ||| place kind 61 ||| place n 53 ||| place (pc % 65536) 37 ||| place (lcc % 2 ^ 32) 0

/-- A control core stops (R278): record, count against the fence threshold, reload, containment to the lining. -/
def Cluster.coreStop (c : Cluster) (n kind src : Nat) : Cluster :=
  let x := c.core n
  let a := rCore n + 0x30
  let pc := if x.mode = 2 then x.pc else x.widx
  let c := c.setReg a (stopRecord (c.regAt a) kind pc c.lcc)
  let c := c.setCore n { x with stopped := true, walkRun := false, codeRun := false, wwait := 11, reloadI := true,
                                reloadD := x.reloadD || kind == 1 }
  let c := if c.dictAt 0x2300 0x10 ≤ fld (c.regAt a) 60 53 then c.pendCore n else c
  c.raiseLining src n

/-- An armed lockstep compare of an active core (R432). -/
def Cluster.lockstepArmed (c : Cluster) (n : Nat) : Bool := c.armedAt 0x26 n && (c.core n).active && c.coresRun

/-- A forced lockstep disagreement (R278, R432). -/
def Cluster.lockstepStop (c : Cluster) (n : Nat) : Cluster := (c.disarm 0x26).coreStop n 0 0x26

/-- Instruction memory of core n: little-endian number of len bytes. -/
def Cluster.imemAt (c : Cluster) (n a len : Nat) : Nat := leNat (Memory.bytes c.imem (n * 65536 + a) len)

/-- Stored words in error among len bytes of a control core's memory from a. -/
def errWords (err : Sparse 64) (n a len : Nat) : List (Nat × W64) :=
  let k := n * 65536 + a
  err.filter (fun kv => decide (k < kv.1 + 8) && decide (kv.1 < k + len))

/-- Does an uncorrectable word stand among stored words in error? -/
def anyUe (bad : List (Nat × W64)) : Bool := bad.any (fun kv => decide (2 ≤ popcount 64 kv.2.toNat))

/-- Core n reads pieces of its instruction memory and does f: a corrected word raises CORE_MEM_CE, an uncorrectable one
stops the core instead (R277, R278). -/
def Cluster.withImem (c : Cluster) (n : Nat) (parts : List (Nat × Nat)) (f : Cluster → Cluster) : Cluster :=
  let bad := parts.flatMap (fun p => errWords c.imemErr n p.1 p.2)
  let d := (c.core n).reloadD
  if anyUe bad then
    let c := c.coreStop n 1 0x25
    c.setCore n { c.core n with reloadD := d }
  else f (c.each bad (fun c _ => c.raise0 0x24 n))

/-- The walk entry of core n (R261). -/
def Cluster.walkEntry (c : Cluster) (n : Nat) : Nat := c.imemAt n ((c.core n).walk + 4 * (c.core n).widx) 4

/-- Read data memory: a corrected word raises CORE_MEM_CE; the flag tells of an uncorrectable one (R277, R278). -/
def Cluster.dmemRead (c : Cluster) (n a len : Nat) : List Byte × Cluster × Bool :=
  let bad := errWords c.dmemErr n a len
  let c := if anyUe bad then c else c.each bad (fun c _ => c.raise0 0x24 n)
  (Memory.bytes c.dmem (n * 65536 + a) len, c, anyUe bad)

/-- Pieces of instruction memory that walk entry e of core n reads: itself, its template, and its delta entry (R260 to
R262, R266). -/
def Core.walkParts (x : Core) (e : Nat) : List (Nat × Nat) :=
  let tmpl := (x.tmpl + 32 * (e / 2 ^ 13 % 2048), 32)
  (x.walk + 4 * x.widx, 4) :: (match e / 2 ^ 28 with
    | 0 => if e / 32 % 256 = 0 then [tmpl] else [tmpl, (x.delta + 32 * (e / 32 % 256), 32)]
    | 6 => [tmpl]
    | _ => [])

/-- A walk entry of a kind performed by core n, in a CK_C cycle in which the walker is not stalled but for a cause
named in `waits`; a disagreement of the halves stops the core first (R255, R263, R278). -/
def Cluster.walkStep (c : Cluster) (n kind : Nat) (waits : List Nat) (f : Cluster → Nat → Cluster) : Cluster :=
  let x := c.core n
  if c.lockstepArmed n then c.lockstepStop n
  else if c.coresRun && x.walkRun && !x.stopped && waits.contains x.wwait && c.walkEntry n / 2 ^ 28 == kind then
    c.withImem n (x.walkParts (c.walkEntry n)) (fun c => f c (c.walkEntry n))
  else c

/-- Go on to the next walk entry. -/
def Core.walkNext (x : Core) : Core := { x with widx := x.widx + 1, wwait := 0 }

/-- Index of loop k while it is open (R262). -/
def Core.loopIdx (x : Core) (k : Nat) : Nat :=
  let l := vat x.loops k Loop.reset
  if l.opn then l.idx else 0

/-- A delta entry; entry 0 is all zero (R262). -/
def Cluster.deltaEntry (c : Cluster) (n d : Nat) : BitVec 256 :=
  if d = 0 then 0 else BitVec.ofNat 256 (c.imemAt n ((c.core n).delta + 32 * d) 32)

/-- Sum of the loop indices times a delta entry's SSTEP values. -/
def Core.sstep (x : Core) (d : BitVec 256) : Int :=
  ((List.range 4).map (fun k => (x.loopIdx k : Int) * sextN 32 (fld d (159 + 32 * k) (128 + 32 * k)))).foldl (· + ·) 0

/-- Sum of the loop indices times a delta entry's FSTEP values. -/
def Core.fstep (x : Core) (d : BitVec 256) : Int :=
  ((List.range 4).map (fun k => (x.loopIdx k : Int) * sextN 24 (fld d (23 + 24 * k) (24 * k)))).foldl (· + ·) 0

/-- A template as an ISSUE writes it (R262). -/
def Core.patch (x : Core) (t d : BitVec 256) : MacroOp :=
  let t1 := setFld t 223 192 (((fld t 223 192 : Nat) + x.sstep d) % 2 ^ 32).toNat
  let flo := fld d 127 120
  let fw := fld d 119 114
  if fw = 0 then t1
  else setFld t1 (flo + fw - 1) flo (((fld t (flo + fw - 1) flo : Nat) + x.fstep d) % (2 ^ fw : Int)).toNat

/-- Engine queue of a QSEL of core n (R261). -/
def qOfSel (n sel : Nat) : Nat := if sel < 6 then 6 * n + sel else 48 + (sel - 6) % 4

/-- End a WDRAIN that waits for no more credit or the end of the walk (R268). -/
def Cluster.wdrainCheck (c : Cluster) (n : Nat) : Cluster :=
  let x := c.core n
  match x.stall with
  | .wdrain => if x.credit = 0 || x.wwait = 10 then c.setCore n x.adv else c
  | _ => c

/-- Write the patched template of an ISSUE entry to its queue, visible QUEUE_VIS later (R256, R261, R262). -/
def Cluster.issueOp (c : Cluster) (n e : Nat) : Cluster :=
  let x := c.core n
  let q := qOfSel n (e / 2 ^ 24 % 16)
  let qe := c.queue q
  if x.mode = 2 && x.credit = 0 then c.setCore n { x with wwait := 9 }
  else if qe.full c.clk.free then c.setCore n { x with wwait := 1 }
  else
    let t : BitVec 256 := BitVec.ofNat 256 (c.imemAt n (x.tmpl + 32 * (e / 2 ^ 13 % 2048)) 32)
    let op := x.patch t (c.deltaEntry n (e / 32 % 256))
    let c := c.setQueue q { qe with ents := qe.ents ++ [⟨op, c.clk.free / 2 * 2 + 1 + c.floor 11⟩] }
    (c.setCore n { x.walkNext with credit := x.credit - 1 }).wdrainCheck n

/-- ISSUE (R261); a reserved QSEL, 10 to 15, is no ISSUE. -/
def issueC (c : Cluster) (n : Nat) : Cluster :=
  c.walkStep n 0 [0, 9] (fun c e => if 10 ≤ e / 2 ^ 24 % 16 then c else c.issueOp n e)
def execIssue (n : CoreId) (s : State) : Host.Outcome State Fault Refusal := done s (issueC s.cl n.val)

/-- WALKER_QFULL_RESUME: an entry of the full queue has been freed, and a CK_C cycle has begun since (R257, R258). -/
def walkerQfullResumeC (c : Cluster) (n : Nat) : Cluster :=
  c.walkStep n 0 [1] (fun c e =>
    if (c.queue (qOfSel n (e / 2 ^ 24 % 16))).full c.clk.free then c else c.setCore n { c.core n with wwait := 0 })
def execWalkerQfullResume (n : CoreId) (s : State) : Host.Outcome State Fault Refusal := done s (walkerQfullResumeC s.cl n.val)

/-- LOOP (R261). -/
def loopC (c : Cluster) (n : Nat) : Cluster :=
  c.walkStep n 1 [0] (fun c e =>
    let x := c.core n
    c.setCore n { x.walkNext with loops := vset x.loops (e / 2 ^ 26 % 4) ⟨true, 0, e % 65536 + 1, x.widx + 1⟩ })
def execLoop (n : CoreId) (s : State) : Host.Outcome State Fault Refusal := done s (loopC s.cl n.val)

/-- ENDL (R261). -/
def endlC (c : Cluster) (n : Nat) : Cluster :=
  c.walkStep n 2 [0] (fun c e =>
    let x := c.core n
    let k := e / 2 ^ 26 % 4
    let l := vat x.loops k Loop.reset
    if l.idx + 1 < l.cnt then c.setCore n { x with loops := vset x.loops k { l with idx := l.idx + 1 }, widx := l.at_ }
    else c.setCore n { x.walkNext with loops := vset x.loops k Loop.reset })
def execEndl (n : CoreId) (s : State) : Host.Outcome State Fault Refusal := done s (endlC s.cl n.val)

/-- Source of a comparator: LCC, or tk since LCC 0; 0 until LCC 0 has executed (R264). -/
def Cluster.compSource (c : Cluster) (src : Nat) : Nat :=
  match c.run with
  | some r => if !r.begun then 0 else if src = 0 then c.lcc % 2 ^ 32 else (c.tb.value - r.tb0).toNat % 2 ^ 32
  | none => 0

/-- Is comparator k of core n true (R264)? -/
def Cluster.compTrue (c : Cluster) (n k : Nat) : Bool :=
  let w := c.regAt (rCore n + 0x100 + 8 * k)
  let base := (((fld w 31 0 : Nat) + (c.core n).sstep (c.deltaEntry n (fld w 61 54))) % 2 ^ 32).toNat
  decide (base ≤ c.compSource (fld w 63 62))

/-- Core n evaluates comparator k: the comparator is read as a table word, its delta entry from instruction memory (R264,
R277, R278, R416). -/
def Cluster.withComp (c : Cluster) (n k : Nat) (f : Cluster → Cluster) : Cluster :=
  c.withTab [rCore n + 0x100 + 8 * k] fun c =>
    let d := fld (c.regAt (rCore n + 0x100 + 8 * k)) 61 54
    c.withImem n (if d = 0 then [] else [((c.core n).delta + 32 * d, 32)]) f

/-- WAITK (R264). -/
def waitkC (c : Cluster) (n : Nat) : Cluster :=
  c.walkStep n 3 [0] (fun c e => c.withComp n (e / 2 ^ 25 % 8) fun c =>
    if c.compTrue n (e / 2 ^ 25 % 8) then c.setCore n (c.core n).walkNext else c.setCore n { c.core n with wwait := 7 })
def execWaitk (n : CoreId) (s : State) : Host.Outcome State Fault Refusal := done s (waitkC s.cl n.val)

/-- WAITK_RELEASE: the comparator has become true (R264). -/
def waitkReleaseC (c : Cluster) (n : Nat) : Cluster :=
  c.walkStep n 3 [7] (fun c e => c.withComp n (e / 2 ^ 25 % 8) fun c =>
    if c.compTrue n (e / 2 ^ 25 % 8) then c.setCore n (c.core n).walkNext else c)
def execWaitkRelease (n : CoreId) (s : State) : Host.Outcome State Fault Refusal := done s (waitkReleaseC s.cl n.val)

/-- Continue a walk at an index. -/
def Core.walkTo (x : Core) (i : Nat) : Core := { x with widx := i, wwait := 0 }

/-- The head segment record of a core, if it is readable: from the cycle that executes its LCC value on (R274). -/
def Cluster.segHead (c : Cluster) (n : Nat) : Option SegRec :=
  match (c.core n).segq with
  | r :: _ => if r.at_ < c.lcc || (r.at_ == c.lcc && !c.heldNow) then some r else none
  | [] => none

/-- What a SEL of a branch region does: it pops a record of its region, takes alternative 0 where the head names
another region, and stalls on an empty queue (R274), unless its record was discarded (R275). -/
def Cluster.selBranch (c : Cluster) (n tab base : Nat) : Cluster :=
  let x := c.core n
  match c.segHead n with
  | none =>
    if x.segLost.contains tab then c.setCore n { x.walkTo base with segLost := x.segLost.erase tab }
    else c.setCore n { x with wwait := 2 }
  | some r =>
    if r.tab = tab then c.setCore n { x.walkTo (base + r.alt) with segq := x.segq.drop 1 }
    else c.setCore n { x.walkTo base with segLost := x.segLost.erase tab }

/-- What a SEL does: a variant region continues at the variant in force and pops nothing (R375). -/
def Cluster.doSel (c : Cluster) (n e : Nat) : Cluster :=
  let tab := e / 2 ^ 16 % 4096
  let base := e % 4096
  let p := c.segEntry tab
  match p.1 with
  | none => p.2
  | some s =>
    if segVar s then p.2.setCore n ((p.2.core n).walkTo (base + (p.2.ctx (segCtx s)).var)) else p.2.selBranch n tab base

/-- SEL (R274, R375). -/
def selC (c : Cluster) (n : Nat) : Cluster := c.walkStep n 4 [0] (fun c e => c.doSel n e)
def execSel (n : CoreId) (s : State) : Host.Outcome State Fault Refusal := done s (selC s.cl n.val)

/-- SEL_RESUME: a record has become readable, or is known to be discarded (R274, R275). -/
def selResumeC (c : Cluster) (n : Nat) : Cluster :=
  c.walkStep n 4 [2] (fun c e =>
    if (c.segHead n).isSome || (c.core n).segLost.contains (e / 2 ^ 16 % 4096) then c.doSel n e else c)
def execSelResume (n : CoreId) (s : State) : Host.Outcome State Fault Refusal := done s (selResumeC s.cl n.val)

/-- JMP (R261). -/
def jmpC (c : Cluster) (n : Nat) : Cluster := c.walkStep n 5 [0] (fun c e => c.setCore n ((c.core n).walkTo (e % 4096)))
def execJmp (n : CoreId) (s : State) : Host.Outcome State Fault Refusal := done s (jmpC s.cl n.val)

/-- Raise SYN_ACCESS for an own-form VID that does not translate (R360). -/
def Cluster.synAccess (c : Cluster) (n ctx : Nat) : Cluster := c.raise 0x1E n ctx

/-- Put a cross-form signal into a free signal slot of core n; none free, none taken (R361). -/
def Cluster.takeSigSlot (c : Cluster) (n target kind : Nat) (operand : W32) (ctx : Nat) : Option Cluster :=
  let x := c.core n
  match findIdxN (fun s => s.isNone) x.sig.toList with
  | none => none
  | some i =>
    let g : SigSlot := { dcl := target / 2 ^ 24 % 64, dctx := target / 2 ^ 16 % 64, vid := target % 65536, kind := kind,
                         operand := operand, ctx := ctx, sent := false, due := 0, busy := none, seq := c.nextOrd }
    some { c.setCore n { x with sig := vset x.sig i (some g) } with nextOrd := c.nextOrd + 1 }

/-- A signal of a sync record; with no free slot the walker stalls (R355, R360, R361). -/
def Cluster.recSignal (c : Cluster) (n ctx kind target : Nat) (operand : W32) : Cluster :=
  if target.testBit 31 then
    match c.takeSigSlot n target kind operand ctx with
    | some c => c.setCore n (c.core n).walkNext
    | none => c.setCore n { c.core n with wwait := 3 }
  else
    let p := c.vid ctx (target % 65536)
    match p.2 with
    | none => (p.1.setCore n (p.1.core n).walkNext).synAccess n ctx
    | some e =>
      (p.1.setCore n (p.1.core n).walkNext).syncPost (xWord e) ctx (1 + n) (.signal kind operand ctx c.straps.toNat n) none

/-- A wait of a sync record: the walker stalls until it completes or expires (R266, R360). -/
def Cluster.recWait (c : Cluster) (n ctx kind target : Nat) (operand : W32) (timeout : Nat) : Cluster :=
  let p := c.vid ctx (target % 65536)
  match p.2 with
  | none => (p.1.setCore n (p.1.core n).walkNext).synAccess n ctx
  | some e => (p.1.setCore n { p.1.core n with wwait := 3 }).doWait n
      ⟨false, 0, xWord e, target % 65536, kind, operand, ctx, true, 0, 0, 0⟩ timeout

/-- What a SYNC entry does; a record of a torn-down context does nothing (R266, R272). -/
def Cluster.doSyncRec (c : Cluster) (n e : Nat) : Cluster :=
  let t : BitVec 256 := BitVec.ofNat 256 (c.imemAt n ((c.core n).tmpl + 32 * (e / 2 ^ 13 % 2048)) 32)
  let ctx := fld t 247 242
  let v : W32 := BitVec.ofNat 32 (fld t 223 192)
  if c.tornSeen ctx then c.setCore n (c.core n).walkNext
  else if bitAt t 238 then c.recSignal n ctx (fld t 241 239 % 4) (fld t 159 128) v
  else c.recWait n ctx (fld t 241 239 % 4) (fld t 159 128) v (fld t 191 160)

/-- SYNC entry (R266); one that found no signal slot free is tried again (R361). -/
def syncRecC (c : Cluster) (n : Nat) : Cluster :=
  c.walkStep n 6 [0, 3] (fun c e => if (vat c.waiters n none).isSome then c else c.doSyncRec n e)
def execSyncRec (n : CoreId) (s : State) : Host.Outcome State Fault Refusal := done s (syncRecC s.cl n.val)

/-- END: the walk of this lining is complete (R261, R276). -/
def endWalkC (c : Cluster) (n : Nat) : Cluster :=
  c.walkStep n 15 [0] (fun c _ => (c.setCore n { c.core n with walkRun := false, wwait := 10 }).wdrainCheck n)
def execEndWalk (n : CoreId) (s : State) : Host.Outcome State Fault Refusal := done s (endWalkC s.cl n.val)

end Sys2Proof.Machine
end

