-- ==== Sys2Proof/Machine/Scalar.lean ====
section
/-! DEFINITION. The scalar core: integer instructions, branches, memory, handles, services and time (R267 to R273,
R288, R329, R343, R355, R356). Log entries of its readings and choices: 3 DESIGN CHOICE, 7 DESIGN CHOICE, 10 DESIGN
CHOICE, 11 DESIGN CHOICE, 13 DEDUCED, 34 DESIGN CHOICE, 35 DESIGN CHOICE, 36 DEDUCED, 37 DESIGN CHOICE, 38 DEDUCED, 39
DEDUCED, 60 DEDUCED, 61 DEDUCED, 84 DEDUCED. -/

namespace Sys2Proof.Machine

/-- Fields of a scalar instruction word (R268). -/
def sMaj (w : Nat) : Nat := w / 2 ^ 26 % 64
def sRd (w : Nat) : Nat := w / 2 ^ 21 % 32
def sRa (w : Nat) : Nat := w / 2 ^ 16 % 32
def sRb (w : Nat) : Nat := w / 2 ^ 11 % 32
def sFn (w : Nat) : Nat := w % 2 ^ 11
def sRs (w : Nat) : Nat := w / 2 ^ 6 % 32
def sMode (w : Nat) : Nat := w / 8 % 8
def sSub (w : Nat) : Nat := w % 8
/-- imm16, sign-extended to 64 bits. -/
def sImm (w : Nat) : W64 := BitVec.ofInt 64 (sextN 16 (w % 2 ^ 16))

/-- Does a word hold a major code, with a function number in [10:0], or a sub-code in [2:0]? -/
def isMaj (m w : Nat) : Bool := sMaj w == m
def isFn (m fn w : Nat) : Bool := sMaj w == m && sFn w == fn
def isSub (m sub w : Nat) : Bool := sMaj w == m && sSub w == sub
def isSvc (m sub mode w : Nat) : Bool := sMaj w == m && sSub w == sub && sMode w == mode

/-- Instruction word at the program counter of core n. -/
def Cluster.word (c : Cluster) (n : Nat) : Nat := c.imemAt n (c.core n).pc 4

/-- Does the program counter lie in the code region (R278)? -/
def Core.inCode (x : Core) : Bool := decide (x.codeLo ≤ x.pc) && decide (x.pc + 4 ≤ x.codeHi)

/-- Does a stall let the core try its instruction again: none, or no slot was free (R329, R361)? -/
def Stall.retries (s : Stall) : Bool :=
  match s with
  | .none => true
  | .slotWait _ => true
  | _ => false

/-- Is the scalar core of core n ready for its next instruction? -/
def Cluster.scalarReady (c : Cluster) (n : Nat) : Bool :=
  let x := c.core n
  c.coresRun && x.mode == 2 && x.codeRun && !x.stopped && x.stall.retries && (vat c.waiters n none).isNone

/-- One instruction of core n whose word has a form: a disagreement of the halves, or a fetch outside the code region,
stops the core instead (R268, R278). -/
def Cluster.scal (c : Cluster) (n : Nat) (form : Nat → Bool) (f : Cluster → Core → Nat → Cluster) : Cluster :=
  if c.lockstepArmed n then c.lockstepStop n
  else if !c.scalarReady n then c
  else if !(c.core n).inCode then c.coreStop n 2 0x27
  else if form (c.word n) then c.withImem n [((c.core n).pc, 4)] (fun c => f c (c.core n) (c.word n))
  else c

/-- An instruction that writes one register from the core's own registers. -/
def Cluster.alu (c : Cluster) (n : Nat) (form : Nat → Bool) (f : Core → Nat → W64) : Cluster :=
  c.scal n form (fun c x w => c.setCore n (x.setS (sRd w) (f x w)).adv)

/-- A register-form ALU instruction on ra and rb. -/
def Cluster.aluRR (c : Cluster) (n fn : Nat) (f : W64 → W64 → W64) : Cluster :=
  c.alu n (isFn 0 fn) (fun x w => f (x.s (sRa w)) (x.s (sRb w)))

/-- ADD (R268). -/
def addC (c : Cluster) (n : Nat) : Cluster := c.aluRR n 0 (· + ·)
def execAdd (n : CoreId) (s : State) : Host.Outcome State Fault Refusal := done s (addC s.cl n.val)
/-- SUB (R268). -/
def subC (c : Cluster) (n : Nat) : Cluster := c.aluRR n 1 (· - ·)
def execSub (n : CoreId) (s : State) : Host.Outcome State Fault Refusal := done s (subC s.cl n.val)
/-- AND (R268). -/
def andRC (c : Cluster) (n : Nat) : Cluster := c.aluRR n 2 (· &&& ·)
def execAndR (n : CoreId) (s : State) : Host.Outcome State Fault Refusal := done s (andRC s.cl n.val)
/-- OR (R268). -/
def orRC (c : Cluster) (n : Nat) : Cluster := c.aluRR n 3 (· ||| ·)
def execOrR (n : CoreId) (s : State) : Host.Outcome State Fault Refusal := done s (orRC s.cl n.val)
/-- XOR (R268). -/
def xorRC (c : Cluster) (n : Nat) : Cluster := c.aluRR n 4 (· ^^^ ·)
def execXorR (n : CoreId) (s : State) : Host.Outcome State Fault Refusal := done s (xorRC s.cl n.val)

/-- A free 64-bit value. -/
def Cluster.freeD (c : Cluster) : W64 × Cluster :=
  let a := c.freeW
  let b := a.2.freeW
  (a.1 ++ b.1, b.2)

/-- A shift by a register: an amount of 64 or more gives a value the manual does not state, a free value. -/
def Cluster.shiftRR (c : Cluster) (n fn : Nat) (f : W64 → Nat → W64) : Cluster :=
  c.scal n (isFn 0 fn) (fun c x w =>
    let k := (x.s (sRb w)).toNat
    if k < 64 then c.setCore n (x.setS (sRd w) (f (x.s (sRa w)) k)).adv
    else
      let v := c.freeD
      v.2.setCore n (x.setS (sRd w) v.1).adv)

/-- SHL (R268). -/
def shlC (c : Cluster) (n : Nat) : Cluster := c.shiftRR n 5 (fun a k => a <<< k)
def execShl (n : CoreId) (s : State) : Host.Outcome State Fault Refusal := done s (shlC s.cl n.val)
/-- SHR (R268). -/
def shrC (c : Cluster) (n : Nat) : Cluster := c.shiftRR n 6 (fun a k => a >>> k)
def execShr (n : CoreId) (s : State) : Host.Outcome State Fault Refusal := done s (shrC s.cl n.val)
/-- SHRA (R268). -/
def shraC (c : Cluster) (n : Nat) : Cluster := c.shiftRR n 7 (fun a k => a.sshiftRight k)
def execShra (n : CoreId) (s : State) : Host.Outcome State Fault Refusal := done s (shraC s.cl n.val)
/-- MUL (R268). -/
def mulC (c : Cluster) (n : Nat) : Cluster := c.aluRR n 8 (· * ·)
def execMul (n : CoreId) (s : State) : Host.Outcome State Fault Refusal := done s (mulC s.cl n.val)
/-- MULHU: upper half of the unsigned product (R268). -/
def mulhuC (c : Cluster) (n : Nat) : Cluster := c.aluRR n 9 (fun a b => BitVec.ofNat 64 (a.toNat * b.toNat / 2 ^ 64))
def execMulhu (n : CoreId) (s : State) : Host.Outcome State Fault Refusal := done s (mulhuC s.cl n.val)
/-- MULHS: upper half of the signed product (R268). -/
def mulhsC (c : Cluster) (n : Nat) : Cluster := c.aluRR n 10 (fun a b => BitVec.ofInt 64 (a.toInt * b.toInt / 2 ^ 64))
def execMulhs (n : CoreId) (s : State) : Host.Outcome State Fault Refusal := done s (mulhsC s.cl n.val)
/-- MIN, signed (R268). -/
def minSC (c : Cluster) (n : Nat) : Cluster := c.aluRR n 11 (fun a b => if a.toInt ≤ b.toInt then a else b)
def execMinS (n : CoreId) (s : State) : Host.Outcome State Fault Refusal := done s (minSC s.cl n.val)
/-- MAX, signed (R268). -/
def maxSC (c : Cluster) (n : Nat) : Cluster := c.aluRR n 12 (fun a b => if a.toInt ≤ b.toInt then b else a)
def execMaxS (n : CoreId) (s : State) : Host.Outcome State Fault Refusal := done s (maxSC s.cl n.val)
/-- MINU (R268). -/
def minUC (c : Cluster) (n : Nat) : Cluster := c.aluRR n 13 (fun a b => if a.toNat ≤ b.toNat then a else b)
def execMinU (n : CoreId) (s : State) : Host.Outcome State Fault Refusal := done s (minUC s.cl n.val)
/-- MAXU (R268). -/
def maxUC (c : Cluster) (n : Nat) : Cluster := c.aluRR n 14 (fun a b => if a.toNat ≤ b.toNat then b else a)
def execMaxU (n : CoreId) (s : State) : Host.Outcome State Fault Refusal := done s (maxUC s.cl n.val)

/-- An immediate-form ALU instruction. -/
def Cluster.aluImm (c : Cluster) (n maj : Nat) (f : W64 → W64 → W64) : Cluster :=
  c.alu n (isMaj maj) (fun x w => f (x.s (sRa w)) (sImm w))

/-- ADDI (R268). -/
def addiC (c : Cluster) (n : Nat) : Cluster := c.aluImm n 1 (· + ·)
def execAddi (n : CoreId) (s : State) : Host.Outcome State Fault Refusal := done s (addiC s.cl n.val)
/-- ANDI (R268). -/
def andiC (c : Cluster) (n : Nat) : Cluster := c.aluImm n 2 (· &&& ·)
def execAndi (n : CoreId) (s : State) : Host.Outcome State Fault Refusal := done s (andiC s.cl n.val)
/-- ORI (R268). -/
def oriC (c : Cluster) (n : Nat) : Cluster := c.aluImm n 3 (· ||| ·)
def execOri (n : CoreId) (s : State) : Host.Outcome State Fault Refusal := done s (oriC s.cl n.val)
/-- XORI (R268). -/
def xoriC (c : Cluster) (n : Nat) : Cluster := c.aluImm n 4 (· ^^^ ·)
def execXori (n : CoreId) (s : State) : Host.Outcome State Fault Refusal := done s (xoriC s.cl n.val)

/-- An immediate shift of kind imm16[7:6] by imm16[5:0] (R268). -/
def Cluster.shiftImm (c : Cluster) (n kind : Nat) (f : W64 → Nat → W64) : Cluster :=
  c.alu n (fun w => isMaj 5 w && w / 64 % 4 == kind) (fun x w => f (x.s (sRa w)) (w % 64))

/-- SHLI (R268). -/
def shliC (c : Cluster) (n : Nat) : Cluster := c.shiftImm n 0 (fun a k => a <<< k)
def execShli (n : CoreId) (s : State) : Host.Outcome State Fault Refusal := done s (shliC s.cl n.val)
/-- SHRI (R268). -/
def shriC (c : Cluster) (n : Nat) : Cluster := c.shiftImm n 1 (fun a k => a >>> k)
def execShri (n : CoreId) (s : State) : Host.Outcome State Fault Refusal := done s (shriC s.cl n.val)
/-- SHRAI (R268). -/
def shraiC (c : Cluster) (n : Nat) : Cluster := c.shiftImm n 2 (fun a k => a.sshiftRight k)
def execShrai (n : CoreId) (s : State) : Host.Outcome State Fault Refusal := done s (shraiC s.cl n.val)

/-- MOVK: imm16 into bits [16k+15:16k] of rd (R268). -/
def movkC (c : Cluster) (n : Nat) : Cluster :=
  c.alu n (isMaj 6) (fun x w => setFld (x.s (sRd w)) (16 * (sRa w % 4) + 15) (16 * (sRa w % 4)) (w % 2 ^ 16))
def execMovk (n : CoreId) (s : State) : Host.Outcome State Fault Refusal := done s (movkC s.cl n.val)

/-- The conditions of CMP and CMPI (R268). -/
def condHolds (k : Nat) (a b : W64) : Bool :=
  match k with
  | 0 => a == b
  | 1 => a != b
  | 2 => decide (a.toInt < b.toInt)
  | 3 => decide (a.toInt ≤ b.toInt)
  | 4 => decide (a.toNat < b.toNat)
  | 5 => decide (a.toNat ≤ b.toNat)
  | _ => false

/-- Write a predicate. -/
def Core.setP (x : Core) (p : Nat) (b : Bool) : Core := { x with preds := vset x.preds p b }
/-- Read a predicate. -/
def Core.p (x : Core) (p : Nat) : Bool := vat x.preds p false

/-- A compare of ra [22:18] with an operand into pd [25:23] under COND [12:9], 0 to 5 (R268). -/
def Cluster.compare (c : Cluster) (n maj : Nat) (b : Core → Nat → W64) : Cluster :=
  c.scal n (fun w => isMaj maj w && decide (w / 2 ^ 9 % 16 < 6)) (fun c x w =>
    c.setCore n (x.setP (w / 2 ^ 23 % 8) (condHolds (w / 2 ^ 9 % 16) (x.s (w / 2 ^ 18 % 32)) (b x w))).adv)

/-- CMP (R268). -/
def cmpC (c : Cluster) (n : Nat) : Cluster := c.compare n 8 (fun x w => x.s (w / 2 ^ 13 % 32))
def execCmp (n : CoreId) (s : State) : Host.Outcome State Fault Refusal := done s (cmpC s.cl n.val)
/-- CMPI (R268). -/
def cmpiC (c : Cluster) (n : Nat) : Cluster := c.compare n 9 (fun _ w => BitVec.ofInt 64 (sextN 5 (w / 2 ^ 13 % 32)))
def execCmpi (n : CoreId) (s : State) : Host.Outcome State Fault Refusal := done s (cmpiC s.cl n.val)

/-- The predicate operations of PLOG (R268), numbered 0 to 3 as the table lists them. -/
def plogOf (fn : Nat) (a b : Bool) : Bool :=
  match fn with
  | 0 => a && b
  | 1 => a || b
  | 2 => a && !b
  | _ => !a

/-- PLOG (R268). -/
def plogC (c : Cluster) (n : Nat) : Cluster :=
  c.scal n (fun w => isMaj 10 w && decide (sFn w < 4)) (fun c x w =>
    c.setCore n (x.setP (sRd w % 8) (plogOf (sFn w % 4) (x.p (sRa w % 8)) (x.p (sRb w % 8)))).adv)
def execPlog (n : CoreId) (s : State) : Host.Outcome State Fault Refusal := done s (plogC s.cl n.val)

/-- Jump to an address of instruction memory. -/
def Core.jump (x : Core) (a : Nat) : Core := { x with pc := a % 65536, stall := .none }

/-- Target of a branch: the signed offset in instructions from the branch itself (R268; log entry 34). -/
def brTarget (x : Core) (w : Nat) : Nat := ((((x.pc : Nat) : Int) + 4 * sextN 22 (w % 2 ^ 22)) % 65536).toNat

/-- BR (R268). -/
def brC (c : Cluster) (n : Nat) : Cluster :=
  c.scal n (isMaj 0x10) (fun c x w =>
    if x.p (w / 2 ^ 23 % 8) = w.testBit 22 then c.setCore n (x.jump (brTarget x w)) else c.setCore n x.adv)
def execBr (n : CoreId) (s : State) : Host.Outcome State Fault Refusal := done s (brC s.cl n.val)
/-- JAL (R268). -/
def jalC (c : Cluster) (n : Nat) : Cluster :=
  c.scal n (isMaj 0x11) (fun c x w => c.setCore n ((x.setS 31 (BitVec.ofNat 64 (x.pc + 4))).jump (brTarget x w)))
def execJal (n : CoreId) (s : State) : Host.Outcome State Fault Refusal := done s (jalC s.cl n.val)
/-- JR (R268). -/
def jrC (c : Cluster) (n : Nat) : Cluster :=
  c.scal n (isMaj 0x12) (fun c x w => c.setCore n (x.jump (x.s (sRa w)).toNat))
def execJr (n : CoreId) (s : State) : Host.Outcome State Fault Refusal := done s (jrC s.cl n.val)

/-- Byte address of a load or store: S(ra) + imm16. -/
def memAddr (x : Core) (w : Nat) : Nat := (x.s (sRa w) + sImm w).toNat

/-- A load of len bytes: at an address outside data memory or not naturally aligned the manual states no value, and
the result is a free value; an uncorrectable word stops the core (R268, R278). -/
def Cluster.load (c : Cluster) (n maj len : Nat) : Cluster :=
  c.scal n (isMaj maj) (fun c x w =>
    let a := memAddr x w
    if a % len = 0 && a + len ≤ 65536 then
      let r := c.dmemRead n a len
      if r.2.2 then r.2.1.coreStop n 1 0x25
      else r.2.1.setCore n (x.setS (sRd w) (BitVec.ofNat 64 (leNat r.1))).adv
    else
      let v := c.freeD
      v.2.setCore n (x.setS (sRd w) v.1).adv)

/-- LD64 (R268). -/
def ld64C (c : Cluster) (n : Nat) : Cluster := c.load n 0x18 8
def execLd64 (n : CoreId) (s : State) : Host.Outcome State Fault Refusal := done s (ld64C s.cl n.val)
/-- LD32U: zero-extended (R268). -/
def ld32uC (c : Cluster) (n : Nat) : Cluster := c.load n 0x19 4
def execLd32u (n : CoreId) (s : State) : Host.Outcome State Fault Refusal := done s (ld32uC s.cl n.val)

/-- A store of len bytes. Outside data memory there is no byte to write; at an address that is not naturally aligned
the aligned bytes around it take free values. A partial write of a word in error corrects it, or stops the core. -/
def Cluster.store_ (c : Cluster) (n maj len : Nat) : Cluster :=
  c.scal n (isMaj maj) (fun c x w =>
    let a := memAddr x w
    if 65536 < a + len then c.setCore n x.adv
    else if a % len = 0 then
      let r := if len = 8 then ([], c, false) else c.dmemRead n (a / 8 * 8) 8
      if r.2.2 then r.2.1.coreStop n 1 0x25
      else (r.2.1.setCore n x.adv).dmemPut n a (leBytes len (x.s (sRd w)).toNat)
    else
      let f := c.freeBs len
      (f.2.setCore n x.adv).dmemPut n (a / len * len) f.1)

/-- ST64 (R268). -/
def st64C (c : Cluster) (n : Nat) : Cluster := c.store_ n 0x1A 8
def execSt64 (n : CoreId) (s : State) : Host.Outcome State Fault Refusal := done s (st64C s.cl n.val)
/-- ST32 (R268). -/
def st32C (c : Cluster) (n : Nat) : Cluster := c.store_ n 0x1B 4
def execSt32 (n : CoreId) (s : State) : Host.Outcome State Fault Refusal := done s (st32C s.cl n.val)

/-- Is a context bound to the running lining (R271)? -/
def Cluster.bound (c : Cluster) (k : Nat) : Bool := (c.ctx k).state == 2

/-- CORE_CTX_UNBOUND, contained to the lining (R271). -/
def Cluster.unbound (c : Cluster) (n : Nat) : Cluster := c.raiseLining 0x15 n

/-- Handle and byte offset of HLD and HST (R268). -/
def hldHandle (x : Core) (w : Nat) : Nat := fld (x.s (sRa w)) 43 32
def hldOff (x : Core) (w : Nat) : Int := (fld (x.s (sRa w)) 31 0 : Nat) + sextN 16 (w % 2 ^ 16)

/-- Do 8 bytes at an offset of a handle grant an access of a permission bit to the current context (R288)? -/
def hndGrants (e : W64) (cur bit : Nat) (off : Int) : Bool :=
  hndValid e && hndOwner e == cur && bitAt e bit && decide (0 ≤ off) && decide (off % 8 = 0)
    && decide (off + 8 ≤ ((hndSize e * 64 : Nat) : Int))

/-- HLD with a bound, live context: its read joins class 4, and the core stalls until it is served (R284, R288). -/
def Cluster.doHld (c : Cluster) (n : Nat) (w : Nat) : Cluster :=
  let x := c.core n
  let e := c.regAt (rHnd (hldHandle x w))
  if hndGrants e x.cur 62 (hldOff x w) then
    (c.setCore n { x with stall := .port c.spd.nextGrp }).addGroup 4 x.cur (.hld n (sRd w))
      [partReq 0 (hndBase e * 64 + (hldOff x w).toNat) 8 none]
  else (c.setCore n (x.setS (sRd w) 0).adv).raise 0x17 n x.cur

/-- The read of an HLD is served: rd takes it, or zero when the context has been torn down meanwhile (R272, R288). -/
def Cluster.hldDone (c : Cluster) (id n rd : Nat) (bs : List Byte) : Cluster :=
  let x := c.core n
  if x.stall = .port id then c.setCore n (x.setS rd (if c.tornSeen x.cur then 0 else BitVec.ofNat 64 (leNat bs))).adv else c

/-- The write of an HST is served. -/
def Cluster.hstDone (c : Cluster) (id n : Nat) : Cluster :=
  if (c.core n).stall = .port id then c.setCore n (c.core n).adv else c

/-- HLD (R268, R271, R272, R288). -/
def hldC (c : Cluster) (n : Nat) : Cluster :=
  c.scal n (isMaj 0x1C) (fun c x w =>
    if !c.bound x.cur then (c.setCore n (x.setS (sRd w) 0).adv).unbound n
    else if c.tornSeen x.cur then c.setCore n (x.setS (sRd w) 0).adv
    else c.withHandle (hldHandle x w) (fun c => c.doHld n w))
def execHld (n : CoreId) (s : State) : Host.Outcome State Fault Refusal := done s (hldC s.cl n.val)

/-- HST with a bound, live context: its write joins class 4, and the core stalls until it is served (R284, R288). -/
def Cluster.doHst (c : Cluster) (n : Nat) (w : Nat) : Cluster :=
  let x := c.core n
  let e := c.regAt (rHnd (hldHandle x w))
  if hndGrants e x.cur 61 (hldOff x w) then
    (c.setCore n { x with stall := .port c.spd.nextGrp }).addGroup 4 x.cur (.hst n)
      [partReq 0 (hndBase e * 64 + (hldOff x w).toNat) 8 (some (leBytes 8 (x.s (sRd w)).toNat))]
  else (c.setCore n x.adv).raise 0x17 n x.cur

/-- HST (R268, R271, R272, R288). -/
def hstC (c : Cluster) (n : Nat) : Cluster :=
  c.scal n (isMaj 0x1D) (fun c x w =>
    if !c.bound x.cur then (c.setCore n x.adv).unbound n
    else if c.tornSeen x.cur then c.setCore n x.adv
    else c.withHandle (hldHandle x w) (fun c => c.doHst n w))
def execHst (n : CoreId) (s : State) : Host.Outcome State Fault Refusal := done s (hstC s.cl n.val)

/-- WSTEP: credit += S(ra)[15:0] (R267, R268). -/
def wstepC (c : Cluster) (n : Nat) : Cluster :=
  c.scal n (isSub 0x20 0) (fun c x w =>
    c.setCore n { x.adv with credit := x.credit + fld (x.s (sRa w)) 15 0, wwait := if x.wwait = 9 then 0 else x.wwait })
def execWstep (n : CoreId) (s : State) : Host.Outcome State Fault Refusal := done s (wstepC s.cl n.val)

/-- Code of a scalar core's stall in CORE_STATE.WAIT. -/
def stallCode (waiting : Bool) (s : Stall) : Nat :=
  if waiting then 3
  else match s with
    | .none => 0
    | .spWait _ _ => 4
    | .spFence _ => 4
    | .sigFence _ => 3
    | .recv _ _ _ _ _ => 4
    | .tbWait _ => 5
    | .lccWait _ => 6
    | .wdrain => 9
    | .port _ => 8
    | .slotWait code => code
    | .recvRead _ _ _ _ _ _ => 4

/-- CORE_STATE of core n. A scalar core's own stall shows before its walker's. -/
def Cluster.coreState (c : Cluster) (n : Nat) : W64 :=
  let x := c.core n
  let s := stallCode (vat c.waiters n none).isSome x.stall
  let wait := if x.stopped then 11 else if x.mode = 2 && x.codeRun && s != 0 then s else x.wwait
  placeB x.active 63 ||| place wait 59 ||| place x.cur 53 ||| place (x.widx % 4096) 36
    ||| place (if x.mode = 2 then satN 0xFFFF x.credit else 0) 16 ||| place (if x.mode = 2 then x.pc else 0) 0

/-- WSTAT: rd = CORE_STATE (R268). -/
def wstatC (c : Cluster) (n : Nat) : Cluster :=
  c.scal n (isSub 0x20 1) (fun c x w => c.setCore n (x.setS (sRd w) (c.coreState n)).adv)
def execWstat (n : CoreId) (s : State) : Host.Outcome State Fault Refusal := done s (wstatC s.cl n.val)

/-- WDRAIN: stalls until credit is 0 or END is reached (R268). -/
def wdrainC (c : Cluster) (n : Nat) : Cluster :=
  c.scal n (isSub 0x20 2) (fun c x _ => (c.setCore n { x with stall := .wdrain }).wdrainCheck n)
def execWdrain (n : CoreId) (s : State) : Host.Outcome State Fault Refusal := done s (wdrainC s.cl n.val)

/-- A service instruction: UNBOUND stops the lining, TORN does nothing, otherwise f acts (R270 to R272). -/
def Cluster.service (c : Cluster) (n : Nat) (form : Nat → Bool) (f : Cluster → Core → Nat → Cluster) : Cluster :=
  c.scal n form (fun c x w =>
    if !c.bound x.cur then (c.setCore n (x.setS (sRs w) 4).adv).unbound n
    else if c.tornSeen x.cur then c.setCore n (x.setS (sRs w) 3).adv
    else f c x w)

/-- SYWAIT of a kind (R270, R356, R358, R360): a poll has timeout 0. -/
def Cluster.sywait (c : Cluster) (n : Nat) (x : Core) (w : Nat) (poll : Bool) : Cluster :=
  let timeout := fld (x.s (sRb w)) 31 0
  if (timeout == 0) != poll then c
  else
    let v := fld (x.s (sRa w)) 15 0
    let p := c.vid x.cur v
    match p.2 with
    | none => (p.1.setCore n ((p.1.core n).setS (sRs w) 9).adv).synAccess n x.cur
    | some e => p.1.doWait n ⟨false, 0, xWord e, v, sMode w, BitVec.ofNat 32 (fld (x.s (sRa w)) 63 32), x.cur, false, 0, sRd w, sRs w⟩ timeout

/-- SYWAIT FULL with a timeout. -/
def sywaitFullC (c : Cluster) (n : Nat) : Cluster := c.service n (isSvc 0x24 0 0) (fun c x w => c.sywait n x w false)
def execSywaitFull (n : CoreId) (s : State) : Host.Outcome State Fault Refusal := done s (sywaitFullC s.cl n.val)
/-- SYWAIT TAKE with a timeout. -/
def sywaitTakeC (c : Cluster) (n : Nat) : Cluster := c.service n (isSvc 0x24 0 1) (fun c x w => c.sywait n x w false)
def execSywaitTake (n : CoreId) (s : State) : Host.Outcome State Fault Refusal := done s (sywaitTakeC s.cl n.val)
/-- SYWAIT GE with a timeout. -/
def sywaitGeC (c : Cluster) (n : Nat) : Cluster := c.service n (isSvc 0x24 0 2) (fun c x w => c.sywait n x w false)
def execSywaitGe (n : CoreId) (s : State) : Host.Outcome State Fault Refusal := done s (sywaitGeC s.cl n.val)
/-- SYWAIT EMPTY with a timeout. -/
def sywaitEmptyC (c : Cluster) (n : Nat) : Cluster := c.service n (isSvc 0x24 0 3) (fun c x w => c.sywait n x w false)
def execSywaitEmpty (n : CoreId) (s : State) : Host.Outcome State Fault Refusal := done s (sywaitEmptyC s.cl n.val)
/-- SYWAIT of any kind with timeout 0: a poll (R359). -/
def sywaitPollC (c : Cluster) (n : Nat) : Cluster :=
  c.service n (fun w => isSub 0x24 0 w && decide (sMode w < 4)) (fun c x w => c.sywait n x w true)
def execSywaitPoll (n : CoreId) (s : State) : Host.Outcome State Fault Refusal := done s (sywaitPollC s.cl n.val)

/-- SYSIG of a kind (R354, R355, R361): the own form goes to the synchronisation unit, the cross form to a signal slot;
with none free the core stalls. -/
def Cluster.sysig (c : Cluster) (n : Nat) (x : Core) (w kind : Nat) : Cluster :=
  let target := fld (x.s (sRa w)) 31 0
  let operand : W32 := BitVec.ofNat 32 (fld (x.s (sRb w)) 31 0)
  if target.testBit 31 then
    match c.takeSigSlot n target kind operand x.cur with
    | some c => c.setCore n ((c.core n).setS (sRs w) 0).adv
    | none => c.setCore n { x with stall := .slotWait 3 }
  else
    let p := c.vid x.cur (target % 65536)
    match p.2 with
    | none => (p.1.setCore n ((p.1.core n).setS (sRs w) 9).adv).synAccess n x.cur
    | some e =>
      (p.1.setCore n ((p.1.core n).setS (sRs w) 0).adv).syncPost (xWord e) x.cur (1 + n)
        (.signal kind operand x.cur c.straps.toNat n) none

/-- SYSIG SET. -/
def sysigSetC (c : Cluster) (n : Nat) : Cluster := c.service n (isSvc 0x24 1 0) (fun c x w => c.sysig n x w 0)
def execSysigSet (n : CoreId) (s : State) : Host.Outcome State Fault Refusal := done s (sysigSetC s.cl n.val)
/-- SYSIG ADD. -/
def sysigAddC (c : Cluster) (n : Nat) : Cluster := c.service n (isSvc 0x24 1 1) (fun c x w => c.sysig n x w 1)
def execSysigAdd (n : CoreId) (s : State) : Host.Outcome State Fault Refusal := done s (sysigAddC s.cl n.val)
/-- SYSIG OR. -/
def sysigOrC (c : Cluster) (n : Nat) : Cluster := c.service n (isSvc 0x24 1 2) (fun c x w => c.sysig n x w 2)
def execSysigOr (n : CoreId) (s : State) : Host.Outcome State Fault Refusal := done s (sysigOrC s.cl n.val)
/-- SYSIG CLEAR. -/
def sysigClearC (c : Cluster) (n : Nat) : Cluster := c.service n (isSvc 0x24 1 3) (fun c x w => c.sysig n x w 3)
def execSysigClear (n : CoreId) (s : State) : Host.Outcome State Fault Refusal := done s (sysigClearC s.cl n.val)
/-- SYSIG FENCE (R364). -/
def sysigFenceC (c : Cluster) (n : Nat) : Cluster :=
  c.service n (isSvc 0x24 1 4) (fun c x w => (c.setCore n { x with stall := .sigFence (sRs w) }).sigFenceCheck n)
def execSysigFence (n : CoreId) (s : State) : Host.Outcome State Fault Refusal := done s (sysigFenceC s.cl n.val)

/-- The header as the message unit sends it: SEQ, SCL, SCORE and CTX are its own, reserved bits are cleared (R326). -/
def sendHdr (h : BitVec 128) (seq cl n ctx : Nat) : BitVec 128 :=
  setFld (setFld (setFld (setFld (setFld (setFld h 127 112 seq) 111 106 cl) 105 103 n) 20 15 ctx) 84 64 0) 11 0 0

/-- Must SPSEND answer BADHDR (R330)? -/
def badHdr (a : Nat) (h : BitVec 128) : Bool :=
  decide (2 ≤ sKind h) || decide (65536 < a + 64 * sLen h) || (sKind h == 1 && decide ((64 * sLen h - 16) / 4 < sNelc h))

/-- Hand a spore over in send slot i (R326 to R329, R391). -/
def Cluster.handSpore (c : Cluster) (n rs i : Nat) (h : BitVec 128) (data : List Byte) (posted : Bool) : Cluster :=
  let x := c.core n
  let slot : SendSlot := ⟨h, data, posted, c.tk + c.dictAt 0x2700 2⟩
  let y := { x with send := vset x.send i (some slot), sendSeq := (x.sendSeq + 1) % 65536 }
  let y := if posted then (y.setS rs 0).adv else { y with stall := .spWait i rs }
  let c := ((c.setCore n y).bump (rMsg + 0x200) (rMsg + 0x240) 0 1).account (sCtx h) 9 1
  c.launchSpore n i h data

/-- SPSEND in WAIT or POSTED mode (R326 to R330); with no free slot the core stalls. -/
def Cluster.spsend (c : Cluster) (n : Nat) (x : Core) (w : Nat) (posted : Bool) : Cluster :=
  let a := (x.s (sRa w)).toNat
  let p := c.dmemRead n a 16
  let h : BitVec 128 := BitVec.ofNat 128 (leNat p.1)
  if 65536 < a + 16 then (c.setCore n (x.setS (sRs w) 8).adv).raise 0x1B n x.cur
  else if p.2.2 then p.2.1.coreStop n 1 0x25
  else if badHdr a h then (p.2.1.setCore n (x.setS (sRs w) 8).adv).raise 0x1B n x.cur
  else
    match findIdxN (fun s => s.isNone) x.send.toList with
    | none => c.setCore n { x with stall := .slotWait 4 }
    | some i =>
      let r := c.dmemRead n a (64 * sLen h)
      if r.2.2 then r.2.1.coreStop n 1 0x25
      else
        let h' := sendHdr h x.sendSeq c.straps.toNat n x.cur
        r.2.1.handSpore n (sRs w) i h' (hdrBytes h' ++ r.1.drop 16) posted

/-- SPSEND WAIT (R329). -/
def spsendWaitC (c : Cluster) (n : Nat) : Cluster := c.service n (isSvc 0x25 0 0) (fun c x w => c.spsend n x w false)
def execSpsendWait (n : CoreId) (s : State) : Host.Outcome State Fault Refusal := done s (spsendWaitC s.cl n.val)
/-- SPSEND POSTED (R329). -/
def spsendPostedC (c : Cluster) (n : Nat) : Cluster := c.service n (isSvc 0x25 0 1) (fun c x w => c.spsend n x w true)
def execSpsendPosted (n : CoreId) (s : State) : Host.Outcome State Fault Refusal := done s (spsendPostedC s.cl n.val)
/-- SPSEND FENCE (R329). -/
def spsendFenceC (c : Cluster) (n : Nat) : Cluster :=
  c.service n (isSvc 0x25 0 2) (fun c x w => (c.setCore n { x with stall := .spFence (sRs w) }).spFenceCheck n)
def execSpsendFence (n : CoreId) (s : State) : Host.Outcome State Fault Refusal := done s (spsendFenceC s.cl n.val)

/-- SPRECV on a ring that this core and the current context own, or NOTOWNER (R343). -/
def Cluster.sprecv (c : Cluster) (n mode : Nat) (f : Cluster → Core → Nat → Nat → Cluster) : Cluster :=
  c.service n (isSvc 0x25 1 mode) (fun c x w =>
    let r := fld (x.s (sRa w)) 12 0
    c.withTab (c.ringKeys r) (fun c =>
      let d := c.ringD r
      if ringValid d && ringCore d == n && ringCtx d == x.cur then f c x w r
      else (c.setCore n ((x.setS (sRd w) 0).setS (sRs w) 6).adv).raise 0x1B n x.cur))

/-- Answer a receive with EMPTY (R343). -/
def Core.emptyRecv (x : Core) (rd rs : Nat) : Core := ((x.setS rd 0).setS rs 5).adv

/-- SPRECV POLL (R343). -/
def sprecvPollC (c : Cluster) (n : Nat) : Cluster :=
  c.sprecv n 0 (fun c x w r =>
    if c.ringOcc r = 0 then c.setCore n (x.emptyRecv (sRd w) (sRs w)) else c.takeHead n r (sRd w) (sRb w) (sRs w) true)
def execSprecvPoll (n : CoreId) (s : State) : Host.Outcome State Fault Refusal := done s (sprecvPollC s.cl n.val)
/-- SPRECV WAIT (R343). -/
def sprecvWaitC (c : Cluster) (n : Nat) : Cluster :=
  c.sprecv n 1 (fun c x w r =>
    if c.ringOcc r = 0 then c.setCore n { x with stall := .recv r (sRd w) (sRb w) (sRs w) (c.tk + c.dictAt 0x2700 3) }
    else c.takeHead n r (sRd w) (sRb w) (sRs w) true)
def execSprecvWait (n : CoreId) (s : State) : Host.Outcome State Fault Refusal := done s (sprecvWaitC s.cl n.val)
/-- SPRECV DISCARD (R343). -/
def sprecvDiscardC (c : Cluster) (n : Nat) : Cluster :=
  c.sprecv n 2 (fun c x w r =>
    if c.ringOcc r = 0 then c.setCore n (x.emptyRecv (sRd w) (sRs w)) else c.takeHead n r (sRd w) (sRb w) (sRs w) false)
def execSprecvDiscard (n : CoreId) (s : State) : Host.Outcome State Fault Refusal := done s (sprecvDiscardC s.cl n.val)
/-- SPRECV OCC (R343). -/
def sprecvOccC (c : Cluster) (n : Nat) : Cluster :=
  c.sprecv n 3 (fun c x w r => c.setCore n ((x.setS (sRd w) (BitVec.ofNat 64 (c.ringOcc r))).setS (sRs w) 0).adv)
def execSprecvOcc (n : CoreId) (s : State) : Host.Outcome State Fault Refusal := done s (sprecvOccC s.cl n.val)

/-- RECV_TIMEOUT: no record has arrived within RECV_TO (R343). -/
def recvTimeoutC (c : Cluster) (n : Nat) : Cluster :=
  let x := c.core n
  match x.stall with
  | .recv _ rd _ rs dl => if c.coresRun && decide (dl ≤ c.tk) then c.setCore n (x.emptyRecv rd rs) else c
  | _ => c
def execRecvTimeout (n : CoreId) (s : State) : Host.Outcome State Fault Refusal := done s (recvTimeoutC s.cl n.val)

/-- TBRD (R268). -/
def tbrdC (c : Cluster) (n : Nat) : Cluster :=
  c.scal n (isSub 0x28 0) (fun c x w => c.setCore n (x.setS (sRd w) c.tb.value).adv)
def execTbrd (n : CoreId) (s : State) : Host.Outcome State Fault Refusal := done s (tbrdC s.cl n.val)
/-- LCCRD (R268). -/
def lccrdC (c : Cluster) (n : Nat) : Cluster :=
  c.scal n (isSub 0x28 1) (fun c x w => c.setCore n (x.setS (sRd w) (BitVec.ofNat 64 (c.lcc % 2 ^ 32))).adv)
def execLccrd (n : CoreId) (s : State) : Host.Outcome State Fault Refusal := done s (lccrdC s.cl n.val)
/-- TBWAIT: stalls until TB reaches S(ra) (R268). -/
def tbwaitC (c : Cluster) (n : Nat) : Cluster :=
  c.scal n (isSub 0x28 2) (fun c x w =>
    if (x.s (sRa w)).toNat ≤ c.tbNow then c.setCore n x.adv else c.setCore n { x with stall := .tbWait (x.s (sRa w)) })
def execTbwait (n : CoreId) (s : State) : Host.Outcome State Fault Refusal := done s (tbwaitC s.cl n.val)

/-- End a stall of core n whose condition holds; the core must run. -/
def Cluster.release (c : Cluster) (n : Nat) (cond : Stall → Bool) : Cluster :=
  let x := c.core n
  if c.coresRun && x.codeRun && !x.stopped && cond x.stall then c.setCore n x.adv else c

/-- TBWAIT_RELEASE (R268). -/
def tbwaitReleaseC (c : Cluster) (n : Nat) : Cluster :=
  c.release n (fun s => match s with
    | .tbWait v => decide (v.toNat ≤ c.tbNow)
    | _ => false)
def execTbwaitRelease (n : CoreId) (s : State) : Host.Outcome State Fault Refusal := done s (tbwaitReleaseC s.cl n.val)
/-- LCCWAIT: stalls until LCC reaches S(ra)[31:0] (R268). -/
def lccwaitC (c : Cluster) (n : Nat) : Cluster :=
  c.scal n (isSub 0x28 3) (fun c x w =>
    if fld (x.s (sRa w)) 31 0 ≤ c.lcc then c.setCore n x.adv
    else c.setCore n { x with stall := .lccWait (fld (x.s (sRa w)) 31 0) })
def execLccwait (n : CoreId) (s : State) : Host.Outcome State Fault Refusal := done s (lccwaitC s.cl n.val)
/-- LCCWAIT_RELEASE (R268). -/
def lccwaitReleaseC (c : Cluster) (n : Nat) : Cluster :=
  c.release n (fun s => match s with
    | .lccWait v => decide (v ≤ c.lcc)
    | _ => false)
def execLccwaitRelease (n : CoreId) (s : State) : Host.Outcome State Fault Refusal := done s (lccwaitReleaseC s.cl n.val)

/-- SETCTX (R268, R271). -/
def setctxC (c : Cluster) (n : Nat) : Cluster :=
  c.scal n (isMaj 0x30) (fun c x w => c.setCore n { x.adv with cur := w % 64 })
def execSetctx (n : CoreId) (s : State) : Host.Outcome State Fault Refusal := done s (setctxC s.cl n.val)

/-- HALT ends this lining's code (R268, R276). -/
def haltC (c : Cluster) (n : Nat) : Cluster :=
  c.scal n (isSub 0x3F 0) (fun c x _ => c.setCore n { x.adv with codeRun := false })
def execHalt (n : CoreId) (s : State) : Host.Outcome State Fault Refusal := done s (haltC s.cl n.val)
/-- NOP (R268). -/
def nopC (c : Cluster) (n : Nat) : Cluster := c.scal n (isSub 0x3F 1) (fun c x _ => c.setCore n x.adv)
def execNop (n : CoreId) (s : State) : Host.Outcome State Fault Refusal := done s (nopC s.cl n.val)

end Sys2Proof.Machine
end

