-- ==== Sys2Proof/Machine/Tiles.lean ====
section
/-! DEFINITION. The tile mover: TCFG, TLD, TST, TMOV, TREL, TZERO (R195 to R213). Log entries of its readings and
choices: 12 DESIGN CHOICE, 70 DESIGN CHOICE. -/

namespace Sys2Proof.Machine

/-- Tiles that the masks of a TCFG or TREL name (R232). -/
def maskTiles (o : MacroOp) : List Nat := bitsOf 16 (fld o 191 176) ++ (bitsOf 8 (fld o 175 168)).map (· + 16)

/-- References that an array's op holds for its reads ahead of its start, unless it is nullified (R201). -/
def Cluster.aheadRef (c : Cluster) (a : Nat) (e : Ahead) : List TileRef :=
  if c.nullAhead (qArr a) (c.numAt (qArr a) e.t0) e.op c.lcc then [] else e.tiles.map (fun t => ⟨qArr a, t, c.lcc, e.t0⟩)
/-- Those of the arrays of core n. -/
def Cluster.aheadRefs (c : Cluster) (n : Nat) : List TileRef :=
  [4 * n, 4 * n + 1, 4 * n + 2, 4 * n + 3].flatMap (fun a => (c.arr a).ahead.flatMap (c.aheadRef a))

/-- References to a tile of core n that include LCC t (R201). -/
def Cluster.busyRefs (c : Cluster) (n t : Nat) (tiles : List Nat) : List TileRef :=
  (c.refs ++ c.aheadRefs n).filter (fun r =>
    (if r.q < 48 then r.q / 6 else 8) == n && tiles.contains r.tile && decide (r.lo ≤ t) && decide (t ≤ r.hi))

/-- The TILE_CFG_BUSY record and fault (R202). -/
def Cluster.cfgBusy (c : Cluster) (n : Nat) (o : MacroOp) (refs : List TileRef) : Cluster :=
  let a := rTil n + 0x308
  let tiles := (refs.map (fun r => r.tile)).foldl (fun m t => m ||| 2 ^ t) 0
  let blk := (refs.map (fun r => r.q)).foldl min 51
  let c :=
    if bitAt (c.regAt a) 63 then c
    else (c.setReg a (placeB true 63 ||| place (opCtx o) 57 ||| place blk 51 ||| place tiles 24)).setReg (rTil n + 0x310)
      (place (opStamp o) 0)
  c.raise 0x12 n (opCtx o)

/-- Give a tile a geometry, with every row empty (R200). -/
def Cluster.tileGeometry (c : Cluster) (n t rowsm1 rb : Nat) : Cluster :=
  (c.setReg (rTilCfg n t) (placeB true 11 ||| place rowsm1 4 ||| place rb 0)).setTileEmpty n t (2 ^ 128 - 1)

/-- What a TCFG does at the end of its start cycle (R200, R202). -/
def Cluster.doTcfg (c : Cluster) (n : Nat) (o : MacroOp) : Cluster :=
  let ts := maskTiles o
  let busy := c.busyRefs n c.lcc ts
  if busy.isEmpty then c.each ts (fun c t => c.tileGeometry n t (fld o 167 161) (fld o 160 157)) else c.cfgBusy n o busy

/-- Set the empty bits of rows of a configured tile (R203). -/
def Cluster.emptyRows (c : Cluster) (n t r0 cnt : Nat) : Cluster :=
  if c.tileValid n t then
    c.setTileEmpty n t (c.tileEmpty n t ||| (((2 ^ cnt - 1) <<< r0) % 2 ^ 128))
  else c

/-- What a TCFG, TREL or TZERO does at the end of its cycle, after every write (R198, R200, R203). -/
def Cluster.doConfig (c : Cluster) (n : Nat) (o : MacroOp) : Cluster :=
  match opOpc o with
  | 0x20 => c.doTcfg n o
  | 0x24 => c.each (maskTiles o) (fun c t => c.tileRelease n t)
  | _ => c.emptyRows n (fld o 191 187) (fld o 186 180) (fld o 179 172)

/-- Post a tile-configuration op for the end of its cycle, behind every write (R198). -/
def Cluster.postConfig (c : Cluster) (n : Nat) (o : MacroOp) : Cluster := c.post c.lcc 9 (.config n o)

/-- TCFG (R200, R202). -/
def tcfgC (c : Cluster) (n : Nat) : Cluster := c.onStart (qTile n) 0x20 (fun c o => c.postConfig n o)
def execTcfg (n : CoreId) (s : State) : Host.Outcome State Fault Refusal := done s (tcfgC s.cl n.val)

/-- TREL (R203). -/
def trelC (c : Cluster) (n : Nat) : Cluster := c.onStart (qTile n) 0x24 (fun c o => c.postConfig n o)
def execTrel (n : CoreId) (s : State) : Host.Outcome State Fault Refusal := done s (trelC s.cl n.val)

/-- TZERO (R203, R233). -/
def tzeroC (c : Cluster) (n : Nat) : Cluster := c.onStart (qTile n) 0x25 (fun c o => c.postConfig n o)
def execTzero (n : CoreId) (s : State) : Host.Outcome State Fault Refusal := done s (tzeroC s.cl n.val)

/-- Write the MA0 stage buffer of core n (R208). -/
def Cluster.sbufWrite (c : Cluster) (n off : Nat) (bs : List Byte) : Cluster :=
  { c with sbuf := Memory.write c.sbuf (n * 65536 + off) (bs.take (65536 - off)) }

/-- Scratchpad address of row i of a TLD or TST (R205). -/
def Cluster.rowAddr (c : Cluster) (o : MacroOp) (i : Nat) : Nat :=
  (((hndBase (c.regAt (rHnd (fld o 171 160))) * 64 + fld o 159 136 * 16 : Nat) : Int)
    + (i : Int) * sextN 16 (fld o 135 120) * 16).toNat

/-- Row width of a TLD or TST (R234). -/
def moveB (o : MacroOp) : Nat := 16 * (fld o 119 116 + 1)
/-- Row width of a TMOV (R235). -/
def tmovB (o : MacroOp) : Nat := 16 * (fld o 154 151 + 1)
/-- Element width of a transposed TMOV (R235). -/
def tmovW (o : MacroOp) : Nat := fmtBits (fld o 158 155)

/-- w bytes of row r of a tile from its start; bytes beyond the configuration read zero (R199). -/
def Cluster.rowBytes (c : Cluster) (n t r w : Nat) : List Byte :=
  ((c.tileRow n t r).take w) ++ List.replicate (w - c.tileB n t) 0

/-- The transposed stream of NT rows: element (c, r) at position c * NT + r (R210). -/
def transposeStream (w : Nat) (rows : List (List Byte)) (b : Nat) : List Byte :=
  let cols := b * 8 / w
  let els := rows.map (fun r => unpack w cols r)
  packElems w ((List.range cols).flatMap (fun k => els.map (fun e => e.getD k 0)))

/-- Where row i of a TLD goes: its tile, or the stage buffer (R205, R208). -/
def landPost (n : Nat) (o : MacroOp) (i : Nat) (bs : List Byte) : Post :=
  if fld o 191 187 = 31 then .sbuf n (16 * fld o 115 104 + i * moveB o) bs else .row n (fld o 191 187) (fld o 186 180 + i) bs
/-- Where row i of a plain TMOV goes (R208, R209). -/
def movePost (n : Nat) (o : MacroOp) (i : Nat) (bs : List Byte) : Post :=
  if fld o 179 175 = 31 then .sbuf n (16 * fld o 150 139 + i * tmovB o) bs else .row n (fld o 179 175) (fld o 174 168 + i) bs
/-- Where chunk k of a transposed TMOV goes (R208, R210). -/
def chunkPost (n : Nat) (o : MacroOp) (k : Nat) (bs : List Byte) : Post :=
  if fld o 179 175 = 31 then .sbuf n (16 * fld o 150 139 + 256 * k) bs
  else .stream n (fld o 179 175) (fld o 174 168) (256 * k) 0 0 bs

/-- The tile-mover op of core n that TIL_TSTART follows: the oldest that still owes writes (R212). -/
def Cluster.oldestMov (c : Cluster) (n : Nat) : Option Mov :=
  (sortOn (fun w => 2 * opStamp w.op + (if w.kind ≤ 2 then 0 else 1))
    (c.movs.filter (fun m => m.n == n && !m.stop && decide (c.lcc < m.t0 + m.woff + m.writes)))).head?

/-- The progress record of a tile-mover op (R212): counts as they stand at the start of the present cycle. -/
def Cluster.movRecord (c : Cluster) (m : Mov) : W64 :=
  placeB true 63 ||| place m.kind 58 ||| place (opCtx m.op) 52 ||| place (if m.kind ≤ 2 then fld m.op 191 187 else fld m.op 179 175) 47
    ||| place (min m.writes (c.lcc - (m.t0 + m.woff))) 40 ||| place (min m.reads (c.lcc - m.t0)) 32 ||| place (opStamp m.op) 0

/-- TIL_TSTART of core n: a load stopped in forerunner mode, or else the op it follows (R212, R213). -/
def Cluster.tstart (c : Cluster) (n : Nat) : W64 :=
  let frozen := c.regAt (rTil n + 0x300)
  if bitAt frozen 62 then frozen
  else match c.oldestMov n with
    | some m => c.movRecord m
    | none => 0

/-- A row read of a TLD met a detected error: that row and every later one are not written, and TIL_TSTART freezes
where no stop is recorded in it (R213). -/
def Cluster.stopLoad (c : Cluster) (m : Mov) : Cluster :=
  let cut : Mov → Mov := fun x => if x = m then { x with stop := true } else x
  let c := { c with movs := c.movs.map cut }
  let a := rTil m.n + 0x300
  if bitAt (c.regAt a) 62 then c else c.setReg a (c.movRecord m ||| placeB true 62)

/-- The static port uses that a tile-mover op makes for reads in this cycle (R205). -/
def Cluster.movUses (c : Cluster) (m : Mov) : List (Nat × Nat) :=
  if m.kind = 1 && !m.stop && decide (m.t0 ≤ c.lcc) && decide (c.lcc < m.t0 + m.reads) then
    portUses (qTile m.n) false (linesOf (c.rowAddr m.op (c.lcc - m.t0)) (moveB m.op))
  else []

/-- The row that a TLD reads in this cycle (R205, R213). -/
def Cluster.loadRow (c : Cluster) (m : Mov) (i : Nat) : Cluster :=
  let r := c.portRead (opCtx m.op) (c.rowAddr m.op i) (moveB m.op)
  if r.2.2 then r.2.1.stopLoad m else r.2.1.post (m.t0 + i + m.woff) 0 (landPost m.n m.op i r.1)

/-- Post the chunks of a transposed TMOV, once it has read its rows (R210). -/
def Cluster.postChunks (c : Cluster) (m : Mov) (bs : List Byte) : Cluster :=
  c.each (List.range m.writes) (fun c k => c.post (m.t0 + m.woff + k) 1 (chunkPost m.n m.op k ((bs.drop (256 * k)).take 256)))

/-- The source row that a transposed TMOV reads in this cycle; the last one gives the stream (R210). -/
def Cluster.transRow (c : Cluster) (m : Mov) (i : Nat) : Cluster :=
  let row := c.rowBytes m.n (fld m.op 191 187) (fld m.op 186 180 + i) (tmovB m.op)
  let x := { m with rows := m.rows ++ [row] }
  let put : Mov → Mov := fun y => if y = m then x else y
  let c := { c with movs := c.movs.map put }
  if i + 1 = m.reads then c.postChunks m (transposeStream (tmovW m.op) x.rows (tmovB m.op)) else c

/-- What a tile-mover op reads in this cycle, and the writes that it brings about (R205, R207, R209 to R211). -/
def Cluster.movRead (c : Cluster) (m : Mov) : Cluster :=
  if m.stop || decide (c.lcc < m.t0) || decide (m.t0 + m.reads ≤ c.lcc) then c
  else
    let i := c.lcc - m.t0
    match m.kind with
    | 1 => c.loadRow m i
    | 2 => c.post (c.lcc + 2) 0 (.spd (qTile m.n) (c.rowAddr m.op i) 0 0
        (c.rowBytes m.n (fld m.op 191 187) (fld m.op 186 180 + i) (moveB m.op)))
    | 3 => c.post (c.lcc + m.woff) 1 (movePost m.n m.op i (c.rowBytes m.n (fld m.op 191 187) (fld m.op 186 180 + i) (tmovB m.op)))
    | _ => c.transRow m i

/-- A tile-mover op begins: it owes its writes, and uses its ports from this cycle on (R211, R212). -/
def Cluster.owe (c : Cluster) (m : Mov) : Cluster :=
  let c := { c with movs := c.movs.filter (fun (x : Mov) => decide (c.lcc < x.t0 + x.woff + x.writes)) ++ [m] }
  c.addUses (c.movUses m)

/-- What the start of a TLD brings about (R205, R211, R212). -/
def Cluster.doTld (c : Cluster) (n : Nat) (o : MacroOp) : Cluster :=
  let t0 := c.lcc
  let nrow := fld o 179 172
  let tl := c.floor 5
  let c := if fld o 191 187 = 31 then c else c.addRefs (qTile n) t0 (t0 + nrow - 1 + tl) [fld o 191 187]
  c.owe ⟨n, 1, o, t0, nrow, tl, nrow, [], false⟩

/-- TLD (R205). -/
def tldC (c : Cluster) (n : Nat) : Cluster := c.onStart (qTile n) 0x21 (fun c o => c.withHandle (fld o 171 160) (fun c => c.doTld n o))
def execTld (n : CoreId) (s : State) : Host.Outcome State Fault Refusal := done s (tldC s.cl n.val)

/-- What the start of a TST brings about (R207, R211, R212). -/
def Cluster.doTst (c : Cluster) (n : Nat) (o : MacroOp) : Cluster :=
  let t0 := c.lcc
  let nrow := fld o 179 172
  (c.addRefs (qTile n) t0 (t0 + nrow - 1) [fld o 191 187]).owe ⟨n, 2, o, t0, nrow, 2, nrow, [], false⟩

/-- TST (R207). -/
def tstC (c : Cluster) (n : Nat) : Cluster := c.onStart (qTile n) 0x22 (fun c o => c.withHandle (fld o 171 160) (fun c => c.doTst n o))
def execTst (n : CoreId) (s : State) : Host.Outcome State Fault Refusal := done s (tstC s.cl n.val)

/-- What the start of a plain TMOV brings about (R209, R211, R212). -/
def Cluster.doMove (c : Cluster) (n : Nat) (o : MacroOp) : Cluster :=
  let t0 := c.lcc
  let nrow := fld o 167 160
  let tm := c.floor 6
  let c := c.addRefs (qTile n) t0 (t0 + nrow - 1) [fld o 191 187]
  let c := if fld o 179 175 = 31 then c else c.addRefs (qTile n) t0 (t0 + nrow - 1 + tm) [fld o 179 175]
  c.owe ⟨n, 3, o, t0, nrow, tm, nrow, [], false⟩

/-- What the start of a transposed TMOV brings about (R210 to R212). -/
def Cluster.doTranspose (c : Cluster) (n : Nat) (o : MacroOp) : Cluster :=
  let t0 := c.lcc
  let nt := fld o 167 160
  let tm := c.floor 6
  let chunks := cdiv (cdiv (tmovB o * 8 / tmovW o * nt * tmovW o) 8) 256
  let c := c.addRefs (qTile n) t0 (t0 + nt - 1) [fld o 191 187]
  let c := if fld o 179 175 = 31 then c else c.addRefs (qTile n) t0 (t0 + nt + chunks - 2 + tm) [fld o 179 175]
  c.owe ⟨n, 4, o, t0, nt, nt - 1 + tm, chunks, [], false⟩

/-- TMOV, plain or transposed (R209, R210). -/
def tmovC (c : Cluster) (n : Nat) : Cluster :=
  c.onStart (qTile n) 0x23 (fun c o => if bitAt o 159 then c.doTranspose n o else c.doMove n o)
def execTmov (n : CoreId) (s : State) : Host.Outcome State Fault Refusal := done s (tmovC s.cl n.val)

end Sys2Proof.Machine
end

