-- ==== Sys2Proof/Machine/RegMap.lean ====
section
/-! DEFINITION. The register space (R23): every register as it reads, and what a write does by its Access column (R12,
R13, R39), and the access of scalar cores to it (R269). A register that stands in `reg` reads as stored; the others
are views of the units' state. Log entries of its readings and choices: 29 DEDUCED, 33 DEDUCED, 49 DEDUCED, 62
DEDUCED, 93 DEDUCED, 104 DESIGN CHOICE. -/

namespace Sys2Proof.Machine

/-- Two 32-bit registers at one 8-byte place. -/
def pair32 (lo hi : W64) : W64 := place (fld lo 31 0) 0 ||| place (fld hi 31 0) 32

/-- A field marked "cal" reads as zero until stage 1 completes (R14). -/
def Cluster.cal (c : Cluster) (w : W64) : W64 := if 2 ≤ c.stage then w else 0
/-- A field marked "BIST" reads as zero until stage 2 completes (R14). -/
def Cluster.bist (c : Cluster) (w : W64) : W64 := if 3 ≤ c.stage then w else 0

/-- CLU_SHAPE words 0 to 2 (R429). -/
def Cluster.shapeWord (c : Cluster) (i : Nat) : W64 :=
  let f := c.flt
  if i = 0 then
    c.bist (place f.fenC.toNat 56 ||| place f.pendC.toNat 48)
      ||| c.cal (place (((List.range 4).map (fun l => if (c.lane l).up then 2 ^ l else 0)).foldl (· + ·) 0) 44)
      ||| c.bist (place (popcount 256 f.fenB.toNat) 35 ||| place (popcount 256 f.pendB.toNat) 26) ||| place f.shapeSeq 0
  else if i = 1 then c.bist (place f.pendA.toNat 32 ||| place f.fenA.toNat 0)
  else c.bist (place (((List.range 32).map (fun a => fld (c.regAt (rPatch a)) 39 38 * 4 ^ a)).foldl (· + ·) 0) 0)

/-- CLU_ window. -/
def Cluster.cluView (c : Cluster) (o : Nat) : W64 :=
  if o = 0x100 then c.shapeWord 0
  else if o = 0x108 then c.shapeWord 1
  else if o = 0x110 then c.shapeWord 2
  else if o = 0x1000 then place c.lcc 0 ||| place c.holdAct 32
  else if o = 0x1008 then place c.tim.duty 0
  else if 0x1400 ≤ o && o < 0x1440 then pair32 (c.regAt (rClu + o)) (c.regAt (rClu + o + 4))
  else c.regAt (rClu + o)

/-- The four droop thresholds in force: the calibrated ones, each shifted by the offset, within 16 bits (R439;
DESIGN CHOICE, log entry 104). -/
def Cluster.thresholds (c : Cluster) (w : W64) : W64 :=
  (List.range 4).foldl (fun (v : W64) i =>
    v ||| place (min 65535 ((fld w (16 * i + 15) (16 * i) : Int) + c.clk.thOff).toNat) (16 * i)) 0

/-- CLK_ window. -/
def Cluster.clkView (c : Cluster) (o : Nat) : W64 :=
  if o = 0 then placeB c.clk.locked 31 ||| placeB c.clk.sen 30 ||| place c.clk.reqR 8 ||| place c.level 0
  else if o = 8 then place c.clk.free 0
  else if o = 0x40 then c.cal (c.thresholds (c.regAt (rClk + o)))
  else c.regAt (rClk + o)

/-- PWR_PEAK: the image whose lining runs (R61). -/
def Cluster.peakView (c : Cluster) : W64 :=
  match c.runSlot with
  | none => 0
  | some s =>
    match vat c.imgs s none with
    | some im => place (im.peak % 1024) 16 ||| place (im.peakWin % 65536) 0
    | none => 0

/-- PWR_ window. -/
def Cluster.pwrView (c : Cluster) (o : Nat) : W64 :=
  if o = 0 then pair32 (c.regAt rPwr) c.peakView
  else if o = 0x10 then place c.tim.req 8 ||| place (c.dictAt 0x2000 0x10) 4 ||| place c.tim.duty 0
  else if 0x100 ≤ o && o < 0x128 then c.cal (pair32 (c.regAt (rPwr + o)) (c.regAt (rPwr + o + 4)))
  else if o = 0x200 then c.cal (c.regAt (rPwr + o))
  else c.regAt (rPwr + o)

/-- TB_ window (R441, R442). -/
def Cluster.tbView (c : Cluster) (o : Nat) : W64 :=
  if o = 0 then c.cal c.tb.value
  else if o = 8 then c.cal (placeB c.tb.ok 63) ||| placeB c.tb.tbok 62 ||| placeB (c.tb.debt != 0) 61
    ||| place (c.tb.dev % 256).toNat 40 ||| place c.tb.miss 16 ||| place c.tb.far 0
  else 0

/-- MGT_ window (R476). -/
def Cluster.mgtView (c : Cluster) (o : Nat) : W64 :=
  if o = 0x18 then place c.moss.evSeq 48 ||| place c.moss.events.length 44 ||| place c.moss.lost 0 else c.regAt (rMgt + o)

/-- INT_ window. -/
def Cluster.intView (c : Cluster) (o : Nat) : W64 :=
  if o = 0 then place c.intake.step 8 ||| place c.intake.state 0 else c.regAt (rInt + o)

/-- Force bits of sources 64 h to 64 h + 63 (R432). -/
def Cluster.forceBits (c : Cluster) (h : Nat) : W64 :=
  (c.flt.armed.filter (fun p => p.1 / 64 == h)).foldl (fun w p => w ||| placeB true (p.1 % 64)) 0

/-- FLT_STATE, FLT_QUIET and the force registers; the records stand in `reg`. -/
def Cluster.fltView (c : Cluster) (o : Nat) : W64 :=
  let f := c.flt
  if o = 0 then place f.recov 16 ||| place f.fatalSrc 8 ||| placeB f.alive 2 ||| place f.hstate 0
  else if o = 8 then place (if f.hstate = 2 then f.quietAt - c.tk else 0) 0
  else if o = 0x20 then c.forceBits 0
  else if o = 0x28 then c.forceBits 1
  else if o = 0x30 then place (c.dictAt 0x2403 1) 0
  else c.regAt (rFlt + o)

/-- CTX_CDESC[k], word i (R393). -/
def Cluster.cdesc (c : Cluster) (k i : Nat) : W64 :=
  let x := c.ctx k
  if i = 0 then place x.state 61 ||| placeB x.torn 60 ||| placeB x.pmiss 59 ||| place x.level 57 ||| place x.pin 55
    ||| place x.hist.length 51 ||| place x.rest 35 ||| place x.linseq.toNat 0
  else if i = 1 then place x.client.toNat 32 ||| place x.srseed.toNat 0
  else if i = 2 then place x.dlrel 32 ||| place x.allow 0
  else x.fintb

/-- CTX_SUSP[k] (R393). -/
def Cluster.suspView (c : Cluster) (k : Nat) : W64 :=
  match c.susp[k]? with
  | some p => placeB true 63 ||| place p.prio 61 ||| place p.lid 51 ||| place p.tp 0
  | none => 0

/-- CTX_ window. -/
def Cluster.ctxView (c : Cluster) (o : Nat) : W64 :=
  if o = 0 then c.regAt rCtx ||| placeB c.run.isSome 63 ||| place c.susp.length 56
  else if 0x100 ≤ o && o < 0x900 then c.cdesc ((o - 0x100) / 0x20) ((o - 0x100) % 0x20 / 8)
  else if 0x1100 ≤ o && o < 0x1120 then c.suspView ((o - 0x1100) / 8)
  else c.regAt (rCtx + o)

/-- Sync word that SYN_WSEL selects, if it translates (R369). -/
def Cluster.selWord (c : Cluster) : Option Nat :=
  let s := c.regAt (rSyn + 0x210)
  if bitAt s 63 then (c.translateVid (fld s 57 52) (fld s 15 0)).map xWord else some (fld s 16 0)

/-- The last TB not later than now whose low 16 bits are given (R368). -/
def fullTb (now lo : Nat) : Nat := now - (now + 65536 - lo) % 65536

/-- SYN_WVIEW word i (R368). -/
def Cluster.wview (c : Cluster) (i : Nat) : W64 :=
  match c.selWord with
  | none => 0
  | some w =>
    let v : W64 := BitVec.ofNat 64 (leNat (c.spdBytes (syncAddr w) 8))
    if i = 0 then v
    else if i = 1 then BitVec.ofNat 64 (fullTb c.tbNow (fld v 47 32))
    else place (((List.range 8).map (fun n => match vat c.waiters n none with
      | some wt => if wt.live && wt.word = w then 2 ^ n else 0
      | none => 0)).foldl (· + ·) 0) 0

/-- SYN_WAITER[n] (R369). -/
def Cluster.waiterView (c : Cluster) (n : Nat) : W64 :=
  match vat c.waiters n none with
  | some w => if !w.live then 0 else placeB true 63 ||| place w.kind 60 ||| place w.ctx 54 ||| placeB w.engine 53 ||| place w.word 32
      ||| place (w.deadline - c.tk) 0
  | none => 0

/-- SYN_ window. -/
def Cluster.synView (c : Cluster) (o : Nat) : W64 :=
  if o = 0x208 then place (Sparse.get c.xlat (fld (c.regAt (rSyn + 0x200)) 16 0)).toNat 0
  else if 0x218 ≤ o && o < 0x230 then c.wview ((o - 0x218) / 8)
  else if 0x300 ≤ o && o < 0x340 then c.waiterView ((o - 0x300) / 8)
  else c.regAt (rSyn + o)

/-- MSG_RWAIT of ring r (R349). -/
def Cluster.rwait (c : Cluster) (r : Nat) : W64 :=
  match c.waiting false r with
  | [] => 0
  | i :: rest =>
    match vat c.store i none with
    | some sp => placeB true 63 ||| place (rest.length + 1) 56 ||| place (sLen sp.hdr - 1) 51 ||| place (c.tk - sp.at_) 0
    | none => 0

/-- MSG_SSTAT of sorus entry e. -/
def Cluster.sstat (c : Cluster) (e : Nat) : W64 :=
  place (Sparse.get c.scount e).toNat 48 ||| place (Sparse.get c.sround e).toNat 32 ||| placeB (c.sorRes.any (fun r => r.e == e)) 31

/-- MSG_RHEAD of ring r as one 128-bit number: the header at CONS, 0 when the ring is empty. -/
def Cluster.rhead (c : Cluster) (r : Nat) : Nat :=
  if c.ringOcc r = 0 then 0 else leNat (c.spdBytes (c.ringSlot r ((c.consOf r).toNat % ringSize (c.ringD r))) 16)

/-- Registers of the fabric port (R322). -/
def Cluster.portView (c : Cluster) (o : Nat) : W64 :=
  if o < 0x80 && o % 0x20 = 0 then
    let l := c.lane (o / 0x20)
    c.cal (placeB l.up 31) ||| place l.tx 12 ||| place l.rx 0
  else if o = 0x80 then
    c.cal (((List.range 8).map (fun j => place (if c.fifoRuns j then (c.fifo j).fill else 0) (5 * j))).foldl (· ||| ·) 0)
  else if o = 0x98 then place c.retryOcc 0
  else c.regAt (rMsg + 0xC000 + o)

/-- MSG_ window. -/
def Cluster.msgView (c : Cluster) (o : Nat) : W64 :=
  let r := fld (c.regAt rMsg) 12 0
  let e := fld (c.regAt (rMsg + 0x40)) 8 0
  if o = 8 then c.ringD r
  else if o = 0x10 then place (c.prodOf r).toNat 32 ||| place (c.consOf r).toNat 0
  else if o = 0x18 then BitVec.ofNat 64 (c.rhead r)
  else if o = 0x20 then BitVec.ofNat 64 (c.rhead r / 2 ^ 64)
  else if o = 0x28 then c.rwait r
  else if o = 0x48 then Sparse.get c.sdesc0 e
  else if o = 0x50 then Sparse.get c.sdesc1 e
  else if o = 0x58 then c.sstat e
  else if o = 0x80 then place (c.storeHdrs false) 16 ||| place (c.storeSlots false) 0
  else if 0xC000 ≤ o then c.portView (o - 0xC000)
  else c.regAt (rMsg + o)

/-- Oldest of a channel's outstanding transfers that meet a condition. -/
def Chan.oldest (cn : Chan) (p : Xfer → Bool) : Option Xfer :=
  (sortOn (fun x => x.order) ((cn.tab.toList.filterMap id).filter p)).head?

/-- DMV_CHSTAT[ch] (R321). -/
def Cluster.chstat (c : Cluster) (ch : Nat) : W64 :=
  let cn := c.chan ch
  let w := place cn.outstanding 59 ||| placeB cn.park.isSome 58
  let w := match cn.oldest (fun _ => true) with
    | some x => w ||| place (opCtx x.op) 52 ||| place (opStamp x.op) 0
    | none => w
  match cn.oldest (fun x => decide (x.sent < x.blocks)) with
  | some x => w ||| place x.sent 32
  | none => w

/-- DMV_ window. -/
def Cluster.dmvView (c : Cluster) (o : Nat) : W64 := if o < 0x20 then c.chstat (o / 8) else c.regAt (rDmv + o)

/-- SPD_ window. -/
def Cluster.spdView (c : Cluster) (o : Nat) : W64 :=
  if 0x100 ≤ o && o < 0x120 then BitVec.ofNat 64 (c.flt.fenB.toNat / 2 ^ (64 * ((o - 0x100) / 8)))
  else if 0x120 ≤ o && o < 0x140 then c.bist (BitVec.ofNat 64 (c.flt.pendB.toNat / 2 ^ (64 * ((o - 0x120) / 8))))
  else if 0x1000 ≤ o && o < 0x1400 then pair32 (c.regAt (rSpd + o)) (c.regAt (rSpd + o + 4))
  else c.regAt (rSpd + o)

/-- CORE_SEGQ of core n. -/
def Cluster.segqView (c : Cluster) (n : Nat) : W64 :=
  let x := c.core n
  let w := place x.segq.length 60 ||| placeB x.segOvf 59
  match x.segq with
  | r :: _ => w ||| placeB true 63 ||| place r.ctx 53 ||| place r.tab 41 ||| place r.alt 39
  | [] => w

/-- CORE_ registers of core n. -/
def Cluster.coreView (c : Cluster) (n o : Nat) : W64 :=
  let x := c.core n
  if o = 0 then place x.mode 0 ||| placeB x.lsok 2
  else if o = 8 then c.coreState n
  else if o = 0x10 then place (((List.range 4).map (fun k => x.loopIdx k % 65536 * 65536 ^ k)).foldl (· + ·) 0) 0
  else if o = 0x18 then place (((List.range 6).map (fun j => (c.queue (6 * n + j)).ents.length * 128 ^ j)).foldl (· + ·) 0) 0
  else if o = 0x28 then c.segqView n
  else c.regAt (rCore n + o)

/-- MXE_STATE of array a (R120): FRONT without the swaps still in the pipeline, FILLING while a fill's operands are in it,
DRAINING while a drain is under way, PRELOADING while an MPRE or a drain with preload writes a set. -/
def Cluster.mxeState (c : Cluster) (a : Nat) : W64 :=
  let x := c.arr a
  let pre := x.mpre.any (fun p => decide (p.t < c.lcc)) || (match x.drn with
    | some j => j.pre
    | none => false)
  c.regAt (rMxe (a / 4) + 0x200 + 0x10 * (a % 4)) ||| placeB (c.frontAt a c.lcc) 0
    ||| placeB (x.fills.any (fun f => decide (f.t0 < c.lcc))) 1 ||| placeB x.drn.isSome 2 ||| placeB pre 3

/-- MXE_ registers of core n. -/
def Cluster.mxeView (c : Cluster) (n o : Nat) : W64 :=
  if 0x200 ≤ o && o < 0x240 && o % 0x10 = 0 then c.mxeState (4 * n + (o - 0x200) / 0x10) else c.regAt (rMxe n + o)

/-- TIL_ registers of core n. -/
def Cluster.tilView (c : Cluster) (n o : Nat) : W64 :=
  if o < 0x60 then pair32 (c.regAt (rTil n + o)) (c.regAt (rTil n + o + 4))
  else if o = 0x300 then c.tstart n
  else c.regAt (rTil n + o)

/-- The registers of a core's window. -/
def Cluster.coreWin (c : Cluster) (n o : Nat) : W64 :=
  if o < 0x4000 then c.coreView n o
  else if o < 0x8000 then c.mxeView n (o - 0x4000)
  else if o < 0xC000 then c.regAt (rCore n + o)
  else c.tilView n (o - 0xC000)

/-- The 8 bytes of register space at an address that is a multiple of 8; a place with no register reads as zero. -/
def Cluster.view64 (c : Cluster) (a : Nat) : W64 :=
  let o := a % 0x10000
  match (a - 0x20000000) / 0x10000 with
  | 0 => c.cluView o
  | 1 => c.clkView o
  | 2 => c.pwrView o
  | 3 => c.tbView o
  | 4 => c.mgtView o
  | 5 => c.intView o
  | 6 => c.fltView o
  | 7 => c.ctxView o
  | 8 => c.synView o
  | 9 => c.msgView o
  | 10 => c.dmvView o
  | 11 => c.spdView o
  | w => if 16 ≤ w && w < 24 then c.coreWin (w - 16) o else 0

/-- A 32-bit read of register space. -/
def Cluster.reg32 (c : Cluster) (a : Nat) : W32 :=
  let w := c.view64 (a / 8 * 8)
  BitVec.ofNat 32 (if a % 8 = 0 then fld w 31 0 else fld w 63 32)

/-- Verifier-written table words that a register read uses (R416). -/
def Cluster.viewKeys (c : Cluster) (a : Nat) : List Nat :=
  let r := fld (c.regAt rMsg) 12 0
  let e := fld (c.regAt (rMsg + 0x40)) 8 0
  [a / 8 * 8] ++ (if a / 8 * 8 = rMsg + 8 then [kRing r] else []) ++ (if a / 8 * 8 = rMsg + 0x48 then [kSorus e] else [])
    ++ (if a / 8 * 8 = rMsg + 0x50 then [kSorus e + 1] else [])
    ++ (if a / 8 * 8 = rSyn + 0x208 then [kXlat (fld (c.regAt (rSyn + 0x200)) 16 0)] else [])

/-- Scratchpad bytes that a register view shows, as first byte and count: the sync word of SYN_WVIEW (R368), the header
of MSG_RHEAD. -/
def Cluster.viewSpan (c : Cluster) (a : Nat) : Option (Nat × Nat) :=
  let b := a / 8 * 8
  if b = rSyn + 0x218 || b = rSyn + 0x220 then c.selWord.map (fun w => (syncAddr w, 8))
  else if b = rMsg + 0x18 || b = rMsg + 0x20 then
    let r := fld (c.regAt rMsg) 12 0
    if c.ringOcc r = 0 then none else some (c.ringSlot r ((c.consOf r).toNat % ringSize (c.ringD r)), 16)
  else none

/-- What the read of a view does to the scratchpad: its stored errors are met as in every read, and its lines take open
slots in class 5 (R284, R290, R291). Log entry 93 says when. -/
def Cluster.viewRead (c : Cluster) (a : Nat) : Cluster :=
  match c.viewSpan a with
  | none => c
  | some p => (c.spdScan 1 0 p.1 p.2).claimSlots p.1 p.2

/-- A 32-bit register read through the table check: a word that cannot be used reads as zero (R416). -/
def Cluster.regRead (c : Cluster) (a : Nat) : W32 × Cluster :=
  let p := c.tabRead (c.viewKeys a)
  if p.2 then (p.1.reg32 a, p.1.viewRead a) else (0, p.1)

/-- Addresses of the 48-bit counters, W1C as a whole field (R39). -/
def isCounter (a : Nat) : Bool :=
  let o := a % 0x10000
  let w := (a - 0x20000000) / 0x10000
  (w == 0 && ((decide (0x1010 ≤ o) && decide (o < 0x1040)) || (decide (0x1100 ≤ o) && decide (o < 0x12A0))))
    || (w == 1 && decide (0x18 ≤ o) && decide (o < 0x30)) || (w == 4 && (o == 8 || o == 0x10))
    || (w == 5 && (o == 0x200 || o == 0x208)) || (w == 8 && decide (0x500 ≤ o) && decide (o < 0x518))
    || (w == 9 && ((decide (0x200 ≤ o) && decide (o < 0x238)) || o == 0xC088
        || (decide (0xC000 ≤ o) && decide (o < 0xC080) && (o % 0x20 == 8 || o % 0x20 == 0x10))))
    || (w == 10 && o == 0x110) || (w == 11 && decide (0x20 ≤ o) && decide (o < 0x38))
    || (decide (16 ≤ w) && (o == 0x20 || o == 0x4300 || (decide (0x4140 ≤ o) && decide (o < 0x4160))))

/-- W1C bits of the event registers, which clear one by one. -/
def eventMask (a : Nat) : Nat :=
  let o := a % 0x10000
  let w := (a - 0x20000000) / 0x10000
  if w = 0 && o = 0x1040 then 2 ^ 58 - 1
  else if w = 1 && o = 0x30 then 7
  else if w = 4 && o = 0x20 then 3
  else if w = 5 && o = 0x210 then 3
  else if w = 8 && o = 0x518 then 7
  else if w = 9 && o = 0x240 then 0x7F
  else if w = 9 && o = 0xC090 then 0x1FF
  else if w = 10 && o = 0x118 then 1
  else if w = 11 && o = 0x38 then 7
  else if 16 ≤ w && (o = 0x38 || o = 0x4310) then 1
  else if 16 ≤ w && 0x4200 ≤ o && o < 0x4240 && o % 0x10 = 0 then 0x100
  else 0

/-- Records whose VALID bit is W1C: the bit, the words that clear with it, and the bits of word 0 that stay. -/
def recordAt (a : Nat) : Option (Nat × List Nat × Nat) :=
  let o := a % 0x10000
  let w := (a - 0x20000000) / 0x10000
  if w = 0 && o = 0x1300 then some (63, [], 0)
  else if w = 5 && o = 0x10 then some (63, [], 2 ^ 63 - 1)
  else if w = 6 && o = 0x10 then some (63, [], 2 ^ 62 - 1)
  else if w = 7 && o = 0x1000 then some (63, [], 0)
  else if w = 8 && (o = 0x400 || o = 0x420) then some (63, [a + 8, a + 16], 0)
  else if w = 9 && o = 0x100 then some (63, [a + 8], 0)
  else if w = 10 && o = 0x100 then some (63, [a + 8], 0)
  else if w = 11 && o = 0x10 then some (63, [a + 8], 0)
  else if 16 ≤ w && o = 0x30 then some (63, [], 0xFF * 2 ^ 53)
  else if 16 ≤ w && o = 0x4308 then some (63, [], 0)
  else if 16 ≤ w && 0x4100 ≤ o && o < 0x4140 && o % 0x10 = 0 then some (47, [], 0xFFFF * 2 ^ 48)
  else if 16 ≤ w && o = 0xC300 then some (62, [], 0)
  else if 16 ≤ w && o = 0xC308 then some (63, [a + 8], 0)
  else none

/-- Clear a record (W1C of its VALID bit). -/
def Cluster.clearRecord (c : Cluster) (a : Nat) (p : Nat × List Nat × Nat) : Cluster :=
  (c.setReg a (c.regAt a &&& BitVec.ofNat 64 p.2.2)).each p.2.1 (fun c b => c.setReg b 0)

/-- Registers with RW fields that have no maintenance level: their writable bits. -/
def rwMask (a : Nat) : Nat :=
  if a = rMsg then 0x1FFF
  else if a = rMsg + 0x40 then 0x1FF
  else if a = rSyn + 0x200 then 0x1FFFF
  else if a = rSyn + 0x210 then 2 ^ 63 + 0x3F * 2 ^ 52 + 0x1FFFF
  else 0

/-- The bits of a register that are reserved by what it holds: SYN_WSEL[16] while VIRT is 1 (R369). -/
def heldReserved (a : Nat) (v : W64) : W64 := if a = rSyn + 0x210 && bitAt v 63 then place 1 16 else 0

/-- A 64-bit write of register space with a mask of the bytes written, by the Access column: RW fields take the value,
W1C fields clear on 1, RO fields ignore it (R12, R13, R39). -/
def Cluster.regPut (c : Cluster) (a : Nat) (v m : W64) : Cluster :=
  let x := v &&& m
  if isCounter a then (if fld x 47 0 ≠ 0 then c.setReg a 0 else c)
  else if a % 0x10000 = 0x28 && 0x20100000 ≤ a then
    (if bitAt x 59 then c.setCore ((a - 0x20100000) / 0x10000) { c.core ((a - 0x20100000) / 0x10000) with segOvf := false } else c)
  else
    match recordAt a with
    | some p => if bitAt x p.1 then c.clearRecord a p else c
    | none =>
      let ev := eventMask a
      if ev ≠ 0 then c.setReg a (c.regAt a &&& ~~~(x &&& BitVec.ofNat 64 ev))
      else
        let rw := BitVec.ofNat 64 (rwMask a) &&& m
        let w := (c.regAt a &&& ~~~rw) ||| (v &&& rw)
        if rw = 0 then c else c.setReg a (w &&& ~~~heldReserved a w)

/-- A 32-bit write of register space. -/
def Cluster.regWrite (c : Cluster) (a : Nat) (v : W32) : Cluster :=
  let sh := 32 * (a / 4 % 2)
  c.regPut (a / 8 * 8) (place v.toNat sh) (place (2 ^ 32 - 1) sh)

/-- May core n read the register at an address (R269)? -/
def rrdAllowed (n a : Nat) : Bool :=
  let w := (a - 0x20000000) / 0x10000
  decide (0x20000000 ≤ a) && decide (a < 0x20180000) && a % 4 == 0 && (decide (w ≤ 3) || w == 10 || w == 16 + n)

/-- May core n write the register at an address (R269): CORE_QFULLCYC and CORE_EVT of its own. -/
def rwrAllowed (n a : Nat) : Bool := a % 4 == 0 && (a / 8 * 8 == rCore n + 0x20 || a == rCore n + 0x38)

/-- ADDR_UNMAPPED, contained to the current context (R25, R269). -/
def Cluster.unmapped (c : Cluster) (n : Nat) : Cluster := c.raise 0x10 n (c.core n).cur

/-- What an RRD does (R269). -/
def Cluster.doRrd (c : Cluster) (n : Nat) (x : Core) (w : Nat) : Cluster :=
  let a := (x.s (sRa w)).toNat
  if rrdAllowed n a then
    let p := c.regRead a
    let y := p.2.core n
    p.2.setCore n (y.setS (sRd w) (place p.1.toNat 0)).adv
  else (c.setCore n (x.setS (sRd w) 0).adv).unmapped n

/-- RRD (R268, R269). -/
def rrdC (c : Cluster) (n : Nat) : Cluster := c.scal n (isFn 0x1E 0) (fun c x w => c.doRrd n x w)
def execRrd (n : CoreId) (s : State) : Host.Outcome State Fault Refusal := done s (rrdC s.cl n.val)

/-- What an RWR does: the value is rb's low 32 bits (R269; that the value stands in rb is DEDUCED, log entry 62). -/
def Cluster.doRwr (c : Cluster) (n : Nat) (x : Core) (w : Nat) : Cluster :=
  let a := (x.s (sRa w)).toNat
  let c := c.setCore n x.adv
  if rwrAllowed n a then c.regWrite a (BitVec.ofNat 32 (x.s (sRb w)).toNat) else c.unmapped n

/-- RWR (R268, R269). -/
def rwrC (c : Cluster) (n : Nat) : Cluster := c.scal n (isFn 0x1E 1) (fun c x w => c.doRwr n x w)
def execRwr (n : CoreId) (s : State) : Host.Outcome State Fault Refusal := done s (rwrC s.cl n.val)

end Sys2Proof.Machine
end

