-- ==== Sys2Proof/Machine/Dict.lean ====
section
/-! DEFINITION. The object dictionary: which entries exist, their lengths and access levels, the fields of the
writable ones with their ranges, and clamping with its report (R12, R460 to R467, R470). Log entries of its readings
and choices: 7 DESIGN CHOICE, 16 DEDUCED, 17 DEDUCED, 18 DEDUCED, 50 DEDUCED. -/

namespace Sys2Proof.Machine

/-- Access levels. `dbg` needs the debug grant for every access. -/
inductive Acc where
  | ro | rw | wo | rwm | dbg | dbgwo | dbgro
  deriving DecidableEq, Repr

/-- How a field of a writable entry is checked (R466): any value, clamped below and above, clamped above only, zero or
at least a bound, cleared bits, a BOOL byte, a signed 32-bit range, or ignored outside or inside a range. -/
inductive Rng where
  | any
  | clamp (lo hi : Nat)
  | high (hi : Nat)
  | gap (lo hi : Nat)
  | cleared
  | bool
  | signed (lo hi : Int)
  | only (lo hi : Nat)
  | ignore (lo hi : Nat)
  deriving DecidableEq, Repr

/-- A field: its bits and its check. -/
structure DField where
  hi  : Nat
  lo  : Nat
  rng : Rng
  deriving DecidableEq, Repr

/-- An entry: length in bytes (0 for STR and DOMAIN), access, and fields from the lowest bit upward. -/
structure DEnt where
  len    : Nat
  acc    : Acc
  fields : List DField
  deriving DecidableEq, Repr

/-- An entry of one field. -/
def ent1 (len : Nat) (acc : Acc) (r : Rng) : Option DEnt := some ⟨len, acc, [⟨8 * len - 1, 0, r⟩]⟩
/-- A read-only entry. -/
def entRo (len : Nat) : Option DEnt := some ⟨len, .ro, []⟩
/-- A field of cleared bits above a plain field. -/
def entTop (len : Nat) (acc : Acc) (top : Nat) : Option DEnt :=
  some ⟨len, acc, [⟨top - 1, 0, .any⟩, ⟨8 * len - 1, top, .cleared⟩]⟩

/-- Entries of the identity, start-up, clamp and clock areas (R9, R429, R453, R467, R471). -/
def entLow (i s : Nat) : Option DEnt :=
  if i = 0x1000 then
    (if s = 1 || s = 2 then entRo 0 else if 3 ≤ s && s ≤ 5 then entRo 1 else if s = 6 then entRo 2
     else if 0x10 ≤ s && s ≤ 0x12 then entRo 8 else none)
  else if i = 0x1100 then
    (if s = 1 || s = 6 || s = 9 then entRo 1 else if 2 ≤ s && s ≤ 4 then entRo 4 else if s = 7 || s = 8 then entRo 2 else none)
  else if i = 0x1F00 then (if s = 1 then entRo 4 else if 0x10 ≤ s && s ≤ 0x3F then entRo 8 else none)
  else if i = 0x2000 then
    (if s = 1 || s = 0x11 || s = 0x12 then entRo 1 else if 2 ≤ s && s ≤ 4 then entRo 8
     else if s = 5 then ent1 4 .rwm (.signed (-64) 64) else if s = 0x10 then ent1 1 .rw (.high 12)
     else if s = 0x20 then ent1 2 .rw (.clamp 240 1000) else if s = 0x21 then entRo 2
     else if 0x30 ≤ s && s ≤ 0x38 then entRo 4 else if s = 0x40 || s = 0x50 || s = 0x51 then entRo 8 else none)
  else none

/-- Entries of the scratchpad, patch-map and control-core areas (R113, R254, R303, R430). -/
def entUnits (i s : Nat) : Option DEnt :=
  if i = 0x2100 then
    (if s = 1 then ent1 4 .rw (.clamp 64 65536) else if s = 2 then ent1 1 .rw (.clamp 1 255) else if s = 3 then entRo 1
     else if s = 4 then entRo 4 else if 0x10 ≤ s && s ≤ 0x13 then entRo 8 else if 0x14 ≤ s && s ≤ 0x17 then ent1 8 .rwm .any
     else if s = 0x20 || s = 0x21 then entRo 8 else none)
  else if i = 0x2200 then (if s = 1 then ent1 2 .rw (.clamp 1 255) else none)
  else if i = 0x2201 then (if s ≤ 0x20 then entTop 8 .rwm 34 else none)
  else if i = 0x2202 then (if s ≤ 0x20 then entRo 8 else none)
  else if i = 0x2203 then (if s = 1 then ent1 1 .rwm .any else none)
  else if i = 0x2300 then (if s ≤ 8 then ent1 1 .rw (.high 2) else if s = 0x10 then ent1 1 .rw (.clamp 1 255) else none)
  else if i = 0x2301 then (if s ≤ 8 || (0x11 ≤ s && s ≤ 0x18) then entRo 1 else none)
  else none

/-- Entries of the scheduling and intake areas (R394, R409). -/
def entSched (i s : Nat) : Option DEnt :=
  if i = 0x2302 then
    (if s = 1 || s = 2 then ent1 4 .rw (.high 12500000) else if s = 3 then ent1 2 .rw .any else none)
  else if i = 0x2303 then
    (if s = 1 then entTop 2 .rw 10 else if s = 2 then ent1 8 .rw .any
     else if s = 3 then some ⟨1, .rw, [⟨0, 0, .any⟩, ⟨2, 1, .any⟩, ⟨7, 3, .cleared⟩]⟩
     else if s = 4 then ent1 4 .rw (.gap 1250 1250000000) else if s = 5 || s = 7 then ent1 1 .wo .bool
     else if s = 6 then entTop 2 .wo 10 else if s = 8 then entRo 1 else if s = 9 then entRo 4 else none)
  else if 0x2310 ≤ i && i ≤ 0x234F then
    (if s ≤ 3 then ent1 4 .rw .any else if s = 4 then ent1 1 .rw (.high 3) else if s = 5 || s = 6 then ent1 1 .wo .bool
     else if s = 7 || s = 8 then entRo 1 else if s = 9 || s = 0xB then entRo 4 else if s = 0xA then entRo 8 else none)
  else if i = 0x2380 then
    (if s = 1 then ent1 4 .rw (.high 3129343) else if s = 2 then ent1 4 .rw (.clamp 1 262144)
     else if s = 3 then ent1 1 .wo (.only 1 3) else if 4 ≤ s && s ≤ 6 then entRo 1 else none)
  else if i = 0x2381 then (if s ≤ 8 then ent1 1 .wo .bool else none)
  else if i = 0x2382 then (if s = 1 then ent1 4 .rw (.clamp 125000 125000000) else none)
  else none

/-- Entries of the fault, accounting and floor areas (R52, R394, R433, R472). -/
def entFaults (i s : Nat) : Option DEnt :=
  if i = 0x2400 then
    (if s = 1 || s = 7 || s = 8 then entRo 1 else if s = 2 then entRo 2 else if s = 3 || s = 4 then entRo 8
     else if s = 5 then ent1 1 .wo .bool else if s = 6 then ent1 1 .wo (.ignore 0x80 0xFE)
     else if s = 0x10 then ent1 4 .rw (.clamp 1250 12500000) else if s = 0x11 then ent1 4 .rw (.clamp 125000 125000000) else none)
  else if i = 0x2401 then (if s ≤ 0x80 then entRo 8 else none)
  else if i = 0x2402 then (if s ≤ 0x80 then ent1 1 .rwm .bool else none)
  else if i = 0x2403 then
    (if s = 1 then some ⟨4, .rwm, [⟨11, 0, .any⟩, ⟨17, 12, .any⟩, ⟨31, 18, .cleared⟩]⟩ else none)
  else if i = 0x2500 then (if s ≤ 0x10 || s = 0x21 then entRo 4 else if s = 0x20 then entRo 8 else none)
  else if 0x2600 ≤ i && i ≤ 0x263F then (if s ≤ 0x10 then entRo 8 else if s = 0x11 then entRo 2 else none)
  else if i = 0x2640 then (if s ≤ 0x40 then ent1 1 .wo .bool else none)
  else if 0x2680 ≤ i && i ≤ 0x26BF then
    (if s ≤ 0x10 || s = 0x13 then entRo 8 else if s = 0x11 then entRo 2 else if s = 0x12 then entRo 4 else none)
  else none

/-- Fields of a remote window's word 0 (R310, R323). -/
def winFields : List DField :=
  [⟨5, 0, .cleared⟩, ⟨47, 6, .any⟩, ⟨60, 48, .cleared⟩, ⟨61, 61, .any⟩, ⟨62, 62, .any⟩, ⟨63, 63, .any⟩]

/-- Entries of the messaging, window and debug areas (R323, R350, R473 to R476). -/
def entLinks (i s : Nat) : Option DEnt :=
  if i = 0x2700 then
    (if s = 1 then ent1 4 .rw (.clamp 125 1250000) else if s = 2 then ent1 4 .rw (.clamp 250 2500000)
     else if s = 3 then ent1 4 .rw (.clamp 1 1250000) else if s = 0x10 then entTop 2 .wo 13 else if s = 0x11 then entTop 2 .wo 9
     else if 0x20 ≤ s && s ≤ 0x22 then entRo 8 else if s = 0x23 then entRo 2 else none)
  else if i = 0x2780 then (if s ≤ 0x40 then some ⟨8, .rw, winFields⟩ else none)
  else if i = 0x2781 then (if s ≤ 0x40 then entTop 8 .rw 34 else none)
  else if i = 0x2782 then (if s ≤ 4 then ent1 1 .wo .bool else none)
  else if i = 0x2783 then
    (if s = 1 then ent1 4 .rw (.clamp 1250 12500000) else if s = 2 then ent1 1 .rw (.clamp 2 32) else none)
  else if i = 0x2784 then (if s ≤ 4 then entRo 1 else none)
  else if i = 0x3000 then
    (if s = 1 then some ⟨4, .dbg, [⟨2, 0, .cleared⟩, ⟨31, 3, .any⟩]⟩ else if s = 2 then some ⟨0, .dbg, []⟩ else none)
  else if i = 0x3001 then
    (if s = 1 then ent1 1 .dbg .bool else if s = 2 then ent1 4 .dbgwo (.ignore 0 0) else if s = 3 then some ⟨1, .dbgro, []⟩ else none)
  else if i = 0x3002 then (if s = 1 then entRo 1 else none)
  else if i = 0x3003 then (if s ≤ 5 then entRo 8 else none)
  else none

/-- The entry at an index and a subindex that is not 0. -/
def entryAt (i s : Nat) : Option DEnt :=
  if s = 0 then none
  else if i < 0x2100 then entLow i s
  else if i < 0x2302 then entUnits i s
  else if i < 0x2400 then entSched i s
  else if i < 0x2700 then entFaults i s
  else entLinks i s

/-- Highest subindex defined under an index, if the index is in use (R462, R470). -/
def topSub (i : Nat) : Option Nat := ((List.range 256).filter (fun s => (entryAt i s).isSome)).getLast?

/-- The entry at an index and subindex; subindex 0 of an index in use is a read-only U8 (R462). -/
def dictEntry (i s : Nat) : Option DEnt := if s = 0 then (if (topSub i).isSome then entRo 1 else none) else entryAt i s

/-- One field checked (R466): the stored value, and the kind of its clamp record, if any. -/
def checkField (r : Rng) (v old : Nat) : Nat × Option Nat :=
  match r with
  | .any => (v, none)
  | .clamp lo hi => if v < lo then (lo, some 0) else if hi < v then (hi, some 1) else (v, none)
  | .high hi => if hi < v then (hi, some 1) else (v, none)
  | .gap lo hi => if v ≠ 0 && v < lo then (lo, some 0) else if hi < v then (hi, some 1) else (v, none)
  | .cleared => if v ≠ 0 then (0, some 2) else (v, none)
  | .bool => if 1 < v then (1, some 2) else (v, none)
  | .signed lo hi =>
    let x := sextN 32 v
    if x < lo then ((lo % 2 ^ 32).toNat, some 0) else if hi < x then ((hi % 2 ^ 32).toNat, some 1) else (v, none)
  | .only lo hi => if lo ≤ v && v ≤ hi then (v, none) else (old, some 3)
  | .ignore lo hi => if lo ≤ v && v ≤ hi then (old, some 3) else (v, none)

/-- Add a clamp record (R467). -/
def Cluster.clampRec (c : Cluster) (i s kind flsb written stored : Nat) : Cluster :=
  let m := (c.moss.clamps + 1) % 2 ^ 32
  let slot := (m + 2 ^ 32 - 1) % 2 ^ 32 % 16
  let c := { c with moss := { c.moss with clamps := m } }
  ((c.setDict 0x1F00 (0x10 + slot) (i <<< 48 + s <<< 40 + kind <<< 37 + flsb <<< 31 + m % 65536)).setDict 0x1F00 (0x20 + slot)
    written).setDict 0x1F00 (0x30 + slot) stored

/-- A written value field by field, from the lowest bit upward: the value with its fields as stored, the cluster with
their records, and whether some field acts (R466, R467). -/
def Cluster.clampFields (c : Cluster) (i s v old : Nat) : List DField → Cluster × Nat × Bool
  | [] => (c, 0, false)
  | f :: fs =>
    let n := f.hi + 1 - f.lo
    let x := v / 2 ^ f.lo % 2 ^ n
    let r := checkField f.rng x (old / 2 ^ f.lo % 2 ^ n)
    let c := match r.2 with
      | some kind => c.clampRec i s kind f.lo x r.1
      | none => c
    let q := c.clampFields i s v old fs
    (q.1, r.1 * 2 ^ f.lo + q.2.1, q.2.2 || r.2 != some 3)

/-- Check a value written to an entry: the cluster with the records, the stored value, and whether the write acts. -/
def Cluster.clampEntry (c : Cluster) (i s v : Nat) : Cluster × Nat × Bool :=
  match dictEntry i s with
  | some e => c.clampFields i s v (c.dictAt i s) e.fields
  | none => (c, v, false)

/-- A write to an entry: its value is clamped and, if it acts, handed on (R466). -/
def Cluster.written (c : Cluster) (i s v : Nat) (f : Cluster → Nat → Cluster) : Cluster :=
  if !c.answers then c
  else
    let p := c.clampEntry i s v
    if p.2.2 then f p.1 p.2.1 else p.1

/-- HALTREQ is cleared; the halt ends through the evaluation of the cycles that follow (R41, R475). -/
def Cluster.unhalt (c : Cluster) : Cluster := { c with tim := { c.tim with haltReq := false } }

/-- The grant levels as sampled with a request (R464); a debug grant that is gone ends the halt (R475). -/
def Cluster.sample (c : Cluster) (g : Grants) : Cluster :=
  let c := { c with moss := { c.moss with maint := g.maint, debug := g.debug } }
  if g.debug then c else c.unhalt

/-- A write at the RW-maint level (R463). -/
def Cluster.writtenM (c : Cluster) (g : Grants) (i s v : Nat) (f : Cluster → Nat → Cluster) : Cluster :=
  if c.answers then (let c := c.sample g; if g.maint then c.written i s v f else c) else c

/-- A write of a debug entry (R463). -/
def Cluster.writtenD (c : Cluster) (g : Grants) (i s v : Nat) (f : Cluster → Nat → Cluster) : Cluster :=
  if c.answers then (let c := c.sample g; if g.debug then c.written i s v f else c) else c

end Sys2Proof.Machine
end

