-- ==== Sys2Proof/Machine/Faults.lean ====
section
/-! DEFINITION. Commands of the runtime through the dictionary that act on the fault collector, on fences, on the
messaging and data-mover units, and on the halt; and the end of the quiet period (R419, R423, R427, R432, R475). Log
entries of its readings and choices: 16 DEDUCED, 27 DEDUCED, 47 DEDUCED, 49 DEDUCED, 50 DEDUCED, 105 DEDUCED. -/

namespace Sys2Proof.Machine

/-- Register address of FLT_SRC[s] (R417). -/
def rSrc (s : Nat) : Nat := rFlt + 0x1000 + 8 * s

/-- Does a source's record hold a pending fault of a class? -/
def Cluster.pendingOf (c : Cluster) (cls s : Nat) : Bool := bitAt (c.regAt (rSrc s)) 63 && fld (c.regAt (rSrc s)) 62 61 == cls

/-- Does any record hold a pending C fault? -/
def Cluster.anyC (c : Cluster) : Bool := (List.range 128).any (c.pendingOf 1)

/-- Clear PEND of a source's record (R419). -/
def Cluster.ackOne (c : Cluster) (s : Nat) : Cluster := c.setReg (rSrc s) (setFld (c.regAt (rSrc s)) 63 63 0)

/-- QUIET_EXPIRY (R423): pending U records are acknowledged, the recovery counter rises, and HSTATE follows. -/
def quietExpiryC (c : Cluster) : Cluster :=
  if c.live && c.flt.hstate == 2 && decide (c.flt.quietAt ≤ c.tk) then
    let c := c.each ((List.range 128).filter (c.pendingOf 2)) Cluster.ackOne
    let c := { c with flt := { c.flt with recov := satN 0xFFFF (c.flt.recov + 1) } }
    c.setHealth (if c.anyC then 1 else 0)
  else c
def execQuietExpiry (s : State) : Host.Outcome State Fault Refusal := done s (quietExpiryC s.cl)

/-- Acknowledge source v, or every source (R419); the last pending C record of CORR leaves NORMAL (R422). -/
def Cluster.ack (c : Cluster) (v : Nat) : Cluster :=
  let c := c.each (if v = 0xFF then List.range 128 else [v]) (fun c s =>
    if bitAt (c.regAt (rSrc s)) 63 then c.ackOne s else c)
  if c.flt.hstate = 1 && !c.anyC then c.setHealth 0 else c

/-- ACKNOWLEDGE (R419, R433). -/
def acknowledgeC (c : Cluster) (v : Nat) : Cluster := c.written 0x2400 6 v Cluster.ack
def execAcknowledge (v : Byte) (s : State) : Host.Outcome State Fault Refusal := done s (acknowledgeC s.cl v.toNat)

/-- CLEAR_FIRST (R418): VALID and OVF clear. -/
def clearFirstC (c : Cluster) : Cluster :=
  if c.answers then c.setReg (rFlt + 0x10) (setFld (c.regAt (rFlt + 0x10)) 63 62 0) else c
def execClearFirst (s : State) : Host.Outcome State Fault Refusal := done s (clearFirstC s.cl)

/-- Context and instance staged in the force argument (R432). -/
def Cluster.forceCtx (c : Cluster) : Nat := c.dictAt 0x2403 1 / 4096 % 64
def Cluster.forceInst (c : Cluster) : Nat := c.dictAt 0x2403 1 % 4096

/-- A fault forced at the collector: containment of its scope, then the record with FORCED set (R411, R432). -/
def Cluster.forceCol (c : Cluster) (src : Nat) (i : SrcInfo) : Cluster :=
  let k := c.forceCtx
  let f : FaultIn := { src := src, cls := i.cls, inst := c.forceInst, scope := i.scope, ctx := k, forced := true,
                       torn := (c.ctx k).torn }
  let c := if i.scope = 1 then c.teardown k else if i.scope = 2 then c.containLining else c
  c.record f

/-- Arm the detector of the staged instance (R432). -/
def Cluster.arm (c : Cluster) (src : Nat) : Cluster :=
  let inst := c.forceInst
  let c := c.disarm src
  { c with flt := { c.flt with armed := c.flt.armed ++ [(src, inst)] } }

/-- A write of 1 to a force bit (R432); the bit of a reserved source has no effect (R412). -/
def Cluster.force (c : Cluster) (src : Nat) : Cluster :=
  match srcInfo src with
  | none => c
  | some i => if i.det then c.arm src else c.forceCol src i

/-- FORCE_FAULT (R432). -/
def forceFaultC (c : Cluster) (src : Nat) (g : Grants) : Cluster := c.writtenM g 0x2402 (src + 1) 1 (fun c _ => c.force src)
def execForceFault (src : SrcId) (g : Grants) (s : State) : Host.Outcome State Fault Refusal := done s (forceFaultC s.cl src.val g)

/-- FORCE_DISARM (R432). -/
def forceDisarmC (c : Cluster) (src : Nat) (g : Grants) : Cluster := c.writtenM g 0x2402 (src + 1) 0 (fun c _ => c.disarm src)
def execForceDisarm (src : SrcId) (g : Grants) (s : State) : Host.Outcome State Fault Refusal := done s (forceDisarmC s.cl src.val g)

/-- Put the witness threshold in force and compare every array's COUNT with it (R118, R427). -/
def Cluster.setWitThr (c : Cluster) (v : Nat) : Cluster :=
  (c.setDict 0x2200 1 v).each (List.range 32) (fun c a =>
    if v ≤ fld (c.regAt (rMxe (a / 4) + 0x100 + 0x10 * (a % 4))) 63 48 then c.pendArr a else c)

/-- Put the lockstep threshold in force and compare every core's stop count with it (R278, R427). -/
def Cluster.setStopThr (c : Cluster) (v : Nat) : Cluster :=
  (c.setDict 0x2300 0x10 v).each (List.range 8) (fun c n => if v ≤ fld (c.regAt (rCore n + 0x30)) 60 53 then c.pendCore n else c)

/-- Put the bank threshold in force and compare every bank's count with it (R293, R427). -/
def Cluster.setBankThr (c : Cluster) (v : Nat) : Cluster :=
  (c.setDict 0x2100 2 v).each (List.range 256) (fun c p =>
    if v ≤ fld (c.regAt (rSpd + 0x1000 + 4 * p)) 7 0 then c.pendBank p else c)

/-- FENCE_THRESHOLD_WRITE (R427). -/
def fenceThresholdWriteC (c : Cluster) (which : FenceKind) (v : Nat) : Cluster :=
  match which with
  | .witness => c.written 0x2200 1 (v % 65536) Cluster.setWitThr
  | .lockstep => c.written 0x2300 0x10 (v % 256) Cluster.setStopThr
  | .bank => c.written 0x2100 2 (v % 256) Cluster.setBankThr
def execFenceThresholdWrite (which : FenceKind) (v : Nat) (s : State) : Host.Outcome State Fault Refusal :=
  done s (fenceThresholdWriteC s.cl which v)

/-- Put word k of the supplied bank fence mask in force (R302). -/
def Cluster.setBankMask (c : Cluster) (k v : Nat) : Cluster :=
  (c.setDict 0x2100 (0x14 + k) v).each (bitsOf 64 v) (fun c i => c.pendBank (64 * k + i))

/-- BANK_FENCE_MASK_WRITE (R302, R303). -/
def bankFenceMaskWriteC (c : Cluster) (k : Nat) (v : W64) (g : Grants) : Cluster :=
  c.writtenM g 0x2100 (0x14 + k) v.toNat (fun c v => c.setBankMask k v)
def execBankFenceMaskWrite (k : Fin 4) (v : W64) (g : Grants) (s : State) : Host.Outcome State Fault Refusal :=
  done s (bankFenceMaskWriteC s.cl k.val v g)

/-- Put the supplied core fence mask in force (R430). -/
def Cluster.setCoreMask (c : Cluster) (v : Nat) : Cluster := (c.setDict 0x2203 1 v).each (bitsOf 8 v) Cluster.pendCore

/-- CORE_FENCE_MASK_WRITE (R430). -/
def coreFenceMaskWriteC (c : Cluster) (v : Byte) (g : Grants) : Cluster := c.writtenM g 0x2203 1 v.toNat Cluster.setCoreMask
def execCoreFenceMaskWrite (v : Byte) (g : Grants) (s : State) : Host.Outcome State Fault Refusal :=
  done s (coreFenceMaskWriteC s.cl v g)

/-- Take a supplied bad-column map (R113, R427). -/
def Cluster.setBadCols (c : Cluster) (a v : Nat) : Cluster := (c.setDict 0x2201 (a + 1) v).judgeMap a

/-- BAD_COLUMN_MAP_WRITE (R113). -/
def badColumnMapWriteC (c : Cluster) (a : Nat) (v : W64) (g : Grants) : Cluster :=
  c.writtenM g 0x2201 (a + 1) v.toNat (fun c v => c.setBadCols a v)
def execBadColumnMapWrite (a : ArrayId) (v : W64) (g : Grants) (s : State) : Host.Outcome State Fault Refusal :=
  done s (badColumnMapWriteC s.cl a.val v g)

/-- BUDGET_WRITE (R61). -/
def budgetWriteC (c : Cluster) (v : W16) : Cluster := c.written 0x2000 0x20 v.toNat (fun c v => c.setReg rPwr (BitVec.ofNat 64 v))
def execBudgetWrite (v : W16) (s : State) : Host.Outcome State Fault Refusal := done s (budgetWriteC s.cl v)

/-- THROTTLE_FLOOR_WRITE (R445). -/
def throttleFloorWriteC (c : Cluster) (v : Byte) : Cluster := c.written 0x2000 0x10 v.toNat (fun c v => c.setDict 0x2000 0x10 v)
def execThrottleFloorWrite (v : Byte) (s : State) : Host.Outcome State Fault Refusal := done s (throttleFloorWriteC s.cl v)

/-- SCRUB_INTERVAL_WRITE (R295). -/
def scrubIntervalWriteC (c : Cluster) (v : W32) : Cluster := c.written 0x2100 1 v.toNat (fun c v => c.setDict 0x2100 1 v)
def execScrubIntervalWrite (v : W32) (s : State) : Host.Outcome State Fault Refusal := done s (scrubIntervalWriteC s.cl v)

/-- DISPATCH_CANCEL (R394): every queued request of the LID is removed. -/
def dispatchCancelC (c : Cluster) (lid : W16) : Cluster :=
  c.written 0x2303 6 lid.toNat (fun c v => { c with reqs := c.reqs.filter (fun q => q.lid != v) })
def execDispatchCancel (lid : W16) (s : State) : Host.Outcome State Fault Refusal := done s (dispatchCancelC s.cl lid)

/-- Is a context bound to the lining that runs? -/
def Cluster.boundNow (c : Cluster) (k : Nat) : Bool :=
  match c.run with
  | some r => r.ctxs.contains k
  | none => false

/-- Reset a ring or a sorus entry at once, or at the end of the lining to which its owner is bound (R348). -/
def Cluster.askReset (c : Cluster) (sorus : Bool) (k : Nat) : Cluster :=
  c.withTab [if sorus then kSorus k else kRing k] fun c =>
    if c.boundNow (c.msgOwner sorus k) && bitAt (if sorus then Sparse.get c.sdesc0 k else Sparse.get c.rdesc k) 63 then
      (if c.resets.contains (sorus, k) then c else { c with resets := c.resets ++ [(sorus, k)] })
    else c.msgReset sorus k

/-- RING_RESET (R348, R350). -/
def ringResetC (c : Cluster) (v : W16) : Cluster := c.written 0x2700 0x10 v.toNat (fun c r => c.askReset false r)
def execRingReset (v : W16) (s : State) : Host.Outcome State Fault Refusal := done s (ringResetC s.cl v)

/-- SORUS_RESET (R348, R350). -/
def sorusResetC (c : Cluster) (v : W16) : Cluster := c.written 0x2700 0x11 v.toNat (fun c e => c.askReset true e)
def execSorusReset (v : W16) (s : State) : Host.Outcome State Fault Refusal := done s (sorusResetC s.cl v)

/-- PARK_ABORT (R309, R324). -/
def parkAbortC (c : Cluster) (ch : Nat) : Cluster := if c.answers then c.abortPark ch else c
def execParkAbort (c : ChanId) (s : State) : Host.Outcome State Fault Refusal := done s (parkAbortC s.cl c.val)

/-- WINDOW_COMMIT (R310, R323). -/
def windowCommitC (c : Cluster) (w : Nat) (v : W64) : Cluster :=
  c.written 0x2780 (w + 1) v.toNat (fun c v => c.commitWindow w (BitVec.ofNat 64 v))
def execWindowCommit (w : Fin 64) (v : W64) (s : State) : Host.Outcome State Fault Refusal := done s (windowCommitC s.cl w.val v)

/-- HALT_REQUEST (R475). -/
def haltRequestC (c : Cluster) (g : Grants) : Cluster :=
  c.writtenD g 0x3001 1 1 (fun c _ => { c with tim := { c.tim with haltReq := true } })
def execHaltRequest (g : Grants) (s : State) : Host.Outcome State Fault Refusal := done s (haltRequestC s.cl g)

/-- HALT_RELEASE (R475). -/
def haltReleaseC (c : Cluster) (g : Grants) : Cluster := c.writtenD g 0x3001 1 0 (fun c _ => c.unhalt)
def execHaltRelease (g : Grants) (s : State) : Host.Outcome State Fault Refusal := done s (haltReleaseC s.cl g)

/-- A STEP of n LCC values: the DEBUG cause ends until they have executed; a halt kept from a lining that has ended is
over, and the values are those of the next lining (R475, log entry 105). -/
def Cluster.stepFor (c : Cluster) (n : Nat) : Cluster :=
  if c.tim.running then { c with tim := { c.tim with stepEnd := some (c.lcc + n) } }
  else ({ c with tim := { c.tim with stepEnd := some n } }).haltOver 0

/-- STEP (R475). -/
def stepHaltedC (c : Cluster) (n : W32) (g : Grants) : Cluster := 
  if c.halted then c.writtenD g 0x3001 2 n.toNat Cluster.stepFor else if c.answers then c.sample g else c
def execStepHalted (count : W32) (g : Grants) (s : State) : Host.Outcome State Fault Refusal := done s (stepHaltedC s.cl count g)

/-- DEBUG_GRANT_WITHDRAW (R475). -/
def debugGrantWithdrawC (c : Cluster) : Cluster :=
  if c.powered then ({ c with moss := { c.moss with debug := false } }).unhalt else c
def execDebugGrantWithdraw (s : State) : Host.Outcome State Fault Refusal := done s (debugGrantWithdrawC s.cl)

end Sys2Proof.Machine
end

