-- ==== Sys2Proof/Machine/Matrix.lean ====
section
/-! DEFINITION. The fills of the matrix arrays: MMA, MMAS, MMAG, MMAC, MDRAIN, MPRE, MNUL (R71 to R84, R87 to R107,
R114, R115, R121 to R132, R161 to R164, R225 to R231). The command of an op begins its fill; every cycle then enters
one operand and makes the accumulate that is due. Log entries of its readings and choices: 12 DEDUCED, 51 DESIGN
CHOICE, 64 DEDUCED, 65 DEDUCED, 66 DESIGN CHOICE. -/

namespace Sys2Proof.Machine

/-- Part of a stored weight that pass p uses (R81 to R84): the low or high part of an FP32 or INT16 element, or the
real or imaginary part of a complex one. -/
def splitHi (x : Nat) : FV := fmtF32.dec (x / 65536 * 65536)
def splitLo (x : Nat) : FV := fmtBF16.dec (fmtBF16.enc .rne ((fmtF32.dec x).add (splitHi x).neg))
/-- Round a sum of two elements in their own format, to nearest, ties to even (R83). -/
def sumIn (f : Nat) (a b : FV) : FV :=
  match fmtFloat f with
  | some g => g.dec (g.enc .rne (a.add b))
  | none => a.add b
/-- Real and imaginary element of a stored pair (R94). -/
def rePart (f x : Nat) : FV := elemFV f (x % 2 ^ fmtBits f)
def imPart (f x : Nat) : FV := elemFV f (x / 2 ^ fmtBits f)

/-- The weight value that pass p takes from a stored element; INT16 products carry their shift here (R81 to R84). -/
def weightPart (o : MacroOp) (p x : Nat) : FV :=
  let f := opWfmt o
  if isMmac o 0 then (if p = 0 then splitLo x else splitHi x)
  else if isMmac o 1 then
    (match p with
     | 0 => FV.ofInt (x % 256 : Nat)
     | 1 => (FV.ofInt (x % 256 : Nat)).scale 8
     | 2 => (FV.ofInt (sextN 8 (x / 256))).scale 8
     | _ => (FV.ofInt (sextN 8 (x / 256))).scale 16)
  else if isComplex o then (if p % 2 = 0 then rePart f x else imPart f x)
  else if isGauss o then
    (match p with
     | 0 => sumIn f (rePart f x) (imPart f x)
     | 1 => imPart f x
     | _ => rePart f x)
  else elemFV f x

/-- The activation value that pass p takes from a stored element (R81 to R84). -/
def actPart (o : MacroOp) (p x : Nat) : FV :=
  let f := opAfmt o
  if isMmac o 0 then (if p = 1 then splitLo x else splitHi x)
  else if isMmac o 1 then (if p % 2 = 0 then FV.ofInt (x % 256 : Nat) else FV.ofInt (sextN 8 (x / 256)))
  else if isComplex o then (if p = 0 || p = 3 then rePart f x else imPart f x)
  else if isGauss o then
    (match p with
     | 0 => rePart f x
     | 1 => sumIn f (rePart f x) (imPart f x)
     | _ => sumIn f (imPart f x) (rePart f x).neg)
  else elemFV f x

/-- The fills of an op that pass p adds into, and whether it subtracts: fill 0 goes to the front set, fill 1 to the
other (R82, R83). -/
def passInto (o : MacroOp) (p : Nat) : List (Nat × Bool) :=
  if isComplex o then
    (match p with
     | 0 => [(0, false)]
     | 1 => [(0, true)]
     | _ => [(1, false)])
  else if isGauss o then
    (match p with
     | 0 => [(0, false), (1, false)]
     | 1 => [(0, true)]
     | _ => [(1, false)])
  else [(0, false)]

/-- K positions of one accumulate (R88, R125). -/
def accSpan (o : MacroOp) : Nat := if isStip o then max (stip o).1 (kPos o) else kPos o
/-- Operand cycles of one accumulate period (R125). -/
def period (o : MacroOp) : Nat := accSpan o / kPos o

/-- Positions in group g that the kept values multiply, of the mask bits of a period: those set, from the lowest (R125). -/
def groupSel (o : MacroOp) (mask g : Nat) : List Nat :=
  ((List.range (stip o).1).map (fun i => g * (stip o).1 + i)).filter (fun i => mask.testBit i)
/-- Groups of an accumulate period. -/
def periodGroups (o : MacroOp) : List Nat := List.range (accSpan o / (stip o).1)

/-- The (K position, weight element) pairs of an accumulate period of a row: at most n to a group (R88, R125, R126). -/
def accPairs (o : MacroOp) (mask : Nat) : List (Nat × Nat) :=
  if isStip o then
    (periodGroups o).flatMap (fun g => ((groupSel o mask g).take (stip o).2).zipIdx.map (fun k => (k.1, g * (stip o).2 + k.2)))
  else (List.range (kPos o)).map (fun j => (j, j))

/-- Groups of a period whose mask has the wrong number of set bits (R126). -/
def badGroups (o : MacroOp) (mask : Nat) : Nat := ((periodGroups o).filter (fun g => (groupSel o mask g).length != (stip o).2)).length

/-- Bits of consecutive operand cycles, k to a cycle, as one number. -/
def joinBits (k : Nat) (xs : List Nat) : Nat := (xs.zipIdx.map (fun x => x.1 <<< (k * x.2))).foldl (· + ·) 0

/-- Mask bits of row r over the operands of a period. -/
def winMask (o : MacroOp) (win : List Entered) (r : Nat) : Nat := joinBits (kPos o) (win.map (fun e => e.msk.getD r 0))

/-- The products' weights of row r in an accumulate of pass p: position and value, MX scale applied (R73, R123). -/
def winWeights (o : MacroOp) (p : Nat) (win : List Entered) (r : Nat) : List (Nat × FV) :=
  let v := joinBits (useBits o) (win.map (fun e => e.wts.getD r 0))
  (accPairs o (winMask o win r)).map (fun k =>
    let w := weightPart o p ((v >>> (wBits o * k.2)) % 2 ^ wBits o)
    let e := win[k.1 / kPos o]?
    (k.1, if fmtIsMx (opWfmt o) then w.mxScale ((e.map (fun e => e.wsc.getD r 127)).getD 127) else w))

/-- The activations of an accumulate of pass p at presented width w, K-major, 33 to a position: the presented columns,
and the witness activation (R91, R114). -/
def winActs (o : MacroOp) (p w : Nat) (win : List Entered) : Array FV :=
  (win.flatMap (fun e => (List.range (kPos o)).flatMap (fun j =>
    let xs := (List.range w).map (fun q =>
      let v := actPart o p (e.slice.codes.getD (j * 32 + q) 0)
      match e.slice.scs[q]? with
      | some s => v.mxScale s
      | none => v)
    let wit := if opInt o then FV.sum xs else f32 (toF32 (FV.sum xs))
    xs ++ List.replicate (32 - w) FV.zero ++ [wit]))).toArray

/-- Exact integer of a value that is one. -/
def FV.int : FV → Int
  | .fin n m e => (if n then -1 else 1) * ((m * 2 ^ e.toNat : Nat) : Int)
  | _ => 0

/-- One accumulate of a cell (R73, R74, R82). -/
def cellStep (int sub : Bool) (xs : Array FV) (col : Nat) (acc : W32) (ps : List (Nat × FV)) : W32 :=
  let prods := ps.map (fun k => k.2.mul ((xs[k.1 * 33 + col]?).getD .zero))
  if int then
    let s := (FV.sum prods).int
    accStepInt acc (if sub then -s else s)
  else if prods.isEmpty then acc
  else accStep acc prods sub

/-- The set of fill f of an op: the front set at its start, or the other (R82, R83). -/
def fillTo (front : Bool) (f : Nat) : Bool := if f = 0 then front else !front

/-- Is pass p the first one that adds into fill d of an op? -/
def firstPass (o : MacroOp) (p d : Nat) : Bool := (List.range p).all (fun q => !(passInto o q).any (fun x => x.1 == d))

/-- One accumulate into a set: every presented cell and, where the witness runs, its column; the first of a fill with
INIT ZERO begins at zero (R73 to R75, R96, R111, R114). -/
def Cluster.accumulate (c : Cluster) (a : Nat) (o : MacroOp) (set1 zero sub : Bool) (ws : List (List (Nat × FV))) (xs : Array FV) : Cluster :=
  let w := c.presW a
  let v := c.setCells a set1
  let good := c.goodCols a
  let cols := (List.range w).map (fun p => (p, good.getD p 34)) ++ (if c.witness a then [(32, good.getD w 34)] else [])
  c.putCells a set1 (ws.zipIdx.flatMap (fun r => cols.map (fun k =>
    (r.2, k.2, cellStep (opInt o) sub xs k.1 (if zero then 0 else Sparse.get v (accKey a set1 r.2 k.2)) r.1))))

/-- The accumulate of a fill that falls into this cycle: P cycles after the last operand of its period entered (R95,
R106, R125, R126). -/
def Cluster.fillAcc (c : Cluster) (a : Nat) (f : Fill) : Cluster :=
  let o := f.op
  let x := f.t0 + c.floor 0
  let i := c.lcc - x
  let last := i % passLen o + 1
  if c.lcc < x || decide (opN o ≤ i) || last % period o != 0 then c
  else
    let p := i / passLen o
    let win := f.pipe.filter (fun e => decide (e.slice.i ≤ i) && decide (i < e.slice.i + period o))
    let ws := (List.range 128).map (winWeights o p win)
    let xs := winActs o p (c.presW a) win
    let c := c.each (passInto o p) (fun c d =>
      c.accumulate a o (fillTo f.front d.1) (!bitAt o 119 && firstPass o p d.1 && last == period o) d.2 ws xs)
    let bad := if f.counts then ((List.range 128).map (fun r => badGroups o (winMask o win r))).foldl (· + ·) 0 else 0
    if bad = 0 then c else c.bump (rMxe (a / 4) + 0x300) (rMxe (a / 4) + 0x310) 0 bad

/-- Bits pos to pos + k - 1 of row r in a line of 64 bytes to a row. -/
def rowBits (l : List Byte) (r pos k : Nat) : Nat :=
  (leNat ((l.drop (64 * r + pos / 8)).take (cdiv (pos % 8 + k) 8)) >>> (pos % 8)) % 2 ^ k

/-- k free bits for each row. -/
def Cluster.freeBits (c : Cluster) (k : Nat) : List Nat × Cluster :=
  let f := c.freeBs 1024
  ((List.range 128).map (fun r => leNat ((f.1.drop (8 * r)).take 8) % 2 ^ k), f.2)

/-- k bits of every row at position pos of line i; a line that the feeder does not hold is unspecified (R94). -/
def Cluster.lineBits (c : Cluster) (n : Nat) (f : Fill) (kind i pos k : Nat) : List Nat × Cluster :=
  match (c.feed n).line f.op f.t0 kind i with
  | some l => ((List.range 128).map (fun r => rowBits l r pos k), c)
  | none => c.freeBits k

/-- k bits of every row at bit pos of the value or mask stream of pass p, over one line or two (R93). -/
def Cluster.streamBits (c : Cluster) (n : Nat) (f : Fill) (kind p pos k : Nat) : List Nat × Cluster :=
  let i := p * nLines f.op kind + pos / 512
  let here := min k (512 - pos % 512)
  let x := c.lineBits n f kind i (pos % 512) here
  if here = k then x
  else
    let y := x.2.lineBits n f kind (i + 1) 0 (k - here)
    ((x.1.zip y.1).map (fun b => b.1 + b.2 <<< here), y.2)

/-- Scale byte of every row for block b of pass p (R92, R94). -/
def Cluster.scaleBytes (c : Cluster) (n : Nat) (f : Fill) (p b : Nat) : List Nat × Cluster :=
  match (c.feed n).line f.op f.t0 2 (p * nLines f.op 2 + b) with
  | some l => (l.map (fun x => x.toNat), c)
  | none => c.freeBits 8

/-- Do operand cycles of another array of the core overlap the present one without sharing its weight stream (R89)? -/
def Cluster.streamBroken (c : Cluster) (a : Nat) (f : Fill) : Bool :=
  ([0, 1, 2, 3].map (fun k => a / 4 * 4 + k)).any (fun b => b != a && (c.arr b).fills.any (fun g =>
    decide (g.t0 ≤ c.lcc) && decide (c.lcc < g.t0 + opN g.op)
      && !(g.t0 == f.t0 && opN g.op == opN f.op && weightKey g.op == weightKey f.op)))

/-- The weights of operand cycle i, and their scales: those of a broken stream, or of a list that came too late, are
unspecified; a padding entry enters zero weights (R88, R89, R129, R131). -/
def Cluster.enterWeights (c : Cluster) (a : Nat) (f : Fill) (i : Nat) : List Nat × List Nat × Cluster :=
  let o := f.op
  let n := a / 4
  let p := i / passLen o
  let t := i % passLen o
  if c.streamBroken a f || (isGathK o && f.list.isNone) then
    let w := c.freeBits (useBits o)
    let s := w.2.freeBits 8
    (w.1, s.1, s.2)
  else if padK o f.list (t * kPos o) then (List.replicate 128 0, List.replicate 128 127, c)
  else
    let w := c.streamBits n f 0 p (t * useBits o) (useBits o)
    let s := if fmtIsMx (opWfmt o) then w.2.scaleBytes n f p (t * kPos o / 32) else ([], w.2)
    (w.1, s.1, s.2)

/-- The slice of operand cycle i: one that was never read is unspecified (R163, R7). -/
def Cluster.enterSlice (c : Cluster) (a : Nat) (f : Fill) (i : Nat) : Slice × Cluster :=
  match f.slices.find? (fun s => s.i == i) with
  | some s => (s, c)
  | none =>
    let r := c.freeCodes (32 * kPos f.op) (storeBits f.op (opAfmt f.op))
    (⟨i, r.1, if fmtIsMx (c.srcFmt (a / 4) f.op) then (r.2.freeCodes 32 8).1 else []⟩, (r.2.freeCodes 32 8).2)

/-- Operand cycle i of a fill: the operand enters the pipeline (R88, R95). -/
def Cluster.enterOperand (c : Cluster) (a : Nat) (f : Fill) (i : Nat) : Fill × Cluster :=
  let o := f.op
  let s := c.enterSlice a f i
  let w := s.2.enterWeights a f i
  let m := if isStip o then w.2.2.streamBits (a / 4) f 1 0 (i * kPos o) (kPos o) else ([], w.2.2)
  ({ f with slices := f.slices.filter (fun x => decide (i < x.i)),
            pipe := f.pipe.filter (fun e => decide (i < e.slice.i + c.floor 0 + period o)) ++ [⟨s.1, w.1, m.1, w.2.1⟩] }, m.2)

/-- The slice that a fill reads in this cycle, where it has not been read (R163). -/
def Cluster.fillSlice (c : Cluster) (a : Nat) (f : Fill) : Fill × Cluster :=
  let s := c.lcc + c.lpri (a / 4) f.op - f.t0
  if opN f.op ≤ s || f.slices.any (fun x => x.i == s) then (f, c)
  else
    let r := c.readSlice a f.op f.list f.set s
    ({ f with slices := f.slices ++ [r.1] }, r.2)

/-- One cycle of a fill, behind its accumulate: the slice read, the operand that enters; it is over with its last
accumulate (R95). -/
def Cluster.fillCycle (c : Cluster) (a : Nat) (f : Fill) : Cluster :=
  let r := c.fillSlice a f
  let e := if c.lcc < f.t0 + opN f.op then r.2.enterOperand a r.1 (c.lcc - f.t0) else r
  let x := e.2.arr a
  let live := decide (c.lcc + 1 < f.t0 + opN f.op + c.floor 0)
  let put : Fill → Option Fill := fun g => if g = f then (if live then some e.1 else none) else some g
  e.2.setArr a { x with fills := x.fills.filterMap put }

/-- The index list of an op that has reads to make, started or not. -/
def Cluster.opList (c : Cluster) (a : Nat) (o : MacroOp) (t0 : Nat) : Option (List W16) :=
  match (c.arr a).fills.find? (fun f => f.t0 == t0 && f.op == o) with
  | some f => f.list
  | none => (c.aheadOf a o t0).list

/-- The feeder lines that an array's ops asked for in this cycle are read (R93). -/
def Cluster.feedCycle (c : Cluster) (a : Nat) : Cluster :=
  let x := c.arr a
  (c.setArr a { x with todo := [] }).each x.todo (fun c e =>
    c.each e.2.2 (fun c k => c.feederRead (a / 4) e.1 e.2.1 (c.opList a e.1 e.2.1) k))

/-- What an array does in an executed cycle (R91 to R101). A drain reads its group behind the accumulates of the cycle:
one that a later fill has caught up with reads that fill's products (R100). -/
def Cluster.arrayCycle (c : Cluster) (a : Nat) : Cluster :=
  let x := c.arr a
  let c := ((c.each x.fills (fun c f => c.fillAcc a f)).drainCycle a).each x.mpre (fun c p => c.preCycle a p)
  (c.each x.fills (fun c f => c.fillCycle a f)).feedCycle a

/-- The feeder lines that the fills of an array ask for at the start of a cycle (R93). -/
def Cluster.fillIssue (c : Cluster) (a : Nat) : Cluster :=
  c.each (c.arr a).fills (fun c f => c.issueLines a f.op f.t0 f.list (c.linesDue f.op f.t0 f.list))

/-- The swaps and drains that an op of the MMA family brings about, nullified or not: (LCC of the swap, LCC of drain
group 0, set, part, preload) (R97, R98, R104, R106, R107). -/
def Cluster.opDrains (c : Cluster) (o : MacroOp) (t0 : Nat) (front : Bool) : List (Option Nat × Option (Nat × Bool × Nat × Bool)) :=
  let p := c.floor 0
  let d := c.floor 1
  let ts := t0 + opN o + p
  let g := ts + (d - 32)
  let swap := bitAt o 118
  let pre := bitAt o 116
  if isGauss o then [(none, some (g, front, 0, pre)), (none, some (g + d, !front, 1, pre))]
  else if isComplex o then
    let h := t0 + 2 * passLen o + p
    (some h, if swap then some (h + (d - 32), front, 0, false) else none) ::
      (if swap then [(some ts, some (g, !front, 0, pre))] else [])
  else if swap then [(some ts, some (g, front, 0, pre))] else []

/-- Bring about the swaps and drains of an op. -/
def Cluster.swapDrain (c : Cluster) (a : Nat) (o : MacroOp) (nul : Bool)
    (ds : List (Option Nat × Option (Nat × Bool × Nat × Bool))) : Cluster :=
  c.each ds (fun c d =>
    let x := c.arr a
    let c := match d.1 with
      | some t => c.setArr a { x with front := !x.front, swaps := x.swaps.filter (fun u => decide (c.lcc < u)) ++ [t] }
      | none => c
    match d.2 with
    | some (t, s, part, pre) => c.startDrain a o t s nul part (pre && !nul)
    | none => c)

/-- Has another array of the core begun a fill on the same weight stream (R89)? -/
def Cluster.streamSeen (c : Cluster) (a : Nat) (o : MacroOp) (t0 : Nat) : Bool :=
  ([0, 1, 2, 3].map (fun k => a / 4 * 4 + k)).any (fun b => b != a
    && (c.arr b).fills.any (fun f => f.t0 == t0 && weightKey f.op == weightKey o))

/-- What the start of an op of the MMA family that is not nullified brings about: its fill begins, with what was read
ahead for it, and it asks for the feeder lines of this cycle (R91, R93, R104). -/
def Cluster.doMma (c : Cluster) (a : Nat) (o : MacroOp) : Cluster :=
  let t0 := c.lcc
  let n := a / 4
  let e := c.aheadOf a o t0
  let s := c.needSet a o e.set
  let x := s.2.arr a
  let f : Fill := ⟨o, t0, x.front, isStip o && !c.streamSeen a o t0, e.list, s.1, e.slices, []⟩
  let c := s.2.setArr a { x with fills := x.fills ++ [f] }
  (c.issueLines a o t0 e.list (c.linesDue o t0 e.list)).addRefs (qArr a) t0 (t0 + opN o - 1) (c.srcTiles n o ++ c.perKTiles n o)

/-- Start of an op of the MMA family: nullified, it still swaps, and its drains write nothing (R104, R138). -/
def mmaOp (c : Cluster) (a opc : Nat) : Cluster :=
  match c.starting (qArr a) opc with
  | none => c
  | some o =>
    let t0 := c.lcc
    let p := c.startOp (qArr a) o
    let c := if p.2 then p.1 else p.1.withTab (opKeys (a / 4) o) (fun c => c.doMma a o)
    let x := c.arr a
    let c := c.setArr a { x with ahead := x.ahead.filter (fun e => decide (t0 < e.t0)) }
    if c.run.isNone then c else c.swapDrain a o p.2 (c.opDrains o t0 x.front)

/-- MMA (R225). -/
def mmaC (c : Cluster) (a : Nat) : Cluster := mmaOp c a 0x10
def execMma (a : ArrayId) (s : State) : Host.Outcome State Fault Refusal := done s (mmaC s.cl a.val)
/-- MMAS (R226). -/
def mmasC (c : Cluster) (a : Nat) : Cluster := mmaOp c a 0x11
def execMmas (a : ArrayId) (s : State) : Host.Outcome State Fault Refusal := done s (mmasC s.cl a.val)
/-- MMAG (R227). -/
def mmagC (c : Cluster) (a : Nat) : Cluster := mmaOp c a 0x12
def execMmag (a : ArrayId) (s : State) : Host.Outcome State Fault Refusal := done s (mmagC s.cl a.val)
/-- MMAC (R228). -/
def mmacC (c : Cluster) (a : Nat) : Cluster := mmaOp c a 0x13
def execMmac (a : ArrayId) (s : State) : Host.Outcome State Fault Refusal := done s (mmacC s.cl a.val)

/-- MDRAIN: a swap marker in the pipeline, and the front set drains; nullified, it swaps and writes nothing (R102, R138). -/
def mdrainC (c : Cluster) (a : Nat) : Cluster :=
  match c.starting (qArr a) 0x14 with
  | none => c
  | some o =>
    let ts := c.lcc + c.floor 0
    let p := c.startOp (qArr a) o
    p.1.swapDrain a o p.2 [(some ts, some (ts + (p.1.floor 1 - 32), (p.1.arr a).front, 0, bitAt o 116))]
def execMdrain (a : ArrayId) (s : State) : Host.Outcome State Fault Refusal := done s (mdrainC s.cl a.val)

/-- What the start of an MPRE brings about: it writes the shadow set from the next cycle on (R101, R230). -/
def Cluster.doMpre (c : Cluster) (a : Nat) (o : MacroOp) : Cluster :=
  let x := c.arr a
  (c.setArr a { x with mpre := x.mpre ++ [⟨o, c.lcc, []⟩] }).addRefs (qArr a) c.lcc (c.lcc + 32) [fld o 50 46]

/-- MPRE (R101, R230). -/
def mpreC (c : Cluster) (a : Nat) : Cluster := c.onStart (qArr a) 0x15 (fun c o => c.doMpre a o)
def execMpre (a : ArrayId) (s : State) : Host.Outcome State Fault Refusal := done s (mpreC s.cl a.val)

/-- MNUL: it fills its slot and changes no state of the array (R231). -/
def mnulC (c : Cluster) (a : Nat) : Cluster := c.onStart (qArr a) 0x16 (fun c _ => c)
def execMnul (a : ArrayId) (s : State) : Host.Outcome State Fault Refusal := done s (mnulC s.cl a.val)

end Sys2Proof.Machine
end

