-- ==== Sys2Proof/Machine/Desc.lean ====
section
/-! DEFINITION. Tensor descriptors of the vector engine: expansion into iterations, element widening and narrowing,
reads and writes of runs (R171 to R176, R181). Runs are read in a cycle of their own, and results are posted for the
cycle that writes them. Log entries of its readings and choices: 58 DEDUCED. -/

namespace Sys2Proof.Machine

/-- Address of word k of descriptor i of core n (R173). -/
def rDesc (n i k : Nat) : Nat := rVxe n + 0x1000 + 0x20 * i + 8 * k
/-- Descriptor fields of a vector op (R236): DA, DB, DC, DD, DS as 0 to 4, and their offsets. -/
def vDesc (o : MacroOp) (k : Nat) : Nat := fld o (186 - 7 * k) (180 - 7 * k)
def vOff (o : MacroOp) (k : Nat) : Nat := fld o (151 - 16 * k) (136 - 16 * k)

/-- A descriptor with the offset an op gives it, in bytes (R173, R174). -/
structure Desc where
  space : Nat
  fmt   : Nat
  bcast : Bool
  tile  : Nat
  hnd   : Nat
  n0    : Nat
  base  : Nat
  cnt   : List Nat
  str   : List Int
  deriving DecidableEq, Repr

/-- Descriptor k of an op on core n; index 0 is no operand (R173). -/
def Cluster.desc (c : Cluster) (n : Nat) (o : MacroOp) (k : Nat) : Desc :=
  let w := fun (j : Nat) => c.regAt (rDesc n (vDesc o k) j)
  let unit : Int := ((16 ^ fld (w 0) 52 51 : Nat) : Int)
  let sp := fld (w 0) 63 60
  { space := if vDesc o k = 0 then 0 else sp, fmt := fld (w 0) 59 56, bcast := bitAt (w 0) 50
    tile := fld (w 0) 49 45 + (if sp = 2 then 16 else 0), hnd := fld (w 0) 44 33, n0 := fld (w 0) 15 0 + 1
    base := fld (w 1) 31 0 + 16 * vOff o k
    cnt := [fld (w 2) 31 20 + 1, fld (w 2) 63 52 + 1, fld (w 3) 31 20 + 1, fld (w 3) 63 52 + 1]
    str := [sextN 20 (fld (w 2) 19 0) * unit, sextN 20 (fld (w 2) 51 32) * unit, sextN 20 (fld (w 3) 19 0) * unit,
            sextN 20 (fld (w 3) 51 32) * unit] }

/-- Is the operand present? -/
def Desc.on (d : Desc) : Bool := d.space != 0
/-- Chunks of dimension 0, for e elements to an iteration (R174). -/
def Desc.c0 (d : Desc) (e : Nat) : Nat := cdiv d.n0 e
/-- Iteration count (R174). -/
def Desc.iters (d : Desc) (e : Nat) : Nat := d.cnt.foldl (· * ·) (d.c0 e)
/-- Chunk and indices j1 to j4 of an iteration: chunks run fastest (R174). -/
def Desc.index (d : Desc) (e it : Nat) : Nat × List Nat :=
  let c0 := d.c0 e
  let step := fun (p : Nat × List Nat) (k : Nat) => (p.1 / k, p.2 ++ [p.1 % k])
  (it % c0, (d.cnt.foldl step (it / c0, [])).2)
/-- Active positions of chunk q (R174). -/
def Desc.active (d : Desc) (e q : Nat) : Nat := min e (d.n0 - q * e)
/-- Bit address of the first element of an iteration's run, within its tile or handle (R174). -/
def Desc.runBit (d : Desc) (e it : Nat) : Nat :=
  let x := d.index e it
  let off := (x.2.zip d.str).foldl (fun (s : Int) p => s + (p.1 : Int) * p.2) (d.base : Int)
  (off * 8 + (if d.bcast then 0 else (x.1 * e * fmtBits d.fmt : Nat))).toNat

/-- Scratchpad byte address of a descriptor's byte b. -/
def Cluster.descAddr (c : Cluster) (d : Desc) (b : Nat) : Nat := hndBase (c.regAt (rHnd d.hnd)) * 64 + b

/-- First byte and length of the bytes that an iteration's run occupies (R174). -/
def Desc.runSpan (d : Desc) (e it : Nat) : Nat × Nat :=
  let cnt := if d.bcast then 1 else d.active e (d.index e it).1
  let bit := d.runBit e it
  (bit / 8, cdiv (bit % 8 + cnt * fmtBits d.fmt) 8)

/-- Lines of a scratchpad descriptor's run in an iteration (R176). -/
def Cluster.runLines (c : Cluster) (d : Desc) (e it : Nat) : List Nat :=
  let x := d.runSpan e it
  if d.space = 3 then linesOf (c.descAddr d x.1) x.2 else []

/-- Bytes of a descriptor's tile or handle from byte b, in this cycle (R172, R176). -/
def Cluster.descRead (c : Cluster) (n ctx : Nat) (d : Desc) (b len : Nat) : List Byte × Cluster :=
  if len = 0 then ([], c)
  else if d.space = 3 then
    let r := c.portRead ctx (c.descAddr d b) len
    (r.1, r.2.1)
  else (c.tileBytes n d.tile b len, c)

/-- Codes of the active elements of an iteration (R174). -/
def Cluster.readRun (c : Cluster) (n ctx : Nat) (d : Desc) (e it : Nat) : List Nat × Cluster :=
  let w := fmtBits d.fmt
  let act := d.active e (d.index e it).1
  let cnt := if d.bcast then 1 else act
  let x := d.runSpan e it
  let r := c.descRead n ctx d x.1 x.2
  let v := leNat r.1 >>> (d.runBit e it % 8)
  let xs := (List.range cnt).map (fun i => (v >>> (w * i)) % 2 ^ w)
  (if d.bcast then List.replicate act (xs.headD 0) else xs, r.2)

/-- Post bytes for a descriptor's tile or handle, to be written in the cycle that executes LCC t; `lo` low bits of the
first byte and `hi` high bits of the last keep their value (R174, R176, R198). -/
def Cluster.descPost (c : Cluster) (n t : Nat) (d : Desc) (b lo hi : Nat) (bs : List Byte) : Cluster :=
  if bs.isEmpty then c
  else if d.space = 3 then c.post t 2 (.spd (qVec n) (c.descAddr d b) lo hi bs)
  else c.post t 2 (.stream n d.tile 0 b lo hi bs)

/-- Post the codes of the active elements of an iteration for LCC t (R174); several lanes on one element leave that
element free. -/
def Cluster.writeRun (c : Cluster) (n t : Nat) (d : Desc) (e it : Nat) (codes : List Nat) : Cluster :=
  let w := fmtBits d.fmt
  let bit := d.runBit e it
  let x := if d.bcast then (if codes.length ≤ 1 then (codes, c) else c.freeCodes 1 w) else (codes, c)
  let bits := bit % 8 + x.1.length * w
  let v := (x.1.zipIdx.map (fun p => (p.1 % 2 ^ w) <<< (bit % 8 + w * p.2))).foldl (· + ·) 0
  x.2.descPost n t d (bit / 8) (bit % 8) ((8 - bits % 8) % 8) (leBytes (cdiv bits 8) v)

/-- Widen an element on load (R181): float formats to FP32, integer formats to INT32. -/
def loadElem (f code : Nat) : W32 :=
  if f = 0 || f = 9 then BitVec.ofNat 32 code
  else if fmtIsInt f then BitVec.ofInt 32 (elemInt f code)
  else toF32 (elemFV f code)

/-- Narrow a register on store (R181). -/
def storeElem (f : Nat) (r : Rnd) (x : W32) : Nat :=
  if f = 0 || f = 9 then x.toNat else if fmtIsInt f then narrowInt f x else narrow f r (f32 x)

/-- Tiles among the operands of an op. -/
def Cluster.descTiles (c : Cluster) (n : Nat) (o : MacroOp) : List Nat :=
  (List.range 5).filterMap (fun k =>
    let d := c.desc n o k
    if d.space = 1 || d.space = 2 then some d.tile else none)

/-- Keys of the table words a vector op uses (R416). -/
def Cluster.descKeys (c : Cluster) (n : Nat) (o : MacroOp) : List Nat :=
  (List.range 5).flatMap (fun k => if vDesc o k = 0 then [] else
    (List.range 4).map (fun j => rDesc n (vDesc o k) j) ++ (if (c.desc n o k).space = 3 then [rHnd (c.desc n o k).hnd] else []))

/-- Latencies X, lambda and sigma (R182). -/
def Cluster.vX (c : Cluster) : Nat := c.floor 2 + 2
def Cluster.vLam (c : Cluster) : Nat := c.floor 3
def Cluster.vSig (c : Cluster) : Nat := c.floor 4

/-- Post a byte string for an operand's region, k bytes from its start. -/
def Cluster.regionWrite (c : Cluster) (n t : Nat) (d : Desc) (k : Nat) (bs : List Byte) : Cluster := c.descPost n t d (d.base + k) 0 0 bs

end Sys2Proof.Machine
end

