-- ==== Sys2Proof/Machine/Frond.lean ====
section
/-! DEFINITION. Frond programs, VRUN, and how a vector op runs: its command begins it, and every cycle reads the runs
of the iteration that is due and posts its results (R171, R172, R177 to R185, R194, R237). Log entries of its readings and
choices: 59 DESIGN CHOICE. -/

namespace Sys2Proof.Machine

/-- Address of byte off of frond entry j of core n (R177). -/
def rFrond (n j off : Nat) : Nat := rVxe n + 0x2000 + 0x100 * j + off
/-- A 32-bit word of a frond entry at a byte offset that is a multiple of 4. -/
def Cluster.frond32 (c : Cluster) (n j off : Nat) : W32 :=
  let w := c.regAt (rFrond n j (off / 8 * 8))
  BitVec.ofNat 32 (if off % 8 = 0 then fld w 31 0 else fld w 63 32)

/-- Fields of a micro-op (R178). -/
def uOp (u : W32) : Nat := fld u 31 26
def uDst (u : W32) : Nat := fld u 25 22
def uRnd (u : W32) : Nat := fld u 9 8
def uAux (u : W32) : Nat := fld u 7 4

/-- A frond program as VRUN uses it. -/
structure Frond where
  pair : Bool
  nin  : Nat
  out  : Nat
  sout : Bool
  ord  : Bool
  ornd : Nat
  kst  : List W32
  uops : List W32

/-- The program of entry j (R177). -/
def Cluster.frond (c : Cluster) (n j : Nat) : Frond :=
  let h := c.regAt (rFrond n j 0)
  { pair := bitAt h 56, nin := fld h 55 54, out := fld h 53 50, sout := bitAt h 49, ord := bitAt h 48, ornd := fld h 47 46
    kst := (List.range 8).map (fun k => c.frond32 n j (8 + 4 * k))
    uops := (List.range (fld h 61 57 + 1)).map (fun m => c.frond32 n j (0x40 + 4 * m)) }

/-- Where a lane stands: iteration, chunk, j1 to j4, position, and the seeds of R78 with the lane's number. -/
structure LaneAt where
  it   : Nat
  q    : Nat
  js   : List Nat
  pos  : Nat
  e    : Nat
  seed : W32
  linseq : W32
  stamp : W32
  lane : Nat

/-- Rounding of a micro-op for a lane (R76, R78). -/
def laneRnd (l : LaneAt) (m rnd : Nat) : Rnd := rndOf rnd (srGen l.seed l.linseq l.stamp l.lane l.it m)

/-- FCMP (R179). -/
def fcmp (k : Nat) (a b : W32) : Bool :=
  match k with
  | 0 => fcmpEq a b
  | 1 => fcmpLt a b
  | 2 => fcmpLe a b
  | 3 => !fcmpEq a b
  | _ => fcmpUn a b

/-- Absolute value and negation of FP32 bits; NaN gives the canonical NaN (R179). -/
def fabs (a : W32) : W32 := if fcmpUn a a then qnan32 else a &&& 0x7FFFFFFF
def fneg (a : W32) : W32 := if fcmpUn a a then qnan32 else a ^^^ 0x80000000
/-- Truth of a SEL source (R179). -/
def truthy (a : W32) : Bool := a != 0 && a != 0x80000000

/-- Signed minimum and maximum. -/
def imin (a b : W32) : W32 := if a.slt b then a else b
def imax (a b : W32) : W32 := if a.slt b then b else a

/-- IOTA (R179). -/
def iota (l : LaneAt) (k : Nat) : W32 :=
  BitVec.ofNat 32 (if k = 0 then l.pos + l.q * l.e else if k ≤ 4 then l.js.getD (k - 1) 0 else l.it)

/-- A micro-op on FP32 or INT32 lanes (R179). -/
def uopVal (l : LaneAt) (m : Nat) (u a b c : W32) : W32 :=
  match uOp u with
  | 0x01 => a
  | 0x02 => fadd a b
  | 0x03 => fsub a b
  | 0x04 => fmul a b
  | 0x05 => ffma a b c
  | 0x06 => fminNum a b
  | 0x07 => fmaxNum a b
  | 0x08 => fabs a
  | 0x09 => fneg a
  | 0x0A => if fcmp (uAux u) a b then 0x3F800000 else 0
  | 0x0B => if truthy a then b else c
  | 0x0C => sfu (uAux u) a
  | 0x0D => toF32 (elemFV (uAux u) (narrow (uAux u) (laneRnd l m (uRnd u)) (f32 a)))
  | 0x0E => iota l (uAux u)
  | 0x10 => a + b
  | 0x11 => a - b
  | 0x12 => a * b
  | 0x13 => imin a b
  | 0x14 => imax a b
  | 0x15 => a &&& b
  | 0x16 => a ||| b
  | 0x17 => a ^^^ b
  | 0x18 => a <<< (b.toNat % 32)
  | 0x19 => a.sshiftRight (b.toNat % 32)
  | 0x1A => i32ToF32 (laneRnd l m (uRnd u)) a
  | 0x1B => BitVec.ofInt 32 (toIntSat 32 (laneRnd l m (uRnd u)) (f32 a))
  | _ => a

/-- Round an exact result to BF16, to nearest, held in the upper half of a word (R183). -/
def bfRound (v : FV) : W32 := BitVec.ofNat 32 (fmtBF16.enc .rne v * 65536)

/-- A micro-op on a BF16 half in pair mode (R183). -/
def uopPair (u a b c : W32) : W32 :=
  match uOp u with
  | 0x02 => bfRound ((f32 a).add (f32 b))
  | 0x03 => bfRound ((f32 a).add (f32 b).neg)
  | 0x04 => bfRound ((f32 a).mul (f32 b))
  | 0x05 => bfRound (((f32 a).mul (f32 b)).add (f32 c))
  | 0x06 => fminNum a b
  | 0x07 => fmaxNum a b
  | 0x08 => fabs a
  | 0x09 => fneg a
  | 0x0A => if fcmp (uAux u) a b then 0x3F800000 else 0
  | 0x0B => if truthy a then b else c
  | _ => a

/-- Run the micro-ops of a program on one lane: its registers, and the values that SACC takes in order (R179, R185). -/
def Frond.lane (p : Frond) (l : LaneAt) (ins : List W32) : List W32 × List W32 :=
  let regs := ((List.range 16).map (fun i => ins.getD i 0))
  p.uops.zipIdx.foldl (fun (s : List W32 × List W32) x =>
    let u := x.1
    let k := fun (i : Nat) => if p.pair then p.kst.getD i 0 &&& 0xFFFF0000 else p.kst.getD i 0
    let a := s.1.getD (fld u 21 18) 0
    let b := if bitAt u 3 then k (fld u 16 14) else s.1.getD (fld u 17 14) 0
    let c := if bitAt u 2 then k (fld u 12 10) else s.1.getD (fld u 13 10) 0
    if uOp u = 0x0F then (s.1, s.2 ++ [a])
    else (s.1.set (uDst u) (if p.pair then uopPair u a b c else uopVal l x.2 u a b c), s.2)) (regs, [])

/-- Latency of a micro-op, and the slot it occupies in a strip of s positions (R182). -/
def Cluster.uLat (c : Cluster) (u : W32) : Nat := if uOp u = 0x0C then c.vSig else c.vLam
def Cluster.uSlot (c : Cluster) (p : Frond) (s : Nat) (u : W32) : Nat :=
  if uOp u = 0x0F && p.ord then max (2 * s) (c.uLat u) else max s (c.uLat u)
/-- Cycles of a strip of s positions. -/
def Cluster.stripLen (c : Cluster) (p : Frond) (s : Nat) : Nat := (p.uops.map (c.uSlot p s)).foldl (· + ·) 0

/-- Read and write cycles of iteration it of a VRUN that starts at t0, with its iteration count (R182). -/
def Cluster.vrunTimes (c : Cluster) (p : Frond) (t0 cnt it : Nat) : Nat × Nat × Nat :=
  let s := min 16 (cnt - it / 16 * 16)
  let start := t0 + it / 16 * c.stripLen p 16
  let last := p.uops.getLastD 0
  let issue := start + c.vX + ((p.uops.dropLast).map (c.uSlot p s)).foldl (· + ·) 0
    + (if uOp last = 0x0F && p.ord then 2 * (it % 16) else it % 16)
  (it, start + it % 16, issue + c.uLat last + 1)

/-- DURmin of a VRUN (R182). -/
def Cluster.vrunLen (c : Cluster) (p : Frond) (cnt : Nat) : Nat :=
  let full := (cnt - 1) / 16
  c.vX + full * c.stripLen p 16 + c.stripLen p (cnt - 16 * full) + c.uLat (p.uops.getLastD 0) + 1

/-- The running update of R185 with one value. -/
def statStep (s : Stat) (x : W32) : Stat :=
  let n := (s.1 + 1) % 2 ^ 32
  let d := fsub x s.2.1
  let mean := fadd s.2.1 (fdiv d (u32ToF32 n))
  (n, mean, fadd s.2.2 (fmul d (fsub x mean)))

/-- Records of chunks of 128 values, merged in order (R170, R185). -/
def statChunks : Nat → List W32 → Stat → Stat
  | 0, _, s => s
  | k + 1, xs, s => if xs.isEmpty then s else statChunks k (xs.drop 128) (statMerge s (statPart (min 128 xs.length) (xs.take 128)))

/-- The statistic of a list of values, in order or by chunks (R185, R193). -/
def statOf (ord : Bool) (xs : List W32) : Stat :=
  if ord then statChunks (cdiv xs.length 128) xs Stat.none else xs.foldl statStep Stat.none

/-- Values that one lane gives to its statistic, in ascending order: strip by strip, micro-op by micro-op (R182, R185). -/
def laneValues (its : List (Nat × List W32)) : List W32 :=
  let strips := cdiv ((its.map (fun x => x.1 + 1)).foldl max 0) 16
  (List.range strips).flatMap (fun s =>
    let here := its.filter (fun x => x.1 / 16 == s)
    let k := (here.map (fun x => x.2.length)).foldl max 0
    (List.range k).flatMap (fun j => here.filterMap (fun x => x.2[j]?)))

/-- The descriptor that counts a VRUN's iterations: its output, or its first input (R174, R175). -/
def Cluster.vrunMain (c : Cluster) (n : Nat) (o : MacroOp) : Desc := if (c.desc n o 3).on then c.desc n o 3 else c.desc n o 0

/-- The lanes of an iteration of a VRUN. -/
def Cluster.vrunLanes (c : Cluster) (n : Nat) (o : MacroOp) (p : Frond) (d : Desc) (e it : Nat) (ins : List (List W32)) :
    List (List W32 × List W32) :=
  let x := d.index e it
  let k := c.ctx (opCtx o)
  (List.range (d.active e x.1)).map (fun i =>
    p.lane ⟨it, x.1, x.2, i, e, k.srseed, k.linseq, BitVec.ofNat 32 (opStamp o), (n * 5 + 4) * 128 + i % 128⟩ (ins.map (fun s => s.getD i 0)))

/-- Add the values of an iteration to those of each lane. -/
def addValues (acc : List (List (Nat × List W32))) (it : Nat) (vs : List (List W32)) : List (List (Nat × List W32)) :=
  acc.zipIdx.map (fun x => match vs[x.2]? with
    | some v => x.1 ++ [(it, v)]
    | none => x.1)

/-- Elements of an iteration of a VRUN: 256 in pair mode (R171, R183). -/
def Frond.width (p : Frond) : Nat := if p.pair then 256 else 128

/-- A VRUN computes iteration it from the codes of its inputs: its store is posted for its own cycle, and each lane's
statistic takes its values; the last iteration posts the records (R181, R182, R185). -/
def Cluster.vrunTake (c : Cluster) (n : Nat) (j : VecJob) (it : Nat) (ins : List (List Nat)) : Cluster × VecJob :=
  let o := j.op
  let p := c.frond n (fld o 191 187)
  let d := c.vrunMain n o
  let e := p.width
  let cnt := d.iters e
  let out := c.desc n o 3
  let ls := c.vrunLanes n o p d e it (ins.zipIdx.map (fun x => x.1.map (loadElem (c.desc n o x.2).fmt)))
  let vals := addValues j.vals it (ls.map (fun l => l.2))
  let c := if out.on then
      c.writeRun n (c.vrunTimes p j.t0 cnt it).2.2 out e it
        (ls.map (fun l => storeElem out.fmt (if p.ornd = 2 then .tz else .rne) (l.1.getD p.out 0)))
    else c
  let c := if p.sout && decide (it + 1 = cnt) then
      c.regionWrite n (j.t0 + j.dm - 1) (c.desc n o 4) 0 (vals.flatMap (fun l => leBytes 16 (statOf p.ord (laneValues l)).bits.toNat))
    else c
  (c, { j with vals := vals })

/-- PARAM field [hi:lo] of a vector op. -/
def vPar (o : MacroOp) (hi lo : Nat) : Nat := fld o hi lo

/-- Operand cycles from one iteration's reads to the next's: ordered statistics run at half the rate (R170, R194). -/
def vecStep (o : MacroOp) : Nat := if opOpc o = 0x37 && bitAt o 69 then 2 else 1

/-- The cycle, from its start, in which a VGATH or VSCAT applies its first entry, and the cycles from one entry to the
next (R194). -/
def Cluster.moveAt (c : Cluster) (o : MacroOp) : Nat × Nat :=
  if opOpc o = 0x35 && bitAt o 23 then (c.vX + c.vLam + 2, 2) else (c.vX + 1, 1)

/-- Iterations of a vector op, or entries of a VGATH or VSCAT (R174, R194). -/
def Cluster.vecIters (c : Cluster) (n : Nat) (o : MacroOp) : Nat :=
  match opOpc o with
  | 0x30 => (c.vrunMain n o).iters (c.frond n (fld o 191 187)).width
  | 0x31 => (c.desc n o 3).iters 128
  | 0x34 => vPar o 44 38 + 1
  | 0x35 => vPar o 44 38 + 1
  | 0x37 => if vPar o 71 70 = 0 then (c.desc n o 0).iters 128 else 1
  | _ => (c.desc n o 0).iters 128

/-- The cycle, from its start, in which a vector op reads iteration it (R182, R194). -/
def Cluster.vecReadAt (c : Cluster) (n : Nat) (o : MacroOp) (it : Nat) : Nat :=
  match opOpc o with
  | 0x30 => (c.vrunTimes (c.frond n (fld o 191 187)) 0 (c.vecIters n o) it).2.1
  | 0x34 => (c.moveAt o).1 + it * (c.moveAt o).2
  | 0x35 => (c.moveAt o).1 + it * (c.moveAt o).2
  | _ => it * vecStep o

/-- The iteration that a vector op reads in this cycle (R182, R194). -/
def Cluster.vecIt (c : Cluster) (n : Nat) (j : VecJob) : Option Nat :=
  (List.range (c.vecIters n j.op)).find? (fun it => j.t0 + c.vecReadAt n j.op it == c.lcc)

/-- The runs that iteration it of a vector op reads: descriptor, elements to a run, run (R174, R186). -/
def Cluster.vecRuns (c : Cluster) (n : Nat) (o : MacroOp) (it : Nat) : List (Nat × Nat × Nat) :=
  match opOpc o with
  | 0x30 =>
    let p := c.frond n (fld o 191 187)
    (List.range p.nin).map (fun k => (k, p.width, it))
  | 0x31 =>
    let a := c.desc n o 0
    let x := (c.desc n o 3).index 128 it
    let j1 := x.2.getD 0 0
    if vPar o 71 70 = 0 then [] else if vPar o 71 70 = 1 then [(0, 128, x.1)] else [(0, 128, j1 / a.n0 * a.c0 128 + j1 % a.n0 / 128)]
  | 0x34 => []
  | 0x35 => []
  | 0x37 => if vPar o 71 70 = 0 then [(0, 128, it)] else []
  | _ => [(0, 128, it)]

/-- The vector op under way on core n. -/
def Cluster.vec (c : Cluster) (n : Nat) : Option VecJob := vat c.vecs n none
def Cluster.setVec (c : Cluster) (n : Nat) (j : Option VecJob) : Cluster := { c with vecs := vset c.vecs n j }

/-- The static port uses that the vector op of core n makes for reads in this cycle (R176). -/
def Cluster.vecReadUses (c : Cluster) (n : Nat) : List (Nat × Nat) :=
  match c.vec n with
  | none => []
  | some j =>
    match c.vecIt n j with
    | none => []
    | some it => (c.vecRuns n j.op it).flatMap (fun r => portUses (qVec n) false (c.runLines (c.desc n j.op r.1) r.2.1 r.2.2))

/-- Read runs of descriptors in this cycle. -/
def Cluster.readRuns (c : Cluster) (n : Nat) (o : MacroOp) (rs : List (Nat × Nat × Nat)) : List (List Nat) × Cluster :=
  rs.foldl (fun (p : List (List Nat) × Cluster) r =>
    let x := p.2.readRun n (opCtx o) (c.desc n o r.1) r.2.1 r.2.2
    (p.1 ++ [x.1], x.2)) ([], c)

/-- A vector op begins: it runs for DURmin, refers to its tiles until then, and uses its ports from this cycle on (R172,
R176, R194). -/
def Cluster.beginVec (c : Cluster) (n : Nat) (o : MacroOp) (dm : Nat) (tiles : List Nat) (ents : List (W16 × Nat)) : Cluster :=
  let c := (c.addRefs (qVec n) c.lcc (c.lcc + dm - 1) tiles).setVec n (some ⟨o, c.lcc, dm, [], List.replicate 128 [], ents⟩)
  c.addUses (c.vecReadUses n)

/-- Run the meaning of a vector op in its start cycle, with its table words in order (R33, R138, R416). -/
def Cluster.onVec (c : Cluster) (n opc : Nat) (f : Cluster → MacroOp → Cluster) : Cluster :=
  c.onStart (qVec n) opc (fun c o => c.withTab (c.descKeys n o) (fun c => f c o))

/-- Keys of a frond entry's words (R416). -/
def frondKeys (n j : Nat) : List Nat := (List.range 24).map (fun k => rFrond n j (8 * k))

/-- What the start of a VRUN brings about (R172, R182). -/
def Cluster.doVrun (c : Cluster) (n : Nat) (o : MacroOp) : Cluster :=
  c.beginVec n o (c.vrunLen (c.frond n (fld o 191 187)) (c.vecIters n o)) (c.descTiles n o) []

/-- VRUN (R182, R237). -/
def vrunC (c : Cluster) (n : Nat) : Cluster :=
  c.onVec n 0x30 (fun c o => c.withTab (frondKeys n (fld o 191 187)) (fun c => c.doVrun n o))
def execVrun (n : CoreId) (s : State) : Host.Outcome State Fault Refusal := done s (vrunC s.cl n.val)

end Sys2Proof.Machine
end

