-- ==== Sys2Proof/Machine/Vector.lean ====
section
/-! DEFINITION. The other vector ops: VBCAST, VRED, VTOPK, VGATH, VSCAT, VCVT, VSTAT (R134, R135, R186 to R194, R238
to R243), and the cycle of the vector engine. The rules give their duration and last write; reads begin with the
start, one iteration a cycle. Log entries of its readings and choices: 56 DEDUCED, 57 DEDUCED, 58 DEDUCED, 59 DESIGN
CHOICE, 98 DESIGN CHOICE, 99 DESIGN CHOICE, 100 DESIGN CHOICE. -/

namespace Sys2Proof.Machine

/-- What VBCAST stores: mode 0 bit for bit, of which a narrow format takes the low bits (DESIGN CHOICE, log entry
98), else narrowed to nearest (R186). -/
def bcastCode (mode f : Nat) (x : W32) : Nat := if mode = 0 then x.toNat % 2 ^ fmtBits f else storeElem f .rne x

/-- The registers of `act` lanes that a run was loaded into: a masked position holds +0 (R174). -/
def lanesOf (act : Nat) (xs : List W32) : List W32 := (xs ++ List.replicate (act - xs.length) 0).take act

/-- A VBCAST fills iteration it from its source: the immediate, or the codes read (R186). -/
def Cluster.bcastTake (c : Cluster) (n : Nat) (j : VecJob) (it : Nat) (ins : List (List Nat)) : Cluster :=
  let o := j.op
  let a := c.desc n o 0
  let out := c.desc n o 3
  let x := out.index 128 it
  let act := out.active 128 x.1
  let xs := (ins.headD []).map (loadElem a.fmt)
  let vs := match vPar o 71 70 with
    | 0 => List.replicate act (BitVec.ofNat 32 (vPar o 63 32))
    | 1 => lanesOf act xs
    | _ => List.replicate act (xs.getD (x.2.getD 0 0 % a.n0 % 128) 0)
  c.writeRun n (j.t0 + c.vX + it + 1) out 128 it (vs.map (bcastCode (vPar o 71 70) out.fmt))

/-- What the start of a VBCAST brings about (R186, R194). -/
def Cluster.doVbcast (c : Cluster) (n : Nat) (o : MacroOp) : Cluster :=
  c.beginVec n o (c.vX + (c.desc n o 3).iters 128 + 1) (c.descTiles n o) []

/-- VBCAST (R186, R238). -/
def vbcastC (c : Cluster) (n : Nat) : Cluster := c.onVec n 0x31 (fun c o => c.doVbcast n o)
def execVbcast (n : CoreId) (s : State) : Host.Outcome State Fault Refusal := done s (vbcastC s.cl n.val)

/-- Sum of a chunk by a pairwise tree over 128 lanes; masked lanes enter as -0, or 0 for integers (R187). -/
def chunkSum (int : Bool) (xs : List W32) : W32 :=
  if int then xs.foldl (· + ·) 0 else treeSum 7 (xs ++ List.replicate (128 - xs.length) 0x80000000)

/-- Sum in order, beginning from the first. -/
def orderSum (int : Bool) : List W32 → W32
  | [] => 0
  | x :: xs => xs.foldl (fun s y => if int then s + y else fadd s y) x

/-- Maximum or minimum of a list: FMAX and FMIN, a NaN anywhere gives the canonical NaN; signed for integers (R187). -/
def redExt (int mx : Bool) : List W32 → W32
  | [] => 0
  | x :: xs =>
    let r := xs.foldl (fun s y => if int then (if mx then imax s y else imin s y) else if mx then fmaxNum s y else fminNum s y) x
    if !int && fcmpUn r r then qnan32 else r

/-- Does y beat x strictly, in the order of FMAX or FMIN (R187)? -/
def beats (int mx : Bool) (x y : W32) : Bool :=
  if int then (if mx then x.slt y else y.slt x)
  else if mx then fmaxNum x y != x else fminNum x y != x

/-- Index of the largest or smallest element: NaN is skipped, the lowest index wins a tie, 0 when every one is NaN (R187). -/
def redArg (int mx : Bool) (xs : List W32) : W32 :=
  let step := fun (b : Option (W32 × Nat)) (e : W32 × Nat) =>
    if !int && fcmpUn e.1 e.1 then b
    else match b with
      | none => some e
      | some w => if beats int mx w.1 e.1 then some e else b
  match xs.zipIdx.foldl step none with
  | some w => BitVec.ofNat 32 w.2
  | none => 0

/-- One reduction of a list cut into chunks; the chunks matter to SUM alone (R187). -/
def reduce (int : Bool) (rop : Nat) (chunks : List (List W32)) (tree : Bool) : W32 :=
  match rop with
  | 0 => orderSum int (if tree then chunks.map (chunkSum int) else chunks.flatten)
  | 1 => redExt int true chunks.flatten
  | 2 => redExt int false chunks.flatten
  | 3 => redArg int true chunks.flatten
  | _ => redArg int false chunks.flatten

/-- The results that the runs of a VRED's input give so far, in the order of its output elements (R187): with AXIS 0
one for each row of chunks, with AXIS 1 one for each element of the chunks whose last row has been read. -/
def vredResults (int : Bool) (rop axis : Nat) (d : Desc) (runs : List (List W32)) : List W32 :=
  let c0 := d.c0 128
  if axis = 0 then
    (List.range (runs.length / c0)).map (fun r => reduce int rop ((runs.drop (r * c0)).take c0) true)
  else
    let c1 := d.cnt.headD 1
    (List.range (runs.length / c1 + c0)).flatMap (fun k =>
      let first := k / c0 * c0 * c1 + k % c0
      if first + c0 * (c1 - 1) < runs.length then
        let col := (List.range c1).map (fun j => runs.getD (first + c0 * j) [])
        (List.range (col.headD []).length).map (fun i => reduce int rop [col.map (fun r => r.getD i 0)] false)
      else [])

/-- First element of run it of a descriptor, counted over all its runs. -/
def Desc.runStart (d : Desc) (it : Nat) : Nat := it / d.c0 128 * d.n0 + it % d.c0 128 * 128

/-- Post the runs of an output that the results have completed since `had` of them were there: run it of k is written at
LCC fin - k + it (R187, R194). -/
def Cluster.postRuns (c : Cluster) (n fin : Nat) (out : Desc) (had : Nat) (codes : List Nat) : Cluster :=
  let k := out.iters 128
  c.each (List.range k) (fun c it =>
    let lo := out.runStart it
    let hi := lo + out.active 128 (out.index 128 it).1
    if had < hi && decide (hi ≤ codes.length) then c.writeRun n (fin - k + it) out 128 it ((codes.drop lo).take (hi - lo)) else c)

/-- A VRED takes a run of its input (R187; log entry 99 for an output of another kind than the input). -/
def Cluster.redTake (c : Cluster) (n : Nat) (j : VecJob) (ins : List (List Nat)) : Cluster × VecJob :=
  let o := j.op
  let a := c.desc n o 0
  let out := c.desc n o 3
  let res := fun (rs : List (List Nat)) => vredResults (fmtIsInt a.fmt) (vPar o 71 69) (vPar o 68 68) a (rs.map (fun x => x.map (loadElem a.fmt)))
  let runs := j.runs ++ [ins.headD []]
  (c.postRuns n (j.t0 + j.dm) out (res j.runs).length ((res runs).map (storeElem out.fmt .rne)), { j with runs := runs })

/-- DURmin of a VRED (R194). -/
def Cluster.vredLen (c : Cluster) (n : Nat) (o : MacroOp) : Nat :=
  c.vX + (c.desc n o 0).iters 128 + c.vLam + (if vPar o 68 68 = 0 then 8 else 1)

/-- What the start of a VRED brings about (R187, R194). -/
def Cluster.doVred (c : Cluster) (n : Nat) (o : MacroOp) : Cluster := c.beginVec n o (c.vredLen n o) (c.descTiles n o) []

/-- VRED (R187, R239). -/
def vredC (c : Cluster) (n : Nat) : Cluster := c.onVec n 0x32 (fun c o => c.doVred n o)
def execVred (n : CoreId) (s : State) : Host.Outcome State Fault Refusal := done s (vredC s.cl n.val)

/-- Does a score rank before another: NaN below every number, -0 equal to +0 (R188)? -/
def ranksBefore (x y : W32) : Bool := if fcmpUn x x then false else if fcmpUn y y then true else fcmpLt y x

/-- Insert a column behind those that it does not rank before. -/
def rankIns (x : W32 × Nat) : List (W32 × Nat) → List (W32 × Nat)
  | [] => [x]
  | y :: ys => if ranksBefore x.1 y.1 then x :: y :: ys else y :: rankIns x ys

/-- Columns in descending score order, equal scores by column number (R188). -/
def ranked (row : List W32) : List (W32 × Nat) := row.zipIdx.foldl (fun l x => rankIns x l) []

/-- Combine weights of a token's choices (R190). -/
def topWeights (mode : Nat) (row : List W32) (ch : List (W32 × Nat)) : List W32 :=
  let m := (ch.headD (0, 0)).1
  let ex := fun (s : W32) => sfu 8 (fsub s m)
  match mode with
  | 0 => ch.map (fun _ => 0x3F800000)
  | 1 => ch.map (fun x => x.1)
  | 2 => ch.map (fun x => fdiv (ex x.1) (orderSum false (ch.map (fun y => ex y.1))))
  | _ => ch.map (fun x => fdiv (ex x.1) (orderSum false (row.map ex)))

/-- A routed choice: token, choice number, expert, slot in its list, weight (R134). -/
abbrev Pair := Nat × Nat × Nat × Nat × W32

/-- The pairs of a routing, tokens ascending, with the slot each takes or would take (R134, R188). -/
def routePairs (ksel wmode : Nat) (rows : List (List W32)) : List Pair :=
  (rows.zipIdx.foldl (fun (s : List Pair × List Nat) r =>
    let ch := (ranked r.1).take ksel
    let ws := topWeights wmode r.1 ch
    let ps := ch.zipIdx.map (fun x => (r.2, x.2, x.1.2, s.2.count x.1.2, ws.getD x.2 0))
    (s.1 ++ ps, s.2 ++ ch.map (fun x => x.2))) ([], [])).1

/-- List row of entries: the given ones valid, the rest padding, whose INDEX is free (R128, R134). -/
def Cluster.listRow (c : Cluster) (len : Nat) (idx : List Nat) : List Byte × Cluster :=
  ((List.range len).flatMap (fun i => leBytes 2 (match idx[i]? with
    | some x => 32768 + x % 32768
    | none => (Config.freeWord (c.freeCtr + i)).toNat % 32768)), { c with freeCtr := c.freeCtr + len })

/-- Post a list row of a VT tile for LCC t. -/
def Cluster.putList (c : Cluster) (n : Nat) (o : MacroOp) (t i len : Nat) (idx : List Nat) : Cluster :=
  let r := c.listRow len idx
  r.2.post t 2 (.row n (16 + vPar o 49 47) (vPar o 46 40 + i) r.1)

/-- A combine record (R190). -/
def combineRec (cap : Nat) (p : Pair) : List Byte :=
  let ovf := decide (cap ≤ p.2.2.2.1)
  leBytes 8 ((if ovf then 0 else p.2.2.2.2.toNat) + p.2.2.1 <<< 32 + (if ovf then 0 else p.2.2.2.1) <<< 39 + (if ovf then 1 else 0) <<< 46)

/-- VTOPK in ROUTE mode: its rows are posted for LCC t (R134, R135, R188, R190). -/
def Cluster.route (c : Cluster) (n : Nat) (o : MacroOp) (rows : List (List W32)) (t : Nat) : Cluster :=
  let cap := vPar o 63 57 + 1
  let len := vPar o 56 50 + 1
  let e0 := vPar o 39 33
  let nl := vPar o 32 26 + 1
  let ps := routePairs (vPar o 70 64 + 1) (vPar o 9 8) rows
  let mine := fun (e : Nat) => (ps.filter (fun p => p.2.2.1 == e && decide (p.2.2.2.1 < cap))).map (fun p => p.1)
  let c := c.each (List.range nl) (fun c i => c.putList n o t i len (mine (e0 + i)))
  let excess := (ps.filter (fun p => decide (cap ≤ p.2.2.2.1) && decide (e0 ≤ p.2.2.1) && decide (p.2.2.1 < e0 + nl))).length
  let c := if excess = 0 then c else c.account (opCtx o) 10 excess
  if bitAt o 10 then c.regionWrite n t (c.desc n o 3) 0 (ps.flatMap (combineRec cap)) else c

/-- VTOPK in SELECT mode: its rows are posted for LCC t (R189). -/
def Cluster.select (c : Cluster) (n : Nat) (o : MacroOp) (rows : List (List W32)) (t : Nat) : Cluster :=
  let ksel := vPar o 70 64 + 1
  c.each rows.zipIdx (fun c r =>
    let cols := sortOn (fun x => x) (((ranked r.1).take ksel).map (fun x => x.2))
    c.putList n o t r.2 (vPar o 56 50 + 1) (cols.map (· + vPar o 25 11)))

/-- DURmin of a VTOPK (R194). -/
def Cluster.topkLen (c : Cluster) (o : MacroOp) (e t : Nat) : Nat :=
  c.vX + t * cdiv e 32 + 2 * c.vSig + 32 + 2 * (if bitAt o 71 then t else vPar o 32 26 + 1) + (if !bitAt o 71 && bitAt o 10 then t else 0)

/-- A VTOPK takes a row of scores; the last one gives its results (R188 to R190). -/
def Cluster.topkTake (c : Cluster) (n : Nat) (j : VecJob) (it : Nat) (ins : List (List Nat)) : Cluster × VecJob :=
  let o := j.op
  let a := c.desc n o 0
  let runs := j.runs ++ [ins.headD []]
  let f := fun (x : Nat) => if fmtIsInt a.fmt then i32ToF32 .rne (loadElem a.fmt x) else loadElem a.fmt x
  let rows := runs.map (fun x => x.map f)
  let t := j.t0 + j.dm - 1
  (if it + 1 < c.vecIters n o then c else if bitAt o 71 then c.select n o rows t else c.route n o rows t, { j with runs := runs })

/-- What the start of a VTOPK brings about (R188, R194). -/
def Cluster.doVtopk (c : Cluster) (n : Nat) (o : MacroOp) : Cluster :=
  let a := c.desc n o 0
  c.beginVec n o (c.topkLen o a.n0 (a.cnt.headD 1)) ((16 + vPar o 49 47) :: c.descTiles n o) []

/-- VTOPK (R188, R240). -/
def vtopkC (c : Cluster) (n : Nat) : Cluster := c.onVec n 0x33 (fun c o => c.doVtopk n o)
def execVtopk (n : CoreId) (s : State) : Host.Outcome State Fault Refusal := done s (vtopkC s.cl n.val)

/-- Used entries of the index list of a VGATH or VSCAT, with their numbers in the row (R191, R241). -/
def Cluster.vecList (c : Cluster) (n : Nat) (o : MacroOp) : List (W16 × Nat) :=
  let t := 16 + vPar o 61 59
  let l := (unpack 16 128 (c.tileBytes n t (vPar o 58 52 * c.tileB n t) 256)).map (BitVec.ofNat 16)
  (List.range (vPar o 44 38 + 1)).map (fun i => (l.getD (vPar o 51 45 + i) 0, vPar o 51 45 + i))

/-- Record the first out-of-range entry of an op and raise its fault, once (R191). -/
def Cluster.vecOut (c : Cluster) (n : Nat) (o : MacroOp) (es : List (W16 × Nat)) (rows : Nat) : Cluster :=
  match es.find? (fun e => bitAt e.1 15 && decide (rows ≤ fld e.1 14 0)) with
  | none => c
  | some e =>
    let c := if c.vgath.any (fun g => g.1 == n) then c else { c with vgath := c.vgath ++ [(n, o, e.2, fld e.1 14 0)] }
    c.raise 0x14 n (opCtx o)

/-- Row an entry names; none for a padding entry or one out of range. -/
def entryRow (rows : Nat) (e : W16) : Option Nat := if bitAt e 15 && decide (fld e 14 0 < rows) then some (fld e 14 0) else none

/-- Tiles of a VGATH or VSCAT. -/
def moveTiles (o : MacroOp) : List Nat :=
  [vPar o 71 67, vPar o 66 62, 16 + vPar o 61 59] ++ (if bitAt o 22 then [vPar o 21 17] else [])

/-- The start of a VGATH or VSCAT: the list is read, and an entry beyond the rows of the indexed tile is a fault (R191,
R194). -/
def Cluster.beginMove (c : Cluster) (n : Nat) (o : MacroOp) (tile dm : Nat) : Cluster :=
  let es := c.vecList n o
  (c.beginVec n o dm (moveTiles o) es).vecOut n o es (c.tileRows n tile)

/-- A VGATH applies entry it (R191). -/
def Cluster.gathTake (c : Cluster) (n : Nat) (j : VecJob) (it : Nat) : Cluster :=
  let o := j.op
  let st := vPar o 71 67
  let dt := vPar o 66 62
  c.post c.lcc 2 (.row n dt (vPar o 30 24 + it) (match entryRow (c.tileRows n st) (j.ents.getD it (0, 0)).1 with
    | some r => c.tileRow n st r
    | none => List.replicate (c.tileB n dt) 0))

/-- What the start of a VGATH brings about (R191, R194). -/
def Cluster.doVgath (c : Cluster) (n : Nat) (o : MacroOp) : Cluster := c.beginMove n o (vPar o 71 67) (c.vX + c.vecIters n o + 1)

/-- VGATH (R191, R241). -/
def vgathC (c : Cluster) (n : Nat) : Cluster := c.onVec n 0x34 (fun c o => c.doVgath n o)
def execVgath (n : CoreId) (s : State) : Host.Outcome State Fault Refusal := done s (vgathC s.cl n.val)

/-- d + (w * s) over a row of FP32 elements, each operation rounded (R191). -/
def addRow (w : W32) (d s : List Byte) : List Byte :=
  let k := d.length / 4
  packElems 32 (((unpack 32 k d).zip (unpack 32 k s)).map (fun p =>
    (fadd (BitVec.ofNat 32 p.1) (fmul w (BitVec.ofNat 32 p.2))).toNat))

/-- Weight of entry e of a VSCAT in ADD mode (R191, R241). -/
def Cluster.scatWeight (c : Cluster) (n : Nat) (o : MacroOp) (e : Nat) : W32 :=
  if bitAt o 22 then
    BitVec.ofNat 32 (leNat (c.tileBytes n (vPar o 21 17) (vPar o 16 10 * c.tileB n (vPar o 21 17) + 4 * e) 4))
  else 0x3F800000

/-- A VSCAT applies entry it; in ADD mode colliding entries accumulate (R191). -/
def Cluster.scatTake (c : Cluster) (n : Nat) (j : VecJob) (it : Nat) : Cluster :=
  let o := j.op
  let st := vPar o 71 67
  let dt := vPar o 66 62
  match entryRow (c.tileRows n dt) (j.ents.getD it (0, 0)).1 with
  | none => c
  | some r =>
    let s := c.tileRow n st (vPar o 37 31 + it)
    c.post c.lcc 2 (.row n dt r (if bitAt o 23 then addRow (c.scatWeight n o it) (c.tileRow n dt r) s else s))

/-- What the start of a VSCAT brings about (R191, R194). -/
def Cluster.doVscat (c : Cluster) (n : Nat) (o : MacroOp) : Cluster :=
  let e := c.vecIters n o
  c.beginMove n o (vPar o 66 62) (if bitAt o 23 then c.vX + 2 * e + c.vLam + 1 else c.vX + e + 1)

/-- VSCAT (R191, R241). -/
def vscatC (c : Cluster) (n : Nat) : Cluster := c.onVec n 0x35 (fun c o => c.doVscat n o)
def execVscat (n : CoreId) (s : State) : Host.Outcome State Fault Refusal := done s (vscatC s.cl n.val)

/-- First MX block of an iteration in its scale stream (R192). -/
def scaleFirst (d : Desc) (it : Nat) : Nat :=
  it / d.c0 128 * (d.n0 / 32) + it % d.c0 128 * 4

/-- A converted element on its way: FP32, or INT32 that a direct rule takes (R80). -/
def cvtSrc (f : Nat) (code : Nat) (sc : Nat) : W32 :=
  if fmtIsMx f then widen f code (some sc) else loadElem f code

/-- Convert one element to a format that is not MX (R80, R192); INT32 goes to a float through FP32 (DESIGN CHOICE, log
entry 100). -/
def cvtOne (src dst : Nat) (r : Rnd) (x : W32) : Nat :=
  if fmtIsInt src then (if fmtIsInt dst then narrowInt dst x else narrow dst r (f32 (i32ToF32 r x)))
  else narrow dst r (f32 x)

/-- Cycles from the read of an iteration of a VCVT to its write (R194). -/
def Cluster.cvtLat (c : Cluster) (n : Nat) (o : MacroOp) : Nat :=
  c.vX + c.vLam + 1 + (if fmtIsMx (c.desc n o 3).fmt then 4 else 0)

/-- A VCVT converts iteration it; MX scales are read from and written to the scale stream (R192). -/
def Cluster.cvtTake (c : Cluster) (n : Nat) (j : VecJob) (it : Nat) (ins : List (List Nat)) : Cluster :=
  let o := j.op
  let a := c.desc n o 0
  let out := c.desc n o 3
  let s := c.desc n o 4
  let k := c.ctx (opCtx o)
  let rnd : Nat → Rnd := fun i =>
    rndOf (vPar o 71 70) (srGen k.srseed k.linseq (BitVec.ofNat 32 (opStamp o)) ((n * 5 + 4) * 128 + i) it 0)
  let codes := ins.headD []
  let sc := if fmtIsMx a.fmt then c.tileBytes n s.tile (s.base + scaleFirst a it) (cdiv codes.length 32) else []
  let xs := lanesOf (out.active 128 (it % out.c0 128)) (codes.zipIdx.map (fun x => cvtSrc a.fmt x.1 (sc.getD (x.2 / 32) 0).toNat))
  let t := c.lcc + c.cvtLat n o
  if fmtIsMx out.fmt then
    let fp := xs.zipIdx.map (fun x => if fmtIsInt a.fmt then f32 (i32ToF32 (rnd x.2) x.1) else f32 x.1)
    let bl := (List.range (fp.length / 32)).map (fun b => mxBlock out.fmt (fun i => rnd (32 * b + i)) ((fp.drop (32 * b)).take 32))
    (c.writeRun n t out 128 it (bl.flatMap (fun b => b.2))).regionWrite n t s (scaleFirst out it) (bl.map (fun b => BitVec.ofNat 8 b.1))
  else c.writeRun n t out 128 it (xs.zipIdx.map (fun x => cvtOne a.fmt out.fmt (rnd x.2) x.1))

/-- What the start of a VCVT brings about (R192, R194). -/
def Cluster.doVcvt (c : Cluster) (n : Nat) (o : MacroOp) : Cluster :=
  c.beginVec n o (c.cvtLat n o + (c.desc n o 3).iters 128) (c.descTiles n o) []

/-- VCVT (R192, R242). -/
def vcvtC (c : Cluster) (n : Nat) : Cluster := c.onVec n 0x36 (fun c o => c.doVcvt n o)
def execVcvt (n : CoreId) (s : State) : Host.Outcome State Fault Refusal := done s (vcvtC s.cl n.val)

/-- VSTAT, MODE 0, takes a run of features; the last one gives one record per token (R193). -/
def Cluster.accumTake (c : Cluster) (n : Nat) (j : VecJob) (it : Nat) (ins : List (List Nat)) : Cluster × VecJob :=
  let o := j.op
  let a := c.desc n o 0
  let c0 := a.c0 128
  let runs := j.runs ++ [ins.headD []]
  let rows := (List.range (runs.length / c0)).map (fun r => (((runs.drop (r * c0)).take c0).flatten).map (loadElem a.fmt))
  (if it + 1 < c.vecIters n o then c
   else c.regionWrite n (j.t0 + j.dm - 1) (c.desc n o 3) 0 (rows.flatMap (fun x => leBytes 16 (statOf (bitAt o 69) x).bits.toNat)),
   { j with runs := runs })

/-- The record of slot s, column p that VSTAT merges (R193): a side buffer, or rows through DA. -/
def Cluster.vstatSlot (c : Cluster) (n : Nat) (o : MacroOp) (s p : Nat) : Stat :=
  let k := vPar o 68 66
  if k < 4 then c.sideAt (4 * n + k) s p
  else
    let a := c.desc n o 0
    Stat.of (BitVec.ofNat 96 (leNat (c.tileBytes n a.tile (a.base + 512 * s + 16 * p) 12)))

/-- VSTAT, MODEs 1 and 2: the merged records, or their means and rstd (R193). -/
def Cluster.mergeTake (c : Cluster) (n : Nat) (j : VecJob) : Cluster :=
  let o := j.op
  let recs := (List.range 32).map (fun p =>
    (List.range (vPar o 60 56 + 1)).foldl (fun s i => statMerge s (c.vstatSlot n o (vPar o 65 61 + i) p)) Stat.none)
  let eps : W32 := BitVec.ofNat 32 (vPar o 54 39 * 65536)
  let out := recs.flatMap (fun s =>
    if vPar o 71 70 = 2 then
      let m := statFin (bitAt o 55) s eps
      leBytes 4 m.1.toNat ++ leBytes 4 m.2.toNat
    else leBytes 16 s.bits.toNat)
  c.regionWrite n (j.t0 + j.dm - 1) (c.desc n o 3) 0 out

/-- DURmin of a VSTAT (R194). -/
def Cluster.vstatLen (c : Cluster) (n : Nat) (o : MacroOp) : Nat :=
  if vPar o 71 70 = 0 then c.vX + (c.desc n o 0).iters 128 * vecStep o + c.vLam + 16
  else c.vX + 4 * (vPar o 60 56 + 1) + c.vLam + 1 + (if vPar o 71 70 = 2 then c.vSig + 1 else 0)

/-- What the start of a VSTAT brings about (R193, R194). -/
def Cluster.doVstat (c : Cluster) (n : Nat) (o : MacroOp) : Cluster := c.beginVec n o (c.vstatLen n o) (c.descTiles n o) []

/-- VSTAT (R193, R243). -/
def vstatC (c : Cluster) (n : Nat) : Cluster := c.onVec n 0x37 (fun c o => c.doVstat n o)
def execVstat (n : CoreId) (s : State) : Host.Outcome State Fault Refusal := done s (vstatC s.cl n.val)

/-- What a vector op does with iteration it, whose runs it has read (R171 to R194). -/
def Cluster.vecTake (c : Cluster) (n : Nat) (j : VecJob) (it : Nat) (ins : List (List Nat)) : Cluster × VecJob :=
  match opOpc j.op with
  | 0x30 => c.vrunTake n j it ins
  | 0x31 => (c.bcastTake n j it ins, j)
  | 0x32 => c.redTake n j ins
  | 0x33 => c.topkTake n j it ins
  | 0x34 => (c.gathTake n j it, j)
  | 0x35 => (c.scatTake n j it, j)
  | 0x36 => (c.cvtTake n j it ins, j)
  | _ => if vPar j.op 71 70 = 0 then c.accumTake n j it ins else (c.mergeTake n j, j)

/-- What the vector engine of core n does in an executed cycle; an op is over with DURmin (R172, R194). -/
def Cluster.vecCycle (c : Cluster) (n : Nat) : Cluster :=
  match c.vec n with
  | none => c
  | some j =>
    let r := match c.vecIt n j with
      | some it =>
        let x := c.readRuns n j.op (c.vecRuns n j.op it)
        x.2.vecTake n j it x.1
      | none => (c, j)
    r.1.setVec n (if c.lcc + 1 < j.t0 + j.dm then some r.2 else none)

end Sys2Proof.Machine
end

