-- ==== Sys2Proof/Machine/Sched.lean ====
section
/-! DEFINITION. The context and scheduling unit: dispatch requests, dispatch, launch, segment branches, the deadline
monitor, pre-emption, save and resume, teardown, re-arm and snapshot (R139 to R144, R273 to R276, R370 to R394). Log
entries of its readings and choices: 11 DESIGN CHOICE, 28 DEDUCED, 29 DEDUCED, 30 DEDUCED, 31 DEDUCED, 87 DEDUCED, 88
DEDUCED, 93 DEDUCED, 94 DESIGN CHOICE. -/

namespace Sys2Proof.Machine

/-- Fields of a lining descriptor (R373). -/
def lnSend (d : List Byte) : Nat := leAt d 4 4
def lnCtxs (d : List Byte) : List Nat := (List.range (min 16 (leAt d 2 1))).map (fun i => leAt d (8 + i) 1 % 64)
def lnCount (d : List Byte) (q : Nat) : Nat := leAt d (0x20 + 4 * q) 4
def lnWalk (d : List Byte) (n : Nat) : Nat := leAt d (0xF0 + 2 * n) 2
def lnCode (d : List Byte) (n : Nat) : Nat := leAt d (0x100 + 2 * n) 2
def lnClOff (d : List Byte) : Nat := leAt d 0x110 4
def lnClN (d : List Byte) : Nat := leAt d 0x114 4
def lnSaveHnd (d : List Byte) : Nat := leAt d 0x118 2 % 4096
def lnSaveOff (d : List Byte) : Nat := leAt d 0x11C 4
def lnNvar (d : List Byte) (i : Nat) : Nat := leAt d (0x140 + 16 * i) 1
def lnFin (d : List Byte) (i v : Nat) : Nat := leAt d (0x144 + 16 * i + 4 * v) 4

/-- The descriptor of an admitted lining. -/
def Cluster.lining (c : Cluster) (lid : Nat) : Option LinEnt := c.linings.find? (fun l => l.lid == lid)

/-- The image that declares a lining. -/
def Cluster.imgOf (c : Cluster) (lid : Nat) : Option Img :=
  match c.slotOf lid with
  | some s => vat c.imgs s none
  | none => none

/-- PWR_BUDGET in force (R61). -/
def Cluster.budget (c : Cluster) : Nat := (c.regAt rPwr).toNat

/-- Does the peak of a lining's image fit the budget (R61)? -/
def Cluster.fits (c : Cluster) (lid : Nat) : Bool :=
  match c.imgOf lid with
  | some im => decide (im.peak ≤ c.budget)
  | none => false

/-- Record a refused request (R377). -/
def Cluster.dispLog (c : Cluster) (code lid : Nat) : Cluster := c.latch (rCtx + 0x1000) (place code 60 ||| place (lid % 1024) 50)

/-- DISPATCH_SUBMIT (R377): the staged request is queued, or refused and recorded. The lowest code is recorded. -/
def dispatchSubmitC (c : Cluster) : Cluster :=
  if !c.answers then c
  else
    let lid := c.dictAt 0x2303 1
    let flags := c.dictAt 0x2303 3
    if (c.imgOf lid).isNone then c.dispLog 1 lid
    else if !c.fits lid then c.dispLog 2 lid
    else if 16 ≤ c.reqs.length then c.dispLog 3 lid
    else
      let q : Req := { id := c.nextOrd, lid := lid, tbat := BitVec.ofNat 64 (c.dictAt 0x2303 2), now := flags.testBit 0,
                       prio := flags / 2 % 4, period := c.dictAt 0x2303 4 }
      { c with reqs := c.reqs ++ [q], nextOrd := c.nextOrd + 1 }
def execDispatchSubmit (s : State) : Host.Outcome State Fault Refusal := done s (dispatchSubmitC s.cl)

/-- STOP_REQUEST (R382, R394): held for the running or dispatching lining only. -/
def stopRequestC (c : Cluster) : Cluster :=
  match c.run with
  | some r => if c.answers then { c with run := some { r with stop := true } } else c
  | none => c
def execStopRequest (s : State) : Host.Outcome State Fault Refusal := done s (stopRequestC s.cl)

/-- TEARDOWN_REQUEST (R386, R394). -/
def teardownRequestC (c : Cluster) (k : Nat) : Cluster := if c.answers then c.teardown k else c
def execTeardownRequest (ctx : CtxId) (s : State) : Host.Outcome State Fault Refusal := done s (teardownRequestC s.cl ctx.val)

/-- REARM (R387): at once when the context is not bound or suspended, else when its lining ends. -/
def rearmC (c : Cluster) (k : Nat) : Cluster :=
  if !c.answers then c
  else if (c.ctx k).state ≤ 1 then c.doRearm k
  else c.setCtx k { c.ctx k with rearm := true }
def execRearm (ctx : CtxId) (s : State) : Host.Outcome State Fault Refusal := done s (rearmC s.cl ctx.val)

/-- SNAPSHOT (R392): at once when the context is IDLE or FREE, else when its lining ends. -/
def snapshotC (c : Cluster) (k : Nat) : Cluster :=
  if !c.answers then c
  else if (c.ctx k).state ≤ 1 then c.doSnapshot k
  else c.setCtx k { c.ctx k with snap := true }
def execSnapshot (ctx : CtxId) (s : State) : Host.Outcome State Fault Refusal := done s (snapshotC s.cl ctx.val)

/-- Is the image of a lining on its way out (R407)? -/
def Cluster.retiring (c : Cluster) (lid : Nat) : Bool :=
  match c.imgOf lid with
  | some im => im.retire
  | none => true

/-- Contexts that a lining lists. -/
def Cluster.lidCtxs (c : Cluster) (lid : Nat) : List Nat :=
  match c.lining lid with
  | some l => lnCtxs l.desc
  | none => []

/-- Is a request eligible (R379)? -/
def Cluster.reqEligible (c : Cluster) (q : Req) : Bool :=
  (q.now || decide (q.tbat.toNat ≤ c.tbNow + 1250)) && !(c.lidCtxs q.lid).any (fun k => (c.ctx k).state == 3) && !c.retiring q.lid

/-- Is a suspended lining eligible (R379)? -/
def Cluster.suspEligible (c : Cluster) (p : Susp) : Bool :=
  c.fits p.lid && !c.retiring p.lid && !p.ctxs.any (fun k => (c.ctx k).state == 2)

/-- What the unit may dispatch. -/
inductive Pick where
  | again (lid prio : Nat) (tbat : W64) (now : Bool)
  | resume (p : Susp)
  | fresh (q : Req)
  deriving DecidableEq, Repr

/-- The eligible suspended linings and requests of a priority: suspended linings oldest first, then requests by
earliest TBAT and then by queue order (R379). -/
def Cluster.picksAt (c : Cluster) (prio : Nat) : List Pick :=
  ((c.susp.filter (fun p => p.prio == prio && c.suspEligible p)).map Pick.resume) ++
    (sortOn (fun q => q.tbat.toNat) (c.reqs.filter (fun q => q.prio == prio && c.reqEligible q))).map Pick.fresh

/-- What the unit dispatches next (R379). A re-run comes first, whatever the budget is by then (DESIGN CHOICE, log entry
94). -/
def Cluster.pick (c : Cluster) : Option Pick :=
  match c.rerun with
  | some p => some (.again p.1 p.2.1 p.2.2.1 p.2.2.2)
  | none => (c.picksAt 3 ++ c.picksAt 2 ++ c.picksAt 1 ++ c.picksAt 0).head?

/-- Variant of a lining for a context (R390). -/
def variantFor (pin level nvar : Nat) : Nat := min (if pin ≠ 0 then pin - 1 else level) (nvar - 1)

/-- Values of the dictionary sampled for context k (R372). -/
def Cluster.sampleCtx (c : Cluster) (k : Nat) (x : Ctx) : Ctx :=
  { x with client := BitVec.ofNat 32 (c.dictAt (0x2310 + k) 1), dlrel := c.dictAt (0x2310 + k) 2,
           srseed := BitVec.ofNat 32 (c.dictAt (0x2310 + k) 3), pin := c.dictAt (0x2310 + k) 4, sampled := true,
           linseq := x.linseq + 1 }

/-- Bind context k, slot i of a lining's list, for a dispatch (R372, R380, R388, R391). -/
def Cluster.bindCtx (c : Cluster) (d : List Byte) (again : Bool) (tbat : W64) (i k : Nat) : Cluster :=
  let x := if again then c.ctx k else c.sampleCtx k (c.ctx k)
  let nvar := lnNvar d i
  let x := { x with state := 2, nvar := nvar, var := variantFor x.pin x.level nvar, allow := c.allowance x.hist,
                    fin := Vector.ofFn (fun v => lnFin d i v.val) }
  let x := { x with dl := tbat.toNat + x.dlrel, finSet := false, pmiss := false, hchg := 0, exits := [], alts := [], tornAt := 0 }
  (c.setCtx k x).account k (if again then 1 else 0) 1

/-- A part of an image's per-core section lands in instruction memory or data memory (R278, R406). The instruction
section begins with a head of 64 bytes (log entry 20). -/
def Cluster.loadCore (c : Cluster) (n : Nat) (imem : Bool) (first : Nat) (bs : List Byte) : Cluster :=
  let a := n * 65536 + first * 64
  if imem then { c with imem := Memory.write c.imem a bs, imemErr := Sparse.clearRange c.imemErr a (a + bs.length) }
  else { c with dmem := Memory.write c.dmem a bs, dmemErr := Sparse.clearRange c.dmemErr a (a + bs.length) }

/-- Reload one per-core section of the image in a slot (R278). -/
def Cluster.reloadSec (c : Cluster) (slot n : Nat) (d : DirEnt) : Cluster :=
  let p := c.residentRead slot (d.off + d.skip) d.loads
  match p.1 with
  | none => p.2
  | some bs => p.2.loadCore n (d.ty == 0x10) d.first bs

/-- Reload the memories of core n from the image in a slot, where a stop asks for it (R278, R397). -/
def Cluster.reloadFrom (c : Cluster) (n slot : Nat) (im : Img) : Cluster :=
  let x := c.core n
  let q := c.residentDir slot im
  if !q.2 then q.1
  else
    let parts := (q.1.dir im.base).filter (fun d => d.core == n && ((d.ty == 0x10 && x.reloadI) || (d.ty == 0x11 && x.reloadD)))
    q.1.each parts (fun c d => c.reloadSec slot n d)

/-- Reload the memories of core n from the admitted images, where a stop asks for it (R278). -/
def Cluster.reload (c : Cluster) (n : Nat) : Cluster :=
  let x := c.core n
  if !x.reloadI && !x.reloadD then c else
  let c := c.each (List.range 8) (fun c slot => match vat c.imgs slot none with
    | none => c
    | some im => c.reloadFrom n slot im)
  c.setCore n { c.core n with reloadI := false, reloadD := false }

/-- A control core at the start of a lining (R273): loops closed, no credit, registers and predicates cleared. -/
def Core.begin (x : Core) (s : CoreSec) (walk code cur : Nat) (again : Bool) : Core :=
  { x with
    walkRun := true, codeRun := x.mode == 2, stopped := false, wwait := 0, stall := .none, cur := cur, widx := walk
    loops := Vector.replicate 4 Loop.reset, credit := 0, pc := code
    regs := Vector.replicate 32 0, preds := Vector.replicate 8 false, segq := [], segLost := []
    sendSeq := if again then x.seqAt0 else x.sendSeq
    tmpl := s.tmpl, delta := s.delta, walk := s.walk, codeLo := s.codeLo, codeHi := s.codeHi }

/-- Start control core n for the lining under dispatch, if it is present and the image uses it (R273); a reload that
retires the image ends the lining, and starts nothing (R397, R407). -/
def Cluster.startCore (c : Cluster) (im : Img) (d : List Byte) (again : Bool) (cur n : Nat) : Cluster :=
  if c.run.isNone || c.flt.fenC.getLsbD n || im.modes / 4 ^ n % 4 = 0 then c
  else
    let c := c.reload n
    match im.secs.find? (fun s => s.core == n) with
    | none => c
    | some s => if c.run.isNone then c else c.setCore n ((c.core n).begin s (lnWalk d n) (lnCode d n) cur again)

/-- Lateness of a lining: TB0 - TBAT in tk, 0 if on time (R380, R393). -/
def lateness (tbat tb0 : W64) : Nat := satN 0xFFFFFFFF (tb0.toNat - tbat.toNat)

/-- CTX_RUN at a dispatch (R380, R393). -/
def Cluster.runRegs (c : Cluster) (again : Bool) (prio : Nat) (now : Bool) (lid : Nat) : Cluster :=
  c.setReg rCtx (placeB again 62 ||| place prio 60 ||| placeB now 59 ||| place lid 32)

/-- Open the queues of a lining with their op counts (R35). -/
def Cluster.openQueues (c : Cluster) (d : List Byte) : Cluster :=
  { c with queues := Vector.ofFn (fun q : Fin 52 => { (c.queue q.val).idle with count := lnCount d q.val }) }

/-- Begin the dispatch of a lining that is not a resume (R380): its words have been read and its control list is at
hand. -/
def Cluster.beginRun (c : Cluster) (im : Img) (l : LinEnt) (r : Run) : Cluster :=
  let ks := lnCtxs l.desc
  let c := c.each ks.zipIdx (fun c p => c.bindCtx l.desc r.rerun r.tbat p.2 p.1)
  let c := (c.openQueues l.desc).runRegs r.rerun r.prio r.now l.lid
  let clear : Chan → Chan := fun cn => { cn with begun := [] }
  let c := { c with run := some r, chans := c.chans.map clear,
                    tim := { c.tim with lcc := 0, running := false, hold := none, next := none, held := 0, waive := [] } }
  c.each (List.range 8) (fun c n => c.startCore im l.desc r.rerun (ks.foldl min 63) n)

/-- A run record for a lining about to dispatch. -/
def newRun (l : LinEnt) (ctl : List MacroOp) (free : Nat) (again : Bool) (prio : Nat) (now : Bool) (tbat : W64) : Run where
  lid := l.lid
  prio := prio
  now := now
  tbat := tbat
  rerun := again
  tb0 := 0
  tbref := 0
  begun := false
  ready := free + 64
  ctxs := lnCtxs l.desc
  ctl := ctl
  sendEnd := lnSend l.desc
  stop := false
  saving := none
  detect := none
  detTorn := []
  detLines := []
  resumed := false
  reqId := 0
  period := 0
  skip := 0
  started := []
  saveRan := 0
  choices := []

/-- Split bytes into 32-byte control ops (R215). -/
def ctlOps (bs : List Byte) (n : Nat) : List MacroOp := (List.range n).map (fun i => BitVec.ofNat 256 (leAt bs (32 * i) 32))

/-- Dispatch lining lid, new or again (R380). Table words that cannot be used, or a resident line that cannot be read,
leave nothing to dispatch (R397, R416). -/
def Cluster.dispatchLid (c : Cluster) (lid : Nat) (f : LinEnt → List MacroOp → Nat → Run) : Cluster :=
  let p := c.tabRead ((List.range 72).map (fun j => kLining lid + j))
  match p.1.lining lid with
  | none => p.1
  | some l =>
    if !p.2 then p.1
    else
      let q := p.1.residentRead l.slot (lnClOff l.desc) (32 * lnClN l.desc)
      match q.1, vat q.2.imgs l.slot none with
      | some bs, some im => q.2.beginRun im l (f l (ctlOps bs (lnClN l.desc)) q.2.clk.free)
      | _, _ => q.2

/-- A request leaves the queue at its dispatch, or has its TBAT moved on by PERIOD (R377). -/
def Cluster.advanceReq (c : Cluster) (q : Req) : Cluster :=
  if q.period = 0 then { c with reqs := c.reqs.filter (fun r => r.id != q.id) }
  else
    let step : Req → Req := fun r => if r.id = q.id then { r with tbat := r.tbat + BitVec.ofNat 64 q.period } else r
    { c with reqs := c.reqs.map step }

/-- Dispatch a request; one whose image no longer fits the budget is removed and recorded (R61, R377). -/
def Cluster.dispatchReq (c : Cluster) (q : Req) : Cluster :=
  if !c.fits q.lid then ({ c with reqs := c.reqs.filter (fun r => r.id != q.id) }).dispLog 2 q.lid
  else
    (c.advanceReq q).dispatchLid q.lid (fun l ctl free =>
      { newRun l ctl free false q.prio q.now q.tbat with reqId := q.id, period := q.period })

/-- Number of tiles and rows that a core saves, and whether its scalar section is saved: its save time (R384). -/
def saveTime (cores : List (List (Nat × Nat) × Bool)) (nsync : Nat) : Nat :=
  64 + max (maxOf (cores.map (fun p => (p.1.map (fun t => 1 + t.2)).foldl (· + ·) 0 + (if p.2 then 1029 else 0)))) nsync

/-- Round up to a line. -/
def lineUp (a : Nat) : Nat := (a + 63) / 64 * 64

/-- Bytes of a tile of core n in its save section (R383): configuration, empty bits, and the content of its rows. -/
def Cluster.tileSave (c : Cluster) (n t : Nat) : List Byte :=
  leBytes 4 (c.tileCfg n t).toNat ++ leBytes 16 (c.tileEmpty n t) ++ List.replicate 12 0 ++
    (if c.tileValid n t then (List.range (c.tileRows n t)).flatMap (fun r => c.tileRow n t r) else [])

/-- Bytes of a core's scalar section (R383); its data memory is read as for every read (R277, R278). -/
def Cluster.scalarSave (c : Cluster) (n : Nat) : List Byte × Cluster :=
  let x := c.core n
  let r := c.dmemRead n 0 65536
  let p := ((List.range 8).map (fun i => if vat x.preds i false then 2 ^ i else 0)).foldl (· + ·) 0
  (x.regs.toList.flatMap (fun v => leBytes 8 v.toNat) ++ leBytes 8 (p + 256 * x.cur) ++ List.replicate 56 0 ++ r.1,
    if r.2.2 then r.2.1.coreStop n 1 0x25 else r.2.1)

/-- The section of core n in a save area (R383). -/
def Cluster.coreSave (live : List Byte) (p : List (List Byte) × Cluster) (n : Nat) : List (List Byte) × Cluster :=
  let c := p.2
  let t := (liveTiles live n).flatMap (c.tileSave n)
  let r := if liveScalar live n && (c.core n).mode == 2 then c.scalarSave n else ([], c)
  (p.1 ++ [t ++ r.1], r.2)

/-- The header of a save area (R383). -/
def Cluster.saveHead (c : Cluster) (r : Run) (tp live : Nat) : List Byte :=
  let h := leBytes 2 r.lid ++ leBytes 2 live ++ leBytes 4 tp ++ leBytes 8 c.tim.held ++ leBytes 8 (c.regAt (rClk + 0x10)).toNat
    ++ leBytes 8 r.tb0.toNat ++ leBytes 8 r.tbref ++ leBytes 1 r.prio ++ List.replicate 7 0
    ++ r.started.flatMap (leBytes 4)
  h ++ List.replicate (512 - h.length) 0

/-- Write sections one behind another, each at a line. -/
def Cluster.writeSections (c : Cluster) (a : Nat) : List (List Byte) → Cluster
  | [] => c
  | s :: ss => (c.spdWrite a s).writeSections (lineUp (a + s.length)) ss

/-- Scratchpad address of the save area of a lining (R383). -/
def Cluster.saveAddr (c : Cluster) (d : List Byte) : Nat := c.hndLine (lnSaveHnd d) (lnSaveOff d)

/-- Read a sync word for the save area: an uncorrectable one reads as zero, and raises SYN_WORD_UE for the lining's first
context (R365, R383). -/
def Cluster.saveWord (k : Nat) (p : List Byte × Cluster) (w : Nat) : List Byte × Cluster :=
  let r := p.2.spdRead 1 0 (syncAddr w) 8
  (p.1 ++ r.1, if r.2.2 then r.2.1.raise 0x23 (r.2.1.pbank (lbankOf (syncAddr w))) k else r.2.1)

/-- Bytes of the sync section (R383). -/
def Cluster.syncSave (c : Cluster) (k : Nat) (words : List Nat) : List Byte × Cluster :=
  words.foldl (Cluster.saveWord k) ([], c)

/-- Write the save area of a pre-empted lining (R383). -/
def Cluster.writeSave (c : Cluster) (d live : List Byte) (r : Run) (tp idx : Nat) : Cluster :=
  let p := (List.range 8).foldl (Cluster.coreSave live) ([c.saveHead r tp idx], c)
  let q := p.2.syncSave (r.ctxs.headD 0) (liveSync live)
  q.2.writeSections (c.saveAddr d) (p.1 ++ [q.1])

/-- The live-mask entry of a point of lining l. -/
def Cluster.liveEntry (c : Cluster) (l : LinEnt) (idx : Nat) : Option (List Byte) × Cluster := c.residentEntry l.slot 0x0A liveSize idx

/-- The lining becomes suspended and its contexts SUSP (R382). -/
def Cluster.suspend (c : Cluster) (r : Run) (tp idx : Nat) : Cluster :=
  let p : Susp := { lid := r.lid, prio := r.prio, tp := tp, live := idx, ctxs := r.ctxs, run := { r with stop := false },
                    begun := c.chans.toList.map (fun cn => cn.begun) }
  let c := c.each r.ctxs (fun c k => c.setCtx k { c.ctx k with state := 3 })
  { c with run := none, freeAt := c.clk.free, susp := c.susp ++ [p] }

/-- Does a transfer still stand in the table of a channel on which the lining has ops (R382)? -/
def Cluster.transfersLeft (c : Cluster) (d : List Byte) : Bool :=
  (List.range 4).any (fun ch => lnCount d (48 + ch) != 0 && (c.chan ch).tab.toList.any (fun x => x.isSome))

/-- Every bank is accessed in this cycle: a save or a restore moves through all of them (R281, R384,
log entry 93). -/
def Cluster.takeAll (c : Cluster) : Cluster := { c with spd := { c.spd with taken := List.range 256 } }

/-- T_save of a point of lining l, from what its live-mask entry names (R384). -/
def Cluster.saveTook (c : Cluster) (l : LinEnt) (idx : Nat) : Nat :=
  match (c.liveEntry l idx).1 with
  | none => 0
  | some live =>
    saveTime ((List.range 8).map (fun n =>
      ((liveTiles live n).map (fun t => (t, if c.tileValid n t then c.tileRows n t else 0)), liveScalar live n && (c.core n).mode == 2)))
      (liveSync live).length

/-- Save the pre-empted lining and suspend it (R382, R383). -/
def Cluster.doSave (c : Cluster) (r : Run) (l : LinEnt) (tp idx : Nat) : Cluster :=
  let p := c.liveEntry l idx
  match p.1 with
  | none => p.2
  | some live => p.2.withHandle (lnSaveHnd l.desc) fun c =>
      let c := (c.writeSave l.desc live r tp idx).takeAll
      if c.run.isSome then c.suspend r tp idx else c

/-- May a pre-empted lining's save end in this cycle: every transfer of the lining has left the table, no sync operation
is under way (R289), the save has run its time (R384), and the cycle is not throttled (R446)? -/
def Cluster.saveDone (c : Cluster) (r : Run) (l : LinEnt) (idx : Nat) : Bool :=
  c.ready && !c.transfersLeft l.desc && !c.syncOps.any (fun o => o.busy) && decide (c.saveTook l idx ≤ r.saveRan) && !c.throttled
    && c.spd.taken.isEmpty

/-- SAVE_COMPLETE (R382, R383): the save area is written, and the lining becomes suspended, unless an error in its data
memory has ended it. -/
def saveCompleteC (c : Cluster) : Cluster :=
  match c.run with
  | none => c
  | some r =>
    match r.saving, c.lining r.lid with
    | some (tp, idx), some l => if c.saveDone r l idx then c.doSave r l tp idx else c
    | _, _ => c
def execSaveComplete (s : State) : Host.Outcome State Fault Refusal := done s (saveCompleteC s.cl)

/-- An array before LCC 0: S0 in front, nothing under way; the per-token sets keep what they hold (R103, R164). -/
def ArrSt.clear (a : ArrSt) : ArrSt := { ArrSt.reset with prim0 := a.prim0, prim1 := a.prim1, primLast := a.primLast }

/-- What passes from no lining to the next (R103, R166, R197): accumulators, feeders, pipelines and drain paths,
side-buffer counts and tiles. -/
def Cluster.clearArrays (c : Cluster) : Cluster :=
  let side := (c.side.map (fun kv => (kv.1, setFld kv.2 31 0 0))).filter (fun kv => kv.2 != 0)
  let c := { c with acc := [], arrs := c.arrs.map ArrSt.clear, feeds := Vector.replicate 8 Feeder.reset,
                    vecs := Vector.replicate 8 none, side := side, refs := [], movs := [], posts := [], uses := [] }
  c.each (List.range 8) (fun c n => c.each (List.range 24) (fun c t => c.tileRelease n t))

/-- Restore one tile of core n from its place in a save area; the answer is where the next one begins, and its rows. -/
def Cluster.tileRestore (c : Cluster) (n t a : Nat) : Cluster × Nat × Nat :=
  let h := c.spdRead 1 0 a 32
  let cfg := leAt h.1 0 4
  let c := (h.2.1.setReg (rTilCfg n t) (BitVec.ofNat 64 cfg)).setTileEmpty n t (leAt h.1 4 16)
  if c.tileValid n t then
    let size := c.tileRows n t * c.tileB n t
    let b := c.spdRead 1 0 (a + 32) size
    ({ b.2.1 with mem := Memory.write b.2.1.mem (tileSlot n t) b.1 }, a + 32 + size, c.tileRows n t)
  else (c, a + 32, 0)

/-- Restore the scalar section of core n (R276, R383): no credit, and the entry's resume address. -/
def Cluster.scalarRestore (c : Cluster) (n a pc : Nat) : Cluster :=
  let h := c.spdRead 1 0 a (320 + 65536)
  let bs := h.1
  let w := leAt bs 256 8
  let x := h.2.1.core n
  let regs : Vector W64 32 := Vector.ofFn (fun i => BitVec.ofNat 64 (leAt bs (8 * i.val) 8))
  let x := { x with regs := regs, preds := Vector.ofFn (fun i => w.testBit i.val), cur := w / 256 % 64, pc := pc, credit := 0 }
  (h.2.1.setCore n x).loadCore n false 0 ((bs.drop 320).take 65536)

/-- Restore the tiles of a list in order. -/
def Cluster.tilesRestore (c : Cluster) (n : Nat) : List Nat → Nat → List (Nat × Nat) → Cluster × Nat × List (Nat × Nat)
  | [], a, acc => (c, a, acc)
  | t :: ts, a, acc =>
    let p := c.tileRestore n t a
    p.1.tilesRestore n ts p.2.1 (acc ++ [(t, p.2.2)])

/-- Restore the section of core n; the answer is where the next section begins, and what the restore took. -/
def Cluster.coreRestore (c : Cluster) (live : List Byte) (n a : Nat) : Cluster × Nat × (List (Nat × Nat) × Bool) :=
  let p := c.tilesRestore n (liveTiles live n) a []
  if liveScalar live n && (p.1.core n).mode == 2 then
    (p.1.scalarRestore n p.2.1 (livePc live n), lineUp (p.2.1 + 320 + 65536), (p.2.2, true))
  else (p.1, lineUp p.2.1, (p.2.2, false))

/-- The loops open at walk index i of core n (R276): LOOP entries before it whose ENDL comes after it, with the
indices of the live-mask entry. -/
def Cluster.loopsAt (c : Cluster) (n : Nat) (live : List Byte) (i : Nat) : Vector Loop 4 :=
  (List.range i).foldl (fun (v : Vector Loop 4) j =>
    let e := c.imemAt n ((c.core n).walk + 4 * j) 4
    let k := e / 2 ^ 26 % 4
    if e / 2 ^ 28 = 1 then vset v k ⟨true, liveLoop live n k, e % 65536 + 1, j + 1⟩
    else if e / 2 ^ 28 = 2 then vset v k Loop.reset
    else v) (Vector.replicate 4 Loop.reset)

/-- Restart the walker of core n at the point's resume index: it reads the LOOP entries before it (R276 to R278). -/
def Cluster.walkRestore (c : Cluster) (live : List Byte) (n : Nat) : Cluster :=
  let i := liveWalk live n
  if (c.core n).walkRun then
    c.withImem n [((c.core n).walk, 4 * i)] (fun c =>
      c.setCore n { c.core n with widx := i, loops := c.loopsAt n live i, pc := livePc live n })
  else c

/-- Restore the cores' sections, C0 to C7 in order. -/
def Cluster.coresRestore (c : Cluster) (live : List Byte) : List Nat → Nat → List (List (Nat × Nat) × Bool) →
    Cluster × Nat × List (List (Nat × Nat) × Bool)
  | [], a, acc => (c, a, acc)
  | n :: ns, a, acc =>
    let p := c.coreRestore live n a
    p.1.coresRestore live ns p.2.1 (acc ++ [p.2.2])

/-- Restore the sync words of a point: each goes to its word through the synchronisation unit (R289, R385). -/
def Cluster.syncRestore (c : Cluster) (k : Nat) (words : List Nat) (a : Nat) : Cluster :=
  c.each words.zipIdx (fun c p =>
    let r := c.spdRead 1 0 (a + 8 * p.2) 8
    r.2.1.syncPost p.1 k 0 (.restore (BitVec.ofNat 64 (leNat r.1))) none)

/-- Queues of a resumed lining: op counts, ops started, and E = t_p (R385). -/
def Cluster.resumeQueues (c : Cluster) (d head : List Byte) (tp : Nat) : Cluster :=
  let q : Fin 52 → EngQ := fun q =>
    { (c.queue q.val).idle with count := lnCount d q.val, started := leAt head (0x30 + 4 * q.val) 4, fin := tp }
  { c with queues := Vector.ofFn q }

/-- The channels' started transfers of a resumed lining, by which DMARR names them (R246). -/
def Cluster.resumeChans (c : Cluster) (p : Susp) : Cluster :=
  { c with chans := Vector.ofFn (fun i : Fin 4 => { c.chan i.val with begun := p.begun.getD i.val [] }) }

/-- CTX_RUN of a resumed lining: what its first dispatch recorded (R393). -/
def Cluster.resumeRegs (c : Cluster) (r : Run) (tb0 : W64) : Cluster :=
  let c := c.runRegs r.rerun r.prio r.now r.lid
  (c.setReg (rCtx + 8) tb0).setReg rCtx (setFld (setFld (c.regAt rCtx) 49 42 (satN 0xFF r.skip)) 31 0 (lateness r.tbat tb0))

/-- Restore a suspended lining from its save area, whose header is h, and bind its contexts again (R385). -/
def Cluster.restoreRun (c : Cluster) (p : Susp) (l : LinEnt) (im : Img) (live h : List Byte) : Cluster :=
  let tp := leAt h 4 4
  let tb0 := BitVec.ofNat 64 (leAt h 0x18 8)
  let run : Run := { p.run with saving := none, resumed := true, ready := c.clk.free + 64, tb0 := tb0, tbref := leAt h 0x20 8 }
  let c := { c with
    susp := c.susp.filter (fun s => s.lid != p.lid)
    run := some run
    tim := { c.tim with lcc := tp, running := false, hold := none, next := none, held := leAt h 8 8, waive := [] } }
  let c := c.each p.ctxs (fun c k => c.setCtx k { c.ctx k with state := 2 })
  let c := ((c.resumeQueues l.desc h tp).resumeChans p).resumeRegs run tb0
  let c := c.each (List.range 8) (fun c n => c.startCore im l.desc false (p.ctxs.foldl min 63) n)
  if c.run.isNone then c
  else
    let r := c.coresRestore live (List.range 8) (c.saveAddr l.desc + 512) []
    let c := r.1.syncRestore (p.ctxs.headD 0) (liveSync live) r.2.1
    let took := saveTime r.2.2 (liveSync live).length
    let c := { c.setReg (rClk + 0x10) (BitVec.ofNat 64 (leAt h 0x10 8)) with
      run := some { run with ready := c.clk.free + took + 64 }, posts := p.run.choices }
    c.each (List.range 8) (fun c n => c.walkRestore live n)

/-- Restore a suspended lining; what linings in between left is cleared first (R103, R197, R380, R385). -/
def Cluster.doResume (c : Cluster) (p : Susp) (l : LinEnt) (im : Img) (live : List Byte) : Cluster :=
  let h := c.spdRead 1 0 (c.saveAddr l.desc) 512
  (h.2.1.clearArrays.restoreRun p l im live h.1).takeAll

/-- Resume a suspended lining (R380, R385). -/
def Cluster.dispatchResume (c : Cluster) (p : Susp) : Cluster :=
  match c.lining p.lid, c.imgOf p.lid with
  | some l, some im =>
    let q := c.liveEntry l p.live
    (match q.1 with
     | none => q.2
     | some live => q.2.withHandle (lnSaveHnd l.desc) fun c => c.doResume p l im live)
  | _, _ => c

/-- A forerunner re-run (R299): LINSEQ is kept and SPD_RERUN rises; no budget is checked (log entry 94). -/
def Cluster.dispatchAgain (c : Cluster) (lid prio : Nat) (tbat : W64) (now : Bool) : Cluster :=
  (({ c with rerun := none }).stick (rSpd + 0x48) 15 0 1).dispatchLid lid (fun l ctl free => newRun l ctl free true prio now tbat)

/-- Is a dispatch to begin in this cycle: the cycle after the last lining ended or was saved, or a later one in which a
lining has become eligible (R379, R380)? -/
def Cluster.dispatchDue (c : Cluster) : Bool := c.ready && c.run.isNone && decide (c.freeAt < c.clk.free) && c.pick.isSome

/-- DISPATCH (R379, R380). -/
def dispatchC (c : Cluster) : Cluster :=
  if c.dispatchDue then
    match c.pick with
    | some (.again lid prio tbat now) => c.dispatchAgain lid prio tbat now
    | some (.resume p) => c.dispatchResume p
    | some (.fresh q) => c.dispatchReq q
    | none => c
  else c
def execDispatch (s : State) : Host.Outcome State Fault Refusal := done s (dispatchC s.cl)

/-- Advances of a periodic request dispatched for an instant, once LCC 0 executes at TB0 (R378). -/
def periodAdvances (tbat tb0 period : Nat) : Nat := if period = 0 || tb0 ≤ tbat then 1 else (tb0 - tbat) / period + 1

/-- A periodic request passes over the instants of its grid that are gone by TB0 (R378). -/
def Cluster.skipPeriods (c : Cluster) (r : Run) (tb0 : Nat) : Cluster :=
  let skip := periodAdvances r.tbat.toNat tb0 r.period - 1
  if skip = 0 then c
  else
    let step : Req → Req := fun q => if q.id = r.reqId then { q with tbat := q.tbat + BitVec.ofNat 64 (skip * r.period) } else q
    let c := { c with reqs := c.reqs.map step, run := some { r with skip := skip } }
    let c := c.setReg rCtx (setFld (c.regAt rCtx) 49 42 (satN 0xFF skip))
    c.setDict 0x2303 9 (satN 0xFFFFFFFF (c.dictAt 0x2303 9 + skip))

/-- The cycle that executes LCC 0 (R378, R380, R388): TB0, LATE, TBREF, the deadlines, and the send counters that a
re-run restores (R327). -/
def Cluster.atLcc0 (c : Cluster) (r : Run) : Cluster :=
  let tb0 := c.tb.value
  let ref := if r.now then tb0.toNat else r.tbat.toNat
  let c := { c with run := some { r with begun := true, tb0 := tb0, tbref := ref } }
  let c := (c.setReg (rCtx + 8) tb0).setReg rCtx (setFld (c.regAt rCtx) 31 0 (lateness r.tbat tb0))
  let c := c.skipPeriods { r with begun := true, tb0 := tb0, tbref := ref } tb0.toNat
  let c := c.each r.ctxs (fun c k => c.setCtx k { c.ctx k with dl := ref + (c.ctx k).dlrel })
  let mark : Core → Core := fun x => { x with seqAt0 := x.sendSeq }
  if r.rerun then c else { c with cores := c.cores.map mark }

/-- Record LCC 0 if the present cycle executes it. -/
def Cluster.beginCheck (c : Cluster) : Cluster :=
  match c.run with
  | some r => if c.tim.running && !r.begun && !c.heldNow then c.atLcc0 r else c
  | none => c

/-- Open the holds of the first two LCC values, which no evaluation two cycles ahead can find (R37, R41). -/
def Cluster.holdAtStart (c : Cluster) : Cluster :=
  let c := if c.causes c.lcc != 0 then c.openHold c.lcc else c
  if c.causes (c.lcc + 1) != 0 then c.openHold (c.lcc + 1) else c

/-- The line that a SEGBR reads its selector from (R140, R249). -/
def Cluster.segLine (c : Cluster) (o : MacroOp) : Nat := (hndBase (c.regAt (rHnd (fld o 188 177))) * 64 + 4 * fld o 176 153) / 64

/-- Enter the selector reads of the SEGBRs of this cycle as static port uses (R140, R283). -/
def Cluster.enterSegs (c : Cluster) : Cluster :=
  match c.run with
  | none => c
  | some r =>
    let now := r.ctl.filter (fun o => opOpc o == 0x51 && opStamp o == c.lcc && !c.nullified 63 0 o c.lcc)
    c.addUses (now.flatMap (fun o => portUses 63 false [c.segLine o]))

/-- LAUNCH (R248): LCC 0 is next to execute; the op leaves the control list. -/
def launchC (c : Cluster) : Cluster :=
  if c.launchDue then
    let c := c.popCtl.clearArrays.setReg (rClk + 0x10) 0
    ({ c with tim := { c.tim with running := true, lcc := 0 } }).enterSegs.holdAtStart.beginCheck
  else c
def execLaunch (s : State) : Host.Outcome State Fault Refusal := done s (launchC s.cl)

/-- Is the engine work of a resumed lining due to go on (R380, R385)? -/
def Cluster.resumeDue (c : Cluster) : Bool :=
  c.ready && !c.tim.running && (match c.run with
    | some r => r.begun && r.resumed && decide (r.ready ≤ c.clk.free) && r.saving.isNone
    | none => false)

/-- A resumed lining runs on from t_p. -/
def Cluster.resumeGo (c : Cluster) : Cluster :=
  if c.resumeDue then ({ c with tim := { c.tim with running := true } }).holdAtStart else c

/-- Alternative or exit that a SEGBR chooses for a selector value (R140). -/
def segChoice (o : MacroOp) (v : Nat) : Nat :=
  if bitAt o 191 then (if v ≠ 0 then 1 else 0) else min v (fld o 190 189)

/-- What a SEGBR leaves in CTX_SEGLAST and CTX_SEGSEL (R140, R145). -/
def segLog (o : MacroOp) (alt v : Nat) : W64 × W64 :=
  (placeB true 63 ||| place (opCtx o) 57 ||| placeB (bitAt o 191) 56 ||| place alt 54
    ||| place (if bitAt o 191 then 0 else fld o 190 189) 52 ||| place (opStamp o) 0, place v 0)

/-- A branch has an alternative, known F_R cycles after the read; the answer is the cores that take its record, and
that record (R140, R274). -/
def Cluster.postBranch (c : Cluster) (o : MacroOp) (alt : Nat) : Cluster × List Nat × SegRec :=
  let k := opCtx o
  let tab := fld o 120 109
  let r : SegRec := ⟨tab, k, alt, c.lcc + c.floor 2 + 1⟩
  let c := c.setCtx k { c.ctx k with alts := (tab, alt, c.lcc + c.floor 2) :: (c.ctx k).alts.filter (fun p => p.1 != tab) }
  let p := c.segEntry tab
  match p.1 with
  | some e => (p.2, bitsOf 8 (segCores e), r)
  | none => (p.2, [], r)

/-- An exit that is taken opens its range (R144). -/
def Cluster.openExit (c : Cluster) (o : MacroOp) : Cluster :=
  let k := opCtx o
  c.setCtx k { c.ctx k with exits := (opStamp o + c.floor 10, fld o 152 121) :: (c.ctx k).exits }

/-- What a chosen SEGBR does; the record and what it leaves in the registers come when the choice is known. -/
def Cluster.segAct (c : Cluster) (o : MacroOp) (alt : Nat) (log : Option (W64 × W64)) : Cluster :=
  let at_ := c.lcc + c.floor 2 - 1
  if bitAt o 191 then (if alt = 1 then c.openExit o else c).post at_ 9 (.choice log [] ⟨0, 0, 0, 0⟩)
  else
    let p := c.postBranch o alt
    p.1.post at_ 9 (.choice log p.2.1 p.2.2)

/-- A SEGBR reads its selector and chooses (R140). -/
def Cluster.doSegbr (c : Cluster) (o : MacroOp) : Cluster :=
  c.withHandle (fld o 188 177) fun c =>
    let p := c.portRead (opCtx o) (hndBase (c.regAt (rHnd (fld o 188 177))) * 64 + 4 * fld o 176 153) 4
    let v := leNat p.1
    let alt := segChoice o v
    p.2.1.segAct o alt (some (segLog o alt v))

/-- SEGBR (R139 to R144), behind the ops that start in its cycle, which a PPMARK behind it in the list bars; nullified, it
reads no selector, opens no range, and selects alternative 0 (R138). -/
def segbrC (c : Cluster) : Cluster :=
  match c.ctlHead 0x51 with
  | none => c
  | some (_, o) =>
    if c.nullified 63 0 o c.lcc then c.popCtl.segAct o 0 none else if c.settled || c.pointDue then c.popCtl.doSegbr o else c
def execSegbr (s : State) : Host.Outcome State Fault Refusal := done s (segbrC s.cl)

/-- A segment record reaches core n; a full queue discards it (R274, R275). -/
def Cluster.landSeg (c : Cluster) (n : Nat) (r : SegRec) : Cluster :=
  let x := c.core n
  if 4 ≤ x.segq.length then (c.setCore n { x with segOvf := true, segLost := r.tab :: x.segLost }).raise 0x16 n r.ctx
  else c.setCore n { x with segq := x.segq ++ [r] }

/-- The choice of a SEGBR becomes known (R140, R274). -/
def Cluster.landChoice (c : Cluster) (log : Option (W64 × W64)) (cores : List Nat) (r : SegRec) : Cluster :=
  let c := match log with
    | some l => (c.setReg (rCtx + 0x3000) l.1).setReg (rCtx + 0x3008) l.2
    | none => c
  c.each cores (fun c n => c.landSeg n r)

/-- FINTB as the monitor predicts it (R389). -/
def predict (tb tp held stretch fin allow hchg : Nat) : Nat :=
  let w := tp + held
  let rem := fin - tp
  tb + (if w = 0 then cdiv rem 14 else cdiv (rem * (8 * w + stretch)) (112 * w)) + (allow - cdiv hchg 14)

/-- The deadline prediction for one context at a PPMARK (R389). -/
def Cluster.predictCtx (c : Cluster) (tp k : Nat) : Cluster :=
  let x := c.ctx k
  let fin := vat x.fin x.var 0
  if x.torn || x.dlrel = 0 || fin < tp then c
  else if x.dl < predict c.tbNow tp c.tim.held (c.regAt (rClk + 0x10)).toNat fin x.allow x.hchg then
    c.setCtx k { x with pmiss := true }
  else c

/-- Does the unit pre-empt at this point (R382)? -/
def Cluster.preempts (c : Cluster) (r : Run) : Bool :=
  !r.rerun && decide (c.susp.length < 4) &&
    (r.stop || c.reqs.any (fun q => decide (r.prio < q.prio) && c.reqEligible q)
      || c.susp.any (fun p => decide (r.prio < p.prio) && c.suspEligible p))

/-- Is a posted result the choice of a SEGBR? -/
def Post.isChoice : Post → Bool
  | .choice _ _ _ => true
  | _ => false

/-- The pre-emption begins (R276, R382): what has not started is discarded and the control cores stop; waits and
fences write no register. -/
def Cluster.preempt (c : Cluster) (o : MacroOp) : Cluster :=
  match c.run with
  | none => c
  | some r =>
    let started := c.queues.toList.map (fun q => q.started)
    let choices := c.posts.filter (fun p => p.what.isChoice)
    let c := c.dropOps.stopCores
    { c with run := some { r with saving := some (opStamp o, fld o 191 182), started := started, saveRan := 0, choices := choices },
             tim := { c.tim with running := false, hold := none, next := none } }

/-- PPMARK (R250, R382, R389). -/
def ppmarkC (c : Cluster) : Cluster :=
  match c.ctlHead 0x52 with
  | none => c
  | some (r, o) =>
    let c := c.popCtl.each r.ctxs (fun c k => c.predictCtx (opStamp o) k)
    if c.preempts r then c.preempt o else c
def execPpmark (s : State) : Host.Outcome State Fault Refusal := done s (ppmarkC s.cl)

end Sys2Proof.Machine
end

