-- ==== Sys2Proof/Machine/Images.lean ====
section
/-! DEFINITION. An image as it lies in the scratchpad, read by the intake unit: its header, sections and tables (R399,
R400), and what loading it writes (R406). The layouts of the sections are the model's own (log entry 20). Log entries
of its readings and choices: 20 DESIGN CHOICE, 24 DEDUCED, 27 DEDUCED. -/

namespace Sys2Proof.Machine

/-- A little-endian field of the image that starts at a line. -/
def Cluster.im (c : Cluster) (b off len : Nat) : Nat := leNat (c.spdBytes (b * 64 + off) len)

/-- Header fields (R399): FLAGS, IMGLEN, NSECT, the mode of core n, manifest entry i, the width code and witness bit
of array a, the hole mask, and the witness tolerance of array a. -/
def Cluster.hFlags (c : Cluster) (b : Nat) : Nat := c.im b 6 2
def Cluster.hLen (c : Cluster) (b : Nat) : Nat := c.im b 8 4
def Cluster.hSect (c : Cluster) (b : Nat) : Nat := c.im b 0xC 2
def Cluster.hMode (c : Cluster) (b n : Nat) : Nat := c.im b 0x1C 2 / 4 ^ n % 4
def Cluster.hLat (c : Cluster) (b i : Nat) : Nat := c.im b (0x20 + 2 * i) 2
def Cluster.hWidth (c : Cluster) (b a : Nat) : Nat := c.im b 0x40 8 / 4 ^ a % 4
def Cluster.hWit (c : Cluster) (b a : Nat) : Bool := (c.im b 0x48 4).testBit a
def Cluster.hHoles (c : Cluster) (b : Nat) : Nat := c.im b 0x50 32
def Cluster.hTol (c : Cluster) (b a : Nat) : Nat := c.im b (0x70 + 2 * a) 2

/-- Entries of a section of a cluster-wide type, with their numbers (R399, R400). -/
def Cluster.entries (c : Cluster) (b ty size : Nat) : List (Nat × List Byte) :=
  match c.sectionOf b ty with
  | none => []
  | some d => (List.range (min d.count (d.len / size))).map (fun i =>
      (d.first + i, c.spdBytes (b * 64 + d.off + size * i) size))

/-- Valid one-word entries of a section: handles, rings, baselines. -/
def Cluster.words (c : Cluster) (b ty : Nat) : List (Nat × W64) :=
  ((c.entries b ty 8).map (fun e => (e.1, BitVec.ofNat 64 (leNat e.2)))).filter (fun e => bitAt e.2 63)

/-- Contexts that the image owns (R370). -/
def Cluster.iCtxs (c : Cluster) (b : Nat) : List Nat := (c.entries b 0x01 1).map (fun e => leNat e.2)
/-- Handles, rings, sorus entries and baselines of the image (R286, R338, R344, R366). -/
def Cluster.iHnds (c : Cluster) (b : Nat) : List (Nat × W64) := c.words b 0x02
def Cluster.iRings (c : Cluster) (b : Nat) : List (Nat × W64) := c.words b 0x03
def Cluster.iSorus (c : Cluster) (b : Nat) : List (Nat × W64 × W64) :=
  ((c.entries b 0x04 16).map (fun e => (e.1, BitVec.ofNat 64 (leAt e.2 0 8), BitVec.ofNat 64 (leAt e.2 8 8)))).filter
    (fun e => bitAt e.2.1 63)
def Cluster.iBases (c : Cluster) (b : Nat) : List (Nat × W64) := c.words b 0x06
/-- Lining descriptors (R373). -/
def Cluster.iLins (c : Cluster) (b : Nat) : List (List Byte) := (c.entries b 0x07 576).map (fun e => e.2)

/-- A sync map: context, SYN_CTXMAP word, translation entries (R353). -/
structure SynMap where
  ctx  : Nat
  word : W64
  ents : List W32
  deriving DecidableEq, Repr

/-- Fields of a SYN_CTXMAP word. -/
def mapVlo (w : W64) : Nat := fld w 62 47
def mapVcnt (w : W64) : Nat := fld w 46 35 + 1
def mapTbase (w : W64) : Nat := fld w 33 17

/-- The sync maps of the image: the records, then the translation entries of each map in order (R353). -/
def Cluster.iMaps (c : Cluster) (b : Nat) : List SynMap :=
  match c.sectionOf b 0x05 with
  | none => []
  | some d =>
    let n := min d.count (d.len / 16)
    let at_ := b * 64 + d.off
    let step := fun (p : List SynMap × Nat) (i : Nat) =>
      let w : W64 := BitVec.ofNat 64 (leNat (c.spdBytes (at_ + 16 * i) 8))
      let k := leNat (c.spdBytes (at_ + 16 * i + 8) 1)
      let es := (List.range (mapVcnt w)).map (fun j => (BitVec.ofNat 32 (leNat (c.spdBytes (p.2 + 4 * j) 4)) : W32))
      (p.1 ++ [⟨k, w, es⟩], p.2 + 4 * mapVcnt w)
    ((List.range n).foldl step ([], at_ + 16 * n)).1

/-- Entry size of a per-core table section, its number of entries, and its register base (R152, R173, R177, R264). -/
def tabSize (ty : Nat) : Nat := if ty = 0x12 then 128 else if ty = 0x13 then 256 else if ty = 0x14 then 32 else 8
def tabCount (ty : Nat) : Nat := if ty = 0x12 then 64 else if ty = 0x13 then 32 else if ty = 0x14 then 128 else 8
def tabBase (ty n : Nat) : Nat :=
  if ty = 0x12 then rMxe n + 0x1000 else if ty = 0x13 then rVxe n + 0x2000 else if ty = 0x14 then rVxe n + 0x1000 else rCore n + 0x100

/-- Is a section a per-core table; a per-core memory? -/
def isTab (ty : Nat) : Bool := 0x12 ≤ ty && ty ≤ 0x15
def isMem (ty : Nat) : Bool := ty == 0x10 || ty == 0x11

/-- Entries that a table section holds. -/
def secCount (d : DirEnt) : Nat := min d.count (d.len / tabSize d.ty)

/-- Does a section name entry 0 of a chain, frond or descriptor table, which is empty and belongs to no image (R400)? -/
def holdsZero (d : DirEnt) : Bool := 0x12 ≤ d.ty && d.ty ≤ 0x14 && d.first == 0 && decide (0 < secCount d)

/-- The first entry of a table section that belongs to the image (R400). -/
def secFirst (d : DirEnt) : Nat := if holdsZero d then 1 else d.first

/-- Register words of a table section's own entries: address and value (R406). -/
def Cluster.secWords (c : Cluster) (b : Nat) (d : DirEnt) : List (Nat × W64) :=
  let skip := (secFirst d - d.first) * tabSize d.ty / 8
  ((List.range (secCount d * tabSize d.ty / 8)).drop skip).map (fun i =>
    (tabBase d.ty d.core + tabSize d.ty * d.first + 8 * i, BitVec.ofNat 64 (leNat (c.spdBytes (b * 64 + d.off + 8 * i) 8))))

/-- Register words of all table sections of the image. -/
def Cluster.iTabs (c : Cluster) (b : Nat) : List (Nat × W64) := ((c.dir b).filter (fun d => isTab d.ty)).flatMap (c.secWords b)

/-- Head of an instruction-memory section: bases and entry counts of its walk structures, and the code region. -/
structure WalkHead where
  tmpl   : Nat
  ntmpl  : Nat
  delta  : Nat
  ndelta : Nat
  walk   : Nat
  nwalk  : Nat
  codeLo : Nat
  codeN  : Nat
  deriving DecidableEq, Repr

/-- Walk structures and code region of core n, from the head of its first instruction section (R260, R268). -/
def Cluster.iHead (c : Cluster) (b n : Nat) : Option WalkHead :=
  ((c.dir b).find? (fun d => d.ty == 0x10 && d.core == n)).map (fun d =>
    let f := fun (i : Nat) => c.im b (d.off + 4 * i) 4
    ⟨f 0, f 1, f 2, f 3, f 4, f 5, f 6, f 7⟩)

/-- Where the walk structures and code of the image's cores lie. -/
def Cluster.iSecs (c : Cluster) (b : Nat) : List CoreSec :=
  (List.range 8).filterMap (fun n => (c.iHead b n).map (fun h => ⟨n, h.tmpl, h.delta, h.walk, h.codeLo, h.codeLo + h.codeN⟩))

/-- Entry of the image's segment table, and of its live-mask table. -/
def Cluster.iTable (c : Cluster) (b ty size i : Nat) : Option (List Byte) :=
  match c.sectionOf b ty with
  | none => none
  | some d => if (i + 1) * size ≤ d.len then some (c.spdBytes (b * 64 + d.off + i * size) size) else none
def Cluster.iSeg (c : Cluster) (b i : Nat) : Option (List Byte) := c.iTable b 0x09 segSize i
def Cluster.iLive (c : Cluster) (b i : Nat) : Option (List Byte) := c.iTable b 0x0A liveSize i

/-- Keys of the table words that loading the image writes, in order (R416, R432). -/
def Cluster.iKeys (c : Cluster) (b : Nat) : List Nat :=
  (c.iHnds b).map (fun e => rHnd e.1) ++ (c.iRings b).map (fun e => kRing e.1)
    ++ (c.iSorus b).flatMap (fun e => [kSorus e.1, kSorus e.1 + 1])
    ++ (c.iMaps b).flatMap (fun m => (rSyn + 8 * m.ctx) :: (List.range m.ents.length).map (fun j => kXlat (mapTbase m.word + j)))
    ++ (c.iBases b).map (fun e => rSyn + 0x8000 + 8 * e.1)
    ++ (c.iLins b).flatMap (fun d => (List.range 72).map (fun j => kLining (leAt d 0 2) + j))
    ++ (c.iTabs b).map (fun e => e.1)

/-- An armed TAB_CE or TAB_UE strikes the next table word written (R432). -/
def Cluster.injectTab (c : Cluster) (src bits : Nat) (keys : List Nat) : Cluster :=
  match keys with
  | k :: _ => if c.flt.armed.any (fun p => p.1 == src) then ({ c with tabErr := Sparse.set c.tabErr k (BitVec.ofNat 64 bits) }).disarm src else c
  | [] => c

/-- Fields of word k of an MXE_CHAIN entry (R152): a skim's header has no SRCFMT and RND, and words 9 to 15 are reserved. -/
def chainFields (k : Nat) (w : W64) : W64 :=
  if k = 0 then (if fld w 63 62 = 1 then 0xFC00000000000000 else 0xFFF0000000000000)
  else if k < 9 then 0xFFFFFFFFFFFFFFFF else 0

/-- Fields of word k of a VXE_FROND entry (R177): the header, the constants and the micro-ops. -/
def frondFields (k : Nat) : W64 :=
  if k = 0 then 0xFFFFC00000000000 else if k < 5 || (8 ≤ k && k < 24) then 0xFFFFFFFFFFFFFFFF else 0

/-- Fields of word k of a VXE_DESC entry (R173). -/
def descFields (k : Nat) : W64 :=
  if k = 0 then 0xFFFFFFFE0000FFFF else if k = 1 then 0x00000000FFFFFFFF else 0xFFFFFFFFFFFFFFFF

/-- The bits of a verifier-written table word that are fields; what an image holds in the reserved ones is ignored (R13):
SPD_HND, SYN_CTXMAP, SYN_BASE, and the chain, descriptor and frond tables of the cores. -/
def tabFields (a : Nat) (w : W64) : W64 :=
  let o := a % 0x10000
  if rHnd 0 ≤ a && decide (a < rHnd 4096) then 0xFBF00FFFFFFFFFFF
  else if rSyn ≤ a && decide (a < rSyn + 0x200) then 0xFFFFFFFBFFFE0000
  else if rSyn + 0x8000 ≤ a && decide (a < rSyn + 0x10000) then 0xFFFFFF00FFFFFFFF
  else if a < 0x20100000 then 0xFFFFFFFFFFFFFFFF
  else if 0x5000 ≤ o && o < 0x7000 then chainFields (a % 0x80 / 8) w
  else if 0x9000 ≤ o && o < 0xA000 then descFields (a % 0x20 / 8)
  else if 0xA000 ≤ o && o < 0xC000 then frondFields (a % 0x100 / 8)
  else 0xFFFFFFFFFFFFFFFF

/-- Register words that loading writes beside the tables: handles, context maps, baselines, per-core tables. -/
def Cluster.iRegs (c : Cluster) (b : Nat) : List (Nat × W64) :=
  let hs : List (Nat × W64) := (c.iHnds b).map (fun e => (rHnd e.1, e.2))
  let ms : List (Nat × W64) := (c.iMaps b).map (fun m => (rSyn + 8 * m.ctx, m.word))
  let bs : List (Nat × W64) := (c.iBases b).map (fun e => (rSyn + 0x8000 + 8 * e.1, e.2))
  (hs ++ ms ++ bs ++ c.iTabs b).map (fun e => (e.1, e.2 &&& tabFields e.1 e.2))

/-- Translation entries of the image. -/
def Cluster.iXlat (c : Cluster) (b : Nat) : List (Nat × W32) :=
  (c.iMaps b).flatMap (fun m => m.ents.zipIdx.map (fun e => (mapTbase m.word + e.2, e.1 &&& 0xC001FFFF)))

/-- Rings start with both counters 0, sorus entries with an empty round 0 (R338, R344). -/
def Cluster.loadRings (c : Cluster) (b : Nat) : Cluster :=
  let rings := (c.iRings b).map (fun e => (e.1, e.2 &&& 0xFFFFFFFFFFFF8000))
  let z : List (Nat × W32) := rings.map (fun e => (e.1, 0))
  { c with rdesc := Sparse.setAll c.rdesc rings, prod := Sparse.setAll c.prod z, cons := Sparse.setAll c.cons z }

def Cluster.loadSorus (c : Cluster) (b : Nat) : Cluster :=
  let sorus := c.iSorus b
  let d0 : List (Nat × W64) := sorus.map (fun e => (e.1, e.2.1 &&& 0xFFFFFFFFFFFC0000))
  let d1 : List (Nat × W64) := sorus.map (fun e => (e.1, e.2.2 &&& 0xFFFFFFFFC000FFFF))
  let z : List (Nat × BitVec 16) := sorus.map (fun e => (e.1, 0))
  let es := sorus.map (fun e => e.1)
  let acc := c.sacc.filter (fun p => !es.contains (p.1 / 512))
  { c with sdesc0 := Sparse.setAll c.sdesc0 d0, sdesc1 := Sparse.setAll c.sdesc1 d1,
           scount := Sparse.setAll c.scount z, sround := Sparse.setAll c.sround z, sacc := acc }

/-- Write the image's cluster-wide tables (R406): handles, rings, sorus entries, maps, translations, baselines, linings. -/
def Cluster.loadTables (c : Cluster) (b slot : Nat) : Cluster :=
  let keys := c.iKeys b
  let lins : List LinEnt := (c.iLins b).map (fun d => ⟨leAt d 0 2, slot, d⟩)
  let errs := c.tabErr.filter (fun kv => !keys.contains kv.1)
  let xl := Sparse.setAll c.xlat (c.iXlat b)
  let rg := Sparse.setAll c.reg (c.iRegs b)
  let c := { c with tabErr := errs, xlat := xl, linings := c.linings ++ lins, reg := rg }
  let c := (c.loadRings b).loadSorus b
  (c.injectTab 0x2B 1 keys).injectTab 0x2C 3 keys

/-- Load the image's instruction sections, and its data memory regions of the cores it uses (R406). -/
def Cluster.loadMems (c : Cluster) (b : Nat) : Cluster :=
  c.each ((c.dir b).filter (fun d => d.ty == 0x10 || (d.ty == 0x11 && c.hMode b d.core != 0))) (fun c d =>
    c.loadCore d.core (d.ty == 0x10) d.first (c.spdBytes (b * 64 + d.off + d.skip) d.loads))

/-- Latency that an image declares for a manifest entry: the hardware minimum for an entry not in use (R51). -/
def floorOf (stepping : Byte) (man i : Nat) : Nat := if man = 0 then hwMin stepping i else man

/-- The floor registers take the manifest of an image (R51). -/
def Cluster.loadFloors (c : Cluster) (lat : List Nat) : Cluster :=
  c.each (List.range 12) (fun c i => c.setReg (rClu + 0x1400 + 4 * i)
    (place (hwMin c.stepping i) 16 ||| place (floorOf c.stepping (lat.getD i 0) i) 0))

/-- The admitted images. -/
def Cluster.images (c : Cluster) : List Img := c.imgs.toList.filterMap id

/-- Union of the admitted images' width and witness manifests (R406). -/
def Cluster.unionWidth (c : Cluster) : Nat := (c.images.map (fun i => i.widthm)).foldl (· ||| ·) 0
def Cluster.unionWit (c : Cluster) : Nat := (c.images.map (fun i => i.witm)).foldl (· ||| ·) 0

/-- Physical column of the witness: the good column above the last of w presented ones (R111). -/
def witCol (map w : Nat) : Nat := ((List.range 34).filter (fun p => !map.testBit p)).getD w 0
/-- Presented width of a width code (R53). -/
def widthOf (code : Nat) : Nat := if code = 0 then 0 else 8 + 8 * code

/-- Presented width and witness column of array a in MXE_PATCH (R120). -/
def Cluster.present (c : Cluster) (a : Nat) : Cluster :=
  let w := c.regAt (rPatch a)
  let code := c.unionWidth / 4 ^ a % 4
  let col := if code != 0 && c.unionWit.testBit a then witCol (fld w 33 0) (widthOf code) else 0
  c.setReg (rPatch a) (setFld (setFld w 41 40 code) 47 42 col)

/-- The manifests in force, and the presented widths and tolerances they give (R56, R119, R406). -/
def Cluster.loadManifests (c : Cluster) (im : Img) : Cluster :=
  let c := (c.setReg (rClu + 0x1500) (BitVec.ofNat 64 c.unionWidth)).setReg (rClu + 0x1508) (BitVec.ofNat 64 c.unionWit)
  c.each (List.range 32) (fun c a =>
    let c := c.present a
    if im.witm.testBit a then c.setReg (rPatch a + 8) (BitVec.ofNat 64 (im.wittol.getD a 0)) else c)

/-- The mode of a core that the admitted images use (R254): 0 when none does. -/
def Cluster.modeOf (c : Cluster) (n : Nat) : Nat := ((c.images.map (fun i => i.modes / 4 ^ n % 4)).find? (· != 0)).getD 0

/-- The modes of the cores from an admission on (R254). -/
def Cluster.loadModes (c : Cluster) : Cluster :=
  c.each (List.range 8) (fun c n => c.setCore n { c.core n with mode := c.modeOf n, present := !c.flt.fenC.getLsbD n })

/-- Put fences, patch maps and ROT in force (R110, R301, R302, R427). -/
def Cluster.loadShape (c : Cluster) (p : Plan) : Cluster :=
  let f := c.flt
  let c := { c with flt := { f with
    fenA := f.fenA ||| p.fenA, fenC := f.fenC ||| p.fenC, fenB := f.fenB ||| p.fenB,
    pendA := f.pendA &&& ~~~p.fenA, pendC := f.pendC &&& ~~~p.fenC, pendB := f.pendB &&& ~~~p.fenB } }
  let c := c.each (List.range 32) (fun c a => c.setPatch a (p.maps.getD a 0))
  c.setReg rSpd (setFld (c.regAt rSpd) 15 8 p.rot)

/-- SPD_MODE.DETONLY follows the admitted images (R298). -/
def Cluster.loadC1 (c : Cluster) : Cluster :=
  c.setReg rSpd (setFld (c.regAt rSpd) 0 0 (if c.images.any (fun i => i.c1) then 1 else 0))

/-- What of an image comes into force with its admission, apart from its contexts and the other images' (R406); the
areas of its sorus entries are cleared (R344). -/
def Cluster.putImage (c : Cluster) (slot : Nat) (p : Plan) : Cluster :=
  let b := p.img.base
  let c := (c.loadTables b slot).loadMems b
  let c := { c with imgs := vset c.imgs slot (some p.img) }
  let c := c.each p.img.sorus Cluster.clearArea
  ((((c.loadShape p).loadFloors p.img.latman).loadManifests p.img).loadModes).loadC1

/-- What an admission reads of an image's header and directory; peaks, padding ops and queues in use come from the checks. -/
def Cluster.readImg (c : Cluster) (b lines : Nat) : Img where
  imgid := c.im b 0x18 4
  c1 := c.hFlags b % 2 == 1
  modes := c.im b 0x1C 2
  latman := (List.range 16).map (c.hLat b)
  widthm := c.im b 0x40 8
  witm := c.im b 0x48 4
  wittol := (List.range 32).map (c.hTol b)
  holes := c.hHoles b
  ctxs := c.iCtxs b
  handles := (c.iHnds b).map (fun e => e.1)
  rings := (c.iRings b).map (fun e => e.1)
  sorus := (c.iSorus b).map (fun e => e.1)
  xlat := (c.iMaps b).flatMap (fun m => (List.range m.ents.length).map (fun j => mapTbase m.word + j))
  bases := (c.iBases b).map (fun e => e.1)
  base := b
  lines := lines
  peak := 0
  peakWin := 0
  retire := false
  pads := []
  named := []
  secs := c.iSecs b
  regs := (c.iTabs b).map (fun e => e.1)
  uses := []

end Sys2Proof.Machine
end

