-- ==== Sys2Proof/Machine/VerTab.lean ====
section
/-! DEFINITION. The verifier's checks of an image's header, shape, manifests, cluster-wide tables and per-core
sections: steps 1 and 3 to 9 of R402, with the codes of R404. Log entries of its readings and choices: 23 DEDUCED, 27
DEDUCED, 92 DEDUCED. -/

namespace Sys2Proof.Machine

/-- Reject codes (R404). -/
def rcLayout : Nat := 0x01
def rcStaging : Nat := 0x02
def rcNoSlot : Nat := 0x03
def rcAccept : Nat := 0x04
def rcAccTo : Nat := 0x05
def rcC1Mix : Nat := 0x06
def rcCtlMode : Nat := 0x08
def rcShape : Nat := 0x0A
def rcWidth : Nat := 0x0B
def rcLatency : Nat := 0x0C
def rcHandle : Nat := 0x10
def rcResource : Nat := 0x11
def rcEncoding : Nat := 0x18
def rcVariant : Nat := 0x19
def rcPreempt : Nat := 0x1A
def rcSlots : Nat := 0x1C
def rcToken : Nat := 0x1D
def rcLimit : Nat := 0x3E
def rcAbandoned : Nat := 0x3F

/-- A rejection that names no lining. -/
def rej (code step index : Nat) : Rej := ⟨code, step, 0, 0, index⟩
/-- Reject unless a check holds. -/
def must (ok : Bool) (r : Rej) : Option Rej := if ok then none else some r
/-- The first item of a list that fails a check is the index at fault. -/
def mustAll {α : Type} (l : List α) (ok : α → Bool) (code step : Nat) : Option Rej :=
  (findIdxN (fun x => !ok x) l).map (rej code step)
/-- The first of two findings. -/
def orElse (a : Option Rej) (b : Unit → Option Rej) : Option Rej :=
  match a with
  | some r => some r
  | none => b ()
/-- The first finding of a list of checks. -/
def firstRej : List (Unit → Option Rej) → Option Rej
  | [] => none
  | f :: fs => orElse (f ()) (fun _ => firstRej fs)

/-- Is a section type cluster-wide; is it defined (R400)? -/
def secWide (ty : Nat) : Bool := 1 ≤ ty && ty ≤ 0x0A
def secDefined (ty : Nat) : Bool := secWide ty || (0x10 ≤ ty && ty ≤ 0x15)

/-- Do two byte or entry ranges meet? -/
def meets (a n b m : Nat) : Bool := decide (a < b + m) && decide (b < a + n) && decide (0 < n) && decide (0 < m)

/-- Is a section whole, aligned, and of a defined type with its CORE field (R399, R402)? -/
def secOk (len : Nat) (d : DirEnt) : Bool :=
  secDefined d.ty && d.off % 64 == 0 && decide (d.off + d.len ≤ len) && (if secWide d.ty then d.core == 0xFF else decide (d.core < 8))

/-- Does section i meet no earlier section, and repeat no cluster-wide type? -/
def secApart (ds : List DirEnt) (i : Nat) : Bool :=
  match ds[i]? with
  | none => true
  | some d => (ds.take i).all (fun e => !meets d.off d.len e.off e.len && !(secWide d.ty && e.ty == d.ty))

/-- Reserved header fields are 0 (R399). -/
def Cluster.headZero (c : Cluster) (b : Nat) : Bool :=
  c.hFlags b / 2 == 0 && c.im b 0xE 2 == 0 && c.im b 0x1E 2 == 0 && c.im b 0x4C 4 == 0 && c.im b 0xB0 80 == 0
    && (List.range 32).all (fun a => c.hTol b a / 2 ^ 13 == 0)

/-- The header is that of an image which fits the staging region, with its directory (R399). -/
def Cluster.headOk (c : Cluster) (b lines : Nat) : Bool :=
  c.im b 0 4 == 0x3249464B && c.im b 4 2 == 2 && c.hLen b % 64 == 0 && decide (c.hLen b ≤ 64 * lines)
    && decide (1 ≤ c.hSect b) && decide (c.hSect b ≤ 512) && decide (0x100 + 16 * c.hSect b ≤ c.hLen b) && c.headZero b

/-- Step 1 (R402). -/
def Cluster.step1 (c : Cluster) (b lines : Nat) : Option Rej :=
  firstRej [fun _ => must (c.headOk b lines) (rej rcLayout 1 0), fun _ => mustAll (c.dir b) (secOk (c.hLen b)) rcLayout 1,
    fun _ => mustAll (List.range (c.hSect b)) (secApart (c.dir b)) rcLayout 1]

/-- Step 3: C1MODE equals that of every admitted image (R298, R402). -/
def Cluster.step3 (c : Cluster) (b : Nat) : Option Rej :=
  must (c.images.all (fun i => i.c1 == (c.hFlags b % 2 == 1))) (rej rcC1Mix 3 0)

/-- Is a mode permitted for a core (R254)? -/
def Cluster.modeOk (c : Cluster) (b n : Nat) : Bool :=
  let m := c.hMode b n
  let p := c.dictAt 0x2300 (n + 1)
  m != 3 && (m == 0 || p == 0 || m == p) && c.images.all (fun i => m == 0 || i.modes / 4 ^ n % 4 == 0 || i.modes / 4 ^ n % 4 == m)

/-- Step 4 (R402). -/
def Cluster.step4 (c : Cluster) (b : Nat) : Option Rej := mustAll (List.range 8) (c.modeOk b) rcCtlMode 4

/-- The fences that an admission puts in force: those in force and those pending (R403, R428). -/
def Cluster.nextFenA (c : Cluster) : BitVec 32 := c.flt.fenA ||| c.flt.pendA
def Cluster.nextFenC (c : Cluster) : BitVec 8 := c.flt.fenC ||| c.flt.pendC
def Cluster.nextFenB (c : Cluster) : BitVec 256 := c.flt.fenB ||| c.flt.pendB

/-- Is every fenced bank under a hole for a rotation (R301)? -/
def rotFits (fen : BitVec 256) (holes rot : Nat) : Bool :=
  (List.range 256).all (fun p => !fen.getLsbD p || holes.testBit ((p + 256 - rot) % 256))

/-- ROT at the admission: the lowest that fits into an empty cluster, else the one in force (R301). -/
def Cluster.planRot (c : Cluster) (b : Nat) : Option Nat :=
  if c.images.isEmpty then (List.range 256).find? (rotFits c.nextFenB (c.hHoles b))
  else if rotFits c.nextFenB (c.hHoles b) c.rot then some c.rot
  else none

/-- Step 5 (R402). -/
def Cluster.step5 (c : Cluster) (b : Nat) : Option Rej := must (c.planRot b).isSome (rej rcShape 5 0)

/-- Does the shape carry the width and witness of array a (R55)? -/
def Cluster.arrFits (c : Cluster) (b a : Nat) : Bool :=
  c.hWidth b a == 0 ||
    (!c.nextFenA.getLsbD a &&
      decide (badCount (c.nextMap a) + widthOf (c.hWidth b a) + (if c.hWit b a then 1 else 0) ≤ 34))

/-- Do the width code, witness bit and tolerance of array a equal those of every admitted image that uses the array
(step 6 of R402, log entry 92)? -/
def Cluster.arrSame (c : Cluster) (b a : Nat) : Bool :=
  c.images.all (fun i =>
    i.widthm / 4 ^ a % 4 == 0 || (i.widthm / 4 ^ a % 4 == c.hWidth b a && i.witm.testBit a == c.hWit b a &&
      i.wittol.getD a 0 == c.hTol b a))

/-- Step 6 (R54, R402). -/
def Cluster.step6 (c : Cluster) (b : Nat) : Option Rej :=
  (List.range 32).findSome? (fun a =>
    if !(c.hWit b a && c.hWidth b a == 0) && c.arrFits b a && c.arrSame b a then none
    else some (rej rcWidth 6 a))

/-- Is manifest entry i within its bounds, and equal to every admitted image's (R51, R402)? -/
def Cluster.latOk (c : Cluster) (b i : Nat) : Bool :=
  let m := c.hLat b i
  let w := hwMin c.stepping i
  (if 12 ≤ i then m == 0 else m == 0 || (decide (w ≤ m) && decide (m ≤ w + 63))) && c.images.all (fun g => g.latman.getD i 0 == m)

/-- Step 7 (R402). -/
def Cluster.step7 (c : Cluster) (b : Nat) : Option Rej := mustAll (List.range 16) (c.latOk b) rcLatency 7

/-- Is a context free for the image to own (R370)? -/
def Cluster.ctxOk (c : Cluster) (k : Nat) : Bool := decide (k < 64) && c.images.all (fun i => !i.ctxs.contains k)

/-- Is a handle of the image in order (R287)? -/
def Cluster.hndOk (c : Cluster) (b lines : Nat) (e : Nat × W64) : Bool :=
  decide (e.1 < 4096) && !hndValid (c.regAt (rHnd e.1)) && (c.iCtxs b).contains (hndOwner e.2)
    && decide (1 ≤ hndSize e.2) && decide (hndBase e.2 + hndSize e.2 ≤ 3129344)
    && !meets (hndBase e.2) (hndSize e.2) b lines
    && c.images.all (fun i => !meets (hndBase e.2) (hndSize e.2) i.base i.lines)

/-- No context owns more than 256 handles (R287). -/
def Cluster.hndCount (c : Cluster) (b : Nat) : Bool :=
  (c.iCtxs b).all (fun k => decide (((c.iHnds b).filter (fun e => hndOwner e.2 == k)).length ≤ 256))

/-- A handle of the image, if a context owns it (R338). -/
def Cluster.ownHnd (c : Cluster) (b h k : Nat) : Option W64 :=
  ((c.iHnds b).find? (fun e => e.1 == h && hndOwner e.2 == k)).map (fun e => e.2)

/-- Do n unmasked lines at and beyond an offset lie in a handle (R338, R339, R344)? -/
def linesFit (holes : Nat) (w : W64) (off n : Nat) : Bool :=
  decide (popcount 256 holes < 256) && decide (slotLine holes (hndBase w + off) (n - 1) < hndBase w + hndSize w)

/-- Does a handle of an image's context hold n unmasked lines (R338, R344)? -/
def Cluster.areaOk (c : Cluster) (b h k off n : Nat) : Bool :=
  match c.ownHnd b h k with
  | some w => linesFit (c.hHoles b) w off n
  | none => false

/-- Is a ring of the image in order (R338)? -/
def Cluster.ringOk (c : Cluster) (b : Nat) (e : Nat × W64) : Bool :=
  let z := fld e.2 53 49
  decide (e.1 < 8192) && !ringValid (c.ringD e.1) && (c.iCtxs b).contains (ringCtx e.2) && decide (6 ≤ z) && decide (z ≤ 16)
    && c.areaOk b (fld e.2 48 37) (ringCtx e.2) (fld e.2 36 15) (ringSize e.2)
    && c.hMode b (ringCore e.2) == 2 && !c.nextFenC.getLsbD (ringCore e.2)

/-- Does a sorus entry name a ring of its owner that is large enough for its result (R342, R344)? -/
def Cluster.resultRingOk (c : Cluster) (b k r nel : Nat) : Bool :=
  (c.iRings b).any (fun e => e.1 == r && ringCtx e.2 == k && decide (2 * cdiv (16 + 4 * nel) 64 ≤ ringSize e.2 + 1))

/-- Is a sorus entry of the image in order (R342, R344)? -/
def Cluster.sorusOk (c : Cluster) (b : Nat) (e : Nat × W64 × W64) : Bool :=
  let k := fld e.2.1 62 57
  let nel := fld e.2.1 55 47 + 1
  decide (e.1 < 512) && !bitAt (Sparse.get c.sdesc0 e.1) 63 && (c.iCtxs b).contains k
    && decide (1 ≤ fld e.2.2 15 0) && c.resultRingOk b k (fld e.2.1 46 34) nel
    && c.areaOk b (fld e.2.2 63 52) k (fld e.2.2 51 30) (cdiv ((if bitAt e.2.1 56 then 4 else 40) * nel) 64)

/-- Words that the translation entries of an admitted image name (R353). -/
def Cluster.imgWords (c : Cluster) (i : Img) : List Nat :=
  (i.xlat.filterMap (fun x => let e := Sparse.get c.xlat x; if bitAt e 31 then some (xWord e) else none))

/-- Is sync map j of the image in order (R353)? -/
def Cluster.mapOk (c : Cluster) (b : Nat) (ms : List SynMap) (j : Nat) : Bool :=
  match ms[j]? with
  | none => true
  | some m =>
    (c.iCtxs b).contains m.ctx && decide (mapVlo m.word + mapVcnt m.word ≤ 65536) && decide (mapTbase m.word + mapVcnt m.word ≤ 131072)
      && !bitAt (c.regAt (rSyn + 8 * m.ctx)) 63
      && (ms.take j).all (fun x => x.ctx == m.ctx || !meets (mapTbase m.word) (mapVcnt m.word) (mapTbase x.word) (mapVcnt x.word))
      && c.images.all (fun i => i.xlat.all (fun x => decide (x < mapTbase m.word) || decide (mapTbase m.word + mapVcnt m.word ≤ x)))
      && c.images.all (fun i => let ws := c.imgWords i; m.ents.all (fun e => !bitAt e 31 || !ws.contains (xWord e)))

/-- Logical bank of a sync word (R289). -/
def syncBank (w : Nat) : Nat := (syncAddr w / 64) % 256

/-- Does a sync map name no word in a hole bank (R300)? -/
def Cluster.mapHoles (c : Cluster) (b : Nat) (m : SynMap) : Bool :=
  m.ents.all (fun e => !bitAt e 31 || !(c.hHoles b).testBit (syncBank (xWord e)))

/-- Is a baseline entry of the image in order (R366)? -/
def Cluster.baseOk (c : Cluster) (e : Nat × W64) : Bool := decide (e.1 < 4096) && !bitAt (c.regAt (rSyn + 0x8000 + 8 * e.1)) 63

/-- The first entry of a section that fails a check; INDEX is its place in the section, entries that are not valid
counted (R404). -/
def Cluster.mustEnts {α : Type} (c : Cluster) (b ty : Nat) (l : List (Nat × α)) (ok : Nat × α → Bool) : Option Rej :=
  let first := ((c.sectionOf b ty).map (fun d => d.first)).getD 0
  (l.find? (fun e => !ok e)).map (fun e => rej rcHandle 8 (e.1 - first))

/-- Step 8 (R402). -/
def Cluster.step8 (c : Cluster) (b lines : Nat) : Option Rej :=
  firstRej [fun _ => mustAll (c.iCtxs b) c.ctxOk rcHandle 8, fun _ => c.mustEnts b 0x02 (c.iHnds b) (c.hndOk b lines),
    fun _ => must (c.hndCount b) (rej rcHandle 8 0), fun _ => c.mustEnts b 0x03 (c.iRings b) (c.ringOk b),
    fun _ => c.mustEnts b 0x04 (c.iSorus b) (c.sorusOk b),
    fun _ => mustAll (List.range (c.iMaps b).length) (c.mapOk b (c.iMaps b)) rcHandle 8,
    fun _ => mustAll (c.iMaps b) (c.mapHoles b) rcShape 8, fun _ => c.mustEnts b 0x06 (c.iBases b) c.baseOk]

/-- What a per-core section occupies: entries of its table, or bytes of its memory; entry 0 of the chain, frond and
descriptor tables belongs to no image (R399, R400). -/
def secSpan (d : DirEnt) : Nat × Nat :=
  if isMem d.ty then (64 * d.first, d.loads) else (secFirst d, secCount d - (secFirst d - d.first))

/-- Does a per-core section fit its table or memory? -/
def secFits (d : DirEnt) : Bool :=
  if isMem d.ty then decide (d.skip ≤ d.len) && decide (64 * d.first + d.loads ≤ 65536)
  else decide (d.first + secCount d ≤ tabCount d.ty)

/-- Do two per-core sections share entries or bytes? -/
def secShare (d e : DirEnt) : Bool :=
  d.ty == e.ty && d.core == e.core && meets (secSpan d).1 (secSpan d).2 (secSpan e).1 (secSpan e).2

/-- Is a section of the image free of overlap with every admitted image (R402)? -/
def Cluster.secFree (c : Cluster) (d : DirEnt) : Bool :=
  !(isTab d.ty || isMem d.ty) || (secFits d && c.images.all (fun i => (c.dir i.base).all (fun e => !secShare d e)))

/-- Step 9 (R402). -/
def Cluster.step9 (c : Cluster) (b : Nat) : Option Rej := mustAll (c.dir b) c.secFree rcResource 9

/-- Steps 3 to 9. -/
def Cluster.steps3to9 (c : Cluster) (b lines : Nat) : Option Rej :=
  firstRej [fun _ => c.step3 b, fun _ => c.step4 b, fun _ => c.step5 b, fun _ => c.step6 b, fun _ => c.step7 b,
    fun _ => c.step8 b lines, fun _ => c.step9 b]

end Sys2Proof.Machine
end

