-- ==== Sys2Proof/Machine/VerEnt.lean ====
section
/-! DEFINITION. The verifier's checks of chain, frond, descriptor and comparator entries: step 10 of R402 (R148, R152
to R163, R165, R173, R177 to R183, R264). They read the entries as loading would leave them. Log entries of its
readings and choices: 81 DEDUCED, 96 DEDUCED. -/

namespace Sys2Proof.Machine

/-- Bytes of a stage's element (R155). -/
def stWidth (w : W64) : Nat := if bitAt w 53 then 2 else 4

/-- Footprint of a stage operand in bytes, for a K length (R165). -/
def stFoot (skim : Bool) (k : Nat) (w : W64) : Nat :=
  if stCode w = 9 then 512 * (fld w 21 16 + 1)
  else match stOpk w with
    | 1 => if skim then 128 * stWidth w else k * stWidth w * (if stCode w = 0xA then 2 else 1)
    | 2 => 32 * stWidth w
    | 3 => 4096 * stWidth w
    | _ => 0

/-- A stage without an operand leaves its operand fields clear, but for the scale destination of an MX QUANT; a tile
operand names a tile (R152, R155, R156; DEDUCED, log entry 96). -/
def stLocOk (w : W64) : Bool :=
  if stOpk w = 0 then
    !bitAt w 53 && !bitAt w 52 && (if stCode w = 7 && fmtIsMx (stParam w) then decide (fld w 51 47 < 24) else fld w 51 40 == 0)
  else bitAt w 52 || decide (fld w 51 47 < 24)

/-- Does a stage operand in the buffer that does not depend on K lie within 64 KiB (R154)? -/
def stBufOk (skim : Bool) (k : Nat) (w : W64) : Bool :=
  !bitAt w 52 || decide (16 * fld w 51 40 + stFoot skim k w ≤ 65536)

/-- Are a skim stage's fields allowed (R156)? -/
def skimStOk (w : W64) : Bool :=
  let p0 := stParam w == 0 && stAux w == 0
  let ok := match stCode w with
    | 1 => p0 && stOpk w != 3
    | 2 => p0 && stOpk w != 3
    | 3 => p0 && stOpk w == 3
    | 4 => p0 && stOpk w == 3
    | 5 => decide (stParam w < 8) && stAux w == 0 && stOpk w == 0
    | 6 => stParam w == 0 && decide (stAux w < 32) && stOpk w == 0 && decide (fld w 31 0 < 128)
    | 7 => decide (1 ≤ stParam w) && decide (stParam w ≤ 9) && decide (stAux w < 3) && stOpk w == 0
    | _ => false
  ok && stLocOk w && stBufOk true 0 w

/-- Are a primer stage's fields allowed, for the source format of its entry (R162)? -/
def primStOk (src : Nat) (w : W64) : Bool :=
  let ok := match stCode w with
    | 2 => stParam w == 0 && stAux w == 0 && stOpk w != 3
    | 5 => decide (stParam w < 8) && stAux w == 0 && stOpk w == 0
    | 8 => decide (stParam w < 2) && stAux w == 0 && stOpk w != 3 && !(stParam w == 1 && stOpk w != 0 && !fmtIsInt src)
    | 9 => decide (stParam w < 2) && decide (stAux w < 32) && fld w 31 22 == 0 &&
        (if stOpk w = 0 then decide (stAux w + fld w 21 16 < 32)
         else stOpk w == 2 && !bitAt w 52 && decide (16 ≤ fld w 51 47))
    | 0xA => decide (stParam w < 2) && stAux w == 0 && decide (stOpk w < 2)
    | _ => false
  ok && stLocOk w && (stOpk w == 1 || stBufOk false 0 w)

/-- How many stages of a list have a code. -/
def stCount (code : Nat) (ws : List W64) : Nat := (ws.filter (fun w => stCode w == code)).length

/-- Is the order of a skim's stages allowed: at most one STAT and one QUANT, only STAT after QUANT (R154)? -/
def skimOrder (ws : List W64) : Bool :=
  decide (stCount 6 ws ≤ 1) && decide (stCount 7 ws ≤ 1) && ((ws.dropWhile (fun w => stCode w != 7)).drop 1).all (fun w => stCode w == 6)

/-- Is the order of a primer's stages allowed: at most one of DEQUANT, FIN and NORM, DEQUANT first, NORM after a FIN of its
form (R154, R162)? -/
def primOrder (ws : List W64) : Bool :=
  decide (stCount 8 ws ≤ 1) && decide (stCount 9 ws ≤ 1) && decide (stCount 0xA ws ≤ 1) && stCount 8 (ws.drop 1) == 0
    && (match ws.find? (fun w => stCode w == 0xA) with
        | none => true
        | some m => (ws.takeWhile (fun w => stCode w != 0xA)).any (fun w => stCode w == 9 && stParam w == stParam m))

/-- Extra operand streams of a chain (R165). -/
def streamsOf (skim : Bool) (ws : List W64) : Nat :=
  (ws.filter (fun w => !bitAt w 52 && (if skim then stOpk w != 0 else stOpk w == 1))).length

/-- Is chain entry j of core n in order (R152, R154)? -/
def Cluster.chainOk (v : Cluster) (n j : Nat) : Bool :=
  let h := v.regAt (rChain n j 0)
  let nst := fld h 61 58
  let ws := (List.range nst).map (fun s => v.regAt (rChain n j (s + 1)))
  match fld h 63 62 with
  | 0 => true
  | 1 => j != 0 && decide (1 ≤ nst) && decide (nst ≤ 8) && ws.all skimStOk && skimOrder ws && decide (streamsOf true ws ≤ 2)
  | 2 => j != 0 && decide (nst ≤ 4) && decide (fld h 57 54 ≤ 9) && (fld h 53 52 == 0 || fld h 53 52 == 2) && ws.all (primStOk (fld h 57 54)) && primOrder ws && decide (streamsOf false ws ≤ 1)
  | _ => false

/-- Registers that a micro-op reads: source A; B and C unless constants (R178, R179). -/
def uReads (u : W32) : List Nat :=
  let a := fld u 21 18
  let b := if bitAt u 3 then [] else [fld u 17 14]
  let c := if bitAt u 2 then [] else [fld u 13 10]
  match uOp u with
  | 0x01 => [a] | 0x08 => [a] | 0x09 => [a] | 0x0C => [a] | 0x0D => [a] | 0x0F => [a] | 0x1A => [a] | 0x1B => [a]
  | 0x0E => []
  | 0x05 => a :: (b ++ c)
  | 0x0B => a :: (b ++ c)
  | _ => a :: b

/-- Is a micro-op defined, with its AUX and rounding (R178, R179, R180)? -/
def uopOk (pair : Bool) (u : W32) : Bool :=
  let k := uOp u
  let known := decide (1 ≤ k) && decide (k ≤ 0x1B)
  let aux := match k with
    | 0x0A => decide (uAux u ≤ 4)
    | 0x0C => uAux u != 0 && uAux u != 7
    | 0x0D => decide (1 ≤ uAux u) && decide (uAux u ≤ 4)
    | 0x0E => decide (uAux u ≤ 5)
    | 0x0F => uDst u == 0
    | _ => true
  let inPair := decide (k ≤ 0x0B)
  known && aux && uRnd u != 3 && fld u 1 0 == 0 && (!pair || (inPair && uRnd u != 1))

/-- Is every register that a program reads an input or an earlier result; the set of registers written at its end (R180)? -/
def uopRegs (us : List W32) (have_ : List Nat) : Option (List Nat) :=
  match us with
  | [] => some have_
  | u :: rest =>
    if (uReads u).all (fun r => have_.contains r) then uopRegs rest (if uOp u = 0x0F then have_ else uDst u :: have_) else none

/-- Registers of a program that hold a value at its end. -/
def Frond.held (p : Frond) : Option (List Nat) := uopRegs p.uops (List.range p.nin)

/-- Is frond entry j of core n in order (R177 to R183)? -/
def Cluster.frondOk (v : Cluster) (n j : Nat) : Bool :=
  let h := v.regAt (rFrond n j 0)
  let p := v.frond n j
  match fld h 63 62 with
  | 0 => true
  | 1 => j != 0 && (p.ornd == 0 || p.ornd == 2) && p.uops.all (uopOk p.pair) && p.held.isSome
      && p.sout == p.uops.any (fun u => uOp u == 0x0F)
  | _ => false

/-- Are the dimensions of a descriptor at or above NDIM trivial (R174)? -/
def Cluster.dimsOk (v : Cluster) (n i : Nat) : Bool :=
  let w2 := v.regAt (rDesc n i 2)
  let w3 := v.regAt (rDesc n i 3)
  let nd := fld (v.regAt (rDesc n i 0)) 55 53
  [(1, fld w2 31 0), (2, fld w2 63 32), (3, fld w3 31 0), (4, fld w3 63 32)].all (fun d => decide (d.1 < nd) || d.2 == 0)

/-- Is descriptor entry i of core n in order (R173, R174)? -/
def Cluster.descOk (v : Cluster) (n i : Nat) : Bool :=
  let w := v.regAt (rDesc n i 0)
  let nd := fld w 55 53
  match fld w 63 60 with
  | 0 => true
  | k => i != 0 && decide (k ≤ 3) && decide (fld w 59 56 ≤ 9) && decide (1 ≤ nd) && decide (nd ≤ 5) && v.dimsOk n i
      && (k == 3 || decide (fld w 49 45 < (if k = 1 then 16 else 8)))

/-- Is comparator k of core n in order, with nd delta entries (R264)? -/
def Cluster.compOk (v : Cluster) (n nd k : Nat) : Bool :=
  let w := v.regAt (rCore n + 0x100 + 8 * k)
  decide (fld w 63 62 ≤ 1) && (fld w 61 54 == 0 || decide (fld w 61 54 < nd)) && fld w 53 32 == 0

/-- A section that names entry 0 of a chain, frond or descriptor table must hold it empty: KIND or SPACE is 0 (R152,
R173, R177, R400). -/
def Cluster.zeroOk (v : Cluster) (b : Nat) (d : DirEnt) : Bool :=
  !holdsZero d || v.im b (d.off + 7) 1 / (if d.ty = 0x14 then 16 else 64) == 0

/-- Is entry j of a table section's own entries in order? -/
def Cluster.tabEntOk (v : Cluster) (b : Nat) (d : DirEnt) (j : Nat) : Bool :=
  let nd := match v.iHead b d.core with
    | some h => h.ndelta
    | none => 0
  if j < secFirst d then v.zeroOk b d
  else if d.ty = 0x12 then v.chainOk d.core j
  else if d.ty = 0x13 then v.frondOk d.core j
  else if d.ty = 0x14 then v.descOk d.core j
  else v.compOk d.core nd j

/-- The first entry of a table section that is out of order is the section entry at fault (R402). -/
def Cluster.tabRej (v : Cluster) (b : Nat) (d : DirEnt) : Option Rej :=
  if isTab d.ty then mustAll (List.range (secCount d)) (fun i => v.tabEntOk b d (d.first + i)) rcEncoding 10 else none

/-- Table entries of the image, section by section (step 10 of R402). -/
def Cluster.step10Tabs (v : Cluster) (b : Nat) : Option Rej := (v.dir b).findSome? (v.tabRej b)

end Sys2Proof.Machine
end

