-- ==== Sys2Proof/Machine/VerWalk.lean ====
section
/-! DEFINITION. The verifier's checks of walk structures and scalar code: the rest of step 10 of R402 (R260 to R263,
R266 to R268, R271). Walk programs are followed from every lining's entry in ascending index; an index that two paths
reach with different open loops is rejected, because R276 takes the open loops of an index to be a unique set
(DEDUCED, log entry 52). Log entries of its readings and choices: 27 DEDUCED, 52 DEDUCED. -/

namespace Sys2Proof.Machine

/-- Regions of a core's instruction memory: first byte and length (R260). -/
def WalkHead.regions (h : WalkHead) : List (Nat × Nat) :=
  [(h.tmpl, 32 * h.ntmpl), (h.delta, 32 * h.ndelta), (h.walk, 4 * h.nwalk), (h.codeLo, h.codeN)]

/-- Do the regions fit the memory and keep apart (R260)? -/
def WalkHead.ok (h : WalkHead) : Bool :=
  decide (h.ntmpl ≤ 2048) && decide (h.ndelta ≤ 256) && decide (h.nwalk ≤ 4096) && h.codeLo % 4 == 0 && h.codeN % 4 == 0
    && h.regions.all (fun r => decide (r.1 + r.2 ≤ 65536))
    && (List.range 4).all (fun i => (h.regions.take i).all (fun r =>
        let s := h.regions.getD i (0, 0)
        !meets r.1 r.2 s.1 s.2))

/-- Does the code region lie in bytes that the image's sections load into core n: a core runs no code of another origin (R4)? -/
def Cluster.codeLoaded (v : Cluster) (b n : Nat) (h : WalkHead) : Bool :=
  let secs := ((v.dir b).filter (fun d => d.ty == 0x10 && d.core == n)).map secSpan
  (List.range (h.codeN / 4)).all (fun i => secs.any (fun s => decide (s.1 ≤ h.codeLo + 4 * i) && decide (h.codeLo + 4 * i + 4 ≤ s.1 + s.2)))

/-- Walk entry i of core n. -/
def Cluster.walkWord (v : Cluster) (n : Nat) (h : WalkHead) (i : Nat) : Nat := v.imemAt n (h.walk + 4 * i) 4

/-- A segment-table entry of the image under intake has its alternatives (R249). -/
def Cluster.segEnt (v : Cluster) (b i : Nat) : Option (List Byte) := if 4096 ≤ i then none else v.iSeg b i

/-- Reserved bits and ranges of a walk entry (R261 to R263, R267): `seq` tells of sequencer mode. -/
def walkFields (h : WalkHead) (seq : Bool) (i e : Nat) : Bool :=
  let dix := fun (d : Nat) => d == 0 || decide (d < h.ndelta)
  match e / 2 ^ 28 with
  | 0 => e % 32 == 0 && decide (e / 2 ^ 24 % 16 ≤ 9) && decide (e / 2 ^ 13 % 2048 < h.ntmpl) && dix (e / 32 % 256)
  | 1 => e / 2 ^ 16 % 1024 == 0
  | 2 => e % 2 ^ 26 == 0
  | 3 => seq && e % 2 ^ 25 == 0
  | 4 => e / 2 ^ 12 % 16 == 0 && decide (i < e % 4096)
  | 5 => e / 2 ^ 12 % 2 ^ 16 == 0 && decide (i < e % 4096)
  | 6 => seq && e / 2 ^ 24 % 16 == 0 && e % 2 ^ 13 == 0 && decide (e / 2 ^ 13 % 2048 < h.ntmpl)
  | 15 => e % 2 ^ 28 == 0
  | _ => false

/-- Is a sync record in order (R266, R354 to R356, R359)? -/
def syncRecOk (t : BitVec 256) : Bool :=
  fld t 255 248 == 0 && fld t 237 224 == 0 && fld t 127 0 == 0 && decide (fld t 241 239 ≤ 3) && bitAt t 158 == false
    && fld t 151 150 == 0 && (bitAt t 159 || (fld t 157 152 == 0 && fld t 149 144 == 0)) && (bitAt t 238 || !bitAt t 159)
    && (bitAt t 238 || fld t 191 160 != 0)

/-- Where a walk may continue from an entry, with the loops open there, innermost first; none where the entry breaks R263. -/
def Cluster.walkNextAt (v : Cluster) (b : Nat) (i e : Nat) (st : List Nat) : Option (List (Nat × List Nat)) :=
  let k := e / 2 ^ 26 % 4
  match e / 2 ^ 28 with
  | 1 => if st.contains k then none else some [(i + 1, k :: st)]
  | 2 => (match st with
    | j :: rest => if j = k then some [(i + 1, rest)] else none
    | [] => none)
  | 4 => (match v.segEnt b (e / 2 ^ 16 % 4096) with
    | some s => some ((List.range (segAlts s)).map (fun a => (e % 4096 + a, st)))
    | none => none)
  | 5 => some [(e % 4096, st)]
  | 15 => some []
  | _ => some [(i + 1, st)]

/-- Loops open at the indices that a walk reaches. -/
abbrev WalkSeen := List (Nat × List Nat)

/-- Enter the continuations of an entry; an index reached with other loops open is a breach. -/
def enterSeen (seen : WalkSeen) : List (Nat × List Nat) → Option WalkSeen
  | [] => some seen
  | p :: ps =>
    match seen.find? (fun q => q.1 == p.1) with
    | some q => if q.2 = p.2 then enterSeen seen ps else none
    | none => enterSeen (p :: seen) ps

/-- Is entry i, reached with loops st open, in order by itself? -/
def Cluster.walkEntryOk (v : Cluster) (n : Nat) (h : WalkHead) (seq : Bool) (i : Nat) : Bool :=
  let e := v.walkWord n h i
  walkFields h seq i e &&
    (e / 2 ^ 28 != 6 || syncRecOk (BitVec.ofNat 256 (v.imemAt n (h.tmpl + 32 * (e / 2 ^ 13 % 2048)) 32)))

/-- Follow a walk through the indices from i on: every continuation lies ahead but an ENDL's, which returns to where the
walk has been. It must find an END before the program's end (R263). -/
def Cluster.walkFlow (v : Cluster) (b n : Nat) (h : WalkHead) (seq : Bool) : Nat → Nat → WalkSeen → Option WalkSeen
  | 0, _, seen => if seen.any (fun p => decide (h.nwalk ≤ p.1)) then none else some seen
  | fuel + 1, i, seen =>
    match seen.find? (fun p => p.1 == i) with
    | none => v.walkFlow b n h seq fuel (i + 1) seen
    | some p =>
      if !v.walkEntryOk n h seq i then none
      else match v.walkNextAt b i (v.walkWord n h i) p.2 with
        | none => none
        | some nx =>
          match enterSeen seen nx with
          | none => none
          | some seen' => v.walkFlow b n h seq fuel (i + 1) seen'

/-- Indices that the walk of core n reaches from an entry, if it keeps R263. -/
def Cluster.walkReach (v : Cluster) (b n : Nat) (h : WalkHead) (seq : Bool) (start : Nat) : Option WalkSeen :=
  if start < h.nwalk then v.walkFlow b n h seq h.nwalk 0 [(start, [])] else none

/-- Do the walks of core n keep R263 from every lining's entry? -/
def Cluster.walksOk (v : Cluster) (b n : Nat) (h : WalkHead) : Bool :=
  (v.iLins b).all (fun d => (v.walkReach b n h (v.hMode b n == 1) (lnWalk d n)).isSome)

/-- Service words: WALK, SYNC, SPORE, TIME and SYS with their sub-codes and modes (R268, R270, R355, R356). -/
def svcOk (w : Nat) : Bool :=
  let z := fun (lo len : Nat) => w / 2 ^ lo % 2 ^ len == 0
  match sMaj w, sSub w with
  | 0x20, k => decide (k ≤ 2)
  | 0x24, 0 => decide (sMode w ≤ 3) && sRs w != sRd w
  | 0x24, 1 => decide (sMode w ≤ 4) && z 21 5 && (sMode w != 4 || (z 16 5 && z 11 5)) && sRs w != sRd w
  | 0x25, 0 => decide (sMode w ≤ 2) && z 21 5 && z 11 5 && sRs w != sRd w
  | 0x25, 1 => decide (sMode w ≤ 3) && sRs w != sRd w
  | 0x28, k => decide (k ≤ 3)
  | 0x3F, k => decide (k ≤ 1)
  | _, _ => false

/-- Does a word of a code region decode to an instruction (R268)? -/
def codeOk (w : Nat) : Bool :=
  let m := sMaj w
  if m = 0 then decide (sFn w ≤ 0xE)
  else if 1 ≤ m && m ≤ 4 then true
  else if m = 5 then decide (w / 64 % 4 ≤ 2)
  else if m = 6 then true
  else if m = 8 || m = 9 then decide (w / 2 ^ 9 % 16 ≤ 5) && w % 512 == 0
  else if m = 0xA then decide (sFn w ≤ 3)
  else if m = 0x10 then true
  else if m = 0x11 then w / 2 ^ 22 % 16 == 0
  else if m = 0x12 then true
  else if 0x18 ≤ m && m ≤ 0x1D then true
  else if m = 0x1E then decide (sFn w ≤ 1)
  else if m = 0x30 then w / 64 % 2 ^ 20 == 0
  else svcOk w

/-- Code word i of core n. -/
def Cluster.codeWord (v : Cluster) (n : Nat) (h : WalkHead) (i : Nat) : Nat := v.imemAt n (h.codeLo + 4 * i) 4
/-- Words of a code region. -/
def WalkHead.codeWords (h : WalkHead) : Nat := h.codeN / 4

/-- Words that code word i may continue at (R268): all of them after a JR. -/
def Cluster.codeNext (v : Cluster) (n : Nat) (h : WalkHead) (i : Nat) : List Nat :=
  let w := v.codeWord n h i
  let j : Int := (i : Int) + sextN 22 (w % 2 ^ 22)
  let t := if j < 0 then h.codeWords else j.toNat
  if sMaj w = 0x10 then [i + 1, t]
  else if sMaj w = 0x11 then [t]
  else if sMaj w = 0x12 then List.range h.codeWords
  else if sMaj w = 0x3F && sSub w = 0 then []
  else [i + 1]

/-- Words reached from a work list. -/
def Cluster.codeReach (v : Cluster) (n : Nat) (h : WalkHead) : Nat → List Nat → List Nat → List Nat
  | 0, _, seen => seen
  | _ + 1, [], seen => seen
  | fuel + 1, i :: work, seen =>
    if h.codeWords ≤ i || seen.contains i then v.codeReach n h fuel work seen
    else v.codeReach n h fuel (v.codeNext n h i ++ work) (i :: seen)

/-- Words that a lining's code entry reaches on core n. -/
def Cluster.entryReach (v : Cluster) (n : Nat) (h : WalkHead) (d : List Byte) : List Nat :=
  v.codeReach n h ((h.codeWords + 2) * (h.codeWords + 2)) [(lnCode d n - h.codeLo) / 4] []

/-- Does every SETCTX name a context of a lining whose entry reaches it (R271)? -/
def Cluster.setctxOk (v : Cluster) (b n : Nat) (h : WalkHead) : Bool :=
  let sets := (List.range h.codeWords).filter (fun i => sMaj (v.codeWord n h i) == 0x30)
  sets.isEmpty || (
    let rs := (v.iLins b).map (fun d => (lnCtxs d, v.entryReach n h d))
    sets.all (fun i => rs.any (fun r => r.1.contains (v.codeWord n h i % 64) && r.2.contains i)))

/-- Is every word of a scalar core's code an instruction? -/
def Cluster.codesOk (v : Cluster) (b n : Nat) (h : WalkHead) : Bool :=
  v.hMode b n != 2 || ((List.range h.codeWords).all (fun i => codeOk (v.codeWord n h i)) && v.setctxOk b n h)

/-- Are core n's walk structures and code in order, if the image uses the core? -/
def Cluster.coreOk (v : Cluster) (b n : Nat) : Bool :=
  match v.iHead b n with
  | none => v.hMode b n == 0
  | some h => h.ok && v.codeLoaded b n h && (v.hMode b n == 0 || (v.walksOk b n h && v.codesOk b n h))

/-- Step 10 (R402). -/
def Cluster.step10 (v : Cluster) (b : Nat) : Option Rej :=
  firstRej [fun _ => v.step10Tabs b, fun _ => mustAll (List.range 8) (v.coreOk b) rcEncoding 10]

end Sys2Proof.Machine
end

