-- ==== Sys2Proof/Machine/VerOps.lean ====
section
/-! DEFINITION. The verifier's checks of one op: fields, formats, extents, tiles and duration (step 11 of R402, after
the rules that the chapters give each op). Each reads the tables as loading would leave them and, for a core's tiles,
the configuration in force at the op's stamp (R204). Log entries of its readings and choices: 79 DEDUCED. -/

namespace Sys2Proof.Machine

/-- Is a handle valid and owned by the context of an op (R217)? -/
def Cluster.hndOf (v : Cluster) (h k : Nat) : Bool := hndValid (v.regAt (rHnd h)) && hndOwner (v.regAt (rHnd h)) == k

/-- Do bytes lo to hi - 1 lie within a handle owned by a context? -/
def Cluster.inHnd (v : Cluster) (h k : Nat) (lo hi : Int) : Bool :=
  v.hndOf h k && decide (0 ≤ lo) && decide (hi ≤ ((hndSize (v.regAt (rHnd h)) * 64 : Nat) : Int))

/-- Do lines lie within a handle owned by a context? -/
def Cluster.linesIn (v : Cluster) (h k : Nat) (ls : List Nat) : Bool :=
  let w := v.regAt (rHnd h)
  v.hndOf h k && ls.all (fun l => decide (hndBase w ≤ l) && decide (l < hndBase w + hndSize w))

/-- Does a tile hold bytes lo to hi - 1 of its stream? -/
def Cluster.inTile (v : Cluster) (n t hi : Nat) : Bool := decide (t < 24) && v.tileValid n t && decide (hi ≤ v.tileRows n t * v.tileB n t)

/-- Does a tile hold rows r to r + cnt - 1? -/
def Cluster.rowsIn (v : Cluster) (n t r cnt : Nat) : Bool := decide (t < 24) && v.tileValid n t && decide (r + cnt ≤ v.tileRows n t)

/-- DUR and STAMP of an op against the least duration of its formula (R31). -/
def durOk (o : MacroOp) (least : Nat) : Bool :=
  decide (1 ≤ opDur o) && decide (opDur o ≤ 8192) && decide (least ≤ opDur o) && decide (opStamp o + opDur o ≤ 0xFFFFFFFF)

/-- Is a format pair legal (R71)? -/
def pairOk (w a : Nat) : Bool :=
  let half := fun (f : Nat) => f == 1 || f == 2
  let small := fun (f : Nat) => f == 3 || f == 4 || f == 5
  (half w && half a) || (small w && small a) || (w == 7 && a == 7) || (w == 6 && (a == 3 || a == 4 || a == 6)) || (w == 8 && a == 8)

/-- Are the formats, pattern and mode of an MMA-family op accepted (R71, R72, R121, R122, R228)? -/
def fmtsOk (o : MacroOp) : Bool :=
  let w := opWfmt o
  let a := opAfmt o
  match opOpc o with
  | 0x11 => pairOk w a && !(w == 6 && a != 6) && fld o 17 16 != 3 && !(fld o 17 16 == 1 && w == 5 && a == 5)
  | 0x13 => (match opCmode o with
    | 0 => w == 0 && a == 0
    | 1 => w == 7 && a == 7
    | 2 => pairOk w a
    | _ => (w == 1 || w == 2) && (a == 1 || a == 2))
  | _ => pairOk w a

/-- K length and operand cycles (R68, R106, R122, R127). -/
def kOk (o : MacroOp) : Bool :=
  decide (1 ≤ opN o) && decide (opN o ≤ 8192) && (!(fmtIsMx (opWfmt o) || fmtIsMx (opAfmt o)) || kLen o % 32 == 0)
    && (!isStip o || kLen o % max (stip o).1 (2 * kAdv o) == 0) && (!isComplex o || decide (16 ≤ passLen o))

/-- Layout fields: lead, transpose, stride (R93, R109, R131, R222). -/
def layoutOk (o : MacroOp) : Bool :=
  let tr := [1, 2, 3, 4, 7, 8].contains (opWfmt o) && bitAt o 144 && (opOpc o == 0x10 || opOpc o == 0x12)
  decide (11 ≤ opLead o) && decide (opLead o ≤ 106) && (!bitAt o 143 || tr) && (!isGathK o || bitAt o 144)
    && (if bitAt o 144 then fld o 142 133 == 0 else fld o 142 133 != 0)

/-- Mode bits of an MMA-family op (R225 to R228). -/
def modeBitsOk (o : MacroOp) : Bool :=
  match opOpc o with
  | 0x10 => fld o 17 0 == 0
  | 0x11 => true
  | 0x12 => !bitAt o 17 || fld o 132 127 == 0
  | _ => fld o 15 0 == 0 && fld o 115 110 == 0

/-- Does an op of the array queues drain (R222, R229)? -/
def drains (o : MacroOp) : Bool := opOpc o == 0x14 || (isMma (opOpc o) && (bitAt o 118 || isGauss o))

/-- Unused fields of the drain are clear (R222, R229). -/
def drainBitsOk (o : MacroOp) : Bool :=
  if drains o then
    (bitAt o 116 || fld o 50 46 == 0) && (bitAt o 83 || fld o 70 51 == 0) && (!bitAt o 116 || opOpc o == 0x14 || bitAt o 118)
  else fld o 117 116 == 0 && fld o 109 104 == 0 && fld o 83 46 == 0

/-- Are tile operands of a stage configured where it reads them (R154, R165)? -/
def Cluster.stageOk (v : Cluster) (a : Nat) (skim : Bool) (k : Nat) (w : W64) : Bool :=
  let n := a / 4
  if stOpk w = 0 then true
  else if bitAt w 52 then a % 4 == 0 && stBufOk skim k w
  else v.inTile n (fld w 51 47) (fld w 46 40 * v.tileB n (fld w 51 47) + (if stCode w = 9 then 512 * stAux w else 0) + stFoot skim k w)

/-- Does an MX QUANT have a column drain and its scale destination (R159)? -/
def Cluster.mxQuantOk (v : Cluster) (n : Nat) (o : MacroOp) (w : W64) : Bool :=
  !(stCode w == 7 && fmtIsMx (stParam w)) ||
    (!bitAt o 117 && v.inTile n (fld w 51 47) (fld w 46 40 * v.tileB n (fld w 51 47) + 128))

/-- Is the skim chain of a draining op in order (R146, R148, R154)? -/
def Cluster.skimUse (v : Cluster) (a : Nat) (o : MacroOp) : Bool :=
  let n := a / 4
  fld o 109 104 == 0 || (opOpc o == 0x14 || bitAt o 118) &&
    (match v.chain n (fld o 109 104) 1 with
     | none => false
     | some c => c.2.all (fun w => v.stageOk a true 0 w && v.mxQuantOk n o w) && !(opOpc o == 0x13 && c.2.any (fun w => stCode w == 6)))

/-- Can the destination of a drain hold its groups (R107, R224)? -/
def Cluster.destOk (v : Cluster) (a : Nat) (o : MacroOp) : Bool :=
  let n := a / 4
  let size := 512 * v.drainBits n o + (if isGauss o then 16384 else 0)
  if bitAt o 83 then v.inHnd (fld o 82 71) (opCtx o) (64 * fld o 70 51 : Nat) (64 * fld o 70 51 + size : Nat)
  else decide (fld o 77 71 < v.tileRows n (fld o 82 78)) && v.inTile n (fld o 82 78) (fld o 77 71 * v.tileB n (fld o 82 78) + size)

/-- The drain of an op: destination, chain and preload tile (R101, R222, R224). -/
def Cluster.drainUse (v : Cluster) (a : Nat) (o : MacroOp) : Bool :=
  drainBitsOk o && (!drains o || (v.destOk a o && v.skimUse a o && (!bitAt o 116 || v.inTile (a / 4) (fld o 50 46) 16384)))

/-- Is the primer chain of an op in order (R148, R161, R165)? -/
def Cluster.primUse (v : Cluster) (a : Nat) (o : MacroOp) : Bool :=
  fld o 115 110 == 0 ||
    (match v.primer (a / 4) o with
     | none => false
     | some p => !fmtIsMx (opAfmt o) && decide (4 * kPos o * fmtBits (fld p.1 57 54) ≤ 256) && p.2.all (v.stageOk a false (kLen o)))

/-- The activation stream of an op lies in its tiles (R91, R130, R222). -/
def Cluster.actUse (v : Cluster) (a : Nat) (o : MacroOp) : Bool :=
  let n := a / 4
  let ts := actTiles o
  let mx := fmtIsMx (v.srcFmt n o)
  let size := (ts.map (fun t => v.tileRows n t * v.tileB n t)).foldl (· + ·) 0
  let t0 := fld o 103 100
  ts.all (fun t => decide (t < 16) && v.tileValid n t) && (mx || fld o 87 84 == 0) &&
    (if isGathRow o then
      fld o 96 88 == 0 && ts.all (fun t => v.tileRows n t == v.tileRows n t0 && v.tileB n t == v.tileB n t0)
        && decide (kLen o * v.xBits n o ≤ ts.length * v.tileB n t0 * 8)
        && (!mx || (v.rowsIn n (fld o 87 84) 0 (v.tileRows n t0) && decide (cdiv (kLen o) 32 ≤ v.tileB n (fld o 87 84))))
    else decide (64 * fld o 96 88 + passLen o * (4 * kPos o * v.xBits n o) ≤ size)
        && (!mx || v.inTile n (fld o 87 84) (32 * cdiv (kLen o) 32)))

/-- The list of an MMAG (R128, R227). -/
def Cluster.listUse (v : Cluster) (a : Nat) (o : MacroOp) : Bool :=
  if opOpc o != 0x12 then true
  else
    let t := 16 + fld o 16 14
    let cnt := if isGathK o then fld o 132 120 + 1 else v.presW a
    v.rowsIn (a / 4) t (fld o 13 7) 1 && v.tileB (a / 4) t == 256 && decide (fld o 6 0 + cnt ≤ 128)

/-- The weight stream lies in its handle; the granules of a gathered-K op are checked as they are read (R132, R217). -/
def Cluster.weightUse (v : Cluster) (o : MacroOp) : Bool :=
  let h := fld o 191 180
  let wl := hndBase (v.regAt (rHnd h)) + fld o 179 160
  v.hndOf h (opCtx o) && (isGathK o || (bitAt o 144 && wBits o % 4 != 0) ||
    (List.range (nLines o 0)).all (fun j => v.linesIn h (opCtx o) (valueLines o wl (blockOf o j) j)))

/-- The scale lines of every granule that a gathered-K op can take: those inside its weight handle (R131, R132). -/
def Cluster.granuleScales (v : Cluster) (o : MacroOp) : List Nat :=
  let gs := (List.range (min 32768 (hndSize (v.regAt (rHnd (fld o 191 180))) / 256 + 2))).filter (fun g => !v.granuleOut o g)
  gs.flatMap (fun g => (List.range 8).map (fun i => 8 * g + i))

/-- The mask and scale streams lie in the side handle, and its fields are clear where there are none (R222, R226, R288). -/
def Cluster.sideUse (v : Cluster) (o : MacroOp) : Bool :=
  let h := fld o 45 34
  let s := hndBase (v.regAt (rHnd h))
  let m := s + fld o 15 0
  let masks := (List.range (nLines o 1)).flatMap (fun j => (List.range 128).map (fun r => (m / 256 + j) * 256 + (m % 256 + r) % 256))
  let lines := if isGathK o then v.granuleScales o else (List.range (nLines o 2)).flatMap (fun j => [2 * j, 2 * j + 1])
  let scales := if fmtIsMx (opWfmt o) then lines.map (s + fld o 33 18 + ·) else []
  (fmtIsMx (opWfmt o) || fld o 33 18 == 0) &&
    (if fmtIsMx (opWfmt o) || isStip o then v.linesIn h (opCtx o) (masks ++ scales) else h == 0)

/-- Is an op of the MMA family in order on array a (R222 to R228)? -/
def Cluster.mmaOk (v : Cluster) (a : Nat) (o : MacroOp) : Bool :=
  fmtsOk o && kOk o && layoutOk o && modeBitsOk o && durOk o (opN o + (if isGauss o then 32 else 0)) && v.drainUse a o
    && v.primUse a o && v.actUse a o && v.listUse a o && v.weightUse o && v.sideUse o

/-- Is an op of an array queue in order (R222 to R231)? -/
def Cluster.arrOpOk (v : Cluster) (a : Nat) (o : MacroOp) : Bool :=
  match opOpc o with
  | 0x14 => durOk o 1 && fld o 191 118 == 0 && fld o 115 110 == 0 && fld o 103 84 == 0 && fld o 45 18 == 0 && fld o 16 0 == 0
      && v.drainUse a o
  | 0x15 => durOk o 1 && fld o 191 118 == 0 && fld o 116 51 == 0 && fld o 45 18 == 0 && fld o 16 0 == 0
      && v.inTile (a / 4) (fld o 50 46) 16384
  | 0x16 => durOk o 1 && fld o 191 0 == 0
  | k => isMma k && v.mmaOk a o

/-- A row in scratchpad spans at most 4 lines and lies within the handle (R204, R206). -/
def Cluster.moveRowsOk (v : Cluster) (o : MacroOp) : Bool :=
  (List.range (fld o 179 172)).all (fun i =>
    let off : Int := (16 * fld o 159 136 : Nat) + (i : Int) * sextN 16 (fld o 135 120) * 16
    decide ((off % 64) + (moveB o : Nat) ≤ 256) && v.inHnd (fld o 171 160) (opCtx o) off (off + (moveB o : Nat)))

/-- TLD and TST (R204 to R208, R234). -/
def Cluster.loadOk (v : Cluster) (n : Nat) (o : MacroOp) : Bool :=
  let t := fld o 191 187
  let cnt := fld o 179 172
  let buf := opOpc o == 0x21 && t == 31
  decide (1 ≤ cnt) && decide (cnt ≤ 128) && durOk o cnt && fld o 103 0 == 0 && v.moveRowsOk o &&
    (if buf then fld o 186 180 == 0 && decide (16 * fld o 115 104 + cnt * moveB o ≤ 65536)
     else v.rowsIn n t (fld o 186 180) cnt && v.tileB n t == moveB o && fld o 115 104 == 0)

/-- The destination of a TMOV holds what it writes, `len` bytes or `cnt` rows (R204, R210, R235). -/
def Cluster.moveDest (v : Cluster) (n : Nat) (o : MacroOp) (len : Nat) : Bool :=
  let t := fld o 179 175
  if t = 31 then fld o 174 168 == 0 && decide (16 * fld o 150 139 + len ≤ 65536)
  else fld o 150 139 == 0 && decide (t < 24) && v.tileValid n t && v.tileB n t == tmovB o
    && decide (fld o 174 168 * tmovB o + len ≤ v.tileRows n t * tmovB o)

/-- TMOV, plain or transposed (R209, R210, R235). -/
def Cluster.tmovOk (v : Cluster) (n : Nat) (o : MacroOp) : Bool :=
  let cnt := fld o 167 160
  let src := v.rowsIn n (fld o 191 187) (fld o 186 180) cnt && v.tileB n (fld o 191 187) == tmovB o
  decide (1 ≤ cnt) && fld o 138 0 == 0 && src &&
    (if bitAt o 159 then
      let out := cdiv (tmovB o * 8 / tmovW o * cnt * tmovW o) 8
      decide (cnt ≤ 32) && decide (fld o 158 155 ≤ 9) && tmovB o * 8 % tmovW o == 0 && durOk o (cnt + cdiv out 256) && v.moveDest n o out
    else decide (cnt ≤ 128) && fld o 158 155 == 0 && durOk o cnt && v.moveDest n o (cnt * tmovB o))

/-- Is an op of the tile-mover queue of core n in order (R232 to R235)? -/
def Cluster.tileOpOk (v : Cluster) (n : Nat) (o : MacroOp) : Bool :=
  match opOpc o with
  | 0x20 => durOk o 1 && !opNul o && fld o 191 168 != 0 && fld o 156 0 == 0
  | 0x24 => durOk o 1 && !opNul o && fld o 191 168 != 0 && fld o 167 0 == 0
  | 0x25 => durOk o 1 && fld o 171 0 == 0 && decide (1 ≤ fld o 179 172) && v.rowsIn n (fld o 191 187) (fld o 186 180) (fld o 179 172)
  | 0x21 => v.loadOk n o
  | 0x22 => v.loadOk n o
  | 0x23 => v.tmovOk n o
  | _ => false

/-- Is an op of a channel queue in order: transfers (R244), and a DMARR's own fields (R245)? -/
def Cluster.chanOpOk (v : Cluster) (o : MacroOp) : Bool :=
  let ls := fld o 109 90 + 1
  match opOpc o with
  | 0x42 =>
    let unused := (List.range 4).all (fun k => bitAt o (188 + k) || fld o (187 - 10 * k) (178 - 10 * k) == 0)
    durOk o 1 && fld o 191 188 != 0 && unused && fld o 147 0 == 0
  | k => (k == 0x40 || k == 0x41) && durOk o (2 * cdiv ls 4) && decide (ls ≤ 16384) && fld o 149 144 == 0 && fld o 191 190 != 3
      && fld o 81 0 == 0 && v.inHnd (fld o 143 132) (opCtx o) (64 * fld o 131 110 : Nat) (64 * (fld o 131 110 + ls) : Nat)

end Sys2Proof.Machine
end

