-- ==== Sys2Proof/Machine/VerVec.lean ====
section
/-! DEFINITION. The verifier's checks of vector ops: descriptors and their extents, counts, parameters and durations
(R174, R175, R180, R183, R186 to R194, R236 to R243), and the static port uses of an op (R283). Log entries of its
readings and choices: 25 DEDUCED, 97 DEDUCED, 99 DESIGN CHOICE, 101 DEDUCED, 102 DEDUCED. -/

namespace Sys2Proof.Machine

/-- Least and greatest bit of a descriptor's extent, relative to its tile or handle (R174). -/
def Desc.extent (d : Desc) : Int × Int :=
  let ds := d.cnt.zip d.str
  let lo := (ds.map (fun p => min 0 (((p.1 : Int) - 1) * p.2))).foldl (· + ·) 0
  let hi := (ds.map (fun p => max 0 (((p.1 : Int) - 1) * p.2))).foldl (· + ·) 0
  ((d.base : Int) + lo, (d.base : Int) + hi + (cdiv ((if d.bcast then 1 else d.n0) * fmtBits d.fmt) 8 : Nat))

/-- Does a tile descriptor place elements on their alignment (R175)? -/
def Desc.aligned (d : Desc) : Bool :=
  let s := max 1 (fmtBits d.fmt / 8)
  fmtBits d.fmt == 6 || (d.base % s == 0 && (d.cnt.zip d.str).all (fun x => x.1 == 1 || x.2 % (s : Int) == 0))

/-- Is a descriptor that an op uses in order at its stamp (R175)? -/
def Cluster.descUse (v : Cluster) (n : Nat) (o : MacroOp) (k : Nat) : Bool :=
  let d := v.desc n o k
  let e := d.extent
  if d.space = 3 then
    v.inHnd d.hnd (opCtx o) e.1 e.2 && !d.bcast && fld (v.regAt (rDesc n (vDesc o k) 1)) 31 0 % 64 == 0 && (16 * vOff o k) % 64 == 0
      && d.str.all (fun x => x % 64 == 0)
  else if d.space = 1 || d.space = 2 then v.inTile n d.tile e.2.toNat && decide (0 ≤ e.1) && d.aligned
  else false

/-- Is a descriptor field that an op does not use clear (R216, R236)? -/
def descClear (o : MacroOp) (k : Nat) : Bool := vDesc o k == 0 && vOff o k == 0

/-- Descriptors k of a list are used and in order; the others are clear. -/
def Cluster.descsOk (v : Cluster) (n : Nat) (o : MacroOp) (use : List Nat) : Bool :=
  (List.range 5).all (fun k => if use.contains k then v.descUse n o k else descClear o k)

/-- No MX format in the descriptors of a list (R175). -/
def Cluster.noMx (v : Cluster) (n : Nat) (o : MacroOp) (ks : List Nat) : Bool := ks.all (fun k => !fmtIsMx (v.desc n o k).fmt)

/-- NDIM of descriptor k of an op (R173). -/
def Cluster.ndim (v : Cluster) (n : Nat) (o : MacroOp) (k : Nat) : Nat := fld (v.regAt (rDesc n (vDesc o k) 0)) 55 53

/-- Same chunks and counts (R175). -/
def sameShape (e : Nat) (x y : Desc) : Bool := x.c0 e == y.c0 e && x.cnt == y.cnt

/-- Does the tile region of descriptor k hold `len` bytes from its base? -/
def Cluster.regionOk (v : Cluster) (n : Nat) (o : MacroOp) (k len : Nat) : Bool :=
  let d := v.desc n o k
  (d.space == 1 || d.space == 2) && v.inTile n d.tile (d.base + len)

/-- VRUN (R177 to R185, R237; DS is bound by its size only, log entry 97). -/
def Cluster.vrunOk (v : Cluster) (n : Nat) (o : MacroOp) : Bool :=
  let j := fld o 191 187
  let p := v.frond n j
  let e := if p.pair then 256 else 128
  let m := v.vrunMain n o
  let out := (v.desc n o 3).on
  let ins := List.range p.nin
  let io := ins ++ (if out then [3] else [])
  j != 0 && fld (v.regAt (rFrond n j 0)) 63 62 == 1 && fld o 71 0 == 0 && m.on
    && v.descsOk n o (io ++ (if p.sout then [4] else [])) && v.noMx n o io
    && ins.all (fun k => sameShape e (v.desc n o k) m)
    && (!out || (p.held.getD []).contains p.out) && (!p.pair || io.all (fun k => (v.desc n o k).fmt == 1))
    && (!p.sout || (v.regionOk n o 4 2048 && (v.desc n o 4).fmt == 0))
    && durOk o (v.vrunLen p (m.iters e))

/-- VBCAST (R186, R238). -/
def Cluster.vbcastOk (v : Cluster) (n : Nat) (o : MacroOp) : Bool :=
  let a := v.desc n o 0
  let d := v.desc n o 3
  let mode := vPar o 71 70
  let src := if mode = 0 then true
    else if mode = 1 then a.c0 128 == d.c0 128 && a.cnt.all (fun c => c == 1)
    else a.n0 * a.cnt.foldl (· * ·) 1 == d.cnt.headD 1
  mode != 3 && fld o 191 187 == 0 && fld o 69 64 == 0 && fld o 31 0 == 0 && (mode == 0 || fld o 63 32 == 0)
    && v.descsOk n o (if mode = 0 then [3] else [0, 3]) && v.noMx n o [0, 3] && src && durOk o (v.vX + d.iters 128 + 1)

/-- VRED (R187, R239); the input and the output need not be of one kind (DESIGN CHOICE, log entry 99). -/
def Cluster.vredOk (v : Cluster) (n : Nat) (o : MacroOp) : Bool :=
  let a := v.desc n o 0
  let d := v.desc n o 3
  let rop := vPar o 71 69
  let total := d.n0 * d.cnt.foldl (· * ·) 1
  let shape := if vPar o 68 68 = 0 then decide (v.ndim n o 0 ≤ 2) && total == a.cnt.headD 1
    else d.n0 == a.n0 && total == a.n0 * (a.cnt.drop 1).foldl (· * ·) 1
  decide (rop ≤ 4) && fld o 191 187 == 0 && fld o 67 0 == 0 && v.descsOk n o [0, 3] && v.noMx n o [0, 3]
    && (d.fmt == 9 || (d.fmt == 0 && decide (rop < 3))) && shape && durOk o (v.vredLen n o)

/-- VTOPK (R188 to R190, R240). -/
def Cluster.vtopkOk (v : Cluster) (n : Nat) (o : MacroOp) : Bool :=
  let a := v.desc n o 0
  let e := a.n0
  let t := a.cnt.headD 1
  let ks := vPar o 70 64 + 1
  let len := vPar o 56 50 + 1
  let sel := bitAt o 71
  let nl := vPar o 32 26 + 1
  let lt := 16 + vPar o 49 47
  let rows := if sel then t else nl
  fld o 191 187 == 0 && fld o 7 0 == 0 && v.descsOk n o (if bitAt o 10 then [0, 3] else [0]) && v.noMx n o (if bitAt o 10 then [0, 3] else [0])
    && v.ndim n o 0 == 2 && decide (2 ≤ e) && decide (e ≤ 128) && decide (t ≤ 128) && decide (ks ≤ e)
    && v.rowsIn n lt (vPar o 46 40) rows && v.tileB n lt == 256
    && (if sel then decide (ks ≤ len) && fld o 63 57 == 0 && fld o 39 26 == 0 && fld o 10 8 == 0
        else decide (ks ≤ 8) && decide (vPar o 63 57 + 1 ≤ len) && decide (vPar o 39 33 + nl ≤ e) && fld o 25 11 == 0)
    && (!bitAt o 10 || v.regionOk n o 3 (8 * t * ks)) && durOk o (v.topkLen o e t)

/-- VGATH and VSCAT (R191, R241); WROW is 0 without WEN (DEDUCED, log entry 102). -/
def Cluster.vmoveOk (v : Cluster) (n : Nat) (o : MacroOp) : Bool :=
  let scat := opOpc o == 0x35
  let st := vPar o 71 67
  let dt := vPar o 66 62
  let lt := 16 + vPar o 61 59
  let ent := vPar o 44 38 + 1
  let add := bitAt o 23
  let wt := vPar o 21 17
  let fields := if scat then fld o 30 24 == 0 && (add || !bitAt o 22) else fld o 37 31 == 0 && fld o 23 22 == 0
  let wts := if bitAt o 22 then v.inTile n wt (vPar o 16 10 * v.tileB n wt + 4 * ent) else fld o 21 10 == 0
  fld o 191 72 == 0 && fld o 9 0 == 0 && fields && wts && v.rowsIn n lt (vPar o 58 52) 1 && v.tileB n lt == 256
    && decide (vPar o 51 45 + ent ≤ 128) && v.rowsIn n st (if scat then vPar o 37 31 else 0) (if scat then ent else 1)
    && v.rowsIn n dt (if scat then 0 else vPar o 30 24) (if scat then 1 else ent) && v.tileB n st == v.tileB n dt
    && (!add || v.tileB n st % 4 == 0) && durOk o (if add then v.vX + 2 * ent + v.vLam + 1 else v.vX + ent + 1)

/-- VCVT (R192, R242; DS is bound by its size only, log entry 97). -/
def Cluster.vcvtOk (v : Cluster) (n : Nat) (o : MacroOp) : Bool :=
  let a := v.desc n o 0
  let d := v.desc n o 3
  let mx := fmtIsMx a.fmt || fmtIsMx d.fmt
  let scales := fun (x : Desc) => !fmtIsMx x.fmt || (x.n0 % 32 == 0 && v.regionOk n o 4 (x.n0 / 32 * x.cnt.foldl (· * ·) 1))
  fld o 191 187 == 0 && vPar o 71 70 != 3 && fld o 69 0 == 0 && v.descsOk n o (if mx then [0, 3, 4] else [0, 3])
    && sameShape 128 a d && scales a && scales d
    && durOk o (v.vX + d.iters 128 + v.vLam + 1 + (if fmtIsMx d.fmt then 4 else 0))

/-- VSTAT (R193, R243); fields that a mode does not name are 0 (DEDUCED, log entry 101). -/
def Cluster.vstatOk (v : Cluster) (n : Nat) (o : MacroOp) : Bool :=
  let a := v.desc n o 0
  let mode := vPar o 71 70
  let srck := vPar o 68 66
  let ns := vPar o 60 56 + 1
  let dst := fun (len : Nat) => v.regionOk n o 3 len && (v.desc n o 3).fmt == 0
  let t := a.cnt.headD 1
  fld o 191 187 == 0 && fld o 38 0 == 0 &&
    (if mode = 0 then
      fld o 68 39 == 0 && v.descsOk n o [0, 3] && (fmtFloat a.fmt).isSome && v.noMx n o [0] && decide (v.ndim n o 0 ≤ 2)
        && decide (t ≤ 128) && dst (16 * t) && durOk o (v.vX + t * a.c0 128 * (if bitAt o 69 then 2 else 1) + v.vLam + 16)
    else
      decide (mode < 3) && !bitAt o 69 && decide (srck ≤ 4) && v.descsOk n o (if srck = 4 then [0, 3] else [3])
        && (if srck = 4 then a.space == 2 && v.noMx n o [0] && v.regionOk n o 0 (512 * (vPar o 65 61 + ns)) else decide (vPar o 65 61 + ns ≤ 32))
        && (mode == 2 || fld o 55 39 == 0) && dst (if mode = 1 then 512 else 256)
        && durOk o (v.vX + 4 * ns + v.vLam + 1 + (if mode = 2 then v.vSig + 1 else 0)))

/-- Is an op of the vector queue of core n in order (R236 to R243)? -/
def Cluster.vecOpOk (v : Cluster) (n : Nat) (o : MacroOp) : Bool :=
  match opOpc o with
  | 0x30 => v.vrunOk n o
  | 0x31 => v.vbcastOk n o
  | 0x32 => v.vredOk n o
  | 0x33 => v.vtopkOk n o
  | 0x34 => v.vmoveOk n o
  | 0x35 => v.vmoveOk n o
  | 0x36 => v.vcvtOk n o
  | 0x37 => v.vstatOk n o
  | _ => false

/-- Is an op in order on its queue, for a lining that binds contexts ks (R217, R219)? -/
def Cluster.opOk (v : Cluster) (ks : List Nat) (q : Nat) (o : MacroOp) : Bool :=
  ks.contains (opCtx o) &&
    (if 48 ≤ q then v.chanOpOk o
     else if q % 6 = 4 then v.vecOpOk (q / 6) o
     else if q % 6 = 5 then v.tileOpOk (q / 6) o
     else v.arrOpOk (q / 6 * 4 + q % 6) o)

/-- A static port use: LCC value and logical bank, as LCC * 256 + bank; none before LCC 0 (R283). -/
def portUseAt (t : Int) (line : Nat) : List Nat := if t < 0 then [] else [t.toNat * 256 + line % 256]

/-- Feeder reads of an array op at its stamp (R93, R108, R109, R124); scales of a gathered-K op at the banks of granule 0. -/
def Cluster.feederUses (v : Cluster) (o : MacroOp) : List Nat :=
  let wl := hndBase (v.regAt (rHnd (fld o 191 180))) + fld o 179 160
  let sl := hndBase (v.regAt (rHnd (fld o 45 34)))
  let m := sl + fld o 15 0
  let lines : Nat → Nat → List Nat := fun kind j => match kind with
    | 0 => if bitAt o 144 && wBits o % 4 != 0 then [] else valueLines o wl (if isGathK o then 0 else blockOf o j) j
    | 1 => (List.range 128).map (fun r => (m % 256 + r) % 256)
    | _ => [sl + fld o 33 18 + 2 * j, sl + fld o 33 18 + 2 * j + 1]
  [0, 1, 2].flatMap (fun kind => (List.range (passes o * nLines o kind)).flatMap (fun i =>
    (lines kind (i % nLines o kind)).flatMap (portUseAt ((opStamp o + lineCycle o kind i : Nat) - (opLead o : Int)))))

/-- LCC values at which the drains of an op are due, with their parts (R98, R102, R105, R107). -/
def Cluster.drainDues (v : Cluster) (o : MacroOp) : List (Nat × Nat) :=
  if opOpc o = 0x14 then [(opStamp o + v.floor 0 + (v.floor 1 - 32), 0)]
  else if isMma (opOpc o) then (v.opDrains o (opStamp o) false).filterMap (fun d => d.2.map (fun x => (x.1, x.2.2.1)))
  else []

/-- Cycles of group 0 of an op's drains, behind the drain that the path has taken last; `free` is the cycle from which the
path is free (R99). -/
def Cluster.drainCycles (v : Cluster) (o : MacroOp) (free : Nat) : List (Nat × Nat) :=
  ((v.drainDues o).foldl (fun (p : Nat × List (Nat × Nat)) d =>
    let g := max d.1 p.1
    (g + 32, p.2 ++ [(g, d.2)])) (free, [])).2

/-- The cycle from which the drain path is free after an op's drains. -/
def Cluster.drainFree (v : Cluster) (o : MacroOp) (free : Nat) : Nat :=
  match (v.drainCycles o free).getLast? with
  | some p => p.1 + 32
  | none => free

/-- Drain writes of an op of array a to scratchpad (R98, R224). -/
def Cluster.drainUses (v : Cluster) (a : Nat) (o : MacroOp) (free : Nat) : List Nat :=
  if drains o && bitAt o 83 then
    let n := a / 4
    let pieces := groupPieces (bitAt o 117) (v.drainBits n o) (v.presW a)
    let ls := v.lskim n o
    (v.drainCycles o free).flatMap (fun d =>
      let base := v.hndLine (fld o 82 71) (fld o 70 51) + 16384 * d.2
      (List.range 32).flatMap (fun i =>
        let here := (pieces i (List.replicate 128 0)).flatMap (fun p => linesOf (base + p.1) p.2.length)
        here.eraseDups.flatMap (portUseAt ((d.1 + i + 1 + ls : Nat) : Int))))
  else []

/-- Uses of descriptor d over iterations, each at a cycle. -/
def Cluster.runUses (v : Cluster) (d : Desc) (e : Nat) (its : List (Nat × Nat)) : List Nat :=
  if d.space = 3 then its.flatMap (fun x => (v.runLines d e x.1).flatMap (portUseAt (x.2 : Int))) else []

/-- Cycles, from the start, in which a vector op writes the runs of its output (R182, R194). -/
def Cluster.vecWrites (v : Cluster) (n : Nat) (o : MacroOp) : List (Nat × Nat) :=
  let k := (v.desc n o 3).iters (if opOpc o = 0x30 then (v.frond n (fld o 191 187)).width else 128)
  let each := fun (f : Nat → Nat) => (List.range k).map (fun it => (it, f it))
  match opOpc o with
  | 0x30 => each (fun it => (v.vrunTimes (v.frond n (fld o 191 187)) 0 (v.vecIters n o) it).2.2)
  | 0x31 => each (fun it => v.vX + it + 1)
  | 0x32 => each (fun it => v.vredLen n o - k + it)
  | 0x36 => each (fun it => v.cvtLat n o + it)
  | _ => []

/-- Uses of a vector op at its stamp (R176, R194). -/
def Cluster.vecUses (v : Cluster) (n : Nat) (o : MacroOp) : List Nat :=
  let e := if opOpc o = 0x30 then (v.frond n (fld o 191 187)).width else 128
  let reads := (List.range (v.vecIters n o)).flatMap (fun it =>
    (v.vecRuns n o it).flatMap (fun r => v.runUses (v.desc n o r.1) r.2.1 [(r.2.2, opStamp o + v.vecReadAt n o it)]))
  reads ++ v.runUses (v.desc n o 3) e ((v.vecWrites n o).map (fun x => (x.1, opStamp o + x.2)))

/-- Uses of a tile-mover op at its stamp (R205, R207). -/
def Cluster.tileUses (v : Cluster) (o : MacroOp) : List Nat :=
  let d := if opOpc o = 0x22 then 2 else 0
  if opOpc o = 0x21 || opOpc o = 0x22 then
    (List.range (fld o 179 172)).flatMap (fun i =>
      (linesOf (v.rowAddr o i) (moveB o)).flatMap (portUseAt ((opStamp o + i + d : Nat) : Int)))
  else []

/-- Static port uses of an op of queue q, at its stamp (R283); `free` is where its array's drain path is free. -/
def Cluster.opUses (v : Cluster) (q : Nat) (o : MacroOp) (free : Nat) : List Nat :=
  if 48 ≤ q then []
  else if q % 6 = 4 then v.vecUses (q / 6) o
  else if q % 6 = 5 then v.tileUses o
  else (if isMma (opOpc o) then v.feederUses o else []) ++ v.drainUses (q / 6 * 4 + q % 6) o free

end Sys2Proof.Machine
end

