-- ==== Sys2Proof/Machine/VerExp.lean ====
section
/-! DEFINITION. The verifier's expansion of a lining: the ops that each queue receives, for every choice of
alternatives and variants (R265, R375). A region belongs to a lining when a walk of the lining reaches a SEL of it or
a branch of the control list names it; the ops of a region are its context's ops stamped from its start to before its
join (log entry 53). Log entries of its readings and choices: 26 DEDUCED, 53 DEDUCED. -/

namespace Sys2Proof.Machine

/-- A branch or variant region of the segment table (R139, R374). -/
structure Region where
  tab   : Nat
  var   : Bool
  ctx   : Nat
  alts  : Nat
  start : Nat
  join  : Nat
  ent   : List Byte
  deriving DecidableEq, Repr

/-- A region from its entry. -/
def region (tab : Nat) (e : List Byte) : Region := ⟨tab, segVar e, segCtx e, segAlts e, segStart e, segJoin e, e⟩

/-- What a choice is made for: a branch region, or a context's variant (R375). -/
def Region.key (r : Region) : Nat := if r.var then 4096 + r.ctx else r.tab

/-- Choices of alternatives, by key. -/
abbrev Choice := List (Nat × Nat)

/-- The alternative of a key. -/
def choiceOf (a : Choice) (k : Nat) : Nat := ((a.find? (fun p => p.1 == k)).map (fun p => p.2)).getD 0

/-- All choices over keys with numbers of alternatives; the first takes alternative 0 everywhere. -/
def choices : List (Nat × Nat) → List Choice
  | [] => [[]]
  | (k, n) :: ks => (choices ks).flatMap (fun a => (List.range (max 1 n)).map (fun i => (k, i) :: a))

/-- A walk under expansion: the core's loops and index, the ops written so far, newest first, and how many more may be. -/
structure WalkRun where
  core : Core
  left : Nat
  ops  : List (Nat × MacroOp)
  done : Bool
  spent : Bool
  deriving DecidableEq, Repr

/-- Most ops of one expansion (R404). -/
def maxOps : Nat := 16777216

/-- What an ISSUE entry writes, whatever the queue's fill (R262). -/
def Cluster.expIssue (v : Cluster) (n e : Nat) (w : WalkRun) : WalkRun :=
  let x := w.core
  let t : BitVec 256 := BitVec.ofNat 256 (v.imemAt n (x.tmpl + 32 * (e / 2 ^ 13 % 2048)) 32)
  let op := x.patch t (v.deltaEntry n (e / 32 % 256))
  if w.left = 0 then { w with spent := true, done := true }
  else { w with core := x.walkNext, left := w.left - 1, ops := (qOfSel n (e / 2 ^ 24 % 16), op) :: w.ops }

/-- What LOOP and ENDL entries do (R261). -/
def Core.expLoop (x : Core) (e : Nat) : Core :=
  let k := e / 2 ^ 26 % 4
  let l := vat x.loops k Loop.reset
  if e / 2 ^ 28 = 1 then { x.walkNext with loops := vset x.loops k ⟨true, 0, e % 65536 + 1, x.widx + 1⟩ }
  else if l.idx + 1 < l.cnt then { x with loops := vset x.loops k { l with idx := l.idx + 1 }, widx := l.at_ }
  else { x.walkNext with loops := vset x.loops k Loop.reset }

/-- Where a SEL continues under a choice (R274, R375). -/
def Cluster.expSel (v : Cluster) (b e : Nat) (a : Choice) : Nat :=
  match v.segEnt b (e / 2 ^ 16 % 4096) with
  | some s => e % 4096 + choiceOf a (region (e / 2 ^ 16 % 4096) s).key
  | none => e % 4096

/-- One walk entry of core n under expansion. -/
def Cluster.expStep (v : Cluster) (b n : Nat) (a : Choice) (w : WalkRun) : WalkRun :=
  let e := v.imemAt n (w.core.walk + 4 * w.core.widx) 4
  match e / 2 ^ 28 with
  | 0 => v.expIssue n e w
  | 1 => { w with core := w.core.expLoop e }
  | 2 => { w with core := w.core.expLoop e }
  | 3 => { w with core := w.core.walkNext }
  | 4 => { w with core := w.core.walkTo (v.expSel b e a) }
  | 5 => { w with core := w.core.walkTo (e % 4096) }
  | 6 => { w with core := w.core.walkNext }
  | _ => { w with done := true }

/-- Walk on to the END. -/
def Cluster.expGo (v : Cluster) (b n : Nat) (a : Choice) : Nat → WalkRun → WalkRun
  | 0, w => w
  | fuel + 1, w => if w.done then w else v.expGo b n a fuel (v.expStep b n a w)

/-- Four loops of at most 65,536 rounds around at most 4,096 entries. -/
def walkFuel : Nat := 2 ^ 80

/-- Expand the walk of a core from where it stands; `left` is how many ops it may write. -/
def Cluster.expCore (v : Cluster) (b n : Nat) (a : Choice) (x : Core) (left : Nat) : WalkRun :=
  v.expGo b n a walkFuel ⟨x, left, [], false, false⟩

/-- The control cores that the image uses. -/
def Cluster.usedCores (v : Cluster) (b : Nat) : List Nat := (List.range 8).filter (fun n => v.hMode b n != 0)

/-- An expansion: the choice, and the ops of each queue in order. -/
structure Scn where
  pick : Choice
  qs   : List (List MacroOp)
  deriving DecidableEq, Repr

/-- Ops of a queue. -/
def Scn.on (s : Scn) (q : Nat) : List MacroOp := s.qs.getD q []
/-- All ops, with their queues. -/
def Scn.all (s : Scn) : List (Nat × MacroOp) := s.qs.zipIdx.flatMap (fun p => p.1.map (fun o => (p.2, o)))

/-- The ops of each queue from the ops that the cores write. -/
def byQueue (ops : List (Nat × MacroOp)) : List (List MacroOp) :=
  (List.range 52).map (fun q => (ops.filter (fun p => p.1 == q)).map (fun p => p.2))

/-- The ops that cores write, each from a start of its own; none when there are too many (R404). -/
def Cluster.expAll (v : Cluster) (b : Nat) (a : Choice) (start : Nat → Core) : List Nat → Nat → Option (List (Nat × MacroOp))
  | [], _ => some []
  | n :: ns, left =>
    let w := v.expCore b n a (start n) left
    if w.spent then none
    else match v.expAll b a start ns w.left with
      | some ops => some (w.ops.reverse ++ ops)
      | none => none

/-- Core n of the cluster under check at the start of lining d. -/
def Cluster.expStart (v : Cluster) (d : List Byte) (n : Nat) : Core := { v.core n with widx := lnWalk d n }

/-- The expansion of a lining under one choice. -/
def Cluster.expand (v : Cluster) (b : Nat) (d : List Byte) (a : Choice) : Option Scn :=
  (v.expAll b a (v.expStart d) (v.usedCores b) maxOps).map (fun ops => ⟨a, byQueue ops⟩)

/-- Control list of a lining, as it lies in the image (R247, R373). -/
def Cluster.ctlList (v : Cluster) (b : Nat) (d : List Byte) : List MacroOp :=
  ctlOps (v.spdBytes (b * 64 + lnClOff d) (32 * lnClN d)) (lnClN d)

/-- Segment-table entries that the SELs of core n name for a lining. -/
def Cluster.selTabs (v : Cluster) (b : Nat) (d : List Byte) (n : Nat) : List Nat :=
  match v.iHead b n with
  | none => []
  | some h =>
    match v.walkReach b n h (v.hMode b n == 1) (lnWalk d n) with
    | none => []
    | some seen => seen.filterMap (fun p =>
        let e := v.walkWord n h p.1
        if e / 2 ^ 28 = 4 then some (e / 2 ^ 16 % 4096) else none)

/-- Segment-table entries that the branches of a control list name. -/
def brTabs (ctl : List MacroOp) : List Nat :=
  (ctl.filter (fun o => opOpc o == 0x51 && !bitAt o 191)).map (fun o => fld o 120 109)

/-- Regions of a lining, in table order. -/
def Cluster.regions (v : Cluster) (b : Nat) (d : List Byte) : List Region :=
  let tabs := ((v.usedCores b).flatMap (v.selTabs b d) ++ brTabs (v.ctlList b d)).eraseDups
  (sortOn (fun t => t) tabs).filterMap (fun t => (v.segEnt b t).map (region t))

/-- Keys of a lining's regions, with their numbers of alternatives. -/
def keysOf (rs : List Region) : List (Nat × Nat) :=
  (rs.map Region.key).eraseDups.map (fun k => (k, maxOf ((rs.filter (fun r => r.key == k)).map (fun r => r.alts))))

/-- A lining under check: its descriptor, control list, regions, and expansions, the first with every alternative 0. -/
structure LinCase where
  lid  : Nat
  desc : List Byte
  ctl  : List MacroOp
  rs   : List Region
  scns : List Scn
  deriving DecidableEq, Repr

/-- The items of a list, if every one is there. -/
def allSome {α : Type} : List (Option α) → Option (List α)
  | [] => some []
  | none :: _ => none
  | some x :: xs => (allSome xs).map (fun l => x :: l)

/-- Expand a lining; none when an expansion is too large (R404). -/
def Cluster.linCase (v : Cluster) (b : Nat) (d : List Byte) : Option LinCase :=
  let rs := v.regions b d
  (allSome ((choices (keysOf rs)).map (v.expand b d))).map (fun ss => ⟨leAt d 0 2, d, v.ctlList b d, rs, ss⟩)

/-- The expansion with every alternative 0. -/
def LinCase.base (l : LinCase) : Scn := l.scns.headD ⟨[], []⟩

/-- SEND as the ops of a lining's expansion give it, in any variant or alternative (R220, R265, R373). -/
def LinCase.ends (l : LinCase) : Nat :=
  maxOf (l.scns.flatMap (fun s => s.all.map (fun p => opStamp p.2 + opDur p.2)))

/-- The tiles of core n after the TCFGs and TRELs of a list, from none configured (R204). -/
def Cluster.traced (v : Cluster) (n : Nat) (tm : List MacroOp) : Cluster :=
  let v := v.each (List.range 24) (fun v t => v.tileRelease n t)
  v.each (sortOn opStamp tm) (fun v o =>
    if opOpc o = 0x20 then v.each (maskTiles o) (fun v t => v.tileGeometry n t (fld o 167 161) (fld o 160 157))
    else if opOpc o = 0x24 then v.each (maskTiles o) (fun v t => v.tileRelease n t)
    else v)

/-- The static trace of core n at LCC t: changes act at STAMP + 1 (R204). -/
def Cluster.traceAt (v : Cluster) (s : Scn) (n t : Nat) : Cluster :=
  v.traced n ((s.on (qTile n)).filter (fun o => decide (opStamp o < t)))

/-- The cluster against which an op of queue q is checked: the static trace of its core at its stamp. -/
def Cluster.atOp (v : Cluster) (s : Scn) (q : Nat) (o : MacroOp) : Cluster := if 48 ≤ q then v else v.traceAt s (q / 6) (opStamp o)

end Sys2Proof.Machine
end

