-- ==== Sys2Proof/Machine/VerLin.lean ====
section
/-! DEFINITION. Step 11 of R402: lining descriptors (R373), walk expansion (R265), every op and control op, and queue
op counts (R35, R53). Linings are taken in ascending LID; within one, the descriptor comes first, then the queues in
order, then the control list (log entry 54). Log entries of its readings and choices: 23 DEDUCED, 26 DEDUCED, 27
DEDUCED, 54 DEDUCED, 89 DEDUCED. -/

namespace Sys2Proof.Machine

/-- A rejection of step 11. -/
def linRej (code : Nat) (d : List Byte) (q i : Nat) : Rej := ⟨code, 11, leAt d 0 2 % 1024, q, i⟩

/-- Byte i of a descriptor; are bytes of it 0? -/
def lnByte (d : List Byte) (i : Nat) : Nat := leAt d i 1
def lnZero (d : List Byte) (off len : Nat) : Bool := leAt d off len == 0

/-- CTXLIST: slots 0 to NCTX - 1 are valid, distinct and owned by the image; the others are 0; bit 6 is reserved (R13). -/
def ctxListOk (ks : List Nat) (d : List Byte) : Bool :=
  let n := lnByte d 2
  decide (1 ≤ n) && decide (n ≤ 16) && (List.range 16).all (fun i =>
    let x := fun (j : Nat) => lnByte d (8 + j)
    if i < n then x i / 128 == 1 && ks.contains (x i % 64) && !(List.range i).any (fun j => x j % 64 == x i % 64)
    else x i / 128 == 0 && x i % 64 == 0)

/-- VARTAB: NVAR is 1 to 3, FIN lies in 1 to SEND for the variants declared and is 0 for the others; a slot without a
context declares no variant (log entry 27). Bytes 1 to 3 are reserved (R13). -/
def varTabOk (d : List Byte) : Bool :=
  (List.range 16).all (fun i =>
    let n := lnNvar d i
    if i < lnByte d 2 then
      decide (1 ≤ n) && decide (n ≤ 3) && (List.range 3).all (fun v =>
        if v < n then decide (1 ≤ lnFin d i v) && decide (lnFin d i v ≤ lnSend d) else lnFin d i v == 0)
    else n == 0 && lnZero d (0x144 + 16 * i) 12)

/-- DMOWN: an unused channel has no ops; a core that writes one is present. -/
def Cluster.dmOwnOk (v : Cluster) (d : List Byte) (k : Nat) : Bool :=
  let w := lnByte d (0x18 + k)
  if w = 0xFF then lnCount d (48 + k) == 0 else decide (w < 8) && !v.flt.fenC.getLsbD w

/-- Is a descriptor in order by itself (R373)? -/
def Cluster.descrOk (v : Cluster) (b : Nat) (d : List Byte) : Bool :=
  decide (leAt d 0 2 < 1024) && (v.linings.filter (fun l => l.lid == leAt d 0 2)).length == 1
    && ctxListOk (v.iCtxs b) d && (List.range 4).all (v.dmOwnOk d) && decide (leAt d 0x118 2 < 4096)
    && (lnCtxs d).any (v.hndOf (lnSaveHnd d)) && varTabOk d

/-- Does a count stand on a fenced core or array (R35)? -/
def Cluster.countFenced (v : Cluster) (d : List Byte) (q : Nat) : Bool :=
  lnCount d q != 0 && decide (q < 48) && (v.flt.fenC.getLsbD (q / 6) || (match arrayOfQ q with
    | some a => v.flt.fenA.getLsbD a
    | none => false))

/-- Does a count stand on an array that the width manifest leaves unused (R53)? -/
def Cluster.countUnused (v : Cluster) (b : Nat) (d : List Byte) (q : Nat) : Bool :=
  match arrayOfQ q with
  | some a => lnCount d q != 0 && v.hWidth b a == 0
  | none => false

/-- The count of queue q against the shape and the width manifest. -/
def Cluster.countRej (v : Cluster) (b : Nat) (d : List Byte) (q : Nat) : Option Rej :=
  if v.countFenced d q then some (linRej rcShape d q 0)
  else if v.countUnused b d q then some (linRej rcEncoding d q 0)
  else none

/-- Does a walk of core n reach an ISSUE to channel ch (R261)? -/
def Cluster.issuesTo (v : Cluster) (b : Nat) (d : List Byte) (ch n : Nat) : Bool :=
  match v.iHead b n with
  | none => false
  | some h =>
    match v.walkReach b n h (v.hMode b n == 1) (lnWalk d n) with
    | none => false
    | some seen => seen.any (fun p =>
        let e := v.walkWord n h p.1
        e / 2 ^ 28 == 0 && e / 2 ^ 24 % 16 == 6 + ch)

/-- Do only the walks of a channel's core write to it (R17, R261)? -/
def Cluster.ownerOk (v : Cluster) (b : Nat) (d : List Byte) (q : Nat) : Bool :=
  decide (q < 48) || (v.usedCores b).all (fun n => lnByte d (0x18 + (q - 48)) == n || !v.issuesTo b d (q - 48) n)

/-- The op that check (channel, tag) of a DMARR names in an expansion, with its number on the channel (R246). -/
def arrNamed (s : Scn) (o : MacroOp) (p : Nat × Nat) : Option (Nat × MacroOp) :=
  let before := ((s.on (48 + p.1)).zipIdx.map (fun x => (x.2, x.1))).filter (fun x =>
    (opOpc x.2 == 0x40 || opOpc x.2 == 0x41) && fld x.2 89 82 == p.2 && decide (opStamp x.2 < opStamp o))
  let last := maxOf (before.map (fun x => opStamp x.2))
  (before.filter (fun x => opStamp x.2 == last)).getLast?

/-- Does every check of a DMARR name an op of its context (R246)? -/
def arrOk (s : Scn) (o : MacroOp) : Bool :=
  (arrChecks o).all (fun p => match arrNamed s o p with
    | some x => opCtx x.2 == opCtx o
    | none => false)

/-- Is an op of an expansion in order? -/
def Cluster.scnOpOk (v : Cluster) (ks : List Nat) (s : Scn) (q : Nat) (o : MacroOp) : Bool :=
  (v.atOp s q o).opOk ks q o && (opOpc o != 0x42 || arrOk s o)

/-- The first op of queue q that is out of order in an expansion. -/
def Cluster.opsRej (v : Cluster) (l : LinCase) (q : Nat) : Option Rej :=
  let n := (l.base.on q).length
  if lnCount l.desc q ≠ n then some (linRej rcEncoding l.desc q (min (lnCount l.desc q) n))
  else
    let bad := l.scns.filterMap (fun s => findIdxN (fun o => !v.scnOpOk (lnCtxs l.desc) s q o) (s.on q))
    bad.head?.map (fun i => linRej rcEncoding l.desc q (bad.foldl min i))

/-- The checks of queue q of a lining: its count, its writers, its ops. -/
def Cluster.queueRej (v : Cluster) (b : Nat) (l : LinCase) (q : Nat) : Option Rej :=
  firstRej [fun _ => v.countRej b l.desc q, fun _ => must (v.ownerOk b l.desc q) (linRej rcEncoding l.desc q 0),
    fun _ => v.opsRej l q]

/-- Is entry i of the baseline table in order for a lining that binds contexts ks (R366)? -/
def Cluster.screedOk (v : Cluster) (ks : List Nat) (i : Nat) : Bool :=
  let w := v.regAt (rSyn + 0x8000 + 8 * i)
  decide (i < 4096) && bitAt w 63 && ks.contains (fld w 62 57) && (v.vid (fld w 62 57) (fld w 55 40)).2.isSome

/-- The entry of a branch agrees with its SEGBR (R139, R249); one that marks a variant region is for step 12 (R374). -/
def Cluster.branchOk (v : Cluster) (b : Nat) (o : MacroOp) : Bool :=
  match v.segEnt b (fld o 120 109) with
  | none => false
  | some e => segVar e || segCtx e == opCtx o && segAlts e == fld o 190 189 + 1 && decide (1 ≤ fld o 190 189)
      && segStart e == opStamp o + v.floor 10 && segJoin e == fld o 152 121

/-- SEGBR (R249). -/
def Cluster.segbrOk (v : Cluster) (b : Nat) (o : MacroOp) : Bool :=
  fld o 108 0 == 0 && v.inHnd (fld o 188 177) (opCtx o) (4 * fld o 176 153 : Nat) (4 * fld o 176 153 + 4 : Nat) &&
    (if bitAt o 191 then fld o 190 189 == 0 && fld o 120 109 == 0 && decide (opStamp o + v.floor 10 < fld o 152 121)
     else v.branchOk b o)

/-- A control op that acts for the whole lining (R217, R218). -/
def wholeOp (o : MacroOp) : Bool := opCtx o == 0 && !opNul o

/-- A control op by its code (R248 to R251). -/
def Cluster.ctlFieldsOk (v : Cluster) (b : Nat) (ks : List Nat) (o : MacroOp) : Bool :=
  match opOpc o with
  | 0x50 => wholeOp o && fld o 126 0 == 0 && opStamp o == 0
  | 0x51 => ks.contains (opCtx o) && v.segbrOk b o
  | 0x52 => wholeOp o && fld o 181 0 == 0 && (v.iLive b (fld o 191 182)).isSome
  | 0x53 => wholeOp o && fld o 163 0 == 0 && (List.range (fld o 179 164 + 1)).all (fun i => v.screedOk ks (fld o 191 180 + i))
  | _ => false

/-- Is control op i of a list in order (R31, R247)? -/
def Cluster.ctlOpOk (v : Cluster) (b : Nat) (l : LinCase) (i : Nat) : Bool :=
  match l.ctl[i]? with
  | none => true
  | some o =>
    opDur o == 1 && !opPP o && decide (opStamp o < 0xFFFFFFFF) && ((i == 0) == (opOpc o == 0x50))
      && (l.ctl.take i).all (fun p => decide (opStamp p ≤ opStamp o)) && v.ctlFieldsOk b (lnCtxs l.desc) o

/-- Does the control list lie in the section of control lists, with a LAUNCH at its head (R247, R248)? -/
def Cluster.ctlPlace (v : Cluster) (b : Nat) (d : List Byte) : Bool :=
  match v.sectionOf b 0x08 with
  | none => false
  | some s => decide (1 ≤ lnClN d) && decide (s.off ≤ lnClOff d) && decide (lnClOff d + 32 * lnClN d ≤ s.off + s.len)

/-- Bytes that a point saves for core n, at its static trace (R383). -/
def Cluster.coreSaveSize (v : Cluster) (live : List Byte) (n : Nat) : Nat :=
  ((liveTiles live n).map (fun t => 32 + (if v.tileValid n t then v.tileRows n t * v.tileB n t else 0))).foldl (· + ·) 0
    + (if liveScalar live n && (v.core n).mode == 2 then 320 + 65536 else 0)

/-- Bytes of the save area of a point of an expansion (R383). -/
def Cluster.saveSize (v : Cluster) (b : Nat) (s : Scn) (o : MacroOp) : Nat :=
  match v.iLive b (fld o 191 182) with
  | none => 0
  | some live =>
    512 + ((List.range 8).map (fun n => lineUp ((v.traceAt s n (opStamp o)).coreSaveSize live n))).foldl (· + ·) 0
      + 8 * (liveSync live).length

/-- SAVEHND holds the save area of every point, and SEND is where the ops end (R373). -/
def Cluster.endsOk (v : Cluster) (b : Nat) (l : LinCase) : Bool :=
  let room := hndSize (v.regAt (rHnd (lnSaveHnd l.desc))) * 64
  lnSend l.desc == l.ends && l.scns.all (fun s => (l.ctl.filter (fun o => opOpc o == 0x52)).all (fun o =>
    decide (64 * lnSaveOff l.desc + v.saveSize b s o ≤ room)))

/-- The checks of an expanded lining. -/
def Cluster.caseRej (v : Cluster) (b i : Nat) (l : LinCase) : Option Rej :=
  firstRej [fun _ => (List.range 52).findSome? (v.queueRej b l),
    fun _ => must (v.ctlPlace b l.desc) (linRej rcEncoding l.desc 63 0),
    fun _ => (findIdxN (fun j => !v.ctlOpOk b l j) (List.range l.ctl.length)).map (linRej rcEncoding l.desc 63),
    fun _ => must (v.endsOk b l) (linRej rcEncoding l.desc 0 i)]

/-- The checks of the lining whose entry is number i of its section. -/
def Cluster.linRejOf (v : Cluster) (b i : Nat) (d : List Byte) (l : Option LinCase) : Option Rej :=
  firstRej [fun _ => must (v.descrOk b d) (linRej rcEncoding d 0 i),
    fun _ => match l with
      | none => some (linRej rcLimit d 0 i)
      | some l => v.caseRej b i l]

/-- The linings of the image in ascending LID, with their place in the section and their expansions. -/
def Cluster.linCases (v : Cluster) (b : Nat) : List (Nat × List Byte × Option LinCase) :=
  (sortOn (fun p => leAt p.2 0 2) ((v.iLins b).zipIdx.map (fun p => (p.2, p.1)))).map (fun p => (p.1, p.2, v.linCase b p.2))

/-- Is the segment table within 4,096 entries (R249)? -/
def Cluster.segTabOk (v : Cluster) (b : Nat) : Bool :=
  match v.sectionOf b 0x09 with
  | none => true
  | some d => decide (d.count ≤ 4096) && decide (d.len ≤ 4096 * segSize)

/-- Step 11 (R402, R404). -/
def Cluster.step11 (v : Cluster) (b : Nat) (ls : List (Nat × List Byte × Option LinCase)) : Option Rej :=
  firstRej [fun _ => must (decide (ls.length ≤ 1024)) (rej rcLimit 11 0), fun _ => must (v.segTabOk b) (rej rcEncoding 11 0),
    fun _ => ls.findSome? (fun p => v.linRejOf b p.1 p.2.1 p.2.2)]

end Sys2Proof.Machine
end

