-- ==== Sys2Proof/Machine/VerSeg.lean ====
section
/-! DEFINITION. Steps 12 and 13 of R402: branch, exit and variant regions (R35, R142 to R144, R204, R218, R374), and
pre-emption points with their resumed walks (R220, R276). Log entries of its readings and choices: 23 DEDUCED, 26
DEDUCED, 53 DEDUCED, 72 DEDUCED. -/

namespace Sys2Proof.Machine

/-- A rejection of a step that names a lining. -/
def caseRejAt (code step : Nat) (l : LinCase) (q i : Nat) : Rej := ⟨code, step, l.lid % 1024, q, i⟩

/-- STAMP and DUR of the ops of a queue. -/
def slotsOf (s : Scn) (q : Nat) : List (Nat × Nat) := (s.on q).map (fun o => (opStamp o, opDur o))

/-- The first place at which two lists differ. -/
def firstDiff {α : Type} [DecidableEq α] : List α → List α → Nat → Option Nat
  | [], [], _ => none
  | x :: xs, y :: ys, i => if x = y then firstDiff xs ys (i + 1) else some i
  | _, _, i => some i

/-- Queues keep their op counts, and every op its STAMP and DUR, under every choice (R35, R142, R374). -/
def LinCase.slotRej (l : LinCase) (s : Scn) : Option Rej :=
  (List.range 52).findSome? (fun q => (firstDiff (slotsOf l.base q) (slotsOf s q) 0).map (caseRejAt rcVariant 12 l q))

/-- The ops of a region on queue q under an expansion, with their numbers: as many of its context's ops, from its first
on, as its entry gives the alternative (R139, R249). -/
def Region.opsOn (r : Region) (s : Scn) (q : Nat) : List (Nat × MacroOp) :=
  (((s.on q).zipIdx.map (fun x => (x.2, x.1))).filter (fun x => decide (segFirst r.ent q ≤ x.1) && opCtx x.2 == r.ctx)).take
    (segOps r.ent (choiceOf s.pick r.key) q)

/-- May op number i of queue q differ under a choice: does it lie in a region whose alternative differs (R142, R374)? -/
def LinCase.mayDiffer (l : LinCase) (s : Scn) (q i : Nat) : Bool :=
  l.rs.any (fun r => choiceOf s.pick r.key != 0 && (r.opsOn l.base q).any (fun x => x.1 == i) && (r.opsOn s q).any (fun x => x.1 == i))

/-- Ops differ from the first expansion only inside regions that differ. -/
def LinCase.diffRej (l : LinCase) (s : Scn) : Option Rej :=
  (List.range 52).findSome? (fun q =>
    (findIdxN (fun p => p.1.1 != p.1.2 && !l.mayDiffer s q p.2) ((l.base.on q).zip (s.on q)).zipIdx).map (caseRejAt rcVariant 12 l q))

/-- Stamps of the pre-emption points of a lining (R220). -/
def LinCase.points (l : LinCase) : List Nat := (l.ctl.filter (fun o => opOpc o == 0x52)).map opStamp

/-- Do two regions of one context overlap (R142, R374)? -/
def Region.clash (r s : Region) : Bool :=
  r.tab != s.tab && r.ctx == s.ctx && decide (r.start < s.join) && decide (s.start < r.join)

/-- Alternatives of a variant region: as many as its context declares variants (R374). -/
def LinCase.variantOk (l : LinCase) (r : Region) : Bool :=
  match findIdxN (fun k => k == r.ctx) (lnCtxs l.desc) with
  | some i => !r.var || r.alts == lnNvar l.desc i
  | none => false

/-- Ops of a queue in a region that are padding under an expansion: the last ones of it (R143). -/
def Region.padOps (r : Region) (s : Scn) (q : Nat) : List (Nat × MacroOp) :=
  let ops := r.opsOn s q
  ops.drop (ops.length - segPadCount r.ent (choiceOf s.pick r.key) q)

/-- The ops of a region are there, as many in every alternative, and start and end inside it; its padding counts stay
within them, and cover no TCFG or TREL (R142, R143, R218). -/
def Region.opsOk (r : Region) (s : Scn) : Bool :=
  let a := choiceOf s.pick r.key
  (List.range 52).all (fun q =>
    let ops := r.opsOn s q
    ops.length == segOps r.ent a q && segOps r.ent a q == segOps r.ent 0 q && decide (segPadCount r.ent a q ≤ segOps r.ent a q)
      && ops.all (fun x => decide (r.start ≤ opStamp x.2) && decide (opStamp x.2 + opDur x.2 ≤ r.join))
      && (r.padOps s q).all (fun x => opOpc x.2 != 0x20 && opOpc x.2 != 0x24))

/-- Every alternative of a branch region leaves every tile in the same configuration at the join (R204): an expansion is
compared with the one that differs from it in this region alone, where it takes alternative 0. -/
def Cluster.joinOk (v : Cluster) (l : LinCase) (r : Region) (s : Scn) : Bool :=
  r.var || (match l.scns.find? (fun x => x.pick == s.pick.map (fun p => if p.1 == r.key then (p.1, 0) else p)) with
    | none => true
    | some b => (List.range 8).all (fun n =>
      let x := v.traceAt b n r.join
      let y := v.traceAt s n r.join
      (List.range 24).all (fun t => x.tileCfg n t == y.tileCfg n t)))

/-- A variant region has no SEGBR, and a branch region has at most one (R142, R374). -/
def LinCase.branchedOk (l : LinCase) (r : Region) : Bool := decide ((brTabs l.ctl).count r.tab ≤ if r.var then 0 else 1)

/-- Is a region of a lining in order? -/
def Cluster.regionOkIn (v : Cluster) (l : LinCase) (r : Region) : Bool :=
  l.variantOk r && l.branchedOk r && decide (r.start ≤ r.join) && !l.rs.any r.clash
    && l.points.all (fun t => decide (t < r.start) || decide (r.join ≤ t))
    && l.scns.all (fun s => r.opsOk s && v.joinOk l r s)

/-- Exit ranges contain no pre-emption point (R144). -/
def Cluster.exitOk (v : Cluster) (l : LinCase) (o : MacroOp) : Bool :=
  !(opOpc o == 0x51 && bitAt o 191) ||
    l.points.all (fun t => decide (t < opStamp o + v.floor 10) || decide (fld o 152 121 ≤ t))

/-- Step 12 for a lining. -/
def Cluster.step12Of (v : Cluster) (l : LinCase) : Option Rej :=
  firstRej [fun _ => l.scns.findSome? l.slotRej, fun _ => l.scns.findSome? l.diffRej,
    fun _ => (l.rs.find? (fun r => !v.regionOkIn l r)).map (fun r => caseRejAt rcVariant 12 l 0 r.tab),
    fun _ => (findIdxN (fun o => !v.exitOk l o) l.ctl).map (caseRejAt rcVariant 12 l 63)]

/-- Step 12 (R402). -/
def Cluster.step12 (v : Cluster) (ls : List LinCase) : Option Rej := ls.findSome? v.step12Of

/-- The place in a queue of the last op stamped before t, if ops stamped at or after t follow in the queue (R220). -/
def pointOp (ops : List MacroOp) (t : Nat) : Option Nat :=
  if ops.any (fun o => decide (t ≤ opStamp o)) then
    ((ops.zipIdx.filter (fun p => decide (opStamp p.1 < t))).map (fun p => p.2)).getLast?
  else none

/-- PP stands on exactly the ops that a point follows, and those end by the point (R220). -/
def ppOk (ts : List Nat) (ops : List MacroOp) (i : Nat) : Bool :=
  match ops[i]? with
  | none => true
  | some o =>
    let mine := ts.filter (fun t => pointOp ops t == some i)
    opPP o == !mine.isEmpty && mine.all (fun t => decide (opStamp o + opDur o ≤ t))

/-- PP bits of an expansion. -/
def LinCase.ppRej (l : LinCase) (s : Scn) : Option Rej :=
  (List.range 52).findSome? (fun q =>
    (findIdxN (fun i => !ppOk l.points (s.on q) i) (List.range (s.on q).length)).map (caseRejAt rcPreempt 13 l q))

/-- Points, LCC 0 and the static end lie at most 8,192 cycles apart (R220). -/
def LinCase.spaced (l : LinCase) : Bool :=
  let ts := l.points ++ [l.ends]
  ((0 :: ts).zip ts).all (fun p => decide (p.2 ≤ p.1 + 8192))

/-- The loops open at walk index i of core n, innermost first (R276). -/
def Cluster.openLoops (v : Cluster) (n i : Nat) : List Nat :=
  (List.range i).foldl (fun (st : List Nat) j =>
    let e := v.imemAt n ((v.core n).walk + 4 * j) 4
    let k := e / 2 ^ 26 % 4
    if e / 2 ^ 28 = 1 then k :: st else if e / 2 ^ 28 = 2 then st.filter (· != k) else st) []

/-- Does a resumed walk of core n keep R263 from its index? -/
def Cluster.resumeFlows (v : Cluster) (b n i : Nat) : Bool :=
  match v.iHead b n with
  | none => false
  | some h => decide (i < h.nwalk) && (v.walkFlow b n h (v.hMode b n == 1) h.nwalk 0 [(i, v.openLoops n i)]).isSome

/-- Core n at a point's resume index (R276). -/
def Cluster.expResume (v : Cluster) (live : List Byte) (n : Nat) : Core :=
  { v.core n with widx := liveWalk live n, loops := v.loopsAt n live (liveWalk live n) }

/-- The resumed walks of a point yield exactly the ops stamped at or after it (R276). -/
def Cluster.resumeOk (v : Cluster) (b t : Nat) (live : List Byte) (s : Scn) : Bool :=
  (v.usedCores b).all (fun n => v.resumeFlows b n (liveWalk live n)) &&
    (match v.expAll b s.pick (v.expResume live) (v.usedCores b) maxOps with
     | none => false
     | some ops => byQueue ops == s.qs.map (fun q => q.filter (fun o => decide (t ≤ opStamp o))))

/-- Is control op o, if it is a PPMARK, one from which the lining resumes as it should? -/
def Cluster.pointOk (v : Cluster) (b : Nat) (l : LinCase) (o : MacroOp) : Bool :=
  opOpc o != 0x52 || (match v.iLive b (fld o 191 182) with
    | none => false
    | some live => l.scns.all (v.resumeOk b (opStamp o) live))

/-- Step 13 for a lining. -/
def Cluster.step13Of (v : Cluster) (b : Nat) (l : LinCase) : Option Rej :=
  firstRej [fun _ => l.scns.findSome? l.ppRej, fun _ => must l.spaced (caseRejAt rcPreempt 13 l 63 0),
    fun _ => (findIdxN (fun o => !v.pointOk b l o) l.ctl).map (caseRejAt rcPreempt 13 l 63)]

/-- Step 13 (R402). -/
def Cluster.step13 (v : Cluster) (b : Nat) (ls : List LinCase) : Option Rej := ls.findSome? (v.step13Of b)

end Sys2Proof.Machine
end

