-- ==== Sys2Proof/Machine/VerRun.lean ====
section
/-! DEFINITION. Steps 14 and 15 of R402: the bank-use map, hole banks and the open-slot quota (R142, R283, R300), and
the token windows with the image's peak (R57 to R61, R145). Ops are taken to start as R33 starts them, with no hold
(log entry 55). Log entries of its readings and choices: 23 DEDUCED, 25 DEDUCED, 26 DEDUCED, 55 DEDUCED. -/

namespace Sys2Proof.Machine

/-- An op of an expansion with the LCC value at which it starts; if it is a padding op, the last LCC value at which reads
ahead of its start are still made (R104, R136). -/
structure Slot where
  op  : MacroOp
  t0  : Nat
  pad : Option Nat
  deriving DecidableEq, Repr

/-- LCC values at which the ops of a queue start (R33). -/
def startsOf : List MacroOp → Nat → List Nat
  | [], _ => []
  | o :: os, e => max (opStamp o) e :: startsOf os (max (opStamp o) e + opDur o)

/-- Is op number i of queue q padding under an expansion; the last LCC value at which that is not known? A variant is known from the start,
a branch F_R cycles after its read (R140, R143, R375). -/
def Cluster.padOf (v : Cluster) (l : LinCase) (s : Scn) (q i : Nat) : Option Nat :=
  (l.rs.find? (fun r => (r.padOps s q).any (fun x => x.1 == i))).map (fun r => if r.var then 0 else r.start - v.floor 10 + v.floor 2)

/-- The ops of a queue with their starts. -/
def Cluster.slots (v : Cluster) (l : LinCase) (s : Scn) (q : Nat) : List Slot :=
  ((s.on q).zip (startsOf (s.on q) 0)).zipIdx.map (fun p => ⟨p.1.1, p.1.2, v.padOf l s q p.2⟩)

/-- An op as if stamped where it starts. -/
def Slot.placed (x : Slot) : MacroOp := setFld x.op 223 192 x.t0

/-- Static uses of a slot. -/
def Cluster.slotUses (v : Cluster) (q : Nat) (x : Slot) (free : Nat) : List Nat :=
  match x.pad with
  | none => v.opUses q x.placed free
  | some t => if q < 48 && q % 6 < 4 && isMma (opOpc x.op) then (v.feederUses x.placed).filter (fun u => decide (u / 256 ≤ t)) else []

/-- Static uses of each slot of a queue; the slots share the drain path of an array (R99). -/
def Cluster.queueUses (v : Cluster) (q : Nat) : List Slot → Nat → List (List Nat)
  | [], _ => []
  | x :: xs, free =>
    let next := if q < 48 && q % 6 < 4 then v.drainFree x.placed free else free
    v.slotUses q x free :: v.queueUses q xs next

/-- Selector read of a control op (R140). -/
def Cluster.ctlUses (v : Cluster) (o : MacroOp) : List Nat :=
  if opOpc o = 0x51 then portUseAt (opStamp o : Int) ((v.hndLine (fld o 188 177) 0 + 4 * fld o 176 153) / 64) else []

/-- The static uses of a lining at LCC 0 to SEND - 1 under every choice: queue, op number, and uses; the control list is
queue 63 (R142, R283). -/
def Cluster.itemUses (v : Cluster) (l : LinCase) : List (Nat × Nat × List Nat) :=
  let within := fun (us : List Nat) => us.filter (fun u => decide (u / 256 < lnSend l.desc))
  (List.range 52).flatMap (fun q =>
      let per := l.scns.map (fun s => v.queueUses q (v.slots l s q) 0)
      (List.range (l.base.on q).length).map (fun i => (q, i, within (per.flatMap (fun us => us.getD i [])))))
    ++ l.ctl.zipIdx.map (fun p => (63, p.2, within (v.ctlUses p.1)))

/-- Merge two rising lists, each value once. -/
def mergeRise : Nat → List Nat → List Nat → List Nat
  | 0, xs, ys => xs ++ ys
  | _ + 1, [], ys => ys
  | _ + 1, xs, [] => xs
  | fuel + 1, x :: xs, y :: ys =>
    if x < y then x :: mergeRise fuel xs (y :: ys)
    else if y < x then y :: mergeRise fuel (x :: xs) ys
    else x :: mergeRise fuel xs ys

/-- Merge lists in pairs. -/
def mergePairs : List (List Nat) → List (List Nat)
  | a :: b :: rest => mergeRise (a.length + b.length) a b :: mergePairs rest
  | l => l

/-- Merge lists until one is left. -/
def mergeAll : Nat → List (List Nat) → List Nat
  | 0, ls => ls.headD []
  | fuel + 1, ls => match ls with
    | [] => []
    | [l] => l
    | ls => mergeAll fuel (mergePairs ls)

/-- The values of a list in rising order, each once. -/
def riseOf (l : List Nat) : List Nat := mergeAll l.length (l.map (fun x => [x]))

/-- The bank-use map of a lining: each bank once a cycle, as LCC * 256 + logical bank (R283). -/
def bankMap (items : List (Nat × Nat × List Nat)) : List Nat := riseOf (items.flatMap (fun x => x.2.2))

/-- Does a use lie in a run of 64 LCC values in which its bank has more than 60 uses (R27, R283)? -/
def crowded (map : List Nat) (u : Nat) : Bool :=
  let ts := (map.filter (fun x => x % 256 == u % 256)).map (fun x => x / 256)
  (ts.zip (ts.drop 60)).any (fun p => decide (p.2 < p.1 + 64) && decide (p.2 < u / 256 + 64) && decide (u / 256 < p.1 + 64))

/-- The first item, in queue and op order, with a use that meets a condition. -/
def usedBy (items : List (Nat × Nat × List Nat)) (bad : Nat → Bool) : Option (Nat × Nat) :=
  (items.find? (fun x => x.2.2.any bad)).map (fun x => (x.1, x.2.1))

/-- Step 14 for a lining: no use of a hole bank, and the open-slot quota. -/
def Cluster.step14Of (v : Cluster) (b : Nat) (l : LinCase) (items : List (Nat × Nat × List Nat)) (map : List Nat) : Option Rej :=
  firstRej [fun _ => (usedBy items (fun u => (v.hHoles b).testBit (u % 256))).map (fun p => caseRejAt rcShape 14 l p.1 p.2),
    fun _ => (usedBy items (crowded map)).map (fun p => caseRejAt rcSlots 14 l p.1 p.2)]

/-- Padding rate of an op of queue q (R145). -/
def padRate (q : Nat) : Nat := if 48 ≤ q then 1 else if q % 6 = 5 then 1 else 2

/-- Charge of a slot of queue q, a cycle (R59, R145). -/
def Cluster.slotRate (v : Cluster) (q : Nat) (x : Slot) : Nat :=
  match x.pad with
  | some _ => padRate q
  | none => tokRate x.op + (match arrayOfQ q with
    | some a => if v.witness a && opOpc x.op != 0x16 then 1 else 0
    | none => 0)

/-- The highest rate of each op of queue q among the choices (R142). -/
def Cluster.ratesOf (v : Cluster) (l : LinCase) (q : Nat) : List Nat :=
  let per := l.scns.map (fun s => (v.slots l s q).map (v.slotRate q))
  (List.range (l.base.on q).length).map (fun i => maxOf (per.map (fun rs => rs.getD i 0)))

/-- Charged spans of queue q: first LCC value, end, rate; the wait after an op is charged at its rate (R59). -/
def Cluster.spansOf (v : Cluster) (l : LinCase) (q : Nat) : List (Nat × Nat × Nat) :=
  let ops := l.base.on q
  let ts := startsOf ops 0
  ((ops.zip ts).zip ((ts.drop 1).map some ++ [none])).zip (v.ratesOf l q) |>.map (fun p =>
    (p.1.1.2, (p.1.2.getD (p.1.1.2 + opDur p.1.1.1)), p.2))

/-- Cycles that a span shares with window k. -/
def inWindow (k lo hi : Nat) : Nat := min hi (256 * k + 256) - max lo (256 * k)

/-- Does the fabric port stand charged in window k (R60)? -/
def LinCase.fabricIn (l : LinCase) (k : Nat) : Bool :=
  lnByte l.desc 3 % 2 == 1 || (List.range 4).any (fun ch =>
    let ops := l.base.on (48 + ch)
    (ops.zip (startsOf ops 0)).any (fun p => decide (0 < inWindow k p.2 (p.2 + opDur p.1))))

/-- Charge of the present control cores, a cycle (R58, R253). -/
def Cluster.coreRates (v : Cluster) (b : Nat) : Nat :=
  ((v.usedCores b).map (fun n => if v.flt.fenC.getLsbD n then 0 else if v.hMode b n = 2 then 4 else 1)).foldl (· + ·) 0

/-- Token-cycles of window k (R58). -/
def Cluster.windowCharge (v : Cluster) (b : Nat) (l : LinCase) (spans : List (Nat × Nat × Nat)) (map : List Nat) (k : Nat) : Nat :=
  let uses := (map.filter (fun u => u / 256 / 256 == k)).length
  (120 + v.coreRates b) * 256 + (spans.map (fun p => p.2.2 * inWindow k p.1 p.2.1)).foldl (· + ·) 0
    + (if l.fabricIn k then 16 * 256 else 0) + cdiv (5 * uses) 16

/-- Token-cycles of every window of a lining. -/
def Cluster.windows (v : Cluster) (b : Nat) (l : LinCase) (map : List Nat) : List Nat :=
  let spans := (List.range 52).flatMap (v.spansOf l)
  let fin := max l.ends (maxOf (spans.map (fun p => p.2.1)))
  (List.range (max 1 (cdiv fin 256))).map (v.windowCharge b l spans map)

/-- Step 15 for a lining: every window within the budget (R58, R61). -/
def step15Of (l : LinCase) (budget : Nat) (ws : List Nat) : Option Rej :=
  (findIdxN (fun w => decide (256 * budget < w)) ws).map (caseRejAt rcToken 15 l 0)

/-- The largest window sum of an image, and the lowest window index that reaches it (R57, R58, R61). -/
def peakOf (wss : List (List Nat)) : Nat × Nat :=
  let sums := wss.map (fun ws => ws.map (fun w => cdiv w 256))
  let peak := maxOf (sums.map maxOf)
  let at_ := sums.filterMap (findIdxN (fun s => s == peak))
  (peak, at_.foldl min (at_.headD 0))

/-- Padding ops of a region for the nullification of R143: per alternative and queue, the numbers they span. -/
def LinCase.padsOf (l : LinCase) (r : Region) : List Pad :=
  l.scns.flatMap (fun s => (List.range 52).filterMap (fun q =>
    match (r.padOps s q).head?, (r.padOps s q).getLast? with
    | some x, some y => some { lid := l.lid, ctx := r.ctx, tab := r.tab, alt := choiceOf s.pick r.key, q := q, lo := x.1,
                               hi := y.1 + 1, byVar := r.var }
    | _, _ => none))

/-- What the checks of the DMARRs of a lining name, under each choice that matters to them (R246). -/
def LinCase.namesOf (l : LinCase) : List Named :=
  l.scns.flatMap (fun s => (List.range 4).flatMap (fun ch => (s.on (48 + ch)).zipIdx.flatMap (fun x =>
    let keys := (l.rs.filter (fun r => r.ctx == opCtx x.1)).map Region.key
    if opOpc x.1 = 0x42 then (arrChecks x.1).filterMap (fun p => (arrNamed s x.1 p).map (fun m =>
      { lid := l.lid, pick := s.pick.filter (fun y => keys.contains y.1), ch := ch, num := x.2, chk := p, at_ := m.1 }))
    else [])))

/-- The image with what the checks derive: padding ops, what DMARRs name, contexts with their queues, and the peak. -/
def deriveImg (im : Img) (ls : List LinCase) (wss : List (List Nat)) : Img :=
  let pk := peakOf wss
  { im with
    pads := (ls.flatMap (fun l => l.rs.flatMap l.padsOf)).eraseDups
    named := (ls.flatMap LinCase.namesOf).eraseDups
    uses := (ls.flatMap (fun l => l.scns.flatMap (fun s => s.all.map (fun p => (opCtx p.2, p.1))))).eraseDups
    peak := pk.1
    peakWin := pk.2 }

/-- Steps 14 and 15 (R402): the finding, or the image with its peak. -/
def Cluster.steps14to15 (v : Cluster) (b budget : Nat) (im : Img) (ls : List LinCase) : Option Rej × Img :=
  let ms := ls.map (fun l => let us := v.itemUses l; (l, us, bankMap us))
  match ms.findSome? (fun p => v.step14Of b p.1 p.2.1 p.2.2) with
  | some r => (some r, im)
  | none =>
    let ws := ms.map (fun p => (p.1, v.windows b p.1 p.2.2))
    (ws.findSome? (fun p => step15Of p.1 budget p.2), deriveImg im ls (ws.map (fun p => p.2)))

end Sys2Proof.Machine
end

