-- ==== Sys2Proof/Machine/Intake.lean ====
section
/-! DEFINITION. Program intake: OPEN, COMMIT, ABANDON, the verdicts, admission and retirement (R395 to R407). Steps 3
to 15 are computed at COMMIT, from what CHECK reads when it begins (R403), and their outcome stands from the
acceptance verdict on. Log entries of its readings and choices: 11 DESIGN CHOICE, 13 DEDUCED, 21 DEDUCED, 22 DEDUCED,
24 DEDUCED, 27 DEDUCED, 87 DEDUCED. -/

namespace Sys2Proof.Machine

/-- Write INT_RESULT with the TB of the verdict, and queue the event (R404, R469). -/
def Cluster.verdict (c : Cluster) (w : W64) : Cluster :=
  ((c.setReg (rInt + 0x10) w).setReg (rInt + 0x18) c.tb.value).event 4 (leBytes 8 w.toNat)

/-- INT_RESULT of a rejection. -/
def Rej.word (r : Rej) : W64 :=
  placeB true 63 ||| place (r.code % 64) 56 ||| place (r.step % 16) 52 ||| place (r.lid % 1024) 42 ||| place (r.queue % 64) 36
    ||| place (r.index % 2 ^ 32) 0

/-- Reject: INT_RESULT and INT_REJCNT, and back to IDLE; nothing outside the intake unit changes (R404). -/
def Cluster.reject (c : Cluster) (r : Rej) : Cluster :=
  let c := { c with intake := { c.intake with state := 0, step := 0, fail := none, plan := none, lastCode := r.code, grp := none } }
  (c.bump (rInt + 0x208) (rInt + 0x210) 1 1).verdict r.word

/-- Is every line from `base` free for staging (R396)? -/
def Cluster.stagingFree (c : Cluster) (base lines : Nat) : Bool :=
  !c.reg.any (fun kv => decide (rHnd 0 ≤ kv.1) && decide (kv.1 < rHnd 4096) && hndValid kv.2
      && meets base lines (hndBase kv.2) (hndSize kv.2))
    && c.images.all (fun i => !meets base lines i.base i.lines)
    && (List.range (min 256 lines)).all (fun i => !c.flt.fenB.getLsbD (c.pbank ((base + i) % 256)))

/-- May a staging region be opened (R396)? -/
def Cluster.stagingOk (c : Cluster) (base lines : Nat) : Bool :=
  decide (1 ≤ lines) && decide (lines ≤ 262144) && decide (base + lines ≤ 3129344) && c.stagingFree base lines

/-- OPEN (R395, R396): only in IDLE; a region that is not free is refused with code 0x02. -/
def openIntakeC (c : Cluster) : Cluster :=
  let base := c.dictAt 0x2380 1
  let lines := c.dictAt 0x2380 2
  if !(c.ready && c.intake.state == 0) then c
  else if c.stagingOk base lines then
    { c with intake := { c.intake with state := 1, step := 0, base := base, lines := lines, fail := none, plan := none } }
  else c.reject (rej rcStaging 0 0)
def execOpenIntake (s : State) : Host.Outcome State Fault Refusal := done s (openIntakeC s.cl)

/-- ABANDON (R395): only in OPEN. -/
def abandonC (c : Cluster) : Cluster :=
  if c.ready && c.intake.state == 1 then c.reject (rej rcAbandoned 0 0) else c
def execAbandon (s : State) : Host.Outcome State Fault Refusal := done s (abandonC s.cl)

/-- The lowest free image slot (R406). -/
def Cluster.freeSlot (c : Cluster) : Option Nat := findIdxN (fun i => i.isNone) c.imgs.toList

/-- The shape that the admission puts in force, with an image (R403, R406). -/
def Cluster.planFor (c : Cluster) (b : Nat) (im : Img) : Plan where
  img := im
  rot := (c.planRot b).getD c.rot
  fenA := c.nextFenA
  fenC := c.nextFenC
  fenB := c.nextFenB
  maps := (List.range 32).map c.nextMap

/-- The cluster as the admission would leave it, with each core's walk structures found: what the checks of the image's
programs read. -/
def Cluster.under (c : Cluster) (b : Nat) (p : Plan) : Cluster :=
  (c.putImage (c.freeSlot.getD 0) p).each (c.iSecs b) (fun v s => v.setCore s.core ((v.core s.core).begin s 0 0 0 false))

/-- Steps 10 to 15 on the image's programs: the finding, or the image with what they derive. -/
def Cluster.programs (v : Cluster) (b budget : Nat) (im : Img) : Option Rej × Img :=
  match v.step10 b with
  | some r => (some r, im)
  | none =>
    let ls := v.linCases b
    let cs := ls.filterMap (fun p => p.2.2)
    match firstRej [fun _ => v.step11 b ls, fun _ => v.step12 cs, fun _ => v.step13 b cs] with
    | some r => (some r, im)
    | none => v.steps14to15 b budget im cs

/-- Steps 3 to 15: the first failing check, and what the admission would bring into force (R402). -/
def Cluster.checks (c : Cluster) (b lines budget : Nat) : Option Rej × Plan :=
  let p := c.planFor b (c.readImg b lines)
  match c.steps3to9 b lines with
  | some r => (some r, p)
  | none =>
    let q := (c.under b p).programs b budget p.img
    (q.1, { p with img := q.2 })

/-- The intake unit reads n lines of the staging region from line lo on, through class 5 of their banks (R284). -/
def Cluster.readStage (c : Cluster) (k lo n : Nat) : Cluster :=
  ({ c with intake := { c.intake with grp := some c.spd.nextGrp } }).addGroup 5 0 (.stage k)
    ((List.range n).map (fun i => lineReq i (c.intake.base + lo + i) none))

/-- What goes to the security block: header TAG and the image (R401). -/
def Cluster.secStream (c : Cluster) : List Byte :=
  c.spdBytes (c.intake.base * 64 + 0x10) 8 ++ c.spdBytes (c.intake.base * 64) (c.hLen c.intake.base)

/-- The image has been read: the tag and the image go to the security block, and the checks are computed (R401, R403). -/
def Cluster.beginCheckImg (c : Cluster) : Cluster :=
  let q := c.checks c.intake.base c.intake.lines c.budget
  { c with intake := { c.intake with step := 2, fail := q.1, plan := some q.2, stream := c.secStream } }

/-- Lines of the staged image. -/
def Cluster.imgLines (c : Cluster) : Nat := c.hLen c.intake.base / 64

/-- The lines that the intake unit asked for have been read (R402): a header that is in order lets the rest of the image
be read, an image that passes step 1 goes into CHECK; at LOAD, ADMISSION may come. -/
def Cluster.stageDone (c : Cluster) (id k : Nat) : Cluster :=
  if c.intake.grp ≠ some id then c
  else
    let c := { c with intake := { c.intake with grp := none } }
    let b := c.intake.base
    match k with
    | 0 => if c.headOk b c.intake.lines then c.readStage 1 4 (c.imgLines - 4) else c.reject (rej rcLayout 1 0)
    | 1 => (match c.step1 b c.intake.lines with
      | some r => c.reject r
      | none => c.beginCheckImg)
    | _ => c

/-- COMMIT (R395, R401 to R404): only in OPEN; NOSLOT comes first. CHECK begins, ACCEPT_TO runs, and the header is read. -/
def commitC (c : Cluster) : Cluster :=
  if !(c.ready && c.intake.state == 1) then c
  else if c.freeSlot.isNone then c.reject (rej rcNoSlot 0 0)
  else
    ({ c with intake := { c.intake with state := 2, step := 1, since := c.tk, limit := c.dictAt 0x2382 1 } }).readStage 0 0
      (min 4 c.intake.lines)
def execCommit (s : State) : Host.Outcome State Fault Refusal := done s (commitC s.cl)

/-- Does the unit wait for the acceptance verdict (R401)? -/
def Cluster.awaitsVerdict (c : Cluster) : Bool := c.ready && c.intake.state == 2 && c.intake.step == 2

/-- ACCEPTANCE_VERDICT (R401): a refusal rejects; an acceptance lets the other checks decide. -/
def acceptanceVerdictC (c : Cluster) (accept : Bool) : Cluster :=
  if !c.awaitsVerdict then c
  else if !accept then c.reject (rej rcAccept 2 0)
  else match c.intake.fail with
    | some r => c.reject r
    | none => ({ c with intake := { c.intake with state := 3, step := 0 } }).readStage 2 0 c.imgLines
def execAcceptanceVerdict (accept : Bool) (s : State) : Host.Outcome State Fault Refusal :=
  done s (acceptanceVerdictC s.cl accept)

/-- ACCEPT_TIMEOUT (R401). -/
def acceptTimeoutC (c : Cluster) : Cluster :=
  if c.ready && c.intake.state == 2 && decide (c.intake.since + c.intake.limit ≤ c.tk) then c.reject (rej rcAccTo 2 0) else c
def execAcceptTimeout (s : State) : Host.Outcome State Fault Refusal := done s (acceptTimeoutC s.cl)

/-- A context as its image's admission leaves it (R372). -/
def Ctx.takeIn (x : Ctx) (a0 : Nat) : Ctx :=
  { x with state := 1, torn := false, tornAt := 0, tornEff := 0, level := 0, var := 0, hist := [], rest := 0, linseq := 0,
           sampled := false, allow := a0 }

/-- Initialise context k at its admission; its counters and sticky mask are cleared (R372). -/
def Cluster.admitCtx (c : Cluster) (k : Nat) : Cluster :=
  let a := rCtx + 0x4000 + 0x100 * k
  let c := { c with reg := Sparse.clearRange c.reg a (a + 0x88) }
  c.setCtx k ((c.ctx k).takeIn (c.allowance []))

/-- Each control core's send counter starts at 0 at admission, and no SEGBR has run since it (R144, R327). -/
def Cluster.admitCores (c : Cluster) : Cluster :=
  let clear : Core → Core := fun x => { x with sendSeq := 0 }
  (({ c with cores := c.cores.map clear }).setReg (rCtx + 0x3000) 0).setReg (rCtx + 0x3008) 0

/-- Contexts of an admitted image with ops on a unit that a plan fences anew (R386, R406). -/
def Cluster.unitVictims (c : Cluster) (p : Plan) (im : Img) : List Nat :=
  (im.uses.filter (fun u => decide (u.2 < 48) && ((p.fenC &&& ~~~c.flt.fenC).getLsbD (u.2 / 6) || (match arrayOfQ u.2 with
    | some a => (p.fenA &&& ~~~c.flt.fenA).getLsbD a
    | none => false)))).map (fun u => u.1)

/-- Logical banks of the physical banks that a plan fences anew. -/
def Cluster.lostBanks (c : Cluster) (p : Plan) : List Nat :=
  (bitsOf 256 (p.fenB &&& ~~~c.flt.fenB).toNat).map (fun b => (b + 256 - c.rot) % 256)

/-- Does a handle hold a line of a logical bank? -/
def hndInBank (w : W64) (l : Nat) : Bool := decide ((l + 256 - hndBase w % 256) % 256 < hndSize w)

/-- Contexts of an admitted image that map a line of a bank that a plan fences anew, other than under a hole (R302). -/
def Cluster.bankVictims (c : Cluster) (p : Plan) (im : Img) : List Nat :=
  let ls := (c.lostBanks p).filter (fun l => !im.holes.testBit l)
  if ls.isEmpty then []
  else (im.handles.filter (fun h => hndValid (c.regAt (rHnd h)) && ls.any (hndInBank (c.regAt (rHnd h))))).map
    (fun h => hndOwner (c.regAt (rHnd h)))

/-- Contexts that a plan's fences tear down. -/
def Cluster.victims (c : Cluster) (p : Plan) : List Nat :=
  (c.images.flatMap (fun im => c.unitVictims p im ++ c.bankVictims p im)).eraseDups

/-- The shape that software sees: fences and the widest width of each array (R112). -/
def Cluster.shapeView (c : Cluster) : BitVec 32 × BitVec 8 × BitVec 256 × List Nat :=
  (c.flt.fenA, c.flt.fenC, c.flt.fenB, (List.range 32).map (fun a => fld (c.regAt (rPatch a)) 39 38))

/-- INT_IMG of a slot (R409). -/
def Cluster.imgRecord (c : Cluster) (slot : Nat) (im : Img) : Cluster :=
  let a := rInt + 0x100 + 0x10 * slot
  (c.setReg a (placeB true 63 ||| placeB im.c1 62 ||| place (im.peak % 1024) 48 ||| place im.imgid 0)).setReg (a + 8)
    (place im.base 32 ||| place (im.lines - 1) 0)

/-- The admission instant (R406). -/
def Cluster.takeIn (c : Cluster) (p : Plan) (slot : Nat) : Cluster :=
  let before := c.shapeView
  let c := ((c.each (c.victims p) Cluster.teardown).putImage slot p).admitCores
  let c := c.each p.img.ctxs Cluster.admitCtx
  let c := if c.shapeView = before then c else { c with flt := { c.flt with shapeSeq := satN 0xFFFF (c.flt.shapeSeq + 1) } }
  let c := (c.imgRecord slot p.img).bump (rInt + 0x200) (rInt + 0x210) 0 1
  let c := { c with intake := { c.intake with state := 0, step := 0, fail := none, plan := none, lastCode := 0, lastSlot := slot } }
  c.verdict (placeB true 63 ||| placeB true 62 ||| place slot 32)

/-- ADMISSION (R403, R406): the last cycle of LOAD; the peak is compared with PWR_BUDGET again. -/
def admissionC (c : Cluster) : Cluster :=
  if c.ready && c.intake.state == 3 && c.intake.grp.isNone then
    match c.intake.plan, c.freeSlot with
    | some p, some slot => if c.budget < p.img.peak then c.reject (rej rcToken 15 p.img.peakWin) else c.takeIn p slot
    | _, _ => c
  else c
def execAdmission (s : State) : Host.Outcome State Fault Refusal := done s (admissionC s.cl)

/-- RETIRE (R407): from now on no lining of the image is dispatched. -/
def retireC (c : Cluster) (slot : Nat) : Cluster :=
  if c.answers then
    match vat c.imgs slot none with
    | some im => { c with imgs := vset c.imgs slot (some { im with retire := true }) }
    | none => c
  else c
def execRetire (slot : Fin 8) (s : State) : Host.Outcome State Fault Refusal := done s (retireC s.cl slot.val)

/-- May the retirement of the image in a slot act: no lining of it runs, and intake is not in CHECK or LOAD (R403, R407)? -/
def Cluster.mayRetire (c : Cluster) (slot : Nat) (im : Img) : Bool :=
  c.ready && im.retire && decide (c.runSlot ≠ some slot) && c.intake.state != 2 && c.intake.state != 3

/-- RETIREMENT (R407). -/
def retirementC (c : Cluster) (slot : Nat) : Cluster :=
  match vat c.imgs slot none with
  | some im => if c.mayRetire slot im then c.doRetire slot else c
  | none => c
def execRetirement (slot : Fin 8) (s : State) : Host.Outcome State Fault Refusal := done s (retirementC s.cl slot.val)

end Sys2Proof.Machine
end

