-- ==== Sys2Proof/Machine/DictVal.lean ====
section
/-! DEFINITION. What each dictionary entry reads as (R9, R52, R61, R254, R303, R323, R350, R394, R409, R429, R433, R453,
R462, R467, R471 to R476). A settable entry reads as stored; the others mirror the units' state. -/

namespace Sys2Proof.Machine

/-- The entries of the identity, start-up, clamp and clock areas. -/
def Cluster.valLow (c : Cluster) (i s : Nat) : Nat :=
  if i = 0x1000 then
    (if s = 3 then c.stepping.toNat else if s = 4 then c.straps.toNat else if s = 5 then 0x10 + c.straps.toNat % 16
     else if s = 6 then 2 else (c.shapeWord (s - 0x10)).toNat)
  else if i = 0x1100 then (if s = 1 then c.stage else if s = 6 then (if c.tb.tbok then 1 else 0) else c.dictAt i s)
  else if i = 0x1F00 then (if s = 1 then c.moss.clamps else c.dictAt i s)
  else if s = 1 then c.level
  else if s = 2 then (c.regAt (rClk + 0x18)).toNat
  else if s = 3 then (c.regAt (rClk + 0x28)).toNat
  else if s = 4 then (c.clkView 0x40).toNat
  else if s = 0x11 then c.tim.duty
  else if s = 0x12 then c.tim.req
  else if s = 0x20 then (c.regAt rPwr).toNat
  else if s = 0x21 then fld c.peakView 25 16
  else if 0x30 ≤ s && s ≤ 0x38 then (c.reg32 (rPwr + 0x100 + 4 * (s - 0x30))).toNat
  else if s = 0x40 then (c.pwrView 0x200).toNat
  else if s = 0x50 then (c.tbView 0).toNat
  else if s = 0x51 then (c.tbView 8).toNat
  else c.dictAt i s

/-- The entries of the scratchpad, patch-map and control-core areas. -/
def Cluster.valUnits (c : Cluster) (i s : Nat) : Nat :=
  if i = 0x2100 then
    (if s = 3 then c.rot else if s = 4 then fld (c.regAt (rSpd + 0x40)) 31 0
     else if 0x10 ≤ s && s ≤ 0x13 then (c.spdView (0x100 + 8 * (s - 0x10))).toNat
     else if s = 0x20 then (c.regAt (rSpd + 0x20)).toNat else if s = 0x21 then (c.regAt (rSpd + 0x28)).toNat
     else c.dictAt i s)
  else if i = 0x2301 then (if s ≤ 8 then (c.core (s - 1)).mode else fld (c.regAt (rCore (s - 0x11) + 0x30)) 60 53)
  else c.dictAt i s

/-- The entries of a context's area. -/
def Cluster.valCtx (c : Cluster) (k s : Nat) : Nat :=
  let x := c.ctx k
  if s = 7 then x.state + (if x.torn then 8 else 0)
  else if s = 8 then x.level
  else if s = 9 then x.linseq.toNat
  else if s = 0xA then x.fintb.toNat
  else if s = 0xB then x.allow
  else c.dictAt (0x2310 + k) s

/-- The entries of the scheduling and intake areas. -/
def Cluster.valSched (c : Cluster) (i s : Nat) : Nat :=
  if 0x2310 ≤ i && i ≤ 0x234F then c.valCtx (i - 0x2310) s
  else if i = 0x2303 && s = 8 then c.reqs.length
  else if i = 0x2380 && s = 4 then c.intake.state
  else if i = 0x2380 && s = 5 then c.intake.lastCode
  else if i = 0x2380 && s = 6 then c.intake.lastSlot
  else c.dictAt i s

/-- The entries of the fault, accounting and floor areas. -/
def Cluster.valFaults (c : Cluster) (i s : Nat) : Nat :=
  if i = 0x2400 then
    (if s = 1 then c.flt.hstate else if s = 2 then c.flt.recov else if s = 3 then (c.regAt (rFlt + 0x10)).toNat
     else if s = 4 then (c.regAt (rFlt + 0x18)).toNat else if s = 7 then c.flt.fatalSrc
     else if s = 8 then (if c.flt.alive then 1 else 0) else c.dictAt i s)
  else if i = 0x2401 then (c.regAt (rSrc (s - 1))).toNat
  else if i = 0x2402 then (if c.flt.armed.any (fun p => p.1 == s - 1) then 1 else 0)
  else if i = 0x2500 then
    (if s = 0x20 then (c.regAt (rClu + 0x1500)).toNat else if s = 0x21 then (c.regAt (rClu + 0x1508)).toNat
     else (c.regAt (rClu + 0x1400 + 4 * (s - 1))).toNat)
  else if 0x2600 ≤ i && i ≤ 0x263F then
    (c.regAt (rCtx + 0x4000 + 0x100 * (i - 0x2600) + (if s = 0x11 then 0x80 else 8 * (s - 1)))).toNat
  else c.dictAt i s

/-- The entries of the messaging, window and debug areas. -/
def Cluster.valLinks (c : Cluster) (i s : Nat) : Nat :=
  if i = 0x2700 then
    (if s = 0x20 then (c.regAt (rMsg + 0x210)).toNat else if s = 0x21 then (c.regAt (rMsg + 0x218)).toNat
     else if s = 0x22 then (c.regAt (rMsg + 0x230)).toNat else if s = 0x23 then c.storeSlots false else c.dictAt i s)
  else if i = 0x2780 then (c.regAt (rDmv + 0x1000 + 0x10 * (s - 1))).toNat
  else if i = 0x2784 then fld (c.portView (0x20 * (s - 1))) 31 31
  else if i = 0x3001 then
    (if s = 1 then (if c.tim.haltReq then 1 else 0)
     else (if c.halted then 1 else 0) + (if c.tim.stepEnd.isSome && c.tim.haltReq && !c.halted then 2 else 0))
  else if i = 0x3002 then (if c.moss.maint then 1 else 0) + (if c.moss.debug then 2 else 0)
  else if i = 0x3003 then (c.view64 (rMgt + 8 * (s - 1))).toNat
  else c.dictAt i s

/-- The number that an entry holds (R462). -/
def Cluster.entryNat (c : Cluster) (i s : Nat) : Nat :=
  if s = 0 then (topSub i).getD 0
  else if i < 0x2100 then c.valLow i s
  else if i < 0x2302 then c.valUnits i s
  else if i < 0x2400 then c.valSched i s
  else if i < 0x2700 then c.valFaults i s
  else c.valLinks i s

/-- ASCII bytes of a name. -/
def asciiBytes (s : String) : List Byte := s.toList.map (fun ch => BitVec.ofNat 8 ch.toNat)

/-- Is an entry write-only? -/
def DEnt.writeOnly (e : DEnt) : Bool := e.acc == .wo || e.acc == .dbgwo

/-- The bytes that a READ of an entry answers; a WO entry reads as zero bytes (R463). -/
def Cluster.entryBytes (c : Cluster) (i s : Nat) (e : DEnt) : List Byte :=
  if i = 0x1000 && s = 1 then asciiBytes "Krytxon Devices"
  else if i = 0x1000 && s = 2 then asciiBytes "Scaden"
  else if e.writeOnly then List.replicate e.len 0
  else leBytes e.len (c.entryNat i s)

end Sys2Proof.Machine
end

