-- ==== Sys2Proof/Machine/Moss.lean ====
section
/-! DEFINITION. The moss ring agent: frames, requests and their checks, the application of writes, events, and the
debug window (R452, R454 to R476). A command that carries a frame acts on a frame of its own kind, or discards a
faulty one. Log entries of its readings and choices: 1 DESIGN CHOICE, 14 DEDUCED, 17 DEDUCED, 18 DEDUCED, 19 DEDUCED,
48 DEDUCED, 106 DEDUCED. -/

namespace Sys2Proof.Machine

/-- Node address of the agent (R454). -/
def Cluster.node (c : Cluster) : Nat := 0x10 + c.straps.toNat % 16

/-- Fields of a frame (R455). -/
def fmDst (bs : List Byte) : Nat := leAt bs 0 1
def fmSrc (bs : List Byte) : Nat := leAt bs 1 1
def fmType (bs : List Byte) : Nat := leAt bs 2 1
def fmSeq (bs : List Byte) : Nat := leAt bs 3 1
def fmIndex (bs : List Byte) : Nat := leAt bs 4 2
def fmSub (bs : List Byte) : Nat := leAt bs 6 1
def fmLen (bs : List Byte) : Nat := leAt bs 8 2
def fmPayload (bs : List Byte) : List Byte := (bs.drop 10).take (fmLen bs)

/-- Symbols behind the CRC belong to no frame (R455). -/
def fmTrim (bs : List Byte) : List Byte := if bs.length < 10 then bs else bs.take (14 + fmLen bs)

/-- A frame with its CRC (R455). -/
def mkFrame (dst src ty seq index sub status : Nat) (payload : List Byte) : List Byte :=
  let h := leBytes 1 dst ++ leBytes 1 src ++ leBytes 1 ty ++ leBytes 1 seq ++ leBytes 2 index ++ leBytes 1 sub
    ++ leBytes 1 status ++ leBytes 2 payload.length ++ payload
  h ++ leBytes 4 (crc32c h).toNat

/-- Is a frame that is addressed to the agent discarded: it ends early, fails its CRC, or is of a kind or from a node that
the agent does not take (R457)? -/
def fmBad (bs : List Byte) : Bool :=
  decide (bs.length < 14 + fmLen bs) || decide (256 < fmLen bs) || fmSrc bs != 0
    || !(fmType bs == 1 || fmType bs == 2 || fmType bs == 5)
    || leAt bs (10 + fmLen bs) 4 != (crc32c (bs.take (10 + fmLen bs))).toNat

/-- Is a frame for the agent, and not its own come round? -/
def Cluster.forMe (c : Cluster) (bs : List Byte) : Bool :=
  fmDst bs == c.node && fmSrc bs != c.node

/-- Put a frame on the ring. -/
def Cluster.putFrame (c : Cluster) (bs : List Byte) : Cluster := { c with moss := { c.moss with out := c.moss.out ++ [bs] } }

/-- A frame addressed to the agent arrives: a faulty one is counted; a sound one is taken once stage 0 is complete (R457,
R461, log entry 106). -/
def Cluster.takeFrame (c : Cluster) (bs : List Byte) (ty : Nat) (f : Cluster → Cluster) : Cluster :=
  if !(c.powered && c.forMe bs) then c
  else if fmBad bs then c.bump (rMgt + 0x10) (rMgt + 0x20) 1 1
  else if 1 ≤ c.stage && fmType bs = ty then f c
  else c

/-- FRAME_FORWARD (R457): a frame for another node goes on; the agent's own is removed. -/
def frameForwardC (c : Cluster) (bs : List Byte) : Cluster :=
  if !c.powered || bs.isEmpty || fmDst bs == c.node || (decide (2 ≤ bs.length) && fmSrc bs == c.node) then c
  else c.putFrame (fmTrim bs)
def execFrameForward (bytes : List Byte) (s : State) : Host.Outcome State Fault Refusal := done s (frameForwardC s.cl bytes)

/-- Is an entry the debug data entry (R473)? -/
def isDbgData (i s : Nat) : Bool := i == 0x3000 && s == 2

/-- Does an access level need the debug grant? -/
def Acc.needsDebug (a : Acc) : Bool := a == .dbg || a == .dbgwo || a == .dbgro

/-- Is a count of debug data legal (R473)? -/
def dbgCountOk (n : Nat) : Bool := decide (8 ≤ n) && decide (n ≤ 256) && n % 8 == 0

/-- May an index be read after an F decision (R461)? -/
def readInF (i : Nat) : Bool := i == 0x1000 || i == 0x1100 || (decide (0x2400 ≤ i) && decide (i ≤ 0x2403))

/-- Step 3 of the checks: the access level (R463). -/
def levelStatus (e : DEnt) (g : Grants) (write : Bool) : Nat :=
  if write && e.acc == .ro then 3
  else if write && e.acc == .rwm && !g.maint then 3
  else if e.acc.needsDebug && !g.debug then 2
  else if write && e.acc == .dbgro then 3
  else 0

/-- Step 4: the length (R462, R463). -/
def lengthOk (i s : Nat) (e : DEnt) (write : Bool) (payload : List Byte) : Bool :=
  if isDbgData i s then (if write then dbgCountOk payload.length else payload.length == 2 && dbgCountOk (leNat payload))
  else if write then payload.length == e.len
  else payload.isEmpty

/-- Number of the row of R474 that holds an address; none in a reserved range (R22, R23, R25). -/
def dbgRow (a : Nat) : Option Nat :=
  if a < syncBase then some 0
  else if a < spdEnd then some 1
  else if 0x10000000 ≤ a && a < 0x10800000 && a % 0x100000 < 0xC0000 then some 2
  else if 0x20000000 ≤ a && a < 0x20180000 && !(0x200C0000 ≤ a && a < 0x20100000) then some 3
  else none

/-- Core, tile and byte of a tile-file alias (R22). -/
def aliasCore (a : Nat) : Nat := a / 0x100000 % 8
def aliasTile (a : Nat) : Nat := a % 0x100000 / 0x8000
/-- Is a byte of the tile-file aliases within its tile's configured size? Beyond it the alias is reserved (R22). -/
def Cluster.aliasHeld (c : Cluster) (a : Nat) : Bool :=
  let n := aliasCore a
  let t := aliasTile a
  c.tileValid n t && decide (a % 0x8000 < c.tileRows n t * c.tileB n t)

/-- Is an access of n bytes at DBGADDR permitted (R25, R214, R474)? Tile bytes beyond the configured size are reserved (R22). -/
def Cluster.dbgPermits (c : Cluster) (write : Bool) (n : Nat) : Bool :=
  let a := c.dictAt 0x3000 1
  match dbgRow a with
  | none => false
  | some r => (List.range n).all (fun k => dbgRow (a + k) == some r) && (!write || r == 3 || c.halted)
      && (r != 2 || (List.range n).all (fun k => c.aliasHeld (a + k)))

/-- Step 5: the condition of the entry's own rule (R452, R474). -/
def Cluster.ownRuleOk (c : Cluster) (i s : Nat) (write : Bool) (payload : List Byte) : Bool :=
  if isDbgData i s then c.dbgPermits write (if write then payload.length else leNat payload)
  else !(write && i == 0x2380 && s == 3) || c.stage == 3

/-- The status of a request (R460, R461, R463). -/
def Cluster.status (c : Cluster) (g : Grants) (write : Bool) (i s : Nat) (payload : List Byte) : Nat :=
  match dictEntry i s with
  | none => 1
  | some e =>
    if c.flt.fatal && (write || !readInF i) then 2
    else if levelStatus e g write ≠ 0 then levelStatus e g write
    else if !lengthOk i s e write payload then 4
    else if !c.ownRuleOk i s write payload then 2
    else 0

/-- Read 4 bytes of register space, m times (R474). -/
def Cluster.dbgRegs (c : Cluster) (a : Nat) : Nat → List Byte × Cluster
  | 0 => ([], c)
  | m + 1 =>
    let p := c.regRead a
    let q := p.2.dbgRegs (a + 4) m
    (leBytes 4 p.1.toNat ++ q.1, q.2)

/-- DBGADDR advances by n (R473). -/
def Cluster.dbgStep (c : Cluster) (n : Nat) : Cluster := c.setDict 0x3000 1 ((c.dictAt 0x3000 1 + n) % 2 ^ 32)

/-- Boundary requests for n bytes of scratchpad from an address, with write data (R284). -/
def spanReqs (a n : Nat) (bs : Option (List Byte)) : List BReq :=
  (linesOf a n).zipIdx.map (fun p =>
    let x := linePart a n p.1
    partReq p.2 x.1 x.2 (bs.map (fun bs => (bs.drop (x.1 - a)).take x.2)))

/-- A permitted debug read of n bytes: from tiles and registers at once; from scratchpad through class 5, with `done_`
to follow (R284, R474). -/
def Cluster.dbgRead (c : Cluster) (n : Nat) (done_ : BDone) : Option (List Byte) × Cluster :=
  let a := c.dictAt 0x3000 1
  match dbgRow a with
  | some 2 => (some ((List.range n).map (fun k => c.tileByte (aliasCore (a + k)) (aliasTile (a + k)) ((a + k) % 0x8000))), c.dbgStep n)
  | some 3 =>
    let p := c.dbgRegs a (n / 4)
    (some p.1, p.2.dbgStep n)
  | _ => (none, (c.dbgStep n).addGroup 5 0 done_ (spanReqs a n none))

/-- A write of 32 force bits from source s0 on (R432). -/
def Cluster.dbgForce (c : Cluster) (s0 : Nat) (v : W32) : Cluster :=
  c.each (List.range 32) (fun c j => if v.getLsbD j then c.force (s0 + j) else c.disarm (s0 + j))

/-- A debug write of one 32-bit unit of register space: PWR_BUDGET is clamped, and the force registers need the maintenance
grant (R61, R432, R474). -/
def Cluster.dbgPutReg (c : Cluster) (maint : Bool) (a : Nat) (v : W32) : Cluster :=
  if a = rPwr then c.setReg rPwr (BitVec.ofNat 64 (clampN 240 1000 (v.toNat % 1024)))
  else if rFlt + 0x20 ≤ a && a < rFlt + 0x30 then (if maint then c.dbgForce (8 * (a - (rFlt + 0x20))) v else c)
  else if a = rFlt + 0x30 then (if maint then c.setDict 0x2403 1 (v.toNat % 2 ^ 18) else c)
  else c.regWrite a v

/-- Write register space in 32-bit units. -/
def Cluster.dbgPutRegs (c : Cluster) (maint : Bool) (a : Nat) (bs : List Byte) : Cluster :=
  c.each (List.range (bs.length / 4)) (fun c i => c.dbgPutReg maint (a + 4 * i) (BitVec.ofNat 32 (leAt bs (4 * i) 4)))

/-- Write tile-file aliases, 8 bytes at a time; bytes beyond a tile's configuration are dropped (R196, R214). -/
def Cluster.dbgPutTiles (c : Cluster) (a : Nat) (bs : List Byte) : Cluster :=
  c.each (List.range (bs.length / 8)) (fun c i =>
    let x := a + 8 * i
    c.tileStream (aliasCore x) (aliasTile x) (x % 0x8000) ((bs.drop (8 * i)).take 8))

/-- A permitted debug write; in the sync window it evaluates no waiter (R474). -/
def Cluster.dbgWrite (c : Cluster) (maint : Bool) (bs : List Byte) : Cluster :=
  let a := c.dictAt 0x3000 1
  let c := match dbgRow a with
    | some 2 => c.dbgPutTiles a bs
    | some 3 => c.dbgPutRegs maint a bs
    | _ => c.addGroup 5 0 .quiet (spanReqs a bs.length (some bs))
  c.dbgStep bs.length

/-- A BOOL command: 1 acts, 0 does nothing (R466). -/
def Cluster.boolCmd (c : Cluster) (i s v : Nat) (f : Cluster → Cluster) : Cluster :=
  c.written i s v (fun c v => if v = 1 then f c else c)

/-- The intake command entry (R395, R409). -/
def Cluster.intakeCmd (c : Cluster) (v : Nat) : Cluster :=
  c.written 0x2380 3 v (fun c v => if v = 1 then openIntakeC c else if v = 2 then commitC c else if v = 3 then abandonC c else c)

/-- Apply a write to an entry of the units' areas; none where the entry only stores. -/
def Cluster.applyUnits (c : Cluster) (g : Grants) (i s v : Nat) : Option Cluster :=
  if i = 0x2000 && s = 0x20 then some (budgetWriteC c (BitVec.ofNat 16 v))
  else if i = 0x2100 && s = 2 then some (fenceThresholdWriteC c .bank v)
  else if i = 0x2100 && 0x14 ≤ s && s ≤ 0x17 then some (bankFenceMaskWriteC c (s - 0x14) (BitVec.ofNat 64 v) g)
  else if i = 0x2200 then some (fenceThresholdWriteC c .witness v)
  else if i = 0x2201 then some (badColumnMapWriteC c (s - 1) (BitVec.ofNat 64 v) g)
  else if i = 0x2203 then some (coreFenceMaskWriteC c (BitVec.ofNat 8 v) g)
  else if i = 0x2300 && s = 0x10 then some (fenceThresholdWriteC c .lockstep v)
  else none

/-- Apply a write to an entry of the scheduling, intake and accounting areas. -/
def Cluster.applySched (c : Cluster) (i s v : Nat) : Option Cluster :=
  if i = 0x2303 && s = 5 then some (c.boolCmd i s v dispatchSubmitC)
  else if i = 0x2303 && s = 6 then some (dispatchCancelC c (BitVec.ofNat 16 v))
  else if i = 0x2303 && s = 7 then some (c.boolCmd i s v stopRequestC)
  else if 0x2310 ≤ i && i ≤ 0x234F && s = 5 then some (c.boolCmd i s v (fun c => teardownRequestC c (i - 0x2310)))
  else if 0x2310 ≤ i && i ≤ 0x234F && s = 6 then some (c.boolCmd i s v (fun c => rearmC c (i - 0x2310)))
  else if i = 0x2380 && s = 3 then some (c.intakeCmd v)
  else if i = 0x2381 then some (c.boolCmd i s v (fun c => retireC c (s - 1)))
  else if i = 0x2640 then some (c.boolCmd i s v (fun c => snapshotC c (s - 1)))
  else none

/-- Apply a write to an entry of the fault, messaging, window and debug areas. -/
def Cluster.applyLinks (c : Cluster) (g : Grants) (i s : Nat) (payload : List Byte) : Option Cluster :=
  let v := leNat payload
  if i = 0x2400 && s = 5 then some (c.boolCmd i s v clearFirstC)
  else if i = 0x2400 && s = 6 then some (acknowledgeC c v)
  else if i = 0x2402 then some (c.writtenM g i s v (fun c v => if v = 1 then c.force (s - 1) else c.disarm (s - 1)))
  else if i = 0x2700 && s = 0x10 then some (ringResetC c (BitVec.ofNat 16 v))
  else if i = 0x2700 && s = 0x11 then some (sorusResetC c (BitVec.ofNat 16 v))
  else if i = 0x2780 then some (windowCommitC c (s - 1) (BitVec.ofNat 64 v))
  else if i = 0x2782 then some (c.boolCmd i s v (fun c => parkAbortC c (s - 1)))
  else if isDbgData i s then some (c.dbgWrite g.maint payload)
  else if i = 0x3001 && s = 1 then some (c.written i s v (fun c v => if v = 1 then haltRequestC c g else haltReleaseC c g))
  else if i = 0x3001 && s = 2 then some (stepHaltedC c (BitVec.ofNat 32 v) g)
  else none

/-- What a write does beyond storing; none for an entry that only stores its value. -/
def Cluster.applyOwn (c : Cluster) (g : Grants) (i s : Nat) (payload : List Byte) : Option Cluster :=
  match c.applyUnits g i s (leNat payload) with
  | some c => some c
  | none =>
    match c.applySched i s (leNat payload) with
    | some c => some c
    | none => c.applyLinks g i s payload

/-- Store the clamped value of an entry (R466). -/
def Cluster.storeEntry (c : Cluster) (i s v : Nat) : Cluster := c.written i s v (fun c v => c.setDict i s v)

/-- Apply a write that has passed the checks. -/
def Cluster.applyWrite (c : Cluster) (g : Grants) (i s : Nat) (payload : List Byte) : Cluster :=
  (c.applyOwn g i s payload).getD (c.storeEntry i s (leNat payload))

/-- The value that a RESP to a WRITE carries: the stored value, or nothing for a WO entry (R458). -/
def Cluster.storedBytes (c : Cluster) (i s : Nat) (payload : List Byte) : List Byte :=
  match dictEntry i s with
  | none => []
  | some e =>
    if isDbgData i s then payload
    else if e.writeOnly then []
    else leBytes e.len (c.clampEntry i s (leNat payload)).2.1

/-- The RESP to a request (R455, R460). -/
def Cluster.respFrame (c : Cluster) (bs : List Byte) (st : Nat) (payload : List Byte) : List Byte :=
  mkFrame 0 c.node 3 (fmSeq bs) (fmIndex bs) (fmSub bs) st payload

/-- Bytes of debug data that a request reads or writes (R458). -/
def dbgBytes (bs : List Byte) : Nat :=
  if isDbgData (fmIndex bs) (fmSub bs) then (if fmType bs = 1 then leNat (fmPayload bs) else fmLen bs) else 0

/-- Send a RESP to a request: the agent starts on the next request when its last byte has left, and its first byte leaves
within 64 CK_M cycles, or 64 and one for each byte of debug data (R458). -/
def Cluster.sendResp (c : Cluster) (bs resp : List Byte) : Cluster :=
  let wait := Config.respDelay c.freeCtr % (65 + dbgBytes bs)
  { c with freeCtr := c.freeCtr + 1,
           moss := { c.moss with out := c.moss.out ++ [resp], busyTo := c.clk.ckm + wait + resp.length } }

/-- Send the RESP to a request, made from a status and a value. -/
def Cluster.respond (c : Cluster) (bs : List Byte) (st : Nat) (payload : List Byte) : Cluster :=
  c.sendResp bs (c.respFrame bs st payload)

/-- The grants as they stand (R464). -/
def Cluster.grants (c : Cluster) : Grants := ⟨c.moss.maint, c.moss.debug⟩

/-- Count a request served (R476). -/
def Cluster.served (c : Cluster) : Cluster := c.bump (rMgt + 8) (rMgt + 0x20) 0 1

/-- Serve a READ (R458, R463, R473); the RESP of a debug read of scratchpad follows when its lines have been read. -/
def Cluster.serveRead (c : Cluster) (bs : List Byte) : Cluster :=
  let c := c.served
  let i := fmIndex bs
  let s := fmSub bs
  let st := c.status c.grants false i s (fmPayload bs)
  if st ≠ 0 then c.respond bs st []
  else if isDbgData i s then
    let p := c.dbgRead (leNat (fmPayload bs)) (.debug bs)
    match p.1 with
    | some data => p.2.respond bs 0 data
    | none => p.2
  else match dictEntry i s with
    | some e => c.respond bs 0 (c.entryBytes i s e)
    | none => c.respond bs 1 []

/-- The kept RESP of the last WRITE, if a WRITE repeats it (R459). -/
def Cluster.keptResp (c : Cluster) (bs : List Byte) : Option (List Byte) :=
  match c.moss.last with
  | some (q, i, s, resp) => if q.toNat = fmSeq bs && i = fmIndex bs && s = fmSub bs then some resp else none
  | none => none

/-- Serve a WRITE (R458, R459, R463). -/
def Cluster.serveWrite (c : Cluster) (bs : List Byte) : Cluster :=
  match c.keptResp bs with
  | some resp => c.served.sendResp bs resp
  | none =>
    let c := c.served
    let g := c.grants
    let i := fmIndex bs
    let s := fmSub bs
    let st := c.status g true i s (fmPayload bs)
    let resp := c.respFrame bs st (if st ≠ 0 then [] else c.storedBytes i s (fmPayload bs))
    let d := (if st ≠ 0 then c else c.applyWrite g i s (fmPayload bs)).sendResp bs resp
    { d with moss := { d.moss with last := some (BitVec.ofNat 8 (fmSeq bs), i, s, resp) } }

/-- The request whose debug read of scratchpad is under way. -/
def Cluster.debugReq (c : Cluster) : Option (List Byte) :=
  c.spd.groups.findSome? (fun g => match g.done with
    | .debug bs => some bs
    | _ => none)

/-- Is the agent still at a request: the last byte of its RESP has not left (R458)? -/
def Cluster.mossBusy (c : Cluster) : Bool := decide (c.clk.ckm < c.moss.busyTo) || c.debugReq.isSome

/-- A request frame: the agent serves it at once when it is at no other; up to 4 wait, and a further one is discarded
(R457, R458). The grants it is served with are those of the cycle in which that happens (R464). -/
def Cluster.takeRequest (c : Cluster) (bs : List Byte) (ty : Nat) (g : Grants) (serve : Cluster → Cluster) : Cluster :=
  c.takeFrame bs ty fun c =>
    let c := c.sample g
    if !c.mossBusy && c.moss.queue.isEmpty then serve c
    else if c.moss.queue.length < 4 then { c with moss := { c.moss with queue := c.moss.queue ++ [bs] } }
    else c.bump (rMgt + 0x10) (rMgt + 0x20) 1 1

/-- READ (R458). -/
def readFrameC (c : Cluster) (bs : List Byte) (g : Grants) : Cluster := c.takeRequest bs 1 g (fun c => c.serveRead bs)
def execReadFrame (bytes : List Byte) (g : Grants) (s : State) : Host.Outcome State Fault Refusal :=
  done s (readFrameC s.cl bytes g)

/-- WRITE (R458, R459). -/
def writeFrameC (c : Cluster) (bs : List Byte) (g : Grants) : Cluster := c.takeRequest bs 2 g (fun c => c.serveWrite bs)
def execWriteFrame (bytes : List Byte) (g : Grants) (s : State) : Host.Outcome State Fault Refusal :=
  done s (writeFrameC s.cl bytes g)

/-- The agent goes on to the request that waits next, once the RESP before it has left (R458). -/
def Cluster.serveNext (c : Cluster) : Cluster :=
  match c.moss.queue with
  | [] => c
  | bs :: rest =>
    if c.mossBusy then c
    else
      let c := { c with moss := { c.moss with queue := rest } }
      if fmType bs = 1 then c.serveRead bs else c.serveWrite bs

/-- A debug read of scratchpad that an F decision has stopped is refused (R424, R461, log entry 106). -/
def Cluster.refuseDebug (c : Cluster) : Cluster :=
  match c.debugReq with
  | some bs =>
    let keep : BGroup → Bool := fun g => match g.done with
      | .debug _ => false
      | _ => true
    ({ c with spd := { c.spd with groups := c.spd.groups.filter keep } }).respond bs 2 []
  | none => c

/-- The agent's part of a CK_M cycle (R458, R461). -/
def Cluster.mossCycle (c : Cluster) : Cluster :=
  if !c.powered then c else if c.flt.fatal then c.refuseDebug.serveNext else c.serveNext

/-- The lines of a debug read have been read: its RESP goes out (R458, R474). -/
def Cluster.debugDone (c : Cluster) (bs data : List Byte) : Cluster := c.respond bs 0 data

/-- EVACK (R456, R468): it releases the oldest event if it carries that event's EVSEQ. -/
def evackC (c : Cluster) (bs : List Byte) : Cluster :=
  c.takeFrame bs 5 fun c =>
    match c.moss.events with
    | [] => c
    | e :: rest =>
      if fmLen bs = 2 && leNat (fmPayload bs) = e.seq then { c with moss := { c.moss with events := rest, evSent := none } } else c
def execEvack (bytes : List Byte) (s : State) : Host.Outcome State Fault Refusal := done s (evackC s.cl bytes)

/-- Send the oldest event (R468). -/
def Cluster.sendEvent (c : Cluster) (e : Event) : Cluster :=
  let c := c.putFrame (mkFrame 0 c.node 4 (e.seq % 256) 0 0 0 e.pay)
  { c with moss := { c.moss with evSent := some c.clk.ckm } }

/-- EVENT_SEND: the oldest event has not been sent yet (R468). -/
def eventSendC (c : Cluster) : Cluster :=
  match c.moss.events, c.moss.evSent with
  | e :: _, none => if c.powered then c.sendEvent e else c
  | _, _ => c
def execEventSend (s : State) : Host.Outcome State Fault Refusal := done s (eventSendC s.cl)

/-- EVENT_RESEND: 1,000 CK_M cycles after it was last sent (R468). -/
def eventResendC (c : Cluster) : Cluster :=
  match c.moss.events, c.moss.evSent with
  | e :: _, some t => if c.powered && decide (t + 1000 ≤ c.clk.ckm) then c.sendEvent e else c
  | _, _ => c
def execEventResend (s : State) : Host.Outcome State Fault Refusal := done s (eventResendC s.cl)

/-- DICT_WRITE (R466): a write to an entry that only stores its value. -/
def dictWriteC (c : Cluster) (i s : Nat) (value : List Byte) (g : Grants) : Cluster :=
  if !c.answers then c
  else
    let c := c.sample g
    if c.status g true i s value = 0 && (c.applyOwn g i s value).isNone then c.storeEntry i s (leNat value) else c
def execDictWrite (index : W16) (sub : Byte) (value : List Byte) (g : Grants) (s : State) :
    Host.Outcome State Fault Refusal := done s (dictWriteC s.cl index.toNat sub.toNat value g)

/-- DBGDATA_READ (R473, R474): the bytes leave with the RESP of the READ that asks for them. -/
def dbgdataReadC (c : Cluster) (count : Nat) (g : Grants) : Cluster :=
  if !c.answers then c
  else
    let c := c.sample g
    if c.status g false 0x3000 2 (leBytes 2 count) = 0 then (c.dbgRead count .quiet).2 else c
def execDbgdataRead (count : W16) (g : Grants) (s : State) : Host.Outcome State Fault Refusal :=
  done s (dbgdataReadC s.cl count.toNat g)

/-- DBGDATA_WRITE (R473, R474). -/
def dbgdataWriteC (c : Cluster) (data : List Byte) (g : Grants) : Cluster :=
  if !c.answers then c
  else
    let c := c.sample g
    if c.status g true 0x3000 2 data = 0 then c.dbgWrite g.maint data else c
def execDbgdataWrite (data : List Byte) (g : Grants) (s : State) : Host.Outcome State Fault Refusal :=
  done s (dbgdataWriteC s.cl data g)

end Sys2Proof.Machine
end

