-- ==== Sys2Proof/Machine/Arbiter.lean ====
section
/-! DEFINITION. The boundary arbiters of the banks, and what the completion of a group of requests does (R281, R284,
R285, R290, R291). Log entries of its readings and choices: 84 DEDUCED, 90 DEDUCED. -/

namespace Sys2Proof.Machine

/-- Bytes that a group has read, in the order of its requests. -/
def BGroup.bytes (g : BGroup) : List Byte := (sortOn (fun p => p.1) g.data).flatMap (fun p => p.2)

/-- What the completion of a group of requests does (R284, R291, R312). -/
def Cluster.groupDone (c : Cluster) (g : BGroup) : Cluster :=
  match g.done with
  | .rdReply lane f =>
    if g.bad then c.reply lane f.hdr 5 3 (fLmask f) [] else c.reply lane f.hdr 3 0 (fLmask f) (groupPayload g.data)
  | .wrReply lane f => c.reply lane f.hdr 4 0 (fLmask f) []
  | .putBlock _ _ _ => c
  | .getBlock ch ord k => (c.blockDone ch ord k).drainTurned
  | .hld n rd => c.hldDone g.id n rd g.bytes
  | .hst n => c.hstDone g.id n
  | .syncRead id => c.syncReadDone id (BitVec.ofNat 64 (leNat g.bytes)) g.bad
  | .syncWrite id => c.syncWriteDone id
  | .placeSpore i r n pad => c.placeSporeDone g.id i r n pad
  | .placeSorus e r n pad => c.placeSorusDone g.id e r n pad
  | .recvHead n => c.recvHeadDone g.id n g.bytes
  | .recvBody n head => c.recvBodyDone g.id n (head ++ g.bytes)
  | .sorusRead i => c.sorusReadDone g.id i (sortOn (fun p => p.1) g.data)
  | .sorusWrite i => c.sorusWriteDone g.id i
  | .sorusOut e => c.sorusOutDone g.id e g.bytes
  | .debug frame => c.debugDone frame g.bytes
  | .stage k => c.stageDone g.id k
  | .quiet => c

/-- A group after one of its requests. -/
def BGroup.serve (g : BGroup) (r : BReq) (bs : List Byte) (bad : Bool) : BGroup :=
  { g with left := g.left - 1, data := if r.wr.isNone then (r.idx, bs) :: g.data else g.data, bad := g.bad || bad }

/-- A group has its last request behind it: it acts, or waits for its channel's turn (R307). -/
def Cluster.groupEnd (c : Cluster) (g : BGroup) : Cluster :=
  match g.done with
  | .putBlock ch _ _ => c.flushPuts ch c.spd.groups.length
  | _ => ({ c with spd := { c.spd with groups := c.spd.groups.filter (fun h => h.id != g.id) } }).groupDone g

/-- Enter the service of one request into its group; the last one ends the group. -/
def Cluster.groupServe (c : Cluster) (r : BReq) (bs : List Byte) (bad : Bool) : Cluster :=
  match c.spd.groups.find? (fun g => g.id == r.grp) with
  | none => c
  | some g =>
    let g := g.serve r bs bad
    let c := { c with spd := { c.spd with groups := c.spd.groups.map (fun h => if h.id = g.id then g else h) } }
    if g.left = 0 then c.groupEnd g else c

/-- Context with which a request's errors are logged (R294). -/
def Cluster.reqCtx (c : Cluster) (r : BReq) : Nat :=
  match c.spd.groups.find? (fun g => g.id == r.grp) with
  | some g => g.ctx
  | none => 0

/-- What the group of a request is for. -/
def Cluster.doneOf (c : Cluster) (grp : Nat) : BDone :=
  match c.spd.groups.find? (fun g => g.id == grp) with
  | some g => g.done
  | none => .quiet

/-- Sums of a sorus entry that uncorrectable words of a line, as a request is about to read it, take with them (R291,
R346). -/
def Cluster.areaLost (c : Cluster) (r : BReq) : Cluster :=
  let a := r.line * 64
  let ue := (c.ueWords a 64).map (fun w => (w - a) / 8)
  match c.doneOf r.grp with
  | .sorusRead i =>
    (match vat c.store i none with
     | some sp => if sp.grp = some r.grp then c.loseSums (sDring sp.hdr % 512) r.idx ue else c
     | none => c)
  | .sorusOut e => if c.sorRes.any (fun x => x.e == e && x.grp == some r.grp) then c.loseSums e r.idx ue else c
  | _ => c

/-- Is a request the write of an HST whose context is torn down by now: it writes nothing (R272)? -/
def Cluster.hstTorn (c : Cluster) (r : BReq) : Bool :=
  match c.doneOf r.grp with
  | .hst _ => c.tornSeen (c.reqCtx r)
  | _ => false

/-- Perform one boundary request (R285, R290, R291). -/
def Cluster.serveReq (c : Cluster) (r : BReq) : Cluster :=
  let a := r.line * 64 + r.off
  match r.wr with
  | some bs => (if c.hstTorn r then c else c.spdWriteLine a bs).groupServe r [] false
  | none =>
    let p := (c.areaLost r).spdRead 1 (c.reqCtx r) a r.len
    p.2.1.groupServe r p.1 p.2.2

/-- The request a bank's arbiter serves next, round-robin by class (R284). -/
def Cluster.nextReq (c : Cluster) (p : Nat) : Option BReq :=
  let rs := c.bankReqs p
  let ptr := (Sparse.get c.spd.rr p).toNat
  ((List.range 6).filterMap (fun i => rs.find? (fun r => r.cls == (ptr + i) % 6))).head?

/-- The state of a bank's slots after the arbiter was served (R281, R284, R297). -/
def Cluster.arbiterServed (c : Cluster) (p cls grp idx : Nat) : Cluster :=
  { c.take p with spd := { (c.take p).spd with
      reqs := c.spd.reqs.filter (fun r => !(r.grp == grp && r.idx == idx))
      rr := Sparse.set c.spd.rr p (BitVec.ofNat 8 ((cls + 1) % 6))
      turn := c.spd.turn &&& ~~~BitVec.ofNat 256 (2 ^ p) } }

/-- BOUNDARY_ACCESS (R284). -/
def boundaryAccessC (c : Cluster) (p : Nat) : Cluster :=
  if c.slotOpen p && c.arbiterTurn p then
    match c.nextReq p with
    | none => c
    | some r => (c.arbiterServed p r.cls r.grp r.idx).serveReq r
  else c
def execBoundaryAccess (bank : BankId) (s : State) : Host.Outcome State Fault Refusal := done s (boundaryAccessC s.cl bank.val)

end Sys2Proof.Machine
end

