-- ==== Sys2Proof/Machine/Fabric.lean ====
section
/-! DEFINITION. Inbound flits of every type, and the re-send timer (R311 to R317, R363). Log entries of its readings
and choices: 7 DESIGN CHOICE, 43 DEDUCED, 44 DEDUCED, 85 DEDUCED, 91 DESIGN CHOICE. -/

namespace Sys2Proof.Machine

/-- Does a flit pass its CRC with a defined type (R312, R314)? -/
def flitGood (f : Flit) : Bool := f.crc == crc32c (hdrBytes f.hdr ++ f.payload) && decide (fType f < 10)

/-- Do the lanes of a flit type's network include a lane (R19, R312)? LINK flows on every lane. -/
def onNet (ty lane : Nat) : Bool :=
  match ty with
  | 0 => true
  | 1 | 2 | 6 | 8 | 9 => decide (lane < 2)
  | _ => decide (2 ≤ lane)

/-- Does the cluster withhold the credits of a lane: the landing buffer is full (R317)? -/
def Cluster.laneShut (c : Cluster) (lane : Nat) : Bool := decide (2 ≤ lane) && decide (64 ≤ c.landing)

/-- A flit arrives on an inbound half (R314, R315): CRC, sequence and acknowledgement, then its delivery. A good flit
whose TYPE is another row's, or of the other network, does not arrive under this row; nor does any flit on a lane
without credit. -/
def Cluster.flitIn (c : Cluster) (ty lane : Nat) (f : Flit) (deliver : Cluster → Cluster) : Cluster :=
  if !c.live || !(c.lane lane).up || c.laneShut lane then c
  else if flitGood f && (fType f != ty || !onNet ty lane) then c
  else
    let p := c.accept lane f
    (if p.2 then deliver p.1 else p.1).flushAck lane

/-- Does a request flit name this cluster (R26)? -/
def Cluster.ownFlit (c : Cluster) (f : Flit) : Bool := fGaddr f / 2 ^ 40 == c.straps.toNat

/-- LINK: an acknowledgement (R312, R315). -/
def linkFlitC (c : Cluster) (l : Nat) (f : Flit) : Cluster := c.flitIn 0 l f (fun c => c)
def execLinkFlit (lane : LaneId) (f : Flit) (s : State) : Host.Outcome State Fault Refusal := done s (linkFlitC s.cl lane.val f)

/-- RD (R312). -/
def rdReqC (c : Cluster) (l : Nat) (f : Flit) : Cluster := c.flitIn 1 l f (fun c => c.serveRd l f)
def execRdReq (lane : LaneId) (f : Flit) (s : State) : Host.Outcome State Fault Refusal := done s (rdReqC s.cl lane.val f)

/-- WR (R312, R396). -/
def wrReqC (c : Cluster) (l : Nat) (f : Flit) : Cluster :=
  c.flitIn 2 l f (fun c => c.serveWr l f)
def execWrReq (lane : LaneId) (f : Flit) (s : State) : Host.Outcome State Fault Refusal := done s (wrReqC s.cl lane.val f)

/-- RDDATA (R317). -/
def rdDataC (c : Cluster) (l : Nat) (f : Flit) : Cluster := c.flitIn 3 l f (fun c => c.takeReply f.hdr f.payload)
def execRdData (lane : LaneId) (f : Flit) (s : State) : Host.Outcome State Fault Refusal := done s (rdDataC s.cl lane.val f)

/-- WRACK (R312). -/
def wrAckC (c : Cluster) (l : Nat) (f : Flit) : Cluster := c.flitIn 4 l f (fun c => c.takeReply f.hdr [])
def execWrAck (lane : LaneId) (f : Flit) (s : State) : Host.Outcome State Fault Refusal := done s (wrAckC s.cl lane.val f)

/-- ERR (R308, R312, R332, R364). -/
def errReplyC (c : Cluster) (l : Nat) (f : Flit) : Cluster := c.flitIn 5 l f (fun c => c.takeReply f.hdr [])
def execErrReply (lane : LaneId) (f : Flit) (s : State) : Host.Outcome State Fault Refusal := done s (errReplyC s.cl lane.val f)

/-- SPORE (R333); one for another cluster or SPACE is answered ERR UNMAPPED (log entry 91). -/
def sporeFlitC (c : Cluster) (l : Nat) (f : Flit) : Cluster :=
  c.flitIn 6 l f (fun c => if c.ownFlit f then c.sporeArrive l f else c.reply l f.hdr 5 1 (fLmask f) [])
def execSporeFlit (lane : LaneId) (f : Flit) (s : State) : Host.Outcome State Fault Refusal := done s (sporeFlitC s.cl lane.val f)

/-- SPREPLY (R332). -/
def spReplyC (c : Cluster) (l : Nat) (f : Flit) : Cluster := c.flitIn 7 l f (fun c => c.takeReply f.hdr [])
def execSpReply (lane : LaneId) (f : Flit) (s : State) : Host.Outcome State Fault Refusal := done s (spReplyC s.cl lane.val f)

/-- SYNC flit (R363; log entry 91 for one that names another cluster or SPACE). -/
def syncFlitC (c : Cluster) (l : Nat) (f : Flit) : Cluster :=
  c.flitIn 8 l f (fun c => if c.ownFlit f then c.syncArrive l f else c.reply l f.hdr 5 1 (fLmask f) [])
def execSyncFlit (lane : LaneId) (f : Flit) (s : State) : Host.Outcome State Fault Refusal := done s (syncFlitC s.cl lane.val f)

/-- SORUS flit (R333; log entry 91 for one that names another cluster or SPACE). -/
def sorusFlitC (c : Cluster) (l : Nat) (f : Flit) : Cluster :=
  c.flitIn 9 l f (fun c => if c.ownFlit f then c.sporeArrive l f else c.reply l f.hdr 5 1 (fLmask f) [])
def execSorusFlit (lane : LaneId) (f : Flit) (s : State) : Host.Outcome State Fault Refusal := done s (sorusFlitC s.cl lane.val f)

/-- Has the oldest unacknowledged flit of a lane waited RESEND_TO = 1,024 CK_F cycles (R315)? -/
def Cluster.resendDue (c : Cluster) (l : Nat) : Bool :=
  (c.lane l).up && (match (c.lane l).kept with
    | k :: _ => k.sends != 0 && decide (k.at_ + 1024 ≤ c.clk.free)
    | [] => false)

/-- RESEND_TIMEOUT (R315, R316). -/
def resendTimeoutC (c : Cluster) (l : Nat) : Cluster := if c.live && c.resendDue l then c.resendAll l else c
def execResendTimeout (lane : LaneId) (s : State) : Host.Outcome State Fault Refusal := done s (resendTimeoutC s.cl lane.val)

end Sys2Proof.Machine
end

