-- ==== Sys2Proof/Machine/Dispatch.lean ====
section
/-! DEFINITION. The dispatch of every command to its meaning, arm by arm. -/

namespace Sys2Proof.Machine

/-- The effect of a command on everything but the queue. -/
def exec (i : Instr) (s : State) : Host.Outcome State Fault Refusal :=
  match i with
  | .powerGood => Sys2Proof.Machine.execPowerGood s
  | .powerLoss => Sys2Proof.Machine.execPowerLoss s
  | .pllLock => Sys2Proof.Machine.execPllLock s
  | .pllLockTimeout => Sys2Proof.Machine.execPllLockTimeout s
  | .droopCalibrationDone cal => Sys2Proof.Machine.execDroopCalibrationDone cal s
  | .calibrationTimeout => Sys2Proof.Machine.execCalibrationTimeout s
  | .crossingAlign j => Sys2Proof.Machine.execCrossingAlign j s
  | .crossingAlignTimeout lane => Sys2Proof.Machine.execCrossingAlignTimeout lane s
  | .tbLoadTimeout => Sys2Proof.Machine.execTbLoadTimeout s
  | .stageComplete find => Sys2Proof.Machine.execStageComplete find s
  | .alignmentPulse v => Sys2Proof.Machine.execAlignmentPulse v s
  | .alignmentPulseMissing => Sys2Proof.Machine.execAlignmentPulseMissing s
  | .droopRequest level => Sys2Proof.Machine.execDroopRequest level s
  | .stretchDecay => Sys2Proof.Machine.execStretchDecay s
  | .stretchTimeout => Sys2Proof.Machine.execStretchTimeout s
  | .clockMonitorWindow count => Sys2Proof.Machine.execClockMonitorWindow count s
  | .pllLossOfLock => Sys2Proof.Machine.execPllLossOfLock s
  | .railFault => Sys2Proof.Machine.execRailFault s
  | .thermalTrip => Sys2Proof.Machine.execThermalTrip s
  | .collectorParityError => Sys2Proof.Machine.execCollectorParityError s
  | .throttleRequest req => Sys2Proof.Machine.execThrottleRequest req s
  | .throttlePeriod => Sys2Proof.Machine.execThrottlePeriod s
  | .telemetryUpdate t => Sys2Proof.Machine.execTelemetryUpdate t s
  | .aliveToggle => Sys2Proof.Machine.execAliveToggle s
  | .holdBegin => Sys2Proof.Machine.execHoldBegin s
  | .holdEnd => Sys2Proof.Machine.execHoldEnd s
  | .holdTimeout => Sys2Proof.Machine.execHoldTimeout s
  | .crossingRecentre j fill => Sys2Proof.Machine.execCrossingRecentre j fill s
  | .opEnd q => Sys2Proof.Machine.execOpEnd q s
  | .mma a => Sys2Proof.Machine.execMma a s
  | .mmas a => Sys2Proof.Machine.execMmas a s
  | .mmag a => Sys2Proof.Machine.execMmag a s
  | .mmac a => Sys2Proof.Machine.execMmac a s
  | .mdrain a => Sys2Proof.Machine.execMdrain a s
  | .mpre a => Sys2Proof.Machine.execMpre a s
  | .mnul a => Sys2Proof.Machine.execMnul a s
  | .drain a => Sys2Proof.Machine.execDrain a s
  | .tcfg n => Sys2Proof.Machine.execTcfg n s
  | .tld n => Sys2Proof.Machine.execTld n s
  | .tst n => Sys2Proof.Machine.execTst n s
  | .tmov n => Sys2Proof.Machine.execTmov n s
  | .trel n => Sys2Proof.Machine.execTrel n s
  | .tzero n => Sys2Proof.Machine.execTzero n s
  | .vrun n => Sys2Proof.Machine.execVrun n s
  | .vbcast n => Sys2Proof.Machine.execVbcast n s
  | .vred n => Sys2Proof.Machine.execVred n s
  | .vtopk n => Sys2Proof.Machine.execVtopk n s
  | .vgath n => Sys2Proof.Machine.execVgath n s
  | .vscat n => Sys2Proof.Machine.execVscat n s
  | .vcvt n => Sys2Proof.Machine.execVcvt n s
  | .vstat n => Sys2Proof.Machine.execVstat n s
  | .dmget c => Sys2Proof.Machine.execDmget c s
  | .dmput c => Sys2Proof.Machine.execDmput c s
  | .dmarr c => Sys2Proof.Machine.execDmarr c s
  | .launch => Sys2Proof.Machine.execLaunch s
  | .segbr => Sys2Proof.Machine.execSegbr s
  | .ppmark => Sys2Proof.Machine.execPpmark s
  | .saveComplete => Sys2Proof.Machine.execSaveComplete s
  | .screed => Sys2Proof.Machine.execScreed s
  | .dispatch => Sys2Proof.Machine.execDispatch s
  | .issue n => Sys2Proof.Machine.execIssue n s
  | .walkerQfullResume n => Sys2Proof.Machine.execWalkerQfullResume n s
  | .loop n => Sys2Proof.Machine.execLoop n s
  | .endl n => Sys2Proof.Machine.execEndl n s
  | .waitk n => Sys2Proof.Machine.execWaitk n s
  | .waitkRelease n => Sys2Proof.Machine.execWaitkRelease n s
  | .sel n => Sys2Proof.Machine.execSel n s
  | .selResume n => Sys2Proof.Machine.execSelResume n s
  | .jmp n => Sys2Proof.Machine.execJmp n s
  | .syncRec n => Sys2Proof.Machine.execSyncRec n s
  | .endWalk n => Sys2Proof.Machine.execEndWalk n s
  | .add n => Sys2Proof.Machine.execAdd n s
  | .sub n => Sys2Proof.Machine.execSub n s
  | .andR n => Sys2Proof.Machine.execAndR n s
  | .orR n => Sys2Proof.Machine.execOrR n s
  | .xorR n => Sys2Proof.Machine.execXorR n s
  | .shl n => Sys2Proof.Machine.execShl n s
  | .shr n => Sys2Proof.Machine.execShr n s
  | .shra n => Sys2Proof.Machine.execShra n s
  | .mul n => Sys2Proof.Machine.execMul n s
  | .mulhu n => Sys2Proof.Machine.execMulhu n s
  | .mulhs n => Sys2Proof.Machine.execMulhs n s
  | .minS n => Sys2Proof.Machine.execMinS n s
  | .maxS n => Sys2Proof.Machine.execMaxS n s
  | .minU n => Sys2Proof.Machine.execMinU n s
  | .maxU n => Sys2Proof.Machine.execMaxU n s
  | .addi n => Sys2Proof.Machine.execAddi n s
  | .andi n => Sys2Proof.Machine.execAndi n s
  | .ori n => Sys2Proof.Machine.execOri n s
  | .xori n => Sys2Proof.Machine.execXori n s
  | .shli n => Sys2Proof.Machine.execShli n s
  | .shri n => Sys2Proof.Machine.execShri n s
  | .shrai n => Sys2Proof.Machine.execShrai n s
  | .movk n => Sys2Proof.Machine.execMovk n s
  | .cmp n => Sys2Proof.Machine.execCmp n s
  | .cmpi n => Sys2Proof.Machine.execCmpi n s
  | .plog n => Sys2Proof.Machine.execPlog n s
  | .br n => Sys2Proof.Machine.execBr n s
  | .jal n => Sys2Proof.Machine.execJal n s
  | .jr n => Sys2Proof.Machine.execJr n s
  | .ld64 n => Sys2Proof.Machine.execLd64 n s
  | .ld32u n => Sys2Proof.Machine.execLd32u n s
  | .st64 n => Sys2Proof.Machine.execSt64 n s
  | .st32 n => Sys2Proof.Machine.execSt32 n s
  | .hld n => Sys2Proof.Machine.execHld n s
  | .hst n => Sys2Proof.Machine.execHst n s
  | .rrd n => Sys2Proof.Machine.execRrd n s
  | .rwr n => Sys2Proof.Machine.execRwr n s
  | .wstep n => Sys2Proof.Machine.execWstep n s
  | .wstat n => Sys2Proof.Machine.execWstat n s
  | .wdrain n => Sys2Proof.Machine.execWdrain n s
  | .sywaitFull n => Sys2Proof.Machine.execSywaitFull n s
  | .sywaitTake n => Sys2Proof.Machine.execSywaitTake n s
  | .sywaitGe n => Sys2Proof.Machine.execSywaitGe n s
  | .sywaitEmpty n => Sys2Proof.Machine.execSywaitEmpty n s
  | .sywaitPoll n => Sys2Proof.Machine.execSywaitPoll n s
  | .sysigSet n => Sys2Proof.Machine.execSysigSet n s
  | .sysigAdd n => Sys2Proof.Machine.execSysigAdd n s
  | .sysigOr n => Sys2Proof.Machine.execSysigOr n s
  | .sysigClear n => Sys2Proof.Machine.execSysigClear n s
  | .sysigFence n => Sys2Proof.Machine.execSysigFence n s
  | .spsendWait n => Sys2Proof.Machine.execSpsendWait n s
  | .spsendPosted n => Sys2Proof.Machine.execSpsendPosted n s
  | .spsendFence n => Sys2Proof.Machine.execSpsendFence n s
  | .sprecvPoll n => Sys2Proof.Machine.execSprecvPoll n s
  | .sprecvWait n => Sys2Proof.Machine.execSprecvWait n s
  | .sprecvDiscard n => Sys2Proof.Machine.execSprecvDiscard n s
  | .sprecvOcc n => Sys2Proof.Machine.execSprecvOcc n s
  | .recvTimeout n => Sys2Proof.Machine.execRecvTimeout n s
  | .tbrd n => Sys2Proof.Machine.execTbrd n s
  | .lccrd n => Sys2Proof.Machine.execLccrd n s
  | .tbwait n => Sys2Proof.Machine.execTbwait n s
  | .tbwaitRelease n => Sys2Proof.Machine.execTbwaitRelease n s
  | .lccwait n => Sys2Proof.Machine.execLccwait n s
  | .lccwaitRelease n => Sys2Proof.Machine.execLccwaitRelease n s
  | .setctx n => Sys2Proof.Machine.execSetctx n s
  | .halt n => Sys2Proof.Machine.execHalt n s
  | .nop n => Sys2Proof.Machine.execNop n s
  | .scrubRequest => Sys2Proof.Machine.execScrubRequest s
  | .scrub bank => Sys2Proof.Machine.execScrub bank s
  | .repairWrite bank => Sys2Proof.Machine.execRepairWrite bank s
  | .boundaryAccess bank => Sys2Proof.Machine.execBoundaryAccess bank s
  | .dmvBlockSend c => Sys2Proof.Machine.execDmvBlockSend c s
  | .dmTimeout c slot => Sys2Proof.Machine.execDmTimeout c slot s
  | .linkFlit lane f => Sys2Proof.Machine.execLinkFlit lane f s
  | .rdReq lane f => Sys2Proof.Machine.execRdReq lane f s
  | .wrReq lane f => Sys2Proof.Machine.execWrReq lane f s
  | .rdData lane f => Sys2Proof.Machine.execRdData lane f s
  | .wrAck lane f => Sys2Proof.Machine.execWrAck lane f s
  | .errReply lane f => Sys2Proof.Machine.execErrReply lane f s
  | .sporeFlit lane f => Sys2Proof.Machine.execSporeFlit lane f s
  | .spReply lane f => Sys2Proof.Machine.execSpReply lane f s
  | .syncFlit lane f => Sys2Proof.Machine.execSyncFlit lane f s
  | .sorusFlit lane f => Sys2Proof.Machine.execSorusFlit lane f s
  | .resendTimeout lane => Sys2Proof.Machine.execResendTimeout lane s
  | .sporePlacement ring => Sys2Proof.Machine.execSporePlacement ring s
  | .sorusAdd e => Sys2Proof.Machine.execSorusAdd e s
  | .sorusResultPlace e => Sys2Proof.Machine.execSorusResultPlace e s
  | .sorusResultTimeout e => Sys2Proof.Machine.execSorusResultTimeout e s
  | .ringTimeout h => Sys2Proof.Machine.execRingTimeout h s
  | .replyTimeout n slot => Sys2Proof.Machine.execReplyTimeout n slot s
  | .syncApply => Sys2Proof.Machine.execSyncApply s
  | .waitTimeout n => Sys2Proof.Machine.execWaitTimeout n s
  | .signalSend n slot => Sys2Proof.Machine.execSignalSend n slot s
  | .signalResend n slot => Sys2Proof.Machine.execSignalResend n slot s
  | .signalTimeout n slot => Sys2Proof.Machine.execSignalTimeout n slot s
  | .quietExpiry => Sys2Proof.Machine.execQuietExpiry s
  | .frameForward bytes => Sys2Proof.Machine.execFrameForward bytes s
  | .readFrame bytes g => Sys2Proof.Machine.execReadFrame bytes g s
  | .writeFrame bytes g => Sys2Proof.Machine.execWriteFrame bytes g s
  | .evack bytes => Sys2Proof.Machine.execEvack bytes s
  | .eventSend => Sys2Proof.Machine.execEventSend s
  | .eventResend => Sys2Proof.Machine.execEventResend s
  | .dictWrite index sub value g => Sys2Proof.Machine.execDictWrite index sub value g s
  | .openIntake => Sys2Proof.Machine.execOpenIntake s
  | .commit => Sys2Proof.Machine.execCommit s
  | .abandon => Sys2Proof.Machine.execAbandon s
  | .acceptanceVerdict accept => Sys2Proof.Machine.execAcceptanceVerdict accept s
  | .acceptTimeout => Sys2Proof.Machine.execAcceptTimeout s
  | .admission => Sys2Proof.Machine.execAdmission s
  | .retire slot => Sys2Proof.Machine.execRetire slot s
  | .retirement slot => Sys2Proof.Machine.execRetirement slot s
  | .dispatchSubmit => Sys2Proof.Machine.execDispatchSubmit s
  | .dispatchCancel lid => Sys2Proof.Machine.execDispatchCancel lid s
  | .stopRequest => Sys2Proof.Machine.execStopRequest s
  | .teardownRequest ctx => Sys2Proof.Machine.execTeardownRequest ctx s
  | .rearm ctx => Sys2Proof.Machine.execRearm ctx s
  | .snapshot ctx => Sys2Proof.Machine.execSnapshot ctx s
  | .ringReset v => Sys2Proof.Machine.execRingReset v s
  | .sorusReset v => Sys2Proof.Machine.execSorusReset v s
  | .parkAbort c => Sys2Proof.Machine.execParkAbort c s
  | .windowCommit w v => Sys2Proof.Machine.execWindowCommit w v s
  | .budgetWrite v => Sys2Proof.Machine.execBudgetWrite v s
  | .throttleFloorWrite v => Sys2Proof.Machine.execThrottleFloorWrite v s
  | .scrubIntervalWrite v => Sys2Proof.Machine.execScrubIntervalWrite v s
  | .fenceThresholdWrite which v => Sys2Proof.Machine.execFenceThresholdWrite which v s
  | .bankFenceMaskWrite k v g => Sys2Proof.Machine.execBankFenceMaskWrite k v g s
  | .coreFenceMaskWrite v g => Sys2Proof.Machine.execCoreFenceMaskWrite v g s
  | .badColumnMapWrite a v g => Sys2Proof.Machine.execBadColumnMapWrite a v g s
  | .acknowledge v => Sys2Proof.Machine.execAcknowledge v s
  | .clearFirst => Sys2Proof.Machine.execClearFirst s
  | .forceFault src g => Sys2Proof.Machine.execForceFault src g s
  | .forceDisarm src g => Sys2Proof.Machine.execForceDisarm src g s
  | .haltRequest g => Sys2Proof.Machine.execHaltRequest g s
  | .haltRelease g => Sys2Proof.Machine.execHaltRelease g s
  | .stepHalted count g => Sys2Proof.Machine.execStepHalted count g s
  | .debugGrantWithdraw => Sys2Proof.Machine.execDebugGrantWithdraw s
  | .dbgdataRead count g => Sys2Proof.Machine.execDbgdataRead count g s
  | .dbgdataWrite data g => Sys2Proof.Machine.execDbgdataWrite data g s
  | .readAheadOfStart a => Sys2Proof.Machine.execReadAheadOfStart a s
  | .fintbRecord ctx => Sys2Proof.Machine.execFintbRecord ctx s

end Sys2Proof.Machine
end

