-- ==== Sys2Proof/Machine/Cycle.lean ====
section
/-! DEFINITION. An executed cycle of the static domain (R30, R172, R198, R281, R282): every unit reads what stood at
the start of the cycle, and then the results that are due land, in the order of their writers. Log entries of its
readings and choices: 12 DEDUCED, 41 DESIGN CHOICE, 70 DEDUCED. -/

namespace Sys2Proof.Machine

/-- Bytes land in a tile as a stream from byte off of row r (R196, R199). -/
def Cluster.landStream (c : Cluster) (n t r off lo hi : Nat) (bs : List Byte) : Cluster :=
  let k := r * c.tileB n t + off
  let bs := keepBits lo hi (c.tileByte n t k).toNat (c.tileByte n t (k + bs.length - 1)).toNat bs
  c.tileStream n t k bs

/-- Bytes land in a row of a tile (R196, R199). -/
def Cluster.landRow (c : Cluster) (n t r : Nat) (bs : List Byte) : Cluster := c.tileWrite n t r 0 bs

/-- A result is delivered; drain groups go on through their skim instead. -/
def Cluster.deliver (c : Cluster) (w : Post) : Cluster :=
  match w with
  | .row n t r bs => c.landRow n t r bs
  | .stream n t r off lo hi bs => c.landStream n t r off lo hi bs
  | .sbuf n off bs => c.sbufWrite n off bs
  | .spd q a lo hi bs => c.portWrite q a lo hi bs
  | .feed n kind l => c.landLine n kind l
  | .skim a j i k g => c.skimPass a j i k g
  | .stat a slot recs => c.landStat a slot recs
  | .config n o => c.doConfig n o
  | .choice log cores r => c.landChoice log cores r

/-- Is a result a drain group in the skim, which reads operands (R147)? -/
def Post.inSkim : Post → Bool
  | .skim _ _ _ _ _ => true
  | _ => false

/-- Take the results off the pipelines that are due in this cycle: those in the skim, or the others by rank (R198). -/
def Cluster.duePosts (c : Cluster) (skim : Bool) : List Posted :=
  sortOn (fun p => p.rank) (c.posts.filter (fun p => decide (p.at_ ≤ c.lcc) && p.what.inSkim == skim))

/-- Deliver the results that are due. -/
def Cluster.deliverAll (c : Cluster) (skim : Bool) : Cluster :=
  let due := c.duePosts skim
  ({ c with posts := c.posts.filter (fun p => !(decide (p.at_ ≤ c.lcc) && p.what.inSkim == skim)) }).each due (fun c p => c.deliver p.what)

/-- What the static units read in this cycle. -/
def Cluster.unitReads (c : Cluster) : Cluster :=
  (((c.each c.movs (fun c m => c.movRead m)).each (List.range 8) (fun c n => c.vecCycle n)).each (List.range 32)
    (fun c a => c.arrayCycle a)).deliverAll true

/-- One executed cycle of the static domain: the feeder slots that lines of the cycle land in are given up first (R94). A
lining that ends in it leaves nothing under way. -/
def Cluster.staticCycle (c : Cluster) : Cluster :=
  let c := ((c.countConflicts.each (List.range 8) Cluster.freeSlots).unitReads).deliverAll false
  if c.run.isNone then c.dropOps else c

/-- Static port uses by the writes that are due in this cycle: one to a line (R282, R283). -/
def Cluster.writeUses (c : Cluster) : List (Nat × Nat) :=
  let touch : Posted → List (Nat × Nat) := fun p => match p.what with
    | .spd q a _ _ bs => if p.at_ = c.lcc then (linesOf a bs.length).map (fun l => (q, l)) else []
    | _ => []
  ((c.posts.flatMap touch).eraseDups).map (fun x => (x.2 % 256, 2 * x.1 + 1))

/-- The static port uses of the cycle just reached, by what is under way (R282, R283). -/
def Cluster.enterUses (c : Cluster) : Cluster :=
  let c := { c with uses := c.movs.flatMap c.movUses ++ (List.range 8).flatMap c.vecReadUses ++ c.writeUses }
  c.enterSegs.each (List.range 32) (fun c a => c.fillIssue a)

end Sys2Proof.Machine
end

