-- ==== Sys2Proof/Machine/Tick.lean ====
section
/-! DEFINITION. One cycle of the clocks with no command waiting (R10, R30, R42 to R48, R434 to R442, R475). Log
entries of its readings and choices: 8 DESIGN CHOICE, 78 DEDUCED. -/

namespace Sys2Proof.Machine

/-- One tick of CK_T: TB advances by 1, or by 2 or 0 in every 16th tick while it slews (R441, R442); ticks of a
DEBUG hold freeze the timeouts (R43). -/
def Cluster.passTk (c : Cluster) : Cluster :=
  let t := c.tb
  if !t.runs then c
  else
    let slew := t.debt != 0
    let turn := slew && decide (15 ≤ t.slewN)
    let step := if turn then (if t.debt < 0 then 2 else 0) else 1
    let t := { t with
      value := t.value + BitVec.ofNat 64 step
      debt := if turn then (if t.debt < 0 then t.debt + 1 else t.debt - 1) else t.debt
      slewN := if turn then 0 else if slew then t.slewN + 1 else 0
      dbgTk := if c.halted then t.dbgTk + step else t.dbgTk }
    { c with tb := t }

/-- Stretch counters of one CK_A cycle (R437, R440). -/
def Cluster.countStretch (c : Cluster) : Cluster :=
  let l := c.level
  if l = 0 then c
  else
    let c := (c.bump (rClk + 0x18) (rClk + 0x30) 0 l).bump (rClk + 0x20) (rClk + 0x30) 1 1
    if c.tim.running then c.setReg (rClk + 0x10) (c.regAt (rClk + 0x10) + BitVec.ofNat 64 l) else c

/-- Accounting of one held cycle (R45, R46). -/
def Cluster.countHeld (c : Cluster) : Cluster :=
  let top := topCause c.holdAct
  let c := (c.bump 0x20001010 0x20001040 0 1).bump (0x20001018 + 8 * top) 0x20001040 (1 + top) 1
  let c := { c with tim := { c.tim with held := c.tim.held + 1 } }
  match c.run with
  | none => c
  | some r =>
    let c := c.each r.ctxs (fun c k => (c.setCtx k { c.ctx k with hchg := (c.ctx k).hchg + 1 }).account k 5 1)
    match c.tim.hold with
    | some h => if top ≤ 1 then c.each h.blame (fun c k => c.account k 6 1) else c
    | none => c

/-- DEBUG joins or leaves the causes of a hold: the halt begins or ends (R469, R475). -/
def Cluster.haltTurn (c : Cluster) (was is_ : Bool) (t : Nat) : Cluster :=
  if was == is_ then c else if is_ then (if c.tim.haltKept then c else c.haltEvent true t) else c.haltOver t

/-- A hold in force at the end of one of its cycles: its causes are evaluated again, and the exit cycle ends it; the one
decided for the LCC value behind it comes next (R41). -/
def Cluster.ageHold (c : Cluster) : Cluster :=
  match c.tim.hold with
  | none => c
  | some h =>
    if c.lcc < h.target then c
    else if h.exit = 2 then { c with tim := { c.tim with hold := c.tim.next, next := none } }
    else
      let m := if h.exit = 0 then c.causes h.target else 0
      let mask := if m = 0 then h.mask else m
      let h2 := { h with
        begun := true
        since := if h.begun then h.since else c.tk
        limit := if h.begun then h.limit else c.dictAt 0x2400 0x10
        exit := if h.exit = 1 then 2 else 0
        mask := mask
        blame := if m % 8 = 0 then h.blame else c.blameOf h.target (m % 8) }
      ({ c with tim := { c.tim with hold := some h2 } }).haltTurn (h.mask.testBit 4) (mask.testBit 4) h.target

/-- CK_C cycles that walkers spend stalled on a full queue (R258). -/
def Cluster.countFull (c : Cluster) : Cluster :=
  if c.clk.free % 2 = 0 && !c.debugHeld then
    c.each (List.range 8) (fun c n =>
      if (c.core n).walkRun && (c.core n).wwait == 1 then c.bump (rCore n + 0x20) (rCore n + 0x38) 0 1 else c)
  else c

/-- Waits that end with TORN in the cycle a teardown takes effect (R272). -/
def Cluster.endTorn (c : Cluster) : Cluster :=
  c.each (List.range 8) (fun c n =>
    match vat c.waiters n none with
    | some w =>
      if c.tornSeen w.ctx then
        let c := { c with waiters := vset c.waiters n none }
        let x := c.core n
        if w.engine then c.setCore n { x with wwait := 0, widx := x.widx + 1 }
        else c.setCore n (x.setS w.rs 3).adv
      else c
    | none =>
      let x := c.core n
      match x.stall with
      | .recv _ rd _ rs _ => if c.tornSeen x.cur then c.setCore n ((x.setS rd 0).setS rs 3).adv else c
      | .recvRead _ rd _ rs _ _ => if c.tornSeen x.cur then c.setCore n ((x.setS rd 0).setS rs 3).adv else c
      | _ => c)

/-- The end of a CK_M cycle: the collector takes its faults, the threshold offset takes effect, and the moss agent goes
on to the request that waits next (R413, R439, R458). -/
def Cluster.passCkm (c : Cluster) : Cluster :=
  let c := c.collect
  ({ c with clk := { c.clk with thOff := sextN 32 (c.dictAt 0x2000 5) } }).mossCycle

/-- HALTREQ goes to the evaluation of the next CK_A cycle; a halt kept from a lining that has ended is over once HALTREQ
is clear (R475). -/
def Cluster.passHalt (c : Cluster) : Cluster :=
  let c := { c with tim := { c.tim with haltSeen := c.tim.haltReq, stepEnd := if c.tim.haltReq then c.tim.stepEnd else none } }
  if c.tim.haltKept && !c.tim.running && !c.tim.haltReq then c.haltOver 0 else c

/-- The counts of the free-running cycle: CLK_FREE, the unstretched run, the duty of the next period, and the
phases of CK_T and CK_M (R10, R42, R434, R436). -/
def Cluster.passClocks (c : Cluster) : Cluster :=
  let l := c.level
  let k := c.clk
  let pt := k.phaseT + 8 + l
  let pm := k.phaseM + 8 + l
  let c := c.passCrossings l
  let k := c.clk
  let c := { c with
    tim := { c.tim with dutyNext := if (k.free + 1) % 256 = 0 then c.dutyNow else c.tim.dutyNext }
    clk := { k with
      free := k.free + 1
      unstretched := if l = 0 then k.unstretched + 1 else 0
      phaseT := pt % 112, phaseM := pm % 140, ckm := k.ckm + pm / 140 } }
  let c := if 112 ≤ pt then c.passTk else c
  if 140 ≤ pm then c.passCkm else c

/-- An armed compare of a core that stalls disagrees in its next CK_C cycle (R278, R432). -/
def Cluster.stallStops (c : Cluster) : Cluster :=
  if c.clk.free % 2 = 0 then c.each (List.range 8) (fun c n => if c.lockstepArmed n then c.lockstepStop n else c) else c

/-- A lining with nothing left to start ends (R35), also when no op of it remains to end. -/
def Cluster.endIdle (c : Cluster) : Cluster :=
  match c.run with
  | some r => if r.begun && c.runs && !r.ctl.any (fun o => decide (opStamp o ≤ c.lcc)) then c.endCheck else c
  | none => c

/-- A cycle of a save that may run, or of a restore: in a cycle of a throttle it makes no progress, and its time lengthens
(R382, R384, R446). -/
def Cluster.passSave (c : Cluster) : Cluster :=
  match c.run with
  | none => c
  | some r =>
    let left := match c.lining r.lid with
      | some l => c.transfersLeft l.desc
      | none => false
    if r.saving.isSome && !c.throttled && !left then { c with run := some { r with saveRan := r.saveRan + 1 } }
    else if r.resumed && !c.tim.running && r.saving.isNone && c.throttled && decide (c.clk.free + 64 < r.ready) then
      { c with run := some { r with ready := r.ready + 1 } }
    else c

/-- What comes about at the start of the cycle just reached: a resumed lining runs on, LCC 0 is recorded, and a lining
without ops ends (R35, R380, R385). -/
def Cluster.newCycle (c : Cluster) : Cluster := c.resumeGo.beginCheck.endIdle

/-- The static domain's part of a CK_A cycle: a held cycle freezes it, an executed one performs its reads and writes
and advances LCC (R30, R43, R281). -/
def Cluster.passStatic (c : Cluster) : Cluster :=
  if c.heldNow then c.countHeld.ageHold
  else if c.tim.running then
    let c := c.staticCycle
    if c.tim.running then ({ c with tim := { c.tim with lcc := (c.lcc + 1) % 2 ^ 32 } }).enterUses else c
  else c

/-- What a cycle leaves for the next one outside the static domain: replies, window entries, CONS as ring placement meets
it, and the sync operations that go to their words (R310, R335, R341, R352). -/
def Cluster.portCycle (c : Cluster) : Cluster := ({ c with consOld := [] }).sendAcks.windowsIn.flushAll.drainTurned.syncIssue

/-- One CK_A cycle. -/
def Cluster.passCycle (c : Cluster) : Cluster :=
  c.endSlots.countStretch.countFull.passSave.passStatic.passHalt.passClocks.portCycle.endTorn.stallStops.newCycle

/-- Is anything due in the present cycle that no time may pass over (R33, R41, R93, R98, R247, R376, R438, R42)? -/
def Cluster.due (c : Cluster) : Bool :=
  c.decayDue || c.recentreDue || (c.clk.locked && c.live && c.tim.duty != c.tim.dutyNext) || c.launchDue || c.dispatchDue || c.holdDue || c.holdClear
    || (c.runs && (List.range 52).any (fun q => match c.startOf q with
          | some p => decide (p.2 ≤ c.lcc)
          | none => false))
    || (List.range 52).any (fun q => c.endDue q) || (List.range 32).any (fun a => c.drainDue a)
    || (List.range 64).any (fun k => c.finDue k) || (List.range 32).any (fun a => c.aheadDue a)
    || (c.runs && (match c.run with
          | some r => (match r.ctl with
            | o :: _ => r.begun && decide (opStamp o ≤ c.lcc)
            | [] => false)
          | none => false))

/-- Time passes with no command waiting: one CK_A cycle after PLL lock, one CK_M cycle before it; no time passes
over an event that is due (R33, R41). -/
def Cluster.tick (c : Cluster) : Cluster :=
  if !c.powered || c.due then c
  else if c.clk.locked then c.passCycle
  else ({ c with clk := { c.clk with ckm := c.clk.ckm + 1 } }).passCkm

end Sys2Proof.Machine
end

