-- ==== Sys2Proof/Safety.lean ====
section
/-! DEFINITION. Safe runs, and the canonical form of the cluster's stores: the terms that statements use. -/

namespace Sys2Proof

/-- k steps from s neither fault nor are refused. -/
def Safe (k : Nat) (s : Machine.State) : Prop := ∃ t, core.run k s = .next t

namespace Machine

/-- Every store of the cluster is in its canonical form, so that equal contents are equal data: scratchpad and tiles,
instruction, data and stage memories, accumulators and statistics, tables, registers and settings, and the stored bits
in error of each. -/
def Cluster.canon (c : Cluster) : Prop :=
  Memory.wf c.mem = true ∧ Sparse.wf c.memErr = true ∧ Memory.wf c.imem = true ∧ Sparse.wf c.imemErr = true
    ∧ Memory.wf c.dmem = true ∧ Sparse.wf c.dmemErr = true ∧ Memory.wf c.sbuf = true ∧ Sparse.wf c.acc = true
    ∧ Sparse.wf c.side = true
    ∧ Sparse.wf c.xlat = true ∧ Sparse.wf c.rdesc = true ∧ Sparse.wf c.prod = true ∧ Sparse.wf c.cons = true
    ∧ Sparse.wf c.sdesc0 = true ∧ Sparse.wf c.sdesc1 = true ∧ Sparse.wf c.scount = true ∧ Sparse.wf c.sround = true
    ∧ Sparse.wf c.reg = true ∧ Sparse.wf c.dict = true ∧ Sparse.wf c.tabErr = true

/-- What no event changes: the cluster number on the straps and the stepping of the mask ROM (R2, R9, R472). -/
def Cluster.ident (c : Cluster) : BitVec 6 × Byte := (c.straps, c.stepping)

/-- The state with another cluster and the same waiting commands. -/
def State.setCl (s : State) (c : Cluster) : State := { s with cl := c }

/-- No stored word in error lies in the pieces of instruction memory that core n reads (R277, R278). -/
def Cluster.imemSound (c : Cluster) (n : CoreId) (parts : List (Nat × Nat)) : Prop :=
  ∀ p ∈ parts, errWords c.imemErr n.val p.1 p.2 = []

/-- Core n executes, in this cycle, a scalar instruction whose word has a form (R255, R268, R273, R278): control cores
run, it is a scaden core that runs code, it stalls on nothing, its program counter lies in the code region, no forced
disagreement of its halves is armed, and the word holds no error. -/
def Cluster.fetches (c : Cluster) (n : CoreId) (form : Nat → Bool) : Prop :=
  c.lockstepArmed n.val = false ∧ c.scalarReady n.val = true ∧ (c.core n.val).inCode = true ∧ form (c.word n.val) = true
    ∧ c.imemSound n [((c.core n.val).pc, 4)]

/-- It does so for a service instruction with a current context that is bound and not torn down (R271, R272). -/
def Cluster.serves (c : Cluster) (n : CoreId) (form : Nat → Bool) : Prop :=
  c.fetches n form ∧ c.bound (c.core n.val).cur = true ∧ c.tornSeen (c.core n.val).cur = false

/-- The issue walker of core n performs, in this cycle, a walk entry of a kind (R255, R261): its walk runs, it is
stalled on nothing, or on the cause with a given WAIT code, no forced disagreement of its halves is armed, and the entry,
its template and its delta entry hold no error. -/
def Cluster.walks (c : Cluster) (n : CoreId) (kind wait : Nat) : Prop :=
  c.lockstepArmed n.val = false ∧ c.coresRun = true ∧ (c.core n.val).walkRun = true ∧ (c.core n.val).stopped = false
    ∧ (c.core n.val).wwait = wait ∧ c.walkEntry n.val / 2 ^ 28 = kind
    ∧ c.imemSound n ((c.core n.val).walkParts (c.walkEntry n.val))

/-- None of the table words with these keys holds a stored error (R416). -/
def Cluster.tabSound (c : Cluster) (keys : List Nat) : Prop := ∀ kv ∈ c.tabErr, kv.1 ∉ keys

/-- No word that n bytes of scratchpad from a touch holds a stored error, in a bank that is not fenced (R280, R300). -/
def Cluster.spdSound (c : Cluster) (a n : Nat) : Prop := c.badWords a n = []

/-- No forced memory error waits for the next write of a bank (R432). -/
def Cluster.bankCalm (c : Cluster) (a : Nat) : Prop :=
  c.armedAt 0x20 (c.pbank (lbankOf a)) = false ∧ c.armedAt 0x21 (c.pbank (lbankOf a)) = false

/-- No forced error waits for the next data-memory write of core n (R432). -/
def Cluster.dmemCalm (c : Cluster) (n : CoreId) : Prop := c.armedAt 0x24 n.val = false ∧ c.armedAt 0x25 n.val = false

/-- Sync word w as an operation reads it: zero in a fenced bank (R300, R351). -/
def Cluster.syncWord (c : Cluster) (w : Nat) : W64 := BitVec.ofNat 64 (leNat (c.maskBytes (syncAddr w) 8 []))

/-- The service instructions of core n and the forms of their words (R270). -/
def serviceForms (n : CoreId) : List (Instr × (Nat → Bool)) :=
  [(.sywaitFull n, isSvc 0x24 0 0), (.sywaitTake n, isSvc 0x24 0 1), (.sywaitGe n, isSvc 0x24 0 2),
   (.sywaitEmpty n, isSvc 0x24 0 3), (.sywaitPoll n, fun w => isSub 0x24 0 w && decide (sMode w < 4)),
   (.sysigSet n, isSvc 0x24 1 0), (.sysigAdd n, isSvc 0x24 1 1), (.sysigOr n, isSvc 0x24 1 2),
   (.sysigClear n, isSvc 0x24 1 3), (.sysigFence n, isSvc 0x24 1 4), (.spsendWait n, isSvc 0x25 0 0),
   (.spsendPosted n, isSvc 0x25 0 1), (.spsendFence n, isSvc 0x25 0 2), (.sprecvPoll n, isSvc 0x25 1 0),
   (.sprecvWait n, isSvc 0x25 1 1), (.sprecvDiscard n, isSvc 0x25 1 2), (.sprecvOcc n, isSvc 0x25 1 3)]

/-- The instructions of the scalar core of core n. -/
def scalarInstrs (n : CoreId) : List Instr :=
  [.add n, .sub n, .andR n, .orR n, .xorR n, .shl n, .shr n, .shra n, .mul n, .mulhu n, .mulhs n, .minS n, .maxS n, .minU n,
   .maxU n, .addi n, .andi n, .ori n, .xori n, .shli n, .shri n, .shrai n, .movk n, .cmp n, .cmpi n, .plog n, .br n, .jal n,
   .jr n, .ld64 n, .ld32u n, .st64 n, .st32 n, .hld n, .hst n, .rrd n, .rwr n, .wstep n, .wstat n, .wdrain n, .tbrd n,
   .lccrd n, .tbwait n, .lccwait n, .setctx n, .halt n, .nop n] ++ (serviceForms n).map (fun p => p.1)

/-- The walk entries of core n, and the ends of its walker's stalls. -/
def walkInstrs (n : CoreId) : List Instr :=
  [.issue n, .walkerQfullResume n, .loop n, .endl n, .waitk n, .waitkRelease n, .sel n, .selResume n, .jmp n, .syncRec n,
   .endWalk n]

end Machine

end Sys2Proof
end

