-- ==== Sys2Proof/Certificates/Slice0/Obligations.lean ====
section
/-! DEFINITION. The statements for the provers. `s.setCl c` is the state s with cluster c and the same queue: an answer
`.next (s.setCl { s.cl with … })` says the whole frame, since every field that is not named keeps its value. -/

open Sys2Proof Sys2Proof.Machine

/-- For every command and state, a step with the command at the front of the queue is exec of the command on the state
with the queue's rest. With no command waiting, one cycle of CK_A passes once the PLL is locked, and one of CK_M before,
unless the power is off or something is due in the present cycle:
then nothing changes. The queue of waiting commands, and
the cycle that passes on an empty one, are the model's own (log entries 6 and 8). -/
def Obligations.StepRunsFront : Prop :=
  ∀ (c : Cluster),
    (∀ (i : Instr) (rest : List Instr), step ⟨i :: rest, c⟩ = exec i ⟨rest, c⟩)
    ∧ (c.powered = false ∨ c.due = true → step ⟨[], c⟩ = .next ⟨[], c⟩)
    ∧ (c.powered = true → c.due = false →
      (c.clk.locked = false → step ⟨[], c⟩ = .next ⟨[], ({ c with clk := { c.clk with ckm := c.clk.ckm + 1 } } : Cluster).passCkm⟩)
      ∧ (c.clk.locked = true → step ⟨[], c⟩ = .next ⟨[], c.passCycle⟩))

/-- ADD, SUB, AND, OR, XOR, MUL, MULHU, MULHS, MIN, MAX, MINU and MAXU of a core that executes them write rd from ra and
rb modulo 2^64, go on to the next instruction, and change nothing else (R268). So do SHL, SHR and SHRA by an amount below 64,
with the shifted ra. For an amount of 64 or more R268 states no result: rd takes some value, and all else is as for a smaller
amount but for the model's own counter of free values (log entry 3, the model's choice). -/
def Obligations.AluRegister : Prop :=
  ∀ (n : CoreId) (s : State),
    let c := s.cl
    let x := c.core n.val
    let a := x.s (sRa (c.word n.val))
    let b := x.s (sRb (c.word n.val))
    let ans := fun (v : W64) => Host.Outcome.next (s.setCl (c.setCore n.val (x.setS (sRd (c.word n.val)) v).adv))
    (c.fetches n (isFn 0 0) → exec (.add n) s = ans (a + b))
    ∧ (c.fetches n (isFn 0 1) → exec (.sub n) s = ans (a + ~~~b + 1))
    ∧ (c.fetches n (isFn 0 2) → exec (.andR n) s = ans (a &&& b))
    ∧ (c.fetches n (isFn 0 3) → exec (.orR n) s = ans (a ||| b))
    ∧ (c.fetches n (isFn 0 4) → exec (.xorR n) s = ans (a ^^^ b))
    ∧ (c.fetches n (isFn 0 8) → exec (.mul n) s = ans (BitVec.ofNat 64 (a.toNat * b.toNat)))
    ∧ (c.fetches n (isFn 0 9) → exec (.mulhu n) s = ans ((a.zeroExtend 128 * b.zeroExtend 128).extractLsb' 64 64))
    ∧ (c.fetches n (isFn 0 10) → exec (.mulhs n) s = ans ((a.signExtend 128 * b.signExtend 128).extractLsb' 64 64))
    ∧ (c.fetches n (isFn 0 11) → exec (.minS n) s = ans (if b.slt a then b else a))
    ∧ (c.fetches n (isFn 0 12) → exec (.maxS n) s = ans (if a.slt b then b else a))
    ∧ (c.fetches n (isFn 0 13) → exec (.minU n) s = ans (if b.ult a then b else a))
    ∧ (c.fetches n (isFn 0 14) → exec (.maxU n) s = ans (if a.ult b then b else a))
    ∧ (let k := b.toNat
       let shifted := fun (c : Cluster) (v : W64) => Host.Outcome.next (s.setCl (c.setCore n.val (x.setS (sRd (c.word n.val)) v).adv))
       (c.fetches n (isFn 0 5) → k < 64 → exec (.shl n) s = ans (BitVec.ofNat 64 (a.toNat * 2 ^ k)))
       ∧ (c.fetches n (isFn 0 6) → k < 64 → exec (.shr n) s = ans (BitVec.ofNat 64 (a.toNat / 2 ^ k)))
       ∧ (c.fetches n (isFn 0 7) → k < 64 → exec (.shra n) s = ans (BitVec.ofInt 64 (a.toInt / 2 ^ k)))
       ∧ (64 ≤ k →
         (c.fetches n (isFn 0 5) → ∃ v m, exec (.shl n) s = shifted { c with freeCtr := m } v)
         ∧ (c.fetches n (isFn 0 6) → ∃ v m, exec (.shr n) s = shifted { c with freeCtr := m } v)
         ∧ (c.fetches n (isFn 0 7) → ∃ v m, exec (.shra n) s = shifted { c with freeCtr := m } v)))

/-- ADDI, ANDI, ORI and XORI use imm16 sign-extended; SHLI, SHRI and SHRAI shift by imm16[5:0]; MOVK writes imm16 into
bits [16k+15:16k] of rd and keeps the others. Each writes rd, goes on to the next instruction, and changes nothing
else (R268). -/
def Obligations.AluImmediate : Prop :=
  ∀ (n : CoreId) (s : State),
    let c := s.cl
    let x := c.core n.val
    let w := c.word n.val
    let a := x.s (sRa w)
    let imm : W64 := (BitVec.ofNat 16 w).signExtend 64
    let ans := fun (v : W64) => Host.Outcome.next (s.setCl (c.setCore n.val (x.setS (sRd w) v).adv))
    let sh := fun (kind : Nat) (w : Nat) => isMaj 5 w && w / 64 % 4 == kind
    (c.fetches n (isMaj 1) → exec (.addi n) s = ans (a + imm))
    ∧ (c.fetches n (isMaj 2) → exec (.andi n) s = ans (a &&& imm))
    ∧ (c.fetches n (isMaj 3) → exec (.ori n) s = ans (a ||| imm))
    ∧ (c.fetches n (isMaj 4) → exec (.xori n) s = ans (a ^^^ imm))
    ∧ (c.fetches n (sh 0) → exec (.shli n) s = ans (BitVec.ofNat 64 (a.toNat * 2 ^ (w % 64))))
    ∧ (c.fetches n (sh 1) → exec (.shri n) s = ans (BitVec.ofNat 64 (a.toNat / 2 ^ (w % 64))))
    ∧ (c.fetches n (sh 2) → exec (.shrai n) s = ans (BitVec.ofInt 64 (a.toInt / 2 ^ (w % 64))))
    ∧ (c.fetches n (isMaj 6) → ∃ v, exec (.movk n) s = ans v ∧
        ∀ i < 64, v.getLsbD i = if i / 16 = sRa w % 4 then w.testBit (i % 16) else (x.s (sRd w)).getLsbD i)

/-- CMP and CMPI write predicate pd with the comparison of ra and rb, or ra and imm5 sign-extended, under COND 0 EQ,
1 NE, 2 LT, 3 LE, 4 LTU, 5 LEU. PLOG writes AND, OR, ANDN or NOT of predicates into P(rd[2:0]); that FN 0 to 3 select
them in the order of the table is read from it (log entry 60). Nothing else changes but the step to the next
instruction (R268). BR goes to the instruction at its signed offset if P(p) equals sense, and otherwise to the next one; JAL
writes the return address to S31 and goes to its offset; JR goes to S(ra). The offset counts instructions from the branch
itself, and the program counter wraps at the 64 KiB of the instruction memory (the model's choices, log entry 34). -/
def Obligations.Compares : Prop :=
  ∀ (n : CoreId) (s : State),
    let c := s.cl
    let x := c.core n.val
    let w := c.word n.val
    let ans := fun (p : Nat) (b : Bool) => Host.Outcome.next (s.setCl (c.setCore n.val (x.setP p b).adv))
    let pd := w / 2 ^ 23 % 8
    let a := x.s (w / 2 ^ 18 % 32)
    let cond := fun (k : Nat) (a b : W64) =>
      if k = 0 then decide (a = b) else if k = 1 then decide (a ≠ b) else if k = 2 then a.slt b
      else if k = 3 then a.sle b else if k = 4 then a.ult b else a.ule b
    (w / 2 ^ 9 % 16 < 6 →
      (c.fetches n (isMaj 8) → exec (.cmp n) s = ans pd (cond (w / 2 ^ 9 % 16) a (x.s (w / 2 ^ 13 % 32))))
      ∧ (c.fetches n (isMaj 9) →
          exec (.cmpi n) s = ans pd (cond (w / 2 ^ 9 % 16) a ((BitVec.ofNat 5 (w / 2 ^ 13)).signExtend 64))))
    ∧ (c.fetches n (isMaj 10) →
      let p := x.p (sRa w % 8)
      let q := x.p (sRb w % 8)
      (sFn w = 0 → exec (.plog n) s = ans (sRd w % 8) (p && q))
      ∧ (sFn w = 1 → exec (.plog n) s = ans (sRd w % 8) (p || q))
      ∧ (sFn w = 2 → exec (.plog n) s = ans (sRd w % 8) (p && !q))
      ∧ (sFn w = 3 → exec (.plog n) s = ans (sRd w % 8) (!p)))
    ∧ (let goto := fun (y : Core) (a : Nat) => Host.Outcome.next (s.setCl (c.setCore n.val { y with pc := a, stall := .none }))
       let target := ((((x.pc : Nat) : Int) + 4 * (BitVec.ofNat 22 w).toInt) % 65536).toNat
       (c.fetches n (isMaj 0x10) →
         (x.p (w / 2 ^ 23 % 8) = w.testBit 22 → exec (.br n) s = goto x target)
         ∧ (x.p (w / 2 ^ 23 % 8) ≠ w.testBit 22 → exec (.br n) s = goto x ((x.pc + 4) % 65536)))
       ∧ (c.fetches n (isMaj 0x11) → exec (.jal n) s = goto (x.setS 31 (BitVec.ofNat 64 (x.pc + 4))) target)
       ∧ (c.fetches n (isMaj 0x12) → exec (.jr n) s = goto x ((x.s (sRa w)).toNat % 65536)))

/-- At a naturally aligned address S(ra) + imm16 inside the data memory whose words hold no error, LD64 writes the 8
bytes there to rd, the byte at the lowest address lowest, and LD32U the 4 bytes there, zero-extended. Nothing else
changes but the step to the next instruction. -/
def Obligations.Loads : Prop :=
  ∀ (n : CoreId) (s : State) (len : Nat) (i : Instr),
    let c := s.cl
    let x := c.core n.val
    let w := c.word n.val
    let a := (x.s (sRa w) + (BitVec.ofNat 16 w).signExtend 64).toNat
    (len = 8 ∧ i = .ld64 n ∧ c.fetches n (isMaj 0x18) ∨ len = 4 ∧ i = .ld32u n ∧ c.fetches n (isMaj 0x19)) →
    a % len = 0 → a + len ≤ 65536 → errWords c.dmemErr n.val a len = [] →
    ∃ v : W64, exec i s = .next (s.setCl (c.setCore n.val (x.setS (sRd w) v).adv))
      ∧ ∀ k < 8, v.extractLsb' (8 * k) 8 = if k < len then Memory.byte c.dmem (n.val * 65536 + a + k) else 0

/-- At a naturally aligned address S(ra) + imm16 inside the data memory, ST64 stores the 8 bytes of rd and ST32 its low
4 bytes, lowest byte at the lowest address; every other byte of every core's data memory reads as before, the stored
errors of every other word stay, and nothing else changes but the step to the next instruction. ST32 is stated where the
word it partly writes holds no error, and both where no forced memory error is armed. -/
def Obligations.Stores : Prop :=
  ∀ (n : CoreId) (s : State) (len : Nat) (i : Instr),
    let c := s.cl
    let x := c.core n.val
    let w := c.word n.val
    let a := (x.s (sRa w) + (BitVec.ofNat 16 w).signExtend 64).toNat
    (len = 8 ∧ i = .st64 n ∧ c.fetches n (isMaj 0x1A) ∨ len = 4 ∧ i = .st32 n ∧ c.fetches n (isMaj 0x1B)) →
    a % len = 0 → a + len ≤ 65536 → (len = 4 → errWords c.dmemErr n.val (a / 8 * 8) 8 = []) → c.dmemCalm n →
    ∃ m e, exec i s = .next (s.setCl { c.setCore n.val x.adv with dmem := m, dmemErr := e })
      ∧ (∀ k < len, Memory.byte m (n.val * 65536 + a + k) = (x.s (sRd w)).extractLsb' (8 * k) 8)
      ∧ (∀ b, b < n.val * 65536 + a ∨ n.val * 65536 + a + len ≤ b → Memory.byte m b = Memory.byte c.dmem b)
      ∧ (∀ b, b < (n.val * 65536 + a) / 8 * 8 ∨ (n.val * 65536 + a) / 8 * 8 + 8 ≤ b → Sparse.get e b = Sparse.get c.dmemErr b)

/-- TBRD, LCCRD and WSTAT write TB, the LCC value of R30 and CORE_STATE to rd. WSTEP adds S(ra)[15:0] to the walk credit
and ends a stall for want of credit. SETCTX sets the current context to imm16[5:0]. HALT ends this lining's code. NOP only
goes on. TBWAIT and LCCWAIT go on at once when TB, or LCC, has reached S(ra), or S(ra)[31:0]; otherwise the core stalls on
that value, and the release, in a cycle in which it has been reached, lets the core go on. WDRAIN goes on at once when the
credit is 0 or the walk has ended, and otherwise stalls the core. None changes anything else (R268). -/
def Obligations.CoreControl : Prop :=
  ∀ (n : CoreId) (s : State),
    let c := s.cl
    let x := c.core n.val
    let w := c.word n.val
    let gives := fun (y : Core) => Host.Outcome.next (s.setCl (c.setCore n.val y))
    (c.fetches n (isSub 0x28 0) → exec (.tbrd n) s = gives (x.setS (sRd w) c.tb.value).adv)
    ∧ (c.fetches n (isSub 0x28 1) → exec (.lccrd n) s = gives (x.setS (sRd w) (BitVec.ofNat 64 (c.tim.lcc % 2 ^ 32))).adv)
    ∧ (c.fetches n (isSub 0x20 1) → exec (.wstat n) s = gives (x.setS (sRd w) (c.coreState n.val)).adv)
    ∧ (c.fetches n (isSub 0x20 0) → exec (.wstep n) s =
        gives { x.adv with credit := x.credit + (x.s (sRa w)).toNat % 65536, wwait := if x.wwait = 9 then 0 else x.wwait })
    ∧ (c.fetches n (isMaj 0x30) → exec (.setctx n) s = gives { x.adv with cur := w % 64 })
    ∧ (c.fetches n (isSub 0x3F 0) → exec (.halt n) s = gives { x.adv with codeRun := false })
    ∧ (c.fetches n (isSub 0x3F 1) → exec (.nop n) s = gives x.adv)
    ∧ (let v := x.s (sRa w)
       let runs := c.coresRun = true ∧ x.codeRun = true ∧ x.stopped = false
       (c.fetches n (isSub 0x28 2) → exec (.tbwait n) s =
           if v.toNat ≤ c.tb.value.toNat then gives x.adv else gives { x with stall := .tbWait v })
       ∧ (c.fetches n (isSub 0x28 3) → exec (.lccwait n) s =
           if v.toNat % 2 ^ 32 ≤ c.tim.lcc then gives x.adv else gives { x with stall := .lccWait (v.toNat % 2 ^ 32) })
       ∧ (c.fetches n (isSub 0x20 2) → exec (.wdrain n) s =
           if x.credit = 0 ∨ x.wwait = 10 then gives x.adv else gives { x with stall := .wdrain })
       ∧ (∀ u : W64, runs → x.stall = .tbWait u → u.toNat ≤ c.tb.value.toNat → exec (.tbwaitRelease n) s = gives x.adv)
       ∧ (∀ u : Nat, runs → x.stall = .lccWait u → u ≤ c.tim.lcc → exec (.lccwaitRelease n) s = gives x.adv))

/-- With a bound, live context and a handle that is valid, owned by it, permits the access and covers the 8 aligned bytes,
HLD and HST hand their read or write to class 4 of the bank's arbiter, and the core stalls until it is served; the service
of the read writes the 8 bytes there to rd (zero where the bank is fenced) and the core goes on; the service of the write,
with no forced error armed for the bank, stores rd's bytes there, every other byte of the scratchpad reads as before, and
the core goes on; a fenced bank drops the store, and so does a teardown of the context that has taken effect by then. Where
the handle does not grant the access, HLD writes zero, HST stores nothing, and SPD_HANDLE (0x17) is raised, contained to the
context. That the core stalls until the arbiter has served the access is the model's reading (log entry 84), and so is that
an offset off an 8-byte boundary is answered as one outside the handle (log entry 36). -/
def Obligations.HandleAccess : Prop :=
  ∀ (n : CoreId) (s : State),
    let c := s.cl
    let x := c.core n.val
    (let w := c.word n.val
     let e := c.regAt (rHnd (hldHandle x w))
     let a := hndBase e * 64 + (hldOff x w).toNat
     let asks := fun (done : BDone) (wr : Option (List Byte)) =>
       let g := c.spd.nextGrp
       Host.Outcome.next (s.setCl { c.setCore n.val { x with stall := .port g } with spd := { c.spd with
         nextGrp := g + 1
         groups := c.spd.groups ++ [{ id := g, ctx := x.cur, done := done, left := 1, data := [], bad := false }]
         reqs := c.spd.reqs ++ [{ cls := 4, grp := g, idx := 0, line := a / 64, off := a % 64, len := 8, wr := wr }] } })
     c.tabSound [rHnd (hldHandle x w)] →
     (c.serves n (isMaj 0x1C) →
       (hndGrants e x.cur 62 (hldOff x w) = true → exec (.hld n) s = asks (.hld n.val (sRd w)) none)
       ∧ (hndGrants e x.cur 62 (hldOff x w) = false →
         exec (.hld n) s = .next (s.setCl ((c.setCore n.val (x.setS (sRd w) 0).adv).raise 0x17 n.val x.cur))))
     ∧ (c.serves n (isMaj 0x1D) →
       (hndGrants e x.cur 61 (hldOff x w) = true →
         exec (.hst n) s = asks (.hst n.val) (some (leBytes 8 (x.s (sRd w)).toNat)))
       ∧ (hndGrants e x.cur 61 (hldOff x w) = false →
         exec (.hst n) s = .next (s.setCl ((c.setCore n.val x.adv).raise 0x17 n.val x.cur)))))
    ∧ ∀ (p : BankId) (r : BReq) (g : BGroup), c.slotOpen p.val = true → c.arbiterTurn p.val = true → c.nextReq p.val = some r →
      c.spd.groups.find? (fun h => h.id == r.grp) = some g → g.left = 1 → g.data = [] → x.stall = .port g.id → r.len = 8 →
      let a := r.line * 64 + r.off
      let d := c.arbiterServed p.val r.cls r.grp r.idx
      let rest := { d.spd with groups := d.spd.groups.filter (fun h => h.id != g.id) }
      (∀ rd, r.wr = none → g.done = .hld n.val rd → c.spdSound a 8 → c.tornSeen x.cur = false →
        ∃ v : W64, exec (.boundaryAccess p) s = .next (s.setCl ({ d with spd := rest }.setCore n.val (x.setS rd v).adv))
          ∧ ∀ k < 8, v.extractLsb' (8 * k) 8 = if c.fencedAt (a + k) then 0 else Memory.byte c.mem (a + k))
      ∧ (∀ bs, r.wr = some bs → bs.length = 8 → g.done = .hst n.val →
        (c.fencedAt a = true ∨ c.tornSeen g.ctx = true →
          exec (.boundaryAccess p) s = .next (s.setCl ({ d with spd := rest }.setCore n.val x.adv)))
        ∧ (c.fencedAt a = false → c.tornSeen g.ctx = false → c.bankCalm a →
          ∃ m me rs, exec (.boundaryAccess p) s =
              .next (s.setCl ({ d with mem := m, memErr := me, spd := { rest with repairs := rs } }.setCore n.val x.adv))
            ∧ (∀ k < 8, Memory.byte m (a + k) = (bs[k]?).getD 0)
            ∧ (∀ b, b < a ∨ a + 8 ≤ b → Memory.byte m b = Memory.byte c.mem b)))

/-- A service instruction whose current context is not bound to the running lining writes 4 (UNBOUND) to rs and raises
CORE_CTX_UNBOUND (0x15), contained to the lining; one whose context is torn down writes 3 (TORN) and does nothing else.
HLD then writes zero to rd, HST writes nothing, and an unbound context raises the same fault. -/
def Obligations.ServicesRefused : Prop :=
  ∀ (n : CoreId) (s : State),
    let c := s.cl
    let x := c.core n.val
    let w := c.word n.val
    (∀ p ∈ serviceForms n, c.fetches n p.2 →
      (c.bound x.cur = false →
        exec p.1 s = .next (s.setCl ((c.setCore n.val (x.setS (sRs w) 4).adv).raiseLining 0x15 n.val)))
      ∧ (c.bound x.cur = true → c.tornSeen x.cur = true →
        exec p.1 s = .next (s.setCl (c.setCore n.val (x.setS (sRs w) 3).adv))))
    ∧ (c.fetches n (isMaj 0x1C) →
      (c.bound x.cur = false →
        exec (.hld n) s = .next (s.setCl ((c.setCore n.val (x.setS (sRd w) 0).adv).raiseLining 0x15 n.val)))
      ∧ (c.bound x.cur = true → c.tornSeen x.cur = true →
        exec (.hld n) s = .next (s.setCl (c.setCore n.val (x.setS (sRd w) 0).adv))))
    ∧ (c.fetches n (isMaj 0x1D) →
      (c.bound x.cur = false → exec (.hst n) s = .next (s.setCl ((c.setCore n.val x.adv).raiseLining 0x15 n.val)))
      ∧ (c.bound x.cur = true → c.tornSeen x.cur = true → exec (.hst n) s = .next (s.setCl (c.setCore n.val x.adv))))

/-- SYWAIT of a kind, with a timeout other than 0, or a poll of a kind, with timeout 0, goes to the synchronisation unit as an
operation on the word that its VID translates to, and the core waits for the answer; a VID that does not translate answers 9
and raises SYN_ACCESS (0x1E). When the unit has read the word: if the kind's condition holds (FULL and TAKE: FULL = 1; GE:
FULL = 1 and VALUE - operand, read as a signed number, at least 0; EMPTY: FULL = 0), rd takes VALUE, rs takes 0, the core
goes on, and TAKE clears FULL in the word written back; if it does not hold, a poll answers 10 with VALUE in rd, and any other
wait is registered with its deadline timeout tk ahead. Each counts in the waits counter of the unit. -/
def Obligations.SyncWaits : Prop :=
  (∀ (n : CoreId) (s : State),
    let c := s.cl
    let x := c.core n.val
    let w := c.word n.val
    let vid := (x.s (sRa w)).toNat % 2 ^ 16
    let operand := (x.s (sRa w)).extractLsb' 32 32
    let timeout := (x.s (sRb w)).toNat % 2 ^ 32
    let asks := fun (kind : Nat) (e : W32) =>
      let wt : Waiter :=
        { live := false, id := c.nextOrd, word := (e.extractLsb' 0 17).toNat, vid := vid, kind := kind, operand := operand,
          ctx := x.cur, engine := false, deadline := 0, rd := sRd w, rs := sRs w }
      ({ c with waiters := vset c.waiters n.val (some wt) } : Cluster).syncPost wt.word x.cur (1 + n.val) (.wait n.val timeout) none
    c.tabSound (c.vidKeys x.cur vid) →
    (timeout ≠ 0 →
      ∀ p ∈ [(Instr.sywaitFull n, 0), (Instr.sywaitTake n, 1), (Instr.sywaitGe n, 2), (Instr.sywaitEmpty n, 3)],
        c.serves n (isSvc 0x24 0 p.2) →
        (c.translateVid x.cur vid = none →
          exec p.1 s = .next (s.setCl ((c.setCore n.val (x.setS (sRs w) 9).adv).raise 0x1E n.val x.cur)))
        ∧ (∀ e, c.translateVid x.cur vid = some e → exec p.1 s = .next (s.setCl (asks p.2 e))))
    ∧ (timeout = 0 → ∀ kind : Fin 4, c.serves n (isSvc 0x24 0 kind.val) →
        (c.translateVid x.cur vid = none →
          exec (.sywaitPoll n) s = .next (s.setCl ((c.setCore n.val (x.setS (sRs w) 9).adv).raise 0x1E n.val x.cur)))
        ∧ (∀ e, c.translateVid x.cur vid = some e → exec (.sywaitPoll n) s = .next (s.setCl (asks kind.val e)))))
  ∧ ∀ (c : Cluster) (n : CoreId) (o : SyncOp) (wt : Waiter) (timeout : Nat) (v : W64),
    let x := c.core n.val
    let val := v.extractLsb' 0 32
    let full := v.getLsbD 63
    let holds := if wt.kind = 3 then !full else if wt.kind = 2 then full && decide (0 ≤ (val - wt.operand).toInt) else full
    let counted := c.bump (rSyn + 0x508) (rSyn + 0x518) 1 1
    let back := fun (d : Cluster) (new : W64) =>
      d.addGroup 2 0 (.syncWrite o.id) [partReq 0 (syncAddr o.word) 8 (some (leBytes 8 new.toNat))]
    let answered := fun (status : W64) =>
      ({ counted with waiters := vset c.waiters n.val none } : Cluster).setCore n.val
        ((x.setS wt.rd (val.zeroExtend 64)).setS wt.rs status).adv
    c.syncOps.find? (fun p => p.id == o.id) = some o → o.what = .wait n.val timeout → vat c.waiters n.val none = some wt →
    wt.live = false → wt.id = o.id → wt.word = o.word → wt.engine = false → wt.kind < 4 →
    (∀ m < 8, ∀ wt', vat c.waiters m none = some wt' → wt'.live = true → wt'.word ≠ o.word) →
    (holds = true → c.syncReadDone o.id v false = back (answered 0) (if wt.kind = 1 then setFld v 63 63 0 else v))
    ∧ (holds = false → timeout = 0 → c.syncReadDone o.id v false = back (answered 10) v)
    ∧ (holds = false → timeout ≠ 0 → c.syncReadDone o.id v false = back { counted with
        waiters := vset c.waiters n.val (some { wt with live := true, deadline := c.tk + timeout }) } v)

/-- SYSIG SET, ADD, OR and CLEAR in own form answer 0 and hand the signal to the synchronisation unit, as an operation on the
word that the VID of the current context translates to; a VID that does not translate answers 9 and raises SYN_ACCESS. In
cross form they put the signal into the lowest free signal slot and answer 0, and with no free slot the core stalls and shows
WAIT 0x3. SYSIG FENCE with no signal in flight answers 11 if a signal has failed since the last FENCE and 0 otherwise, and
forgets the failure; else it stalls. -/
def Obligations.SyncSignals : Prop :=
  ∀ (n : CoreId) (s : State),
    let c := s.cl
    let x := c.core n.val
    let w := c.word n.val
    let target := (x.s (sRa w)).toNat % 2 ^ 32
    let operand := (x.s (sRb w)).extractLsb' 0 32
    (∀ p ∈ [(Instr.sysigSet n, 0), (Instr.sysigAdd n, 1), (Instr.sysigOr n, 2), (Instr.sysigClear n, 3)],
      c.serves n (isSvc 0x24 1 p.2) →
      (target < 2 ^ 31 → c.tabSound (c.vidKeys x.cur (target % 2 ^ 16)) →
        (c.translateVid x.cur (target % 2 ^ 16) = none →
          exec p.1 s = .next (s.setCl ((c.setCore n.val (x.setS (sRs w) 9).adv).raise 0x1E n.val x.cur)))
        ∧ (∀ e, c.translateVid x.cur (target % 2 ^ 16) = some e →
          exec p.1 s = .next (s.setCl ((c.setCore n.val (x.setS (sRs w) 0).adv).syncPost (e.extractLsb' 0 17).toNat x.cur
            (1 + n.val) (.signal p.2 operand x.cur c.straps.toNat n.val) none))))
      ∧ (2 ^ 31 ≤ target →
        (∀ k < 8, vat x.sig k none = none → (∀ j < k, vat x.sig j none ≠ none) →
          let g : SigSlot :=
            { dcl := target / 2 ^ 24 % 64, dctx := target / 2 ^ 16 % 64, vid := target % 2 ^ 16, kind := p.2,
              operand := operand, ctx := x.cur, sent := false, due := 0, busy := none, seq := c.nextOrd }
          let y : Core := { x with sig := vset x.sig k (some g) }
          exec p.1 s = .next (s.setCl { c.setCore n.val (y.setS (sRs w) 0).adv with nextOrd := c.nextOrd + 1 }))
        ∧ ((∀ k < 8, vat x.sig k none ≠ none) →
          let y : Core := { x with stall := .slotWait 3 }
          exec p.1 s = .next (s.setCl (c.setCore n.val y))
          ∧ (x.cur < 64 → x.pc < 2 ^ 16 → (((c.setCore n.val y).coreState n.val).extractLsb' 59 4).toNat = 3))))
    ∧ (c.serves n (isSvc 0x24 1 4) →
      ((∀ k < 8, vat x.sig k none = none) →
        exec (.sysigFence n) s = .next (s.setCl (c.setCore n.val
          { (x.setS (sRs w) (if x.sigFail then 11 else 0)).adv with sigFail := false })))
      ∧ (∀ k < 8, vat x.sig k none ≠ none →
        exec (.sysigFence n) s = .next (s.setCl (c.setCore n.val { x with stall := .sigFence (sRs w) }))))

/-- When the unit has read the word of a signal, without error, it writes a word back: SET leaves the operand as VALUE, ADD the
sum modulo 2^32, OR the disjunction, each with FULL = 1; CLEAR leaves VALUE with FULL = 0. SCTX, SCL, SCORE and TBLO are
written. The signal is counted. If one scalar core waits on the word for FULL and its condition now holds, it receives VALUE
and status 0 and goes on, its waiter is gone, and a TAKE clears FULL in the word written back; with no waiter on the word
nothing else changes. When the write is served, the operation leaves the unit. -/
def Obligations.SignalEffect : Prop :=
  ∀ (c : Cluster) (o : SyncOp) (sctx scl score : Nat) (kind : Fin 4) (operand : W32) (v : W64),
    c.syncOps.find? (fun p => p.id == o.id) = some o → o.what = .signal kind.val operand sctx scl score →
    let old := v.extractLsb' 0 32
    let val := if kind = 0 then operand else if kind = 1 then old + operand else if kind = 2 then old ||| operand else old
    let counted := c.bump (rSyn + 0x500) (rSyn + 0x518) 0 1
    let back := fun (d : Cluster) (new : W64) =>
      d.addGroup 2 0 (.syncWrite o.id) [partReq 0 (syncAddr o.word) 8 (some (leBytes 8 new.toNat))]
    let fields := fun (new : W64) =>
      new.extractLsb' 0 32 = val ∧ new.extractLsb' 57 6 = BitVec.ofNat 6 sctx ∧ new.extractLsb' 51 6 = BitVec.ofNat 6 scl
        ∧ new.extractLsb' 48 3 = BitVec.ofNat 3 score ∧ new.extractLsb' 32 16 = c.tb.value.extractLsb' 0 16
    ((∀ n < 8, ∀ wt, vat c.waiters n none = some wt → wt.live = true → wt.word ≠ o.word) →
      ∃ new, c.syncReadDone o.id v false = back counted new ∧ fields new ∧ (new.getLsbD 63 = true ↔ kind ≠ 3))
    ∧ (∀ n < 8, ∀ wt, vat c.waiters n none = some wt → wt.live = true → wt.word = o.word → wt.engine = false → wt.kind < 2 →
      kind ≠ 3 → (∀ m < 8, m ≠ n → ∀ wt', vat c.waiters m none = some wt' → wt'.live = true → wt'.word ≠ o.word) →
      ∃ new, c.syncReadDone o.id v false = back (({ counted with waiters := vset c.waiters n none } : Cluster).setCore n
          (((c.core n).setS wt.rd (val.zeroExtend 64)).setS wt.rs 0).adv) new
        ∧ fields new ∧ (new.getLsbD 63 = true ↔ wt.kind ≠ 1))
    ∧ c.syncWriteDone o.id = { c with
        syncOps := c.syncOps.filter (fun p => p.id != o.id)
        acks := c.acks ++ (match o.ack with
          | some a => [{ lane := a.1, hdr := a.2, ty := 4, lmask := fld a.2 67 64 }]
          | none => []) }

/-- SPSEND WAIT and SPSEND POSTED with a header that R330 does not refuse, a free send slot and data memory without stored
error take the header from the first 16 bytes of data memory at S(ra) and hand the spore over in the lowest free slot
with SEQ, SCL, SCORE and CTX overwritten (the core's send counter, this cluster, this core, the current context), every
reserved bit clear, and every other field as it was written. The rest of the data is as it lay in data memory; WAIT
stalls on the slot and POSTED answers 0; the send counter, MSG counter and accounting of the context each rise by 1. -/
def Obligations.SporeHeader : Prop :=
  ∀ (n : CoreId) (s : State) (posted : Bool) (k : Nat),
    let c := s.cl
    let x := c.core n.val
    let w := c.word n.val
    let a := (x.s (sRa w)).toNat
    let h := BitVec.ofNat 128 (leNat (Memory.bytes c.dmem (n.val * 65536 + a) 16))
    k < 8 → vat x.send k none = none → (∀ j < k, vat x.send j none ≠ none) →
    c.serves n (isSvc 0x25 0 (if posted then 1 else 0)) → badHdr a h = false → errWords c.dmemErr n.val a (64 * sLen h) = [] →
    ∃ h' : BitVec 128,
      let data := hdrBytes h' ++ (Memory.bytes c.dmem (n.val * 65536 + a) (64 * sLen h)).drop 16
      let y := { x with send := vset x.send k (some ⟨h', data, posted, c.tk + c.dictAt 0x2700 2⟩),
                        sendSeq := (x.sendSeq + 1) % 65536 }
      exec (if posted then .spsendPosted n else .spsendWait n) s = .next (s.setCl
        ((((c.setCore n.val (if posted then (y.setS (sRs w) 0).adv else { y with stall := .spWait k (sRs w) })).bump
          (rMsg + 0x200) (rMsg + 0x240) 0 1).account (x.cur % 64) 9 1).launchSpore n.val k h' data))
      ∧ h'.extractLsb' 112 16 = BitVec.ofNat 16 x.sendSeq ∧ h'.extractLsb' 106 6 = c.straps
      ∧ h'.extractLsb' 103 3 = BitVec.ofNat 3 n.val ∧ h'.extractLsb' 15 6 = BitVec.ofNat 6 x.cur
      ∧ h'.extractLsb' 64 21 = 0 ∧ h'.extractLsb' 0 12 = 0
      ∧ h'.extractLsb' 85 18 = h.extractLsb' 85 18 ∧ h'.extractLsb' 21 43 = h.extractLsb' 21 43
      ∧ h'.extractLsb' 12 3 = h.extractLsb' 12 3

/-- A header that R330 refuses, read from words without stored error, answers 8 and raises MSG_ACCESS (0x1B), contained to the
current context; nothing is sent. A single-bit error in one of its words is corrected, and CORE_MEM_CE (0x24) is raised as
well; an uncorrectable one stops the core with CORE_MEM_UE (0x25), and nothing is sent or answered. One that begins so near
the end of data memory that its 16 bytes do not fit is refused in the same way. With no free slot SPSEND stalls, and the core
shows WAIT 0x4. SPSEND FENCE, when no posted spore is without outcome, answers
2 if one was refused since the last FENCE and 0 otherwise; else it stalls. -/
def Obligations.SporeFence : Prop :=
  ∀ (n : CoreId) (s : State),
    let c := s.cl
    let x := c.core n.val
    let w := c.word n.val
    let a := (x.s (sRa w)).toNat
    let h := BitVec.ofNat 128 (leNat (Memory.bytes c.dmem (n.val * 65536 + a) 16))
    let posted := x.send.toList.any (fun e => match e with
      | some e => e.posted
      | none => false)
    let waits : Core := { x with stall := .slotWait 4 }
    (∀ p ∈ [(Instr.spsendWait n, 0), (Instr.spsendPosted n, 1)], c.serves n (isSvc 0x25 0 p.2) →
      (errWords c.dmemErr n.val a 16 = [] ∨ 65536 < a + 16 → badHdr a h = true →
        exec p.1 s = .next (s.setCl ((c.setCore n.val (x.setS (sRs w) 8).adv).raise 0x1B n.val x.cur)))
      ∧ (∀ k m, errWords c.dmemErr n.val a 16 = [(k, m)] → popcount 64 m.toNat < 2 → a + 16 ≤ 65536 → badHdr a h = true →
        exec p.1 s = .next (s.setCl (((c.raise0 0x24 n.val).setCore n.val (x.setS (sRs w) 8).adv).raise 0x1B n.val x.cur)))
      ∧ ((∃ kv ∈ errWords c.dmemErr n.val a 16, 2 ≤ popcount 64 kv.2.toNat) → a + 16 ≤ 65536 →
        exec p.1 s = .next (s.setCl (c.coreStop n.val 1 0x25)))
      ∧ (errWords c.dmemErr n.val a 16 = [] → badHdr a h = false → (∀ k < 8, vat x.send k none ≠ none) →
        exec p.1 s = .next (s.setCl (c.setCore n.val waits))
        ∧ (x.cur < 64 → x.pc < 2 ^ 16 → (((c.setCore n.val waits).coreState n.val).extractLsb' 59 4).toNat = 4)))
    ∧ (c.serves n (isSvc 0x25 0 2) →
      (posted = false → exec (.spsendFence n) s = .next (s.setCl (c.setCore n.val
          { (x.setS (sRs w) (if x.refused then 2 else 0)).adv with refused := false })))
      ∧ (posted = true → exec (.spsendFence n) s = .next (s.setCl (c.setCore n.val { x with stall := .spFence (sRs w) }))))

/-- On a valid ring of this core and the current context that is not empty, POLL, WAIT and DISCARD read the slot at CONS
through class 1, and the core stalls. When it has been read, the header gives the record's len slots: DISCARD copies nothing,
POLL and WAIT copy the len slots, reading the others first, to data memory at S(rb); each then advances CONS by len, skips a
pad record reached, answers len in rd and 0 in rs, and goes on. Every data-memory byte outside the copy reads as before. A
record that would not fit at S(rb) answers 0 and 7 and raises MSG_ACCESS (0x1B), and stays. On an empty ring POLL answers 0
and 5 (EMPTY), DISCARD the same (the model's reading, log entry 61), and WAIT stalls, until RECV_TO, when it answers the
same. OCC answers the occupancy PROD - CONS. A ring that is not valid or not of this core and context answers 6 and raises
MSG_ACCESS. -/
def Obligations.RingReceive : Prop :=
  ∀ (n : CoreId) (s : State),
    let c := s.cl
    let x := c.core n.val
    (let w := c.word n.val
     let r := (x.s (sRa w)).toNat % 2 ^ 13
     let d := c.ringD r
     let mine := ringValid d = true ∧ ringCore d = n.val ∧ ringCtx d = x.cur
     let p := (c.consOf r).toNat % ringSize d
     let empty := (x.setS (sRd w) 0).setS (sRs w) 5
     let form := fun (mode : Nat) => c.serves n (isSvc 0x25 1 mode)
     c.tabSound (c.ringKeys r) →
     (∀ q ∈ [(Instr.sprecvPoll n, 0), (Instr.sprecvWait n, 1), (Instr.sprecvDiscard n, 2), (Instr.sprecvOcc n, 3)],
       form q.2 → ¬ mine →
       exec q.1 s = .next (s.setCl ((c.setCore n.val ((x.setS (sRd w) 0).setS (sRs w) 6).adv).raise 0x1B n.val x.cur)))
     ∧ (mine →
       (form 3 → exec (.sprecvOcc n) s = .next (s.setCl (c.setCore n.val
           ((x.setS (sRd w) ((c.prodOf r - c.consOf r).zeroExtend 64)).setS (sRs w) 0).adv)))
       ∧ (c.prodOf r = c.consOf r →
         (form 0 → exec (.sprecvPoll n) s = .next (s.setCl (c.setCore n.val empty.adv)))
         ∧ (form 2 → exec (.sprecvDiscard n) s = .next (s.setCl (c.setCore n.val empty.adv)))
         ∧ (form 1 → exec (.sprecvWait n) s = .next (s.setCl (c.setCore n.val
             { x with stall := .recv r (sRd w) (sRb w) (sRs w) (c.tk + c.dictAt 0x2700 3) }))))
       ∧ (c.prodOf r ≠ c.consOf r →
         ∀ q ∈ [(Instr.sprecvPoll n, 0, true), (Instr.sprecvWait n, 1, true), (Instr.sprecvDiscard n, 2, false)], form q.2.1 →
           exec q.1 s = .next (s.setCl ((c.setCore n.val { x with
             stall := .recvRead r (sRd w) (sRb w) (sRs w) q.2.2 c.spd.nextGrp }).addGroup 1 0 (.recvHead n.val)
               [lineReq 0 (c.ringSlot r p / 64) none])))))
    ∧ (∀ (r rd rb rs id : Nat) (copy : Bool) (bs : List Byte), x.stall = .recvRead r rd rb rs copy id →
      let h := BitVec.ofNat 128 (leNat (bs.take 16))
      let len := if sKind h = 3 then (16 + 4 * sNelc h + 63) / 64 else sLen h
      let p := (c.consOf r).toNat % ringSize (c.ringD r)
      let dst := (x.s rb).toNat
      let taken := fun (len : Nat) (m : Memory) (e : Sparse 64) =>
        ((({ c with dmem := m, dmemErr := e } : Cluster).consume r len).padSkip r).setCore n.val
          ((x.setS rd (BitVec.ofNat 64 len)).setS rs 0).adv
      (copy = false → c.recvHeadDone id n.val bs = taken len c.dmem c.dmemErr)
      ∧ (copy = true → 65536 < dst + 64 * len →
        c.recvHeadDone id n.val bs = (c.setCore n.val ((x.setS rd 0).setS rs 7).adv).raise 0x1B n.val x.cur)
      ∧ (copy = true → dst + 64 * len ≤ 65536 → len ≠ 1 → c.recvHeadDone id n.val bs =
        (c.setCore n.val { x with stall := .recvRead r rd rb rs true c.spd.nextGrp }).addGroup 1 0 (.recvBody n.val bs)
          ((List.range (len - 1)).map (fun j => lineReq j (c.ringSlot r (p + 1 + j) / 64) none)))
      ∧ (∀ all k, bs.length = 64 * k → c.dmemCalm n → dst + 64 * k ≤ 65536 →
        (all = c.recvHeadDone id n.val bs ∧ copy = true ∧ len = 1 ∧ k = 1 ∨ all = c.recvBodyDone id n.val bs) →
        ∃ m e, all = taken k m e
          ∧ (∀ j < 64 * k, Memory.byte m (n.val * 65536 + dst + j) = (bs[j]?).getD 0)
          ∧ (∀ b, b < n.val * 65536 + dst ∨ n.val * 65536 + dst + 64 * k ≤ b → Memory.byte m b = Memory.byte c.dmem b)))
    ∧ (c.canon → ∀ (r k : Nat), (c.consume r k).consOf r = c.consOf r + BitVec.ofNat 32 k)
    ∧ (∀ ring rd rb rs dl, x.stall = .recv ring rd rb rs dl → c.coresRun = true → dl ≤ c.tk →
      exec (.recvTimeout n) s = .next (s.setCl (c.setCore n.val ((x.setS rd 0).setS rs 5).adv)))

/-- RRD at a 4-aligned address of the CLU_, CLK_, PWR_, TB_ and DMV_ windows and of the window of the issuing core writes
the 32 bits of the register there, zero-extended, to rd; at any other address it writes zero and raises ADDR_UNMAPPED
(0x10), contained to the current context. RWR writes only the issuing core's CORE_QFULLCYC, in either 32-bit half, which any 1 bit of its 48
clears, and CORE_EVT, whose bit 0 a 1 clears; at any other address it changes nothing and raises the same fault. That RWR takes its
value from rb, and that a misaligned access is one that the table does not allow, are the model's readings (log
entry 62). -/
def Obligations.RegisterAccess : Prop :=
  ∀ (n : CoreId) (s : State),
    let c := s.cl
    let x := c.core n.val
    let w := c.word n.val
    let a := (x.s (sRa w)).toNat
    let v := (x.s (sRb w)).toNat % 2 ^ 32
    let win := fun (b : Nat) => 0x20000000 + 0x10000 * b ≤ a ∧ a < 0x20000000 + 0x10000 * (b + 1)
    let readable := a % 4 = 0 ∧ (win 0 ∨ win 1 ∨ win 2 ∨ win 3 ∨ win 10 ∨ win (16 + n.val))
    (c.fetches n (isFn 0x1E 0) →
      (readable → c.tabSound (c.viewKeys a) →
        exec (.rrd n) s = .next (s.setCl (c.setCore n.val (x.setS (sRd w) ((c.reg32 a).zeroExtend 64)).adv)))
      ∧ (¬ readable →
        exec (.rrd n) s = .next (s.setCl ((c.setCore n.val (x.setS (sRd w) 0).adv).raise 0x10 n.val x.cur))))
    ∧ (c.fetches n (isFn 0x1E 1) →
      (a = rCore n.val + 0x20 → exec (.rwr n) s = .next (s.setCl
        (if v = 0 then c.setCore n.val x.adv else (c.setCore n.val x.adv).setReg a 0)))
      ∧ (a = rCore n.val + 0x38 → exec (.rwr n) s = .next (s.setCl
        ((c.setCore n.val x.adv).setReg a (if v % 2 = 0 then c.regAt a else c.regAt a &&& ~~~1))))
      ∧ (a = rCore n.val + 0x24 → exec (.rwr n) s = .next (s.setCl
        (if v % 2 ^ 16 = 0 then c.setCore n.val x.adv else (c.setCore n.val x.adv).setReg (a - 4) 0)))
      ∧ (a ≠ rCore n.val + 0x20 → a ≠ rCore n.val + 0x24 → a ≠ rCore n.val + 0x38 →
        exec (.rwr n) s = .next (s.setCl ((c.setCore n.val x.adv).raise 0x10 n.val x.cur))))

/-- In a cycle in which a forced disagreement of the halves is armed for an active core, any scalar instruction or walk entry
of it stops the core with CORE_LOCKSTEP (0x26) instead of its effect. A scalar core whose program counter lies outside
its code region stops with CORE_FETCH (0x27). A load or partial store of a data-memory word with an uncorrectable error stops
the core with CORE_MEM_UE (0x25), and so does an instruction word, or a walk entry with its template and delta entry, that
holds an uncorrectable error; data memory is then not marked for reload. A single-bit error in an instruction word is
corrected: CORE_MEM_CE (0x24) is raised and the instruction acts (stated of NOP). -/
def Obligations.CoreStops : Prop :=
  ∀ (n : CoreId) (s : State),
    let c := s.cl
    let x := c.core n.val
    let a := memAddr x (c.word n.val)
    (c.lockstepArmed n.val = true →
      ∀ i ∈ scalarInstrs n ++ walkInstrs n, exec i s = .next (s.setCl ((c.disarm 0x26).coreStop n.val 0 0x26)))
    ∧ (c.lockstepArmed n.val = false → c.scalarReady n.val = true → x.inCode = false →
      ∀ i ∈ scalarInstrs n, exec i s = .next (s.setCl (c.coreStop n.val 2 0x27)))
    ∧ (∀ p ∈ [(Instr.ld64 n, 0x18, 8), (Instr.ld32u n, 0x19, 4)], c.fetches n (isMaj p.2.1) →
      a % p.2.2 = 0 → a + p.2.2 ≤ 65536 → (∃ kv ∈ errWords c.dmemErr n.val a p.2.2, 2 ≤ popcount 64 kv.2.toNat) →
      exec p.1 s = .next (s.setCl (c.coreStop n.val 1 0x25)))
    ∧ (c.fetches n (isMaj 0x1B) → a % 4 = 0 → a + 4 ≤ 65536 →
      (∃ kv ∈ errWords c.dmemErr n.val (a / 8 * 8) 8, 2 ≤ popcount 64 kv.2.toNat) →
      exec (.st32 n) s = .next (s.setCl (c.coreStop n.val 1 0x25)))
    ∧ (c.lockstepArmed n.val = false →
      let stopped := Host.Outcome.next (s.setCl ((c.coreStop n.val 1 0x25).setCore n.val
        { (c.coreStop n.val 1 0x25).core n.val with reloadD := x.reloadD }))
      let ue := fun (a len : Nat) => ∃ kv ∈ errWords c.imemErr n.val a len, 2 ≤ popcount 64 kv.2.toNat
      (c.scalarReady n.val = true → x.inCode = true → isSub 0x3F 1 (c.word n.val) = true →
        (ue x.pc 4 → exec (.nop n) s = stopped)
        ∧ (∀ k m, errWords c.imemErr n.val x.pc 4 = [(k, m)] → popcount 64 m.toNat < 2 →
          exec (.nop n) s = .next (s.setCl ((c.raise0 0x24 n.val).setCore n.val x.adv))))
      ∧ (c.coresRun = true → x.walkRun = true → x.stopped = false → x.wwait = 0 → c.walkEntry n.val / 2 ^ 28 = 0 →
        ((∃ p ∈ x.walkParts (c.walkEntry n.val), ue p.1 p.2) → exec (.issue n) s = stopped)))

/-- LOOP sets loop k's index to 0 and opens its body at the next entry with its count. ENDL adds 1 to the index: below
the count it continues at the entry after the LOOP, otherwise it closes the loop and falls through. JMP continues at its
target. END ends the walk of this lining, which ends a WDRAIN. Nothing else changes. -/
def Obligations.WalkFlow : Prop :=
  ∀ (n : CoreId) (s : State),
    let c := s.cl
    let x := c.core n.val
    let e := c.walkEntry n.val
    let k := e / 2 ^ 26 % 4
    let l := vat x.loops k Loop.reset
    let gives := fun (y : Core) => Host.Outcome.next (s.setCl (c.setCore n.val y))
    (c.walks n 1 0 → exec (.loop n) s =
      gives { x with widx := x.widx + 1, loops := vset x.loops k ⟨true, 0, e % 2 ^ 16 + 1, x.widx + 1⟩ })
    ∧ (c.walks n 2 0 →
      (l.idx + 1 < l.cnt → exec (.endl n) s = gives { x with widx := l.at_, loops := vset x.loops k { l with idx := l.idx + 1 } })
      ∧ (l.cnt ≤ l.idx + 1 → exec (.endl n) s =
        gives { x with widx := x.widx + 1, loops := vset x.loops k ⟨false, 0, 0, 0⟩ }))
    ∧ (c.walks n 5 0 → exec (.jmp n) s = gives { x with widx := e % 2 ^ 12 })
    ∧ (c.walks n 15 0 →
      (x.stall ≠ .wdrain → exec (.endWalk n) s = gives { x with walkRun := false, wwait := 10 })
      ∧ (x.stall = .wdrain → exec (.endWalk n) s = gives { x.adv with walkRun := false, wwait := 10 }))

/-- ISSUE appends its template, patched, to the queue it names (MA0 to MA3, vector engine and tile mover of the core, DM0
to DM3), visible QUEUE_VIS after the second cycle of its CK_C cycle, goes on, and uses one walk credit; a WDRAIN whose
credit is used up ends. In scalar mode without credit it stalls, and where the queue holds 64 entries, those freed in the
present CK_C cycle among them, it stalls until one can be written. An entry with a reserved QSEL is not performed. -/
def Obligations.IssueEntry : Prop :=
  ∀ (n : CoreId) (s : State),
    let c := s.cl
    let x := c.core n.val
    let e := c.walkEntry n.val
    let sel := e / 2 ^ 24 % 16
    let q := if sel < 6 then 6 * n.val + sel else 48 + (sel - 6) % 4
    let full := 64 ≤ (c.queue q).ents.length + ((c.queue q).freed.filter (fun g => decide (c.clk.free / 2 * 2 ≤ g))).length
    let op := x.patch (BitVec.ofNat 256 (c.imemAt n.val (x.tmpl + 32 * (e / 2 ^ 13 % 2 ^ 11)) 32)) (c.deltaEntry n.val (e / 2 ^ 5 % 2 ^ 8))
    ((c.walks n 0 0 ∨ c.walks n 0 9) → 10 ≤ sel → exec (.issue n) s = .next s)
    ∧ ((c.walks n 0 0 ∨ c.walks n 0 9) → sel < 10 →
      (x.mode = 2 → x.credit = 0 → exec (.issue n) s = .next (s.setCl (c.setCore n.val { x with wwait := 9 })))
      ∧ ((x.mode = 2 → x.credit ≠ 0) → full → exec (.issue n) s = .next (s.setCl (c.setCore n.val { x with wwait := 1 })))
      ∧ ((x.mode = 2 → x.credit ≠ 0) → ¬ full →
        let y := { x with widx := x.widx + 1, wwait := 0, credit := x.credit - 1 }
        exec (.issue n) s = .next (s.setCl ((c.setQueue q { c.queue q with
            ents := (c.queue q).ents ++ [⟨op, c.clk.free / 2 * 2 + 1 + c.floor 11⟩] }).setCore n.val
          (if x.stall = .wdrain ∧ x.credit ≤ 1 then y.adv else y)))))
    ∧ (c.walks n 0 1 → ¬ full → exec (.walkerQfullResume n) s = .next (s.setCl (c.setCore n.val { x with wwait := 0 })))

/-- With i_k the index of loop k while it is open and 0 otherwise, a template patched by a delta entry has STAMP + sum of
i_k * SSTEP_k modulo 2^32 as its STAMP; where FW is not 0, the field of FW bits from FLO holds T's field + sum of
i_k * FSTEP_k modulo 2^FW (FLO 0 to 191 and FW 1 to 32, as R262 bounds them); every other bit is T's. The fields of the
entry lie at the bits of R262, and DIDX 0 names an entry of zeros. -/
def Obligations.DeltaPatch : Prop :=
  (∀ (x : Core) (t d : BitVec 256),
    let i := fun (k : Fin 4) => if (x.loops[k]).opn then ((x.loops[k]).idx : Int) else 0
    let ss := fun (k : Fin 4) => (d.extractLsb' (128 + 32 * k.val) 32).toInt
    let fs := fun (k : Fin 4) => (d.extractLsb' (24 * k.val) 24).toInt
    let flo := (d.extractLsb' 120 8).toNat
    let fw := (d.extractLsb' 114 6).toNat
    let stamp := BitVec.ofInt 32 ((t.extractLsb' 192 32).toInt + (i 0 * ss 0 + i 1 * ss 1 + i 2 * ss 2 + i 3 * ss 3))
    let field := BitVec.ofInt fw (((t.extractLsb' flo fw).toNat : Int) + (i 0 * fs 0 + i 1 * fs 1 + i 2 * fs 2 + i 3 * fs 3))
    flo ≤ 191 → fw ≤ 32 →
    ∀ b < 256, (x.patch t d).getLsbD b =
      if flo ≤ b ∧ b < flo + fw then field.getLsbD (b - flo)
      else if 192 ≤ b ∧ b < 224 then stamp.getLsbD (b - 192) else t.getLsbD b)
  ∧ ∀ (c : Cluster) (n : CoreId), c.deltaEntry n.val 0 = 0

/-- WAITK goes on where its comparator is true and stalls where it is not; the release lets the walker go on once it is
true. A comparator is true when its source (LCC, or tk since LCC 0; 0 before LCC 0) is at least BASE plus the sum of
loop indices times the SSTEP values of its delta entry, modulo 2^32, in a table word and a delta entry that hold no error. A
record is readable from the cycle that executes its LCC value, and not while that cycle is held. SEL of a variant region continues at TBASE plus the
variant in force of the region's context and pops nothing; SEL of a branch region stalls where no record is readable,
pops a record of its region and continues at TBASE + ALT (the entry is read, through class 5, before it acts), and takes alternative 0 where the head names another region (it
then pops nothing: the model's reading, log entry 63) or its own record was discarded. SEL_RESUME does the same once a record
is readable, or discarded. -/
def Obligations.WalkChoices : Prop :=
  ∀ (n : CoreId) (s : State),
    let c := s.cl
    let x := c.core n.val
    let e := c.walkEntry n.val
    let gives := fun (y : Core) => Host.Outcome.next (s.setCl (c.setCore n.val y))
    let k := e / 2 ^ 25 % 8
    let cmp := c.regAt (rCore n.val + 0x100 + 8 * k)
    let d := c.deltaEntry n.val (cmp.extractLsb' 54 8).toNat
    let sum := ((x.loopIdx 0 : Int) * (d.extractLsb' 128 32).toInt + x.loopIdx 1 * (d.extractLsb' 160 32).toInt
      + x.loopIdx 2 * (d.extractLsb' 192 32).toInt + x.loopIdx 3 * (d.extractLsb' 224 32).toInt)
    let src := match c.run with
      | some r => if r.begun then (if cmp.extractLsb' 62 2 = 0 then BitVec.ofNat 32 c.tim.lcc else (c.tb.value - r.tb0).truncate 32) else 0
      | none => 0
    let true_ := (cmp.extractLsb' 0 32 + BitVec.ofInt 32 sum).ule src = true
    let didx := (cmp.extractLsb' 54 8).toNat
    let sound := c.tabSound [rCore n.val + 0x100 + 8 * k] ∧ c.imemSound n (if didx = 0 then [] else [(x.delta + 32 * didx, 32)])
    let tab := e / 2 ^ 16 % 2 ^ 12
    let base := e % 2 ^ 12
    (c.walks n 3 0 → sound →
      (true_ → exec (.waitk n) s = gives { x with widx := x.widx + 1 })
      ∧ (¬ true_ → exec (.waitk n) s = gives { x with wwait := 7 }))
    ∧ (c.walks n 3 7 → sound → true_ → exec (.waitkRelease n) s = gives { x with widx := x.widx + 1, wwait := 0 })
    ∧ (∀ p ∈ [(Instr.sel n, 0), (Instr.selResume n, 2)], c.walks n 4 p.2 →
      (p.2 = 2 → c.segHead n.val = none → tab ∉ x.segLost → exec p.1 s = .next s)
      ∧ ((p.2 = 2 → (c.segHead n.val).isSome = true ∨ tab ∈ x.segLost) → ∀ ent d, c.segEntry tab = (some ent, d) →
        let y := d.core n.val
        let goes := fun (y : Core) => exec p.1 s = .next (s.setCl (d.setCore n.val y))
        (segVar ent = true → goes { y with widx := base + (d.ctx (segCtx ent)).var, wwait := 0 })
        ∧ (segVar ent = false → ∀ r rest, y.segq = r :: rest →
          r.at_ < d.tim.lcc ∨ (r.at_ = d.tim.lcc ∧ d.heldNow = false) →
          (r.tab = tab → goes { y with widx := base + r.alt, wwait := 0, segq := rest })
          ∧ (r.tab ≠ tab → goes { y with widx := base, wwait := 0, segLost := y.segLost.erase tab }))
        ∧ (segVar ent = false → (∀ r rest, y.segq = r :: rest → d.tim.lcc < r.at_ ∨ (r.at_ = d.tim.lcc ∧ d.heldNow = true)) →
          (tab ∈ y.segLost → goes { y with widx := base, wwait := 0, segLost := y.segLost.erase tab })
          ∧ (tab ∉ y.segLost → goes { y with wwait := 2 }))))

/-- A sync record of a torn-down context does nothing and the walk goes on. A signal in own form goes to the
synchronisation unit as an operation of the record's context on the word its VID translates to, and the walk goes on; in
cross form it takes the lowest free signal slot, and with none free the walker stalls and shows WAIT 0x3, and tries again. A
wait goes to the unit, and the walker stalls until the unit has read the word: if the condition holds the walk goes on, and a
TAKE clears FULL in the word written back; if not, with timeout 0 the walk goes on, and else the wait is registered with its
deadline timeout tk ahead; when it has expired, the walk goes on too. A VID that does not translate raises SYN_ACCESS (0x1E),
and the walk goes on. -/
def Obligations.SyncRecords : Prop :=
  (∀ (n : CoreId) (s : State),
    let c := s.cl
    let x := c.core n.val
    let t : BitVec 256 := BitVec.ofNat 256 (c.imemAt n.val (x.tmpl + 32 * (c.walkEntry n.val / 2 ^ 13 % 2 ^ 11)) 32)
    let ctx := (t.extractLsb' 242 6).toNat
    let kind := (t.extractLsb' 239 3).toNat % 4
    let target := (t.extractLsb' 128 32).toNat
    let operand := t.extractLsb' 192 32
    let timeout := (t.extractLsb' 160 32).toNat
    let on := c.setCore n.val { x with widx := x.widx + 1, wwait := 0 }
    let vid := target % 2 ^ 16
    let word := fun (e : W32) => (e.extractLsb' 0 17).toNat
    (c.walks n 6 0 ∨ c.walks n 6 3) → vat c.waiters n.val none = none →
    (c.tornSeen ctx = true → exec (.syncRec n) s = .next (s.setCl on))
    ∧ (c.tornSeen ctx = false → t.getLsbD 238 = true → 2 ^ 31 ≤ target →
      (∀ k < 8, vat x.sig k none = none → (∀ j < k, vat x.sig j none ≠ none) →
        exec (.syncRec n) s = .next (s.setCl { on.setCore n.val { on.core n.val with sig := vset x.sig k (some
            ⟨target / 2 ^ 24 % 64, target / 2 ^ 16 % 64, vid, kind, operand, ctx, false, 0, none, c.nextOrd⟩) }
          with nextOrd := c.nextOrd + 1 }))
      ∧ ((∀ k < 8, vat x.sig k none ≠ none) → exec (.syncRec n) s = .next (s.setCl (c.setCore n.val { x with wwait := 3 }))))
    ∧ (c.tornSeen ctx = false → c.tabSound (c.vidKeys ctx vid) → (t.getLsbD 238 = true → target < 2 ^ 31) →
      (c.translateVid ctx vid = none → exec (.syncRec n) s = .next (s.setCl (on.raise 0x1E n.val ctx)))
      ∧ (∀ e, c.translateVid ctx vid = some e →
        (t.getLsbD 238 = true → exec (.syncRec n) s =
          .next (s.setCl (on.syncPost (word e) ctx (1 + n.val) (.signal kind operand ctx c.straps.toNat n.val) none)))
        ∧ (t.getLsbD 238 = false → exec (.syncRec n) s = .next (s.setCl
          (({ c.setCore n.val { x with wwait := 3 } with waiters := vset c.waiters n.val (some
              { live := false, id := c.nextOrd, word := word e, vid := vid, kind := kind, operand := operand, ctx := ctx,
                engine := true, deadline := 0, rd := 0, rs := 0 }) } : Cluster).syncPost (word e) ctx (1 + n.val)
            (.wait n.val timeout) none))))))
  ∧ ∀ (c : Cluster) (n : CoreId) (o : SyncOp) (wt : Waiter) (timeout : Nat) (v : W64),
    let x := c.core n.val
    let val := v.extractLsb' 0 32
    let full := v.getLsbD 63
    let holds := if wt.kind = 3 then !full else if wt.kind = 2 then full && decide (0 ≤ (val - wt.operand).toInt) else full
    let counted := c.bump (rSyn + 0x508) (rSyn + 0x518) 1 1
    let back := fun (d : Cluster) (new : W64) =>
      d.addGroup 2 0 (.syncWrite o.id) [partReq 0 (syncAddr o.word) 8 (some (leBytes 8 new.toNat))]
    let goesOn := ({ counted with waiters := vset c.waiters n.val none } : Cluster).setCore n.val
      { x with widx := x.widx + 1, wwait := 0 }
    c.syncOps.find? (fun p => p.id == o.id) = some o → vat c.waiters n.val none = some wt →
    wt.live = false → wt.id = o.id → wt.word = o.word → wt.engine = true → wt.kind < 4 →
    (∀ m < 8, ∀ wt', vat c.waiters m none = some wt' → wt'.live = true → wt'.word ≠ o.word) →
    (o.what = .wait n.val timeout →
      (holds = true → c.syncReadDone o.id v false = back goesOn (if wt.kind = 1 then setFld v 63 63 0 else v))
      ∧ (holds = false → timeout = 0 → c.syncReadDone o.id v false = back goesOn v)
      ∧ (holds = false → timeout ≠ 0 → c.syncReadDone o.id v false = back { counted with
          waiters := vset c.waiters n.val (some { wt with live := true, deadline := c.tk + timeout }) } v))
    ∧ (o.what = .expire n.val →
      let d := c.syncReadDone o.id v false
      vat d.waiters n.val none = none ∧ (d.core n.val).widx = x.widx + 1 ∧ (d.core n.val).wwait = 0)

/-- The op o of code opc starts on a queue in this cycle exactly when the cycle executes an LCC value, o is the visible
head of the queue, the queue is open, its engine runs no op, and the LCC value is at least both o's STAMP and the end of
the engine's previous op; and no pre-emption point is due that has not acted. -/
def Obligations.StartRule : Prop :=
  ∀ (c : Cluster) (q opc : Nat) (o : MacroOp),
    let e := c.queue q
    c.starting q opc = some o ↔
      c.runs = true ∧ c.pointDue = false ∧ (∃ vis rest, e.ents = ⟨o, vis⟩ :: rest ∧ vis ≤ c.clk.free)
        ∧ e.run = none ∧ e.started < e.count ∧ opOpc o = opc ∧ opStamp o ≤ c.lcc ∧ e.fin ≤ c.lcc

/-- Starting op o on queue q frees its entry, which the queue notes with the cycle, counts it as started, and keeps the engine busy until DUR later. A start
later than the STAMP adds 1 to the 48-bit slip counter of the queue, and writes CLU_SLIPFIRST if it is empty. A nullified
op adds its DUR to the nullified cycles of its context; any other adds it to the op cycles, and DUR times its token rate
(plus 1 on an array whose witness runs, MNUL apart) to the tokens, as long as those counters do not reach 2^64. Beside the
queue and those registers, their wrap bit and the sticky mask of the context, nothing changes. -/
def Obligations.OpStart : Prop :=
  ∀ (c : Cluster) (q : QueueId) (o : MacroOp),
    let e := c.queue q.val
    let nul := c.nullified q.val e.started o c.lcc
    let late := decide (opStamp o < c.lcc)
    let slips := 0x20001100 + 8 * q.val
    let acct := fun (k : Nat) => 0x20074000 + 0x100 * opCtx o + 8 * k
    let wit := match arrayOfQ q.val with
      | some a => if c.witness a && opOpc o != 0x16 then 1 else 0
      | none => 0
    c.canon →
    ∃ r : Sparse 64, c.startOp q.val o = ({ c with reg := r, queues := vset c.queues q.val { e with
          ents := e.ents.drop 1, started := e.started + 1, fin := c.lcc + opDur o,
          run := some ⟨o, c.lcc, c.lcc + opDur o, nul⟩, lastCtx := opCtx o,
          freed := c.clk.free :: e.freed.filter (fun f => decide (c.clk.free / 2 * 2 ≤ f)) } }, nul)
      ∧ (late = false → Sparse.get r slips = c.regAt slips ∧ Sparse.get r 0x20001300 = c.regAt 0x20001300)
      ∧ (late = true →
        Sparse.get r slips = BitVec.ofNat 64 (((c.regAt slips).toNat % 2 ^ 48 + 1) % 2 ^ 48)
        ∧ ((c.regAt 0x20001300).getLsbD 63 = true → Sparse.get r 0x20001300 = c.regAt 0x20001300)
        ∧ ((c.regAt 0x20001300).getLsbD 63 = false → Sparse.get r 0x20001300 = BitVec.ofNat 64
            (2 ^ 63 + q.val * 2 ^ 57 + opCtx o * 2 ^ 51 + min (c.lcc - opStamp o) 0x7FFFF * 2 ^ 32 + opStamp o)))
      ∧ (nul = true → (c.regAt (acct 3)).toNat + opDur o < 2 ^ 64 →
        Sparse.get r (acct 3) = c.regAt (acct 3) + BitVec.ofNat 64 (opDur o)
        ∧ Sparse.get r (acct 2) = c.regAt (acct 2) ∧ Sparse.get r (acct 4) = c.regAt (acct 4))
      ∧ (nul = false → (c.regAt (acct 2)).toNat + opDur o < 2 ^ 64 →
        (c.regAt (acct 4)).toNat + opDur o * (tokRate o + wit) < 2 ^ 64 →
        Sparse.get r (acct 2) = c.regAt (acct 2) + BitVec.ofNat 64 (opDur o)
        ∧ Sparse.get r (acct 4) = c.regAt (acct 4) + BitVec.ofNat 64 (opDur o * (tokRate o + wit))
        ∧ Sparse.get r (acct 3) = c.regAt (acct 3))
      ∧ (∀ a, a ≠ slips → a ≠ 0x20001040 → a ≠ 0x20001300 → a ≠ acct 2 → a ≠ acct 3 → a ≠ acct 4 → a ≠ acct 16 →
        Sparse.get r a = c.regAt a)

/-- A nullified TLD, TST, TMOV, TZERO, vector op, MPRE, MNUL, DMGET, DMPUT or DMARR only starts: it takes its slot, its slip
and its accounting, and has no other effect. TCFG, TREL, LAUNCH, PPMARK and SCREED are never nullified. -/
def Obligations.NullifiedOps : Prop :=
  ∀ (n : CoreId) (a : ArrayId) (ch : ChanId) (o : MacroOp) (s : State),
    let c := s.cl
    let q := qChan ch.val
    let ops : List (Instr × Nat × Nat) :=
      [(.tld n, qTile n.val, 0x21), (.tst n, qTile n.val, 0x22), (.tmov n, qTile n.val, 0x23), (.tzero n, qTile n.val, 0x25),
       (.vrun n, qVec n.val, 0x30), (.vbcast n, qVec n.val, 0x31), (.vred n, qVec n.val, 0x32), (.vtopk n, qVec n.val, 0x33),
       (.vgath n, qVec n.val, 0x34), (.vscat n, qVec n.val, 0x35), (.vcvt n, qVec n.val, 0x36), (.vstat n, qVec n.val, 0x37),
       (.mpre a, qArr a.val, 0x15), (.mnul a, qArr a.val, 0x16), (.dmget ch, q, 0x40), (.dmput ch, q, 0x41), (.dmarr ch, q, 0x42)]
    (∀ p ∈ ops, c.starting p.2.1 p.2.2 = some o → c.nullified p.2.1 (c.queue p.2.1).started o c.lcc = true →
      exec p.1 s = .next (s.setCl (c.startOp p.2.1 o).1))
    ∧ (opOpc o ∈ [0x20, 0x24, 0x50, 0x52, 0x53] → ∀ q i t, c.nullified q i o t = false)

/-- In a configured tile, a row whose empty bit is set reads as zero in every byte. A write of at most B bytes into row r
stores them; where the row was empty, its every other byte reads as zero afterwards and its empty bit is clear, and where it
was not, every other byte of it reads as before. No byte of another row or of another tile reads differently. -/
def Obligations.EmptyRows : Prop :=
  ∀ (c : Cluster) (n : CoreId) (t r : Nat),
    let b := c.tileB n.val t
    let empty := (c.tileEmpty n.val t).testBit r
    c.canon → c.tileValid n.val t = true → r < c.tileRows n.val t →
    (empty = true → ∀ j < b, c.tileByte n.val t (r * b + j) = 0)
    ∧ (∀ (off : Nat) (bs : List Byte), 0 < bs.length → off + bs.length ≤ b →
      let d := c.tileWrite n.val t r off bs
      (∀ j < b, d.tileByte n.val t (r * b + j) =
        if off ≤ j ∧ j < off + bs.length then bs.getD (j - off) 0
        else if empty then 0 else c.tileByte n.val t (r * b + j))
      ∧ (d.tileEmpty n.val t).testBit r = false
      ∧ (∀ (r' j : Nat), r' ≠ r → j < b → d.tileByte n.val t (r' * b + j) = c.tileByte n.val t (r' * b + j))
      ∧ (∀ (n' : CoreId) (t' k : Nat), (n', t') ≠ (n, t) → d.tileByte n'.val t' k = c.tileByte n'.val t' k))

/-- A TCFG, a TREL and a TZERO that is not nullified start, and what they change comes about at the end of that cycle, behind
its writes. At the end of that cycle a TCFG none of whose tiles has an in-flight reference gives every tile of its masks its
geometry, all rows empty; a TREL leaves every tile of its masks unconfigured; a TZERO sets the empty bits of its rows in its
tile and no other. Each leaves the other tiles' configuration and empty bits and all memory as they were. A TCFG that meets a
reference changes no tile, and does its TILE_CFG_BUSY (0x12) record and fault. -/
def Obligations.TileShapes : Prop :=
  (∀ (n : CoreId) (o : MacroOp) (s : State),
    let c := s.cl
    let q := qTile n.val
    let d := (c.startOp q o).1
    let after := fun (i : Instr) => exec i s = .next (s.setCl { d with posts := d.posts ++ [⟨c.lcc, 9, .config n.val o⟩] })
    (c.starting q 0x20 = some o → after (.tcfg n))
    ∧ (c.starting q 0x24 = some o → after (.trel n))
    ∧ (c.starting q 0x25 = some o → c.nullified q (c.queue q).started o c.lcc = false → after (.tzero n)))
  ∧ ∀ (c : Cluster) (n : CoreId) (o : MacroOp),
    let d := c.deliver (.config n.val o)
    let named := fun (t : Nat) => t < 24 ∧ o.getLsbD (if t < 16 then 176 + t else 152 + t) = true
    let busy := c.busyRefs n.val c.lcc (maskTiles o)
    let keeps := d.mem = c.mem ∧ d.arrs = c.arrs ∧ d.cores = c.cores
    let same := fun (t : Nat) => d.tileCfg n.val t = c.tileCfg n.val t ∧ d.tileEmpty n.val t = c.tileEmpty n.val t
    c.canon →
    (opOpc o = 0x20 →
      (busy = [] → keeps
        ∧ (∀ t, named t → d.tileValid n.val t = true ∧ d.tileRows n.val t = fld o 167 161 + 1
          ∧ d.tileB n.val t = 16 * (fld o 160 157 + 1) ∧ d.tileEmpty n.val t = 2 ^ 128 - 1)
        ∧ (∀ t < 24, ¬ named t → same t))
      ∧ (busy ≠ [] → d = c.cfgBusy n.val o busy ∧ ∀ t < 24, same t))
    ∧ (opOpc o = 0x24 → keeps
        ∧ (∀ t, named t → d.tileValid n.val t = false ∧ d.tileEmpty n.val t = 2 ^ 128 - 1)
        ∧ (∀ t < 24, ¬ named t → same t))
    ∧ (opOpc o = 0x25 → keeps
        ∧ (∀ t < 24, d.tileCfg n.val t = c.tileCfg n.val t)
        ∧ (∀ t < 24, ∀ r < 128, (d.tileEmpty n.val t).testBit r = ((c.tileEmpty n.val t).testBit r
            || (decide (t = fld o 191 187) && c.tileValid n.val t && decide (fld o 186 180 ≤ r)
              && decide (r < fld o 186 180 + fld o 179 172)))))

/-- A TLD, TST or TMOV that starts and is not nullified enters its references and is under way with its NROW reads from t0 on
and its writes: row i of a TLD T_L cycles after its read, of a TST 2 cycles, of a plain TMOV T_M cycles, and chunk k of a
transposed TMOV at t0 + NT - 1 + T_M + k. While it is under way each executed cycle from t0 on reads one row: a TLD its
bytes at the address of R205, where they have no detected error; a TST its tile row, a plain TMOV its source row. The handle
of a TLD or TST has no stored error. The cycle t0 + i of a plain TMOV from one tile of a core to another, whose row width is the
B of both, reads row SROW0 + i of the source tile as it stands at the start of that cycle; when that row lands, T_M cycles later,
row DROW0 + i of the destination holds those bytes, and every other row of it and every other tile read as before. -/
def Obligations.TileMoves : Prop :=
  (∀ (n : CoreId) (o : MacroOp) (s : State),
    let c := s.cl
    let q := qTile n.val
    let d := (c.startOp q o).1
    let runs := fun (i : Instr) (t : Cluster) (m : Mov) => exec i s = .next (s.setCl t) ∧ m ∈ t.movs
    c.nullified q (c.queue q).started o c.lcc = false →
    (c.starting q 0x21 = some o → c.tabSound [rHnd (fld o 171 160)] →
      runs (.tld n) (d.doTld n.val o) ⟨n.val, 1, o, c.lcc, fld o 179 172, (d.regAt 0x20001414).toNat % 2 ^ 16, fld o 179 172, [], false⟩)
    ∧ (c.starting q 0x22 = some o → c.tabSound [rHnd (fld o 171 160)] →
      runs (.tst n) (d.doTst n.val o) ⟨n.val, 2, o, c.lcc, fld o 179 172, 2, fld o 179 172, [], false⟩)
    ∧ (c.starting q 0x23 = some o → o.getLsbD 159 = false →
      runs (.tmov n) (d.doMove n.val o) ⟨n.val, 3, o, c.lcc, fld o 167 160, (d.regAt 0x20001418).toNat % 2 ^ 16, fld o 167 160, [], false⟩)
    ∧ (c.starting q 0x23 = some o → o.getLsbD 159 = true → ∃ chunks,
      runs (.tmov n) (d.doTranspose n.val o)
        ⟨n.val, 4, o, c.lcc, fld o 167 160, fld o 167 160 - 1 + (d.regAt 0x20001418).toNat % 2 ^ 16, chunks, [], false⟩))
  ∧ (∀ (c : Cluster) (m : Mov) (i : Nat), m.stop = false → c.lcc = m.t0 + i → i < m.reads →
    (m.kind = 1 → (c.portRead (opCtx m.op) (c.rowAddr m.op i) (moveB m.op)).2.2 = false →
      c.movRead m = (c.portRead (opCtx m.op) (c.rowAddr m.op i) (moveB m.op)).2.1.post (m.t0 + i + m.woff) 0
        (landPost m.n m.op i (c.portRead (opCtx m.op) (c.rowAddr m.op i) (moveB m.op)).1))
    ∧ (m.kind = 2 → c.movRead m = c.post (m.t0 + i + 2) 0 (.spd (qTile m.n) (c.rowAddr m.op i) 0 0
        (c.rowBytes m.n (fld m.op 191 187) (fld m.op 186 180 + i) (moveB m.op))))
    ∧ (m.kind = 3 → c.movRead m = c.post (m.t0 + i + m.woff) 1 (movePost m.n m.op i
        (c.rowBytes m.n (fld m.op 191 187) (fld m.op 186 180 + i) (tmovB m.op)))))
  ∧ ∀ (c e : Cluster) (m : Mov) (i : Nat),
    let src := fld m.op 191 187
    let dst := fld m.op 179 175
    let r := fld m.op 174 168 + i
    let b := e.tileB m.n dst
    m.n < 8 → m.kind = 3 → m.stop = false → c.lcc = m.t0 + i → i < m.reads → tmovB m.op = b → c.tileB m.n src = b →
    e.canon → e.tileValid m.n dst = true → r < e.tileRows m.n dst →
    ∃ bs, c.movRead m = c.post (m.t0 + i + m.woff) 1 (.row m.n dst r bs) ∧
      let d := e.deliver (.row m.n dst r bs)
      (∀ j < b, d.tileByte m.n dst (r * b + j) = c.tileByte m.n src ((fld m.op 186 180 + i) * b + j))
      ∧ (∀ (r' j : Nat), r' ≠ r → j < b → d.tileByte m.n dst (r' * b + j) = e.tileByte m.n dst (r' * b + j))
      ∧ (∀ (n' : CoreId) (t' k : Nat), (n'.val, t') ≠ (m.n, dst) → d.tileByte n'.val t' k = e.tileByte n'.val t' k)

/-- The fill of an MMA or MMAG makes the accumulate of operand i in the cycle that executes LCC t0 + P + i, into the set that
was front at its start, and the first one begins at zero with INIT = ZERO. An accumulate takes every presented cell on from
what it holds, or from 0 where it begins at zero, and the witness column where the witness runs; every other cell keeps its
value. An integer accumulate adds its exact sum modulo 2^32; a float one adds the exact sum of its products and rounds once
to FP32; one that subtracts takes the sum off instead. The presented columns and the witness lie on good physical columns. -/
def Obligations.FillCells : Prop :=
  (∀ (c : Cluster) (a : ArrayId) (f : Fill) (i : Nat),
    let o := f.op
    let win := f.pipe.filter (fun e => decide (e.slice.i ≤ i) && decide (i < e.slice.i + 1))
    opOpc o = 0x10 ∨ opOpc o = 0x12 → f.counts = false → c.lcc = f.t0 + (c.regAt 0x20001400).toNat % 2 ^ 16 + i → i < opN o →
    c.fillAcc a.val f = c.accumulate a.val o f.front (!o.getLsbD 119 && decide (i = 0)) false
      ((List.range 128).map (winWeights o 0 win)) (winActs o 0 (c.presW a.val) win))
  ∧ ∀ (c : Cluster) (a : ArrayId) (o : MacroOp) (set1 zero sub : Bool) (ws : List (List (Nat × FV))) (xs : Array FV),
    let d := c.accumulate a.val o set1 zero sub ws xs
    let w := c.presW a.val
    let wit := c.witness a.val
    let key := fun (r p : Nat) => accKey a.val set1 r ((c.goodCols a.val).getD p 34)
    let take := fun (r p col : Nat) =>
      let old := if zero then 0 else Sparse.get c.acc (key r p)
      let prods := (ws.getD r []).map (fun k => k.2.mul (((xs)[k.1 * 33 + col]?).getD .zero))
      let sum := FV.sum prods
      if opInt o then old + BitVec.ofInt 32 (if sub then -sum.int else sum.int)
      else if prods = [] then old else toF32 ((f32 old).add (if sub then sum.neg else sum))
    c.canon → ws.length = 128 → w + (if wit then 1 else 0) ≤ (c.goodCols a.val).length →
    d = { c with acc := d.acc }
    ∧ (∀ r < 128, (∀ p < w, Sparse.get d.acc (key r p) = take r p p) ∧ (wit = true → Sparse.get d.acc (key r w) = take r w 32))
    ∧ (∀ k, (∀ r < 128, ∀ p < w + (if wit then 1 else 0), k ≠ key r p) → Sparse.get d.acc k = Sparse.get c.acc k)

/-- With P the pipeline depth and D the drain time in force, an op of one pass that starts at t0 with SWAP = 1 swaps its
sets at t_s = t0 + N + P and drains the set that was front from t_s + D - 32 on; with SWAP = 0 it does neither. A complex
four-pass op swaps inside, after its real fill, and with SWAP = 1 drains the real set then and the imaginary set at the
end. A Gauss op drains the front set at t_s + D - 32 and the other D cycles later, into the region 16 KiB on. That PRE acts on both
drains of a Gauss op and only on the imaginary drain of a complex one, and that the real part drains only with SWAP = 1, is the
model's reading (log entry 65). -/
def Obligations.SwapsAndDrains : Prop :=
  ∀ (c : Cluster) (o : MacroOp) (t0 : Nat) (front : Bool),
    let p := (c.regAt 0x20001400).toNat % 2 ^ 16
    let d := (c.regAt 0x20001404).toNat % 2 ^ 16
    let n := opN o
    let ts := t0 + n + p
    let pre := o.getLsbD 116
    let mmac := opOpc o = 0x13
    let cm := fld o 17 16
    32 ≤ d →
    ((opOpc o = 0x10 ∨ opOpc o = 0x11 ∨ opOpc o = 0x12 ∨ (mmac ∧ cm < 2)) →
      (o.getLsbD 118 = true → c.opDrains o t0 front = [(some ts, some (ts + d - 32, front, 0, pre))])
      ∧ (o.getLsbD 118 = false → c.opDrains o t0 front = []))
    ∧ (mmac → cm = 2 →
      let h := t0 + n / 2 + p
      (o.getLsbD 118 = true → c.opDrains o t0 front =
        [(some h, some (h + d - 32, front, 0, false)), (some ts, some (ts + d - 32, !front, 0, pre))])
      ∧ (o.getLsbD 118 = false → c.opDrains o t0 front = [(some h, none)]))
    ∧ (mmac → cm = 3 → c.opDrains o t0 front =
      [(none, some (ts + d - 32, front, 0, pre)), (none, some (ts + d - 32 + d, !front, 1, pre))])

/-- An op of the MMA family that starts on an array and is not nullified begins its fill on the front set with what was read
ahead for it, with table words that hold no error, and enters its swaps and drains; nullified, it fills nothing and enters
the same swaps, and drains that write nothing. What was read ahead for ops up to its start is dropped. -/
def Obligations.MatrixOps : Prop :=
  ∀ (a : ArrayId) (o : MacroOp) (s : State),
    let c := s.cl
    let q := qArr a.val
    let p := c.startOp q o
    let finish := fun (d : Cluster) (nul : Bool) =>
      let d1 := d.setArr a.val { d.arr a.val with ahead := (d.arr a.val).ahead.filter (fun e => decide (c.lcc < e.t0)) }
      if d1.run = none then d1 else d1.swapDrain a.val o nul (d1.opDrains o c.lcc (d.arr a.val).front)
    ∀ i ∈ [(Instr.mma a, 0x10), (.mmas a, 0x11), (.mmag a, 0x12), (.mmac a, 0x13)], c.starting q i.2 = some o →
      (c.nullified q (c.queue q).started o c.lcc = true → exec i.1 s = .next (s.setCl (finish p.1 true)))
      ∧ (c.nullified q (c.queue q).started o c.lcc = false → c.tabSound (opKeys (a.val / 4) o) →
        exec i.1 s = .next (s.setCl (finish (p.1.doMma a.val o) false))
        ∧ ∃ f ∈ ((p.1.doMma a.val o).arr a.val).fills, f.op = o ∧ f.t0 = c.lcc ∧ f.front = (c.arr a.val).front)

/-- An MDRAIN that starts at t swaps at t + P and drains the set that was front from t + P + D - 32 on; nullified, it still
swaps and its drain writes nothing. An MPRE that is not nullified is under way on its array from its start. An MNUL only
takes its slot. A read ahead with no read due changes nothing; else the lists of the core's arrays that are due are read,
and then every tile read that is due for the array's planned ops is made and the feeder lines that are due are asked for. That
the reads due before a start are made by this command is the model's form (log entries 7, 12 and 51). -/
def Obligations.MatrixMarkers : Prop :=
  ∀ (a : ArrayId) (o : MacroOp) (s : State),
    let c := s.cl
    let q := qArr a.val
    let p := c.startOp q o
    let nul := c.nullified q (c.queue q).started o c.lcc
    let ts := c.lcc + (c.regAt 0x20001400).toNat % 2 ^ 16
    let d := (p.1.regAt 0x20001404).toNat % 2 ^ 16
    (c.starting q 0x14 = some o → exec (.mdrain a) s = .next (s.setCl
      (p.1.swapDrain a.val o nul [(some ts, some (ts + (d - 32), (c.arr a.val).front, 0, o.getLsbD 116))])))
    ∧ (c.starting q 0x15 = some o → nul = false → exec (.mpre a) s = .next (s.setCl (p.1.doMpre a.val o))
      ∧ ((p.1.doMpre a.val o).arr a.val).mpre = (c.arr a.val).mpre ++ [⟨o, c.lcc, []⟩])
    ∧ (c.starting q 0x16 = some o → exec (.mnul a) s = .next (s.setCl p.1))
    ∧ (c.aheadDue a.val = false → exec (.readAheadOfStart a) s = .next s)
    ∧ (c.aheadDue a.val = true → exec (.readAheadOfStart a) s = .next (s.setCl
      ((c.readLists (a.val / 4)).each ((c.readLists (a.val / 4)).planned a.val) (fun d p =>
        let due := d.readsDue a.val p.1 p.2
        if due.isEmpty then d
        else d.withTab (opKeys (a.val / 4) p.1) (fun d =>
          (d.each due (fun d r => d.makeRead a.val p.1 p.2 r)).issueLines a.val p.1 p.2 (d.aheadOf a.val p.1 p.2).list
            (due.filter (fun r => decide (r.1 < 3))))))))

/-- A drain of an array that is due leaves the array's list of drains and is under way, with table words that hold no error;
from then on the cycle that executes its LCC value plus i reads group i, for 32 groups: a drain of a nullified op reads
nothing; of one without a skim chain, preload and witness the group's values are posted for the next LCC value, in 4-byte
elements. A drain whose lowest mismatching row is r adds 1 to the COUNT of MXE_WITSTAT, sticking at its largest value,
records r, the context, the set and the STAMP unless a mismatch is recorded already, makes the array pending for fencing at
the threshold, and raises MXE_WITNESS (0x28), contained to the context of the op. A row of an integer set mismatches where the sum
of its presented values is not its witness value modulo 2^32; one of a float set is skipped, and counted in WITSKIP, where any of
these is NaN or infinite, and else mismatches where |W - S| > 2^-TOLREL * (M + |W|) + A, without rounding. A row drain
compares rows 4i to 4i + 3 in group i, a column drain every row in group w - 1, and a drain raises one fault at most. -/
def Obligations.DrainRuns : Prop :=
  (∀ (a : ArrayId) (s : State) (j : DrainJob) (rest : List DrainJob),
    let c := s.cl
    let x := c.arr a.val
    c.runs = true → x.jobs = j :: rest → j.due ≤ c.lcc → (j.nul = false → c.tabSound (drainKeys (a.val / 4) j.op)) →
    exec (.drain a) s = .next (s.setCl (c.setArr a.val { x with jobs := rest, drn := some j })))
  ∧ (∀ (c : Cluster) (a : ArrayId) (j : DrainJob) (i : Nat),
    let x := c.arr a.val
    let next := fun (d : Cluster) (j : DrainJob) => d.setArr a.val { d.arr a.val with drn := if i < 31 then some j else none }
    x.drn = some j → c.lcc = j.due + i →
    (j.nul = true → c.drainCycle a.val = next c j)
    ∧ (j.nul = false → j.pre = false → c.witness a.val = false → fld j.op 109 104 = 0 →
      let raw := c.rawGroup a.val j.set1 (j.op.getLsbD 117) i
      ∃ j' : DrainJob, j'.op = j.op ∧ j'.due = j.due ∧ j'.set1 = j.set1
        ∧ c.drainCycle a.val = next (c.each (groupPieces (j.op.getLsbD 117) 32 (c.presW a.val) i (raw.map (fun v => v.toNat)))
          (fun c p => c.postPiece a.val j (c.lcc + 1) p)) j')
    ∧ (j.nul = false → j.pre = false → c.witness a.val = true → fld j.op 109 104 = 0 →
      let w := c.presW a.val
      let raw := c.rawGroup a.val j.set1 (j.op.getLsbD 117) i
      let rows := if j.op.getLsbD 117 then (List.range 4).map (fun k => (4 * i + k, (raw.drop (32 * k)).take w))
        else if i + 1 = w then (List.range 128).map (fun r => (r, (j.seen ++ [raw]).map (fun g => g.getD r 0))) else []
      let x := c.witnessRows a.val j rows
      ∃ j' : DrainJob, j'.op = j.op ∧ j'.due = j.due ∧ j'.set1 = j.set1 ∧ j'.hit = x.2
        ∧ (j.op.getLsbD 117 = false → i < w → j'.seen = j.seen ++ [raw])
        ∧ c.drainCycle a.val = next (x.1.each (groupPieces (j.op.getLsbD 117) 32 (x.1.presW a.val) i (raw.map (fun v => v.toNat)))
          (fun d p => d.postPiece a.val j (c.lcc + 1) p)) j'))
  ∧ (∀ (c : Cluster) (a : ArrayId) (j : DrainJob) (rows : List (Nat × List W32)),
    let n := a.val / 4
    let wit := (c.goodCols a.val).getD (c.presW a.val) 34
    let out := fun (r : Nat × List W32) => rowMismatch (jobInt j) (c.regAt (rMxe n + 0x10 * (a.val % 4) + 8)) r.2
      (Sparse.get (c.setCells a.val j.set1) (accKey a.val j.set1 r.1 wit))
    let skipped := (rows.filter (fun r => (out r).isNone)).length
    let d := if skipped = 0 then c
      else c.bump (rMxe n + 0x140 + 8 * (a.val % 4)) (rMxe n + 0x10 * (a.val % 4) + 0x200) 8 skipped
    rows ≠ [] → c.armedAt 0x28 a.val = false →
    ((∀ r ∈ rows, out r ≠ some true) → c.witnessRows a.val j rows = (d, j.hit))
    ∧ (∀ pre r post, rows = pre ++ r :: post → (∀ p ∈ pre, out p ≠ some true) → out r = some true →
      c.witnessRows a.val j rows = (if j.hit then d else d.witnessFault a.val j r.1, true)))
  ∧ (∀ (tol : W64) (vs : List W32) (w : W32),
    let val : W32 → ℚ := fun x => match f32 x with
      | .fin neg m e => (if neg then -1 else 1) * (m : ℚ) * 2 ^ e
      | _ => 0
    let a := (tol.extractLsb' 0 8).toNat
    let rel := (tol.extractLsb' 8 5).toNat
    let s := (vs.map val).sum
    let m := (vs.map (fun x => |val x|)).sum
    rowMismatch true tol vs w = some (decide (BitVec.ofNat 32 (vs.map (fun x => x.toNat)).sum ≠ w))
    ∧ ((∃ x ∈ w :: vs, (f32 x).isFin = false) → rowMismatch false tol vs w = none)
    ∧ ((∀ x ∈ w :: vs, (f32 x).isFin = true) →
      ((m + |val w|) / 2 ^ rel + (if a = 0 then 0 else 2 ^ ((a : Int) - 127)) < |val w - s| → rowMismatch false tol vs w = some true)
      ∧ (|val w - s| ≤ (m + |val w|) / 2 ^ rel + (if a = 0 then 0 else 2 ^ ((a : Int) - 127)) → rowMismatch false tol vs w = some false)))
  ∧ ∀ (c : Cluster) (a : ArrayId) (j : DrainJob) (r : Fin 128),
    let b := rMxe (a.val / 4) + 0x10 * (a.val % 4) + 0x100
    let cnt := min ((c.regAt b).toNat / 2 ^ 48 + 1) 0xFFFF
    let rec_ : W64 := BitVec.ofNat 64 (cnt * 2 ^ 48 + 2 ^ 47 + opCtx j.op * 2 ^ 41 + r.val * 2 ^ 34
      + (if j.set1 then 2 ^ 33 else 0) + opStamp j.op)
    let old := (c.regAt b).extractLsb' 0 48
    let d := c.setReg b (if (c.regAt b).getLsbD 47 then BitVec.ofNat 16 cnt ++ old else rec_)
    c.canon → c.witnessFault a.val j r.val
      = (if c.dictAt 0x2200 1 ≤ cnt then d.pendArr a.val else d).raise 0x28 a.val (opCtx j.op)

/-- A vector op that starts and is not nullified is under way on its core from its start, with nothing computed yet, and for
the DURmin of R194; the table words of its descriptors and frond entry hold no error. In each executed cycle the iteration that is
due is read and taken: a VRUN's by R182, a VGATH's or VSCAT's entry as DURmin leaves it, and any other one a cycle from t0 on (which
cycle reads and which writes is the model's reading, log entry 56); the op is over with its DURmin. A VBCAST writes its immediate's
low bits (log entry 98), its run, or the one element of j1. A VRED SUM of integers is the sum modulo 2^32; ARGMAX and ARGMIN give the
lowest index of an element that none beats, NaN skipped, and 0 when every one is NaN; MAX and MIN give the canonical NaN where an
element is NaN. VTOPK ranks the columns by descending score, equal ones by column number, NaN last. An entry of a VGATH writes the row
that it names, or zeros; one of a VSCAT writes its row over it. A VCVT narrows a float element by one rounding, and saturates an
integer into a narrower integer format. -/
def Obligations.VectorOps : Prop :=
  (∀ (n : CoreId) (o : MacroOp) (s : State),
    let c := s.cl
    let q := qVec n.val
    let d := (c.startOp q o).1
    let x := d.vX
    let lam := d.vLam
    let its := d.vecIters n.val o
    let runs := fun (i : Instr) (opc : Nat) (t : Cluster) (dm : Nat) => c.starting q opc = some o →
      exec i s = .next (s.setCl t) ∧ (t.vec n.val).map (fun j => (j.op, j.t0, j.dm, j.runs)) = some (o, c.lcc, dm, [])
    c.nullified q (c.queue q).started o c.lcc = false → c.tabSound (d.descKeys n.val o) →
    (c.tabSound (frondKeys n.val (fld o 191 187)) →
      runs (.vrun n) 0x30 (d.doVrun n.val o) (d.vrunLen (d.frond n.val (fld o 191 187)) its))
    ∧ runs (.vbcast n) 0x31 (d.doVbcast n.val o) (x + its + 1)
    ∧ runs (.vred n) 0x32 (d.doVred n.val o) (x + its + lam + (if o.getLsbD 68 then 1 else 8))
    ∧ runs (.vtopk n) 0x33 (d.doVtopk n.val o) (d.topkLen o (d.desc n.val o 0).n0 ((d.desc n.val o 0).cnt.headD 1))
    ∧ runs (.vgath n) 0x34 (d.doVgath n.val o) (x + its + 1)
    ∧ runs (.vscat n) 0x35 (d.doVscat n.val o) (if o.getLsbD 23 then x + 2 * its + lam + 1 else x + its + 1)
    ∧ runs (.vcvt n) 0x36 (d.doVcvt n.val o) (d.cvtLat n.val o + (d.desc n.val o 3).iters 128)
    ∧ runs (.vstat n) 0x37 (d.doVstat n.val o) (d.vstatLen n.val o))
  ∧ (∀ (c : Cluster) (n : CoreId) (j : VecJob), c.vec n.val = some j →
    let o := j.op
    let p := c.frond n.val (fld o 191 187)
    let readAt := fun (it : Nat) =>
      if opOpc o = 0x30 then it / 16 * c.stripLen p 16 + it % 16
      else if opOpc o = 0x35 ∧ o.getLsbD 23 = true then c.vX + c.vLam + 2 + 2 * it
      else if opOpc o = 0x34 ∨ opOpc o = 0x35 then c.vX + 1 + it
      else if opOpc o = 0x37 ∧ o.getLsbD 69 = true then 2 * it else it
    let left := fun (d : Cluster) (j' : VecJob) => d.setVec n.val (if c.lcc + 1 < j.t0 + j.dm then some j' else none)
    (∀ it < c.vecIters n.val o, c.lcc = j.t0 + readAt it →
      let x := c.readRuns n.val o (c.vecRuns n.val o it)
      let y := x.2.vecTake n.val j it x.1
      c.vecCycle n.val = left y.1 y.2)
    ∧ ((∀ it < c.vecIters n.val o, c.lcc ≠ j.t0 + readAt it) → c.vecCycle n.val = left c j)
    ∧ (∀ it ins, opOpc o = 0x31 →
      let out := c.desc n.val o 3
      let x := out.index 128 it
      let act := out.active 128 x.1
      let w32 : W32 := o.extractLsb' 32 32
      let mode := fld o 71 70
      let wr := fun (codes : List Nat) => (c.writeRun n.val (j.t0 + c.vX + it + 1) out 128 it codes, j)
      let xs := (ins.headD []).map (loadElem (c.desc n.val o 0).fmt)
      (mode = 0 → c.vecTake n.val j it ins = wr (List.replicate act (w32.toNat % 2 ^ fmtBits out.fmt)))
      ∧ (mode = 1 → act ≤ xs.length → c.vecTake n.val j it ins = wr ((xs.take act).map (storeElem out.fmt .rne)))
      ∧ (mode = 2 → c.vecTake n.val j it ins =
        wr (List.replicate act (storeElem out.fmt .rne (xs.getD (x.2.getD 0 0 % (c.desc n.val o 0).n0 % 128) 0)))))
    ∧ (∀ it ins, opOpc o = 0x34 ∨ opOpc o = 0x35 →
      let st := fld o 71 67
      let dt := fld o 66 62
      let e := (j.ents.getD it (0, 0)).1
      let idx := (e.extractLsb' 0 15).toNat
      let named := fun (t : Nat) => e.getLsbD 15 = true ∧ idx < c.tileRows n.val t
      let put := fun (row : Nat) (bs : List Byte) => (c.post c.lcc 2 (.row n.val dt row bs), j)
      (opOpc o = 0x34 → (named st → c.vecTake n.val j it ins = put (fld o 30 24 + it) (c.tileRow n.val st idx))
        ∧ (¬ named st → c.vecTake n.val j it ins = put (fld o 30 24 + it) (List.replicate (c.tileB n.val dt) 0)))
      ∧ (opOpc o = 0x35 → (¬ named dt → c.vecTake n.val j it ins = (c, j))
        ∧ (named dt → o.getLsbD 23 = false → c.vecTake n.val j it ins = put idx (c.tileRow n.val st (fld o 37 31 + it)))
        ∧ (named dt → o.getLsbD 23 = true → c.vecTake n.val j it ins = put idx (addRow (c.scatWeight n.val o it)
            (c.tileRow n.val dt idx) (c.tileRow n.val st (fld o 37 31 + it)))))))
  ∧ (∀ (mx : Bool) (chunks : List (List W32)) (tree : Bool),
    let xs := chunks.flatten
    let nan := fun (x : W32) => (f32 x).isNan = true
    let res := (redArg false mx xs).toNat
    let at_ := fun (i : Nat) => xs.getD i 0
    let over_ := fun (a b : W32) => if mx then (f32 b).lt (f32 a) = true else (f32 a).lt (f32 b) = true
    reduce true 0 chunks tree = BitVec.ofNat 32 (xs.map (fun x => x.toNat)).sum
    ∧ (xs ≠ [] → (∃ x ∈ xs, nan x) → redExt false mx xs = 0x7FC00000)
    ∧ (xs ≠ [] → (∀ x ∈ xs, ¬ nan x) → redExt false mx xs ∈ xs ∧ ∀ x ∈ xs, ¬ over_ x (redExt false mx xs))
    ∧ ((∀ x ∈ xs, nan x) → redArg false mx xs = 0)
    ∧ (xs.length < 2 ^ 32 → (∃ x ∈ xs, ¬ nan x) → res < xs.length ∧ ¬ nan (at_ res)
      ∧ (∀ i < xs.length, ¬ nan (at_ i) → ¬ over_ (at_ i) (at_ res)) ∧ ∀ i < res, at_ i ≠ at_ res))
  ∧ (∀ (row : List W32),
    let before := fun (x y : W32 × Nat) => ranksBefore x.1 y.1 = true ∨ (ranksBefore y.1 x.1 = false ∧ x.2 < y.2)
    (ranked row).Perm row.zipIdx ∧ (ranked row).Pairwise before)
  ∧ ∀ (src dst : Nat) (r : Rnd) (x : W32),
    (fmtIsInt src = false → fmtIsInt dst = false → cvtOne src dst r x = ((fmtFloat dst).map (fun f => f.enc r (f32 x))).getD 0
      ∨ 9 < dst)
    ∧ (fmtIsInt src = true → dst = 7 → cvtOne src dst r x = ((max (-128) (min 127 x.toInt)) % 256).toNat)
    ∧ (fmtIsInt src = true → dst = 8 → cvtOne src dst r x = ((max (-8) (min 7 x.toInt)) % 16).toNat)

/-- A DMGET or DMPUT that starts and is not nullified enters the table of its channel, in a free slot, with its lines cut into
blocks of four and none asked for or sent, and is noted under its op number; with 16 outstanding
it fails with OVF (0xE) instead. A DMARR that is not nullified, with a check that is not complete, waits, unless its
context's hold has timed out; any other only starts. -/
def Obligations.TransferStart : Prop :=
  ∀ (ch : ChanId) (o : MacroOp) (s : State),
    let c := s.cl
    let q := 48 + ch.val
    let d := (c.startOp q o).1
    let cn := c.chan ch.val
    let out := (cn.tab.toList.filter (fun x => x.isSome)).length
    (∀ p ∈ [(Instr.dmget ch, 0x40), (Instr.dmput ch, 0x41)], c.starting q p.2 = some o →
      c.nullified q (c.queue q).started o c.lcc = false →
      (16 ≤ out → exec p.1 s = .next (s.setCl (d.xferLog 0xE ch.val o 0)))
      ∧ (out < 16 → ∃ slot < 16, vat cn.tab slot none = none
        ∧ exec p.1 s = .next (s.setCl { d.setChan ch.val { cn with
              begun := ((c.queue q).started, c.nextOrd) :: cn.begun
              tab := vset cn.tab slot (some
                { op := o, blocks := (fld o 109 90 + 4) / 4, slot := slot, sent := 0, asked := 0, got := 0, parked := false,
                  at_ := c.tk, lim := c.dictAt 0x2783 1, order := c.nextOrd, dec := [], sentTo := [] }) }
            with nextOrd := c.nextOrd + 1 })))
    ∧ (c.starting q 0x42 = some o →
      let i := (c.queue q).started
      let waits := c.nullified q i o c.lcc = false ∧ opCtx o ∉ c.tim.waive
        ∧ ∃ p ∈ arrChecks o, c.xferComplete (opCtx o) ch.val i p = false
      (waits → exec (.dmarr ch) s = .next s) ∧ (¬ waits → exec (.dmarr ch) s = .next (s.setCl d)))

/-- A block address in remote-window space (SPACE = 0b10) translates through the entry that its bits [45:40] name, as it
stood before the commits of the present cycle: it is good where the entry is valid, offset plus the block's lines lie within
SIZE lines, the entry grants RD to a DMGET or WR to a DMPUT, and TBASE lies in cluster or die-memory space; the target is
then TBASE + offset. Otherwise the kind of R321 says which fails first: 0 invalid, 1 beyond SIZE, 2 permission, 3 target
space. Any other address is its own target. -/
def Obligations.WindowTranslation : Prop :=
  ∀ (c : Cluster) (ga : BitVec 48) (lines : Nat) (put : Bool), 1 ≤ lines → lines ≤ 4 →
    let win := (ga.extractLsb' 40 6).toNat
    let e := c.window win
    let w := e.1
    let size := (e.2.extractLsb' 0 34).toNat
    let ofs := ga.extractLsb' 0 40
    let beyond := size * 64 < ofs.toNat + 64 * lines
    ((∀ p ∈ c.winOld, p.1 ≠ win) → e = (c.regAt (0x200A1000 + 16 * win), c.regAt (0x200A1008 + 16 * win)))
    ∧ (∀ old rest, c.winOld = (win, old) :: rest → e = old)
    ∧ (ga.extractLsb' 46 2 ≠ 2 → c.translate ga.toNat lines put = (ga.toNat, none))
    ∧ (ga.extractLsb' 46 2 = 2 →
      (w.getLsbD 63 = false → (c.translate ga.toNat lines put).2 = some 0)
      ∧ (w.getLsbD 63 = true → beyond → (c.translate ga.toNat lines put).2 = some 1)
      ∧ (w.getLsbD 63 = true → ¬ beyond →
        let grant := w.getLsbD (if put then 61 else 62)
        (grant = false → (c.translate ga.toNat lines put).2 = some 2)
        ∧ (grant = true → w.getLsbD 47 = true → (c.translate ga.toNat lines put).2 = some 3)
        ∧ (grant = true → w.getLsbD 47 = false →
          c.translate ga.toNat lines put = ((w.extractLsb' 0 48 + ofs.zeroExtend 48).toNat, none))))

/-- The next block to go out is of the oldest transfer with blocks not sent that is not parked. A DMGET block with a good translation is sent as an RD and in flight, where the port has
room or the target is this cluster; a DMPUT block asks for its lines in class 0, through a handle that holds no
error, and when they have been read it is translated, and with a good translation sent as a WR; while it is the first to be sent
and the port has no room for it, it waits and is not translated yet. A bad translation parks the block with the later ones, writes
DMV_XFAULT and raises DMV_XLATE (0x19); where the park is occupied the transfer fails with XLATE. A transfer that completes
no block for its limit, and is not parked, fails with TIMEOUT (0xD). A failure takes the transfer out of the table and drops
the reads asked for it (its blocks in flight are kept aside: the model's form, log entry 44), clears its park, records
DMV_XFERLOG if it is empty, counts, and raises DMV_XFER (0x18), contained to the op's context. -/
def Obligations.TransferBlocks : Prop :=
  ∀ (ch : ChanId) (s : State),
    let c := s.cl
    let cn := c.chan ch.val
    let ga := fun (x : Xfer) (k : Nat) => (fld x.op 191 144 + 256 * k) % 2 ^ 48
    let lines := fun (x : Xfer) (k : Nat) => min 4 (fld x.op 109 90 + 1 - 4 * k)
    let put := fun (slot : Nat) (x : Xfer) => c.setChan ch.val { cn with tab := vset cn.tab slot (some x) }
    let send := fun (ty slot : Nat) (x : Xfer) (k target : Nat) (payload : List Byte) =>
      (put slot { x with sentTo := (k, target % 2 ^ 48) :: x.sentTo.filter (fun p => p.1 != k) }).sendReq ty
        (ch.val * 2 ^ 18 + slot * 2 ^ 14 + k) (2 ^ lines x k - 1) target payload
    let park := fun (slot : Nat) (x : Xfer) (kind : Nat) =>
      let fault := 0x200A0040 + 0x10 * ch.val
      ((((c.dropReads ch.val x.order).setChan ch.val { cn with
            park := some slot
            tab := vset cn.tab slot (some { x with parked := true, asked := x.sent, at_ := c.tk - x.at_ }) }).setReg fault
          (placeB true 63 ||| place kind 61 ||| place (ga x x.sent / 2 ^ 40 % 64) 55 ||| place (opCtx x.op) 49
            ||| placeB (opOpc x.op == 0x41) 48 ||| place (ga x x.sent) 0)).setReg (fault + 8)
        (place (x.blocks - x.sent) 32 ||| place (opStamp x.op) 0)).raise0 0x19 ch.val
    (∀ slot x, cn.nextSend = some (slot, x) → vat cn.tab slot none = some x ∧ x.parked = false ∧ x.sent < x.blocks
      ∧ ∀ j < 16, ∀ y, vat cn.tab j none = some y → y.parked = false → y.sent < y.blocks → x.order ≤ y.order)
    ∧ (∀ slot x, c.live = true → cn.nextSend = some (slot, x) →
      let next := { x with sent := x.sent + 1, dec := x.dec ++ [x.sent] }
      let base := hndBase (c.regAt (rHnd (fld x.op 143 132))) + fld x.op 131 110 + 4 * x.asked
      (opOpc x.op = 0x40 → ∀ target kind, c.translate (ga x x.sent) (lines x x.sent) false = (target, kind) →
        (kind = none → (c.portRoom = true ∨ target / 2 ^ 40 = c.straps.toNat) →
          exec (.dmvBlockSend ch) s = .next (s.setCl (send 1 slot next x.sent target [])))
        ∧ (kind = none → c.portRoom = false → target / 2 ^ 40 ≠ c.straps.toNat → exec (.dmvBlockSend ch) s = .next s)
        ∧ (∀ k, kind = some k → cn.park = none → exec (.dmvBlockSend ch) s = .next (s.setCl (park slot x k)))
        ∧ (∀ k, kind = some k → cn.park.isSome = true →
          exec (.dmvBlockSend ch) s = .next (s.setCl ((c.dropReads ch.val x.order).xferFail ch.val slot 0xC x.sent false))))
      ∧ (opOpc x.op ≠ 0x40 → x.blocks ≤ x.asked → exec (.dmvBlockSend ch) s = .next s)
      ∧ (opOpc x.op ≠ 0x40 → x.asked < x.blocks → c.tabSound [rHnd (fld x.op 143 132)] →
        exec (.dmvBlockSend ch) s = .next (s.setCl
          ((put slot { x with asked := x.asked + 1 }).addGroup 0 0 (.putBlock ch.val x.order x.asked)
            ((List.range (lines x x.asked)).map (fun j => ⟨0, base + j, 0, 64, 0, j, none⟩))))))
    ∧ (∀ (slot : Fin 16) x target payload, vat cn.tab slot.val none = some x → x.slot = slot.val → opOpc x.op = 0x41 →
      (∀ j < 16, ∀ y, vat cn.tab j none = some y → y.order = x.order → j = slot.val) →
      (∀ kind, c.translate (ga x x.sent) (lines x x.sent) true = (target, some kind) → cn.park = none →
        c.putDone ch.val x.order x.sent payload = park slot.val x kind)
      ∧ (c.translate (ga x x.sent) (lines x x.sent) true = (target, none) →
        c.putDone ch.val x.order x.sent payload
          = send 2 slot.val { x with sent := x.sent + 1, dec := x.dec ++ [x.sent] } x.sent target payload
        ∧ (c.portRoom = false → target / 2 ^ 40 ≠ c.straps.toNat → ∀ n g, c.putHead ch.val = some g →
          g.done = .putBlock ch.val x.order x.sent → c.flushPuts ch.val n = c)))
    ∧ (∀ (slot : Fin 16) x, c.live = true → vat cn.tab slot.val none = some x → x.parked = false →
      x.at_ + x.lim ≤ c.tk →
      exec (.dmTimeout ch slot) s = .next (s.setCl (c.xferFail ch.val slot.val 0xD x.firstOpen false)))
    ∧ (∀ (slot : Fin 16) x stat k gone, vat cn.tab slot.val none = some x →
      let y := { x with parked := false, dec := if gone then x.dec.filter (· != k) else x.dec }
      let d := (c.setChan ch.val { cn with
          tab := vset cn.tab slot.val none
          left := if y.dec = [] then cn.left else cn.left ++ [y] }).dropReads ch.val x.order
      let d := if cn.park = some slot.val then d.parkClear ch.val else d
      let w := placeB true 63 ||| place stat 59 ||| place ch.val 57 ||| place (opCtx x.op) 51 ||| place (ga x k) 0
      let e := if (d.regAt 0x200A0100).getLsbD 63 then d
        else (d.setReg 0x200A0100 w).setReg 0x200A0108 (place k 32 ||| place (opStamp x.op) 0)
      c.xferFail ch.val slot.val stat k gone = (e.bump 0x200A0110 0x200A0118 0 1).raise 0x18 ch.val (opCtx x.op))

/-- The abort entry of a channel acts only on an occupied park: it then fails the parked transfer with status XLATE (0xC). On
an empty park the command changes nothing, and a write of 1 to its entry, index 0x2782, changes nothing and records no
clamp. -/
def Obligations.ParkAbort : Prop :=
  ∀ (ch : ChanId) (s : State),
    let c := s.cl
    let cn := c.chan ch.val
    (cn.park = none → exec (.parkAbort ch) s = .next s ∧ ∀ g, c.applyWrite g 0x2782 (ch.val + 1) [1] = c)
    ∧ (∀ slot x, c.answers = true → cn.park = some slot → vat cn.tab slot none = some x →
      exec (.parkAbort ch) s = .next (s.setCl (c.xferFail ch.val slot 0xC x.sent false)))

/-- A commit of window w, its value clamped as R466 says, writes VALID, RD, WR and TBASE and the SIZE staged at index 0x2781
together; translations of the same cycle still meet the old entry. With the end of the cycle they meet the new one, and every
channel's park is translated again: a park whose translation is now good clears, and its transfer goes on from the first
parked block. Where the agent answers no writes, no window changes. -/
def Obligations.WindowCommit : Prop :=
  ∀ (w : Fin 64) (v : W64) (s : State),
    let c := s.cl
    let a := 0x200A1000 + 16 * w.val
    let p := c.clampEntry 0x2780 (w.val + 1) v.toNat
    let d := (p.1.setReg a (BitVec.ofNat 64 p.2.1)).setReg (a + 8) (BitVec.ofNat 64 (p.1.dictAt 0x2781 (w.val + 1)))
    (c.answers = false → exec (.windowCommit w v) s = .next s)
    ∧ (c.answers = true → exec (.windowCommit w v) s = .next (s.setCl
        { d with winOld := (w.val, c.window w.val) :: c.winOld.filter (fun p => p.1 != w.val) }))
    ∧ (c.winOld ≠ [] → c.windowsIn =
        (((({ c with winOld := [] }).retryPark 0).retryPark 1).retryPark 2).retryPark 3)
    ∧ (∀ (ch : ChanId) (slot : Fin 16) (x : Xfer) (t : Nat), (c.chan ch.val).park = some slot.val →
      vat (c.chan ch.val).tab slot.val none = some x →
      c.translate (blockAddr x.op x.sent) (xferLines x.op x.sent) (opOpc x.op == 0x41) = (t, none) →
      c.retryPark ch.val = (c.setChan ch.val { c.chan ch.val with
          park := none
          tab := vset (c.chan ch.val).tab slot.val (some { x with parked := false, at_ := c.tk - x.at_ }) }).setReg
        (0x200A0040 + 16 * ch.val) (c.regAt (0x200A0040 + 16 * ch.val) &&& 0x7FFFFFFFFFFFFFFF))

/-- Each command that stands for a write of an entry acts only where the agent answers writes. A command at the maintenance
or debug level first samples the grants, and has no further effect without its grant. The value is checked field by field;
if some field acts, the clamped value is handed to the entry's unit: a setting, a fence threshold or mask, a bad-column map, a
removal of requests, a ring or sorus reset, an acknowledgement, a forced fault or its disarming, a halt, its release, a step.
A step while not halted does no more than sample the grants. A budget is clamped to 240 to 1,000; a value within it adds no clamp
record and one outside adds one. That the three halt commands need the debug grant, that any maintenance or debug request
without it ends the halt, and that a value outside a single-setting row clamps are the model's readings (log entries 17, 16
and 50). -/
def Obligations.DictionaryCommands : Prop :=
  (∀ (s : State) (lid r e v16 : W16) (v v8 : Byte) (v32 n : W32) (vt : Nat) (k : Fin 4) (v64 : W64) (a : ArrayId) (src : SrcId) (g : Grants),
    let c := s.cl
    let open_ : List (Instr × Nat × Nat × Nat × (Cluster → Nat → Cluster)) :=
      [(.dispatchCancel lid, 0x2303, 6, lid.toNat, fun c v => { c with reqs := c.reqs.filter (fun q => q.lid != v) }),
       (.ringReset r, 0x2700, 0x10, r.toNat, fun c v => c.askReset false v),
       (.sorusReset e, 0x2700, 0x11, e.toNat, fun c v => c.askReset true v),
       (.budgetWrite v16, 0x2000, 0x20, v16.toNat, fun c v => c.setReg 0x20020000 (BitVec.ofNat 64 v)),
       (.throttleFloorWrite v8, 0x2000, 0x10, v8.toNat, fun c v => c.setDict 0x2000 0x10 v),
       (.scrubIntervalWrite v32, 0x2100, 1, v32.toNat, fun c v => c.setDict 0x2100 1 v),
       (.fenceThresholdWrite .witness vt, 0x2200, 1, vt % 65536, Cluster.setWitThr),
       (.fenceThresholdWrite .lockstep vt, 0x2300, 0x10, vt % 256, Cluster.setStopThr),
       (.fenceThresholdWrite .bank vt, 0x2100, 2, vt % 256, Cluster.setBankThr),
       (.acknowledge v, 0x2400, 6, v.toNat, Cluster.ack)]
    let maint : List (Instr × Nat × Nat × Nat × (Cluster → Nat → Cluster)) :=
      [(.bankFenceMaskWrite k v64 g, 0x2100, 0x14 + k.val, v64.toNat, fun c v => c.setBankMask k.val v),
       (.coreFenceMaskWrite v8 g, 0x2203, 1, v8.toNat, Cluster.setCoreMask),
       (.badColumnMapWrite a v64 g, 0x2201, a.val + 1, v64.toNat, fun c v => c.setBadCols a.val v),
       (.forceFault src g, 0x2402, src.val + 1, 1, fun c _ => c.force src.val),
       (.forceDisarm src g, 0x2402, src.val + 1, 0, fun c _ => c.disarm src.val)]
    let debug : List (Instr × Nat × Nat × Nat × (Cluster → Nat → Cluster)) :=
      [(.haltRequest g, 0x3001, 1, 1, fun c _ => { c with tim := { c.tim with haltReq := true } }),
       (.haltRelease g, 0x3001, 1, 0, fun c _ => { c with tim := { c.tim with haltReq := false } })]
    let step : Instr × Nat × Nat × Nat × (Cluster → Nat → Cluster) := (.stepHalted n g, 0x3001, 2, n.toNat, fun c v =>
      if c.tim.running then { c with tim := { c.tim with stepEnd := some (c.tim.lcc + v) } }
      else ({ c with tim := { c.tim with stepEnd := some v, haltKept := false } } : Cluster).event 5
        (leBytes 4 0 ++ leBytes 4 0))
    let act := fun (d : Cluster) (p : Instr × Nat × Nat × Nat × (Cluster → Nat → Cluster)) =>
      let q := d.clampEntry p.2.1 p.2.2.1 p.2.2.2.1
      exec p.1 s = .next (s.setCl (if q.2.2 then p.2.2.2.2 q.1 q.2.1 else q.1))
    let sampled : Cluster := { c with
      moss := { c.moss with maint := g.maint, debug := g.debug }
      tim := if g.debug then c.tim else { c.tim with haltReq := false } }
    (c.answers = false → ∀ p ∈ open_ ++ maint ++ debug, exec p.1 s = .next s)
    ∧ (c.answers = false → exec step.1 s = .next s)
    ∧ (c.answers = true → c.halted = true → g.debug = true → act sampled step)
    ∧ (c.answers = true → c.halted = false ∨ g.debug = false → exec step.1 s = .next (s.setCl sampled))
    ∧ (c.answers = true → ∀ p ∈ open_, act c p)
    ∧ (c.answers = true → g.maint = true → ∀ p ∈ maint, act sampled p)
    ∧ (c.answers = true → g.maint = false → ∀ p ∈ maint, exec p.1 s = .next (s.setCl sampled))
    ∧ (c.answers = true → g.debug = true → ∀ p ∈ debug, act sampled p)
    ∧ (c.answers = true → g.debug = false → ∀ p ∈ debug, exec p.1 s = .next (s.setCl sampled)))
  ∧ ∀ (s : State) (v : W16),
    let c := s.cl
    let fits := 240 ≤ v.toNat ∧ v.toNat ≤ 1000
    c.answers = true → c.canon →
    ∃ d, exec (.budgetWrite v) s = .next (s.setCl d)
      ∧ d.regAt 0x20020000 = BitVec.ofNat 64 (if v.toNat < 240 then 240 else if 1000 < v.toNat then 1000 else v.toNat)
      ∧ d.moss.clamps = (if fits then c.moss.clamps else (c.moss.clamps + 1) % 2 ^ 32)
      ∧ ∀ b, b ≠ 0x20020000 → d.regAt b = c.regAt b

/-- A LAUNCH that is due leaves the control list, clears the arrays and the stretch count, releases every tile, and makes LCC 0
next to execute. A SEGBR, behind the ops that start in its cycle (unless a PPMARK of its STAMP follows it), reads 4 bytes v at its
handle and offset as a static read and takes alternative v, or the last one where v is not below NSEG, and its exit where v is not
0; a nullified one reads nothing and takes alternative 0. F_R - 1 values of LCC later its choice lands: CTX_SEGLAST and CTX_SEGSEL take
it, unless it was nullified (the model's reading, log entry 30), and each core of the region's entry takes a record, readable from
t + F_R + 1 on, or, with four waiting, loses it with SEGQ_OVF (0x16). An exit that is taken nullifies its range from t + J on. A PPMARK
predicts for every bound context and pre-empts where R382 says so. A SCREED sets its baseline entries in order. A save whose time has
run saves the lining. DISPATCH, in a later cycle than the one in which the last lining left, dispatches what the unit picks: a re-run,
a suspended lining, or a request. Commands that find nothing due change nothing (log entry 7). -/
def Obligations.ControlOps : Prop :=
  (∀ (s : State),
    let c := s.cl
    (c.launchDue = false → exec .launch s = .next s)
    ∧ (c.launchDue = true →
      let d := c.popCtl.clearArrays.setReg 0x20010010 0
      exec .launch s = .next (s.setCl ({ d with tim := { d.tim with running := true, lcc := 0 } }).enterSegs.holdAtStart.beginCheck))
    ∧ (∀ r o, c.ctlHead 0x51 = some (r, o) →
      let behind := c.settled = true ∨ c.pointDue = true
      (c.nullified 63 0 o c.lcc = true → exec .segbr s = .next (s.setCl (c.popCtl.segAct o 0 none)))
      ∧ (c.nullified 63 0 o c.lcc = false → behind → exec .segbr s = .next (s.setCl (c.popCtl.doSegbr o)))
      ∧ (c.nullified 63 0 o c.lcc = false → ¬ behind → exec .segbr s = .next s))
    ∧ (∀ r o, c.ctlHead 0x52 = some (r, o) →
      let d := c.popCtl.each r.ctxs (fun c k => c.predictCtx (opStamp o) k)
      exec .ppmark s = .next (s.setCl (if d.preempts r then d.preempt o else d)))
    ∧ (∀ r o, c.ctlHead 0x53 = some (r, o) →
      exec .screed s = .next (s.setCl
        (c.popCtl.each (List.range (fld o 179 164 + 1)) (fun c i => c.baseline (fld o 191 180 + i)))))
    ∧ (∀ r tp idx l, c.run = some r → r.saving = some (tp, idx) → c.lining r.lid = some l →
      (c.saveDone r l idx = true → exec .saveComplete s = .next (s.setCl (c.doSave r l tp idx)))
      ∧ (c.saveDone r l idx = false → exec .saveComplete s = .next s))
    ∧ (c.ready = true → c.run = none → c.freeAt < c.clk.free →
      (∀ lid prio tbat now, c.pick = some (.again lid prio tbat now) →
        exec .dispatch s = .next (s.setCl (c.dispatchAgain lid prio tbat now)))
      ∧ (∀ p, c.pick = some (.resume p) → exec .dispatch s = .next (s.setCl (c.dispatchResume p)))
      ∧ (∀ q, c.pick = some (.fresh q) → exec .dispatch s = .next (s.setCl (c.dispatchReq q)))
      ∧ (c.pick = none → exec .dispatch s = .next s))
    ∧ (c.run ≠ none ∨ c.clk.free ≤ c.freeAt → exec .dispatch s = .next s))
  ∧ (∀ (c : Cluster) (o : MacroOp), c.tabSound [rHnd (fld o 188 177)] →
    let p := c.portRead (opCtx o) (hndBase (c.regAt (rHnd (fld o 188 177))) * 64 + 4 * fld o 176 153) 4
    let v := leNat p.1
    let alt := if o.getLsbD 191 then (if v = 0 then 0 else 1) else min v (o.extractLsb' 189 2).toNat
    let nseg : BitVec 2 := if o.getLsbD 191 then 0 else o.extractLsb' 189 2
    c.doSegbr o = p.2.1.segAct o alt (some
      ((1#1 ++ BitVec.ofNat 6 (opCtx o) ++ o.extractLsb' 191 1 ++ BitVec.ofNat 2 alt ++ nseg ++ 0#20 ++ BitVec.ofNat 32 (opStamp o)),
        BitVec.ofNat 64 v)))
  ∧ (∀ (c : Cluster) (o : MacroOp) (alt : Nat) (log : Option (W64 × W64)),
    let k := opCtx o
    let fr := c.floor 2
    let tab := fld o 120 109
    let x := c.ctx k
    (o.getLsbD 191 = true → c.segAct o alt log =
      (if alt = 1 then c.setCtx k { x with exits := (opStamp o + c.floor 10, fld o 152 121) :: x.exits } else c).post
        (c.lcc + fr - 1) 9 (.choice log [] ⟨0, 0, 0, 0⟩))
    ∧ (o.getLsbD 191 = false → ∀ e d, (c.setCtx k { x with alts := (tab, alt, c.lcc + fr) :: x.alts.filter (fun p => p.1 != tab) }).segEntry tab
        = (some e, d) →
      c.segAct o alt log = d.post (c.lcc + fr - 1) 9 (.choice log (bitsOf 8 (segCores e)) ⟨tab, k, alt, c.lcc + fr + 1⟩)))
  ∧ (∀ (c : Cluster) (log : Option (W64 × W64)) (cores : List Nat) (r : SegRec),
    let d := match log with
      | some l => (c.setReg 0x20073000 l.1).setReg 0x20073008 l.2
      | none => c
    c.landChoice log cores r = d.each cores (fun c n =>
      let x := c.core n
      if x.segq.length < 4 then c.setCore n { x with segq := x.segq ++ [r] }
      else (c.setCore n { x with segOvf := true, segLost := r.tab :: x.segLost }).raise 0x16 n r.ctx))
  ∧ ∀ (c : Cluster) (n : CoreId) (t : Fin 24), c.canon →
      c.clearArrays.acc = [] ∧ c.clearArrays.posts = [] ∧ c.clearArrays.movs = []
      ∧ c.clearArrays.tileValid n.val t.val = false ∧ c.clearArrays.tileEmpty n.val t.val = 2 ^ 128 - 1

/-- A context that is not torn, has a deadline, and whose FIN is not before t_p is predicted to end at TB + ceil(REM (8W + S) / (112 W))
plus its unused allowance (ceil(REM / 14) with W = 0); PMISS is set where that is beyond its deadline. A point pre-empts where the lining
is no re-run, fewer than 4 are suspended, and a stop is requested or an eligible request or suspended lining has a higher PRIO; then the
lining's ops and the cores' are discarded and the save begins. The save area takes the header of R383, the sections of the cores and
that of the sync words, each on a line; then the lining is suspended, its contexts are SUSP, and no lining runs. A request is eligible
when it is due within 1,250 tk or at once, with no suspended context, and a suspended lining when no other holds its contexts and the
budget holds its image's peak; neither of an image that is to be retired (R407). The unit picks a re-run first (whatever the budget: the model's
reading, log entry 94), and else the highest PRIO, suspended linings before requests, the oldest of these, the earliest TBAT of those. A
dispatch binds the lining's contexts and begins it, to complete in 64 cycles. When a lining ends, each context not torn and with a
deadline changes its level by the table of R390. -/
def Obligations.LiningChoices : Prop :=
  (∀ (c : Cluster) (tp k : Nat),
    let x := c.ctx k
    let fin := vat x.fin x.var 0
    let w := tp + c.tim.held
    let st := (c.regAt 0x20010010).toNat
    let ceil := fun (a b : Nat) => (a + b - 1) / b
    let mid := if w = 0 then ceil (fin - tp) 14 else ceil ((fin - tp) * (8 * w + st)) (112 * w)
    let late := x.dl < c.tbNow + mid + (x.allow - ceil x.hchg 14)
    (x.torn = false → x.dlrel ≠ 0 → tp ≤ fin → late → c.predictCtx tp k = c.setCtx k { x with pmiss := true })
    ∧ (x.torn = true ∨ x.dlrel = 0 ∨ fin < tp ∨ ¬ late → c.predictCtx tp k = c))
  ∧ (∀ (c : Cluster) (r : Run) (o : MacroOp),
    (c.preempts r = true ↔ r.rerun = false ∧ c.susp.length < 4 ∧ (r.stop = true
      ∨ (∃ q ∈ c.reqs, r.prio < q.prio ∧ c.reqEligible q = true) ∨ (∃ p ∈ c.susp, r.prio < p.prio ∧ c.suspEligible p = true)))
    ∧ (c.run = some r → ∃ r', (c.preempt o).run = some r' ∧ r'.saving = some (opStamp o, fld o 191 182) ∧ r'.saveRan = 0
      ∧ r'.started = c.queues.toList.map (fun q => q.started) ∧ r'.lid = r.lid ∧ r'.ctxs = r.ctxs
      ∧ (c.preempt o).tim.running = false ∧ (c.preempt o).posts = [] ∧ (∀ q : QueueId, ((c.preempt o).queue q.val).ents = [])
      ∧ (c.preempt o).mem = c.mem ∧ (c.preempt o).tim.lcc = c.tim.lcc))
  ∧ (∀ (c : Cluster) (r : Run) (tp live : Nat), r.lid < 2 ^ 16 → live < 2 ^ 16 → tp < 2 ^ 32 → c.tim.held < 2 ^ 64 → r.tbref < 2 ^ 64 →
    r.prio < 2 ^ 8 → r.started.length = 52 → (∀ q ∈ r.started, q < 2 ^ 32) →
    let h := c.saveHead r tp live
    h.length = 512 ∧ leAt h 0 2 = r.lid ∧ leAt h 2 2 = live ∧ leAt h 4 4 = tp ∧ leAt h 8 8 = c.tim.held
    ∧ leAt h 0x10 8 = (c.regAt 0x20010010).toNat ∧ leAt h 0x18 8 = r.tb0.toNat ∧ leAt h 0x20 8 = r.tbref ∧ leAt h 0x28 1 = r.prio
    ∧ ∀ q < 52, leAt h (0x30 + 4 * q) 4 = r.started.getD q 0)
  ∧ (∀ (c d : Cluster) (r : Run) (l : LinEnt) (tp idx : Nat) (live : List Byte), c.liveEntry l idx = (some live, d) →
    d.tabSound [rHnd (lnSaveHnd l.desc)] →
    let cores := (List.range 8).foldl (Cluster.coreSave live) ([d.saveHead r tp idx], d)
    let sync := cores.2.syncSave (r.ctxs.headD 0) (liveSync live)
    let e := (sync.2.writeSections (d.saveAddr l.desc) (cores.1 ++ [sync.1])).takeAll
    (e.run = none → c.doSave r l tp idx = e)
    ∧ (e.run ≠ none → let t := c.doSave r l tp idx
      t.run = none ∧ t.freeAt = e.clk.free ∧ t.mem = e.mem
      ∧ (∃ p : Susp, t.susp = e.susp ++ [p] ∧ p.lid = r.lid ∧ p.prio = r.prio ∧ p.tp = tp ∧ p.live = idx ∧ p.ctxs = r.ctxs)
      ∧ ∀ k : CtxId, (t.ctx k.val) = if k.val ∈ r.ctxs then { e.ctx k.val with state := 3 } else e.ctx k.val))
  ∧ (∀ (c : Cluster),
    (∀ q, c.reqEligible q = true ↔ (q.now = true ∨ q.tbat.toNat ≤ c.tbNow + 1250)
      ∧ (∀ k ∈ c.lidCtxs q.lid, (c.ctx k).state ≠ 3) ∧ c.retiring q.lid = false)
    ∧ (∀ p, c.suspEligible p = true ↔ (∀ k ∈ p.ctxs, (c.ctx k).state ≠ 2) ∧ c.fits p.lid = true ∧ c.retiring p.lid = false)
    ∧ (∀ a b d e, c.rerun = some (a, b, d, e) → c.pick = some (.again a b d e))
    ∧ (c.rerun = none → (∀ q ∈ c.reqs, q.prio < 4) → (∀ p ∈ c.susp, p.prio < 4) →
      let rs := fun (q : Req) => q ∈ c.reqs ∧ c.reqEligible q = true
      let ss := fun (p : Susp) => p ∈ c.susp ∧ c.suspEligible p = true
      (c.pick = none ↔ (∀ q, ¬ rs q) ∧ ∀ p, ¬ ss p)
      ∧ (∀ q, c.pick = some (.fresh q) → rs q ∧ (∀ p, ss p → p.prio < q.prio)
        ∧ ∀ q', rs q' → q'.prio < q.prio ∨ (q'.prio = q.prio ∧ q.tbat.toNat ≤ q'.tbat.toNat))
      ∧ (∀ p, c.pick = some (.resume p) → ss p ∧ (∀ q, rs q → q.prio ≤ p.prio) ∧ (∀ p', ss p' → p'.prio ≤ p.prio)
        ∧ ∃ pre post, c.susp = pre ++ p :: post ∧ ∀ p' ∈ pre, ¬ (ss p' ∧ p'.prio = p.prio))))
  ∧ (∀ (c d : Cluster) (q : Req) (l : LinEnt) (bs : List Byte) (im : Img), c.fits q.lid = true →
    c.tabSound ((List.range 72).map (fun j => kLining q.lid + j)) → c.lining q.lid = some l →
    (c.advanceReq q).residentRead l.slot (lnClOff l.desc) (32 * lnClN l.desc) = (some bs, d) → vat d.imgs l.slot none = some im →
    (∀ n : CoreId, (d.core n.val).reloadI = false ∧ (d.core n.val).reloadD = false) →
    let t := c.dispatchReq q
    (∀ k : CtxId, k.val ∈ lnCtxs l.desc → (t.ctx k.val).state = 2 ∧ (t.ctx k.val).torn = (d.ctx k.val).torn)
    ∧ t.tim.lcc = 0 ∧ t.tim.running = false ∧ t.tim.held = 0
    ∧ ∃ r, t.run = some r ∧ r.lid = l.lid ∧ r.ctxs = lnCtxs l.desc ∧ r.ctl = ctlOps bs (lnClN l.desc) ∧ r.begun = false
      ∧ r.rerun = false ∧ r.ready = d.clk.free + 64 ∧ r.prio = q.prio ∧ r.tbat = q.tbat ∧ r.now = q.now)
  ∧ ∀ (x : Ctx) (n : Nat),
    let v := variantRule x n
    let miss := x.pmiss = true ∨ x.dl < x.fintb.toNat
    let met := x.fintb.toNat + x.allow ≤ x.dl
    (x.pin ≠ 0 → v = (x.level, x.rest, 0, 0))
    ∧ (x.pin = 0 → miss → x.level + 1 < x.nvar → v = (x.level + 1, 0, 1, 0))
    ∧ (x.pin = 0 → miss → x.nvar ≤ x.level + 1 → v = (x.level, 0, 0, 0))
    ∧ (x.pin = 0 → ¬ miss → ¬ met → v = (x.level, 0, 0, 0))
    ∧ (x.pin = 0 → ¬ miss → met → n = 0 ∨ x.rest + 1 < n → v = (x.level, min 0xFFFF (x.rest + 1), 0, 0))
    ∧ (x.pin = 0 → ¬ miss → met → n ≠ 0 → n ≤ x.rest + 1 → 0 < x.level → v = (x.level - 1, 0, 0, 1))
    ∧ (x.pin = 0 → ¬ miss → met → n ≠ 0 → n ≤ x.rest + 1 → x.level = 0 → v = (0, 0, 0, 0))

/-- An op whose DUR is over leaves its engine free, and the lining ends where that was the last. FINTB of a context is the TB
of the cycle that executes its FIN. In the cycle that executes t - 2 a hold is opened where a cause holds for t; a held
cycle that finds every condition clear makes the next one the exit cycle, with a HALT event, and the halt over, where the hold is a
debug halt. A hold beyond its limit raises HOLD_TIMEOUT (0x11):
first for the contexts of the late DMARRs, then, for a re-centring or a missing op, with the end of the lining; that it comes
once, with the lowest short queue as its instance, or 0 for a re-centring, is the model's reading (log entry 78). A
sampled fill of a crossing FIFO becomes its fill; with the fill of a lane that carries traffic outside 4 to 12 after 64
unstretched cycles, a re-centring begins and is counted. -/
def Obligations.LiningTime : Prop :=
  ∀ (s : State),
    let c := s.cl
    (∀ (q : QueueId) r, c.ready = true → c.tim.running = true → (c.queue q.val).run = some r → r.fin ≤ c.tim.lcc →
      let d := c.setQueue q.val { c.queue q.val with run := none }
      exec (.opEnd q) s = .next (s.setCl (if d.allClosed then d.liningEnd else d)))
    ∧ (∀ (k : CtxId), c.runs = true → (c.ctx k.val).state = 2 → (c.ctx k.val).torn = false → (c.ctx k.val).finSet = false →
      vat (c.ctx k.val).fin (c.ctx k.val).var 0 = c.tim.lcc →
      exec (.fintbRecord k) s = .next (s.setCl (c.setCtx k.val { c.ctx k.val with fintb := c.tb.value, finSet := true })))
    ∧ (c.runs = true → c.decided (c.tim.lcc + 2) = false → c.causes (c.tim.lcc + 2) ≠ 0 →
      exec .holdBegin s = .next (s.setCl (c.openHold (c.tim.lcc + 2))))
    ∧ (∀ h, c.ready = true → c.tim.running = true → c.tim.hold = some h → h.target ≤ c.tim.lcc → h.exit = 0 →
      c.causes h.target = 0 →
      let d := { c with tim := { c.tim with hold := some { h with exit := 1 } } }
      exec .holdEnd s = .next (s.setCl (if h.mask.testBit 4 then
        ({ d with tim := { d.tim with haltKept := false } } : Cluster).event 5 (leBytes 4 0 ++ leBytes 4 h.target) else d)))
    ∧ (∀ h, c.ready = true → c.tim.running = true → c.tim.hold = some h → h.target ≤ c.tim.lcc → h.begun = true →
      c.halted = false → c.causes h.target % 8 ≠ 0 → h.since + h.limit < c.tk →
      let m := c.causes h.target
      let u := fun (d : Cluster) (inst : Nat) => d.record { src := 0x11, cls := 2, inst := inst, scope := 2, ctx := 0 }
      let d := if m.testBit 1 then c.timeoutLate h.target else c
      let d := if m.testBit 2 ∨ m.testBit 0 then d.containLining else d
      let d := if m.testBit 2 then u d 0 else d
      exec .holdTimeout s = .next (s.setCl (if m.testBit 0 then u d ((c.shortQs h.target).headD 0) else d)))
    ∧ (∀ (j : FifoId) (fill : Fin 17), c.live = true → (c.lane (j.val / 2)).up = true →
      let d := c.setFill j.val fill.val
      let far := fun (k : Nat) => (c.lane (k / 2)).up = true ∧ ((d.fifo k).fill < 4 ∨ 12 < (d.fifo k).fill)
      let due := c.tim.recentre = 0 ∧ 64 ≤ c.clk.unstretched ∧ ∃ k < 8, far k
      (d.fifo j.val).fill = fill.val ∧ (∀ k, k ≠ j.val → d.fifo k = c.fifo k)
      ∧ (due → exec (.crossingRecentre j fill) s = .next (s.setCl
        (({ d with tim := { d.tim with recentre := 3 } }).bump 0x2009C088 0x2009C090 8 1)))
      ∧ (¬ due → exec (.crossingRecentre j fill) s = .next (s.setCl d)))

/-- Power-good begins stage 0 with nothing kept but the straps and the stepping; its loss keeps nothing. In stage 1 the PLL
locks and CLK_FREE starts at 0; calibration frees the stretcher; a crossing FIFO that aligns stands at fill 8
with 8 of its 16 credits left and brings its lane up with the other half; from then on writes, reads and returning credits
keep the 16 entries accounted for. A stage completes by R448: stage 0 in F too, stage 1 with every lane aligned or given up and TB counting, stage 2 with the self-test's
findings in force, in a cycle that no throttle holds, and an event. That power-good while power is on, and a stage completed from stage
3 on, change nothing is the model's choice (log entry 7). The first good alignment pulse loads TB; a later one sets DEV and slews TB, and raises
TB_ALIGN (0x08) where it is more than 1 tk off, as a missing pulse does. -/
def Obligations.StartUp : Prop :=
  ∀ (s : State),
    let c := s.cl
    let gives := fun (d : Cluster) => Host.Outcome.next (s.setCl d)
    (c.powered = false → exec .powerGood s = gives (Cluster.atPowerGood c.straps c.stepping))
    ∧ (c.powered = true → exec .powerGood s = .next s
      ∧ exec .powerLoss s = gives { Cluster.atPowerGood c.straps c.stepping with powered := false })
    ∧ (c.live = true → c.stage = 1 →
      (c.clk.locked = false → exec .pllLock s =
        gives { c with clk := { c.clk with locked := true, free := 0, decAt := 0, lockAt := c.clk.ckm, phaseT := 0 } })
      ∧ (∀ cal, c.clk.locked = true → c.clk.sen = false → exec (.droopCalibrationDone cal) s =
        gives { c.setReg 0x20010040 cal with clk := { c.clk with sen := true, calAt := c.clk.ckm } })
      ∧ (∀ j : FifoId, c.clk.sen = true → (c.lane (j.val / 2)).dead = false →
        let l := c.lane (j.val / 2)
        let o := l.alignO || decide (j.val % 2 = 0)
        let i := l.alignI || decide (j.val % 2 = 1)
        exec (.crossingAlign j) s = gives ((c.setLane (j.val / 2) { l with alignO := o, alignI := i, up := o && i }).setFifo j.val ⟨8, 8, 0, 0⟩)))
    ∧ (∀ (f : Fifo) (go : Bool), f.fill + f.cred + f.got + f.back = 16 →
      (f.write go).fill + (f.write go).cred + (f.write go).got + (f.write go).back = 16
      ∧ (f.read go).fill + (f.read go).cred + (f.read go).got + (f.read go).back = 16)
    ∧ (∀ f, c.powered = true → c.stage = 0 → exec (.stageComplete f) s = gives c.nextStage)
    ∧ (∀ f, c.live = true →
      (c.stage = 1 → c.lanesDone = true → c.tb.runs = true → exec (.stageComplete f) s = gives c.nextStage)
      ∧ (c.stage = 2 → c.tb.tbok = true → c.throttled = false → exec (.stageComplete f) s = gives (c.selfTest f).nextStage)
      ∧ (3 ≤ c.stage → exec (.stageComplete f) s = .next s))
    ∧ (c.live = true → c.lanesDone = true → ∀ v : W64,
      (c.tb.tbok = false → exec (.alignmentPulse v) s = gives { c with
        tb := { c.tb with value := v, runs := true, ok := true, tbok := true, debt := 0, dev := 0, dbgTk := 0 }
        flt := { c.flt with quietAt := c.flt.quietAt - c.tk + v.toNat } })
      ∧ (c.tb.tbok = true →
        let d := (c.tb.value - v).toInt
        let far := 1 < d ∨ d < -1
        let t := { c.tb with debt := d, slewN := if d = 0 then 0 else c.tb.slewN, dev := max (-127) (min 127 d) }
        (¬ far → exec (.alignmentPulse v) s = gives { c with tb := { t with ok := true } })
        ∧ (far → exec (.alignmentPulse v) s =
          gives (({ c with tb := { t with ok := false, far := min 0xFFFF (c.tb.far + 1) } }).raise0 0x08 0))))
    ∧ (c.live = true → c.tb.runs = true → exec .alignmentPulseMissing s =
      gives (({ c with tb := { c.tb with ok := false, miss := min 0xFFFF (c.tb.miss + 1) } }).raise0 0x08 0))

/-- A droop request sets R; a rise also sets D to at least R and is counted. D falls by 1 where R is below it and 32 cycles
have gone since it was set, fell, or R was last as high as it; the time of a rise, and of the last request below level 8, is kept
for the stretch monitor. A throttle request is held; at a period's start the duty computed before it comes
into force. A temperature is kept with the highest one seen, a rail reading as it comes. ALIVE inverts 50,000 CK_M cycles
after its last edge. -/
def Obligations.ClockAndPower : Prop :=
  ∀ (s : State),
    let c := s.cl
    let k := c.clk
    let gives := fun (d : Cluster) => Host.Outcome.next (s.setCl d)
    c.live = true →
    (∀ l : DroopLevel, k.locked = true → k.sen = true →
      let full := if k.reqR = 8 then k.fullAt else k.ckm
      (l.val ≤ k.reqR → exec (.droopRequest l) s = gives { c with clk := { k with
        reqR := l.val, decAt := if k.decD ≤ k.reqR then k.free else k.decAt, fullAt := full } })
      ∧ (k.reqR < l.val → exec (.droopRequest l) s = gives (({ c with clk := { k with
          reqR := l.val, decD := max k.decD l.val, decAt := k.free, fullAt := full, riseAt := k.free } } : Cluster).bump
        0x20010028 0x20010030 2 1)))
    ∧ (k.locked = true → k.sen = true → k.reqR < k.decD → k.decAt + 32 ≤ k.free →
      exec .stretchDecay s = gives { c with clk := { k with decD := k.decD - 1, decAt := k.free } })
    ∧ (∀ r, exec (.throttleRequest r) s = gives { c with tim := { c.tim with req := r.val } })
    ∧ (k.locked = true → exec .throttlePeriod s = gives { c with tim := { c.tim with duty := c.tim.dutyNext } })
    ∧ (1 ≤ c.stage →
      (∀ w, exec (.telemetryUpdate (.rail w)) s = gives (c.setReg 0x20020200 w))
      ∧ (∀ i (v : BitVec 16),
        let a := 0x20020100 + 4 * i.val
        let old := (c.regAt a).extractLsb' 16 16
        let top := if (c.regAt a).getLsbD 32 = true ∧ v.sle old = true then old else v
        exec (.telemetryUpdate (.temp i v)) s = gives (c.setReg a (1#32 ++ top ++ v))))
    ∧ (c.flt.aliveAt + 50000 ≤ k.ckm →
      exec .aliveToggle s = gives { c with flt := { c.flt with alive := !c.flt.alive, aliveAt := c.flt.aliveAt + 50000 } })

/-- Each event of a cluster-level source, and each missed deadline of start-up, raises its source: the fault goes to the
collector with the TB of its detection. A CK_M cycle of the collector takes the faults that have come, in ascending source and
within one in ascending instance. An F fault that it takes enters F unless F is in force: no lining, suspended lining or intake is left, HSTATE is FATAL and FATALSRC names the source. A C
or U fault without an escalation domain adds 1 to COUNT, sticking at 0xFFFF, and takes the TB as LASTTB; with PEND clear it sets
PEND and writes its class and instance; FLT_FIRST latches it if VALID is clear. A scope-1 fault of a context that was TORN
changes COUNT and LASTTB alone. A second pending C fault of one bank escalates: the record takes PCLASS U and PESC, and the
bank becomes pending for fencing. -/
def Obligations.FaultsRecorded : Prop :=
  (∀ (s : State),
    let c := s.cl
    let k := c.clk
    let gives := fun (d : Cluster) => Host.Outcome.next (s.setCl d)
    (c.live = true → c.stage ≤ 1 → k.locked = false → 10000 ≤ k.ckm → exec .pllLockTimeout s = gives (c.raise0 0x03 0))
    ∧ (c.live = true → c.stage = 1 → k.locked = true → k.sen = false → k.lockAt + 6000 ≤ k.ckm →
      exec .calibrationTimeout s = gives (c.raise0 0x02 0))
    ∧ (∀ l : LaneId, c.live = true → c.stage = 1 → k.sen = true → (c.lane l.val).up = false → (c.lane l.val).dead = false →
      k.calAt + 2000 ≤ k.ckm →
      let d := (c.setLane l.val { c.lane l.val with dead := true }).raise0 0x2A l.val
      let p := if l.val % 2 = 0 then l.val + 1 else l.val - 1
      exec (.crossingAlignTimeout l) s = gives (if (d.lane p).dead then d.raise0 0x06 0 else d))
    ∧ (c.live = true → c.stage = 1 → c.lanesDone = true → c.tb.runs = false → 20000 ≤ k.ckm →
      exec .tbLoadTimeout s = gives (({ c with tb := { c.tb with runs := true, value := 0 } }).raise0 0x08 0))
    ∧ (c.live = true → k.locked = true → k.sen = true →
      let late := (0 < k.reqR ∧ k.free = k.riseAt + 2) ∨ (k.reqR = 8 ∧ k.fullAt + 1000 ≤ k.ckm)
      (late → exec .stretchTimeout s = gives (c.raise0 0x02 0)) ∧ (¬ late → exec .stretchTimeout s = .next s))
    ∧ (∀ n, c.powered = true → k.locked = true →
      (n < 1600 ∨ 3700 < n → exec (.clockMonitorWindow n) s = gives (c.raise0 0x01 0))
      ∧ (1600 ≤ n → n ≤ 3700 → exec (.clockMonitorWindow n) s = .next s))
    ∧ (c.powered = true → k.locked = true → exec .pllLossOfLock s = gives (c.raise0 0x03 0))
    ∧ (c.powered = true → exec .railFault s = gives (c.raise0 0x04 0) ∧ exec .thermalTrip s = gives (c.raise0 0x05 0)
      ∧ exec .collectorParityError s = gives (c.raise0 0x07 0)))
  ∧ (∀ (c : Cluster) (src inst : Nat) (i : SrcInfo), srcInfo src = some i →
    c.raise0 src inst = { c with flt := { c.flt with inbox := c.flt.inbox ++
      [⟨src, i.cls, inst, i.scope, 0, false, false, false, c.tb.value⟩] } })
  ∧ (∀ (c : Cluster) (f g : FaultIn), f.inst < 4096 → g.inst < 4096 →
    let d := { c with flt := { c.flt with inbox := [] } }
    (c.flt.inbox = [] → c.collect = c)
    ∧ (c.flt.inbox = [f] → c.collect = d.takeFault f)
    ∧ (f.src < g.src ∨ (f.src = g.src ∧ f.inst < g.inst) → c.flt.inbox = [f, g] ∨ c.flt.inbox = [g, f] →
      c.collect = (d.takeFault f).takeFault g))
  ∧ (∀ (c : Cluster) (f : FaultIn), 1 ≤ f.src → f.src ≤ 7 → f.cls = 3 → f.scope = 5 → c.flt.fatal = false →
    let d := c.takeFault f
    d.flt.fatal = true ∧ d.flt.fatalSrc = f.src ∧ d.flt.hstate = 3 ∧ d.run = none ∧ d.susp = [] ∧ d.intake.state = 0
      ∧ d.live = false ∧ d.mem = c.mem ∧ d.queues = c.queues)
  ∧ (∀ (c : Cluster) (f : FaultIn), c.canon → f.src < 128 → f.cls = 1 ∨ f.cls = 2 → f.inst < 4096 → f.scope < 8 → f.ctx < 64 →
    let a := 0x20061000 + 8 * f.src
    let r := c.regAt a
    let cnt := BitVec.ofNat 16 (min (r.toNat / 2 ^ 32 % 2 ^ 16 + 1) 0xFFFF)
    let tb := f.tb.truncate 32
    let d := c.takeFault f
    (f.scope = 1 → f.torn = true → d = c.setReg a (r.extractLsb' 48 16 ++ cnt ++ tb))
    ∧ (f.scope ≠ 1 ∨ f.torn = false → escDomain f.src = 0 →
      d.regAt a = (if r.getLsbD 63 then r.extractLsb' 48 16 else 1#1 ++ BitVec.ofNat 2 f.cls ++ 0#1 ++ BitVec.ofNat 12 f.inst) ++ cnt ++ tb
      ∧ ((c.regAt 0x20060010).getLsbD 63 = true → d.regAt 0x20060010 = c.regAt 0x20060010 ||| 2 ^ 62)
      ∧ ((c.regAt 0x20060010).getLsbD 63 = false → (d.regAt 0x20060010).getLsbD 63 = true
        ∧ (d.regAt 0x20060010).extractLsb' 60 2 = BitVec.ofNat 2 f.cls ∧ d.regAt 0x20060018 = f.tb)
      ∧ d.flt.hstate = (if f.cls = 2 then max 2 c.flt.hstate else if c.flt.hstate = 0 then 1 else c.flt.hstate))
    ∧ (f.src = 0x20 → f.cls = 1 → f.noEsc = false → f.scope ≠ 1 → r.getLsbD 63 = true → r.extractLsb' 61 2 = 1 →
      (r.extractLsb' 48 12).toNat = f.inst → c.flt.fenB.getLsbD f.inst = false → c.flt.pendB.getLsbD f.inst = false →
      d.flt.pendB = c.flt.pendB ||| BitVec.ofNat 256 (2 ^ f.inst)
        ∧ (d.regAt a).extractLsb' 61 2 = 2 ∧ (d.regAt a).getLsbD 60 = true))

/-- A scrub request that is due enters one scrub for every bank that is not fenced and has none pending. In an open slot that
goes to its arbiter, a bank serves the request that its round-robin picks: a write stores its bytes, a read reads its bytes. In one
that goes to the sander, the oldest repair of the bank is written back, and with no repair waiting its pending scrub, or an
urgent line, is read. With no open slot nothing changes. -/
def Obligations.BankSlots : Prop :=
  ∀ (p : BankId) (s : State),
    let c := s.cl
    (c.scrubReqDue = true → exec .scrubRequest s = .next (s.setCl { c with spd := { c.spd with
        lastReq := c.clk.free
        scrubs := (List.range 256).foldl (fun m q => if c.flt.fenB.getLsbD q || Sparse.get m q != 0 then m
          else Sparse.set m q (BitVec.ofNat 64 (c.clk.free + 1))) c.spd.scrubs } }))
    ∧ (c.slotOpen p.val = false →
      exec (.boundaryAccess p) s = .next s ∧ exec (.scrub p) s = .next s ∧ exec (.repairWrite p) s = .next s)
    ∧ (∀ r, c.slotOpen p.val = true → c.arbiterTurn p.val = true → c.nextReq p.val = some r →
      let d := c.arbiterServed p.val r.cls r.grp r.idx
      (∀ bs, r.wr = some bs → exec (.boundaryAccess p) s =
        .next (s.setCl ((d.spdWriteLine (r.line * 64 + r.off) bs).groupServe r [] false)))
      ∧ (r.wr = none →
        let q := (d.areaLost r).spdRead 1 (d.reqCtx r) (r.line * 64 + r.off) r.len
        exec (.boundaryAccess p) s = .next (s.setCl (q.2.1.groupServe r q.1 q.2.2))))
    ∧ (c.slotOpen p.val = true → c.sanderTurn p.val = true →
      (∀ r, c.spd.repairs.find? (fun r => r.bank == p.val) = some r → c.flt.fenB.getLsbD p.val = false →
        let d := { c with spd := { c.spd with repairs := c.spd.repairs.erase r } }
        exec (.repairWrite p) s = .next (s.setCl ((d.repairWords r).sanderServed p.val (c.overdue p.val)))
        ∧ exec (.scrub p) s = .next s)
      ∧ (c.spd.repairs.find? (fun r => r.bank == p.val) = none → c.flt.fenB.getLsbD p.val = false →
        Sparse.get c.spd.scrubs p.val ≠ 0 ∨ (c.scrubLine p.val).2 = true →
        exec (.scrub p) s = .next (s.setCl (c.doScrub p.val))))

/-- A flit on a lane that is down or without credit, or in F, does nothing. One with a bad CRC or a reserved TYPE, or that meets
an armed injection, is counted, raises FAB_CRC (0x29) and owes a NAK, once per gap. A good flit of a command's TYPE on a lane of
its network gives its acknowledgement; a LINK does no more. One with the expected number is accepted, owes an acknowledgement
and is delivered: a request to the boundary port, a reply to the unit that asked, a spore to the message unit, a signal to the
synchronisation unit; a repeated one owes its acknowledgement again; a later one owes a NAK. What the lane still owes behind
all this leaves as a LINK. A full landing buffer leaves lanes 2 and 3 without credit. A lane whose oldest flit has waited 1,024
cycles is re-sent. -/
def Obligations.Flits : Prop :=
  ∀ (l : LaneId) (f : Flit) (s : State),
    let c := s.cl
    let foreign := fun (d : Cluster) => d.reply l.val f.hdr 5 1 (fLmask f) []
    let mine := decide (fGaddr f / 2 ^ 40 = c.straps.toNat)
    let answer := fun (d : Cluster) => d.takeReply f.hdr []
    let rows : List (Instr × Nat × (Cluster → Cluster)) :=
      [(.linkFlit l f, 0, fun d => d), (.rdReq l f, 1, fun d => d.serveRd l.val f), (.wrReq l f, 2, fun d => d.serveWr l.val f),
       (.rdData l f, 3, fun d => d.takeReply f.hdr f.payload), (.wrAck l f, 4, answer), (.errReply l f, 5, answer),
       (.sporeFlit l f, 6, fun d => if mine then d.sporeArrive l.val f else foreign d), (.spReply l f, 7, answer),
       (.syncFlit l f, 8, fun d => if mine then d.syncArrive l.val f else foreign d),
       (.sorusFlit l f, 9, fun d => if mine then d.sporeArrive l.val f else foreign d)]
    let armed := c.armedAt 0x29 l.val
    let shut := 2 ≤ l.val ∧ 64 ≤ c.landing
    let ln := c.lane l.val
    (c.live = true → c.resendDue l.val = true → exec (.resendTimeout l) s = .next (s.setCl (c.resendAll l.val)))
    ∧ ∀ r ∈ rows,
      let gives := fun (d : Cluster) => exec r.1 s = .next (s.setCl (d.flushAck l.val))
      let fits := fType f = r.2.1 ∧ (r.2.1 = 0 ∨ (r.2.1 ∈ [1, 2, 6, 8, 9] ↔ l.val < 2))
      (c.live = false ∨ ln.up = false ∨ shut → exec r.1 s = .next s)
      ∧ (c.live = true → ln.up = true → ¬ shut →
        (flitGood f = true → ¬ fits → exec r.1 s = .next s)
        ∧ (flitGood f = false ∨ (armed = true ∧ fits) →
          let d := if armed then c.disarm 0x29 else c
          gives (((d.bump (0x2009C010 + 0x20 * l.val) 0x2009C090 (4 + l.val) 1).raise0 0x29 l.val).nak l.val))
        ∧ (flitGood f = true → fits → armed = false →
          (r.2.1 = 0 → gives (c.takeAck l.val f))
          ∧ (r.2.1 ≠ 0 → fLseq f = ln.rx → gives (r.2.2 ((c.setLane l.val { ln with
              rx := (ln.rx + 1) % 4096, nakOpen := false, owe := some false }).takeAck l.val f)))
          ∧ (r.2.1 ≠ 0 → fLseq f ≠ ln.rx →
            ((ln.rx + 4096 - fLseq f) % 4096 ≤ 2048 → gives ((c.setLane l.val { ln with owe := some ln.owesNak }).takeAck l.val f))
            ∧ (2048 < (ln.rx + 4096 - fLseq f) % 4096 → gives ((c.nak l.val).takeAck l.val f)))))

/-- A record of n slots fits at PROD mod S where it ends before the end of the ring, or from slot 0 behind a pad record where only
that fits, by CONS as the cycle found it; placed, PROD advances by n, or by T + n past its pad. The first spore that waits for a
ring goes to its slots through class 1 where it fits, and when they are written PROD advances and a core that waits takes it.
The first contribution that waits for a sorus entry without a waiting result reads the lines it adds to; when they are written
back it leaves the store, is counted and answered; an FP32 one is added to the exact sums of its elements, and an element is
released as the exact sum of its contributions, rounded once to FP32, whatever their order. A result goes to its ring, through
table words that hold no error (whatever spores wait for that ring, one placement at a time: the model's reading, log entry 45), and when it is written the entry is re-armed; past
its deadline it is dropped, counted, and raises MSG_SORUS_DROP (0x1C). A spore past its RING_TO that nothing places is refused
with reason 0, and a sent spore without a reply by its deadline ends with NOREPLY (3). -/
def Obligations.MessageUnit : Prop :=
  (∀ (c : Cluster) (r : RingId) (n pad : Nat), c.canon →
    let size := ringSize (c.ringD r.val)
    let t := size - (c.prodOf r.val).toNat % size
    let free := size - (c.prodOf r.val - c.consStart r.val).toNat
    (n ≤ t → n ≤ free → c.ringFit r.val n = some 0)
    ∧ (t < n → t + n ≤ free → c.ringFit r.val n = some t)
    ∧ (¬ (n ≤ t ∧ n ≤ free) → ¬ (t < n ∧ t + n ≤ free) → c.ringFit r.val n = none)
    ∧ (c.produce r.val n pad).prodOf r.val = c.prodOf r.val + BitVec.ofNat 32 (pad + n)
    ∧ (∀ q, q ≠ r.val → (c.produce r.val n pad).prodOf q = c.prodOf q))
  ∧ (∀ (xs ys : List W32), (xs.foldl SorAcc.addF SorAcc.empty).outF = toF32 (FV.sum (xs.map f32))
    ∧ (ys.Perm xs → (ys.foldl SorAcc.addF SorAcc.empty).outF = (xs.foldl SorAcc.addF SorAcc.empty).outF))
  ∧ ∀ (s : State),
    let c := s.cl
    let grp := c.spd.nextGrp
    let hold := fun (i : Nat) (sp : InSpore) => { c with store := vset c.store i (some { sp with grp := some grp }) }
    c.live = true →
    (∀ (r : RingId) i rest sp, c.waiting false r.val = i :: rest → vat c.store i none = some sp → c.tabSound (c.ringKeys r.val) →
      (c.placing r.val = true ∨ c.ringFit r.val (sLen sp.hdr) = none → exec (.sporePlacement r) s = .next s)
      ∧ (∀ pad, c.placing r.val = false → c.ringFit r.val (sLen sp.hdr) = some pad → exec (.sporePlacement r) s = .next (s.setCl
        ((hold i sp).addGroup 1 0 (.placeSpore i r.val (sLen sp.hdr) pad) (c.placeReqs r.val (sLen sp.hdr) pad sp.data)))))
    ∧ (∀ id i r n pad sp, vat c.store i none = some sp → sp.grp = some id →
      let d := (c.produce r n pad).sporeGone i
      c.placeSporeDone id i r n pad = ({ d with acks := d.acks ++ [(⟨sp.lane, sp.req, 7, 0⟩ : Ack)] }).recvCheck r)
    ∧ (∀ (e : SorusId) i rest sp, c.waiting true e.val = i :: rest → vat c.store i none = some sp →
      let result := c.sorRes.any (fun x => x.e == e.val)
      (result = true ∨ c.adding e.val = true → exec (.sorusAdd e) s = .next s)
      ∧ (result = false → c.adding e.val = false → c.tabSound (c.sorusKeys e.val) →
        exec (.sorusAdd e) s = .next (s.setCl ((hold i sp).addGroup 1 0 (.sorusRead i)
          ((c.sorLines e.val (sElemOff sp.hdr) (sNelc sp.hdr)).map (fun k => lineReq k (c.areaLine e.val k / 64) none))))))
    ∧ (∀ id i sp, vat c.store i none = some sp → sp.grp = some id → c.sorusInt (sDring sp.hdr % 512) = true →
      c.sorusWriteDone id i = ((c.sporeGone i).sorCount (sDring sp.hdr % 512)).reply sp.lane sp.req 7 0 0 [])
    ∧ (∀ id i sp, vat c.store i none = some sp → sp.grp = some id → c.sorusInt (sDring sp.hdr % 512) = false →
      c.sorusWriteDone id i = (((c.each (List.range (sNelc sp.hdr)) (fun c k =>
        c.putSor (sDring sp.hdr % 512) (sElemOff sp.hdr + k)
          ((c.sorElem (sDring sp.hdr % 512) (sElemOff sp.hdr + k)).addF (sorX sp.data k)))).sporeGone i).sorCount
        (sDring sp.hdr % 512)).reply sp.lane sp.req 7 0 0 [])
    ∧ (∀ (e : SorusId) res, c.resultOf e.val = some res →
      let r := c.sorusRing e.val
      let n := cdiv res.rec_.length 64
      let sound := c.tabSound (c.sorusKeys e.val ++ c.ringKeys r)
      (sound → ringValid (c.ringD r) = true → c.placing r = false → c.ringFit r n = none → exec (.sorusResultPlace e) s = .next s)
      ∧ (∀ pad, sound → ringValid (c.ringD r) = true → c.placing r = false → c.ringFit r n = some pad → exec (.sorusResultPlace e) s =
        .next (s.setCl (({ c with sorRes := c.sorRes.map (fun (x : SorRes) => if x.e = e.val then { x with grp := some grp } else x) }).addGroup
          1 0 (.placeSorus e.val r n pad) (c.placeReqs r n pad res.rec_))))
      ∧ (res.due ≤ c.tk → exec (.sorusResultTimeout e) s = .next (s.setCl
        (((c.sorRearm e.val).bump 0x20090230 0x20090240 6 1).raise 0x1C 0 (c.sorusOwner e.val)))))
    ∧ (∀ id e r n pad, (∃ x ∈ c.sorRes, x.e = e ∧ x.grp = some id) →
      c.placeSorusDone id e r n pad = ((c.produce r n pad).sorRearm e).recvCheck r)
    ∧ (∀ (h : Fin 64) sp, vat c.store h.val none = some sp → sp.done = true → sp.grp = none → sp.due ≤ c.tk →
      exec (.ringTimeout h) s = .next (s.setCl (c.refuse h.val 0)))
    ∧ (∀ (n : CoreId) (k : Fin 8) sp, vat (c.core n.val).send k.val none = some sp → sp.due ≤ c.tk →
      exec (.replyTimeout n k) s = .next (s.setCl (c.sporeOutcome n.val k.val (some 3))))

/-- The head of the inbound queue is answered ERR UNMAPPED (1) where its VID does not translate, ERR DENIED (2) where its entry
forbids cross signals, and else goes to its word, behind the baselines and the cores' operations of the cycle, with an SCTX
that a flit of another cluster does not carry and so a free value (log entry 3), to be answered WRACK. A wait past its
deadline is deregistered, and ends with TIMEOUT when its word has been read. A signal that waits for no earlier one is sent, and
its deadline starts; an ERR of status BUSY leaves it undecided, to be sent again 64 tk later, and one of any other status
makes it fail; one past its deadline fails with status 0xD. -/
def Obligations.SyncUnit : Prop :=
  ∀ (s : State),
    let c := s.cl
    (∀ lane at_ f rest, c.live = true → c.syncIn = (lane, at_, f) :: rest →
      let ga := fGaddr f
      let ctx := ga / 2 ^ 34 % 64
      let vid := fTxn f % 65536
      let d := { c with syncIn := rest }
      let gives := fun (d : Cluster) => exec .syncApply s = .next (s.setCl d)
      let signal := fun (sctx : Nat) => SyncWhat.signal (ga / 2 ^ 32 % 4) (BitVec.ofNat 32 ga) sctx (fSrccl f) (fTxn f / 2 ^ 17)
      c.tabSound (c.vidKeys ctx vid) →
      (c.translateVid ctx vid = none → gives (d.reply lane f.hdr 5 1 (fLmask f) []))
      ∧ (∀ e, c.translateVid ctx vid = some e →
        let word := (e.extractLsb' 0 17).toNat
        (e.getLsbD 30 = false → gives (d.reply lane f.hdr 5 2 (fLmask f) []))
        ∧ (e.getLsbD 30 = true → lane < 4 → gives (({ d with freeCtr := c.freeCtr + 1 }).syncPost word ctx (16 + lane)
          (signal (Config.freeByte c.freeCtr).toNat) (some (lane, f.hdr))))
        ∧ (∀ g, e.getLsbD 30 = true → lane = 4 → vat (c.core (fTxn f / 2 ^ 17 % 8)).sig (fLmask f % 8) none = some g →
          gives (d.syncPost word ctx (16 + lane) (signal g.ctx) (some (lane, f.hdr))))))
    ∧ (∀ (n : CoreId) w, vat c.waiters n.val none = some w → w.live = true → c.ready = true → w.deadline ≤ c.tk →
      c.tornSeen w.ctx = false →
      let y := { w with live := false, id := c.nextOrd }
      exec (.waitTimeout n) s = .next (s.setCl
        (({ c with waiters := vset c.waiters n.val (some y) }).syncPost w.word w.ctx (1 + n.val) (.expire n.val) none)))
    ∧ (∀ (n : CoreId) (o : SyncOp) (x : W64) w, o.what = .expire n.val → vat c.waiters n.val none = some w → w.live = false →
      w.id = o.id → c.syncApply o x = (c.expireWait n.val w x, x))
    ∧ (∀ (n : CoreId) (k : Fin 8) g, c.live = true → vat (c.core n.val).sig k.val none = some g →
      let put := fun (g : SigSlot) => c.setCore n.val { c.core n.val with sig := vset (c.core n.val).sig k.val (some g) }
      let room := c.portRoom = true ∨ g.dcl = c.straps.toNat
      (g.sent = false → (c.core n.val).earlier g = false → room → exec (.signalSend n k) s =
        .next (s.setCl ((put { g with sent := true, due := c.tk + c.dictAt 0x2700 2 }).launchSignal n.val k.val g)))
      ∧ (c.signalErr n.val k.val 5 = put { g with busy := some (c.tk + 64) })
      ∧ (∀ stat, stat ≠ 5 → c.signalErr n.val k.val stat = c.signalOutcome n.val k.val (some stat))
      ∧ (∀ t, g.busy = some t → t ≤ c.tk → room → exec (.signalResend n k) s =
        .next (s.setCl ((put { g with busy := none }).launchSignal n.val k.val g)))
      ∧ (g.sent = true → g.due ≤ c.tk → exec (.signalTimeout n k) s = .next (s.setCl (c.signalOutcome n.val k.val (some 0xD)))))

/-- A frame for another node goes on. A frame for the agent that is faulty is counted. A READ is served: refused with the
status of the checks, answered with the entry's bytes, or with the bytes at DBGADDR, which follow from scratchpad. A WRITE is
served, answered and kept, and one that repeats the kept sequence number, index and subindex is answered by the kept RESP alone.
A RESP starts within 64 CK_M cycles, and one for each byte of debug data, and the agent is at the request until its last byte has left:
up to 4 requests wait meanwhile, and a further one is discarded and counted; each is served in a later CK_M cycle, in order, with the
grants of that cycle, and in F a debug read still under way is refused. An EVACK with the EVSEQ of the oldest event releases it,
sent or not. The oldest event is sent, and sent again after 1,000 CK_M cycles. When a RESP starts is a free value within its bound;
that, the EVACK of an event not yet sent, and that a repeated WRITE counts as served are the model's readings (log entry 19). A write that passes the checks stores the clamped value of an entry that only stores; a debug access that passes
them reads or writes the bytes at DBGADDR, which advances. -/
def Obligations.MossAgent : Prop :=
  ∀ (bs : List Byte) (g : Grants) (s : State),
    let c := s.cl
    let gives := fun (d : Cluster) => Host.Outcome.next (s.setCl d)
    let i := leAt bs 4 2
    let sub := leAt bs 6 1
    let on := fun (d : Cluster) => d.bump 0x20040008 0x20040020 0 1
    let answer := fun (st : Nat) (bytes : List Byte) => mkFrame 0 c.node 3 (fmSeq bs) i sub st bytes
    let dbgLen := if i = 0x3000 ∧ sub = 2 then (if fmType bs = 1 then leNat (fmPayload bs) else fmLen bs) else 0
    let sent := fun (d : Cluster) (r : List Byte) => { d with
        freeCtr := d.freeCtr + 1
        moss := { d.moss with
          out := d.moss.out ++ [r]
          busyTo := d.clk.ckm + Config.respDelay d.freeCtr % (65 + dbgLen) + r.length } }
    let kept := fun (d : Cluster) (r : List Byte) => { sent d r with moss := { (sent d r).moss with
        last := some (BitVec.ofNat 8 (fmSeq bs), i, sub, r) } }
    let idle := c.mossBusy = false ∧ c.moss.queue = []
    (c.powered = true → bs ≠ [] → fmDst bs ≠ c.node → (2 ≤ bs.length → fmSrc bs ≠ c.node) →
      exec (.frameForward bs) s = gives (c.putFrame (fmTrim bs)))
    ∧ (c.powered = true → fmDst bs = c.node → fmSrc bs ≠ c.node →
      (fmBad bs = true → ∀ j ∈ [Instr.readFrame bs g, .writeFrame bs g, .evack bs], exec j s = gives (c.bump 0x20040010 0x20040020 1 1))
      ∧ (fmBad bs = false → 1 ≤ c.stage →
        (∀ j ∈ [(Instr.readFrame bs g, 1), (.writeFrame bs g, 2)], ¬ idle → fmType bs = j.2 →
          let d := c.sample g
          (c.moss.queue.length < 4 → exec j.1 s = gives { d with moss := { d.moss with queue := d.moss.queue ++ [bs] } })
          ∧ (4 ≤ c.moss.queue.length → exec j.1 s = gives (d.bump 0x20040010 0x20040020 1 1)))
        ∧ (fmType bs = 1 → idle →
          let d := on (c.sample g)
          let st := d.status g false i sub (fmPayload bs)
          let dbg := d.dbgRead (leNat (fmPayload bs)) (.debug bs)
          (st ≠ 0 → exec (.readFrame bs g) s = gives (sent d (answer st [])))
          ∧ (∀ e, st = 0 → isDbgData i sub = false → dictEntry i sub = some e →
            exec (.readFrame bs g) s = gives (sent d (answer 0 (d.entryBytes i sub e))))
          ∧ (∀ data, st = 0 → isDbgData i sub = true → dbg.1 = some data →
            exec (.readFrame bs g) s = gives (sent dbg.2 (answer 0 data)))
          ∧ (st = 0 → isDbgData i sub = true → dbg.1 = none → exec (.readFrame bs g) s = gives dbg.2))
        ∧ (fmType bs = 2 → idle →
          (∀ resp, c.keptResp bs = some resp → exec (.writeFrame bs g) s = gives (sent (on (c.sample g)) resp))
          ∧ (c.keptResp bs = none →
            let d := on (c.sample g)
            let st := d.status g true i sub (fmPayload bs)
            (st ≠ 0 → exec (.writeFrame bs g) s = gives (kept d (answer st [])))
            ∧ (st = 0 → exec (.writeFrame bs g) s =
              gives (kept (d.applyWrite g i sub (fmPayload bs)) (answer 0 (d.storedBytes i sub (fmPayload bs)))))))
        ∧ (∀ e rest, fmType bs = 5 → c.moss.events = e :: rest → exec (.evack bs) s =
          if fmLen bs = 2 ∧ leNat (fmPayload bs) = e.seq then gives { c with moss := { c.moss with events := rest, evSent := none } }
          else .next s)))
    ∧ (∀ next rest, c.powered = true → c.flt.fatal = false → c.moss.queue = next :: rest →
      let d := { c with moss := { c.moss with queue := rest } }
      (c.mossBusy = true → c.mossCycle = c)
      ∧ (c.mossBusy = false → c.mossCycle = if fmType next = 1 then d.serveRead next else d.serveWrite next))
    ∧ (∀ next, c.powered = true → c.flt.fatal = true → c.debugReq = some next → c.moss.queue = [] →
      (c.mossCycle).moss.out = c.moss.out ++ [mkFrame 0 c.node 3 (fmSeq next) (leAt next 4 2) (leAt next 6 1) 2 []]
      ∧ (c.mossCycle).debugReq = none)
    ∧ (∀ e rest, c.powered = true → c.moss.events = e :: rest →
      let sent := { c with moss := { c.moss with
        out := c.moss.out ++ [mkFrame 0 c.node 4 (e.seq % 256) 0 0 0 e.pay], evSent := some c.clk.ckm } }
      (c.moss.evSent = none → exec .eventSend s = gives sent)
      ∧ (∀ t, c.moss.evSent = some t → t + 1000 ≤ c.clk.ckm → exec .eventResend s = gives sent))
    ∧ (c.answers = true →
      let d := c.sample g
      (∀ (ix : W16) (sb : Byte), d.status g true ix.toNat sb.toNat bs = 0 → (d.applyOwn g ix.toNat sb.toNat bs).isNone = true →
        exec (.dictWrite ix sb bs g) s = gives (d.storeEntry ix.toNat sb.toNat (leNat bs)))
      ∧ (∀ n : W16, d.status g false 0x3000 2 (leBytes 2 n.toNat) = 0 →
        exec (.dbgdataRead n g) s = gives (d.dbgRead n.toNat .quiet).2)
      ∧ (d.status g true 0x3000 2 bs = 0 → exec (.dbgdataWrite bs g) s = gives (d.dbgWrite g.maint bs)))

/-- OPEN in IDLE takes a staging region that is free, and is else rejected with code 0x02. COMMIT in OPEN is rejected where no
image slot is free, and else begins CHECK, with its timer, and reads the header, then the rest of the image, through class 5: a
header or a layout that step 1 faults is rejected, and else the tag and the image go to the security block. The checks go on
in the order of their steps and the first that fails decides; steps 3 to 7 compare the image with the admitted ones, the fences
and the patch maps. ABANDON in OPEN rejects. The acceptance
verdict, awaited in CHECK, rejects where it refuses, or where the checks found something, and else begins LOAD, which reads the image
again; past its timer the intake is rejected. That steps 3 to 15 are computed when the image has been read, and come to light with the
verdict, is the model's reading (log entry 21). Admission compares the peak with the budget once more and puts the image in
force: its slot, its contexts, which become IDLE, the fences, the floors, and INT_RESULT. RETIRE marks an
image, which is retired once no lining of it runs and no intake is in CHECK or LOAD: its slot and its contexts become free, its
requests, suspended linings, linings and handles go. -/
def Obligations.ImageIntake : Prop :=
  (∀ (s : State),
    let c := s.cl
    let u := c.intake
    let base := c.dictAt 0x2380 1
    let lines := c.dictAt 0x2380 2
    let gives := fun (d : Cluster) => Host.Outcome.next (s.setCl d)
    let no := fun (code step idx : Nat) => gives (c.reject (rej code step idx))
    let stage := fun (k lo n : Nat) (d : Cluster) =>
      ({ d with intake := { d.intake with grp := some d.spd.nextGrp } } : Cluster).addGroup 5 0 (.stage k)
        ((List.range n).map (fun i => lineReq i (u.base + lo + i) none))
    (c.ready = true → u.state = 0 →
      (c.stagingOk base lines = true → exec .openIntake s =
        gives { c with intake := { u with state := 1, step := 0, base := base, lines := lines, fail := none, plan := none } })
      ∧ (c.stagingOk base lines = false → exec .openIntake s = no 0x02 0 0))
    ∧ (c.ready = true → u.state = 1 →
      exec .abandon s = no rcAbandoned 0 0
      ∧ (c.freeSlot = none → exec .commit s = no rcNoSlot 0 0)
      ∧ (c.freeSlot.isSome = true → exec .commit s = gives (stage 0 0 (min 4 u.lines) { c with intake := { u with
          state := 2, step := 1, since := c.tk, limit := c.dictAt 0x2382 1 } })))
    ∧ (∀ id, u.grp = some id →
      let d := { c with intake := { u with grp := none } }
      let q := d.checks u.base u.lines d.budget
      (d.headOk u.base u.lines = true → c.stageDone id 0 = stage 1 4 (d.imgLines - 4) d)
      ∧ (d.headOk u.base u.lines = false → c.stageDone id 0 = d.reject (rej rcLayout 1 0))
      ∧ (∀ r, d.step1 u.base u.lines = some r → c.stageDone id 1 = d.reject r)
      ∧ (d.step1 u.base u.lines = none → c.stageDone id 1 = { d with intake := { d.intake with
          step := 2, fail := q.1, plan := some q.2, stream := d.secStream } })
      ∧ c.stageDone id 2 = d)
    ∧ (c.ready = true → u.state = 2 → u.step = 2 →
      exec (.acceptanceVerdict false) s = no rcAccept 2 0
      ∧ (∀ r, u.fail = some r → exec (.acceptanceVerdict true) s = gives (c.reject r))
      ∧ (u.fail = none → exec (.acceptanceVerdict true) s =
        gives (stage 2 0 c.imgLines { c with intake := { u with state := 3, step := 0 } }))
      ∧ (u.since + u.limit ≤ c.tk → exec .acceptTimeout s = no rcAccTo 2 0))
    ∧ (∀ p slot, c.ready = true → u.state = 3 → u.grp = none → u.plan = some p → c.freeSlot = some slot →
      (c.budget < p.img.peak → exec .admission s = no rcToken 15 p.img.peakWin)
      ∧ (p.img.peak ≤ c.budget → exec .admission s = gives (c.takeIn p slot)))
    ∧ (∀ (k : Fin 8) im, vat c.imgs k.val none = some im →
      (c.answers = true → exec (.retire k) s = gives { c with imgs := vset c.imgs k.val (some { im with retire := true }) })
      ∧ (c.ready = true → im.retire = true → c.runSlot ≠ some k.val → u.state ≠ 2 → u.state ≠ 3 →
        exec (.retirement k) s = gives (c.doRetire k.val))))
  ∧ (∀ (c : Cluster) (b lines budget : Nat),
    let p := c.planFor b (c.readImg b lines)
    let v := c.under b p
    let ls := v.linCases b
    let cs := ls.filterMap (fun p => p.2.2)
    let same := fun (ok : Prop) (r : Rej) (step : Option Rej) => (ok → step = none) ∧ (¬ ok → step = some r)
    (c.checks b lines budget).1 =
      ([c.step3 b, c.step4 b, c.step5 b, c.step6 b, c.step7 b, c.step8 b lines, c.step9 b, v.step10 b, v.step11 b ls,
        v.step12 cs, v.step13 b cs].findSome? id).or (v.steps14to15 b budget p.img cs).1
    ∧ same (∀ i ∈ c.images, i.c1 = decide (c.hFlags b % 2 = 1)) (rej 0x06 3 0) (c.step3 b)
    ∧ ((∀ n < 8, c.modeOk b n = true) ↔ c.step4 b = none)
    ∧ same (∃ rot < 256, rotFits c.nextFenB (c.hHoles b) rot = true ∧ (c.images ≠ [] → rot = c.rot)) (rej 0x0A 5 0) (c.step5 b)
    ∧ ((∀ a < 32, (c.hWidth b a = 0 → c.hWit b a = false) ∧ c.arrFits b a = true ∧ c.arrSame b a = true) ↔ c.step6 b = none)
    ∧ ((∀ i < 16, c.latOk b i = true) ↔ c.step7 b = none))
  ∧ (∀ (c : Cluster) (p : Plan) (slot : Fin 8), c.canon →
    let d := c.takeIn p slot.val
    vat d.imgs slot.val none = some p.img
    ∧ (∀ k : CtxId, k.val ∈ p.img.ctxs → (d.ctx k.val).state = 1 ∧ (d.ctx k.val).torn = false ∧ (d.ctx k.val).linseq = 0)
    ∧ (∀ k : CtxId, k.val ∉ p.img.ctxs → k.val ∉ c.victims p → d.ctx k.val = c.ctx k.val)
    ∧ d.flt.fenA = c.flt.fenA ||| p.fenA ∧ d.flt.fenB = c.flt.fenB ||| p.fenB ∧ d.flt.fenC = c.flt.fenC ||| p.fenC
    ∧ (∀ i < 12, d.regAt (0x20001400 + 4 * i) = BitVec.ofNat 64 (hwMin c.stepping i * 2 ^ 16 + floorOf c.stepping (p.img.latman.getD i 0) i)
      ∨ 2 ^ 16 ≤ floorOf c.stepping (p.img.latman.getD i 0) i)
    ∧ d.regAt 0x20050010 = BitVec.ofNat 64 (2 ^ 63 + 2 ^ 62 + slot.val * 2 ^ 32) ∧ d.intake.state = 0)
  ∧ ∀ (c : Cluster) (slot : Fin 8) (im : Img), c.canon → vat c.imgs slot.val none = some im →
    let d := c.doRetire slot.val
    let gone := fun (lid : Nat) => ∃ l ∈ c.linings, l.slot = slot.val ∧ l.lid = lid
    vat d.imgs slot.val none = none
    ∧ (∀ k : CtxId, k.val ∈ im.ctxs → (d.ctx k.val).state = 0)
    ∧ (∀ q, q ∈ d.reqs ↔ q ∈ c.reqs ∧ ¬ gone q.lid) ∧ (∀ q, q ∈ d.susp ↔ q ∈ c.susp ∧ ¬ gone q.lid)
    ∧ (∀ l, l ∈ d.linings ↔ l ∈ c.linings ∧ l.slot ≠ slot.val)
    ∧ (∀ h < 4096, h ∈ im.handles → d.regAt (0x200B8000 + 8 * h) = 0)
    ∧ (d.regAt (0x20050100 + 16 * slot.val)).getLsbD 63 = false

/-- Where the agent answers writes: a staged dispatch request is queued, or refused with code 1 for no such lining, 2 for the
budget, 3 for a full queue of 16. A stop is held for the running lining. A teardown tears its context down: ops that start at
LCC t + 2 or later, or from the start where it is not bound to a lining that has begun, are nullified. A re-arm and a
snapshot act at once on a context that is not bound or suspended, and else wait for the end of its lining. CLEAR_FIRST
clears VALID and OVF, and keeps every other field (the model's reading, log entry 49). A debug grant that is withdrawn ends the halt. When the quiet period ends, pending U records are
acknowledged, the recovery count rises, and HSTATE leaves UNCORR. -/
def Obligations.RuntimeRequests : Prop :=
  (∀ (s : State) (k : CtxId),
    let c := s.cl
    let x := c.ctx k.val
    let gives := fun (d : Cluster) => Host.Outcome.next (s.setCl d)
    let lid := c.dictAt 0x2303 1
    let flags := c.dictAt 0x2303 3
    (c.answers = true →
      (c.imgOf lid = none → exec .dispatchSubmit s = gives (c.dispLog 1 lid))
      ∧ (c.imgOf lid ≠ none → c.fits lid = false → exec .dispatchSubmit s = gives (c.dispLog 2 lid))
      ∧ (c.imgOf lid ≠ none → c.fits lid = true → 16 ≤ c.reqs.length → exec .dispatchSubmit s = gives (c.dispLog 3 lid))
      ∧ (c.imgOf lid ≠ none → c.fits lid = true → c.reqs.length < 16 → exec .dispatchSubmit s = gives { c with
          nextOrd := c.nextOrd + 1
          reqs := c.reqs ++ [(⟨c.nextOrd, lid, BitVec.ofNat 64 (c.dictAt 0x2303 2), flags.testBit 0, flags / 2 % 4,
            c.dictAt 0x2303 4⟩ : Req)] })
      ∧ (∀ r, c.run = some r → exec .stopRequest s = gives { c with run := some { r with stop := true } })
      ∧ (c.run = none → exec .stopRequest s = .next s)
      ∧ exec (.teardownRequest k) s = gives (c.teardown k.val)
      ∧ (x.state ≤ 1 → exec (.rearm k) s = gives (c.doRearm k.val) ∧ exec (.snapshot k) s = gives (c.doSnapshot k.val))
      ∧ (1 < x.state → exec (.rearm k) s = gives (c.setCtx k.val { x with rearm := true })
        ∧ exec (.snapshot k) s = gives (c.setCtx k.val { x with snap := true }))
      ∧ exec .clearFirst s = gives (c.setReg 0x20060010 (0#2 ++ (c.regAt 0x20060010).extractLsb' 0 62)))
    ∧ (c.powered = true → exec .debugGrantWithdraw s =
      gives { c with moss := { c.moss with debug := false }, tim := { c.tim with haltReq := false } })
    ∧ (c.live = true → c.flt.hstate = 2 → c.flt.quietAt ≤ c.tk →
      let d := c.each ((List.range 128).filter (c.pendingOf 2)) Cluster.ackOne
      let e := { d with flt := { d.flt with recov := min 0xFFFF (d.flt.recov + 1) } }
      exec .quietExpiry s = gives (e.setHealth (if e.anyC then 1 else 0))))
  ∧ ∀ (c : Cluster) (k : CtxId),
    let x := c.ctx k.val
    let begun := ∃ r, c.run = some r ∧ r.begun = true
    (x.torn = true → c.teardown k.val = c.keepTorn k.val)
    ∧ (x.torn = false →
      ((c.teardown k.val).ctx k.val).torn = true
      ∧ (x.state = 2 → begun → ((c.teardown k.val).ctx k.val).tornAt = c.tim.lcc + 2)
      ∧ (¬ (x.state = 2 ∧ begun) → ((c.teardown k.val).ctx k.val).tornAt = 0)
      ∧ (∀ j : CtxId, j ≠ k → (c.teardown k.val).ctx j.val = c.ctx j.val) ∧ (c.teardown k.val).mem = c.mem)

/-- At power-good stage 0 is about to run: nothing is locked, aligned or loaded, no image is admitted, no lining runs, no fence
is in force or pending, no fault is recorded, HSTATE is NORMAL, and the settings hold their defaults. Every store is in its
canonical form. That no command waits is the model's choice, and so are straps 0 and stepping 2 (log entries 1, 2 and 6). -/
def Obligations.ResetState : Prop :=
  let c := State.reset.cl
  State.reset.pending = [] ∧ c.canon ∧ c.powered = true ∧ c.stage = 0 ∧ c.straps = 0 ∧ c.stepping = 2
    ∧ c.clk.locked = false ∧ c.clk.sen = false ∧ c.clk.ckm = 0 ∧ c.tb.runs = false ∧ c.tb.tbok = false ∧ c.tb.value = 0
    ∧ c.run = none ∧ c.susp = [] ∧ c.reqs = [] ∧ c.rerun = none ∧ c.linings = [] ∧ (∀ k < 8, vat c.imgs k none = none)
    ∧ c.intake.state = 0 ∧ c.flt.hstate = 0 ∧ c.flt.fatal = false ∧ c.flt.alive = false ∧ c.flt.recov = 0
    ∧ c.flt.fenA = 0 ∧ c.flt.fenB = 0 ∧ c.flt.fenC = 0 ∧ c.flt.pendA = 0 ∧ c.flt.pendB = 0 ∧ c.flt.pendC = 0
    ∧ (∀ l < 4, (c.lane l).up = false) ∧ (∀ k < 64, (c.ctx k).state = 0 ∧ (c.ctx k).torn = false)
    ∧ c.regAt 0x20020000 = 1000 ∧ c.regAt 0x20060010 = 0 ∧ (∀ k < 128, c.regAt (0x20061000 + 8 * k) = 0)
    ∧ (∀ n < 8, ∀ t < 24, c.tileValid n t = false ∧ c.tileEmpty n t = 2 ^ 128 - 1)
    ∧ c.dictAt 0x2400 0x10 = 125000 ∧ c.dictAt 0x2400 0x11 = 1250000 ∧ c.dictAt 0x2100 1 = 1024 ∧ c.dictAt 0x2100 2 = 4
    ∧ c.dictAt 0x2200 1 = 3 ∧ c.dictAt 0x2300 0x10 = 2 ∧ c.dictAt 0x2700 1 = 2500 ∧ c.dictAt 0x2700 2 = 5000
    ∧ c.dictAt 0x2783 1 = 12500 ∧ c.dictAt 0x2783 2 = 8 ∧ c.dictAt 0x2382 1 = 12500000

/-- From every state, any number of steps ends in a next state, and the steps that there are waiting commands for empty the queue:
no command of the table faults or is refused, in any state and with any operand. That a command whose guard fails changes
nothing, and so still answers a next state, is the model's own (log entry 7). -/
def Obligations.NoCommandStops : Prop :=
  (∀ (k : Nat) (s : State), Safe k s)
  ∧ ∀ (s : State), ∃ c, core.run s.pending.length s = .next ⟨[], c⟩

/-- From every state whose stores (scratchpad, tiles, memories, accumulators, statistics, tables, registers, settings and stored
errors) are in canonical form, every step, whatever command is at the front or with none, leaves them in canonical form:
keys strictly rising, no entry that reads as an unlisted one does. From every state, no step changes the straps or the
stepping. The canonical form is the model's own (log entry 5). -/
def Obligations.StepInvariant : Prop :=
  ∀ (s t : State), step s = .next t → (s.cl.canon → t.cl.canon) ∧ t.cl.ident = s.cl.ident

/-- In every state in F, whatever command is at the front, a step other than power-good or its loss leaves the cluster in F, with the
same FATALSRC. While power is on, power-good changes nothing (the model's choice, log entry 7); its loss followed by power-good leaves what reset leaves for the
same straps and stepping, with nothing kept. -/
def Obligations.FatalLasts : Prop :=
  (∀ (s t : State), s.cl.flt.fatal = true → s.pending.head? ≠ some .powerGood → s.pending.head? ≠ some .powerLoss →
    step s = .next t → t.cl.flt.fatal = true ∧ t.cl.flt.fatalSrc = s.cl.flt.fatalSrc)
  ∧ ∀ (rest : List Instr) (c : Cluster), c.powered = true →
    step ⟨.powerGood :: rest, c⟩ = .next ⟨rest, c⟩
    ∧ core.run 2 ⟨.powerLoss :: .powerGood :: rest, c⟩ = .next ⟨rest, Cluster.atPowerGood c.straps c.stepping⟩

/-- What one passing cycle of CK_A is made of. A cycle of a running lining is held while a hold has reached its LCC value or the
throttle is in its part of the 256 cycles. A held cycle keeps LCC and every field of the cluster but the time registers, the
contexts' counts, the counters and the HALT event: it adds 1 to CLU_HOLDCYC_TOTAL,
to the counter of its highest-priority cause and to the allowance of each context of the lining, and, for
MISSING_OP and LATE_ARRIVAL, to the caused-hold counter of each context that the hold names; then the conditions are
evaluated again for the same LCC value, and a hold whose evaluation found them clear has one more held cycle. An executed
cycle does the static domain's work and goes on to the next LCC value modulo 2^32. The stretch counters take the level in
force at the cycle's start. CLK_FREE takes 1; a tick of 14 cycles at level 0, longer by the level in eighths, advances a
running TB by 1, or in every 16th tick of a slew by 2 or 0; a debug halt counts its ticks apart. HALTREQ goes to the
evaluation of the cycle after. How a cycle's parts follow one another, and that the ticks of a halt are
kept beside TB, is the model's (log entry 8). -/
def Obligations.PassCycle : Prop :=
  (∀ c : Cluster,
    c.passCycle = c.endSlots.countStretch.countFull.passSave.passStatic.passHalt.passClocks.portCycle.endTorn.stallStops.newCycle)
  ∧ (∀ c : Cluster, c.heldNow = true ↔ c.tim.running = true
      ∧ ((∃ h, c.tim.hold = some h ∧ h.target ≤ c.lcc) ∨ (c.clk.locked = true ∧ c.clk.free % 256 < 16 * c.tim.duty)))
  ∧ (∀ c : Cluster, c.canon → c.heldNow = true →
      let d := c.passStatic
      let top := topCause c.holdAct
      let plus := fun (a : Nat) => BitVec.ofNat 64 (((c.regAt a).toNat % 2 ^ 48 + 1) % 2 ^ 48)
      d = { c with tim := d.tim, ctxs := d.ctxs, reg := d.reg, moss := d.moss }
        ∧ d.lcc = c.lcc ∧ d.tim.held = c.tim.held + 1 ∧ d.tim.running = true
        ∧ d.regAt 0x20001010 = plus 0x20001010 ∧ d.regAt (0x20001018 + 8 * top) = plus (0x20001018 + 8 * top)
        ∧ (∀ i, i < 5 → i ≠ top → d.regAt (0x20001018 + 8 * i) = c.regAt (0x20001018 + 8 * i))
        ∧ (∀ (r : Run) (k : CtxId), c.run = some r → r.ctxs.Nodup →
          let due := k.val ∈ r.ctxs
          let a := 0x20074028 + 0x100 * k.val
          d.ctx k.val = (if due then { c.ctx k.val with hchg := (c.ctx k.val).hchg + 1 } else c.ctx k.val)
            ∧ d.regAt a = (if due then BitVec.ofNat 64 (min ((c.regAt a).toNat + 1) (2 ^ 64 - 1)) else c.regAt a))
        ∧ (∀ (r : Run) (h : Hold) (k : CtxId), c.run = some r → c.tim.hold = some h → h.blame.Nodup →
          let a := 0x20074030 + 0x100 * k.val
          d.regAt a = (if top ≤ 1 ∧ k.val ∈ h.blame then BitVec.ofNat 64 (min ((c.regAt a).toNat + 1) (2 ^ 64 - 1)) else c.regAt a)))
  ∧ (∀ c : Cluster, c.heldNow = false → c.tim.running = true →
      let d := c.staticCycle
      (d.tim.running = true → c.passStatic = ({ d with tim := { d.tim with lcc := (d.lcc + 1) % 2 ^ 32 } }).enterUses)
        ∧ (d.tim.running = false → c.passStatic = d))
  ∧ (∀ c : Cluster, c.heldNow = false → c.tim.running = false → c.passStatic = c)
  ∧ (∀ (c : Cluster) (h : Hold), c.heldNow = true → c.tim.hold = some h → h.target ≤ c.lcc →
      let d := c.passStatic
      let m := c.countHeld.causes h.target
      (h.exit = 0 → m ≠ 0 → ∃ g, d.tim.hold = some g ∧ g.begun = true ∧ g.exit = 0 ∧ g.mask = m ∧ g.target = h.target
          ∧ g.since = (if h.begun then h.since else c.tk))
        ∧ (h.exit = 1 → ∃ g, d.tim.hold = some g ∧ g.begun = true ∧ g.exit = 2 ∧ g.mask = h.mask ∧ g.target = h.target)
        ∧ (h.exit = 2 → d.tim.hold = c.tim.next ∧ d.tim.next = none))
  ∧ (∀ c : Cluster, c.canon →
      let l := c.level
      let d := c.countStretch
      let plus := fun (a n : Nat) => BitVec.ofNat 64 (((c.regAt a).toNat % 2 ^ 48 + n) % 2 ^ 48)
      (l = 0 → d = c)
        ∧ (0 < l → d = { c with reg := d.reg } ∧ d.regAt 0x20010018 = plus 0x20010018 l ∧ d.regAt 0x20010020 = plus 0x20010020 1
          ∧ d.regAt 0x20010010 = if c.tim.running then c.regAt 0x20010010 + BitVec.ofNat 64 l else c.regAt 0x20010010))
  ∧ (∀ c : Cluster, c.level = if c.clk.locked then (if c.clk.sen then max c.clk.reqR c.clk.decD else 8) else 0)
  ∧ (∀ c : Cluster,
      let l := c.level
      let pt := c.clk.phaseT + 8 + l
      let pm := c.clk.phaseM + 8 + l
      let d := c.passClocks
      ∃ e : Cluster, d = (if pm < 140 then e else e.passCkm)
        ∧ e.clk.free = c.clk.free + 1 ∧ e.clk.phaseT = pt % 112 ∧ e.clk.phaseM = pm % 140 ∧ e.clk.ckm = c.clk.ckm + pm / 140
        ∧ e.clk.unstretched = (if l = 0 then c.clk.unstretched + 1 else 0)
        ∧ e.tb = (if 112 ≤ pt then c.passTk.tb else c.tb) ∧ e.lcc = c.lcc ∧ e.mem = c.mem
        ∧ e.tim.dutyNext = (if (c.clk.free + 1) % 256 = 0 then c.dutyNow else c.tim.dutyNext))
  ∧ (∀ c : Cluster,
      let t := c.tb
      let d := c.passTk.tb
      c.passTk = { c with tb := d } ∧ (t.runs = false → d = t)
        ∧ (t.runs = true →
          (t.debt = 0 → d.value = t.value + 1 ∧ d.debt = 0 ∧ d.slewN = 0)
          ∧ (t.debt ≠ 0 → t.slewN < 15 → d.value = t.value + 1 ∧ d.debt = t.debt ∧ d.slewN = t.slewN + 1)
          ∧ (t.debt < 0 → 15 ≤ t.slewN → d.value = t.value + 2 ∧ d.debt = t.debt + 1 ∧ d.slewN = 0)
          ∧ (0 < t.debt → 15 ≤ t.slewN → d.value = t.value ∧ d.debt = t.debt - 1 ∧ d.slewN = 0)
          ∧ (c.halted = false → d.dbgTk = t.dbgTk)
          ∧ (c.halted = true → d.value - t.value = BitVec.ofNat 64 (d.dbgTk - t.dbgTk))))
  ∧ ∀ c : Cluster, c.passHalt.tim.haltSeen = c.tim.haltReq

/-- A boundary or sander read of a word with a stored error, in a bank that is not fenced: a single-bit error is delivered
corrected, raises SPD_CE for the bank and adds 1 to SPD_CECNT; an uncorrectable one is delivered as zero, with the reader told,
raises SPD_UE, adds 1 to SPD_UECNT and tears down every context whose handle covers the line (stated where no image's resident region holds it). Nothing is
written by the read itself: the corrected word, or zero, waits in the bank's repair queue, which has 4 entries, one per
line. SPD_ERRLOG takes the error if VALID is clear: KIND 0 corrected, 1 uncorrectable, 3 sticky, with the agent, the physical bank, the bank line
and the word, and in its second word the LCC; else it keeps its record. A sticky error, on a word repaired before the sander reached it, and an uncorrectable one
add 1 to the bank's count, which sticks at 0xFF, and at the threshold the bank becomes pending. A repair stores the word clean and marks it.
A line write to a bank with an armed SPD_CE (SPD_UE) stores its lowest word with data bit 0 (bits 0 and 1) inverted and disarms;
a data-memory write of a core with an armed CORE_MEM_CE (CORE_MEM_UE) the same; unarmed, the word written holds no error.
How a stored error is kept, as the inverted bits beside the true word, is the model's (log entry 4). -/
def Obligations.ScratchErrors : Prop :=
  (∀ (c : Cluster) (w agent ctx : Nat) (m : W64), c.canon → w % 8 = 0 → w < 0x0C000000 → agent < 4 → ctx < 64 →
    c.badWords w 8 = [(w, m)] → c.residentOf (w / 64) = none →
    let p := c.pbank (lbankOf w)
    let ue := 2 ≤ popcount 64 m.toNat
    let sticky := Sparse.get c.spd.mark w ≠ 0
    let r := c.spdRead agent ctx w 8
    let d := r.2.1
    let plus := fun (a : Nat) => BitVec.ofNat 64 (((c.regAt a).toNat % 2 ^ 48 + 1) % 2 ^ 48)
    let log := c.regAt 0x200B0010
    let e := d.regAt 0x200B0010
    let bank := 0x200B1000 + 4 * p
    let count := fld (c.regAt bank) 7 0
    let word := if ue then 0 else Memory.word64 c.mem w
    r.1 = (if ue then List.replicate 8 0 else Memory.bytes c.mem w 8) ∧ (r.2.2 = true ↔ ue)
      ∧ d.mem = c.mem ∧ d.memErr = c.memErr ∧ d.spd.mark = c.spd.mark ∧ d.lcc = c.lcc
      ∧ d.regAt 0x200B0020 = (if ue then c.regAt 0x200B0020 else plus 0x200B0020)
      ∧ d.regAt 0x200B0028 = (if ue then plus 0x200B0028 else c.regAt 0x200B0028)
      ∧ (log.getLsbD 63 = true → e = log ∧ d.regAt 0x200B0018 = c.regAt 0x200B0018)
      ∧ (log.getLsbD 63 = false → e.getLsbD 63 = true
        ∧ fld e 62 60 = (if sticky then 3 else if ue then 1 else 0) ∧ fld e 59 58 = agent ∧ fld e 57 50 = p
        ∧ fld e 49 36 = qlineOf w ∧ fld e 35 33 = w / 8 % 8 ∧ (e.getLsbD 24 = true ↔ c.handlesAt (w / 64) ≠ [])
        ∧ fld (d.regAt 0x200B0018) 31 0 = c.lcc % 2 ^ 32)
      ∧ d.flt.inbox = c.flt.inbox ++ [if ue then ⟨0x21, 2, p, 3, 0, false, false, false, c.tb.value⟩
          else ⟨0x20, 1, p, 0, 0, false, c.inRepair w, false, c.tb.value⟩]
      ∧ (c.spd.repairs.any (fun q => q.line == w / 64) = false →
        (c.spd.repairs.filter (fun q => q.bank == p)).length < 4 →
        d.spd.repairs = c.spd.repairs ++ [⟨p, w / 64, [(w / 8 % 8, word)], c.clk.free⟩])
      ∧ (sticky ∨ ue → fld (d.regAt bank) 7 0 = min (count + 1) 0xFF
        ∧ (c.dictAt 0x2100 2 ≤ min (count + 1) 0xFF → d.flt.pendB.getLsbD p = true)
        ∧ (min (count + 1) 0xFF < c.dictAt 0x2100 2 → d.flt.pendB = c.flt.pendB))
      ∧ (¬ sticky → ¬ ue → d.regAt bank = c.regAt bank ∧ d.flt.pendB = c.flt.pendB)
      ∧ (ue → ∀ k ∈ c.mappers (w / 64), (d.ctx k).torn = true)
      ∧ (¬ ue →
        let repairs := { c.spd with repairs := d.spd.repairs }
        let faults := { c.flt with inbox := d.flt.inbox, pendB := d.flt.pendB }
        d = { c with reg := d.reg, freeCtr := d.freeCtr, spd := repairs, flt := faults }))
  ∧ (∀ (c : Cluster) (a n agent ctx : Nat), c.badWords a n = [] →
      (∀ i, i < n → c.fencedAt (a + i) = false) → c.spdRead agent ctx a n = (Memory.bytes c.mem a n, c, false))
  ∧ (∀ (c : Cluster) (p line i t : Nat) (v : W64), c.canon → i < 8 →
      let a := 64 * line + 8 * i
      let d := c.repairWords ⟨p, line, [(i, v)], t⟩
      Memory.word64 d.mem a = v ∧ Sparse.get d.memErr a = 0 ∧ Sparse.get d.spd.mark a = 1
        ∧ ∀ b, b ≠ a → Sparse.get d.memErr b = Sparse.get c.memErr b ∧ Sparse.get d.spd.mark b = Sparse.get c.spd.mark b
          ∧ (b < a ∨ a + 8 ≤ b → Memory.byte d.mem b = Memory.byte c.mem b))
  ∧ (∀ (c : Cluster) (a : Nat) (bs : List Byte), c.canon → bs ≠ [] → c.fencedAt a = false →
      let p := c.pbank (lbankOf a)
      let w := a / 8 * 8
      let d := c.spdWriteLine a bs
      d.mem = Memory.write c.mem a bs
        ∧ Sparse.get d.memErr w = (if c.armedAt 0x21 p then 3 else if c.armedAt 0x20 p then 1 else 0)
        ∧ (c.armedAt 0x20 p = true → d.armedAt 0x20 p = false) ∧ (c.armedAt 0x21 p = true → d.armedAt 0x21 p = false)
        ∧ (c.armedAt 0x20 p = false → c.armedAt 0x21 p = false → d.flt = c.flt))
  ∧ ∀ (c : Cluster) (n : CoreId) (a : Nat) (bs : List Byte), c.canon → bs ≠ [] →
      let k := n.val * 65536 + a
      let d := c.dmemPut n.val a bs
      d.dmem = Memory.write c.dmem k bs
        ∧ Sparse.get d.dmemErr (k / 8 * 8) = (if c.armedAt 0x25 n.val then 3 else if c.armedAt 0x24 n.val then 1 else 0)
        ∧ (c.armedAt 0x24 n.val = true → d.armedAt 0x24 n.val = false) ∧ (c.armedAt 0x25 n.val = true → d.armedAt 0x25 n.val = false)
        ∧ (c.armedAt 0x24 n.val = false → c.armedAt 0x25 n.val = false → d.flt = c.flt)

/-- For every float format: its canonical NaN and largest finite code are R63's, the E2M1 magnitudes are the eight named, and
writing what a code decodes to gives the code again, or the canonical NaN. A finite value is rounded once: with q the exponent of
the last place, no smaller than the subnormals', the multiple of 2^q is the floor, or one more where nearest-even, or the
sum of the 16-bit discarded part and U, says so; toward zero, never. If that multiple is no larger than the largest finite
value it is what the code written decodes to, sign kept; else FP32, BF16 and FP16 write an infinity, unless toward zero, and
every other case writes the largest finite code. An infinity is written as one where the format has one, in E4M3 as 0x7F; a NaN as the
canonical NaN. To an integer, a value is rounded the same way and saturated, an infinity saturated, a NaN 0; INT32 is
saturated. An MX block's scale and elements are R69's. Sums and products are exact. Packed elements unpack to themselves. -/
def Obligations.NumberFormats : Prop :=
  let fmts := [fmtF32, fmtBF16, fmtF16, fmtE4M3, fmtE5M2, fmtE3M2, fmtE2M1]
  let mag := fun (m : Nat) (e : Int) => (m : ℚ) * (2 : ℚ) ^ e
  let val := fun (neg : Bool) (m : Nat) (e : Int) => (if neg then -1 else 1) * mag m e
  let up := fun (r : Rnd) (x : ℚ) =>
    let h := ⌊x⌋₊
    let d := x - h
    match r with
    | .rne => d > 1 / 2 ∨ (d = 1 / 2 ∧ h % 2 = 1)
    | .tz => False
    | .sr u => 65536 ≤ ⌊d * 65536⌋₊ + u
  (fmts.map FloatFmt.qnan = [0x7FC00000, 0x7FC0, 0x7E00, 0x7F, 0x7E, 0, 0]
    ∧ fmts.map FloatFmt.maxCode = [0x7F7FFFFF, 0x7F7F, 0x7BFF, 0x7E, 0x7B, 0x1F, 0x7]
    ∧ (List.range 10).map fmtFloat = fmts.map some ++ [none, none, none]
    ∧ (List.range 16).map fmtBits = [32, 16, 16, 8, 8, 6, 4, 8, 4, 32, 0, 0, 0, 0, 0, 0])
  ∧ (∀ i : Fin 8, ∃ m e, fmtE2M1.dec i.val = .fin false m e
      ∧ mag m e = ([0, 1 / 2, 1, 3 / 2, 2, 3, 4, 6] : List ℚ).getD i.val 0)
  ∧ (∀ f ∈ fmts, ∀ (x : Nat) (r : Rnd), x < 2 ^ (1 + f.eb + f.mb) →
      f.enc r (f.dec x) = if f.dec x = .nan then f.qnan else x)
  ∧ (∀ f ∈ fmts, ∀ (r : Rnd) (neg : Bool) (m : Nat) (e : Int), m ≠ 0 → (∀ u, r = .sr u → u < 65536) →
      let q := max (1 - (f.bias : Int) - f.mb) (e + Nat.log2 m - f.mb)
      let x := mag m e / (2 : ℚ) ^ q
      ∃ (h mm : Nat) (em : Int), (up r x → h = ⌊x⌋₊ + 1) ∧ (¬ up r x → h = ⌊x⌋₊) ∧ f.dec f.maxCode = .fin false mm em
        ∧ (mag h q ≤ mag mm em → ∃ m2 e2, f.dec (f.enc r (.fin neg m e)) = .fin neg m2 e2 ∧ mag m2 e2 = mag h q)
        ∧ (mag mm em < mag h q → f.enc r (.fin neg m e) = f.sgn neg
            + (if r ≠ .tz ∧ f ∈ [fmtF32, fmtBF16, fmtF16] then (2 ^ f.eb - 1) * 2 ^ f.mb else f.maxCode)))
  ∧ (∀ (r : Rnd) (neg : Bool),
      (∀ f ∈ fmts, f.enc r .nan = f.qnan)
        ∧ (∀ f ∈ [fmtF32, fmtBF16, fmtF16, fmtE5M2], f.enc r (.inf neg) = f.sgn neg + (2 ^ f.eb - 1) * 2 ^ f.mb
          ∧ f.dec (f.enc r (.inf neg)) = .inf neg)
        ∧ fmtE4M3.enc r (.inf neg) = 0x7F)
  ∧ (∀ (n : Nat) (r : Rnd), 0 < n → (∀ u, r = .sr u → u < 65536) →
      let hi : Int := 2 ^ (n - 1) - 1
      let lo : Int := -(2 ^ (n - 1))
      toIntSat n r .nan = 0 ∧ toIntSat n r (.inf false) = hi ∧ toIntSat n r (.inf true) = lo
        ∧ ∀ (neg : Bool) (m : Nat) (e : Int), ∃ h : Nat,
          (up r (mag m e) → h = ⌊mag m e⌋₊ + 1) ∧ (¬ up r (mag m e) → h = ⌊mag m e⌋₊)
            ∧ toIntSat n r (.fin neg m e) = max lo (min hi (if neg then -(h : Int) else h)))
  ∧ (∀ (k : Nat) (x : W32), k ∈ [7, 8, 9] →
      elemInt k (narrowInt k x) = max (-(2 ^ (fmtBits k - 1))) (min (2 ^ (fmtBits k - 1) - 1) x.toInt))
  ∧ (∀ (f : Nat) (rnd : Nat → Rnd) (vs : List FV), f = 5 ∨ f = 6 →
      let g := if f = 5 then fmtE3M2 else fmtE2M1
      let emax : Int := if f = 5 then 4 else 2
      let b := mxBlock f rnd vs
      ((∃ v ∈ vs, v.isFin = false) → b = (0xFF, vs.map (fun _ => 0)))
        ∧ ((∀ v ∈ vs, ∃ n e, v = .fin n 0 e) → b = (0, vs.map (fun _ => 0)))
        ∧ ∀ (l : Int) (i m : Nat) (n : Bool) (e : Int), (∀ v ∈ vs, v.isFin = true) → l ≤ 127 →
          (∃ n2 m2 e2, .fin n2 m2 e2 ∈ vs ∧ m2 ≠ 0 ∧ e2 + Nat.log2 m2 = l) →
          (∀ n2 m2 e2, .fin n2 m2 e2 ∈ vs → m2 ≠ 0 → e2 + Nat.log2 m2 ≤ l) → vs[i]? = some (.fin n m e) →
          let s := max (l - emax) (-127) + 127
          (b.1 : Int) = s ∧ b.2[i]? = some (g.enc (rnd i) (.fin n m (e - (s - 127)))))
  ∧ (∀ (v : FV) (s : Nat), s < 256 →
      (s = 255 → v.mxScale s = .nan)
        ∧ (s < 255 → ∀ n m e, v = .fin n m e → ∃ e2, v.mxScale s = .fin n m e2 ∧ mag m e2 = mag m e * (2 : ℚ) ^ ((s : Int) - 127)))
  ∧ (∀ (a b : Bool) (m n : Nat) (e f : Int),
      (∃ c k g, FV.add (.fin a m e) (.fin b n f) = .fin c k g ∧ val c k g = val a m e + val b n f)
        ∧ (∃ c k g, FV.mul (.fin a m e) (.fin b n f) = .fin c k g ∧ val c k g = val a m e * val b n f))
  ∧ (∀ (acc : W32) (ps : List FV), accStep acc ps = toF32 ((f32 acc).add (FV.sum ps)))
  ∧ (∀ (w : Nat) (xs : List Nat), 0 < w → (∀ x ∈ xs, x < 2 ^ w) → unpack w xs.length (packElems w xs) = xs)
  ∧ ∀ (a b d : Byte), unpack 4 2 [a] = [a.toNat % 16, a.toNat / 16]
      ∧ unpack 6 4 [a, b, d] = [a.toNat % 64, a.toNat / 64 + b.toNat % 16 * 4, b.toNat / 16 + d.toNat % 4 * 16, d.toNat / 4]
end

