-- ==== Sys2Proof/Laws/Mem.lean ====
section
/-! SUPPORT. Laws of the sparse memories: a read after a write, and that every operation keeps the canonical form. -/

namespace Sys2Proof.Machine

theorem Sparse.wfFrom_mono {w : Nat} {m : Sparse w} {lo lo' : Nat} (h : Sparse.wfFrom lo m = true) (hl : lo' ≤ lo) :
    Sparse.wfFrom lo' m = true := by
  cases m with
  | nil => rfl
  | cons p r => simp only [Sparse.wfFrom, Bool.and_eq_true, decide_eq_true_eq] at h ⊢; exact ⟨⟨by omega, h.1.2⟩, h.2⟩

theorem Sparse.wfFrom_filter {w : Nat} (f : Nat × BitVec w → Bool) {m : Sparse w} {lo : Nat}
    (h : Sparse.wfFrom lo m = true) : Sparse.wfFrom lo (List.filter f m) = true := by
  induction m generalizing lo with
  | nil => rfl
  | cons p r ih =>
    simp only [Sparse.wfFrom, Bool.and_eq_true, decide_eq_true_eq] at h
    by_cases hf : f p = true
    · simp only [List.filter_cons, hf, if_true, Sparse.wfFrom, Bool.and_eq_true, decide_eq_true_eq]
      exact ⟨h.1, ih h.2⟩
    · simp only [List.filter_cons, hf, Bool.false_eq_true, if_false]
      exact Sparse.wfFrom_mono (ih h.2) (by omega)

@[simp] theorem Sparse.wf_nil {w : Nat} : Sparse.wf ([] : Sparse w) = true := rfl

@[simp] theorem Sparse.wf_filter {w : Nat} (f : Nat × BitVec w → Bool) {m : Sparse w} (h : Sparse.wf m = true) :
    Sparse.wf (List.filter f m) = true := Sparse.wfFrom_filter f h

@[simp] theorem Sparse.wf_clearRange {w : Nat} {m : Sparse w} (lo hi : Nat) (h : Sparse.wf m = true) :
    Sparse.wf (Sparse.clearRange m lo hi) = true := Sparse.wfFrom_filter _ h

theorem Sparse.wfFrom_set {w : Nat} {m : Sparse w} {lo a : Nat} (x : BitVec w) (ha : lo ≤ a)
    (h : Sparse.wfFrom lo m = true) : Sparse.wfFrom lo (Sparse.set m a x) = true := by
  induction m generalizing lo with
  | nil =>
    unfold Sparse.set
    split
    · rfl
    · simp [Sparse.wfFrom, *]
  | cons p r ih =>
    simp only [Sparse.wfFrom, Bool.and_eq_true, decide_eq_true_eq] at h
    unfold Sparse.set
    split
    · split
      · simp only [Sparse.wfFrom, Bool.and_eq_true, decide_eq_true_eq]; exact h
      · simp only [Sparse.wfFrom, Bool.and_eq_true, decide_eq_true_eq]
        exact ⟨⟨ha, ‹_›⟩, ⟨⟨by omega, h.1.2⟩, h.2⟩⟩
    · split
      · split
        · exact Sparse.wfFrom_mono h.2 (by omega)
        · simp only [Sparse.wfFrom, Bool.and_eq_true, decide_eq_true_eq]
          exact ⟨⟨h.1.1, ‹_›⟩, h.2⟩
      · simp only [Sparse.wfFrom, Bool.and_eq_true, decide_eq_true_eq]
        exact ⟨h.1, ih (by omega) h.2⟩

@[simp] theorem Sparse.wf_set {w : Nat} {m : Sparse w} (a : Nat) (x : BitVec w) (h : Sparse.wf m = true) :
    Sparse.wf (Sparse.set m a x) = true := Sparse.wfFrom_set x (Nat.zero_le a) h

@[simp] theorem Sparse.wf_setAll {w : Nat} {m : Sparse w} (kvs : List (Nat × BitVec w)) (h : Sparse.wf m = true) :
    Sparse.wf (Sparse.setAll m kvs) = true := by
  unfold Sparse.setAll
  induction kvs generalizing m with
  | nil => exact h
  | cons p r ih => exact ih (Sparse.wf_set p.1 p.2 h)

/-- A map whose keys lie below a bound, followed by one whose keys lie at or above it, is canonical. -/
theorem Sparse.wfFrom_append {w : Nat} {m n : Sparse w} {lo k : Nat} (hm : Sparse.wfFrom lo m = true)
    (hk : ∀ p ∈ m, p.1 < k) (hn : Sparse.wfFrom k n = true) (hl : lo ≤ k) : Sparse.wfFrom lo (m ++ n) = true := by
  induction m generalizing lo with
  | nil => exact Sparse.wfFrom_mono hn hl
  | cons p r ih =>
    simp only [Sparse.wfFrom, Bool.and_eq_true, decide_eq_true_eq, List.cons_append] at hm ⊢
    have := hk p (by simp)
    exact ⟨hm.1, ih hm.2 (fun q hq => hk q (by simp [hq])) (by omega)⟩

/-- Entries at or above a bound. -/
theorem Sparse.wfFrom_above {w : Nat} {m : Sparse w} {lo k : Nat} (h : Sparse.wfFrom lo m = true) :
    Sparse.wfFrom k (List.filter (fun kv => decide (k ≤ kv.1)) m) = true := by
  induction m generalizing lo with
  | nil => rfl
  | cons p r ih =>
    simp only [Sparse.wfFrom, Bool.and_eq_true, decide_eq_true_eq] at h
    by_cases hk : k ≤ p.1
    · rw [List.filter_cons, if_pos (by simpa using hk)]
      simp only [Sparse.wfFrom, Bool.and_eq_true, decide_eq_true_eq]
      exact ⟨⟨hk, h.1.2⟩, Sparse.wfFrom_filter _ h.2⟩
    · simp only [List.filter_cons, hk, decide_false, Bool.false_eq_true, if_false]
      exact ih h.2

theorem Sparse.cells_wf {w : Nat} (a : Nat) (bs : List (BitVec w)) : Sparse.wfFrom a (Sparse.cells a bs) = true := by
  induction bs generalizing a with
  | nil => rfl
  | cons b bs ih =>
    unfold Sparse.cells
    split
    · exact Sparse.wfFrom_mono (ih (a + 1)) (by omega)
    · simp only [Sparse.wfFrom, Bool.and_eq_true, decide_eq_true_eq]
      exact ⟨⟨Nat.le_refl a, ‹_›⟩, ih (a + 1)⟩

theorem Sparse.cells_lt {w : Nat} (a : Nat) (bs : List (BitVec w)) : ∀ p ∈ Sparse.cells a bs, p.1 < a + bs.length := by
  induction bs generalizing a with
  | nil => intro p hp; simp [Sparse.cells] at hp
  | cons b bs ih =>
    intro p hp
    unfold Sparse.cells at hp
    simp only [List.length_cons]
    split at hp
    · have := ih (a + 1) p hp; omega
    · rcases List.mem_cons.mp hp with rfl | hp
      · simp
      · have := ih (a + 1) p hp; omega

theorem Sparse.cells_ge {w : Nat} (a : Nat) (bs : List (BitVec w)) : ∀ p ∈ Sparse.cells a bs, a ≤ p.1 := by
  induction bs generalizing a with
  | nil => intro p hp; simp [Sparse.cells] at hp
  | cons b bs ih =>
    intro p hp
    unfold Sparse.cells at hp
    split at hp
    · have := ih (a + 1) p hp; omega
    · rcases List.mem_cons.mp hp with rfl | hp
      · exact Nat.le_refl _
      · have := ih (a + 1) p hp; omega

/-- Replacing a range keeps the canonical form. -/
@[simp] theorem Sparse.wf_putRange {w : Nat} {m : Sparse w} (a : Nat) (bs : List (BitVec w)) (h : Sparse.wf m = true) :
    Sparse.wf (Sparse.putRange m a bs) = true := by
  unfold Sparse.putRange
  rw [List.append_assoc]
  refine Sparse.wfFrom_append (k := a) (Sparse.wfFrom_filter _ h) ?_ ?_ (Nat.zero_le a)
  · intro p hp
    simpa using (List.mem_filter.mp hp).2
  · exact Sparse.wfFrom_append (k := a + bs.length) (Sparse.cells_wf a bs) (Sparse.cells_lt a bs) (Sparse.wfFrom_above h)
      (by omega)

/-- A write keeps the canonical form. -/
@[simp] theorem Memory.wf_write {m : Memory} (a : Nat) (bs : List Byte) (h : Memory.wf m = true) :
    Memory.wf (Memory.write m a bs) = true := Sparse.wf_putRange (w := 8) a bs h

/-! Reads after writes. -/

theorem Sparse.get_of_lt {w : Nat} {m : Sparse w} {lo a : Nat} (h : Sparse.wfFrom lo m = true) (ha : a < lo) :
    Sparse.get m a = 0#w := by
  induction m generalizing lo with
  | nil => rfl
  | cons p r ih =>
    simp only [Sparse.wfFrom, Bool.and_eq_true, decide_eq_true_eq] at h
    unfold Sparse.get
    rw [if_neg (by omega)]
    exact ih h.2 (by omega)

/-- A read after a write to the same key gives the value written. -/
theorem Sparse.get_set_self {w : Nat} {m : Sparse w} {lo : Nat} (a : Nat) (x : BitVec w) (h : Sparse.wfFrom lo m = true) :
    Sparse.get (Sparse.set m a x) a = x := by
  induction m generalizing lo with
  | nil => unfold Sparse.set; split <;> simp_all [Sparse.get]
  | cons p r ih =>
    simp only [Sparse.wfFrom, Bool.and_eq_true, decide_eq_true_eq] at h
    unfold Sparse.set
    split
    · split
      · have h2 : Sparse.wfFrom p.1 (p :: r) = true := by
          simp only [Sparse.wfFrom, Bool.and_eq_true, decide_eq_true_eq]; exact ⟨⟨Nat.le_refl _, h.1.2⟩, h.2⟩
        rw [Sparse.get_of_lt h2 (by assumption)]; exact (‹x = 0#w›).symm
      · simp [Sparse.get]
    · split
      · split
        · rw [Sparse.get_of_lt h.2 (by omega)]; exact (‹x = 0#w›).symm
        · simp [Sparse.get, *]
      · rw [Sparse.get, if_neg (by omega)]; exact ih h.2

/-- A write leaves every other key alone. -/
theorem Sparse.get_set_ne {w : Nat} {m : Sparse w} {a b : Nat} (x : BitVec w) (h : b ≠ a) :
    Sparse.get (Sparse.set m a x) b = Sparse.get m b := by
  induction m with
  | nil =>
    unfold Sparse.set
    split
    · rfl
    · simp [Sparse.get, h.symm]
  | cons p r ih =>
    unfold Sparse.set
    split
    · split
      · rfl
      · simp [Sparse.get, h.symm]
    · split
      · split
        · next hp _ => simp [Sparse.get, ← hp, h.symm]
        · next hp _ => simp [Sparse.get, ← hp, h.symm]
      · simp only [Sparse.get]; split
        · rfl
        · exact ih

/-- Writing zero where nothing is listed changes nothing. -/
theorem Sparse.set_zero_of_lt {w : Nat} {m : Sparse w} {lo a : Nat} (h : Sparse.wfFrom lo m = true) (ha : a < lo) :
    Sparse.set m a 0#w = m := by
  cases m with
  | nil => simp [Sparse.set]
  | cons p r =>
    simp only [Sparse.wfFrom, Bool.and_eq_true, decide_eq_true_eq] at h
    simp [Sparse.set, show a < p.1 by omega]

theorem Sparse.get_append {w : Nat} (m n : Sparse w) (a : Nat) (h : ∀ p ∈ m, p.1 ≠ a) :
    Sparse.get (m ++ n) a = Sparse.get n a := by
  induction m with
  | nil => rfl
  | cons p r ih =>
    simp only [List.cons_append, Sparse.get]
    rw [if_neg (h p (by simp))]
    exact ih (fun q hq => h q (by simp [hq]))

theorem Sparse.get_filter {w : Nat} (f : Nat → Bool) (m : Sparse w) (a : Nat) (h : f a = true) :
    Sparse.get (List.filter (fun kv => f kv.1) m) a = Sparse.get m a := by
  induction m with
  | nil => rfl
  | cons p r ih =>
    by_cases hp : p.1 = a
    · simp [hp, h, Sparse.get]
    · by_cases hf : f p.1 = true
      · simp [hf, Sparse.get, hp, ih]
      · simp [hf, Sparse.get, hp, ih]

theorem Sparse.get_filter_out {w : Nat} (f : Nat → Bool) (m : Sparse w) (a : Nat) (h : f a = false) :
    Sparse.get (List.filter (fun kv => f kv.1) m) a = 0#w := by
  induction m with
  | nil => rfl
  | cons p r ih =>
    by_cases hf : f p.1 = true
    · have : p.1 ≠ a := fun e => by rw [e, h] at hf; exact absurd hf (by decide)
      simp [hf, Sparse.get, this, ih]
    · simp [hf, ih]

theorem Sparse.get_absent {w : Nat} (n : Sparse w) (a : Nat) (h : ∀ p ∈ n, p.1 ≠ a) : Sparse.get n a = 0#w := by
  induction n with
  | nil => rfl
  | cons q s ih =>
    unfold Sparse.get
    rw [if_neg (h q (by simp))]
    exact ih (fun x hx => h x (by simp [hx]))

theorem Sparse.get_append_ne {w : Nat} (m n : Sparse w) (a : Nat) (h : ∀ p ∈ n, p.1 ≠ a) :
    Sparse.get (m ++ n) a = Sparse.get m a := by
  induction m with
  | nil => exact Sparse.get_absent n a h
  | cons p r ih => simp only [List.cons_append, Sparse.get, ih]

/-- A range replaced leaves every key outside it alone. -/
theorem Sparse.get_putRange_out {w : Nat} {m : Sparse w} {a b : Nat} (bs : List (BitVec w)) (h : b < a ∨ a + bs.length ≤ b) :
    Sparse.get (Sparse.putRange m a bs) b = Sparse.get m b := by
  unfold Sparse.putRange
  have hc : ∀ p ∈ Sparse.cells a bs, p.1 ≠ b := by
    intro p hp
    have := Sparse.cells_lt a bs p hp
    have := Sparse.cells_ge a bs p hp
    omega
  rcases h with h | h
  · rw [List.append_assoc, Sparse.get_append_ne]
    · exact Sparse.get_filter (fun k => decide (k < a)) m b (by simpa using h)
    · intro p hp
      rcases List.mem_append.mp hp with hp | hp
      · exact hc p hp
      · have := (List.mem_filter.mp hp).2
        simp only [decide_eq_true_eq] at this
        omega
  · rw [Sparse.get_append]
    · exact Sparse.get_filter (fun k => decide (a + bs.length ≤ k)) m b (by simpa using h)
    · intro p hp
      rcases List.mem_append.mp hp with hp | hp
      · have := (List.mem_filter.mp hp).2
        simp only [decide_eq_true_eq] at this
        omega
      · exact hc p hp

theorem Sparse.get_cells {w : Nat} (a : Nat) (bs : List (BitVec w)) (i : Nat) (h : i < bs.length) :
    Sparse.get (Sparse.cells a bs) (a + i) = bs.getD i 0#w := by
  induction bs generalizing a i with
  | nil => simp at h
  | cons b bs ih =>
    cases i with
    | zero =>
      unfold Sparse.cells
      split
      · rw [Nat.add_zero, Sparse.get_of_lt (Sparse.cells_wf (a + 1) bs) (by omega)]
        simp [*]
      · simp [Sparse.get]
    | succ i =>
      have e : a + (i + 1) = a + 1 + i := by omega
      unfold Sparse.cells
      rw [e]
      split
      · simpa using ih (a + 1) i (by simpa using h)
      · rw [Sparse.get, if_neg (by omega)]
        simpa using ih (a + 1) i (by simpa using h)

/-- A range replaced reads back value for value. -/
theorem Sparse.get_putRange_in {w : Nat} {m : Sparse w} (a : Nat) (bs : List (BitVec w)) (i : Nat) (h : i < bs.length) :
    Sparse.get (Sparse.putRange m a bs) (a + i) = bs.getD i 0#w := by
  unfold Sparse.putRange
  rw [List.append_assoc, Sparse.get_append]
  · rw [Sparse.get_append_ne]
    · exact Sparse.get_cells a bs i h
    · intro p hp
      have := (List.mem_filter.mp hp).2
      simp only [decide_eq_true_eq] at this
      omega
  · intro p hp
    have := (List.mem_filter.mp hp).2
    simp only [decide_eq_true_eq] at this
    omega

/-- A write leaves every byte outside it alone. -/
theorem Memory.byte_write_out {m : Memory} {a b : Nat} (bs : List Byte) (h : b < a ∨ a + bs.length ≤ b) :
    Memory.byte (Memory.write m a bs) b = Memory.byte m b := Sparse.get_putRange_out (w := 8) bs h

/-- A write reads back byte for byte. -/
theorem Memory.byte_write_in {m : Memory} (a : Nat) (bs : List Byte) (i : Nat) (h : i < bs.length) :
    Memory.byte (Memory.write m a bs) (a + i) = bs.getD i 0 := Sparse.get_putRange_in (w := 8) a bs i h

/-- The bytes read are those at the addresses. -/
theorem Memory.bytes_eq (m : Memory) (a n : Nat) : Memory.bytes m a n = (List.range n).map (fun i => Memory.byte m (a + i)) := by
  unfold Memory.bytes
  apply List.map_congr_left
  intro i hi
  have hi := List.mem_range.mp hi
  exact Sparse.get_filter (w := 8) (fun k => decide (a ≤ k) && decide (k < a + n)) m (a + i) (by simp; omega)

theorem Memory.bytes_length (m : Memory) (a n : Nat) : (Memory.bytes m a n).length = n := by simp [Memory.bytes]

/-- Bytes written read back. -/
theorem Memory.bytes_write (m : Memory) (a : Nat) (bs : List Byte) :
    Memory.bytes (Memory.write m a bs) a bs.length = bs := by
  rw [Memory.bytes_eq]
  apply List.ext_getElem
  · simp
  · intro i h1 h2
    simp only [List.getElem_map, List.getElem_range]
    rw [Memory.byte_write_in a bs i h2]
    simp [List.getD, h2]

/-- Bytes outside a write read as before. -/
theorem Memory.bytes_write_out (m : Memory) (a b n : Nat) (bs : List Byte) (h : b + n ≤ a ∨ a + bs.length ≤ b) :
    Memory.bytes (Memory.write m a bs) b n = Memory.bytes m b n := by
  rw [Memory.bytes_eq, Memory.bytes_eq]
  apply List.map_congr_left
  intro i hi
  have hi := List.mem_range.mp hi
  exact Memory.byte_write_out bs (by omega)

end Sys2Proof.Machine
end

