-- ==== Sys2Proof/Laws/Bytes.lean ====
section
/-! SUPPORT. Laws of little-endian bytes and bit fields: a byte of a number, a number from its bytes, and the bits of
a word with a field replaced. -/

namespace Sys2Proof.Machine

@[simp] theorem leBytes_length (n v : Nat) : (leBytes n v).length = n := by
  induction n generalizing v with
  | zero => rfl
  | succ n ih => simp [leBytes, ih]

theorem leBytes_get (n v i : Nat) (h : i < n) : (leBytes n v)[i]? = some (BitVec.ofNat 8 (v / 256 ^ i)) := by
  induction n generalizing v i with
  | zero => omega
  | succ n ih =>
    cases i with
    | zero => simp [leBytes]
    | succ i => simp [leBytes, ih (v / 256) i (by omega), Nat.div_div_eq_div_mul, pow_succ, mul_comm]

theorem leNat_lt (bs : List Byte) : leNat bs < 256 ^ bs.length := by
  induction bs with
  | nil => simp [leNat]
  | cons b bs ih => have := b.isLt; simp only [leNat, List.length_cons, pow_succ]; omega

theorem leNat_byte (bs : List Byte) (i : Nat) : leNat bs / 256 ^ i % 256 = (bs[i]?.getD 0).toNat := by
  induction bs generalizing i with
  | nil => simp [leNat]
  | cons b bs ih =>
    have := b.isLt
    cases i with
    | zero => simp [leNat]; omega
    | succ i =>
      rw [pow_succ, mul_comm, ← Nat.div_div_eq_div_mul, show leNat (b :: bs) / 256 = leNat bs by simp only [leNat]; omega]
      simpa using ih i

theorem leNat_leBytes (n v : Nat) : leNat (leBytes n v) = v % 256 ^ n := by
  induction n generalizing v with
  | zero => simp [leBytes, leNat, Nat.mod_one]
  | succ n ih =>
    have e : v % (256 * 256 ^ n) = v % 256 + 256 * (v / 256 % 256 ^ n) := Nat.mod_mul
    rw [pow_succ, mul_comm, e, leBytes, leNat, ih, BitVec.toNat_ofNat]

/-- Byte k of the word that a byte list spells. -/
theorem extract_leNat (bs : List Byte) (k : Nat) (h : k < 8) :
    (BitVec.ofNat 64 (leNat bs)).extractLsb' (8 * k) 8 = bs[k]?.getD 0 := by
  apply BitVec.eq_of_toNat_eq
  rw [BitVec.extractLsb'_toNat, BitVec.toNat_ofNat, Nat.shiftRight_eq_div_pow, ← leNat_byte bs k]
  have : 2 ^ (8 * k) = 256 ^ k := by rw [pow_mul]; norm_num
  rw [this]
  have e : 2 ^ 64 = 256 ^ k * 256 ^ (8 - k) := by rw [← pow_add]; norm_num [show k + (8 - k) = 8 by omega]
  rw [e, Nat.mod_mul_right_div_self]
  have : (256 : Nat) ∣ 256 ^ (8 - k) := dvd_pow_self _ (by omega)
  exact Nat.mod_mod_of_dvd _ this

/-- Byte k of a word, as the little-endian bytes of its number list it. -/
theorem leBytes_extract {w : Nat} (v : BitVec w) (len k : Nat) (h : k < len) :
    (leBytes len v.toNat).getD k 0 = v.extractLsb' (8 * k) 8 := by
  rw [List.getD_eq_getElem?_getD, leBytes_get _ _ _ h]
  apply BitVec.eq_of_toNat_eq
  simp only [Option.getD_some, BitVec.toNat_ofNat, BitVec.extractLsb'_toNat, Nat.shiftRight_eq_div_pow]
  rw [show 2 ^ (8 * k) = 256 ^ k by rw [pow_mul]; norm_num]

/-- Byte k of a range of memory. -/
theorem Memory.bytes_get (m : Memory) (a n k : Nat) :
    (Memory.bytes m a n)[k]?.getD 0 = if k < n then Memory.byte m (a + k) else 0 := by
  rw [Memory.bytes_eq]
  by_cases h : k < n <;> simp [h]

/-- Entries outside a cleared range stay. -/
theorem Sparse.get_clearRange_out {w : Nat} (m : Sparse w) (lo hi b : Nat) (h : b < lo ∨ hi ≤ b) :
    Sparse.get (Sparse.clearRange m lo hi) b = Sparse.get m b :=
  Sparse.get_filter (fun k => decide (k < lo) || decide (hi ≤ k)) m b (by simpa using h)

/-- Bit i of a word with field [hi:lo] replaced. -/
theorem getLsbD_setFld {w : Nat} (x : BitVec w) (hi lo v i : Nat) (hl : lo ≤ hi) (hw : i < w) :
    (setFld x hi lo v).getLsbD i = if lo ≤ i ∧ i ≤ hi then v.testBit (i - lo) else x.getLsbD i := by
  have hm : ((2 ^ (hi + 1 - lo) - 1) <<< lo).testBit i = decide (lo ≤ i ∧ i ≤ hi) := by
    rw [Nat.testBit_shiftLeft, Nat.testBit_two_pow_sub_one]
    by_cases h1 : lo ≤ i <;> by_cases h2 : i ≤ hi <;> simp [h1, h2] <;> omega
  have hv : ((v % 2 ^ (hi + 1 - lo)) <<< lo).testBit i = (decide (lo ≤ i ∧ i ≤ hi) && v.testBit (i - lo)) := by
    rw [Nat.testBit_shiftLeft, Nat.testBit_mod_two_pow]
    by_cases h1 : lo ≤ i <;> by_cases h2 : i ≤ hi <;> simp [h1, h2] <;> omega
  simp only [setFld, BitVec.getLsbD_or, BitVec.getLsbD_and, BitVec.getLsbD_not, BitVec.getLsbD_ofNat, hw, decide_true, Bool.true_and, hm, hv]
  by_cases h : lo ≤ i ∧ i ≤ hi <;> simp [h]

end Sys2Proof.Machine
end

