-- ==== Sys2Proof/Laws/State.lean ====
section
/-! SUPPORT. Field by field, what each update of the cluster leaves: one lemma for every field of every update, true by
computation, so that no later proof unfolds a record update. -/

namespace Sys2Proof.Machine

variable (c : Cluster)

theorem vat_vset_self {α : Type} {n : Nat} (v : Vector α n) (i : Nat) (x d : α) (h : i < n) : vat (vset v i x) i d = x := by
  simp [vat, vset, h]
theorem vat_vset_ne {α : Type} {n : Nat} (v : Vector α n) (i j : Nat) (x d : α) (h : j ≠ i) : vat (vset v i x) j d = vat v j d := by
  simp [vat, vset, Ne.symm h]

/-! setCtx -/
@[simp] theorem Cluster.setCtx_powered (k : Nat) (x : Ctx) : (c.setCtx k x).powered = c.powered := rfl
@[simp] theorem Cluster.setCtx_stage (k : Nat) (x : Ctx) : (c.setCtx k x).stage = c.stage := rfl
@[simp] theorem Cluster.setCtx_straps (k : Nat) (x : Ctx) : (c.setCtx k x).straps = c.straps := rfl
@[simp] theorem Cluster.setCtx_stepping (k : Nat) (x : Ctx) : (c.setCtx k x).stepping = c.stepping := rfl
@[simp] theorem Cluster.setCtx_clk (k : Nat) (x : Ctx) : (c.setCtx k x).clk = c.clk := rfl
@[simp] theorem Cluster.setCtx_tb (k : Nat) (x : Ctx) : (c.setCtx k x).tb = c.tb := rfl
@[simp] theorem Cluster.setCtx_tim (k : Nat) (x : Ctx) : (c.setCtx k x).tim = c.tim := rfl
@[simp] theorem Cluster.setCtx_queues (k : Nat) (x : Ctx) : (c.setCtx k x).queues = c.queues := rfl
@[simp] theorem Cluster.setCtx_arrs (k : Nat) (x : Ctx) : (c.setCtx k x).arrs = c.arrs := rfl
@[simp] theorem Cluster.setCtx_refs (k : Nat) (x : Ctx) : (c.setCtx k x).refs = c.refs := rfl
@[simp] theorem Cluster.setCtx_movs (k : Nat) (x : Ctx) : (c.setCtx k x).movs = c.movs := rfl
@[simp] theorem Cluster.setCtx_vecs (k : Nat) (x : Ctx) : (c.setCtx k x).vecs = c.vecs := rfl
@[simp] theorem Cluster.setCtx_feeds (k : Nat) (x : Ctx) : (c.setCtx k x).feeds = c.feeds := rfl
@[simp] theorem Cluster.setCtx_posts (k : Nat) (x : Ctx) : (c.setCtx k x).posts = c.posts := rfl
@[simp] theorem Cluster.setCtx_uses (k : Nat) (x : Ctx) : (c.setCtx k x).uses = c.uses := rfl
@[simp] theorem Cluster.setCtx_cores (k : Nat) (x : Ctx) : (c.setCtx k x).cores = c.cores := rfl
@[simp] theorem Cluster.setCtx_ctxs (k : Nat) (x : Ctx) : (c.setCtx k x).ctxs = vset c.ctxs k x := rfl
@[simp] theorem Cluster.setCtx_run (k : Nat) (x : Ctx) : (c.setCtx k x).run = c.run := rfl
@[simp] theorem Cluster.setCtx_freeAt (k : Nat) (x : Ctx) : (c.setCtx k x).freeAt = c.freeAt := rfl
@[simp] theorem Cluster.setCtx_susp (k : Nat) (x : Ctx) : (c.setCtx k x).susp = c.susp := rfl
@[simp] theorem Cluster.setCtx_reqs (k : Nat) (x : Ctx) : (c.setCtx k x).reqs = c.reqs := rfl
@[simp] theorem Cluster.setCtx_rerun (k : Nat) (x : Ctx) : (c.setCtx k x).rerun = c.rerun := rfl
@[simp] theorem Cluster.setCtx_linings (k : Nat) (x : Ctx) : (c.setCtx k x).linings = c.linings := rfl
@[simp] theorem Cluster.setCtx_imgs (k : Nat) (x : Ctx) : (c.setCtx k x).imgs = c.imgs := rfl
@[simp] theorem Cluster.setCtx_intake (k : Nat) (x : Ctx) : (c.setCtx k x).intake = c.intake := rfl
@[simp] theorem Cluster.setCtx_spd (k : Nat) (x : Ctx) : (c.setCtx k x).spd = c.spd := rfl
@[simp] theorem Cluster.setCtx_mem (k : Nat) (x : Ctx) : (c.setCtx k x).mem = c.mem := rfl
@[simp] theorem Cluster.setCtx_memErr (k : Nat) (x : Ctx) : (c.setCtx k x).memErr = c.memErr := rfl
@[simp] theorem Cluster.setCtx_imem (k : Nat) (x : Ctx) : (c.setCtx k x).imem = c.imem := rfl
@[simp] theorem Cluster.setCtx_imemErr (k : Nat) (x : Ctx) : (c.setCtx k x).imemErr = c.imemErr := rfl
@[simp] theorem Cluster.setCtx_dmem (k : Nat) (x : Ctx) : (c.setCtx k x).dmem = c.dmem := rfl
@[simp] theorem Cluster.setCtx_dmemErr (k : Nat) (x : Ctx) : (c.setCtx k x).dmemErr = c.dmemErr := rfl
@[simp] theorem Cluster.setCtx_sbuf (k : Nat) (x : Ctx) : (c.setCtx k x).sbuf = c.sbuf := rfl
@[simp] theorem Cluster.setCtx_acc (k : Nat) (x : Ctx) : (c.setCtx k x).acc = c.acc := rfl
@[simp] theorem Cluster.setCtx_side (k : Nat) (x : Ctx) : (c.setCtx k x).side = c.side := rfl
@[simp] theorem Cluster.setCtx_chans (k : Nat) (x : Ctx) : (c.setCtx k x).chans = c.chans := rfl
@[simp] theorem Cluster.setCtx_lanes (k : Nat) (x : Ctx) : (c.setCtx k x).lanes = c.lanes := rfl
@[simp] theorem Cluster.setCtx_fifos (k : Nat) (x : Ctx) : (c.setCtx k x).fifos = c.fifos := rfl
@[simp] theorem Cluster.setCtx_turned (k : Nat) (x : Ctx) : (c.setCtx k x).turned = c.turned := rfl
@[simp] theorem Cluster.setCtx_winOld (k : Nat) (x : Ctx) : (c.setCtx k x).winOld = c.winOld := rfl
@[simp] theorem Cluster.setCtx_fabOut (k : Nat) (x : Ctx) : (c.setCtx k x).fabOut = c.fabOut := rfl
@[simp] theorem Cluster.setCtx_waiters (k : Nat) (x : Ctx) : (c.setCtx k x).waiters = c.waiters := rfl
@[simp] theorem Cluster.setCtx_syncOps (k : Nat) (x : Ctx) : (c.setCtx k x).syncOps = c.syncOps := rfl
@[simp] theorem Cluster.setCtx_acks (k : Nat) (x : Ctx) : (c.setCtx k x).acks = c.acks := rfl
@[simp] theorem Cluster.setCtx_xlat (k : Nat) (x : Ctx) : (c.setCtx k x).xlat = c.xlat := rfl
@[simp] theorem Cluster.setCtx_syncIn (k : Nat) (x : Ctx) : (c.setCtx k x).syncIn = c.syncIn := rfl
@[simp] theorem Cluster.setCtx_rdesc (k : Nat) (x : Ctx) : (c.setCtx k x).rdesc = c.rdesc := rfl
@[simp] theorem Cluster.setCtx_prod (k : Nat) (x : Ctx) : (c.setCtx k x).prod = c.prod := rfl
@[simp] theorem Cluster.setCtx_cons (k : Nat) (x : Ctx) : (c.setCtx k x).cons = c.cons := rfl
@[simp] theorem Cluster.setCtx_consOld (k : Nat) (x : Ctx) : (c.setCtx k x).consOld = c.consOld := rfl
@[simp] theorem Cluster.setCtx_pads (k : Nat) (x : Ctx) : (c.setCtx k x).pads = c.pads := rfl
@[simp] theorem Cluster.setCtx_sdesc0 (k : Nat) (x : Ctx) : (c.setCtx k x).sdesc0 = c.sdesc0 := rfl
@[simp] theorem Cluster.setCtx_sdesc1 (k : Nat) (x : Ctx) : (c.setCtx k x).sdesc1 = c.sdesc1 := rfl
@[simp] theorem Cluster.setCtx_scount (k : Nat) (x : Ctx) : (c.setCtx k x).scount = c.scount := rfl
@[simp] theorem Cluster.setCtx_sround (k : Nat) (x : Ctx) : (c.setCtx k x).sround = c.sround := rfl
@[simp] theorem Cluster.setCtx_sacc (k : Nat) (x : Ctx) : (c.setCtx k x).sacc = c.sacc := rfl
@[simp] theorem Cluster.setCtx_sorRes (k : Nat) (x : Ctx) : (c.setCtx k x).sorRes = c.sorRes := rfl
@[simp] theorem Cluster.setCtx_resets (k : Nat) (x : Ctx) : (c.setCtx k x).resets = c.resets := rfl
@[simp] theorem Cluster.setCtx_store (k : Nat) (x : Ctx) : (c.setCtx k x).store = c.store := rfl
@[simp] theorem Cluster.setCtx_nextOrd (k : Nat) (x : Ctx) : (c.setCtx k x).nextOrd = c.nextOrd := rfl
@[simp] theorem Cluster.setCtx_moss (k : Nat) (x : Ctx) : (c.setCtx k x).moss = c.moss := rfl
@[simp] theorem Cluster.setCtx_flt (k : Nat) (x : Ctx) : (c.setCtx k x).flt = c.flt := rfl
@[simp] theorem Cluster.setCtx_reg (k : Nat) (x : Ctx) : (c.setCtx k x).reg = c.reg := rfl
@[simp] theorem Cluster.setCtx_dict (k : Nat) (x : Ctx) : (c.setCtx k x).dict = c.dict := rfl
@[simp] theorem Cluster.setCtx_tabErr (k : Nat) (x : Ctx) : (c.setCtx k x).tabErr = c.tabErr := rfl
@[simp] theorem Cluster.setCtx_vgath (k : Nat) (x : Ctx) : (c.setCtx k x).vgath = c.vgath := rfl
@[simp] theorem Cluster.setCtx_freeCtr (k : Nat) (x : Ctx) : (c.setCtx k x).freeCtr = c.freeCtr := rfl

/-! setCore -/
@[simp] theorem Cluster.setCore_powered (n : Nat) (x : Core) : (c.setCore n x).powered = c.powered := rfl
@[simp] theorem Cluster.setCore_stage (n : Nat) (x : Core) : (c.setCore n x).stage = c.stage := rfl
@[simp] theorem Cluster.setCore_straps (n : Nat) (x : Core) : (c.setCore n x).straps = c.straps := rfl
@[simp] theorem Cluster.setCore_stepping (n : Nat) (x : Core) : (c.setCore n x).stepping = c.stepping := rfl
@[simp] theorem Cluster.setCore_clk (n : Nat) (x : Core) : (c.setCore n x).clk = c.clk := rfl
@[simp] theorem Cluster.setCore_tb (n : Nat) (x : Core) : (c.setCore n x).tb = c.tb := rfl
@[simp] theorem Cluster.setCore_tim (n : Nat) (x : Core) : (c.setCore n x).tim = c.tim := rfl
@[simp] theorem Cluster.setCore_queues (n : Nat) (x : Core) : (c.setCore n x).queues = c.queues := rfl
@[simp] theorem Cluster.setCore_arrs (n : Nat) (x : Core) : (c.setCore n x).arrs = c.arrs := rfl
@[simp] theorem Cluster.setCore_refs (n : Nat) (x : Core) : (c.setCore n x).refs = c.refs := rfl
@[simp] theorem Cluster.setCore_movs (n : Nat) (x : Core) : (c.setCore n x).movs = c.movs := rfl
@[simp] theorem Cluster.setCore_vecs (n : Nat) (x : Core) : (c.setCore n x).vecs = c.vecs := rfl
@[simp] theorem Cluster.setCore_feeds (n : Nat) (x : Core) : (c.setCore n x).feeds = c.feeds := rfl
@[simp] theorem Cluster.setCore_posts (n : Nat) (x : Core) : (c.setCore n x).posts = c.posts := rfl
@[simp] theorem Cluster.setCore_uses (n : Nat) (x : Core) : (c.setCore n x).uses = c.uses := rfl
@[simp] theorem Cluster.setCore_cores (n : Nat) (x : Core) : (c.setCore n x).cores = vset c.cores n x := rfl
@[simp] theorem Cluster.setCore_ctxs (n : Nat) (x : Core) : (c.setCore n x).ctxs = c.ctxs := rfl
@[simp] theorem Cluster.setCore_run (n : Nat) (x : Core) : (c.setCore n x).run = c.run := rfl
@[simp] theorem Cluster.setCore_freeAt (n : Nat) (x : Core) : (c.setCore n x).freeAt = c.freeAt := rfl
@[simp] theorem Cluster.setCore_susp (n : Nat) (x : Core) : (c.setCore n x).susp = c.susp := rfl
@[simp] theorem Cluster.setCore_reqs (n : Nat) (x : Core) : (c.setCore n x).reqs = c.reqs := rfl
@[simp] theorem Cluster.setCore_rerun (n : Nat) (x : Core) : (c.setCore n x).rerun = c.rerun := rfl
@[simp] theorem Cluster.setCore_linings (n : Nat) (x : Core) : (c.setCore n x).linings = c.linings := rfl
@[simp] theorem Cluster.setCore_imgs (n : Nat) (x : Core) : (c.setCore n x).imgs = c.imgs := rfl
@[simp] theorem Cluster.setCore_intake (n : Nat) (x : Core) : (c.setCore n x).intake = c.intake := rfl
@[simp] theorem Cluster.setCore_spd (n : Nat) (x : Core) : (c.setCore n x).spd = c.spd := rfl
@[simp] theorem Cluster.setCore_mem (n : Nat) (x : Core) : (c.setCore n x).mem = c.mem := rfl
@[simp] theorem Cluster.setCore_memErr (n : Nat) (x : Core) : (c.setCore n x).memErr = c.memErr := rfl
@[simp] theorem Cluster.setCore_imem (n : Nat) (x : Core) : (c.setCore n x).imem = c.imem := rfl
@[simp] theorem Cluster.setCore_imemErr (n : Nat) (x : Core) : (c.setCore n x).imemErr = c.imemErr := rfl
@[simp] theorem Cluster.setCore_dmem (n : Nat) (x : Core) : (c.setCore n x).dmem = c.dmem := rfl
@[simp] theorem Cluster.setCore_dmemErr (n : Nat) (x : Core) : (c.setCore n x).dmemErr = c.dmemErr := rfl
@[simp] theorem Cluster.setCore_sbuf (n : Nat) (x : Core) : (c.setCore n x).sbuf = c.sbuf := rfl
@[simp] theorem Cluster.setCore_acc (n : Nat) (x : Core) : (c.setCore n x).acc = c.acc := rfl
@[simp] theorem Cluster.setCore_side (n : Nat) (x : Core) : (c.setCore n x).side = c.side := rfl
@[simp] theorem Cluster.setCore_chans (n : Nat) (x : Core) : (c.setCore n x).chans = c.chans := rfl
@[simp] theorem Cluster.setCore_lanes (n : Nat) (x : Core) : (c.setCore n x).lanes = c.lanes := rfl
@[simp] theorem Cluster.setCore_fifos (n : Nat) (x : Core) : (c.setCore n x).fifos = c.fifos := rfl
@[simp] theorem Cluster.setCore_turned (n : Nat) (x : Core) : (c.setCore n x).turned = c.turned := rfl
@[simp] theorem Cluster.setCore_winOld (n : Nat) (x : Core) : (c.setCore n x).winOld = c.winOld := rfl
@[simp] theorem Cluster.setCore_fabOut (n : Nat) (x : Core) : (c.setCore n x).fabOut = c.fabOut := rfl
@[simp] theorem Cluster.setCore_waiters (n : Nat) (x : Core) : (c.setCore n x).waiters = c.waiters := rfl
@[simp] theorem Cluster.setCore_syncOps (n : Nat) (x : Core) : (c.setCore n x).syncOps = c.syncOps := rfl
@[simp] theorem Cluster.setCore_acks (n : Nat) (x : Core) : (c.setCore n x).acks = c.acks := rfl
@[simp] theorem Cluster.setCore_xlat (n : Nat) (x : Core) : (c.setCore n x).xlat = c.xlat := rfl
@[simp] theorem Cluster.setCore_syncIn (n : Nat) (x : Core) : (c.setCore n x).syncIn = c.syncIn := rfl
@[simp] theorem Cluster.setCore_rdesc (n : Nat) (x : Core) : (c.setCore n x).rdesc = c.rdesc := rfl
@[simp] theorem Cluster.setCore_prod (n : Nat) (x : Core) : (c.setCore n x).prod = c.prod := rfl
@[simp] theorem Cluster.setCore_cons (n : Nat) (x : Core) : (c.setCore n x).cons = c.cons := rfl
@[simp] theorem Cluster.setCore_consOld (n : Nat) (x : Core) : (c.setCore n x).consOld = c.consOld := rfl
@[simp] theorem Cluster.setCore_pads (n : Nat) (x : Core) : (c.setCore n x).pads = c.pads := rfl
@[simp] theorem Cluster.setCore_sdesc0 (n : Nat) (x : Core) : (c.setCore n x).sdesc0 = c.sdesc0 := rfl
@[simp] theorem Cluster.setCore_sdesc1 (n : Nat) (x : Core) : (c.setCore n x).sdesc1 = c.sdesc1 := rfl
@[simp] theorem Cluster.setCore_scount (n : Nat) (x : Core) : (c.setCore n x).scount = c.scount := rfl
@[simp] theorem Cluster.setCore_sround (n : Nat) (x : Core) : (c.setCore n x).sround = c.sround := rfl
@[simp] theorem Cluster.setCore_sacc (n : Nat) (x : Core) : (c.setCore n x).sacc = c.sacc := rfl
@[simp] theorem Cluster.setCore_sorRes (n : Nat) (x : Core) : (c.setCore n x).sorRes = c.sorRes := rfl
@[simp] theorem Cluster.setCore_resets (n : Nat) (x : Core) : (c.setCore n x).resets = c.resets := rfl
@[simp] theorem Cluster.setCore_store (n : Nat) (x : Core) : (c.setCore n x).store = c.store := rfl
@[simp] theorem Cluster.setCore_nextOrd (n : Nat) (x : Core) : (c.setCore n x).nextOrd = c.nextOrd := rfl
@[simp] theorem Cluster.setCore_moss (n : Nat) (x : Core) : (c.setCore n x).moss = c.moss := rfl
@[simp] theorem Cluster.setCore_flt (n : Nat) (x : Core) : (c.setCore n x).flt = c.flt := rfl
@[simp] theorem Cluster.setCore_reg (n : Nat) (x : Core) : (c.setCore n x).reg = c.reg := rfl
@[simp] theorem Cluster.setCore_dict (n : Nat) (x : Core) : (c.setCore n x).dict = c.dict := rfl
@[simp] theorem Cluster.setCore_tabErr (n : Nat) (x : Core) : (c.setCore n x).tabErr = c.tabErr := rfl
@[simp] theorem Cluster.setCore_vgath (n : Nat) (x : Core) : (c.setCore n x).vgath = c.vgath := rfl
@[simp] theorem Cluster.setCore_freeCtr (n : Nat) (x : Core) : (c.setCore n x).freeCtr = c.freeCtr := rfl

/-! setQueue -/
@[simp] theorem Cluster.setQueue_powered (q : Nat) (x : EngQ) : (c.setQueue q x).powered = c.powered := rfl
@[simp] theorem Cluster.setQueue_stage (q : Nat) (x : EngQ) : (c.setQueue q x).stage = c.stage := rfl
@[simp] theorem Cluster.setQueue_straps (q : Nat) (x : EngQ) : (c.setQueue q x).straps = c.straps := rfl
@[simp] theorem Cluster.setQueue_stepping (q : Nat) (x : EngQ) : (c.setQueue q x).stepping = c.stepping := rfl
@[simp] theorem Cluster.setQueue_clk (q : Nat) (x : EngQ) : (c.setQueue q x).clk = c.clk := rfl
@[simp] theorem Cluster.setQueue_tb (q : Nat) (x : EngQ) : (c.setQueue q x).tb = c.tb := rfl
@[simp] theorem Cluster.setQueue_tim (q : Nat) (x : EngQ) : (c.setQueue q x).tim = c.tim := rfl
@[simp] theorem Cluster.setQueue_queues (q : Nat) (x : EngQ) : (c.setQueue q x).queues = vset c.queues q x := rfl
@[simp] theorem Cluster.setQueue_arrs (q : Nat) (x : EngQ) : (c.setQueue q x).arrs = c.arrs := rfl
@[simp] theorem Cluster.setQueue_refs (q : Nat) (x : EngQ) : (c.setQueue q x).refs = c.refs := rfl
@[simp] theorem Cluster.setQueue_movs (q : Nat) (x : EngQ) : (c.setQueue q x).movs = c.movs := rfl
@[simp] theorem Cluster.setQueue_vecs (q : Nat) (x : EngQ) : (c.setQueue q x).vecs = c.vecs := rfl
@[simp] theorem Cluster.setQueue_feeds (q : Nat) (x : EngQ) : (c.setQueue q x).feeds = c.feeds := rfl
@[simp] theorem Cluster.setQueue_posts (q : Nat) (x : EngQ) : (c.setQueue q x).posts = c.posts := rfl
@[simp] theorem Cluster.setQueue_uses (q : Nat) (x : EngQ) : (c.setQueue q x).uses = c.uses := rfl
@[simp] theorem Cluster.setQueue_cores (q : Nat) (x : EngQ) : (c.setQueue q x).cores = c.cores := rfl
@[simp] theorem Cluster.setQueue_ctxs (q : Nat) (x : EngQ) : (c.setQueue q x).ctxs = c.ctxs := rfl
@[simp] theorem Cluster.setQueue_run (q : Nat) (x : EngQ) : (c.setQueue q x).run = c.run := rfl
@[simp] theorem Cluster.setQueue_freeAt (q : Nat) (x : EngQ) : (c.setQueue q x).freeAt = c.freeAt := rfl
@[simp] theorem Cluster.setQueue_susp (q : Nat) (x : EngQ) : (c.setQueue q x).susp = c.susp := rfl
@[simp] theorem Cluster.setQueue_reqs (q : Nat) (x : EngQ) : (c.setQueue q x).reqs = c.reqs := rfl
@[simp] theorem Cluster.setQueue_rerun (q : Nat) (x : EngQ) : (c.setQueue q x).rerun = c.rerun := rfl
@[simp] theorem Cluster.setQueue_linings (q : Nat) (x : EngQ) : (c.setQueue q x).linings = c.linings := rfl
@[simp] theorem Cluster.setQueue_imgs (q : Nat) (x : EngQ) : (c.setQueue q x).imgs = c.imgs := rfl
@[simp] theorem Cluster.setQueue_intake (q : Nat) (x : EngQ) : (c.setQueue q x).intake = c.intake := rfl
@[simp] theorem Cluster.setQueue_spd (q : Nat) (x : EngQ) : (c.setQueue q x).spd = c.spd := rfl
@[simp] theorem Cluster.setQueue_mem (q : Nat) (x : EngQ) : (c.setQueue q x).mem = c.mem := rfl
@[simp] theorem Cluster.setQueue_memErr (q : Nat) (x : EngQ) : (c.setQueue q x).memErr = c.memErr := rfl
@[simp] theorem Cluster.setQueue_imem (q : Nat) (x : EngQ) : (c.setQueue q x).imem = c.imem := rfl
@[simp] theorem Cluster.setQueue_imemErr (q : Nat) (x : EngQ) : (c.setQueue q x).imemErr = c.imemErr := rfl
@[simp] theorem Cluster.setQueue_dmem (q : Nat) (x : EngQ) : (c.setQueue q x).dmem = c.dmem := rfl
@[simp] theorem Cluster.setQueue_dmemErr (q : Nat) (x : EngQ) : (c.setQueue q x).dmemErr = c.dmemErr := rfl
@[simp] theorem Cluster.setQueue_sbuf (q : Nat) (x : EngQ) : (c.setQueue q x).sbuf = c.sbuf := rfl
@[simp] theorem Cluster.setQueue_acc (q : Nat) (x : EngQ) : (c.setQueue q x).acc = c.acc := rfl
@[simp] theorem Cluster.setQueue_side (q : Nat) (x : EngQ) : (c.setQueue q x).side = c.side := rfl
@[simp] theorem Cluster.setQueue_chans (q : Nat) (x : EngQ) : (c.setQueue q x).chans = c.chans := rfl
@[simp] theorem Cluster.setQueue_lanes (q : Nat) (x : EngQ) : (c.setQueue q x).lanes = c.lanes := rfl
@[simp] theorem Cluster.setQueue_fifos (q : Nat) (x : EngQ) : (c.setQueue q x).fifos = c.fifos := rfl
@[simp] theorem Cluster.setQueue_turned (q : Nat) (x : EngQ) : (c.setQueue q x).turned = c.turned := rfl
@[simp] theorem Cluster.setQueue_winOld (q : Nat) (x : EngQ) : (c.setQueue q x).winOld = c.winOld := rfl
@[simp] theorem Cluster.setQueue_fabOut (q : Nat) (x : EngQ) : (c.setQueue q x).fabOut = c.fabOut := rfl
@[simp] theorem Cluster.setQueue_waiters (q : Nat) (x : EngQ) : (c.setQueue q x).waiters = c.waiters := rfl
@[simp] theorem Cluster.setQueue_syncOps (q : Nat) (x : EngQ) : (c.setQueue q x).syncOps = c.syncOps := rfl
@[simp] theorem Cluster.setQueue_acks (q : Nat) (x : EngQ) : (c.setQueue q x).acks = c.acks := rfl
@[simp] theorem Cluster.setQueue_xlat (q : Nat) (x : EngQ) : (c.setQueue q x).xlat = c.xlat := rfl
@[simp] theorem Cluster.setQueue_syncIn (q : Nat) (x : EngQ) : (c.setQueue q x).syncIn = c.syncIn := rfl
@[simp] theorem Cluster.setQueue_rdesc (q : Nat) (x : EngQ) : (c.setQueue q x).rdesc = c.rdesc := rfl
@[simp] theorem Cluster.setQueue_prod (q : Nat) (x : EngQ) : (c.setQueue q x).prod = c.prod := rfl
@[simp] theorem Cluster.setQueue_cons (q : Nat) (x : EngQ) : (c.setQueue q x).cons = c.cons := rfl
@[simp] theorem Cluster.setQueue_consOld (q : Nat) (x : EngQ) : (c.setQueue q x).consOld = c.consOld := rfl
@[simp] theorem Cluster.setQueue_pads (q : Nat) (x : EngQ) : (c.setQueue q x).pads = c.pads := rfl
@[simp] theorem Cluster.setQueue_sdesc0 (q : Nat) (x : EngQ) : (c.setQueue q x).sdesc0 = c.sdesc0 := rfl
@[simp] theorem Cluster.setQueue_sdesc1 (q : Nat) (x : EngQ) : (c.setQueue q x).sdesc1 = c.sdesc1 := rfl
@[simp] theorem Cluster.setQueue_scount (q : Nat) (x : EngQ) : (c.setQueue q x).scount = c.scount := rfl
@[simp] theorem Cluster.setQueue_sround (q : Nat) (x : EngQ) : (c.setQueue q x).sround = c.sround := rfl
@[simp] theorem Cluster.setQueue_sacc (q : Nat) (x : EngQ) : (c.setQueue q x).sacc = c.sacc := rfl
@[simp] theorem Cluster.setQueue_sorRes (q : Nat) (x : EngQ) : (c.setQueue q x).sorRes = c.sorRes := rfl
@[simp] theorem Cluster.setQueue_resets (q : Nat) (x : EngQ) : (c.setQueue q x).resets = c.resets := rfl
@[simp] theorem Cluster.setQueue_store (q : Nat) (x : EngQ) : (c.setQueue q x).store = c.store := rfl
@[simp] theorem Cluster.setQueue_nextOrd (q : Nat) (x : EngQ) : (c.setQueue q x).nextOrd = c.nextOrd := rfl
@[simp] theorem Cluster.setQueue_moss (q : Nat) (x : EngQ) : (c.setQueue q x).moss = c.moss := rfl
@[simp] theorem Cluster.setQueue_flt (q : Nat) (x : EngQ) : (c.setQueue q x).flt = c.flt := rfl
@[simp] theorem Cluster.setQueue_reg (q : Nat) (x : EngQ) : (c.setQueue q x).reg = c.reg := rfl
@[simp] theorem Cluster.setQueue_dict (q : Nat) (x : EngQ) : (c.setQueue q x).dict = c.dict := rfl
@[simp] theorem Cluster.setQueue_tabErr (q : Nat) (x : EngQ) : (c.setQueue q x).tabErr = c.tabErr := rfl
@[simp] theorem Cluster.setQueue_vgath (q : Nat) (x : EngQ) : (c.setQueue q x).vgath = c.vgath := rfl
@[simp] theorem Cluster.setQueue_freeCtr (q : Nat) (x : EngQ) : (c.setQueue q x).freeCtr = c.freeCtr := rfl

/-! setArr -/
@[simp] theorem Cluster.setArr_powered (a : Nat) (x : ArrSt) : (c.setArr a x).powered = c.powered := rfl
@[simp] theorem Cluster.setArr_stage (a : Nat) (x : ArrSt) : (c.setArr a x).stage = c.stage := rfl
@[simp] theorem Cluster.setArr_straps (a : Nat) (x : ArrSt) : (c.setArr a x).straps = c.straps := rfl
@[simp] theorem Cluster.setArr_stepping (a : Nat) (x : ArrSt) : (c.setArr a x).stepping = c.stepping := rfl
@[simp] theorem Cluster.setArr_clk (a : Nat) (x : ArrSt) : (c.setArr a x).clk = c.clk := rfl
@[simp] theorem Cluster.setArr_tb (a : Nat) (x : ArrSt) : (c.setArr a x).tb = c.tb := rfl
@[simp] theorem Cluster.setArr_tim (a : Nat) (x : ArrSt) : (c.setArr a x).tim = c.tim := rfl
@[simp] theorem Cluster.setArr_queues (a : Nat) (x : ArrSt) : (c.setArr a x).queues = c.queues := rfl
@[simp] theorem Cluster.setArr_arrs (a : Nat) (x : ArrSt) : (c.setArr a x).arrs = vset c.arrs a x := rfl
@[simp] theorem Cluster.setArr_refs (a : Nat) (x : ArrSt) : (c.setArr a x).refs = c.refs := rfl
@[simp] theorem Cluster.setArr_movs (a : Nat) (x : ArrSt) : (c.setArr a x).movs = c.movs := rfl
@[simp] theorem Cluster.setArr_vecs (a : Nat) (x : ArrSt) : (c.setArr a x).vecs = c.vecs := rfl
@[simp] theorem Cluster.setArr_feeds (a : Nat) (x : ArrSt) : (c.setArr a x).feeds = c.feeds := rfl
@[simp] theorem Cluster.setArr_posts (a : Nat) (x : ArrSt) : (c.setArr a x).posts = c.posts := rfl
@[simp] theorem Cluster.setArr_uses (a : Nat) (x : ArrSt) : (c.setArr a x).uses = c.uses := rfl
@[simp] theorem Cluster.setArr_cores (a : Nat) (x : ArrSt) : (c.setArr a x).cores = c.cores := rfl
@[simp] theorem Cluster.setArr_ctxs (a : Nat) (x : ArrSt) : (c.setArr a x).ctxs = c.ctxs := rfl
@[simp] theorem Cluster.setArr_run (a : Nat) (x : ArrSt) : (c.setArr a x).run = c.run := rfl
@[simp] theorem Cluster.setArr_freeAt (a : Nat) (x : ArrSt) : (c.setArr a x).freeAt = c.freeAt := rfl
@[simp] theorem Cluster.setArr_susp (a : Nat) (x : ArrSt) : (c.setArr a x).susp = c.susp := rfl
@[simp] theorem Cluster.setArr_reqs (a : Nat) (x : ArrSt) : (c.setArr a x).reqs = c.reqs := rfl
@[simp] theorem Cluster.setArr_rerun (a : Nat) (x : ArrSt) : (c.setArr a x).rerun = c.rerun := rfl
@[simp] theorem Cluster.setArr_linings (a : Nat) (x : ArrSt) : (c.setArr a x).linings = c.linings := rfl
@[simp] theorem Cluster.setArr_imgs (a : Nat) (x : ArrSt) : (c.setArr a x).imgs = c.imgs := rfl
@[simp] theorem Cluster.setArr_intake (a : Nat) (x : ArrSt) : (c.setArr a x).intake = c.intake := rfl
@[simp] theorem Cluster.setArr_spd (a : Nat) (x : ArrSt) : (c.setArr a x).spd = c.spd := rfl
@[simp] theorem Cluster.setArr_mem (a : Nat) (x : ArrSt) : (c.setArr a x).mem = c.mem := rfl
@[simp] theorem Cluster.setArr_memErr (a : Nat) (x : ArrSt) : (c.setArr a x).memErr = c.memErr := rfl
@[simp] theorem Cluster.setArr_imem (a : Nat) (x : ArrSt) : (c.setArr a x).imem = c.imem := rfl
@[simp] theorem Cluster.setArr_imemErr (a : Nat) (x : ArrSt) : (c.setArr a x).imemErr = c.imemErr := rfl
@[simp] theorem Cluster.setArr_dmem (a : Nat) (x : ArrSt) : (c.setArr a x).dmem = c.dmem := rfl
@[simp] theorem Cluster.setArr_dmemErr (a : Nat) (x : ArrSt) : (c.setArr a x).dmemErr = c.dmemErr := rfl
@[simp] theorem Cluster.setArr_sbuf (a : Nat) (x : ArrSt) : (c.setArr a x).sbuf = c.sbuf := rfl
@[simp] theorem Cluster.setArr_acc (a : Nat) (x : ArrSt) : (c.setArr a x).acc = c.acc := rfl
@[simp] theorem Cluster.setArr_side (a : Nat) (x : ArrSt) : (c.setArr a x).side = c.side := rfl
@[simp] theorem Cluster.setArr_chans (a : Nat) (x : ArrSt) : (c.setArr a x).chans = c.chans := rfl
@[simp] theorem Cluster.setArr_lanes (a : Nat) (x : ArrSt) : (c.setArr a x).lanes = c.lanes := rfl
@[simp] theorem Cluster.setArr_fifos (a : Nat) (x : ArrSt) : (c.setArr a x).fifos = c.fifos := rfl
@[simp] theorem Cluster.setArr_turned (a : Nat) (x : ArrSt) : (c.setArr a x).turned = c.turned := rfl
@[simp] theorem Cluster.setArr_winOld (a : Nat) (x : ArrSt) : (c.setArr a x).winOld = c.winOld := rfl
@[simp] theorem Cluster.setArr_fabOut (a : Nat) (x : ArrSt) : (c.setArr a x).fabOut = c.fabOut := rfl
@[simp] theorem Cluster.setArr_waiters (a : Nat) (x : ArrSt) : (c.setArr a x).waiters = c.waiters := rfl
@[simp] theorem Cluster.setArr_syncOps (a : Nat) (x : ArrSt) : (c.setArr a x).syncOps = c.syncOps := rfl
@[simp] theorem Cluster.setArr_acks (a : Nat) (x : ArrSt) : (c.setArr a x).acks = c.acks := rfl
@[simp] theorem Cluster.setArr_xlat (a : Nat) (x : ArrSt) : (c.setArr a x).xlat = c.xlat := rfl
@[simp] theorem Cluster.setArr_syncIn (a : Nat) (x : ArrSt) : (c.setArr a x).syncIn = c.syncIn := rfl
@[simp] theorem Cluster.setArr_rdesc (a : Nat) (x : ArrSt) : (c.setArr a x).rdesc = c.rdesc := rfl
@[simp] theorem Cluster.setArr_prod (a : Nat) (x : ArrSt) : (c.setArr a x).prod = c.prod := rfl
@[simp] theorem Cluster.setArr_cons (a : Nat) (x : ArrSt) : (c.setArr a x).cons = c.cons := rfl
@[simp] theorem Cluster.setArr_consOld (a : Nat) (x : ArrSt) : (c.setArr a x).consOld = c.consOld := rfl
@[simp] theorem Cluster.setArr_pads (a : Nat) (x : ArrSt) : (c.setArr a x).pads = c.pads := rfl
@[simp] theorem Cluster.setArr_sdesc0 (a : Nat) (x : ArrSt) : (c.setArr a x).sdesc0 = c.sdesc0 := rfl
@[simp] theorem Cluster.setArr_sdesc1 (a : Nat) (x : ArrSt) : (c.setArr a x).sdesc1 = c.sdesc1 := rfl
@[simp] theorem Cluster.setArr_scount (a : Nat) (x : ArrSt) : (c.setArr a x).scount = c.scount := rfl
@[simp] theorem Cluster.setArr_sround (a : Nat) (x : ArrSt) : (c.setArr a x).sround = c.sround := rfl
@[simp] theorem Cluster.setArr_sacc (a : Nat) (x : ArrSt) : (c.setArr a x).sacc = c.sacc := rfl
@[simp] theorem Cluster.setArr_sorRes (a : Nat) (x : ArrSt) : (c.setArr a x).sorRes = c.sorRes := rfl
@[simp] theorem Cluster.setArr_resets (a : Nat) (x : ArrSt) : (c.setArr a x).resets = c.resets := rfl
@[simp] theorem Cluster.setArr_store (a : Nat) (x : ArrSt) : (c.setArr a x).store = c.store := rfl
@[simp] theorem Cluster.setArr_nextOrd (a : Nat) (x : ArrSt) : (c.setArr a x).nextOrd = c.nextOrd := rfl
@[simp] theorem Cluster.setArr_moss (a : Nat) (x : ArrSt) : (c.setArr a x).moss = c.moss := rfl
@[simp] theorem Cluster.setArr_flt (a : Nat) (x : ArrSt) : (c.setArr a x).flt = c.flt := rfl
@[simp] theorem Cluster.setArr_reg (a : Nat) (x : ArrSt) : (c.setArr a x).reg = c.reg := rfl
@[simp] theorem Cluster.setArr_dict (a : Nat) (x : ArrSt) : (c.setArr a x).dict = c.dict := rfl
@[simp] theorem Cluster.setArr_tabErr (a : Nat) (x : ArrSt) : (c.setArr a x).tabErr = c.tabErr := rfl
@[simp] theorem Cluster.setArr_vgath (a : Nat) (x : ArrSt) : (c.setArr a x).vgath = c.vgath := rfl
@[simp] theorem Cluster.setArr_freeCtr (a : Nat) (x : ArrSt) : (c.setArr a x).freeCtr = c.freeCtr := rfl

/-! setChan -/
@[simp] theorem Cluster.setChan_powered (k : Nat) (x : Chan) : (c.setChan k x).powered = c.powered := rfl
@[simp] theorem Cluster.setChan_stage (k : Nat) (x : Chan) : (c.setChan k x).stage = c.stage := rfl
@[simp] theorem Cluster.setChan_straps (k : Nat) (x : Chan) : (c.setChan k x).straps = c.straps := rfl
@[simp] theorem Cluster.setChan_stepping (k : Nat) (x : Chan) : (c.setChan k x).stepping = c.stepping := rfl
@[simp] theorem Cluster.setChan_clk (k : Nat) (x : Chan) : (c.setChan k x).clk = c.clk := rfl
@[simp] theorem Cluster.setChan_tb (k : Nat) (x : Chan) : (c.setChan k x).tb = c.tb := rfl
@[simp] theorem Cluster.setChan_tim (k : Nat) (x : Chan) : (c.setChan k x).tim = c.tim := rfl
@[simp] theorem Cluster.setChan_queues (k : Nat) (x : Chan) : (c.setChan k x).queues = c.queues := rfl
@[simp] theorem Cluster.setChan_arrs (k : Nat) (x : Chan) : (c.setChan k x).arrs = c.arrs := rfl
@[simp] theorem Cluster.setChan_refs (k : Nat) (x : Chan) : (c.setChan k x).refs = c.refs := rfl
@[simp] theorem Cluster.setChan_movs (k : Nat) (x : Chan) : (c.setChan k x).movs = c.movs := rfl
@[simp] theorem Cluster.setChan_vecs (k : Nat) (x : Chan) : (c.setChan k x).vecs = c.vecs := rfl
@[simp] theorem Cluster.setChan_feeds (k : Nat) (x : Chan) : (c.setChan k x).feeds = c.feeds := rfl
@[simp] theorem Cluster.setChan_posts (k : Nat) (x : Chan) : (c.setChan k x).posts = c.posts := rfl
@[simp] theorem Cluster.setChan_uses (k : Nat) (x : Chan) : (c.setChan k x).uses = c.uses := rfl
@[simp] theorem Cluster.setChan_cores (k : Nat) (x : Chan) : (c.setChan k x).cores = c.cores := rfl
@[simp] theorem Cluster.setChan_ctxs (k : Nat) (x : Chan) : (c.setChan k x).ctxs = c.ctxs := rfl
@[simp] theorem Cluster.setChan_run (k : Nat) (x : Chan) : (c.setChan k x).run = c.run := rfl
@[simp] theorem Cluster.setChan_freeAt (k : Nat) (x : Chan) : (c.setChan k x).freeAt = c.freeAt := rfl
@[simp] theorem Cluster.setChan_susp (k : Nat) (x : Chan) : (c.setChan k x).susp = c.susp := rfl
@[simp] theorem Cluster.setChan_reqs (k : Nat) (x : Chan) : (c.setChan k x).reqs = c.reqs := rfl
@[simp] theorem Cluster.setChan_rerun (k : Nat) (x : Chan) : (c.setChan k x).rerun = c.rerun := rfl
@[simp] theorem Cluster.setChan_linings (k : Nat) (x : Chan) : (c.setChan k x).linings = c.linings := rfl
@[simp] theorem Cluster.setChan_imgs (k : Nat) (x : Chan) : (c.setChan k x).imgs = c.imgs := rfl
@[simp] theorem Cluster.setChan_intake (k : Nat) (x : Chan) : (c.setChan k x).intake = c.intake := rfl
@[simp] theorem Cluster.setChan_spd (k : Nat) (x : Chan) : (c.setChan k x).spd = c.spd := rfl
@[simp] theorem Cluster.setChan_mem (k : Nat) (x : Chan) : (c.setChan k x).mem = c.mem := rfl
@[simp] theorem Cluster.setChan_memErr (k : Nat) (x : Chan) : (c.setChan k x).memErr = c.memErr := rfl
@[simp] theorem Cluster.setChan_imem (k : Nat) (x : Chan) : (c.setChan k x).imem = c.imem := rfl
@[simp] theorem Cluster.setChan_imemErr (k : Nat) (x : Chan) : (c.setChan k x).imemErr = c.imemErr := rfl
@[simp] theorem Cluster.setChan_dmem (k : Nat) (x : Chan) : (c.setChan k x).dmem = c.dmem := rfl
@[simp] theorem Cluster.setChan_dmemErr (k : Nat) (x : Chan) : (c.setChan k x).dmemErr = c.dmemErr := rfl
@[simp] theorem Cluster.setChan_sbuf (k : Nat) (x : Chan) : (c.setChan k x).sbuf = c.sbuf := rfl
@[simp] theorem Cluster.setChan_acc (k : Nat) (x : Chan) : (c.setChan k x).acc = c.acc := rfl
@[simp] theorem Cluster.setChan_side (k : Nat) (x : Chan) : (c.setChan k x).side = c.side := rfl
@[simp] theorem Cluster.setChan_chans (k : Nat) (x : Chan) : (c.setChan k x).chans = vset c.chans k x := rfl
@[simp] theorem Cluster.setChan_lanes (k : Nat) (x : Chan) : (c.setChan k x).lanes = c.lanes := rfl
@[simp] theorem Cluster.setChan_fifos (k : Nat) (x : Chan) : (c.setChan k x).fifos = c.fifos := rfl
@[simp] theorem Cluster.setChan_turned (k : Nat) (x : Chan) : (c.setChan k x).turned = c.turned := rfl
@[simp] theorem Cluster.setChan_winOld (k : Nat) (x : Chan) : (c.setChan k x).winOld = c.winOld := rfl
@[simp] theorem Cluster.setChan_fabOut (k : Nat) (x : Chan) : (c.setChan k x).fabOut = c.fabOut := rfl
@[simp] theorem Cluster.setChan_waiters (k : Nat) (x : Chan) : (c.setChan k x).waiters = c.waiters := rfl
@[simp] theorem Cluster.setChan_syncOps (k : Nat) (x : Chan) : (c.setChan k x).syncOps = c.syncOps := rfl
@[simp] theorem Cluster.setChan_acks (k : Nat) (x : Chan) : (c.setChan k x).acks = c.acks := rfl
@[simp] theorem Cluster.setChan_xlat (k : Nat) (x : Chan) : (c.setChan k x).xlat = c.xlat := rfl
@[simp] theorem Cluster.setChan_syncIn (k : Nat) (x : Chan) : (c.setChan k x).syncIn = c.syncIn := rfl
@[simp] theorem Cluster.setChan_rdesc (k : Nat) (x : Chan) : (c.setChan k x).rdesc = c.rdesc := rfl
@[simp] theorem Cluster.setChan_prod (k : Nat) (x : Chan) : (c.setChan k x).prod = c.prod := rfl
@[simp] theorem Cluster.setChan_cons (k : Nat) (x : Chan) : (c.setChan k x).cons = c.cons := rfl
@[simp] theorem Cluster.setChan_consOld (k : Nat) (x : Chan) : (c.setChan k x).consOld = c.consOld := rfl
@[simp] theorem Cluster.setChan_pads (k : Nat) (x : Chan) : (c.setChan k x).pads = c.pads := rfl
@[simp] theorem Cluster.setChan_sdesc0 (k : Nat) (x : Chan) : (c.setChan k x).sdesc0 = c.sdesc0 := rfl
@[simp] theorem Cluster.setChan_sdesc1 (k : Nat) (x : Chan) : (c.setChan k x).sdesc1 = c.sdesc1 := rfl
@[simp] theorem Cluster.setChan_scount (k : Nat) (x : Chan) : (c.setChan k x).scount = c.scount := rfl
@[simp] theorem Cluster.setChan_sround (k : Nat) (x : Chan) : (c.setChan k x).sround = c.sround := rfl
@[simp] theorem Cluster.setChan_sacc (k : Nat) (x : Chan) : (c.setChan k x).sacc = c.sacc := rfl
@[simp] theorem Cluster.setChan_sorRes (k : Nat) (x : Chan) : (c.setChan k x).sorRes = c.sorRes := rfl
@[simp] theorem Cluster.setChan_resets (k : Nat) (x : Chan) : (c.setChan k x).resets = c.resets := rfl
@[simp] theorem Cluster.setChan_store (k : Nat) (x : Chan) : (c.setChan k x).store = c.store := rfl
@[simp] theorem Cluster.setChan_nextOrd (k : Nat) (x : Chan) : (c.setChan k x).nextOrd = c.nextOrd := rfl
@[simp] theorem Cluster.setChan_moss (k : Nat) (x : Chan) : (c.setChan k x).moss = c.moss := rfl
@[simp] theorem Cluster.setChan_flt (k : Nat) (x : Chan) : (c.setChan k x).flt = c.flt := rfl
@[simp] theorem Cluster.setChan_reg (k : Nat) (x : Chan) : (c.setChan k x).reg = c.reg := rfl
@[simp] theorem Cluster.setChan_dict (k : Nat) (x : Chan) : (c.setChan k x).dict = c.dict := rfl
@[simp] theorem Cluster.setChan_tabErr (k : Nat) (x : Chan) : (c.setChan k x).tabErr = c.tabErr := rfl
@[simp] theorem Cluster.setChan_vgath (k : Nat) (x : Chan) : (c.setChan k x).vgath = c.vgath := rfl
@[simp] theorem Cluster.setChan_freeCtr (k : Nat) (x : Chan) : (c.setChan k x).freeCtr = c.freeCtr := rfl

/-! setLane -/
@[simp] theorem Cluster.setLane_powered (i : Nat) (x : Lane) : (c.setLane i x).powered = c.powered := rfl
@[simp] theorem Cluster.setLane_stage (i : Nat) (x : Lane) : (c.setLane i x).stage = c.stage := rfl
@[simp] theorem Cluster.setLane_straps (i : Nat) (x : Lane) : (c.setLane i x).straps = c.straps := rfl
@[simp] theorem Cluster.setLane_stepping (i : Nat) (x : Lane) : (c.setLane i x).stepping = c.stepping := rfl
@[simp] theorem Cluster.setLane_clk (i : Nat) (x : Lane) : (c.setLane i x).clk = c.clk := rfl
@[simp] theorem Cluster.setLane_tb (i : Nat) (x : Lane) : (c.setLane i x).tb = c.tb := rfl
@[simp] theorem Cluster.setLane_tim (i : Nat) (x : Lane) : (c.setLane i x).tim = c.tim := rfl
@[simp] theorem Cluster.setLane_queues (i : Nat) (x : Lane) : (c.setLane i x).queues = c.queues := rfl
@[simp] theorem Cluster.setLane_arrs (i : Nat) (x : Lane) : (c.setLane i x).arrs = c.arrs := rfl
@[simp] theorem Cluster.setLane_refs (i : Nat) (x : Lane) : (c.setLane i x).refs = c.refs := rfl
@[simp] theorem Cluster.setLane_movs (i : Nat) (x : Lane) : (c.setLane i x).movs = c.movs := rfl
@[simp] theorem Cluster.setLane_vecs (i : Nat) (x : Lane) : (c.setLane i x).vecs = c.vecs := rfl
@[simp] theorem Cluster.setLane_feeds (i : Nat) (x : Lane) : (c.setLane i x).feeds = c.feeds := rfl
@[simp] theorem Cluster.setLane_posts (i : Nat) (x : Lane) : (c.setLane i x).posts = c.posts := rfl
@[simp] theorem Cluster.setLane_uses (i : Nat) (x : Lane) : (c.setLane i x).uses = c.uses := rfl
@[simp] theorem Cluster.setLane_cores (i : Nat) (x : Lane) : (c.setLane i x).cores = c.cores := rfl
@[simp] theorem Cluster.setLane_ctxs (i : Nat) (x : Lane) : (c.setLane i x).ctxs = c.ctxs := rfl
@[simp] theorem Cluster.setLane_run (i : Nat) (x : Lane) : (c.setLane i x).run = c.run := rfl
@[simp] theorem Cluster.setLane_freeAt (i : Nat) (x : Lane) : (c.setLane i x).freeAt = c.freeAt := rfl
@[simp] theorem Cluster.setLane_susp (i : Nat) (x : Lane) : (c.setLane i x).susp = c.susp := rfl
@[simp] theorem Cluster.setLane_reqs (i : Nat) (x : Lane) : (c.setLane i x).reqs = c.reqs := rfl
@[simp] theorem Cluster.setLane_rerun (i : Nat) (x : Lane) : (c.setLane i x).rerun = c.rerun := rfl
@[simp] theorem Cluster.setLane_linings (i : Nat) (x : Lane) : (c.setLane i x).linings = c.linings := rfl
@[simp] theorem Cluster.setLane_imgs (i : Nat) (x : Lane) : (c.setLane i x).imgs = c.imgs := rfl
@[simp] theorem Cluster.setLane_intake (i : Nat) (x : Lane) : (c.setLane i x).intake = c.intake := rfl
@[simp] theorem Cluster.setLane_spd (i : Nat) (x : Lane) : (c.setLane i x).spd = c.spd := rfl
@[simp] theorem Cluster.setLane_mem (i : Nat) (x : Lane) : (c.setLane i x).mem = c.mem := rfl
@[simp] theorem Cluster.setLane_memErr (i : Nat) (x : Lane) : (c.setLane i x).memErr = c.memErr := rfl
@[simp] theorem Cluster.setLane_imem (i : Nat) (x : Lane) : (c.setLane i x).imem = c.imem := rfl
@[simp] theorem Cluster.setLane_imemErr (i : Nat) (x : Lane) : (c.setLane i x).imemErr = c.imemErr := rfl
@[simp] theorem Cluster.setLane_dmem (i : Nat) (x : Lane) : (c.setLane i x).dmem = c.dmem := rfl
@[simp] theorem Cluster.setLane_dmemErr (i : Nat) (x : Lane) : (c.setLane i x).dmemErr = c.dmemErr := rfl
@[simp] theorem Cluster.setLane_sbuf (i : Nat) (x : Lane) : (c.setLane i x).sbuf = c.sbuf := rfl
@[simp] theorem Cluster.setLane_acc (i : Nat) (x : Lane) : (c.setLane i x).acc = c.acc := rfl
@[simp] theorem Cluster.setLane_side (i : Nat) (x : Lane) : (c.setLane i x).side = c.side := rfl
@[simp] theorem Cluster.setLane_chans (i : Nat) (x : Lane) : (c.setLane i x).chans = c.chans := rfl
@[simp] theorem Cluster.setLane_lanes (i : Nat) (x : Lane) : (c.setLane i x).lanes = vset c.lanes i x := rfl
@[simp] theorem Cluster.setLane_fifos (i : Nat) (x : Lane) : (c.setLane i x).fifos = c.fifos := rfl
@[simp] theorem Cluster.setLane_turned (i : Nat) (x : Lane) : (c.setLane i x).turned = c.turned := rfl
@[simp] theorem Cluster.setLane_winOld (i : Nat) (x : Lane) : (c.setLane i x).winOld = c.winOld := rfl
@[simp] theorem Cluster.setLane_fabOut (i : Nat) (x : Lane) : (c.setLane i x).fabOut = c.fabOut := rfl
@[simp] theorem Cluster.setLane_waiters (i : Nat) (x : Lane) : (c.setLane i x).waiters = c.waiters := rfl
@[simp] theorem Cluster.setLane_syncOps (i : Nat) (x : Lane) : (c.setLane i x).syncOps = c.syncOps := rfl
@[simp] theorem Cluster.setLane_acks (i : Nat) (x : Lane) : (c.setLane i x).acks = c.acks := rfl
@[simp] theorem Cluster.setLane_xlat (i : Nat) (x : Lane) : (c.setLane i x).xlat = c.xlat := rfl
@[simp] theorem Cluster.setLane_syncIn (i : Nat) (x : Lane) : (c.setLane i x).syncIn = c.syncIn := rfl
@[simp] theorem Cluster.setLane_rdesc (i : Nat) (x : Lane) : (c.setLane i x).rdesc = c.rdesc := rfl
@[simp] theorem Cluster.setLane_prod (i : Nat) (x : Lane) : (c.setLane i x).prod = c.prod := rfl
@[simp] theorem Cluster.setLane_cons (i : Nat) (x : Lane) : (c.setLane i x).cons = c.cons := rfl
@[simp] theorem Cluster.setLane_consOld (i : Nat) (x : Lane) : (c.setLane i x).consOld = c.consOld := rfl
@[simp] theorem Cluster.setLane_pads (i : Nat) (x : Lane) : (c.setLane i x).pads = c.pads := rfl
@[simp] theorem Cluster.setLane_sdesc0 (i : Nat) (x : Lane) : (c.setLane i x).sdesc0 = c.sdesc0 := rfl
@[simp] theorem Cluster.setLane_sdesc1 (i : Nat) (x : Lane) : (c.setLane i x).sdesc1 = c.sdesc1 := rfl
@[simp] theorem Cluster.setLane_scount (i : Nat) (x : Lane) : (c.setLane i x).scount = c.scount := rfl
@[simp] theorem Cluster.setLane_sround (i : Nat) (x : Lane) : (c.setLane i x).sround = c.sround := rfl
@[simp] theorem Cluster.setLane_sacc (i : Nat) (x : Lane) : (c.setLane i x).sacc = c.sacc := rfl
@[simp] theorem Cluster.setLane_sorRes (i : Nat) (x : Lane) : (c.setLane i x).sorRes = c.sorRes := rfl
@[simp] theorem Cluster.setLane_resets (i : Nat) (x : Lane) : (c.setLane i x).resets = c.resets := rfl
@[simp] theorem Cluster.setLane_store (i : Nat) (x : Lane) : (c.setLane i x).store = c.store := rfl
@[simp] theorem Cluster.setLane_nextOrd (i : Nat) (x : Lane) : (c.setLane i x).nextOrd = c.nextOrd := rfl
@[simp] theorem Cluster.setLane_moss (i : Nat) (x : Lane) : (c.setLane i x).moss = c.moss := rfl
@[simp] theorem Cluster.setLane_flt (i : Nat) (x : Lane) : (c.setLane i x).flt = c.flt := rfl
@[simp] theorem Cluster.setLane_reg (i : Nat) (x : Lane) : (c.setLane i x).reg = c.reg := rfl
@[simp] theorem Cluster.setLane_dict (i : Nat) (x : Lane) : (c.setLane i x).dict = c.dict := rfl
@[simp] theorem Cluster.setLane_tabErr (i : Nat) (x : Lane) : (c.setLane i x).tabErr = c.tabErr := rfl
@[simp] theorem Cluster.setLane_vgath (i : Nat) (x : Lane) : (c.setLane i x).vgath = c.vgath := rfl
@[simp] theorem Cluster.setLane_freeCtr (i : Nat) (x : Lane) : (c.setLane i x).freeCtr = c.freeCtr := rfl

/-! setReg -/
@[simp] theorem Cluster.setReg_powered (a : Nat) (v : W64) : (c.setReg a v).powered = c.powered := rfl
@[simp] theorem Cluster.setReg_stage (a : Nat) (v : W64) : (c.setReg a v).stage = c.stage := rfl
@[simp] theorem Cluster.setReg_straps (a : Nat) (v : W64) : (c.setReg a v).straps = c.straps := rfl
@[simp] theorem Cluster.setReg_stepping (a : Nat) (v : W64) : (c.setReg a v).stepping = c.stepping := rfl
@[simp] theorem Cluster.setReg_clk (a : Nat) (v : W64) : (c.setReg a v).clk = c.clk := rfl
@[simp] theorem Cluster.setReg_tb (a : Nat) (v : W64) : (c.setReg a v).tb = c.tb := rfl
@[simp] theorem Cluster.setReg_tim (a : Nat) (v : W64) : (c.setReg a v).tim = c.tim := rfl
@[simp] theorem Cluster.setReg_queues (a : Nat) (v : W64) : (c.setReg a v).queues = c.queues := rfl
@[simp] theorem Cluster.setReg_arrs (a : Nat) (v : W64) : (c.setReg a v).arrs = c.arrs := rfl
@[simp] theorem Cluster.setReg_refs (a : Nat) (v : W64) : (c.setReg a v).refs = c.refs := rfl
@[simp] theorem Cluster.setReg_movs (a : Nat) (v : W64) : (c.setReg a v).movs = c.movs := rfl
@[simp] theorem Cluster.setReg_vecs (a : Nat) (v : W64) : (c.setReg a v).vecs = c.vecs := rfl
@[simp] theorem Cluster.setReg_feeds (a : Nat) (v : W64) : (c.setReg a v).feeds = c.feeds := rfl
@[simp] theorem Cluster.setReg_posts (a : Nat) (v : W64) : (c.setReg a v).posts = c.posts := rfl
@[simp] theorem Cluster.setReg_uses (a : Nat) (v : W64) : (c.setReg a v).uses = c.uses := rfl
@[simp] theorem Cluster.setReg_cores (a : Nat) (v : W64) : (c.setReg a v).cores = c.cores := rfl
@[simp] theorem Cluster.setReg_ctxs (a : Nat) (v : W64) : (c.setReg a v).ctxs = c.ctxs := rfl
@[simp] theorem Cluster.setReg_run (a : Nat) (v : W64) : (c.setReg a v).run = c.run := rfl
@[simp] theorem Cluster.setReg_freeAt (a : Nat) (v : W64) : (c.setReg a v).freeAt = c.freeAt := rfl
@[simp] theorem Cluster.setReg_susp (a : Nat) (v : W64) : (c.setReg a v).susp = c.susp := rfl
@[simp] theorem Cluster.setReg_reqs (a : Nat) (v : W64) : (c.setReg a v).reqs = c.reqs := rfl
@[simp] theorem Cluster.setReg_rerun (a : Nat) (v : W64) : (c.setReg a v).rerun = c.rerun := rfl
@[simp] theorem Cluster.setReg_linings (a : Nat) (v : W64) : (c.setReg a v).linings = c.linings := rfl
@[simp] theorem Cluster.setReg_imgs (a : Nat) (v : W64) : (c.setReg a v).imgs = c.imgs := rfl
@[simp] theorem Cluster.setReg_intake (a : Nat) (v : W64) : (c.setReg a v).intake = c.intake := rfl
@[simp] theorem Cluster.setReg_spd (a : Nat) (v : W64) : (c.setReg a v).spd = c.spd := rfl
@[simp] theorem Cluster.setReg_mem (a : Nat) (v : W64) : (c.setReg a v).mem = c.mem := rfl
@[simp] theorem Cluster.setReg_memErr (a : Nat) (v : W64) : (c.setReg a v).memErr = c.memErr := rfl
@[simp] theorem Cluster.setReg_imem (a : Nat) (v : W64) : (c.setReg a v).imem = c.imem := rfl
@[simp] theorem Cluster.setReg_imemErr (a : Nat) (v : W64) : (c.setReg a v).imemErr = c.imemErr := rfl
@[simp] theorem Cluster.setReg_dmem (a : Nat) (v : W64) : (c.setReg a v).dmem = c.dmem := rfl
@[simp] theorem Cluster.setReg_dmemErr (a : Nat) (v : W64) : (c.setReg a v).dmemErr = c.dmemErr := rfl
@[simp] theorem Cluster.setReg_sbuf (a : Nat) (v : W64) : (c.setReg a v).sbuf = c.sbuf := rfl
@[simp] theorem Cluster.setReg_acc (a : Nat) (v : W64) : (c.setReg a v).acc = c.acc := rfl
@[simp] theorem Cluster.setReg_side (a : Nat) (v : W64) : (c.setReg a v).side = c.side := rfl
@[simp] theorem Cluster.setReg_chans (a : Nat) (v : W64) : (c.setReg a v).chans = c.chans := rfl
@[simp] theorem Cluster.setReg_lanes (a : Nat) (v : W64) : (c.setReg a v).lanes = c.lanes := rfl
@[simp] theorem Cluster.setReg_fifos (a : Nat) (v : W64) : (c.setReg a v).fifos = c.fifos := rfl
@[simp] theorem Cluster.setReg_turned (a : Nat) (v : W64) : (c.setReg a v).turned = c.turned := rfl
@[simp] theorem Cluster.setReg_winOld (a : Nat) (v : W64) : (c.setReg a v).winOld = c.winOld := rfl
@[simp] theorem Cluster.setReg_fabOut (a : Nat) (v : W64) : (c.setReg a v).fabOut = c.fabOut := rfl
@[simp] theorem Cluster.setReg_waiters (a : Nat) (v : W64) : (c.setReg a v).waiters = c.waiters := rfl
@[simp] theorem Cluster.setReg_syncOps (a : Nat) (v : W64) : (c.setReg a v).syncOps = c.syncOps := rfl
@[simp] theorem Cluster.setReg_acks (a : Nat) (v : W64) : (c.setReg a v).acks = c.acks := rfl
@[simp] theorem Cluster.setReg_xlat (a : Nat) (v : W64) : (c.setReg a v).xlat = c.xlat := rfl
@[simp] theorem Cluster.setReg_syncIn (a : Nat) (v : W64) : (c.setReg a v).syncIn = c.syncIn := rfl
@[simp] theorem Cluster.setReg_rdesc (a : Nat) (v : W64) : (c.setReg a v).rdesc = c.rdesc := rfl
@[simp] theorem Cluster.setReg_prod (a : Nat) (v : W64) : (c.setReg a v).prod = c.prod := rfl
@[simp] theorem Cluster.setReg_cons (a : Nat) (v : W64) : (c.setReg a v).cons = c.cons := rfl
@[simp] theorem Cluster.setReg_consOld (a : Nat) (v : W64) : (c.setReg a v).consOld = c.consOld := rfl
@[simp] theorem Cluster.setReg_pads (a : Nat) (v : W64) : (c.setReg a v).pads = c.pads := rfl
@[simp] theorem Cluster.setReg_sdesc0 (a : Nat) (v : W64) : (c.setReg a v).sdesc0 = c.sdesc0 := rfl
@[simp] theorem Cluster.setReg_sdesc1 (a : Nat) (v : W64) : (c.setReg a v).sdesc1 = c.sdesc1 := rfl
@[simp] theorem Cluster.setReg_scount (a : Nat) (v : W64) : (c.setReg a v).scount = c.scount := rfl
@[simp] theorem Cluster.setReg_sround (a : Nat) (v : W64) : (c.setReg a v).sround = c.sround := rfl
@[simp] theorem Cluster.setReg_sacc (a : Nat) (v : W64) : (c.setReg a v).sacc = c.sacc := rfl
@[simp] theorem Cluster.setReg_sorRes (a : Nat) (v : W64) : (c.setReg a v).sorRes = c.sorRes := rfl
@[simp] theorem Cluster.setReg_resets (a : Nat) (v : W64) : (c.setReg a v).resets = c.resets := rfl
@[simp] theorem Cluster.setReg_store (a : Nat) (v : W64) : (c.setReg a v).store = c.store := rfl
@[simp] theorem Cluster.setReg_nextOrd (a : Nat) (v : W64) : (c.setReg a v).nextOrd = c.nextOrd := rfl
@[simp] theorem Cluster.setReg_moss (a : Nat) (v : W64) : (c.setReg a v).moss = c.moss := rfl
@[simp] theorem Cluster.setReg_flt (a : Nat) (v : W64) : (c.setReg a v).flt = c.flt := rfl
@[simp] theorem Cluster.setReg_reg (a : Nat) (v : W64) : (c.setReg a v).reg = Sparse.set c.reg a v := rfl
@[simp] theorem Cluster.setReg_dict (a : Nat) (v : W64) : (c.setReg a v).dict = c.dict := rfl
@[simp] theorem Cluster.setReg_tabErr (a : Nat) (v : W64) : (c.setReg a v).tabErr = c.tabErr := rfl
@[simp] theorem Cluster.setReg_vgath (a : Nat) (v : W64) : (c.setReg a v).vgath = c.vgath := rfl
@[simp] theorem Cluster.setReg_freeCtr (a : Nat) (v : W64) : (c.setReg a v).freeCtr = c.freeCtr := rfl

/-! setDict -/
@[simp] theorem Cluster.setDict_powered (i sub v : Nat) : (c.setDict i sub v).powered = c.powered := rfl
@[simp] theorem Cluster.setDict_stage (i sub v : Nat) : (c.setDict i sub v).stage = c.stage := rfl
@[simp] theorem Cluster.setDict_straps (i sub v : Nat) : (c.setDict i sub v).straps = c.straps := rfl
@[simp] theorem Cluster.setDict_stepping (i sub v : Nat) : (c.setDict i sub v).stepping = c.stepping := rfl
@[simp] theorem Cluster.setDict_clk (i sub v : Nat) : (c.setDict i sub v).clk = c.clk := rfl
@[simp] theorem Cluster.setDict_tb (i sub v : Nat) : (c.setDict i sub v).tb = c.tb := rfl
@[simp] theorem Cluster.setDict_tim (i sub v : Nat) : (c.setDict i sub v).tim = c.tim := rfl
@[simp] theorem Cluster.setDict_queues (i sub v : Nat) : (c.setDict i sub v).queues = c.queues := rfl
@[simp] theorem Cluster.setDict_arrs (i sub v : Nat) : (c.setDict i sub v).arrs = c.arrs := rfl
@[simp] theorem Cluster.setDict_refs (i sub v : Nat) : (c.setDict i sub v).refs = c.refs := rfl
@[simp] theorem Cluster.setDict_movs (i sub v : Nat) : (c.setDict i sub v).movs = c.movs := rfl
@[simp] theorem Cluster.setDict_vecs (i sub v : Nat) : (c.setDict i sub v).vecs = c.vecs := rfl
@[simp] theorem Cluster.setDict_feeds (i sub v : Nat) : (c.setDict i sub v).feeds = c.feeds := rfl
@[simp] theorem Cluster.setDict_posts (i sub v : Nat) : (c.setDict i sub v).posts = c.posts := rfl
@[simp] theorem Cluster.setDict_uses (i sub v : Nat) : (c.setDict i sub v).uses = c.uses := rfl
@[simp] theorem Cluster.setDict_cores (i sub v : Nat) : (c.setDict i sub v).cores = c.cores := rfl
@[simp] theorem Cluster.setDict_ctxs (i sub v : Nat) : (c.setDict i sub v).ctxs = c.ctxs := rfl
@[simp] theorem Cluster.setDict_run (i sub v : Nat) : (c.setDict i sub v).run = c.run := rfl
@[simp] theorem Cluster.setDict_freeAt (i sub v : Nat) : (c.setDict i sub v).freeAt = c.freeAt := rfl
@[simp] theorem Cluster.setDict_susp (i sub v : Nat) : (c.setDict i sub v).susp = c.susp := rfl
@[simp] theorem Cluster.setDict_reqs (i sub v : Nat) : (c.setDict i sub v).reqs = c.reqs := rfl
@[simp] theorem Cluster.setDict_rerun (i sub v : Nat) : (c.setDict i sub v).rerun = c.rerun := rfl
@[simp] theorem Cluster.setDict_linings (i sub v : Nat) : (c.setDict i sub v).linings = c.linings := rfl
@[simp] theorem Cluster.setDict_imgs (i sub v : Nat) : (c.setDict i sub v).imgs = c.imgs := rfl
@[simp] theorem Cluster.setDict_intake (i sub v : Nat) : (c.setDict i sub v).intake = c.intake := rfl
@[simp] theorem Cluster.setDict_spd (i sub v : Nat) : (c.setDict i sub v).spd = c.spd := rfl
@[simp] theorem Cluster.setDict_mem (i sub v : Nat) : (c.setDict i sub v).mem = c.mem := rfl
@[simp] theorem Cluster.setDict_memErr (i sub v : Nat) : (c.setDict i sub v).memErr = c.memErr := rfl
@[simp] theorem Cluster.setDict_imem (i sub v : Nat) : (c.setDict i sub v).imem = c.imem := rfl
@[simp] theorem Cluster.setDict_imemErr (i sub v : Nat) : (c.setDict i sub v).imemErr = c.imemErr := rfl
@[simp] theorem Cluster.setDict_dmem (i sub v : Nat) : (c.setDict i sub v).dmem = c.dmem := rfl
@[simp] theorem Cluster.setDict_dmemErr (i sub v : Nat) : (c.setDict i sub v).dmemErr = c.dmemErr := rfl
@[simp] theorem Cluster.setDict_sbuf (i sub v : Nat) : (c.setDict i sub v).sbuf = c.sbuf := rfl
@[simp] theorem Cluster.setDict_acc (i sub v : Nat) : (c.setDict i sub v).acc = c.acc := rfl
@[simp] theorem Cluster.setDict_side (i sub v : Nat) : (c.setDict i sub v).side = c.side := rfl
@[simp] theorem Cluster.setDict_chans (i sub v : Nat) : (c.setDict i sub v).chans = c.chans := rfl
@[simp] theorem Cluster.setDict_lanes (i sub v : Nat) : (c.setDict i sub v).lanes = c.lanes := rfl
@[simp] theorem Cluster.setDict_fifos (i sub v : Nat) : (c.setDict i sub v).fifos = c.fifos := rfl
@[simp] theorem Cluster.setDict_turned (i sub v : Nat) : (c.setDict i sub v).turned = c.turned := rfl
@[simp] theorem Cluster.setDict_winOld (i sub v : Nat) : (c.setDict i sub v).winOld = c.winOld := rfl
@[simp] theorem Cluster.setDict_fabOut (i sub v : Nat) : (c.setDict i sub v).fabOut = c.fabOut := rfl
@[simp] theorem Cluster.setDict_waiters (i sub v : Nat) : (c.setDict i sub v).waiters = c.waiters := rfl
@[simp] theorem Cluster.setDict_syncOps (i sub v : Nat) : (c.setDict i sub v).syncOps = c.syncOps := rfl
@[simp] theorem Cluster.setDict_acks (i sub v : Nat) : (c.setDict i sub v).acks = c.acks := rfl
@[simp] theorem Cluster.setDict_xlat (i sub v : Nat) : (c.setDict i sub v).xlat = c.xlat := rfl
@[simp] theorem Cluster.setDict_syncIn (i sub v : Nat) : (c.setDict i sub v).syncIn = c.syncIn := rfl
@[simp] theorem Cluster.setDict_rdesc (i sub v : Nat) : (c.setDict i sub v).rdesc = c.rdesc := rfl
@[simp] theorem Cluster.setDict_prod (i sub v : Nat) : (c.setDict i sub v).prod = c.prod := rfl
@[simp] theorem Cluster.setDict_cons (i sub v : Nat) : (c.setDict i sub v).cons = c.cons := rfl
@[simp] theorem Cluster.setDict_consOld (i sub v : Nat) : (c.setDict i sub v).consOld = c.consOld := rfl
@[simp] theorem Cluster.setDict_pads (i sub v : Nat) : (c.setDict i sub v).pads = c.pads := rfl
@[simp] theorem Cluster.setDict_sdesc0 (i sub v : Nat) : (c.setDict i sub v).sdesc0 = c.sdesc0 := rfl
@[simp] theorem Cluster.setDict_sdesc1 (i sub v : Nat) : (c.setDict i sub v).sdesc1 = c.sdesc1 := rfl
@[simp] theorem Cluster.setDict_scount (i sub v : Nat) : (c.setDict i sub v).scount = c.scount := rfl
@[simp] theorem Cluster.setDict_sround (i sub v : Nat) : (c.setDict i sub v).sround = c.sround := rfl
@[simp] theorem Cluster.setDict_sacc (i sub v : Nat) : (c.setDict i sub v).sacc = c.sacc := rfl
@[simp] theorem Cluster.setDict_sorRes (i sub v : Nat) : (c.setDict i sub v).sorRes = c.sorRes := rfl
@[simp] theorem Cluster.setDict_resets (i sub v : Nat) : (c.setDict i sub v).resets = c.resets := rfl
@[simp] theorem Cluster.setDict_store (i sub v : Nat) : (c.setDict i sub v).store = c.store := rfl
@[simp] theorem Cluster.setDict_nextOrd (i sub v : Nat) : (c.setDict i sub v).nextOrd = c.nextOrd := rfl
@[simp] theorem Cluster.setDict_moss (i sub v : Nat) : (c.setDict i sub v).moss = c.moss := rfl
@[simp] theorem Cluster.setDict_flt (i sub v : Nat) : (c.setDict i sub v).flt = c.flt := rfl
@[simp] theorem Cluster.setDict_reg (i sub v : Nat) : (c.setDict i sub v).reg = c.reg := rfl
@[simp] theorem Cluster.setDict_dict (i sub v : Nat) : (c.setDict i sub v).dict = Sparse.set c.dict (i * 256 + sub) (BitVec.ofNat 64 v) := rfl
@[simp] theorem Cluster.setDict_tabErr (i sub v : Nat) : (c.setDict i sub v).tabErr = c.tabErr := rfl
@[simp] theorem Cluster.setDict_vgath (i sub v : Nat) : (c.setDict i sub v).vgath = c.vgath := rfl
@[simp] theorem Cluster.setDict_freeCtr (i sub v : Nat) : (c.setDict i sub v).freeCtr = c.freeCtr := rfl

/-! setBit -/
@[simp] theorem Cluster.setBit_powered (a n : Nat) : (c.setBit a n).powered = c.powered := rfl
@[simp] theorem Cluster.setBit_stage (a n : Nat) : (c.setBit a n).stage = c.stage := rfl
@[simp] theorem Cluster.setBit_straps (a n : Nat) : (c.setBit a n).straps = c.straps := rfl
@[simp] theorem Cluster.setBit_stepping (a n : Nat) : (c.setBit a n).stepping = c.stepping := rfl
@[simp] theorem Cluster.setBit_clk (a n : Nat) : (c.setBit a n).clk = c.clk := rfl
@[simp] theorem Cluster.setBit_tb (a n : Nat) : (c.setBit a n).tb = c.tb := rfl
@[simp] theorem Cluster.setBit_tim (a n : Nat) : (c.setBit a n).tim = c.tim := rfl
@[simp] theorem Cluster.setBit_queues (a n : Nat) : (c.setBit a n).queues = c.queues := rfl
@[simp] theorem Cluster.setBit_arrs (a n : Nat) : (c.setBit a n).arrs = c.arrs := rfl
@[simp] theorem Cluster.setBit_refs (a n : Nat) : (c.setBit a n).refs = c.refs := rfl
@[simp] theorem Cluster.setBit_movs (a n : Nat) : (c.setBit a n).movs = c.movs := rfl
@[simp] theorem Cluster.setBit_vecs (a n : Nat) : (c.setBit a n).vecs = c.vecs := rfl
@[simp] theorem Cluster.setBit_feeds (a n : Nat) : (c.setBit a n).feeds = c.feeds := rfl
@[simp] theorem Cluster.setBit_posts (a n : Nat) : (c.setBit a n).posts = c.posts := rfl
@[simp] theorem Cluster.setBit_uses (a n : Nat) : (c.setBit a n).uses = c.uses := rfl
@[simp] theorem Cluster.setBit_cores (a n : Nat) : (c.setBit a n).cores = c.cores := rfl
@[simp] theorem Cluster.setBit_ctxs (a n : Nat) : (c.setBit a n).ctxs = c.ctxs := rfl
@[simp] theorem Cluster.setBit_run (a n : Nat) : (c.setBit a n).run = c.run := rfl
@[simp] theorem Cluster.setBit_freeAt (a n : Nat) : (c.setBit a n).freeAt = c.freeAt := rfl
@[simp] theorem Cluster.setBit_susp (a n : Nat) : (c.setBit a n).susp = c.susp := rfl
@[simp] theorem Cluster.setBit_reqs (a n : Nat) : (c.setBit a n).reqs = c.reqs := rfl
@[simp] theorem Cluster.setBit_rerun (a n : Nat) : (c.setBit a n).rerun = c.rerun := rfl
@[simp] theorem Cluster.setBit_linings (a n : Nat) : (c.setBit a n).linings = c.linings := rfl
@[simp] theorem Cluster.setBit_imgs (a n : Nat) : (c.setBit a n).imgs = c.imgs := rfl
@[simp] theorem Cluster.setBit_intake (a n : Nat) : (c.setBit a n).intake = c.intake := rfl
@[simp] theorem Cluster.setBit_spd (a n : Nat) : (c.setBit a n).spd = c.spd := rfl
@[simp] theorem Cluster.setBit_mem (a n : Nat) : (c.setBit a n).mem = c.mem := rfl
@[simp] theorem Cluster.setBit_memErr (a n : Nat) : (c.setBit a n).memErr = c.memErr := rfl
@[simp] theorem Cluster.setBit_imem (a n : Nat) : (c.setBit a n).imem = c.imem := rfl
@[simp] theorem Cluster.setBit_imemErr (a n : Nat) : (c.setBit a n).imemErr = c.imemErr := rfl
@[simp] theorem Cluster.setBit_dmem (a n : Nat) : (c.setBit a n).dmem = c.dmem := rfl
@[simp] theorem Cluster.setBit_dmemErr (a n : Nat) : (c.setBit a n).dmemErr = c.dmemErr := rfl
@[simp] theorem Cluster.setBit_sbuf (a n : Nat) : (c.setBit a n).sbuf = c.sbuf := rfl
@[simp] theorem Cluster.setBit_acc (a n : Nat) : (c.setBit a n).acc = c.acc := rfl
@[simp] theorem Cluster.setBit_side (a n : Nat) : (c.setBit a n).side = c.side := rfl
@[simp] theorem Cluster.setBit_chans (a n : Nat) : (c.setBit a n).chans = c.chans := rfl
@[simp] theorem Cluster.setBit_lanes (a n : Nat) : (c.setBit a n).lanes = c.lanes := rfl
@[simp] theorem Cluster.setBit_fifos (a n : Nat) : (c.setBit a n).fifos = c.fifos := rfl
@[simp] theorem Cluster.setBit_turned (a n : Nat) : (c.setBit a n).turned = c.turned := rfl
@[simp] theorem Cluster.setBit_winOld (a n : Nat) : (c.setBit a n).winOld = c.winOld := rfl
@[simp] theorem Cluster.setBit_fabOut (a n : Nat) : (c.setBit a n).fabOut = c.fabOut := rfl
@[simp] theorem Cluster.setBit_waiters (a n : Nat) : (c.setBit a n).waiters = c.waiters := rfl
@[simp] theorem Cluster.setBit_syncOps (a n : Nat) : (c.setBit a n).syncOps = c.syncOps := rfl
@[simp] theorem Cluster.setBit_acks (a n : Nat) : (c.setBit a n).acks = c.acks := rfl
@[simp] theorem Cluster.setBit_xlat (a n : Nat) : (c.setBit a n).xlat = c.xlat := rfl
@[simp] theorem Cluster.setBit_syncIn (a n : Nat) : (c.setBit a n).syncIn = c.syncIn := rfl
@[simp] theorem Cluster.setBit_rdesc (a n : Nat) : (c.setBit a n).rdesc = c.rdesc := rfl
@[simp] theorem Cluster.setBit_prod (a n : Nat) : (c.setBit a n).prod = c.prod := rfl
@[simp] theorem Cluster.setBit_cons (a n : Nat) : (c.setBit a n).cons = c.cons := rfl
@[simp] theorem Cluster.setBit_consOld (a n : Nat) : (c.setBit a n).consOld = c.consOld := rfl
@[simp] theorem Cluster.setBit_pads (a n : Nat) : (c.setBit a n).pads = c.pads := rfl
@[simp] theorem Cluster.setBit_sdesc0 (a n : Nat) : (c.setBit a n).sdesc0 = c.sdesc0 := rfl
@[simp] theorem Cluster.setBit_sdesc1 (a n : Nat) : (c.setBit a n).sdesc1 = c.sdesc1 := rfl
@[simp] theorem Cluster.setBit_scount (a n : Nat) : (c.setBit a n).scount = c.scount := rfl
@[simp] theorem Cluster.setBit_sround (a n : Nat) : (c.setBit a n).sround = c.sround := rfl
@[simp] theorem Cluster.setBit_sacc (a n : Nat) : (c.setBit a n).sacc = c.sacc := rfl
@[simp] theorem Cluster.setBit_sorRes (a n : Nat) : (c.setBit a n).sorRes = c.sorRes := rfl
@[simp] theorem Cluster.setBit_resets (a n : Nat) : (c.setBit a n).resets = c.resets := rfl
@[simp] theorem Cluster.setBit_store (a n : Nat) : (c.setBit a n).store = c.store := rfl
@[simp] theorem Cluster.setBit_nextOrd (a n : Nat) : (c.setBit a n).nextOrd = c.nextOrd := rfl
@[simp] theorem Cluster.setBit_moss (a n : Nat) : (c.setBit a n).moss = c.moss := rfl
@[simp] theorem Cluster.setBit_flt (a n : Nat) : (c.setBit a n).flt = c.flt := rfl
@[simp] theorem Cluster.setBit_dict (a n : Nat) : (c.setBit a n).dict = c.dict := rfl
@[simp] theorem Cluster.setBit_tabErr (a n : Nat) : (c.setBit a n).tabErr = c.tabErr := rfl
@[simp] theorem Cluster.setBit_vgath (a n : Nat) : (c.setBit a n).vgath = c.vgath := rfl
@[simp] theorem Cluster.setBit_freeCtr (a n : Nat) : (c.setBit a n).freeCtr = c.freeCtr := rfl

/-! bump -/
@[simp] theorem Cluster.bump_powered (a evt bit n : Nat) : (c.bump a evt bit n).powered = c.powered := by simp only [Cluster.bump]; split <;> rfl
@[simp] theorem Cluster.bump_stage (a evt bit n : Nat) : (c.bump a evt bit n).stage = c.stage := by simp only [Cluster.bump]; split <;> rfl
@[simp] theorem Cluster.bump_straps (a evt bit n : Nat) : (c.bump a evt bit n).straps = c.straps := by simp only [Cluster.bump]; split <;> rfl
@[simp] theorem Cluster.bump_stepping (a evt bit n : Nat) : (c.bump a evt bit n).stepping = c.stepping := by simp only [Cluster.bump]; split <;> rfl
@[simp] theorem Cluster.bump_clk (a evt bit n : Nat) : (c.bump a evt bit n).clk = c.clk := by simp only [Cluster.bump]; split <;> rfl
@[simp] theorem Cluster.bump_tb (a evt bit n : Nat) : (c.bump a evt bit n).tb = c.tb := by simp only [Cluster.bump]; split <;> rfl
@[simp] theorem Cluster.bump_tim (a evt bit n : Nat) : (c.bump a evt bit n).tim = c.tim := by simp only [Cluster.bump]; split <;> rfl
@[simp] theorem Cluster.bump_queues (a evt bit n : Nat) : (c.bump a evt bit n).queues = c.queues := by simp only [Cluster.bump]; split <;> rfl
@[simp] theorem Cluster.bump_arrs (a evt bit n : Nat) : (c.bump a evt bit n).arrs = c.arrs := by simp only [Cluster.bump]; split <;> rfl
@[simp] theorem Cluster.bump_refs (a evt bit n : Nat) : (c.bump a evt bit n).refs = c.refs := by simp only [Cluster.bump]; split <;> rfl
@[simp] theorem Cluster.bump_movs (a evt bit n : Nat) : (c.bump a evt bit n).movs = c.movs := by simp only [Cluster.bump]; split <;> rfl
@[simp] theorem Cluster.bump_vecs (a evt bit n : Nat) : (c.bump a evt bit n).vecs = c.vecs := by simp only [Cluster.bump]; split <;> rfl
@[simp] theorem Cluster.bump_feeds (a evt bit n : Nat) : (c.bump a evt bit n).feeds = c.feeds := by simp only [Cluster.bump]; split <;> rfl
@[simp] theorem Cluster.bump_posts (a evt bit n : Nat) : (c.bump a evt bit n).posts = c.posts := by simp only [Cluster.bump]; split <;> rfl
@[simp] theorem Cluster.bump_uses (a evt bit n : Nat) : (c.bump a evt bit n).uses = c.uses := by simp only [Cluster.bump]; split <;> rfl
@[simp] theorem Cluster.bump_cores (a evt bit n : Nat) : (c.bump a evt bit n).cores = c.cores := by simp only [Cluster.bump]; split <;> rfl
@[simp] theorem Cluster.bump_ctxs (a evt bit n : Nat) : (c.bump a evt bit n).ctxs = c.ctxs := by simp only [Cluster.bump]; split <;> rfl
@[simp] theorem Cluster.bump_run (a evt bit n : Nat) : (c.bump a evt bit n).run = c.run := by simp only [Cluster.bump]; split <;> rfl
@[simp] theorem Cluster.bump_freeAt (a evt bit n : Nat) : (c.bump a evt bit n).freeAt = c.freeAt := by simp only [Cluster.bump]; split <;> rfl
@[simp] theorem Cluster.bump_susp (a evt bit n : Nat) : (c.bump a evt bit n).susp = c.susp := by simp only [Cluster.bump]; split <;> rfl
@[simp] theorem Cluster.bump_reqs (a evt bit n : Nat) : (c.bump a evt bit n).reqs = c.reqs := by simp only [Cluster.bump]; split <;> rfl
@[simp] theorem Cluster.bump_rerun (a evt bit n : Nat) : (c.bump a evt bit n).rerun = c.rerun := by simp only [Cluster.bump]; split <;> rfl
@[simp] theorem Cluster.bump_linings (a evt bit n : Nat) : (c.bump a evt bit n).linings = c.linings := by simp only [Cluster.bump]; split <;> rfl
@[simp] theorem Cluster.bump_imgs (a evt bit n : Nat) : (c.bump a evt bit n).imgs = c.imgs := by simp only [Cluster.bump]; split <;> rfl
@[simp] theorem Cluster.bump_intake (a evt bit n : Nat) : (c.bump a evt bit n).intake = c.intake := by simp only [Cluster.bump]; split <;> rfl
@[simp] theorem Cluster.bump_spd (a evt bit n : Nat) : (c.bump a evt bit n).spd = c.spd := by simp only [Cluster.bump]; split <;> rfl
@[simp] theorem Cluster.bump_mem (a evt bit n : Nat) : (c.bump a evt bit n).mem = c.mem := by simp only [Cluster.bump]; split <;> rfl
@[simp] theorem Cluster.bump_memErr (a evt bit n : Nat) : (c.bump a evt bit n).memErr = c.memErr := by simp only [Cluster.bump]; split <;> rfl
@[simp] theorem Cluster.bump_imem (a evt bit n : Nat) : (c.bump a evt bit n).imem = c.imem := by simp only [Cluster.bump]; split <;> rfl
@[simp] theorem Cluster.bump_imemErr (a evt bit n : Nat) : (c.bump a evt bit n).imemErr = c.imemErr := by simp only [Cluster.bump]; split <;> rfl
@[simp] theorem Cluster.bump_dmem (a evt bit n : Nat) : (c.bump a evt bit n).dmem = c.dmem := by simp only [Cluster.bump]; split <;> rfl
@[simp] theorem Cluster.bump_dmemErr (a evt bit n : Nat) : (c.bump a evt bit n).dmemErr = c.dmemErr := by simp only [Cluster.bump]; split <;> rfl
@[simp] theorem Cluster.bump_sbuf (a evt bit n : Nat) : (c.bump a evt bit n).sbuf = c.sbuf := by simp only [Cluster.bump]; split <;> rfl
@[simp] theorem Cluster.bump_acc (a evt bit n : Nat) : (c.bump a evt bit n).acc = c.acc := by simp only [Cluster.bump]; split <;> rfl
@[simp] theorem Cluster.bump_side (a evt bit n : Nat) : (c.bump a evt bit n).side = c.side := by simp only [Cluster.bump]; split <;> rfl
@[simp] theorem Cluster.bump_chans (a evt bit n : Nat) : (c.bump a evt bit n).chans = c.chans := by simp only [Cluster.bump]; split <;> rfl
@[simp] theorem Cluster.bump_lanes (a evt bit n : Nat) : (c.bump a evt bit n).lanes = c.lanes := by simp only [Cluster.bump]; split <;> rfl
@[simp] theorem Cluster.bump_fifos (a evt bit n : Nat) : (c.bump a evt bit n).fifos = c.fifos := by simp only [Cluster.bump]; split <;> rfl
@[simp] theorem Cluster.bump_turned (a evt bit n : Nat) : (c.bump a evt bit n).turned = c.turned := by simp only [Cluster.bump]; split <;> rfl
@[simp] theorem Cluster.bump_winOld (a evt bit n : Nat) : (c.bump a evt bit n).winOld = c.winOld := by simp only [Cluster.bump]; split <;> rfl
@[simp] theorem Cluster.bump_fabOut (a evt bit n : Nat) : (c.bump a evt bit n).fabOut = c.fabOut := by simp only [Cluster.bump]; split <;> rfl
@[simp] theorem Cluster.bump_waiters (a evt bit n : Nat) : (c.bump a evt bit n).waiters = c.waiters := by simp only [Cluster.bump]; split <;> rfl
@[simp] theorem Cluster.bump_syncOps (a evt bit n : Nat) : (c.bump a evt bit n).syncOps = c.syncOps := by simp only [Cluster.bump]; split <;> rfl
@[simp] theorem Cluster.bump_acks (a evt bit n : Nat) : (c.bump a evt bit n).acks = c.acks := by simp only [Cluster.bump]; split <;> rfl
@[simp] theorem Cluster.bump_xlat (a evt bit n : Nat) : (c.bump a evt bit n).xlat = c.xlat := by simp only [Cluster.bump]; split <;> rfl
@[simp] theorem Cluster.bump_syncIn (a evt bit n : Nat) : (c.bump a evt bit n).syncIn = c.syncIn := by simp only [Cluster.bump]; split <;> rfl
@[simp] theorem Cluster.bump_rdesc (a evt bit n : Nat) : (c.bump a evt bit n).rdesc = c.rdesc := by simp only [Cluster.bump]; split <;> rfl
@[simp] theorem Cluster.bump_prod (a evt bit n : Nat) : (c.bump a evt bit n).prod = c.prod := by simp only [Cluster.bump]; split <;> rfl
@[simp] theorem Cluster.bump_cons (a evt bit n : Nat) : (c.bump a evt bit n).cons = c.cons := by simp only [Cluster.bump]; split <;> rfl
@[simp] theorem Cluster.bump_consOld (a evt bit n : Nat) : (c.bump a evt bit n).consOld = c.consOld := by simp only [Cluster.bump]; split <;> rfl
@[simp] theorem Cluster.bump_pads (a evt bit n : Nat) : (c.bump a evt bit n).pads = c.pads := by simp only [Cluster.bump]; split <;> rfl
@[simp] theorem Cluster.bump_sdesc0 (a evt bit n : Nat) : (c.bump a evt bit n).sdesc0 = c.sdesc0 := by simp only [Cluster.bump]; split <;> rfl
@[simp] theorem Cluster.bump_sdesc1 (a evt bit n : Nat) : (c.bump a evt bit n).sdesc1 = c.sdesc1 := by simp only [Cluster.bump]; split <;> rfl
@[simp] theorem Cluster.bump_scount (a evt bit n : Nat) : (c.bump a evt bit n).scount = c.scount := by simp only [Cluster.bump]; split <;> rfl
@[simp] theorem Cluster.bump_sround (a evt bit n : Nat) : (c.bump a evt bit n).sround = c.sround := by simp only [Cluster.bump]; split <;> rfl
@[simp] theorem Cluster.bump_sacc (a evt bit n : Nat) : (c.bump a evt bit n).sacc = c.sacc := by simp only [Cluster.bump]; split <;> rfl
@[simp] theorem Cluster.bump_sorRes (a evt bit n : Nat) : (c.bump a evt bit n).sorRes = c.sorRes := by simp only [Cluster.bump]; split <;> rfl
@[simp] theorem Cluster.bump_resets (a evt bit n : Nat) : (c.bump a evt bit n).resets = c.resets := by simp only [Cluster.bump]; split <;> rfl
@[simp] theorem Cluster.bump_store (a evt bit n : Nat) : (c.bump a evt bit n).store = c.store := by simp only [Cluster.bump]; split <;> rfl
@[simp] theorem Cluster.bump_nextOrd (a evt bit n : Nat) : (c.bump a evt bit n).nextOrd = c.nextOrd := by simp only [Cluster.bump]; split <;> rfl
@[simp] theorem Cluster.bump_moss (a evt bit n : Nat) : (c.bump a evt bit n).moss = c.moss := by simp only [Cluster.bump]; split <;> rfl
@[simp] theorem Cluster.bump_flt (a evt bit n : Nat) : (c.bump a evt bit n).flt = c.flt := by simp only [Cluster.bump]; split <;> rfl
@[simp] theorem Cluster.bump_dict (a evt bit n : Nat) : (c.bump a evt bit n).dict = c.dict := by simp only [Cluster.bump]; split <;> rfl
@[simp] theorem Cluster.bump_tabErr (a evt bit n : Nat) : (c.bump a evt bit n).tabErr = c.tabErr := by simp only [Cluster.bump]; split <;> rfl
@[simp] theorem Cluster.bump_vgath (a evt bit n : Nat) : (c.bump a evt bit n).vgath = c.vgath := by simp only [Cluster.bump]; split <;> rfl
@[simp] theorem Cluster.bump_freeCtr (a evt bit n : Nat) : (c.bump a evt bit n).freeCtr = c.freeCtr := by simp only [Cluster.bump]; split <;> rfl

/-! stick -/
@[simp] theorem Cluster.stick_powered (a hi lo n : Nat) : (c.stick a hi lo n).powered = c.powered := rfl
@[simp] theorem Cluster.stick_stage (a hi lo n : Nat) : (c.stick a hi lo n).stage = c.stage := rfl
@[simp] theorem Cluster.stick_straps (a hi lo n : Nat) : (c.stick a hi lo n).straps = c.straps := rfl
@[simp] theorem Cluster.stick_stepping (a hi lo n : Nat) : (c.stick a hi lo n).stepping = c.stepping := rfl
@[simp] theorem Cluster.stick_clk (a hi lo n : Nat) : (c.stick a hi lo n).clk = c.clk := rfl
@[simp] theorem Cluster.stick_tb (a hi lo n : Nat) : (c.stick a hi lo n).tb = c.tb := rfl
@[simp] theorem Cluster.stick_tim (a hi lo n : Nat) : (c.stick a hi lo n).tim = c.tim := rfl
@[simp] theorem Cluster.stick_queues (a hi lo n : Nat) : (c.stick a hi lo n).queues = c.queues := rfl
@[simp] theorem Cluster.stick_arrs (a hi lo n : Nat) : (c.stick a hi lo n).arrs = c.arrs := rfl
@[simp] theorem Cluster.stick_refs (a hi lo n : Nat) : (c.stick a hi lo n).refs = c.refs := rfl
@[simp] theorem Cluster.stick_movs (a hi lo n : Nat) : (c.stick a hi lo n).movs = c.movs := rfl
@[simp] theorem Cluster.stick_vecs (a hi lo n : Nat) : (c.stick a hi lo n).vecs = c.vecs := rfl
@[simp] theorem Cluster.stick_feeds (a hi lo n : Nat) : (c.stick a hi lo n).feeds = c.feeds := rfl
@[simp] theorem Cluster.stick_posts (a hi lo n : Nat) : (c.stick a hi lo n).posts = c.posts := rfl
@[simp] theorem Cluster.stick_uses (a hi lo n : Nat) : (c.stick a hi lo n).uses = c.uses := rfl
@[simp] theorem Cluster.stick_cores (a hi lo n : Nat) : (c.stick a hi lo n).cores = c.cores := rfl
@[simp] theorem Cluster.stick_ctxs (a hi lo n : Nat) : (c.stick a hi lo n).ctxs = c.ctxs := rfl
@[simp] theorem Cluster.stick_run (a hi lo n : Nat) : (c.stick a hi lo n).run = c.run := rfl
@[simp] theorem Cluster.stick_freeAt (a hi lo n : Nat) : (c.stick a hi lo n).freeAt = c.freeAt := rfl
@[simp] theorem Cluster.stick_susp (a hi lo n : Nat) : (c.stick a hi lo n).susp = c.susp := rfl
@[simp] theorem Cluster.stick_reqs (a hi lo n : Nat) : (c.stick a hi lo n).reqs = c.reqs := rfl
@[simp] theorem Cluster.stick_rerun (a hi lo n : Nat) : (c.stick a hi lo n).rerun = c.rerun := rfl
@[simp] theorem Cluster.stick_linings (a hi lo n : Nat) : (c.stick a hi lo n).linings = c.linings := rfl
@[simp] theorem Cluster.stick_imgs (a hi lo n : Nat) : (c.stick a hi lo n).imgs = c.imgs := rfl
@[simp] theorem Cluster.stick_intake (a hi lo n : Nat) : (c.stick a hi lo n).intake = c.intake := rfl
@[simp] theorem Cluster.stick_spd (a hi lo n : Nat) : (c.stick a hi lo n).spd = c.spd := rfl
@[simp] theorem Cluster.stick_mem (a hi lo n : Nat) : (c.stick a hi lo n).mem = c.mem := rfl
@[simp] theorem Cluster.stick_memErr (a hi lo n : Nat) : (c.stick a hi lo n).memErr = c.memErr := rfl
@[simp] theorem Cluster.stick_imem (a hi lo n : Nat) : (c.stick a hi lo n).imem = c.imem := rfl
@[simp] theorem Cluster.stick_imemErr (a hi lo n : Nat) : (c.stick a hi lo n).imemErr = c.imemErr := rfl
@[simp] theorem Cluster.stick_dmem (a hi lo n : Nat) : (c.stick a hi lo n).dmem = c.dmem := rfl
@[simp] theorem Cluster.stick_dmemErr (a hi lo n : Nat) : (c.stick a hi lo n).dmemErr = c.dmemErr := rfl
@[simp] theorem Cluster.stick_sbuf (a hi lo n : Nat) : (c.stick a hi lo n).sbuf = c.sbuf := rfl
@[simp] theorem Cluster.stick_acc (a hi lo n : Nat) : (c.stick a hi lo n).acc = c.acc := rfl
@[simp] theorem Cluster.stick_side (a hi lo n : Nat) : (c.stick a hi lo n).side = c.side := rfl
@[simp] theorem Cluster.stick_chans (a hi lo n : Nat) : (c.stick a hi lo n).chans = c.chans := rfl
@[simp] theorem Cluster.stick_lanes (a hi lo n : Nat) : (c.stick a hi lo n).lanes = c.lanes := rfl
@[simp] theorem Cluster.stick_fifos (a hi lo n : Nat) : (c.stick a hi lo n).fifos = c.fifos := rfl
@[simp] theorem Cluster.stick_turned (a hi lo n : Nat) : (c.stick a hi lo n).turned = c.turned := rfl
@[simp] theorem Cluster.stick_winOld (a hi lo n : Nat) : (c.stick a hi lo n).winOld = c.winOld := rfl
@[simp] theorem Cluster.stick_fabOut (a hi lo n : Nat) : (c.stick a hi lo n).fabOut = c.fabOut := rfl
@[simp] theorem Cluster.stick_waiters (a hi lo n : Nat) : (c.stick a hi lo n).waiters = c.waiters := rfl
@[simp] theorem Cluster.stick_syncOps (a hi lo n : Nat) : (c.stick a hi lo n).syncOps = c.syncOps := rfl
@[simp] theorem Cluster.stick_acks (a hi lo n : Nat) : (c.stick a hi lo n).acks = c.acks := rfl
@[simp] theorem Cluster.stick_xlat (a hi lo n : Nat) : (c.stick a hi lo n).xlat = c.xlat := rfl
@[simp] theorem Cluster.stick_syncIn (a hi lo n : Nat) : (c.stick a hi lo n).syncIn = c.syncIn := rfl
@[simp] theorem Cluster.stick_rdesc (a hi lo n : Nat) : (c.stick a hi lo n).rdesc = c.rdesc := rfl
@[simp] theorem Cluster.stick_prod (a hi lo n : Nat) : (c.stick a hi lo n).prod = c.prod := rfl
@[simp] theorem Cluster.stick_cons (a hi lo n : Nat) : (c.stick a hi lo n).cons = c.cons := rfl
@[simp] theorem Cluster.stick_consOld (a hi lo n : Nat) : (c.stick a hi lo n).consOld = c.consOld := rfl
@[simp] theorem Cluster.stick_pads (a hi lo n : Nat) : (c.stick a hi lo n).pads = c.pads := rfl
@[simp] theorem Cluster.stick_sdesc0 (a hi lo n : Nat) : (c.stick a hi lo n).sdesc0 = c.sdesc0 := rfl
@[simp] theorem Cluster.stick_sdesc1 (a hi lo n : Nat) : (c.stick a hi lo n).sdesc1 = c.sdesc1 := rfl
@[simp] theorem Cluster.stick_scount (a hi lo n : Nat) : (c.stick a hi lo n).scount = c.scount := rfl
@[simp] theorem Cluster.stick_sround (a hi lo n : Nat) : (c.stick a hi lo n).sround = c.sround := rfl
@[simp] theorem Cluster.stick_sacc (a hi lo n : Nat) : (c.stick a hi lo n).sacc = c.sacc := rfl
@[simp] theorem Cluster.stick_sorRes (a hi lo n : Nat) : (c.stick a hi lo n).sorRes = c.sorRes := rfl
@[simp] theorem Cluster.stick_resets (a hi lo n : Nat) : (c.stick a hi lo n).resets = c.resets := rfl
@[simp] theorem Cluster.stick_store (a hi lo n : Nat) : (c.stick a hi lo n).store = c.store := rfl
@[simp] theorem Cluster.stick_nextOrd (a hi lo n : Nat) : (c.stick a hi lo n).nextOrd = c.nextOrd := rfl
@[simp] theorem Cluster.stick_moss (a hi lo n : Nat) : (c.stick a hi lo n).moss = c.moss := rfl
@[simp] theorem Cluster.stick_flt (a hi lo n : Nat) : (c.stick a hi lo n).flt = c.flt := rfl
@[simp] theorem Cluster.stick_dict (a hi lo n : Nat) : (c.stick a hi lo n).dict = c.dict := rfl
@[simp] theorem Cluster.stick_tabErr (a hi lo n : Nat) : (c.stick a hi lo n).tabErr = c.tabErr := rfl
@[simp] theorem Cluster.stick_vgath (a hi lo n : Nat) : (c.stick a hi lo n).vgath = c.vgath := rfl
@[simp] theorem Cluster.stick_freeCtr (a hi lo n : Nat) : (c.stick a hi lo n).freeCtr = c.freeCtr := rfl

/-! latch -/
@[simp] theorem Cluster.latch_powered (a : Nat) (v : W64) : (c.latch a v).powered = c.powered := by unfold Cluster.latch; split <;> rfl
@[simp] theorem Cluster.latch_stage (a : Nat) (v : W64) : (c.latch a v).stage = c.stage := by unfold Cluster.latch; split <;> rfl
@[simp] theorem Cluster.latch_straps (a : Nat) (v : W64) : (c.latch a v).straps = c.straps := by unfold Cluster.latch; split <;> rfl
@[simp] theorem Cluster.latch_stepping (a : Nat) (v : W64) : (c.latch a v).stepping = c.stepping := by unfold Cluster.latch; split <;> rfl
@[simp] theorem Cluster.latch_clk (a : Nat) (v : W64) : (c.latch a v).clk = c.clk := by unfold Cluster.latch; split <;> rfl
@[simp] theorem Cluster.latch_tb (a : Nat) (v : W64) : (c.latch a v).tb = c.tb := by unfold Cluster.latch; split <;> rfl
@[simp] theorem Cluster.latch_tim (a : Nat) (v : W64) : (c.latch a v).tim = c.tim := by unfold Cluster.latch; split <;> rfl
@[simp] theorem Cluster.latch_queues (a : Nat) (v : W64) : (c.latch a v).queues = c.queues := by unfold Cluster.latch; split <;> rfl
@[simp] theorem Cluster.latch_arrs (a : Nat) (v : W64) : (c.latch a v).arrs = c.arrs := by unfold Cluster.latch; split <;> rfl
@[simp] theorem Cluster.latch_refs (a : Nat) (v : W64) : (c.latch a v).refs = c.refs := by unfold Cluster.latch; split <;> rfl
@[simp] theorem Cluster.latch_movs (a : Nat) (v : W64) : (c.latch a v).movs = c.movs := by unfold Cluster.latch; split <;> rfl
@[simp] theorem Cluster.latch_vecs (a : Nat) (v : W64) : (c.latch a v).vecs = c.vecs := by unfold Cluster.latch; split <;> rfl
@[simp] theorem Cluster.latch_feeds (a : Nat) (v : W64) : (c.latch a v).feeds = c.feeds := by unfold Cluster.latch; split <;> rfl
@[simp] theorem Cluster.latch_posts (a : Nat) (v : W64) : (c.latch a v).posts = c.posts := by unfold Cluster.latch; split <;> rfl
@[simp] theorem Cluster.latch_uses (a : Nat) (v : W64) : (c.latch a v).uses = c.uses := by unfold Cluster.latch; split <;> rfl
@[simp] theorem Cluster.latch_cores (a : Nat) (v : W64) : (c.latch a v).cores = c.cores := by unfold Cluster.latch; split <;> rfl
@[simp] theorem Cluster.latch_ctxs (a : Nat) (v : W64) : (c.latch a v).ctxs = c.ctxs := by unfold Cluster.latch; split <;> rfl
@[simp] theorem Cluster.latch_run (a : Nat) (v : W64) : (c.latch a v).run = c.run := by unfold Cluster.latch; split <;> rfl
@[simp] theorem Cluster.latch_freeAt (a : Nat) (v : W64) : (c.latch a v).freeAt = c.freeAt := by unfold Cluster.latch; split <;> rfl
@[simp] theorem Cluster.latch_susp (a : Nat) (v : W64) : (c.latch a v).susp = c.susp := by unfold Cluster.latch; split <;> rfl
@[simp] theorem Cluster.latch_reqs (a : Nat) (v : W64) : (c.latch a v).reqs = c.reqs := by unfold Cluster.latch; split <;> rfl
@[simp] theorem Cluster.latch_rerun (a : Nat) (v : W64) : (c.latch a v).rerun = c.rerun := by unfold Cluster.latch; split <;> rfl
@[simp] theorem Cluster.latch_linings (a : Nat) (v : W64) : (c.latch a v).linings = c.linings := by unfold Cluster.latch; split <;> rfl
@[simp] theorem Cluster.latch_imgs (a : Nat) (v : W64) : (c.latch a v).imgs = c.imgs := by unfold Cluster.latch; split <;> rfl
@[simp] theorem Cluster.latch_intake (a : Nat) (v : W64) : (c.latch a v).intake = c.intake := by unfold Cluster.latch; split <;> rfl
@[simp] theorem Cluster.latch_spd (a : Nat) (v : W64) : (c.latch a v).spd = c.spd := by unfold Cluster.latch; split <;> rfl
@[simp] theorem Cluster.latch_mem (a : Nat) (v : W64) : (c.latch a v).mem = c.mem := by unfold Cluster.latch; split <;> rfl
@[simp] theorem Cluster.latch_memErr (a : Nat) (v : W64) : (c.latch a v).memErr = c.memErr := by unfold Cluster.latch; split <;> rfl
@[simp] theorem Cluster.latch_imem (a : Nat) (v : W64) : (c.latch a v).imem = c.imem := by unfold Cluster.latch; split <;> rfl
@[simp] theorem Cluster.latch_imemErr (a : Nat) (v : W64) : (c.latch a v).imemErr = c.imemErr := by unfold Cluster.latch; split <;> rfl
@[simp] theorem Cluster.latch_dmem (a : Nat) (v : W64) : (c.latch a v).dmem = c.dmem := by unfold Cluster.latch; split <;> rfl
@[simp] theorem Cluster.latch_dmemErr (a : Nat) (v : W64) : (c.latch a v).dmemErr = c.dmemErr := by unfold Cluster.latch; split <;> rfl
@[simp] theorem Cluster.latch_sbuf (a : Nat) (v : W64) : (c.latch a v).sbuf = c.sbuf := by unfold Cluster.latch; split <;> rfl
@[simp] theorem Cluster.latch_acc (a : Nat) (v : W64) : (c.latch a v).acc = c.acc := by unfold Cluster.latch; split <;> rfl
@[simp] theorem Cluster.latch_side (a : Nat) (v : W64) : (c.latch a v).side = c.side := by unfold Cluster.latch; split <;> rfl
@[simp] theorem Cluster.latch_chans (a : Nat) (v : W64) : (c.latch a v).chans = c.chans := by unfold Cluster.latch; split <;> rfl
@[simp] theorem Cluster.latch_lanes (a : Nat) (v : W64) : (c.latch a v).lanes = c.lanes := by unfold Cluster.latch; split <;> rfl
@[simp] theorem Cluster.latch_fifos (a : Nat) (v : W64) : (c.latch a v).fifos = c.fifos := by unfold Cluster.latch; split <;> rfl
@[simp] theorem Cluster.latch_turned (a : Nat) (v : W64) : (c.latch a v).turned = c.turned := by unfold Cluster.latch; split <;> rfl
@[simp] theorem Cluster.latch_winOld (a : Nat) (v : W64) : (c.latch a v).winOld = c.winOld := by unfold Cluster.latch; split <;> rfl
@[simp] theorem Cluster.latch_fabOut (a : Nat) (v : W64) : (c.latch a v).fabOut = c.fabOut := by unfold Cluster.latch; split <;> rfl
@[simp] theorem Cluster.latch_waiters (a : Nat) (v : W64) : (c.latch a v).waiters = c.waiters := by unfold Cluster.latch; split <;> rfl
@[simp] theorem Cluster.latch_syncOps (a : Nat) (v : W64) : (c.latch a v).syncOps = c.syncOps := by unfold Cluster.latch; split <;> rfl
@[simp] theorem Cluster.latch_acks (a : Nat) (v : W64) : (c.latch a v).acks = c.acks := by unfold Cluster.latch; split <;> rfl
@[simp] theorem Cluster.latch_xlat (a : Nat) (v : W64) : (c.latch a v).xlat = c.xlat := by unfold Cluster.latch; split <;> rfl
@[simp] theorem Cluster.latch_syncIn (a : Nat) (v : W64) : (c.latch a v).syncIn = c.syncIn := by unfold Cluster.latch; split <;> rfl
@[simp] theorem Cluster.latch_rdesc (a : Nat) (v : W64) : (c.latch a v).rdesc = c.rdesc := by unfold Cluster.latch; split <;> rfl
@[simp] theorem Cluster.latch_prod (a : Nat) (v : W64) : (c.latch a v).prod = c.prod := by unfold Cluster.latch; split <;> rfl
@[simp] theorem Cluster.latch_cons (a : Nat) (v : W64) : (c.latch a v).cons = c.cons := by unfold Cluster.latch; split <;> rfl
@[simp] theorem Cluster.latch_consOld (a : Nat) (v : W64) : (c.latch a v).consOld = c.consOld := by unfold Cluster.latch; split <;> rfl
@[simp] theorem Cluster.latch_pads (a : Nat) (v : W64) : (c.latch a v).pads = c.pads := by unfold Cluster.latch; split <;> rfl
@[simp] theorem Cluster.latch_sdesc0 (a : Nat) (v : W64) : (c.latch a v).sdesc0 = c.sdesc0 := by unfold Cluster.latch; split <;> rfl
@[simp] theorem Cluster.latch_sdesc1 (a : Nat) (v : W64) : (c.latch a v).sdesc1 = c.sdesc1 := by unfold Cluster.latch; split <;> rfl
@[simp] theorem Cluster.latch_scount (a : Nat) (v : W64) : (c.latch a v).scount = c.scount := by unfold Cluster.latch; split <;> rfl
@[simp] theorem Cluster.latch_sround (a : Nat) (v : W64) : (c.latch a v).sround = c.sround := by unfold Cluster.latch; split <;> rfl
@[simp] theorem Cluster.latch_sacc (a : Nat) (v : W64) : (c.latch a v).sacc = c.sacc := by unfold Cluster.latch; split <;> rfl
@[simp] theorem Cluster.latch_sorRes (a : Nat) (v : W64) : (c.latch a v).sorRes = c.sorRes := by unfold Cluster.latch; split <;> rfl
@[simp] theorem Cluster.latch_resets (a : Nat) (v : W64) : (c.latch a v).resets = c.resets := by unfold Cluster.latch; split <;> rfl
@[simp] theorem Cluster.latch_store (a : Nat) (v : W64) : (c.latch a v).store = c.store := by unfold Cluster.latch; split <;> rfl
@[simp] theorem Cluster.latch_nextOrd (a : Nat) (v : W64) : (c.latch a v).nextOrd = c.nextOrd := by unfold Cluster.latch; split <;> rfl
@[simp] theorem Cluster.latch_moss (a : Nat) (v : W64) : (c.latch a v).moss = c.moss := by unfold Cluster.latch; split <;> rfl
@[simp] theorem Cluster.latch_flt (a : Nat) (v : W64) : (c.latch a v).flt = c.flt := by unfold Cluster.latch; split <;> rfl
@[simp] theorem Cluster.latch_dict (a : Nat) (v : W64) : (c.latch a v).dict = c.dict := by unfold Cluster.latch; split <;> rfl
@[simp] theorem Cluster.latch_tabErr (a : Nat) (v : W64) : (c.latch a v).tabErr = c.tabErr := by unfold Cluster.latch; split <;> rfl
@[simp] theorem Cluster.latch_vgath (a : Nat) (v : W64) : (c.latch a v).vgath = c.vgath := by unfold Cluster.latch; split <;> rfl
@[simp] theorem Cluster.latch_freeCtr (a : Nat) (v : W64) : (c.latch a v).freeCtr = c.freeCtr := by unfold Cluster.latch; split <;> rfl

/-! account -/
@[simp] theorem Cluster.account_powered (ctx k n : Nat) : (c.account ctx k n).powered = c.powered := by simp only [Cluster.account]; split <;> rfl
@[simp] theorem Cluster.account_stage (ctx k n : Nat) : (c.account ctx k n).stage = c.stage := by simp only [Cluster.account]; split <;> rfl
@[simp] theorem Cluster.account_straps (ctx k n : Nat) : (c.account ctx k n).straps = c.straps := by simp only [Cluster.account]; split <;> rfl
@[simp] theorem Cluster.account_stepping (ctx k n : Nat) : (c.account ctx k n).stepping = c.stepping := by simp only [Cluster.account]; split <;> rfl
@[simp] theorem Cluster.account_clk (ctx k n : Nat) : (c.account ctx k n).clk = c.clk := by simp only [Cluster.account]; split <;> rfl
@[simp] theorem Cluster.account_tb (ctx k n : Nat) : (c.account ctx k n).tb = c.tb := by simp only [Cluster.account]; split <;> rfl
@[simp] theorem Cluster.account_tim (ctx k n : Nat) : (c.account ctx k n).tim = c.tim := by simp only [Cluster.account]; split <;> rfl
@[simp] theorem Cluster.account_queues (ctx k n : Nat) : (c.account ctx k n).queues = c.queues := by simp only [Cluster.account]; split <;> rfl
@[simp] theorem Cluster.account_arrs (ctx k n : Nat) : (c.account ctx k n).arrs = c.arrs := by simp only [Cluster.account]; split <;> rfl
@[simp] theorem Cluster.account_refs (ctx k n : Nat) : (c.account ctx k n).refs = c.refs := by simp only [Cluster.account]; split <;> rfl
@[simp] theorem Cluster.account_movs (ctx k n : Nat) : (c.account ctx k n).movs = c.movs := by simp only [Cluster.account]; split <;> rfl
@[simp] theorem Cluster.account_vecs (ctx k n : Nat) : (c.account ctx k n).vecs = c.vecs := by simp only [Cluster.account]; split <;> rfl
@[simp] theorem Cluster.account_feeds (ctx k n : Nat) : (c.account ctx k n).feeds = c.feeds := by simp only [Cluster.account]; split <;> rfl
@[simp] theorem Cluster.account_posts (ctx k n : Nat) : (c.account ctx k n).posts = c.posts := by simp only [Cluster.account]; split <;> rfl
@[simp] theorem Cluster.account_uses (ctx k n : Nat) : (c.account ctx k n).uses = c.uses := by simp only [Cluster.account]; split <;> rfl
@[simp] theorem Cluster.account_cores (ctx k n : Nat) : (c.account ctx k n).cores = c.cores := by simp only [Cluster.account]; split <;> rfl
@[simp] theorem Cluster.account_ctxs (ctx k n : Nat) : (c.account ctx k n).ctxs = c.ctxs := by simp only [Cluster.account]; split <;> rfl
@[simp] theorem Cluster.account_run (ctx k n : Nat) : (c.account ctx k n).run = c.run := by simp only [Cluster.account]; split <;> rfl
@[simp] theorem Cluster.account_freeAt (ctx k n : Nat) : (c.account ctx k n).freeAt = c.freeAt := by simp only [Cluster.account]; split <;> rfl
@[simp] theorem Cluster.account_susp (ctx k n : Nat) : (c.account ctx k n).susp = c.susp := by simp only [Cluster.account]; split <;> rfl
@[simp] theorem Cluster.account_reqs (ctx k n : Nat) : (c.account ctx k n).reqs = c.reqs := by simp only [Cluster.account]; split <;> rfl
@[simp] theorem Cluster.account_rerun (ctx k n : Nat) : (c.account ctx k n).rerun = c.rerun := by simp only [Cluster.account]; split <;> rfl
@[simp] theorem Cluster.account_linings (ctx k n : Nat) : (c.account ctx k n).linings = c.linings := by simp only [Cluster.account]; split <;> rfl
@[simp] theorem Cluster.account_imgs (ctx k n : Nat) : (c.account ctx k n).imgs = c.imgs := by simp only [Cluster.account]; split <;> rfl
@[simp] theorem Cluster.account_intake (ctx k n : Nat) : (c.account ctx k n).intake = c.intake := by simp only [Cluster.account]; split <;> rfl
@[simp] theorem Cluster.account_spd (ctx k n : Nat) : (c.account ctx k n).spd = c.spd := by simp only [Cluster.account]; split <;> rfl
@[simp] theorem Cluster.account_mem (ctx k n : Nat) : (c.account ctx k n).mem = c.mem := by simp only [Cluster.account]; split <;> rfl
@[simp] theorem Cluster.account_memErr (ctx k n : Nat) : (c.account ctx k n).memErr = c.memErr := by simp only [Cluster.account]; split <;> rfl
@[simp] theorem Cluster.account_imem (ctx k n : Nat) : (c.account ctx k n).imem = c.imem := by simp only [Cluster.account]; split <;> rfl
@[simp] theorem Cluster.account_imemErr (ctx k n : Nat) : (c.account ctx k n).imemErr = c.imemErr := by simp only [Cluster.account]; split <;> rfl
@[simp] theorem Cluster.account_dmem (ctx k n : Nat) : (c.account ctx k n).dmem = c.dmem := by simp only [Cluster.account]; split <;> rfl
@[simp] theorem Cluster.account_dmemErr (ctx k n : Nat) : (c.account ctx k n).dmemErr = c.dmemErr := by simp only [Cluster.account]; split <;> rfl
@[simp] theorem Cluster.account_sbuf (ctx k n : Nat) : (c.account ctx k n).sbuf = c.sbuf := by simp only [Cluster.account]; split <;> rfl
@[simp] theorem Cluster.account_acc (ctx k n : Nat) : (c.account ctx k n).acc = c.acc := by simp only [Cluster.account]; split <;> rfl
@[simp] theorem Cluster.account_side (ctx k n : Nat) : (c.account ctx k n).side = c.side := by simp only [Cluster.account]; split <;> rfl
@[simp] theorem Cluster.account_chans (ctx k n : Nat) : (c.account ctx k n).chans = c.chans := by simp only [Cluster.account]; split <;> rfl
@[simp] theorem Cluster.account_lanes (ctx k n : Nat) : (c.account ctx k n).lanes = c.lanes := by simp only [Cluster.account]; split <;> rfl
@[simp] theorem Cluster.account_fifos (ctx k n : Nat) : (c.account ctx k n).fifos = c.fifos := by simp only [Cluster.account]; split <;> rfl
@[simp] theorem Cluster.account_turned (ctx k n : Nat) : (c.account ctx k n).turned = c.turned := by simp only [Cluster.account]; split <;> rfl
@[simp] theorem Cluster.account_winOld (ctx k n : Nat) : (c.account ctx k n).winOld = c.winOld := by simp only [Cluster.account]; split <;> rfl
@[simp] theorem Cluster.account_fabOut (ctx k n : Nat) : (c.account ctx k n).fabOut = c.fabOut := by simp only [Cluster.account]; split <;> rfl
@[simp] theorem Cluster.account_waiters (ctx k n : Nat) : (c.account ctx k n).waiters = c.waiters := by simp only [Cluster.account]; split <;> rfl
@[simp] theorem Cluster.account_syncOps (ctx k n : Nat) : (c.account ctx k n).syncOps = c.syncOps := by simp only [Cluster.account]; split <;> rfl
@[simp] theorem Cluster.account_acks (ctx k n : Nat) : (c.account ctx k n).acks = c.acks := by simp only [Cluster.account]; split <;> rfl
@[simp] theorem Cluster.account_xlat (ctx k n : Nat) : (c.account ctx k n).xlat = c.xlat := by simp only [Cluster.account]; split <;> rfl
@[simp] theorem Cluster.account_syncIn (ctx k n : Nat) : (c.account ctx k n).syncIn = c.syncIn := by simp only [Cluster.account]; split <;> rfl
@[simp] theorem Cluster.account_rdesc (ctx k n : Nat) : (c.account ctx k n).rdesc = c.rdesc := by simp only [Cluster.account]; split <;> rfl
@[simp] theorem Cluster.account_prod (ctx k n : Nat) : (c.account ctx k n).prod = c.prod := by simp only [Cluster.account]; split <;> rfl
@[simp] theorem Cluster.account_cons (ctx k n : Nat) : (c.account ctx k n).cons = c.cons := by simp only [Cluster.account]; split <;> rfl
@[simp] theorem Cluster.account_consOld (ctx k n : Nat) : (c.account ctx k n).consOld = c.consOld := by simp only [Cluster.account]; split <;> rfl
@[simp] theorem Cluster.account_pads (ctx k n : Nat) : (c.account ctx k n).pads = c.pads := by simp only [Cluster.account]; split <;> rfl
@[simp] theorem Cluster.account_sdesc0 (ctx k n : Nat) : (c.account ctx k n).sdesc0 = c.sdesc0 := by simp only [Cluster.account]; split <;> rfl
@[simp] theorem Cluster.account_sdesc1 (ctx k n : Nat) : (c.account ctx k n).sdesc1 = c.sdesc1 := by simp only [Cluster.account]; split <;> rfl
@[simp] theorem Cluster.account_scount (ctx k n : Nat) : (c.account ctx k n).scount = c.scount := by simp only [Cluster.account]; split <;> rfl
@[simp] theorem Cluster.account_sround (ctx k n : Nat) : (c.account ctx k n).sround = c.sround := by simp only [Cluster.account]; split <;> rfl
@[simp] theorem Cluster.account_sacc (ctx k n : Nat) : (c.account ctx k n).sacc = c.sacc := by simp only [Cluster.account]; split <;> rfl
@[simp] theorem Cluster.account_sorRes (ctx k n : Nat) : (c.account ctx k n).sorRes = c.sorRes := by simp only [Cluster.account]; split <;> rfl
@[simp] theorem Cluster.account_resets (ctx k n : Nat) : (c.account ctx k n).resets = c.resets := by simp only [Cluster.account]; split <;> rfl
@[simp] theorem Cluster.account_store (ctx k n : Nat) : (c.account ctx k n).store = c.store := by simp only [Cluster.account]; split <;> rfl
@[simp] theorem Cluster.account_nextOrd (ctx k n : Nat) : (c.account ctx k n).nextOrd = c.nextOrd := by simp only [Cluster.account]; split <;> rfl
@[simp] theorem Cluster.account_moss (ctx k n : Nat) : (c.account ctx k n).moss = c.moss := by simp only [Cluster.account]; split <;> rfl
@[simp] theorem Cluster.account_flt (ctx k n : Nat) : (c.account ctx k n).flt = c.flt := by simp only [Cluster.account]; split <;> rfl
@[simp] theorem Cluster.account_dict (ctx k n : Nat) : (c.account ctx k n).dict = c.dict := by simp only [Cluster.account]; split <;> rfl
@[simp] theorem Cluster.account_tabErr (ctx k n : Nat) : (c.account ctx k n).tabErr = c.tabErr := by simp only [Cluster.account]; split <;> rfl
@[simp] theorem Cluster.account_vgath (ctx k n : Nat) : (c.account ctx k n).vgath = c.vgath := by simp only [Cluster.account]; split <;> rfl
@[simp] theorem Cluster.account_freeCtr (ctx k n : Nat) : (c.account ctx k n).freeCtr = c.freeCtr := by simp only [Cluster.account]; split <;> rfl

/-! Reads of an element after its update, and of the others. -/
theorem Cluster.ctx_setCtx_self (k : Nat) (x : Ctx) (h : k < 64) : (c.setCtx k x).ctx k = x := vat_vset_self _ _ _ _ h
theorem Cluster.ctx_setCtx_ne (k j : Nat) (x : Ctx) (h : j ≠ k) : (c.setCtx k x).ctx j = c.ctx j := vat_vset_ne _ _ _ _ _ h
@[simp] theorem Cluster.ctx_setCore (k j : Nat) (x : Core) : (c.setCore k x).ctx j = c.ctx j := rfl
@[simp] theorem Cluster.ctx_setQueue (k j : Nat) (x : EngQ) : (c.setQueue k x).ctx j = c.ctx j := rfl
@[simp] theorem Cluster.ctx_setArr (k j : Nat) (x : ArrSt) : (c.setArr k x).ctx j = c.ctx j := rfl
@[simp] theorem Cluster.ctx_setChan (k j : Nat) (x : Chan) : (c.setChan k x).ctx j = c.ctx j := rfl
@[simp] theorem Cluster.ctx_setLane (k j : Nat) (x : Lane) : (c.setLane k x).ctx j = c.ctx j := rfl
@[simp] theorem Cluster.ctx_setReg (k a : Nat) (v : W64) : (c.setReg a v).ctx k = c.ctx k := rfl
@[simp] theorem Cluster.ctx_setDict (k i sub v : Nat) : (c.setDict i sub v).ctx k = c.ctx k := rfl
theorem Cluster.core_setCore_self (k : Nat) (x : Core) (h : k < 8) : (c.setCore k x).core k = x := vat_vset_self _ _ _ _ h
theorem Cluster.core_setCore_ne (k j : Nat) (x : Core) (h : j ≠ k) : (c.setCore k x).core j = c.core j := vat_vset_ne _ _ _ _ _ h
@[simp] theorem Cluster.core_setCtx (k j : Nat) (x : Ctx) : (c.setCtx k x).core j = c.core j := rfl
@[simp] theorem Cluster.core_setQueue (k j : Nat) (x : EngQ) : (c.setQueue k x).core j = c.core j := rfl
@[simp] theorem Cluster.core_setArr (k j : Nat) (x : ArrSt) : (c.setArr k x).core j = c.core j := rfl
@[simp] theorem Cluster.core_setChan (k j : Nat) (x : Chan) : (c.setChan k x).core j = c.core j := rfl
@[simp] theorem Cluster.core_setLane (k j : Nat) (x : Lane) : (c.setLane k x).core j = c.core j := rfl
@[simp] theorem Cluster.core_setReg (k a : Nat) (v : W64) : (c.setReg a v).core k = c.core k := rfl
@[simp] theorem Cluster.core_setDict (k i sub v : Nat) : (c.setDict i sub v).core k = c.core k := rfl
theorem Cluster.queue_setQueue_self (k : Nat) (x : EngQ) (h : k < 52) : (c.setQueue k x).queue k = x := vat_vset_self _ _ _ _ h
theorem Cluster.queue_setQueue_ne (k j : Nat) (x : EngQ) (h : j ≠ k) : (c.setQueue k x).queue j = c.queue j := vat_vset_ne _ _ _ _ _ h
@[simp] theorem Cluster.queue_setCtx (k j : Nat) (x : Ctx) : (c.setCtx k x).queue j = c.queue j := rfl
@[simp] theorem Cluster.queue_setCore (k j : Nat) (x : Core) : (c.setCore k x).queue j = c.queue j := rfl
@[simp] theorem Cluster.queue_setArr (k j : Nat) (x : ArrSt) : (c.setArr k x).queue j = c.queue j := rfl
@[simp] theorem Cluster.queue_setChan (k j : Nat) (x : Chan) : (c.setChan k x).queue j = c.queue j := rfl
@[simp] theorem Cluster.queue_setLane (k j : Nat) (x : Lane) : (c.setLane k x).queue j = c.queue j := rfl
@[simp] theorem Cluster.queue_setReg (k a : Nat) (v : W64) : (c.setReg a v).queue k = c.queue k := rfl
@[simp] theorem Cluster.queue_setDict (k i sub v : Nat) : (c.setDict i sub v).queue k = c.queue k := rfl
theorem Cluster.arr_setArr_self (k : Nat) (x : ArrSt) (h : k < 32) : (c.setArr k x).arr k = x := vat_vset_self _ _ _ _ h
theorem Cluster.arr_setArr_ne (k j : Nat) (x : ArrSt) (h : j ≠ k) : (c.setArr k x).arr j = c.arr j := vat_vset_ne _ _ _ _ _ h
@[simp] theorem Cluster.arr_setCtx (k j : Nat) (x : Ctx) : (c.setCtx k x).arr j = c.arr j := rfl
@[simp] theorem Cluster.arr_setCore (k j : Nat) (x : Core) : (c.setCore k x).arr j = c.arr j := rfl
@[simp] theorem Cluster.arr_setQueue (k j : Nat) (x : EngQ) : (c.setQueue k x).arr j = c.arr j := rfl
@[simp] theorem Cluster.arr_setChan (k j : Nat) (x : Chan) : (c.setChan k x).arr j = c.arr j := rfl
@[simp] theorem Cluster.arr_setLane (k j : Nat) (x : Lane) : (c.setLane k x).arr j = c.arr j := rfl
@[simp] theorem Cluster.arr_setReg (k a : Nat) (v : W64) : (c.setReg a v).arr k = c.arr k := rfl
@[simp] theorem Cluster.arr_setDict (k i sub v : Nat) : (c.setDict i sub v).arr k = c.arr k := rfl
theorem Cluster.chan_setChan_self (k : Nat) (x : Chan) (h : k < 4) : (c.setChan k x).chan k = x := vat_vset_self _ _ _ _ h
theorem Cluster.chan_setChan_ne (k j : Nat) (x : Chan) (h : j ≠ k) : (c.setChan k x).chan j = c.chan j := vat_vset_ne _ _ _ _ _ h
@[simp] theorem Cluster.chan_setCtx (k j : Nat) (x : Ctx) : (c.setCtx k x).chan j = c.chan j := rfl
@[simp] theorem Cluster.chan_setCore (k j : Nat) (x : Core) : (c.setCore k x).chan j = c.chan j := rfl
@[simp] theorem Cluster.chan_setQueue (k j : Nat) (x : EngQ) : (c.setQueue k x).chan j = c.chan j := rfl
@[simp] theorem Cluster.chan_setArr (k j : Nat) (x : ArrSt) : (c.setArr k x).chan j = c.chan j := rfl
@[simp] theorem Cluster.chan_setLane (k j : Nat) (x : Lane) : (c.setLane k x).chan j = c.chan j := rfl
@[simp] theorem Cluster.chan_setReg (k a : Nat) (v : W64) : (c.setReg a v).chan k = c.chan k := rfl
@[simp] theorem Cluster.chan_setDict (k i sub v : Nat) : (c.setDict i sub v).chan k = c.chan k := rfl
theorem Cluster.lane_setLane_self (k : Nat) (x : Lane) (h : k < 4) : (c.setLane k x).lane k = x := vat_vset_self _ _ _ _ h
theorem Cluster.lane_setLane_ne (k j : Nat) (x : Lane) (h : j ≠ k) : (c.setLane k x).lane j = c.lane j := vat_vset_ne _ _ _ _ _ h
@[simp] theorem Cluster.lane_setCtx (k j : Nat) (x : Ctx) : (c.setCtx k x).lane j = c.lane j := rfl
@[simp] theorem Cluster.lane_setCore (k j : Nat) (x : Core) : (c.setCore k x).lane j = c.lane j := rfl
@[simp] theorem Cluster.lane_setQueue (k j : Nat) (x : EngQ) : (c.setQueue k x).lane j = c.lane j := rfl
@[simp] theorem Cluster.lane_setArr (k j : Nat) (x : ArrSt) : (c.setArr k x).lane j = c.lane j := rfl
@[simp] theorem Cluster.lane_setChan (k j : Nat) (x : Chan) : (c.setChan k x).lane j = c.lane j := rfl
@[simp] theorem Cluster.lane_setReg (k a : Nat) (v : W64) : (c.setReg a v).lane k = c.lane k := rfl
@[simp] theorem Cluster.lane_setDict (k i sub v : Nat) : (c.setDict i sub v).lane k = c.lane k := rfl
@[simp] theorem Cluster.regAt_setCtx (adr : Nat) (k : Nat) (x : Ctx) : (c.setCtx k x).regAt adr = c.regAt adr := rfl
@[simp] theorem Cluster.dictAt_setCtx (ix sb : Nat) (k : Nat) (x : Ctx) : (c.setCtx k x).dictAt ix sb = c.dictAt ix sb := rfl
@[simp] theorem Cluster.regAt_setCore (adr : Nat) (n : Nat) (x : Core) : (c.setCore n x).regAt adr = c.regAt adr := rfl
@[simp] theorem Cluster.dictAt_setCore (ix sb : Nat) (n : Nat) (x : Core) : (c.setCore n x).dictAt ix sb = c.dictAt ix sb := rfl
@[simp] theorem Cluster.regAt_setQueue (adr : Nat) (q : Nat) (x : EngQ) : (c.setQueue q x).regAt adr = c.regAt adr := rfl
@[simp] theorem Cluster.dictAt_setQueue (ix sb : Nat) (q : Nat) (x : EngQ) : (c.setQueue q x).dictAt ix sb = c.dictAt ix sb := rfl
@[simp] theorem Cluster.regAt_setArr (adr : Nat) (a : Nat) (x : ArrSt) : (c.setArr a x).regAt adr = c.regAt adr := rfl
@[simp] theorem Cluster.dictAt_setArr (ix sb : Nat) (a : Nat) (x : ArrSt) : (c.setArr a x).dictAt ix sb = c.dictAt ix sb := rfl
@[simp] theorem Cluster.regAt_setChan (adr : Nat) (k : Nat) (x : Chan) : (c.setChan k x).regAt adr = c.regAt adr := rfl
@[simp] theorem Cluster.dictAt_setChan (ix sb : Nat) (k : Nat) (x : Chan) : (c.setChan k x).dictAt ix sb = c.dictAt ix sb := rfl
@[simp] theorem Cluster.regAt_setLane (adr : Nat) (i : Nat) (x : Lane) : (c.setLane i x).regAt adr = c.regAt adr := rfl
@[simp] theorem Cluster.dictAt_setLane (ix sb : Nat) (i : Nat) (x : Lane) : (c.setLane i x).dictAt ix sb = c.dictAt ix sb := rfl
@[simp] theorem Cluster.dictAt_setReg (ix sb : Nat) (a : Nat) (v : W64) : (c.setReg a v).dictAt ix sb = c.dictAt ix sb := rfl
@[simp] theorem Cluster.regAt_setDict (adr : Nat) (i sub v : Nat) : (c.setDict i sub v).regAt adr = c.regAt adr := rfl

/-! The outcome of a command. -/
theorem done_eq (s : State) (d : Cluster) : done s d = .next { s with cl := d } := rfl
theorem done_next {s t : State} {d : Cluster} (h : done s d = .next t) : t = { s with cl := d } := by
  simp only [done, Host.Outcome.next.injEq] at h; exact h.symm

end Sys2Proof.Machine
end

