-- ==== Sys2Proof/Laws/Canon.lean ====
section
/-! SUPPORT. The canonical form and the identity of the cluster under record updates and the shared combinators. -/

namespace Sys2Proof.Machine

@[simp] theorem Cluster.canon.mem {c : Cluster} (h : c.canon) : Sparse.wf (w := 8) c.mem = true := h.1
@[simp] theorem Cluster.canon.memErr {c : Cluster} (h : c.canon) : Sparse.wf c.memErr = true := h.2.1
@[simp] theorem Cluster.canon.imem {c : Cluster} (h : c.canon) : Sparse.wf (w := 8) c.imem = true := h.2.2.1
@[simp] theorem Cluster.canon.imemErr {c : Cluster} (h : c.canon) : Sparse.wf c.imemErr = true := h.2.2.2.1
@[simp] theorem Cluster.canon.dmem {c : Cluster} (h : c.canon) : Sparse.wf (w := 8) c.dmem = true := h.2.2.2.2.1
@[simp] theorem Cluster.canon.dmemErr {c : Cluster} (h : c.canon) : Sparse.wf c.dmemErr = true := h.2.2.2.2.2.1
@[simp] theorem Cluster.canon.sbuf {c : Cluster} (h : c.canon) : Sparse.wf (w := 8) c.sbuf = true := h.2.2.2.2.2.2.1
@[simp] theorem Cluster.canon.acc {c : Cluster} (h : c.canon) : Sparse.wf c.acc = true := h.2.2.2.2.2.2.2.1
@[simp] theorem Cluster.canon.side {c : Cluster} (h : c.canon) : Sparse.wf c.side = true := h.2.2.2.2.2.2.2.2.1
@[simp] theorem Cluster.canon.xlat {c : Cluster} (h : c.canon) : Sparse.wf c.xlat = true := h.2.2.2.2.2.2.2.2.2.1
@[simp] theorem Cluster.canon.rdesc {c : Cluster} (h : c.canon) : Sparse.wf c.rdesc = true := h.2.2.2.2.2.2.2.2.2.2.1
@[simp] theorem Cluster.canon.prod {c : Cluster} (h : c.canon) : Sparse.wf c.prod = true := h.2.2.2.2.2.2.2.2.2.2.2.1
@[simp] theorem Cluster.canon.cons {c : Cluster} (h : c.canon) : Sparse.wf c.cons = true := h.2.2.2.2.2.2.2.2.2.2.2.2.1
@[simp] theorem Cluster.canon.sdesc0 {c : Cluster} (h : c.canon) : Sparse.wf c.sdesc0 = true := h.2.2.2.2.2.2.2.2.2.2.2.2.2.1
@[simp] theorem Cluster.canon.sdesc1 {c : Cluster} (h : c.canon) : Sparse.wf c.sdesc1 = true := h.2.2.2.2.2.2.2.2.2.2.2.2.2.2.1
@[simp] theorem Cluster.canon.scount {c : Cluster} (h : c.canon) : Sparse.wf c.scount = true := h.2.2.2.2.2.2.2.2.2.2.2.2.2.2.2.1
@[simp] theorem Cluster.canon.sround {c : Cluster} (h : c.canon) : Sparse.wf c.sround = true := h.2.2.2.2.2.2.2.2.2.2.2.2.2.2.2.2.1
@[simp] theorem Cluster.canon.reg {c : Cluster} (h : c.canon) : Sparse.wf c.reg = true := h.2.2.2.2.2.2.2.2.2.2.2.2.2.2.2.2.2.1
@[simp] theorem Cluster.canon.dict {c : Cluster} (h : c.canon) : Sparse.wf c.dict = true := h.2.2.2.2.2.2.2.2.2.2.2.2.2.2.2.2.2.2.1
@[simp] theorem Cluster.canon.tabErr {c : Cluster} (h : c.canon) : Sparse.wf c.tabErr = true := h.2.2.2.2.2.2.2.2.2.2.2.2.2.2.2.2.2.2.2

@[simp] theorem canon_mk {xpowered xstage xstraps xstepping xclk xtb xtim xqueues xarrs xrefs xmovs xvecs xfeeds xposts xuses xcores xctxs xrun xfreeAt xsusp xreqs xrerun xlinings ximgs xintake xspd xmem xmemErr ximem ximemErr xdmem xdmemErr xsbuf xacc xside xchans xlanes xfifos xturned xwinOld xfabOut xwaiters xsyncOps xacks xxlat xsyncIn xrdesc xprod xcons xconsOld xpads xsdesc0 xsdesc1 xscount xsround xsacc xsorRes xresets xstore xnextOrd xmoss xflt xreg xdict xtabErr xvgath xfreeCtr} :
    Cluster.canon ⟨xpowered, xstage, xstraps, xstepping, xclk, xtb, xtim, xqueues, xarrs, xrefs, xmovs, xvecs, xfeeds, xposts, xuses, xcores, xctxs, xrun, xfreeAt, xsusp, xreqs, xrerun, xlinings, ximgs, xintake, xspd, xmem, xmemErr, ximem, ximemErr, xdmem, xdmemErr, xsbuf, xacc, xside, xchans, xlanes, xfifos, xturned, xwinOld, xfabOut, xwaiters, xsyncOps, xacks, xxlat, xsyncIn, xrdesc, xprod, xcons, xconsOld, xpads, xsdesc0, xsdesc1, xscount, xsround, xsacc, xsorRes, xresets, xstore, xnextOrd, xmoss, xflt, xreg, xdict, xtabErr, xvgath, xfreeCtr⟩ ↔
      Sparse.wf (w := 8) xmem = true ∧ Sparse.wf xmemErr = true ∧ Sparse.wf (w := 8) ximem = true ∧ Sparse.wf ximemErr = true ∧ Sparse.wf (w := 8) xdmem = true ∧ Sparse.wf xdmemErr = true ∧ Sparse.wf (w := 8) xsbuf = true ∧ Sparse.wf xacc = true ∧ Sparse.wf xside = true ∧ Sparse.wf xxlat = true ∧ Sparse.wf xrdesc = true ∧ Sparse.wf xprod = true ∧ Sparse.wf xcons = true ∧ Sparse.wf xsdesc0 = true ∧ Sparse.wf xsdesc1 = true ∧ Sparse.wf xscount = true ∧ Sparse.wf xsround = true ∧ Sparse.wf xreg = true ∧ Sparse.wf xdict = true ∧ Sparse.wf xtabErr = true := Iff.rfl
@[simp] theorem ident_mk {xpowered xstage xstraps xstepping xclk xtb xtim xqueues xarrs xrefs xmovs xvecs xfeeds xposts xuses xcores xctxs xrun xfreeAt xsusp xreqs xrerun xlinings ximgs xintake xspd xmem xmemErr ximem ximemErr xdmem xdmemErr xsbuf xacc xside xchans xlanes xfifos xturned xwinOld xfabOut xwaiters xsyncOps xacks xxlat xsyncIn xrdesc xprod xcons xconsOld xpads xsdesc0 xsdesc1 xscount xsround xsacc xsorRes xresets xstore xnextOrd xmoss xflt xreg xdict xtabErr xvgath xfreeCtr} :
    Cluster.ident ⟨xpowered, xstage, xstraps, xstepping, xclk, xtb, xtim, xqueues, xarrs, xrefs, xmovs, xvecs, xfeeds, xposts, xuses, xcores, xctxs, xrun, xfreeAt, xsusp, xreqs, xrerun, xlinings, ximgs, xintake, xspd, xmem, xmemErr, ximem, ximemErr, xdmem, xdmemErr, xsbuf, xacc, xside, xchans, xlanes, xfifos, xturned, xwinOld, xfabOut, xwaiters, xsyncOps, xacks, xxlat, xsyncIn, xrdesc, xprod, xcons, xconsOld, xpads, xsdesc0, xsdesc1, xscount, xsround, xsacc, xsorRes, xresets, xstore, xnextOrd, xmoss, xflt, xreg, xdict, xtabErr, xvgath, xfreeCtr⟩ = (xstraps, xstepping) := rfl
@[simp] theorem ident_eta (c : Cluster) : (c.straps, c.stepping) = c.ident := rfl
@[simp] theorem canon_ite {p : Prop} [Decidable p] {a b : Cluster} (ha : a.canon) (hb : b.canon) : (if p then a else b).canon := by
  split <;> assumption
@[simp] theorem ident_ite {p : Prop} [Decidable p] (a b : Cluster) : (if p then a else b).ident = if p then a.ident else b.ident := by
  split <;> rfl

@[simp] theorem Cluster.each_canon {α : Type} {c : Cluster} (l : List α) (f : Cluster → α → Cluster) (h : c.canon)
    (hf : ∀ d x, d.canon → (f d x).canon) : (c.each l f).canon := by
  unfold Cluster.each
  induction l generalizing c with
  | nil => exact h
  | cons x r ih => exact ih (hf c x h)

@[simp] theorem Cluster.each_ident {α : Type} (c : Cluster) (l : List α) (f : Cluster → α → Cluster)
    (hf : ∀ d x, (f d x).ident = d.ident) : (c.each l f).ident = c.ident := by
  unfold Cluster.each
  induction l generalizing c with
  | nil => rfl
  | cons x r ih => exact (ih (f c x)).trans (hf c x)

/-- A property that each round of a fold keeps holds of its result. -/
theorem foldl_keep {α β : Type} (P : β → Prop) (f : β → α → β) (l : List α) {b : β} (h : P b)
    (hf : ∀ b a, P b → P (f b a)) : P (l.foldl f b) := by
  induction l generalizing b with
  | nil => exact h
  | cons x r ih => exact ih (hf b x h)

/-- Folds that carry a result beside the cluster. -/
@[simp] theorem foldl_canon {α : Type} (f : Cluster → α → Cluster) (l : List α) {c : Cluster} (h : c.canon)
    (hf : ∀ d a, d.canon → (f d a).canon) : (l.foldl f c).canon := foldl_keep (fun d => d.canon) f l h hf
@[simp] theorem foldl_ident {α : Type} (f : Cluster → α → Cluster) (l : List α) (c : Cluster)
    (hf : ∀ d a, (f d a).ident = d.ident) : (l.foldl f c).ident = c.ident :=
  foldl_keep (fun d => d.ident = c.ident) f l rfl (fun d a h => (hf d a).trans h)
@[simp] theorem foldl_fst_canon {α β : Type} (f : Cluster × β → α → Cluster × β) (l : List α) {p : Cluster × β} (h : p.1.canon)
    (hf : ∀ d a, d.1.canon → (f d a).1.canon) : (l.foldl f p).1.canon := foldl_keep (fun d => d.1.canon) f l h hf
@[simp] theorem foldl_fst_ident {α β : Type} (f : Cluster × β → α → Cluster × β) (l : List α) (p : Cluster × β)
    (hf : ∀ d a, (f d a).1.ident = d.1.ident) : (l.foldl f p).1.ident = p.1.ident :=
  foldl_keep (fun d => d.1.ident = p.1.ident) f l rfl (fun d a h => (hf d a).trans h)
@[simp] theorem foldl_snd_canon {α β : Type} (f : β × Cluster → α → β × Cluster) (l : List α) {p : β × Cluster} (h : p.2.canon)
    (hf : ∀ d a, d.2.canon → (f d a).2.canon) : (l.foldl f p).2.canon := foldl_keep (fun d => d.2.canon) f l h hf
@[simp] theorem foldl_snd_ident {α β : Type} (f : β × Cluster → α → β × Cluster) (l : List α) (p : β × Cluster)
    (hf : ∀ d a, (f d a).2.ident = d.2.ident) : (l.foldl f p).2.ident = p.2.ident :=
  foldl_keep (fun d => d.2.ident = p.2.ident) f l rfl (fun d a h => (hf d a).trans h)
@[simp] theorem foldl_mid_canon {α β γ : Type} (f : β × Cluster × γ → α → β × Cluster × γ) (l : List α) {p : β × Cluster × γ}
    (h : p.2.1.canon) (hf : ∀ d a, d.2.1.canon → (f d a).2.1.canon) : (l.foldl f p).2.1.canon :=
  foldl_keep (fun d => d.2.1.canon) f l h hf
@[simp] theorem foldl_mid_ident {α β γ : Type} (f : β × Cluster × γ → α → β × Cluster × γ) (l : List α) (p : β × Cluster × γ)
    (hf : ∀ d a, (f d a).2.1.ident = d.2.1.ident) : (l.foldl f p).2.1.ident = p.2.1.ident :=
  foldl_keep (fun d => d.2.1.ident = p.2.1.ident) f l rfl (fun d a h => (hf d a).trans h)

/-- Clearing values of a canonical map and dropping the zeros keeps it canonical. -/
theorem wf_mapNonzero {w : Nat} (f : BitVec w → BitVec w) {m : Sparse w} {lo : Nat} (h : Sparse.wfFrom lo m = true) :
    Sparse.wfFrom lo (List.filter (fun kv => kv.2 != 0#w) (List.map (fun kv => (kv.1, f kv.2)) m)) = true := by
  induction m generalizing lo with
  | nil => rfl
  | cons p r ih =>
    simp only [Sparse.wfFrom, Bool.and_eq_true, decide_eq_true_eq] at h
    rw [List.map_cons, List.filter_cons]
    split
    · rename_i hz
      simp only [Sparse.wfFrom, Bool.and_eq_true, decide_eq_true_eq]
      exact ⟨⟨h.1.1, by simpa using hz⟩, ih h.2⟩
    · exact Sparse.wfFrom_mono (ih h.2) (by omega)

end Sys2Proof.Machine
end

