-- ==== Sys2Proof/Laws/CanonState.lean ====
section
/-! SUPPORT. Every operation of Machine/State.lean keeps the canonical form of the stores and the identity of the cluster. -/

namespace Sys2Proof.Machine

theorem regReset_wf (straps : BitVec 6) (stepping : Byte) : Sparse.wf (regReset straps stepping) = true := by
  have hf : ∀ st : Byte, Sparse.wfFrom 0 ((List.range 12).map (fun i => (0x20001400 + 4 * i, BitVec.ofNat 64 (hwMin st i * 65536 + hwMin st i)))) = true := by
    decide +kernel
  unfold Sparse.wf regReset
  refine Sparse.wfFrom_append (k := 0x2010C100) (Sparse.wfFrom_append (k := 0x20020000) (hf stepping) ?_ ?_ (by decide)) ?_ (by decide +kernel) (by decide)
  · intro p hp
    simp only [List.mem_map, List.mem_range] at hp
    obtain ⟨a, ha, rfl⟩ := hp
    show 0x20001400 + 4 * a < _
    omega
  · have hm : ∀ s : BitVec 6, BitVec.ofNat 64 (s.toNat * 256 + 0x10 + s.toNat % 16) ≠ 0#64 := by decide
    simp only [Sparse.wfFrom, Bool.and_eq_true, decide_eq_true_eq]
    exact ⟨⟨by decide, by decide⟩, ⟨by decide, hm straps⟩, ⟨by decide, by decide⟩, trivial⟩
  · intro p hp
    simp only [List.mem_append, List.mem_map, List.mem_range, List.mem_cons, List.not_mem_nil, or_false] at hp
    rcases hp with ⟨a, ha, rfl⟩ | rfl | rfl | rfl
    · show 0x20001400 + 4 * a < _
      omega
    all_goals (simp only []; omega)
theorem dictReset_wf : Sparse.wf dictReset = true := by decide
theorem atPowerGood_canon (straps : BitVec 6) (stepping : Byte) : (Cluster.atPowerGood straps stepping).canon := by
  have h1 := regReset_wf straps stepping
  have h2 := dictReset_wf
  exact ⟨rfl, rfl, rfl, rfl, rfl, rfl, rfl, rfl, rfl, rfl, rfl, rfl, rfl, rfl, rfl, rfl, rfl, h1, h2, rfl⟩

end Sys2Proof.Machine
end

