-- ==== Sys2Proof/Laws/CanonFlags.lean ====
section
/-! SUPPORT. Every operation of Machine/Flags.lean keeps the canonical form of the stores and the identity of the cluster. -/

namespace Sys2Proof.Machine

@[simp] theorem Cluster.setCtx_canon (c : Cluster) (k : Nat) (x : Ctx) (k_c : c.canon) : (c.setCtx k x).canon :=
  by simp (maxDischargeDepth := 40) +contextual [Cluster.setCtx, *]
@[simp] theorem Cluster.setCtx_ident (c : Cluster) (k : Nat) (x : Ctx) : (c.setCtx k x).ident = c.ident :=
  by simp (maxDischargeDepth := 40) +contextual [Cluster.setCtx, *]
@[simp] theorem Cluster.setCore_canon (c : Cluster) (n : Nat) (x : Core) (k_c : c.canon) : (c.setCore n x).canon :=
  by simp (maxDischargeDepth := 40) +contextual [Cluster.setCore, *]
@[simp] theorem Cluster.setCore_ident (c : Cluster) (n : Nat) (x : Core) : (c.setCore n x).ident = c.ident :=
  by simp (maxDischargeDepth := 40) +contextual [Cluster.setCore, *]
@[simp] theorem Cluster.setQueue_canon (c : Cluster) (q : Nat) (x : EngQ) (k_c : c.canon) : (c.setQueue q x).canon :=
  by simp (maxDischargeDepth := 40) +contextual [Cluster.setQueue, *]
@[simp] theorem Cluster.setQueue_ident (c : Cluster) (q : Nat) (x : EngQ) : (c.setQueue q x).ident = c.ident :=
  by simp (maxDischargeDepth := 40) +contextual [Cluster.setQueue, *]
@[simp] theorem Cluster.setArr_canon (c : Cluster) (a : Nat) (x : ArrSt) (k_c : c.canon) : (c.setArr a x).canon :=
  by simp (maxDischargeDepth := 40) +contextual [Cluster.setArr, *]
@[simp] theorem Cluster.setArr_ident (c : Cluster) (a : Nat) (x : ArrSt) : (c.setArr a x).ident = c.ident :=
  by simp (maxDischargeDepth := 40) +contextual [Cluster.setArr, *]
@[simp] theorem Cluster.setChan_canon (c : Cluster) (k : Nat) (x : Chan) (k_c : c.canon) : (c.setChan k x).canon :=
  by simp (maxDischargeDepth := 40) +contextual [Cluster.setChan, *]
@[simp] theorem Cluster.setChan_ident (c : Cluster) (k : Nat) (x : Chan) : (c.setChan k x).ident = c.ident :=
  by simp (maxDischargeDepth := 40) +contextual [Cluster.setChan, *]
@[simp] theorem Cluster.setLane_canon (c : Cluster) (i : Nat) (x : Lane) (k_c : c.canon) : (c.setLane i x).canon :=
  by simp (maxDischargeDepth := 40) +contextual [Cluster.setLane, *]
@[simp] theorem Cluster.setLane_ident (c : Cluster) (i : Nat) (x : Lane) : (c.setLane i x).ident = c.ident :=
  by simp (maxDischargeDepth := 40) +contextual [Cluster.setLane, *]
@[simp] theorem Cluster.setReg_canon (c : Cluster) (a : Nat) (v : W64) (k_c : c.canon) : (c.setReg a v).canon :=
  by simp (maxDischargeDepth := 40) +contextual [Cluster.setReg, *]
@[simp] theorem Cluster.setReg_ident (c : Cluster) (a : Nat) (v : W64) : (c.setReg a v).ident = c.ident :=
  by simp (maxDischargeDepth := 40) +contextual [Cluster.setReg, *]
@[simp] theorem Cluster.setDict_canon (c : Cluster) (i : Nat) (sub : Nat) (v : Nat) (k_c : c.canon) : (c.setDict i sub v).canon :=
  by simp (maxDischargeDepth := 40) +contextual [Cluster.setDict, *]
@[simp] theorem Cluster.setDict_ident (c : Cluster) (i : Nat) (sub : Nat) (v : Nat) : (c.setDict i sub v).ident = c.ident :=
  by simp (maxDischargeDepth := 40) +contextual [Cluster.setDict, *]
@[simp] theorem Cluster.setBit_canon (c : Cluster) (a : Nat) (n : Nat) (k_c : c.canon) : (c.setBit a n).canon :=
  by simp (maxDischargeDepth := 40) +contextual [Cluster.setBit, *]
@[simp] theorem Cluster.setBit_ident (c : Cluster) (a : Nat) (n : Nat) : (c.setBit a n).ident = c.ident :=
  by simp (maxDischargeDepth := 40) +contextual [Cluster.setBit, *]
@[simp] theorem Cluster.bump_canon (c : Cluster) (a : Nat) (evt : Nat) (bit : Nat) (n : Nat) (k_c : c.canon) : (c.bump a evt bit n).canon :=
  by simp (maxDischargeDepth := 40) +contextual [Cluster.bump, *]
@[simp] theorem Cluster.bump_ident (c : Cluster) (a : Nat) (evt : Nat) (bit : Nat) (n : Nat) : (c.bump a evt bit n).ident = c.ident :=
  by simp (maxDischargeDepth := 40) +contextual [Cluster.bump, *]
@[simp] theorem Cluster.stick_canon (c : Cluster) (a : Nat) (hi : Nat) (lo : Nat) (n : Nat) (k_c : c.canon) : (c.stick a hi lo n).canon :=
  by simp (maxDischargeDepth := 40) +contextual [Cluster.stick, *]
@[simp] theorem Cluster.stick_ident (c : Cluster) (a : Nat) (hi : Nat) (lo : Nat) (n : Nat) : (c.stick a hi lo n).ident = c.ident :=
  by simp (maxDischargeDepth := 40) +contextual [Cluster.stick, *]
@[simp] theorem Cluster.latch_canon (c : Cluster) (a : Nat) (v : W64) (k_c : c.canon) : (c.latch a v).canon :=
  by simp (maxDischargeDepth := 40) +contextual [Cluster.latch, *]
@[simp] theorem Cluster.latch_ident (c : Cluster) (a : Nat) (v : W64) : (c.latch a v).ident = c.ident :=
  by simp (maxDischargeDepth := 40) +contextual [Cluster.latch, *]
@[simp] theorem Cluster.freeB_canon (c : Cluster) (k_c : c.canon) : c.freeB.2.canon :=
  by simp (maxDischargeDepth := 40) +contextual [Cluster.freeB, *]
@[simp] theorem Cluster.freeB_ident (c : Cluster) : c.freeB.2.ident = c.ident :=
  by simp (maxDischargeDepth := 40) +contextual [Cluster.freeB, *]
@[simp] theorem Cluster.freeBs_canon (c : Cluster) (n : Nat) (k_c : c.canon) : (c.freeBs n).2.canon :=
  by simp (maxDischargeDepth := 40) +contextual [Cluster.freeBs, *]
@[simp] theorem Cluster.freeBs_ident (c : Cluster) (n : Nat) : (c.freeBs n).2.ident = c.ident :=
  by simp (maxDischargeDepth := 40) +contextual [Cluster.freeBs, *]
@[simp] theorem Cluster.freeW_canon (c : Cluster) (k_c : c.canon) : c.freeW.2.canon :=
  by simp (maxDischargeDepth := 40) +contextual [Cluster.freeW, *]
@[simp] theorem Cluster.freeW_ident (c : Cluster) : c.freeW.2.ident = c.ident :=
  by simp (maxDischargeDepth := 40) +contextual [Cluster.freeW, *]
@[simp] theorem Cluster.account_canon (c : Cluster) (ctx : Nat) (k : Nat) (n : Nat) (k_c : c.canon) : (c.account ctx k n).canon :=
  by simp (maxDischargeDepth := 40) +contextual [Cluster.account, *]
@[simp] theorem Cluster.account_ident (c : Cluster) (ctx : Nat) (k : Nat) (n : Nat) : (c.account ctx k n).ident = c.ident :=
  by simp (maxDischargeDepth := 40) +contextual [Cluster.account, *]

end Sys2Proof.Machine
end

