-- ==== Sys2Proof/Laws/CanonOperands.lean ====
section
/-! SUPPORT. Every operation of Machine/Operands.lean keeps the canonical form of the stores and the identity of the cluster. -/

namespace Sys2Proof.Machine

@[simp] theorem Cluster.setTileEmpty_canon (c : Cluster) (n : Nat) (t : Nat) (v : Nat) (k_c : c.canon) : (c.setTileEmpty n t v).canon :=
  by simp (maxDischargeDepth := 40) +contextual [Cluster.setTileEmpty, *]
@[simp] theorem Cluster.setTileEmpty_ident (c : Cluster) (n : Nat) (t : Nat) (v : Nat) : (c.setTileEmpty n t v).ident = c.ident :=
  by simp (maxDischargeDepth := 40) +contextual [Cluster.setTileEmpty, *]
@[simp] theorem Cluster.tileWrite_canon (c : Cluster) (n : Nat) (t : Nat) (r : Nat) (off : Nat) (bs : List Byte) (k_c : c.canon) : (c.tileWrite n t r off bs).canon :=
  by simp (maxDischargeDepth := 40) +contextual [Cluster.tileWrite, *]
@[simp] theorem Cluster.tileWrite_ident (c : Cluster) (n : Nat) (t : Nat) (r : Nat) (off : Nat) (bs : List Byte) : (c.tileWrite n t r off bs).ident = c.ident :=
  by simp (maxDischargeDepth := 40) +contextual [Cluster.tileWrite, *]
@[simp] theorem Cluster.tileStream_canon (c : Cluster) (n : Nat) (t : Nat) (k : Nat) (bs : List Byte) (k_c : c.canon) : (c.tileStream n t k bs).canon :=
  by simp (maxDischargeDepth := 40) +contextual [Cluster.tileStream, *]
@[simp] theorem Cluster.tileStream_ident (c : Cluster) (n : Nat) (t : Nat) (k : Nat) (bs : List Byte) : (c.tileStream n t k bs).ident = c.ident :=
  by simp (maxDischargeDepth := 40) +contextual [Cluster.tileStream, *]
@[simp] theorem Cluster.tileRelease_canon (c : Cluster) (n : Nat) (t : Nat) (k_c : c.canon) : (c.tileRelease n t).canon :=
  by simp (maxDischargeDepth := 40) +contextual [Cluster.tileRelease, *]
@[simp] theorem Cluster.tileRelease_ident (c : Cluster) (n : Nat) (t : Nat) : (c.tileRelease n t).ident = c.ident :=
  by simp (maxDischargeDepth := 40) +contextual [Cluster.tileRelease, *]

end Sys2Proof.Machine
end

