-- ==== Sys2Proof/Laws/CanonOps.lean ====
section
/-! SUPPORT. Every operation of Machine/Ops.lean keeps the canonical form of the stores and the identity of the cluster. -/

namespace Sys2Proof.Machine

@[simp] theorem Cluster.event_canon (c : Cluster) (code : Nat) (data : List Byte) (k_c : c.canon) : (c.event code data).canon :=
  by simp (maxDischargeDepth := 40) +contextual [Cluster.event, *]
@[simp] theorem Cluster.event_ident (c : Cluster) (code : Nat) (data : List Byte) : (c.event code data).ident = c.ident :=
  by simp (maxDischargeDepth := 40) +contextual [Cluster.event, *]
@[simp] theorem Cluster.pendBank_canon (c : Cluster) (p : Nat) (k_c : c.canon) : (c.pendBank p).canon :=
  by simp (maxDischargeDepth := 40) +contextual [Cluster.pendBank, *]
@[simp] theorem Cluster.pendBank_ident (c : Cluster) (p : Nat) : (c.pendBank p).ident = c.ident :=
  by simp (maxDischargeDepth := 40) +contextual [Cluster.pendBank, *]
@[simp] theorem Cluster.pendArr_canon (c : Cluster) (a : Nat) (k_c : c.canon) : (c.pendArr a).canon :=
  by simp (maxDischargeDepth := 40) +contextual [Cluster.pendArr, *]
@[simp] theorem Cluster.pendArr_ident (c : Cluster) (a : Nat) : (c.pendArr a).ident = c.ident :=
  by simp (maxDischargeDepth := 40) +contextual [Cluster.pendArr, *]
@[simp] theorem Cluster.pendCore_canon (c : Cluster) (n : Nat) (k_c : c.canon) : (c.pendCore n).canon :=
  by simp (maxDischargeDepth := 40) +contextual [Cluster.pendCore, *]
@[simp] theorem Cluster.pendCore_ident (c : Cluster) (n : Nat) : (c.pendCore n).ident = c.ident :=
  by simp (maxDischargeDepth := 40) +contextual [Cluster.pendCore, *]
@[simp] theorem Cluster.pendUnit_canon (c : Cluster) (dom : Nat) (inst : Nat) (k_c : c.canon) : (c.pendUnit dom inst).canon :=
  by unfold Cluster.pendUnit; (repeat' (first | split | intro _)) <;> simp (maxDischargeDepth := 40) +contextual [*]
@[simp] theorem Cluster.pendUnit_ident (c : Cluster) (dom : Nat) (inst : Nat) : (c.pendUnit dom inst).ident = c.ident :=
  by unfold Cluster.pendUnit; (repeat' (first | split | intro _)) <;> simp (maxDischargeDepth := 40) +contextual [*]
@[simp] theorem Cluster.setHealth_canon (c : Cluster) (h : Nat) (k_c : c.canon) : (c.setHealth h).canon :=
  by simp (maxDischargeDepth := 40) +contextual [Cluster.setHealth, *]
@[simp] theorem Cluster.setHealth_ident (c : Cluster) (h : Nat) : (c.setHealth h).ident = c.ident :=
  by simp (maxDischargeDepth := 40) +contextual [Cluster.setHealth, *]
@[simp] theorem Cluster.fatalEntry_canon (c : Cluster) (src : Nat) (k_c : c.canon) : (c.fatalEntry src).canon :=
  by simp (maxDischargeDepth := 40) +contextual [Cluster.fatalEntry, *]
@[simp] theorem Cluster.fatalEntry_ident (c : Cluster) (src : Nat) : (c.fatalEntry src).ident = c.ident :=
  by simp (maxDischargeDepth := 40) +contextual [Cluster.fatalEntry, *]
@[simp] theorem Cluster.latchFirst_canon (c : Cluster) (f : FaultIn) (cls : Nat) (esc : Bool) (k_c : c.canon) : (c.latchFirst f cls esc).canon :=
  by simp (maxDischargeDepth := 40) +contextual [Cluster.latchFirst, *]
@[simp] theorem Cluster.latchFirst_ident (c : Cluster) (f : FaultIn) (cls : Nat) (esc : Bool) : (c.latchFirst f cls esc).ident = c.ident :=
  by simp (maxDischargeDepth := 40) +contextual [Cluster.latchFirst, *]
@[simp] theorem Cluster.health_canon (c : Cluster) (cls : Nat) (src : Nat) (k_c : c.canon) : (c.health cls src).canon :=
  by simp (maxDischargeDepth := 40) +contextual [Cluster.health, *]
@[simp] theorem Cluster.health_ident (c : Cluster) (cls : Nat) (src : Nat) : (c.health cls src).ident = c.ident :=
  by simp (maxDischargeDepth := 40) +contextual [Cluster.health, *]
@[simp] theorem Cluster.takeFault_canon (c : Cluster) (f : FaultIn) (k_c : c.canon) : (c.takeFault f).canon :=
  by simp (maxDischargeDepth := 40) +contextual [Cluster.takeFault, *]
@[simp] theorem Cluster.takeFault_ident (c : Cluster) (f : FaultIn) : (c.takeFault f).ident = c.ident :=
  by simp (maxDischargeDepth := 40) +contextual [Cluster.takeFault, *]
@[simp] theorem Cluster.record_canon (c : Cluster) (f : FaultIn) (k_c : c.canon) : (c.record f).canon :=
  by simp (maxDischargeDepth := 40) +contextual [Cluster.record, *]
@[simp] theorem Cluster.record_ident (c : Cluster) (f : FaultIn) : (c.record f).ident = c.ident :=
  by simp (maxDischargeDepth := 40) +contextual [Cluster.record, *]
@[simp] theorem Cluster.collect_canon (c : Cluster) (k_c : c.canon) : c.collect.canon :=
  by simp (maxDischargeDepth := 40) +contextual [Cluster.collect, *]
@[simp] theorem Cluster.collect_ident (c : Cluster) : c.collect.ident = c.ident :=
  by simp (maxDischargeDepth := 40) +contextual [Cluster.collect, *]
@[simp] theorem Cluster.keepTorn_canon (c : Cluster) (k : Nat) (k_c : c.canon) : (c.keepTorn k).canon :=
  by unfold Cluster.keepTorn; (repeat' (first | split | intro _)) <;> simp (maxDischargeDepth := 40) +contextual [*]
@[simp] theorem Cluster.keepTorn_ident (c : Cluster) (k : Nat) : (c.keepTorn k).ident = c.ident :=
  by unfold Cluster.keepTorn; (repeat' (first | split | intro _)) <;> simp (maxDischargeDepth := 40) +contextual [*]
@[simp] theorem Cluster.teardown_canon (c : Cluster) (k : Nat) (k_c : c.canon) : (c.teardown k).canon :=
  by simp (maxDischargeDepth := 40) +contextual [Cluster.teardown, *]
@[simp] theorem Cluster.teardown_ident (c : Cluster) (k : Nat) : (c.teardown k).ident = c.ident :=
  by simp (maxDischargeDepth := 40) +contextual [Cluster.teardown, *]
@[simp] theorem Cluster.raise_canon (c : Cluster) (src : Nat) (inst : Nat) (ctx : Nat) (k_c : c.canon) : (c.raise src inst ctx).canon :=
  by unfold Cluster.raise; dsimp only; (repeat' split) <;> simp (maxDischargeDepth := 40) +contextual [*]
@[simp] theorem Cluster.raise_ident (c : Cluster) (src : Nat) (inst : Nat) (ctx : Nat) : (c.raise src inst ctx).ident = c.ident :=
  by unfold Cluster.raise; dsimp only; (repeat' split) <;> simp (maxDischargeDepth := 40) +contextual [*]
@[simp] theorem Cluster.raise0_canon (c : Cluster) (src : Nat) (inst : Nat) (k_c : c.canon) : (c.raise0 src inst).canon :=
  by unfold Cluster.raise0; (repeat' (first | split | intro _)) <;> simp (maxDischargeDepth := 40) +contextual [*]
@[simp] theorem Cluster.raise0_ident (c : Cluster) (src : Nat) (inst : Nat) : (c.raise0 src inst).ident = c.ident :=
  by unfold Cluster.raise0; (repeat' (first | split | intro _)) <;> simp (maxDischargeDepth := 40) +contextual [*]
@[simp] theorem Cluster.disarm_canon (c : Cluster) (src : Nat) (k_c : c.canon) : (c.disarm src).canon :=
  by simp (maxDischargeDepth := 40) +contextual [Cluster.disarm, *]
@[simp] theorem Cluster.disarm_ident (c : Cluster) (src : Nat) : (c.disarm src).ident = c.ident :=
  by simp (maxDischargeDepth := 40) +contextual [Cluster.disarm, *]
@[simp] theorem Cluster.tabFix_canon (c : Cluster) (keys : List Nat) (k_c : c.canon) : (c.tabFix keys).1.canon :=
  by
  unfold Cluster.tabFix
  exact foldl_keep (fun d : Cluster => d.canon) _ _ k_c (fun d kv h => by (try dsimp only); split <;> simp (maxDischargeDepth := 40) +contextual [*])
@[simp] theorem Cluster.tabFix_ident (c : Cluster) (keys : List Nat) : (c.tabFix keys).1.ident = c.ident :=
  by
  unfold Cluster.tabFix
  exact foldl_keep (fun d : Cluster => d.ident = c.ident) _ _ rfl (fun d kv h => by (try dsimp only); split <;> simp (maxDischargeDepth := 40) +contextual [*])

end Sys2Proof.Machine
end

