-- ==== Sys2Proof/Laws/CanonPort.lean ====
section
/-! SUPPORT. Every operation of Machine/Port.lean keeps the canonical form of the stores and the identity of the cluster. -/

namespace Sys2Proof.Machine

@[simp] theorem Cluster.emit_canon (c : Cluster) (l : Nat) (f : Flit) (k_c : c.canon) : (c.emit l f).canon :=
  by simp (maxDischargeDepth := 40) +contextual [Cluster.emit, *]
@[simp] theorem Cluster.emit_ident (c : Cluster) (l : Nat) (f : Flit) : (c.emit l f).ident = c.ident :=
  by simp (maxDischargeDepth := 40) +contextual [Cluster.emit, *]
@[simp] theorem Cluster.flushAck_canon (c : Cluster) (l : Nat) (k_c : c.canon) : (c.flushAck l).canon :=
  by simp (maxDischargeDepth := 40) +contextual [Cluster.flushAck, *]
@[simp] theorem Cluster.flushAck_ident (c : Cluster) (l : Nat) : (c.flushAck l).ident = c.ident :=
  by simp (maxDischargeDepth := 40) +contextual [Cluster.flushAck, *]
@[simp] theorem Cluster.pumpLane_canon (c : Cluster) (l : Nat) (k_c : c.canon) : (c.pumpLane l).canon :=
  by unfold Cluster.pumpLane; dsimp only; (repeat' split) <;> simp (maxDischargeDepth := 40) +contextual [*]
@[simp] theorem Cluster.pumpLane_ident (c : Cluster) (l : Nat) : (c.pumpLane l).ident = c.ident :=
  by unfold Cluster.pumpLane; dsimp only; (repeat' split) <;> simp (maxDischargeDepth := 40) +contextual [*]
@[simp] theorem Cluster.pump_canon (c : Cluster) (k_c : c.canon) : c.pump.canon :=
  by simp (maxDischargeDepth := 40) +contextual [Cluster.pump, *]
@[simp] theorem Cluster.pump_ident (c : Cluster) : c.pump.ident = c.ident :=
  by simp (maxDischargeDepth := 40) +contextual [Cluster.pump, *]
@[simp] theorem Cluster.sendFlit_canon (c : Cluster) (h : BitVec 128) (payload : List Byte) (k_c : c.canon) : (c.sendFlit h payload).canon :=
  by simp (maxDischargeDepth := 40) +contextual [Cluster.sendFlit, *]
@[simp] theorem Cluster.sendFlit_ident (c : Cluster) (h : BitVec 128) (payload : List Byte) : (c.sendFlit h payload).ident = c.ident :=
  by simp (maxDischargeDepth := 40) +contextual [Cluster.sendFlit, *]
@[simp] theorem Cluster.laneDown_canon (c : Cluster) (l : Nat) (k_c : c.canon) : (c.laneDown l).canon :=
  by simp (maxDischargeDepth := 40) +contextual [Cluster.laneDown, *]
@[simp] theorem Cluster.laneDown_ident (c : Cluster) (l : Nat) : (c.laneDown l).ident = c.ident :=
  by simp (maxDischargeDepth := 40) +contextual [Cluster.laneDown, *]
@[simp] theorem Cluster.resendFrom_canon (c : Cluster) (l : Nat) (y2 : Nat) (y3 : Nat) (k_c : c.canon)  : (c.resendFrom l y2 y3).canon :=
  by
  induction y2 generalizing c y3 with
  | zero => exact k_c
  | succ n ih =>
    unfold Cluster.resendFrom
    (try dsimp only)
    split
    · exact k_c
    · split
      · exact k_c
      · split
        · simp (maxDischargeDepth := 40) +contextual [*]
        · apply ih; simp (maxDischargeDepth := 40) +contextual [*]
@[simp] theorem Cluster.resendFrom_ident (c : Cluster) (l : Nat) (y2 : Nat) (y3 : Nat)  : (c.resendFrom l y2 y3).ident = c.ident :=
  by
  induction y2 generalizing c y3 with
  | zero => rfl
  | succ n ih =>
    unfold Cluster.resendFrom
    (try dsimp only)
    split
    · rfl
    · split
      · rfl
      · split
        · simp (maxDischargeDepth := 40) +contextual [*]
        · rw [ih]; simp (maxDischargeDepth := 40) +contextual [*]
@[simp] theorem Cluster.resendAll_canon (c : Cluster) (l : Nat) (k_c : c.canon) : (c.resendAll l).canon :=
  by simp (maxDischargeDepth := 40) +contextual [Cluster.resendAll, *]
@[simp] theorem Cluster.resendAll_ident (c : Cluster) (l : Nat) : (c.resendAll l).ident = c.ident :=
  by simp (maxDischargeDepth := 40) +contextual [Cluster.resendAll, *]
@[simp] theorem Cluster.takeAck_canon (c : Cluster) (l : Nat) (f : Flit) (k_c : c.canon) : (c.takeAck l f).canon :=
  by simp (maxDischargeDepth := 40) +contextual [Cluster.takeAck, *]
@[simp] theorem Cluster.takeAck_ident (c : Cluster) (l : Nat) (f : Flit) : (c.takeAck l f).ident = c.ident :=
  by simp (maxDischargeDepth := 40) +contextual [Cluster.takeAck, *]
@[simp] theorem Cluster.nak_canon (c : Cluster) (l : Nat) (k_c : c.canon) : (c.nak l).canon :=
  by simp (maxDischargeDepth := 40) +contextual [Cluster.nak, *]
@[simp] theorem Cluster.nak_ident (c : Cluster) (l : Nat) : (c.nak l).ident = c.ident :=
  by simp (maxDischargeDepth := 40) +contextual [Cluster.nak, *]
@[simp] theorem Cluster.sequence_canon (c : Cluster) (l : Nat) (f : Flit) (k_c : c.canon) : (c.sequence l f).1.canon :=
  by unfold Cluster.sequence; dsimp only; (repeat' split) <;> simp (maxDischargeDepth := 40) +contextual [*]
@[simp] theorem Cluster.sequence_ident (c : Cluster) (l : Nat) (f : Flit) : (c.sequence l f).1.ident = c.ident :=
  by unfold Cluster.sequence; dsimp only; (repeat' split) <;> simp (maxDischargeDepth := 40) +contextual [*]
@[simp] theorem Cluster.accept_canon (c : Cluster) (l : Nat) (f : Flit) (k_c : c.canon) : (c.accept l f).1.canon :=
  by unfold Cluster.accept; dsimp only; (repeat' split) <;> simp (maxDischargeDepth := 40) +contextual [*]
@[simp] theorem Cluster.accept_ident (c : Cluster) (l : Nat) (f : Flit) : (c.accept l f).1.ident = c.ident :=
  by unfold Cluster.accept; dsimp only; (repeat' split) <;> simp (maxDischargeDepth := 40) +contextual [*]
@[simp] theorem Cluster.xferLog_canon (c : Cluster) (stat : Nat) (ch : Nat) (op : MacroOp) (k : Nat) (k_c : c.canon) : (c.xferLog stat ch op k).canon :=
  by simp (maxDischargeDepth := 40) +contextual [Cluster.xferLog, *]
@[simp] theorem Cluster.xferLog_ident (c : Cluster) (stat : Nat) (ch : Nat) (op : MacroOp) (k : Nat) : (c.xferLog stat ch op k).ident = c.ident :=
  by simp (maxDischargeDepth := 40) +contextual [Cluster.xferLog, *]
@[simp] theorem Cluster.parkClear_canon (c : Cluster) (ch : Nat) (k_c : c.canon) : (c.parkClear ch).canon :=
  by simp (maxDischargeDepth := 40) +contextual [Cluster.parkClear, *]
@[simp] theorem Cluster.parkClear_ident (c : Cluster) (ch : Nat) : (c.parkClear ch).ident = c.ident :=
  by simp (maxDischargeDepth := 40) +contextual [Cluster.parkClear, *]
@[simp] theorem Cluster.dropReads_canon (c : Cluster) (ch : Nat) (ord : Nat) (k_c : c.canon) : (c.dropReads ch ord).canon :=
  by simp (maxDischargeDepth := 40) +contextual [Cluster.dropReads, *]
@[simp] theorem Cluster.dropReads_ident (c : Cluster) (ch : Nat) (ord : Nat) : (c.dropReads ch ord).ident = c.ident :=
  by simp (maxDischargeDepth := 40) +contextual [Cluster.dropReads, *]
@[simp] theorem Cluster.xferFail_canon (c : Cluster) (ch : Nat) (slot : Nat) (stat : Nat) (k : Nat) (gone : Bool) (k_c : c.canon) : (c.xferFail ch slot stat k gone).canon :=
  by unfold Cluster.xferFail; dsimp only; (repeat' split) <;> simp (maxDischargeDepth := 40) +contextual [*]
@[simp] theorem Cluster.xferFail_ident (c : Cluster) (ch : Nat) (slot : Nat) (stat : Nat) (k : Nat) (gone : Bool) : (c.xferFail ch slot stat k gone).ident = c.ident :=
  by unfold Cluster.xferFail; dsimp only; (repeat' split) <;> simp (maxDischargeDepth := 40) +contextual [*]
@[simp] theorem Cluster.blockDone_canon (c : Cluster) (ch : Nat) (ord : Nat) (k : Nat) (k_c : c.canon) : (c.blockDone ch ord k).canon :=
  by unfold Cluster.blockDone; dsimp only; (repeat' split) <;> simp (maxDischargeDepth := 40) +contextual [*]
@[simp] theorem Cluster.blockDone_ident (c : Cluster) (ch : Nat) (ord : Nat) (k : Nat) : (c.blockDone ch ord k).ident = c.ident :=
  by unfold Cluster.blockDone; dsimp only; (repeat' split) <;> simp (maxDischargeDepth := 40) +contextual [*]
@[simp] theorem Cluster.addGroup_canon (c : Cluster) (cls : Nat) (ctx : Nat) (done_ : BDone) (rs : List BReq) (k_c : c.canon) : (c.addGroup cls ctx done_ rs).canon :=
  by simp (maxDischargeDepth := 40) +contextual [Cluster.addGroup, *]
@[simp] theorem Cluster.addGroup_ident (c : Cluster) (cls : Nat) (ctx : Nat) (done_ : BDone) (rs : List BReq) : (c.addGroup cls ctx done_ rs).ident = c.ident :=
  by simp (maxDischargeDepth := 40) +contextual [Cluster.addGroup, *]
@[simp] theorem Cluster.landData_canon (c : Cluster) (h : BitVec 128) (payload : List Byte) (k_c : c.canon) : (c.landData h payload).canon :=
  by unfold Cluster.landData; dsimp only; (repeat' split) <;> simp (maxDischargeDepth := 40) +contextual [*]
@[simp] theorem Cluster.landData_ident (c : Cluster) (h : BitVec 128) (payload : List Byte) : (c.landData h payload).ident = c.ident :=
  by unfold Cluster.landData; dsimp only; (repeat' split) <;> simp (maxDischargeDepth := 40) +contextual [*]
@[simp] theorem Cluster.rdData_canon (c : Cluster) (h : BitVec 128) (payload : List Byte) (k_c : c.canon) : (c.rdData h payload).canon :=
  by simp (maxDischargeDepth := 40) +contextual [Cluster.rdData, *]
@[simp] theorem Cluster.rdData_ident (c : Cluster) (h : BitVec 128) (payload : List Byte) : (c.rdData h payload).ident = c.ident :=
  by simp (maxDischargeDepth := 40) +contextual [Cluster.rdData, *]
@[simp] theorem Cluster.ackBlock_canon (c : Cluster) (h : BitVec 128) (k_c : c.canon) : (c.ackBlock h).canon :=
  by unfold Cluster.ackBlock; dsimp only; (repeat' split) <;> simp (maxDischargeDepth := 40) +contextual [*]
@[simp] theorem Cluster.ackBlock_ident (c : Cluster) (h : BitVec 128) : (c.ackBlock h).ident = c.ident :=
  by unfold Cluster.ackBlock; dsimp only; (repeat' split) <;> simp (maxDischargeDepth := 40) +contextual [*]
@[simp] theorem Cluster.errBlock_canon (c : Cluster) (h : BitVec 128) (stat : Nat) (k_c : c.canon) : (c.errBlock h stat).canon :=
  by unfold Cluster.errBlock; dsimp only; (repeat' split) <;> simp (maxDischargeDepth := 40) +contextual [*]
@[simp] theorem Cluster.errBlock_ident (c : Cluster) (h : BitVec 128) (stat : Nat) : (c.errBlock h stat).ident = c.ident :=
  by unfold Cluster.errBlock; dsimp only; (repeat' split) <;> simp (maxDischargeDepth := 40) +contextual [*]

end Sys2Proof.Machine
end

