-- ==== Sys2Proof/Laws/CanonLining.lean ====
section
/-! SUPPORT. Every operation of Machine/Lining.lean keeps the canonical form of the stores and the identity of the cluster. -/

namespace Sys2Proof.Machine

theorem Cluster.canon_filter {c : Cluster} (k : c.canon) (xi xr xs xe xl xa xo xc xp xq) (f1 f2 f3 f4 f5 f6 f7 f8 f9 f10) :
    Cluster.canon { c with
      imgs := xi
      reqs := xr
      susp := xs
      rerun := xe
      linings := xl
      reg := c.reg.filter f1
      rdesc := c.rdesc.filter f2
      prod := c.prod.filter f3
      cons := c.cons.filter f4
      consOld := xc
      pads := xp
      resets := xq
      sdesc0 := c.sdesc0.filter f5
      sdesc1 := c.sdesc1.filter f6
      scount := c.scount.filter f7
      sround := c.sround.filter f8
      sacc := xa
      sorRes := xo
      xlat := c.xlat.filter f9
      tabErr := c.tabErr.filter f10 } :=
  ⟨k.mem, k.memErr, k.imem, k.imemErr, k.dmem, k.dmemErr, k.sbuf, k.acc, k.side, Sparse.wf_filter _ k.xlat, Sparse.wf_filter _ k.rdesc,
    Sparse.wf_filter _ k.prod, Sparse.wf_filter _ k.cons, Sparse.wf_filter _ k.sdesc0, Sparse.wf_filter _ k.sdesc1,
    Sparse.wf_filter _ k.scount, Sparse.wf_filter _ k.sround, Sparse.wf_filter _ k.reg, k.dict, Sparse.wf_filter _ k.tabErr⟩
@[simp] theorem Cluster.spFenceCheck_canon (c : Cluster) (n : Nat) (k_c : c.canon) : (c.spFenceCheck n).canon :=
  by unfold Cluster.spFenceCheck; dsimp only; (repeat' split) <;> simp (maxDischargeDepth := 40) +contextual [*]
@[simp] theorem Cluster.spFenceCheck_ident (c : Cluster) (n : Nat) : (c.spFenceCheck n).ident = c.ident :=
  by unfold Cluster.spFenceCheck; dsimp only; (repeat' split) <;> simp (maxDischargeDepth := 40) +contextual [*]
@[simp] theorem Cluster.sigFenceCheck_canon (c : Cluster) (n : Nat) (k_c : c.canon) : (c.sigFenceCheck n).canon :=
  by unfold Cluster.sigFenceCheck; dsimp only; (repeat' split) <;> simp (maxDischargeDepth := 40) +contextual [*]
@[simp] theorem Cluster.sigFenceCheck_ident (c : Cluster) (n : Nat) : (c.sigFenceCheck n).ident = c.ident :=
  by unfold Cluster.sigFenceCheck; dsimp only; (repeat' split) <;> simp (maxDischargeDepth := 40) +contextual [*]
@[simp] theorem Cluster.logRefused_canon (c : Cluster) (n : Nat) (h : BitVec 128) (reason : Nat) (k_c : c.canon) : (c.logRefused n h reason).canon :=
  by simp (maxDischargeDepth := 40) +contextual [Cluster.logRefused, *]
@[simp] theorem Cluster.logRefused_ident (c : Cluster) (n : Nat) (h : BitVec 128) (reason : Nat) : (c.logRefused n h reason).ident = c.ident :=
  by simp (maxDischargeDepth := 40) +contextual [Cluster.logRefused, *]
@[simp] theorem Cluster.sporeOutcome_canon (c : Cluster) (n : Nat) (slot : Nat) (refused : Option Nat) (k_c : c.canon) : (c.sporeOutcome n slot refused).canon :=
  by unfold Cluster.sporeOutcome; dsimp only; (repeat' split) <;> simp (maxDischargeDepth := 40) +contextual [*]
@[simp] theorem Cluster.sporeOutcome_ident (c : Cluster) (n : Nat) (slot : Nat) (refused : Option Nat) : (c.sporeOutcome n slot refused).ident = c.ident :=
  by unfold Cluster.sporeOutcome; dsimp only; (repeat' split) <;> simp (maxDischargeDepth := 40) +contextual [*]
@[simp] theorem Cluster.logSignal_canon (c : Cluster) (n : Nat) (g : SigSlot) (stat : Nat) (k_c : c.canon) : (c.logSignal n g stat).canon :=
  by simp (maxDischargeDepth := 40) +contextual [Cluster.logSignal, *]
@[simp] theorem Cluster.logSignal_ident (c : Cluster) (n : Nat) (g : SigSlot) (stat : Nat) : (c.logSignal n g stat).ident = c.ident :=
  by simp (maxDischargeDepth := 40) +contextual [Cluster.logSignal, *]
@[simp] theorem Cluster.signalOutcome_canon (c : Cluster) (n : Nat) (slot : Nat) (failed : Option Nat) (k_c : c.canon) : (c.signalOutcome n slot failed).canon :=
  by unfold Cluster.signalOutcome; dsimp only; (repeat' split) <;> simp (maxDischargeDepth := 40) +contextual [*]
@[simp] theorem Cluster.signalOutcome_ident (c : Cluster) (n : Nat) (slot : Nat) (failed : Option Nat) : (c.signalOutcome n slot failed).ident = c.ident :=
  by unfold Cluster.signalOutcome; dsimp only; (repeat' split) <;> simp (maxDischargeDepth := 40) +contextual [*]
@[simp] theorem Cluster.lateReply_canon (c : Cluster) (k_c : c.canon) : c.lateReply.canon :=
  by simp (maxDischargeDepth := 40) +contextual [Cluster.lateReply, *]
@[simp] theorem Cluster.lateReply_ident (c : Cluster) : c.lateReply.ident = c.ident :=
  by simp (maxDischargeDepth := 40) +contextual [Cluster.lateReply, *]
@[simp] theorem Cluster.signalErr_canon (c : Cluster) (n : Nat) (k : Nat) (stat : Nat) (k_c : c.canon) : (c.signalErr n k stat).canon :=
  by unfold Cluster.signalErr; dsimp only; (repeat' split) <;> simp (maxDischargeDepth := 40) +contextual [*]
@[simp] theorem Cluster.signalErr_ident (c : Cluster) (n : Nat) (k : Nat) (stat : Nat) : (c.signalErr n k stat).ident = c.ident :=
  by unfold Cluster.signalErr; dsimp only; (repeat' split) <;> simp (maxDischargeDepth := 40) +contextual [*]
@[simp] theorem Cluster.takeErr_canon (c : Cluster) (h : BitVec 128) (stat : Nat) (k_c : c.canon) : (c.takeErr h stat).canon :=
  by unfold Cluster.takeErr; (repeat' (first | split | intro _)) <;> simp (maxDischargeDepth := 40) +contextual [*]
@[simp] theorem Cluster.takeErr_ident (c : Cluster) (h : BitVec 128) (stat : Nat) : (c.takeErr h stat).ident = c.ident :=
  by unfold Cluster.takeErr; (repeat' (first | split | intro _)) <;> simp (maxDischargeDepth := 40) +contextual [*]
@[simp] theorem Cluster.takeReply_canon (c : Cluster) (h : BitVec 128) (payload : List Byte) (k_c : c.canon) : (c.takeReply h payload).canon :=
  by unfold Cluster.takeReply; dsimp only; (repeat' split) <;> simp (maxDischargeDepth := 40) +contextual [*]
@[simp] theorem Cluster.takeReply_ident (c : Cluster) (h : BitVec 128) (payload : List Byte) : (c.takeReply h payload).ident = c.ident :=
  by unfold Cluster.takeReply; dsimp only; (repeat' split) <;> simp (maxDischargeDepth := 40) +contextual [*]
@[simp] theorem Cluster.reply_canon (c : Cluster) (lane : Nat) (req : BitVec 128) (ty : Nat) (stat : Nat) (lmask : Nat) (payload : List Byte) (k_c : c.canon) : (c.reply lane req ty stat lmask payload).canon :=
  by simp (maxDischargeDepth := 40) +contextual [Cluster.reply, *]
@[simp] theorem Cluster.reply_ident (c : Cluster) (lane : Nat) (req : BitVec 128) (ty : Nat) (stat : Nat) (lmask : Nat) (payload : List Byte) : (c.reply lane req ty stat lmask payload).ident = c.ident :=
  by simp (maxDischargeDepth := 40) +contextual [Cluster.reply, *]
@[simp] theorem Cluster.refuse_canon (c : Cluster) (i : Nat) (reason : Nat) (k_c : c.canon) : (c.refuse i reason).canon :=
  by unfold Cluster.refuse; dsimp only; (repeat' split) <;> simp (maxDischargeDepth := 40) +contextual [*]
@[simp] theorem Cluster.refuse_ident (c : Cluster) (i : Nat) (reason : Nat) : (c.refuse i reason).ident = c.ident :=
  by unfold Cluster.refuse; dsimp only; (repeat' split) <;> simp (maxDischargeDepth := 40) +contextual [*]
@[simp] theorem Cluster.setErr_canon (c : Cluster) (w : Nat) (m : W64) (k_c : c.canon) : (c.setErr w m).canon :=
  by simp (maxDischargeDepth := 40) +contextual [Cluster.setErr, *]
@[simp] theorem Cluster.setErr_ident (c : Cluster) (w : Nat) (m : W64) : (c.setErr w m).ident = c.ident :=
  by simp (maxDischargeDepth := 40) +contextual [Cluster.setErr, *]
@[simp] theorem Cluster.injectSpd_canon (c : Cluster) (a : Nat) (k_c : c.canon) : (c.injectSpd a).canon :=
  by simp (maxDischargeDepth := 40) +contextual [Cluster.injectSpd, *]
@[simp] theorem Cluster.injectSpd_ident (c : Cluster) (a : Nat) : (c.injectSpd a).ident = c.ident :=
  by simp (maxDischargeDepth := 40) +contextual [Cluster.injectSpd, *]
@[simp] theorem Cluster.spdWriteLine_canon (c : Cluster) (a : Nat) (bs : List Byte) (k_c : c.canon) : (c.spdWriteLine a bs).canon :=
  by simp (maxDischargeDepth := 40) +contextual [Cluster.spdWriteLine, *]
@[simp] theorem Cluster.spdWriteLine_ident (c : Cluster) (a : Nat) (bs : List Byte) : (c.spdWriteLine a bs).ident = c.ident :=
  by simp (maxDischargeDepth := 40) +contextual [Cluster.spdWriteLine, *]
@[simp] theorem Cluster.clearArea_canon (c : Cluster) (e : Nat) (k_c : c.canon) : (c.clearArea e).canon :=
  by simp (maxDischargeDepth := 40) +contextual [Cluster.clearArea, *]
@[simp] theorem Cluster.clearArea_ident (c : Cluster) (e : Nat) : (c.clearArea e).ident = c.ident :=
  by simp (maxDischargeDepth := 40) +contextual [Cluster.clearArea, *]
@[simp] theorem Cluster.msgReset_canon (c : Cluster) (sorus : Bool) (k : Nat) (k_c : c.canon) : (c.msgReset sorus k).canon :=
  by simp (maxDischargeDepth := 40) +contextual [Cluster.msgReset, *]
@[simp] theorem Cluster.msgReset_ident (c : Cluster) (sorus : Bool) (k : Nat) : (c.msgReset sorus k).ident = c.ident :=
  by simp (maxDischargeDepth := 40) +contextual [Cluster.msgReset, *]
@[simp] theorem Cluster.doRearm_canon (c : Cluster) (k : Nat) (k_c : c.canon) : (c.doRearm k).canon :=
  by simp (maxDischargeDepth := 40) +contextual [Cluster.doRearm, *]
@[simp] theorem Cluster.doRearm_ident (c : Cluster) (k : Nat) : (c.doRearm k).ident = c.ident :=
  by simp (maxDischargeDepth := 40) +contextual [Cluster.doRearm, *]
@[simp] theorem Cluster.doSnapshot_canon (c : Cluster) (k : Nat) (k_c : c.canon) : (c.doSnapshot k).canon :=
  by simp (maxDischargeDepth := 40) +contextual [Cluster.doSnapshot, *]
@[simp] theorem Cluster.doSnapshot_ident (c : Cluster) (k : Nat) : (c.doSnapshot k).ident = c.ident :=
  by simp (maxDischargeDepth := 40) +contextual [Cluster.doSnapshot, *]
@[simp] theorem Cluster.ctxEnd_canon (c : Cluster) (k : Nat) (k_c : c.canon) : (c.ctxEnd k).canon :=
  by unfold Cluster.ctxEnd; dsimp only; (repeat' split) <;> simp (maxDischargeDepth := 40) +contextual [*]
@[simp] theorem Cluster.ctxEnd_ident (c : Cluster) (k : Nat) : (c.ctxEnd k).ident = c.ident :=
  by unfold Cluster.ctxEnd; dsimp only; (repeat' split) <;> simp (maxDischargeDepth := 40) +contextual [*]
@[simp] theorem Cluster.stopCores_canon (c : Cluster) (k_c : c.canon) : c.stopCores.canon :=
  by simp (maxDischargeDepth := 40) +contextual [Cluster.stopCores, *]
@[simp] theorem Cluster.stopCores_ident (c : Cluster) : c.stopCores.ident = c.ident :=
  by simp (maxDischargeDepth := 40) +contextual [Cluster.stopCores, *]
@[simp] theorem Cluster.dropOps_canon (c : Cluster) (k_c : c.canon) : c.dropOps.canon :=
  by simp (maxDischargeDepth := 40) +contextual [Cluster.dropOps, *]
@[simp] theorem Cluster.dropOps_ident (c : Cluster) : c.dropOps.ident = c.ident :=
  by simp (maxDischargeDepth := 40) +contextual [Cluster.dropOps, *]
@[simp] theorem Cluster.lateResets_canon (c : Cluster) (ctxs : List Nat) (k_c : c.canon) : (c.lateResets ctxs).canon :=
  by simp (maxDischargeDepth := 40) +contextual [Cluster.lateResets, *]
@[simp] theorem Cluster.lateResets_ident (c : Cluster) (ctxs : List Nat) : (c.lateResets ctxs).ident = c.ident :=
  by simp (maxDischargeDepth := 40) +contextual [Cluster.lateResets, *]
@[simp] theorem Cluster.rerunEnd_canon (c : Cluster) (r : Run) (k_c : c.canon) : (c.rerunEnd r).canon :=
  by unfold Cluster.rerunEnd; dsimp only; (repeat' split) <;> simp (maxDischargeDepth := 40) +contextual [*]
@[simp] theorem Cluster.rerunEnd_ident (c : Cluster) (r : Run) : (c.rerunEnd r).ident = c.ident :=
  by unfold Cluster.rerunEnd; dsimp only; (repeat' split) <;> simp (maxDischargeDepth := 40) +contextual [*]
@[simp] theorem Cluster.liningEnd_canon (c : Cluster) (k_c : c.canon) : c.liningEnd.canon :=
  by unfold Cluster.liningEnd; dsimp only; (repeat' split) <;> simp (maxDischargeDepth := 40) +contextual [*]
@[simp] theorem Cluster.liningEnd_ident (c : Cluster) : c.liningEnd.ident = c.ident :=
  by unfold Cluster.liningEnd; dsimp only; (repeat' split) <;> simp (maxDischargeDepth := 40) +contextual [*]
@[simp] theorem Cluster.noRerun_canon (c : Cluster) (k_c : c.canon) : c.noRerun.canon :=
  by unfold Cluster.noRerun; (repeat' (first | split | intro _)) <;> simp (maxDischargeDepth := 40) +contextual [*]
@[simp] theorem Cluster.noRerun_ident (c : Cluster) : c.noRerun.ident = c.ident :=
  by unfold Cluster.noRerun; (repeat' (first | split | intro _)) <;> simp (maxDischargeDepth := 40) +contextual [*]
@[simp] theorem Cluster.containLining_canon (c : Cluster) (k_c : c.canon) : c.containLining.canon :=
  by unfold Cluster.containLining; (repeat' (first | split | intro _)) <;> simp (maxDischargeDepth := 40) +contextual [*]
@[simp] theorem Cluster.containLining_ident (c : Cluster) : c.containLining.ident = c.ident :=
  by unfold Cluster.containLining; (repeat' (first | split | intro _)) <;> simp (maxDischargeDepth := 40) +contextual [*]
@[simp] theorem Cluster.raiseLining_canon (c : Cluster) (src : Nat) (inst : Nat) (k_c : c.canon) : (c.raiseLining src inst).canon :=
  by simp (maxDischargeDepth := 40) +contextual [Cluster.raiseLining, *]
@[simp] theorem Cluster.raiseLining_ident (c : Cluster) (src : Nat) (inst : Nat) : (c.raiseLining src inst).ident = c.ident :=
  by simp (maxDischargeDepth := 40) +contextual [Cluster.raiseLining, *]
@[simp] theorem Cluster.freeCtx_canon (c : Cluster) (k : Nat) (k_c : c.canon) : (c.freeCtx k).canon :=
  by simp (maxDischargeDepth := 40) +contextual [Cluster.freeCtx, *]
@[simp] theorem Cluster.freeCtx_ident (c : Cluster) (k : Nat) : (c.freeCtx k).ident = c.ident :=
  by simp (maxDischargeDepth := 40) +contextual [Cluster.freeCtx, *]
@[simp] theorem Cluster.doRetire_canon (c : Cluster) (slot : Nat) (k_c : c.canon) : (c.doRetire slot).canon :=
  by
  unfold Cluster.doRetire
  dsimp only
  split
  · exact k_c
  · refine Cluster.setReg_canon _ _ _ (Cluster.setReg_canon _ _ _ (Cluster.each_canon _ _ ?_ (fun d x h => Cluster.freeCtx_canon _ _ h)))
    exact Cluster.canon_filter k_c _ _ _ _ _ _ _ _ _ _ _ _ _ _ _ _ _ _ _ _
@[simp] theorem Cluster.doRetire_ident (c : Cluster) (slot : Nat) : (c.doRetire slot).ident = c.ident :=
  by
  unfold Cluster.doRetire
  (try dsimp only)
  split
  · rfl
  · rw [Cluster.setReg_ident, Cluster.setReg_ident, Cluster.each_ident _ _ _ (fun d x => Cluster.freeCtx_ident _ _)]
    rfl
@[simp] theorem Cluster.retireNow_canon (c : Cluster) (slot : Nat) (k_c : c.canon) : (c.retireNow slot).canon :=
  by simp (maxDischargeDepth := 40) +contextual [Cluster.retireNow, *]
@[simp] theorem Cluster.retireNow_ident (c : Cluster) (slot : Nat) : (c.retireNow slot).ident = c.ident :=
  by simp (maxDischargeDepth := 40) +contextual [Cluster.retireNow, *]
@[simp] theorem Cluster.tabRead_canon (c : Cluster) (keys : List Nat) (k_c : c.canon) : (c.tabRead keys).1.canon :=
  by unfold Cluster.tabRead; dsimp only; (repeat' split) <;> simp (maxDischargeDepth := 40) +contextual [*]
@[simp] theorem Cluster.tabRead_ident (c : Cluster) (keys : List Nat) : (c.tabRead keys).1.ident = c.ident :=
  by unfold Cluster.tabRead; dsimp only; (repeat' split) <;> simp (maxDischargeDepth := 40) +contextual [*]
@[simp] theorem Cluster.damage_canon (c : Cluster) (slot : Nat) (k_c : c.canon) : (c.damage slot).canon :=
  by simp (maxDischargeDepth := 40) +contextual [Cluster.damage, *]
@[simp] theorem Cluster.damage_ident (c : Cluster) (slot : Nat) : (c.damage slot).ident = c.ident :=
  by simp (maxDischargeDepth := 40) +contextual [Cluster.damage, *]

end Sys2Proof.Machine
end

