-- ==== Sys2Proof/Laws/CanonSpd.lean ====
section
/-! SUPPORT. Every operation of Machine/Spd.lean keeps the canonical form of the stores and the identity of the cluster. -/

namespace Sys2Proof.Machine

@[simp] theorem Cluster.addRepair_canon (c : Cluster) (w : Nat) (v : W64) (k_c : c.canon) : (c.addRepair w v).canon :=
  by simp (maxDischargeDepth := 40) +contextual [Cluster.addRepair, *]
@[simp] theorem Cluster.addRepair_ident (c : Cluster) (w : Nat) (v : W64) : (c.addRepair w v).ident = c.ident :=
  by simp (maxDischargeDepth := 40) +contextual [Cluster.addRepair, *]
@[simp] theorem Cluster.logSpd_canon (c : Cluster) (kind : Nat) (agent : Nat) (ctx : Nat) (w : Nat) (ue : Bool) (k_c : c.canon) : (c.logSpd kind agent ctx w ue).canon :=
  by simp (maxDischargeDepth := 40) +contextual [Cluster.logSpd, *]
@[simp] theorem Cluster.logSpd_ident (c : Cluster) (kind : Nat) (agent : Nat) (ctx : Nat) (w : Nat) (ue : Bool) : (c.logSpd kind agent ctx w ue).ident = c.ident :=
  by simp (maxDischargeDepth := 40) +contextual [Cluster.logSpd, *]
@[simp] theorem Cluster.bankErr_canon (c : Cluster) (p : Nat) (k_c : c.canon) : (c.bankErr p).canon :=
  by simp (maxDischargeDepth := 40) +contextual [Cluster.bankErr, *]
@[simp] theorem Cluster.bankErr_ident (c : Cluster) (p : Nat) : (c.bankErr p).ident = c.ident :=
  by simp (maxDischargeDepth := 40) +contextual [Cluster.bankErr, *]
@[simp] theorem Cluster.spdCe_canon (c : Cluster) (w : Nat) (agent : Nat) (ctx : Nat) (k_c : c.canon) : (c.spdCe w agent ctx).canon :=
  by simp (maxDischargeDepth := 40) +contextual [Cluster.spdCe, *]
@[simp] theorem Cluster.spdCe_ident (c : Cluster) (w : Nat) (agent : Nat) (ctx : Nat) : (c.spdCe w agent ctx).ident = c.ident :=
  by simp (maxDischargeDepth := 40) +contextual [Cluster.spdCe, *]
@[simp] theorem Cluster.spdUe_canon (c : Cluster) (w : Nat) (agent : Nat) (ctx : Nat) (k_c : c.canon) : (c.spdUe w agent ctx).canon :=
  by unfold Cluster.spdUe; dsimp only; (repeat' split) <;> simp (maxDischargeDepth := 40) +contextual [*]
@[simp] theorem Cluster.spdUe_ident (c : Cluster) (w : Nat) (agent : Nat) (ctx : Nat) : (c.spdUe w agent ctx).ident = c.ident :=
  by unfold Cluster.spdUe; dsimp only; (repeat' split) <;> simp (maxDischargeDepth := 40) +contextual [*]
@[simp] theorem Cluster.spdScan_canon (c : Cluster) (agent : Nat) (ctx : Nat) (a : Nat) (n : Nat) (k_c : c.canon) : (c.spdScan agent ctx a n).canon :=
  by simp (maxDischargeDepth := 40) +contextual [Cluster.spdScan, *]
@[simp] theorem Cluster.spdScan_ident (c : Cluster) (agent : Nat) (ctx : Nat) (a : Nat) (n : Nat) : (c.spdScan agent ctx a n).ident = c.ident :=
  by simp (maxDischargeDepth := 40) +contextual [Cluster.spdScan, *]
@[simp] theorem Cluster.spdRead_canon (c : Cluster) (agent : Nat) (ctx : Nat) (a : Nat) (n : Nat) (k_c : c.canon) : (c.spdRead agent ctx a n).2.1.canon :=
  by simp (maxDischargeDepth := 40) +contextual [Cluster.spdRead, *]
@[simp] theorem Cluster.spdRead_ident (c : Cluster) (agent : Nat) (ctx : Nat) (a : Nat) (n : Nat) : (c.spdRead agent ctx a n).2.1.ident = c.ident :=
  by simp (maxDischargeDepth := 40) +contextual [Cluster.spdRead, *]
@[simp] theorem Cluster.spdWrite_canon (c : Cluster) (a : Nat) (bs : List Byte) (k_c : c.canon) : (c.spdWrite a bs).canon :=
  by simp (maxDischargeDepth := 40) +contextual [Cluster.spdWrite, *]
@[simp] theorem Cluster.spdWrite_ident (c : Cluster) (a : Nat) (bs : List Byte) : (c.spdWrite a bs).ident = c.ident :=
  by simp (maxDischargeDepth := 40) +contextual [Cluster.spdWrite, *]
@[simp] theorem Cluster.detectTear_canon (c : Cluster) (ctxs : List Nat) (k_c : c.canon) : (c.detectTear ctxs).canon :=
  by simp (maxDischargeDepth := 40) +contextual [Cluster.detectTear, *]
@[simp] theorem Cluster.detectTear_ident (c : Cluster) (ctxs : List Nat) : (c.detectTear ctxs).ident = c.ident :=
  by simp (maxDischargeDepth := 40) +contextual [Cluster.detectTear, *]
@[simp] theorem Cluster.detectNote_canon (c : Cluster) (fresh : List Nat) (keep : List Nat) (line : Nat) (ue : Bool) (k_c : c.canon) : (c.detectNote fresh keep line ue).canon :=
  by unfold Cluster.detectNote; (repeat' (first | split | intro _)) <;> simp (maxDischargeDepth := 40) +contextual [*]
@[simp] theorem Cluster.detectNote_ident (c : Cluster) (fresh : List Nat) (keep : List Nat) (line : Nat) (ue : Bool) : (c.detectNote fresh keep line ue).ident = c.ident :=
  by unfold Cluster.detectNote; (repeat' (first | split | intro _)) <;> simp (maxDischargeDepth := 40) +contextual [*]
@[simp] theorem Cluster.spdDetect_canon (c : Cluster) (r : Option Run) (w : Nat) (ctx : Nat) (ue : Bool) (k_c : c.canon) : (c.spdDetect r w ctx ue).canon :=
  by unfold Cluster.spdDetect; dsimp only; (repeat' split) <;> simp (maxDischargeDepth := 40) +contextual [*]
@[simp] theorem Cluster.spdDetect_ident (c : Cluster) (r : Option Run) (w : Nat) (ctx : Nat) (ue : Bool) : (c.spdDetect r w ctx ue).ident = c.ident :=
  by unfold Cluster.spdDetect; dsimp only; (repeat' split) <;> simp (maxDischargeDepth := 40) +contextual [*]
@[simp] theorem Cluster.staticRead_canon (c : Cluster) (ctx : Nat) (a : Nat) (n : Nat) (k_c : c.canon) : (c.staticRead ctx a n).2.1.canon :=
  by unfold Cluster.staticRead; dsimp only; (repeat' split) <;> simp (maxDischargeDepth := 40) +contextual [*]
@[simp] theorem Cluster.staticRead_ident (c : Cluster) (ctx : Nat) (a : Nat) (n : Nat) : (c.staticRead ctx a n).2.1.ident = c.ident :=
  by unfold Cluster.staticRead; dsimp only; (repeat' split) <;> simp (maxDischargeDepth := 40) +contextual [*]
@[simp] theorem Cluster.addUses_canon (c : Cluster) (us : List (Nat × Nat)) (k_c : c.canon) : (c.addUses us).canon :=
  by simp (maxDischargeDepth := 40) +contextual [Cluster.addUses, *]
@[simp] theorem Cluster.addUses_ident (c : Cluster) (us : List (Nat × Nat)) : (c.addUses us).ident = c.ident :=
  by simp (maxDischargeDepth := 40) +contextual [Cluster.addUses, *]
@[simp] theorem Cluster.countConflicts_canon (c : Cluster) (k_c : c.canon) : c.countConflicts.canon :=
  by simp (maxDischargeDepth := 40) +contextual [Cluster.countConflicts, *]
@[simp] theorem Cluster.countConflicts_ident (c : Cluster) : c.countConflicts.ident = c.ident :=
  by simp (maxDischargeDepth := 40) +contextual [Cluster.countConflicts, *]
@[simp] theorem Cluster.portPart_canon (ctx : Nat) (a : Nat) (n : Nat) (p : List Byte × Cluster × Bool) (line : Nat) (k_p : p.2.1.canon) : (Cluster.portPart ctx a n p line).2.1.canon :=
  by unfold Cluster.portPart; (repeat' (first | split | intro _)) <;> simp (maxDischargeDepth := 40) +contextual [*]
@[simp] theorem Cluster.portPart_ident (ctx : Nat) (a : Nat) (n : Nat) (p : List Byte × Cluster × Bool) (line : Nat) : (Cluster.portPart ctx a n p line).2.1.ident = p.2.1.ident :=
  by unfold Cluster.portPart; (repeat' (first | split | intro _)) <;> simp (maxDischargeDepth := 40) +contextual [*]
@[simp] theorem Cluster.portRead_canon (c : Cluster) (ctx : Nat) (a : Nat) (n : Nat) (k_c : c.canon) : (c.portRead ctx a n).2.1.canon :=
  by simp (maxDischargeDepth := 40) +contextual [Cluster.portRead, *]
@[simp] theorem Cluster.portRead_ident (c : Cluster) (ctx : Nat) (a : Nat) (n : Nat) : (c.portRead ctx a n).2.1.ident = c.ident :=
  by simp (maxDischargeDepth := 40) +contextual [Cluster.portRead, *]
@[simp] theorem Cluster.portWrite_canon (c : Cluster) (q : Nat) (a : Nat) (lo : Nat) (hi : Nat) (bs : List Byte) (k_c : c.canon) : (c.portWrite q a lo hi bs).canon :=
  by simp (maxDischargeDepth := 40) +contextual [Cluster.portWrite, *]
@[simp] theorem Cluster.portWrite_ident (c : Cluster) (q : Nat) (a : Nat) (lo : Nat) (hi : Nat) (bs : List Byte) : (c.portWrite q a lo hi bs).ident = c.ident :=
  by simp (maxDischargeDepth := 40) +contextual [Cluster.portWrite, *]

end Sys2Proof.Machine
end

