-- ==== Sys2Proof/Laws/CanonTiming.lean ====
section
/-! SUPPORT. Every operation of Machine/Timing.lean keeps the canonical form of the stores and the identity of the cluster. -/

namespace Sys2Proof.Machine

@[simp] theorem Cluster.haltEvent_canon (c : Cluster) (begins : Bool) (t : Nat) (k_c : c.canon) : (c.haltEvent begins t).canon :=
  by simp (maxDischargeDepth := 40) +contextual [Cluster.haltEvent, *]
@[simp] theorem Cluster.haltEvent_ident (c : Cluster) (begins : Bool) (t : Nat) : (c.haltEvent begins t).ident = c.ident :=
  by simp (maxDischargeDepth := 40) +contextual [Cluster.haltEvent, *]
@[simp] theorem Cluster.openHold_canon (c : Cluster) (t : Nat) (k_c : c.canon) : (c.openHold t).canon :=
  by simp (maxDischargeDepth := 40) +contextual [Cluster.openHold, *]
@[simp] theorem Cluster.openHold_ident (c : Cluster) (t : Nat) : (c.openHold t).ident = c.ident :=
  by simp (maxDischargeDepth := 40) +contextual [Cluster.openHold, *]
@[simp] theorem Cluster.slip_canon (c : Cluster) (q : Nat) (o : MacroOp) (k_c : c.canon) : (c.slip q o).canon :=
  by simp (maxDischargeDepth := 40) +contextual [Cluster.slip, *]
@[simp] theorem Cluster.slip_ident (c : Cluster) (q : Nat) (o : MacroOp) : (c.slip q o).ident = c.ident :=
  by simp (maxDischargeDepth := 40) +contextual [Cluster.slip, *]
@[simp] theorem Cluster.startOp_canon (c : Cluster) (q : Nat) (o : MacroOp) (k_c : c.canon) : (c.startOp q o).1.canon :=
  by simp (maxDischargeDepth := 40) +contextual [Cluster.startOp, *]
@[simp] theorem Cluster.startOp_ident (c : Cluster) (q : Nat) (o : MacroOp) : (c.startOp q o).1.ident = c.ident :=
  by simp (maxDischargeDepth := 40) +contextual [Cluster.startOp, *]
@[simp] theorem Cluster.onStart_canon (c : Cluster) (q : Nat) (opc : Nat) (f : Cluster → MacroOp → Cluster) (k_c : c.canon) (k_f : ∀ d z0, d.canon → (f d z0).canon) : (c.onStart q opc f).canon :=
  by unfold Cluster.onStart; dsimp only; (repeat' split) <;> simp (maxDischargeDepth := 40) +contextual [*]
@[simp] theorem Cluster.onStart_ident (c : Cluster) (q : Nat) (opc : Nat) (f : Cluster → MacroOp → Cluster) (k_f : ∀ d z0, (f d z0).ident = d.ident) : (c.onStart q opc f).ident = c.ident :=
  by unfold Cluster.onStart; dsimp only; (repeat' split) <;> simp (maxDischargeDepth := 40) +contextual [*]
@[simp] theorem Cluster.post_canon (c : Cluster) (t : Nat) (rank : Nat) (w : Post) (k_c : c.canon) : (c.post t rank w).canon :=
  by simp (maxDischargeDepth := 40) +contextual [Cluster.post, *]
@[simp] theorem Cluster.post_ident (c : Cluster) (t : Nat) (rank : Nat) (w : Post) : (c.post t rank w).ident = c.ident :=
  by simp (maxDischargeDepth := 40) +contextual [Cluster.post, *]
@[simp] theorem Cluster.withTab_canon (c : Cluster) (keys : List Nat) (f : Cluster → Cluster) (k_c : c.canon) (k_f : ∀ d, d.canon → (f d).canon) : (c.withTab keys f).canon :=
  by simp (maxDischargeDepth := 40) +contextual [Cluster.withTab, *]
@[simp] theorem Cluster.withTab_ident (c : Cluster) (keys : List Nat) (f : Cluster → Cluster) (k_f : ∀ d, (f d).ident = d.ident) : (c.withTab keys f).ident = c.ident :=
  by simp (maxDischargeDepth := 40) +contextual [Cluster.withTab, *]
@[simp] theorem Cluster.withHandle_canon (c : Cluster) (h : Nat) (f : Cluster → Cluster) (k_c : c.canon) (k_f : ∀ d, d.canon → (f d).canon) : (c.withHandle h f).canon :=
  by simp (maxDischargeDepth := 40) +contextual [Cluster.withHandle, *]
@[simp] theorem Cluster.withHandle_ident (c : Cluster) (h : Nat) (f : Cluster → Cluster) (k_f : ∀ d, (f d).ident = d.ident) : (c.withHandle h f).ident = c.ident :=
  by simp (maxDischargeDepth := 40) +contextual [Cluster.withHandle, *]
@[simp] theorem Cluster.addRefs_canon (c : Cluster) (q : Nat) (lo : Nat) (hi : Nat) (tiles : List Nat) (k_c : c.canon) : (c.addRefs q lo hi tiles).canon :=
  by simp (maxDischargeDepth := 40) +contextual [Cluster.addRefs, *]
@[simp] theorem Cluster.addRefs_ident (c : Cluster) (q : Nat) (lo : Nat) (hi : Nat) (tiles : List Nat) : (c.addRefs q lo hi tiles).ident = c.ident :=
  by simp (maxDischargeDepth := 40) +contextual [Cluster.addRefs, *]
@[simp] theorem Cluster.popCtl_canon (c : Cluster) (k_c : c.canon) : c.popCtl.canon :=
  by unfold Cluster.popCtl; (repeat' (first | split | intro _)) <;> simp (maxDischargeDepth := 40) +contextual [*]
@[simp] theorem Cluster.popCtl_ident (c : Cluster) : c.popCtl.ident = c.ident :=
  by unfold Cluster.popCtl; (repeat' (first | split | intro _)) <;> simp (maxDischargeDepth := 40) +contextual [*]

end Sys2Proof.Machine
end

