-- ==== Sys2Proof/Laws/CanonCrossing.lean ====
section
/-! SUPPORT. Every operation of Machine/Crossing.lean keeps the canonical form of the stores and the identity of the cluster. -/

namespace Sys2Proof.Machine

@[simp] theorem Cluster.setFifo_canon (c : Cluster) (j : Nat) (f : Fifo) (k_c : c.canon) : (c.setFifo j f).canon :=
  by simp (maxDischargeDepth := 40) +contextual [Cluster.setFifo, *]
@[simp] theorem Cluster.setFifo_ident (c : Cluster) (j : Nat) (f : Fifo) : (c.setFifo j f).ident = c.ident :=
  by simp (maxDischargeDepth := 40) +contextual [Cluster.setFifo, *]
@[simp] theorem Cluster.alignFifo_canon (c : Cluster) (j : Nat) (k_c : c.canon) : (c.alignFifo j).canon :=
  by simp (maxDischargeDepth := 40) +contextual [Cluster.alignFifo, *]
@[simp] theorem Cluster.alignFifo_ident (c : Cluster) (j : Nat) : (c.alignFifo j).ident = c.ident :=
  by simp (maxDischargeDepth := 40) +contextual [Cluster.alignFifo, *]
@[simp] theorem Cluster.setFill_canon (c : Cluster) (j : Nat) (fill : Nat) (k_c : c.canon) : (c.setFill j fill).canon :=
  by simp (maxDischargeDepth := 40) +contextual [Cluster.setFill, *]
@[simp] theorem Cluster.setFill_ident (c : Cluster) (j : Nat) (fill : Nat) : (c.setFill j fill).ident = c.ident :=
  by simp (maxDischargeDepth := 40) +contextual [Cluster.setFill, *]
@[simp] theorem Cluster.passFifo_canon (c : Cluster) (e : Nat) (j : Nat) (k_c : c.canon) : (c.passFifo e j).canon :=
  by simp (maxDischargeDepth := 40) +contextual [Cluster.passFifo, *]
@[simp] theorem Cluster.passFifo_ident (c : Cluster) (e : Nat) (j : Nat) : (c.passFifo e j).ident = c.ident :=
  by simp (maxDischargeDepth := 40) +contextual [Cluster.passFifo, *]
@[simp] theorem Cluster.passCrossings_canon (c : Cluster) (l : Nat) (k_c : c.canon) : (c.passCrossings l).canon :=
  by simp (maxDischargeDepth := 40) +contextual [Cluster.passCrossings, *]
@[simp] theorem Cluster.passCrossings_ident (c : Cluster) (l : Nat) : (c.passCrossings l).ident = c.ident :=
  by simp (maxDischargeDepth := 40) +contextual [Cluster.passCrossings, *]
@[simp] theorem Cluster.recentreBegin_canon (c : Cluster) (k_c : c.canon) : c.recentreBegin.canon :=
  by simp (maxDischargeDepth := 40) +contextual [Cluster.recentreBegin, *]
@[simp] theorem Cluster.recentreBegin_ident (c : Cluster) : c.recentreBegin.ident = c.ident :=
  by simp (maxDischargeDepth := 40) +contextual [Cluster.recentreBegin, *]

end Sys2Proof.Machine
end

