-- ==== Sys2Proof/Laws/CanonClock.lean ====
section
/-! SUPPORT. Every operation of Machine/Clock.lean keeps the canonical form of the stores and the identity of the cluster. -/

namespace Sys2Proof.Machine

@[simp] theorem powerGoodC_canon (c : Cluster) (k_c : c.canon) : (powerGoodC c).canon :=
  by
  unfold powerGoodC
  split
  · exact k_c
  · exact atPowerGood_canon _ _
@[simp] theorem powerGoodC_ident (c : Cluster) : (powerGoodC c).ident = c.ident :=
  by
  unfold powerGoodC
  split <;> rfl
@[simp] theorem powerLossC_canon (c : Cluster) (k_c : c.canon) : (powerLossC c).canon :=
  by
  unfold powerLossC
  split
  · exact atPowerGood_canon _ _
  · exact k_c
@[simp] theorem powerLossC_ident (c : Cluster) : (powerLossC c).ident = c.ident :=
  by
  unfold powerLossC
  split <;> rfl
@[simp] theorem pllLockC_canon (c : Cluster) (k_c : c.canon) : (pllLockC c).canon :=
  by simp (maxDischargeDepth := 40) +contextual [pllLockC, *]
@[simp] theorem pllLockC_ident (c : Cluster) : (pllLockC c).ident = c.ident :=
  by simp (maxDischargeDepth := 40) +contextual [pllLockC, *]
@[simp] theorem pllLockTimeoutC_canon (c : Cluster) (k_c : c.canon) : (pllLockTimeoutC c).canon :=
  by simp (maxDischargeDepth := 40) +contextual [pllLockTimeoutC, *]
@[simp] theorem pllLockTimeoutC_ident (c : Cluster) : (pllLockTimeoutC c).ident = c.ident :=
  by simp (maxDischargeDepth := 40) +contextual [pllLockTimeoutC, *]
@[simp] theorem droopCalibrationDoneC_canon (c : Cluster) (cal : W64) (k_c : c.canon) : (droopCalibrationDoneC c cal).canon :=
  by simp (maxDischargeDepth := 40) +contextual [droopCalibrationDoneC, *]
@[simp] theorem droopCalibrationDoneC_ident (c : Cluster) (cal : W64) : (droopCalibrationDoneC c cal).ident = c.ident :=
  by simp (maxDischargeDepth := 40) +contextual [droopCalibrationDoneC, *]
@[simp] theorem calibrationTimeoutC_canon (c : Cluster) (k_c : c.canon) : (calibrationTimeoutC c).canon :=
  by simp (maxDischargeDepth := 40) +contextual [calibrationTimeoutC, *]
@[simp] theorem calibrationTimeoutC_ident (c : Cluster) : (calibrationTimeoutC c).ident = c.ident :=
  by simp (maxDischargeDepth := 40) +contextual [calibrationTimeoutC, *]
@[simp] theorem crossingAlignC_canon (c : Cluster) (j : Nat) (k_c : c.canon) : (crossingAlignC c j).canon :=
  by simp (maxDischargeDepth := 40) +contextual [crossingAlignC, *]
@[simp] theorem crossingAlignC_ident (c : Cluster) (j : Nat) : (crossingAlignC c j).ident = c.ident :=
  by simp (maxDischargeDepth := 40) +contextual [crossingAlignC, *]
@[simp] theorem crossingAlignTimeoutC_canon (c : Cluster) (l : Nat) (k_c : c.canon) : (crossingAlignTimeoutC c l).canon :=
  by simp (maxDischargeDepth := 40) +contextual [crossingAlignTimeoutC, *]
@[simp] theorem crossingAlignTimeoutC_ident (c : Cluster) (l : Nat) : (crossingAlignTimeoutC c l).ident = c.ident :=
  by simp (maxDischargeDepth := 40) +contextual [crossingAlignTimeoutC, *]
@[simp] theorem tbLoadTimeoutC_canon (c : Cluster) (k_c : c.canon) : (tbLoadTimeoutC c).canon :=
  by simp (maxDischargeDepth := 40) +contextual [tbLoadTimeoutC, *]
@[simp] theorem tbLoadTimeoutC_ident (c : Cluster) : (tbLoadTimeoutC c).ident = c.ident :=
  by simp (maxDischargeDepth := 40) +contextual [tbLoadTimeoutC, *]
@[simp] theorem Cluster.setPatch_canon (c : Cluster) (a : Nat) (map : Nat) (k_c : c.canon) : (c.setPatch a map).canon :=
  by simp (maxDischargeDepth := 40) +contextual [Cluster.setPatch, *]
@[simp] theorem Cluster.setPatch_ident (c : Cluster) (a : Nat) (map : Nat) : (c.setPatch a map).ident = c.ident :=
  by simp (maxDischargeDepth := 40) +contextual [Cluster.setPatch, *]
@[simp] theorem Cluster.judgeMap_canon (c : Cluster) (a : Nat) (k_c : c.canon) : (c.judgeMap a).canon :=
  by simp (maxDischargeDepth := 40) +contextual [Cluster.judgeMap, *]
@[simp] theorem Cluster.judgeMap_ident (c : Cluster) (a : Nat) : (c.judgeMap a).ident = c.ident :=
  by simp (maxDischargeDepth := 40) +contextual [Cluster.judgeMap, *]
@[simp] theorem Cluster.selfTest_canon (c : Cluster) (find : Findings) (k_c : c.canon) : (c.selfTest find).canon :=
  by simp (maxDischargeDepth := 40) +contextual [Cluster.selfTest, *]
@[simp] theorem Cluster.selfTest_ident (c : Cluster) (find : Findings) : (c.selfTest find).ident = c.ident :=
  by simp (maxDischargeDepth := 40) +contextual [Cluster.selfTest, *]
@[simp] theorem Cluster.nextStage_canon (c : Cluster) (k_c : c.canon) : c.nextStage.canon :=
  by simp (maxDischargeDepth := 40) +contextual [Cluster.nextStage, *]
@[simp] theorem Cluster.nextStage_ident (c : Cluster) : c.nextStage.ident = c.ident :=
  by simp (maxDischargeDepth := 40) +contextual [Cluster.nextStage, *]
@[simp] theorem stageCompleteC_canon (c : Cluster) (find : Findings) (k_c : c.canon) : (stageCompleteC c find).canon :=
  by simp (maxDischargeDepth := 40) +contextual [stageCompleteC, *]
@[simp] theorem stageCompleteC_ident (c : Cluster) (find : Findings) : (stageCompleteC c find).ident = c.ident :=
  by simp (maxDischargeDepth := 40) +contextual [stageCompleteC, *]
@[simp] theorem alignmentPulseC_canon (c : Cluster) (v : W64) (k_c : c.canon) : (alignmentPulseC c v).canon :=
  by simp (maxDischargeDepth := 40) +contextual [alignmentPulseC, *]
@[simp] theorem alignmentPulseC_ident (c : Cluster) (v : W64) : (alignmentPulseC c v).ident = c.ident :=
  by simp (maxDischargeDepth := 40) +contextual [alignmentPulseC, *]
@[simp] theorem alignmentPulseMissingC_canon (c : Cluster) (k_c : c.canon) : (alignmentPulseMissingC c).canon :=
  by simp (maxDischargeDepth := 40) +contextual [alignmentPulseMissingC, *]
@[simp] theorem alignmentPulseMissingC_ident (c : Cluster) : (alignmentPulseMissingC c).ident = c.ident :=
  by simp (maxDischargeDepth := 40) +contextual [alignmentPulseMissingC, *]
@[simp] theorem droopRequestC_canon (c : Cluster) (r : Nat) (k_c : c.canon) : (droopRequestC c r).canon :=
  by simp (maxDischargeDepth := 40) +contextual [droopRequestC, *]
@[simp] theorem droopRequestC_ident (c : Cluster) (r : Nat) : (droopRequestC c r).ident = c.ident :=
  by simp (maxDischargeDepth := 40) +contextual [droopRequestC, *]
@[simp] theorem stretchDecayC_canon (c : Cluster) (k_c : c.canon) : (stretchDecayC c).canon :=
  by simp (maxDischargeDepth := 40) +contextual [stretchDecayC, *]
@[simp] theorem stretchDecayC_ident (c : Cluster) : (stretchDecayC c).ident = c.ident :=
  by simp (maxDischargeDepth := 40) +contextual [stretchDecayC, *]
@[simp] theorem stretchTimeoutC_canon (c : Cluster) (k_c : c.canon) : (stretchTimeoutC c).canon :=
  by simp (maxDischargeDepth := 40) +contextual [stretchTimeoutC, *]
@[simp] theorem stretchTimeoutC_ident (c : Cluster) : (stretchTimeoutC c).ident = c.ident :=
  by simp (maxDischargeDepth := 40) +contextual [stretchTimeoutC, *]
@[simp] theorem clockMonitorWindowC_canon (c : Cluster) (count : Nat) (k_c : c.canon) : (clockMonitorWindowC c count).canon :=
  by simp (maxDischargeDepth := 40) +contextual [clockMonitorWindowC, *]
@[simp] theorem clockMonitorWindowC_ident (c : Cluster) (count : Nat) : (clockMonitorWindowC c count).ident = c.ident :=
  by simp (maxDischargeDepth := 40) +contextual [clockMonitorWindowC, *]
@[simp] theorem pllLossOfLockC_canon (c : Cluster) (k_c : c.canon) : (pllLossOfLockC c).canon :=
  by simp (maxDischargeDepth := 40) +contextual [pllLossOfLockC, *]
@[simp] theorem pllLossOfLockC_ident (c : Cluster) : (pllLossOfLockC c).ident = c.ident :=
  by simp (maxDischargeDepth := 40) +contextual [pllLossOfLockC, *]
@[simp] theorem railFaultC_canon (c : Cluster) (k_c : c.canon) : (railFaultC c).canon :=
  by simp (maxDischargeDepth := 40) +contextual [railFaultC, *]
@[simp] theorem railFaultC_ident (c : Cluster) : (railFaultC c).ident = c.ident :=
  by simp (maxDischargeDepth := 40) +contextual [railFaultC, *]
@[simp] theorem thermalTripC_canon (c : Cluster) (k_c : c.canon) : (thermalTripC c).canon :=
  by simp (maxDischargeDepth := 40) +contextual [thermalTripC, *]
@[simp] theorem thermalTripC_ident (c : Cluster) : (thermalTripC c).ident = c.ident :=
  by simp (maxDischargeDepth := 40) +contextual [thermalTripC, *]
@[simp] theorem collectorParityErrorC_canon (c : Cluster) (k_c : c.canon) : (collectorParityErrorC c).canon :=
  by simp (maxDischargeDepth := 40) +contextual [collectorParityErrorC, *]
@[simp] theorem collectorParityErrorC_ident (c : Cluster) : (collectorParityErrorC c).ident = c.ident :=
  by simp (maxDischargeDepth := 40) +contextual [collectorParityErrorC, *]
@[simp] theorem throttleRequestC_canon (c : Cluster) (r : Nat) (k_c : c.canon) : (throttleRequestC c r).canon :=
  by simp (maxDischargeDepth := 40) +contextual [throttleRequestC, *]
@[simp] theorem throttleRequestC_ident (c : Cluster) (r : Nat) : (throttleRequestC c r).ident = c.ident :=
  by simp (maxDischargeDepth := 40) +contextual [throttleRequestC, *]
@[simp] theorem throttlePeriodC_canon (c : Cluster) (k_c : c.canon) : (throttlePeriodC c).canon :=
  by simp (maxDischargeDepth := 40) +contextual [throttlePeriodC, *]
@[simp] theorem throttlePeriodC_ident (c : Cluster) : (throttlePeriodC c).ident = c.ident :=
  by simp (maxDischargeDepth := 40) +contextual [throttlePeriodC, *]
@[simp] theorem telemetryUpdateC_canon (c : Cluster) (t : Telemetry) (k_c : c.canon) : (telemetryUpdateC c t).canon :=
  by unfold telemetryUpdateC; dsimp only; (repeat' split) <;> simp (maxDischargeDepth := 40) +contextual [*]
@[simp] theorem telemetryUpdateC_ident (c : Cluster) (t : Telemetry) : (telemetryUpdateC c t).ident = c.ident :=
  by unfold telemetryUpdateC; dsimp only; (repeat' split) <;> simp (maxDischargeDepth := 40) +contextual [*]
@[simp] theorem aliveToggleC_canon (c : Cluster) (k_c : c.canon) : (aliveToggleC c).canon :=
  by simp (maxDischargeDepth := 40) +contextual [aliveToggleC, *]
@[simp] theorem aliveToggleC_ident (c : Cluster) : (aliveToggleC c).ident = c.ident :=
  by simp (maxDischargeDepth := 40) +contextual [aliveToggleC, *]

end Sys2Proof.Machine
end

