-- ==== Sys2Proof/Laws/CanonHolds.lean ====
section
/-! SUPPORT. Every operation of Machine/Holds.lean keeps the canonical form of the stores and the identity of the cluster. -/

namespace Sys2Proof.Machine

@[simp] theorem holdBeginC_canon (c : Cluster) (k_c : c.canon) : (holdBeginC c).canon :=
  by simp (maxDischargeDepth := 40) +contextual [holdBeginC, *]
@[simp] theorem holdBeginC_ident (c : Cluster) : (holdBeginC c).ident = c.ident :=
  by simp (maxDischargeDepth := 40) +contextual [holdBeginC, *]
@[simp] theorem Cluster.haltOver_canon (c : Cluster) (t : Nat) (k_c : c.canon) : (c.haltOver t).canon :=
  by simp (maxDischargeDepth := 40) +contextual [Cluster.haltOver, *]
@[simp] theorem Cluster.haltOver_ident (c : Cluster) (t : Nat) : (c.haltOver t).ident = c.ident :=
  by simp (maxDischargeDepth := 40) +contextual [Cluster.haltOver, *]
@[simp] theorem holdEndC_canon (c : Cluster) (k_c : c.canon) : (holdEndC c).canon :=
  by unfold holdEndC; dsimp only; (repeat' split) <;> simp (maxDischargeDepth := 40) +contextual [*]
@[simp] theorem holdEndC_ident (c : Cluster) : (holdEndC c).ident = c.ident :=
  by unfold holdEndC; dsimp only; (repeat' split) <;> simp (maxDischargeDepth := 40) +contextual [*]
@[simp] theorem Cluster.timeoutLate_canon (c : Cluster) (t : Nat) (k_c : c.canon) : (c.timeoutLate t).canon :=
  by
  unfold Cluster.timeoutLate
  exact Cluster.each_canon _ _ k_c (fun d x h => by (try dsimp only); repeat' split; all_goals simp (maxDischargeDepth := 40) +contextual [*])
@[simp] theorem Cluster.timeoutLate_ident (c : Cluster) (t : Nat) : (c.timeoutLate t).ident = c.ident :=
  by
  unfold Cluster.timeoutLate
  exact Cluster.each_ident _ _ _ (fun d x => by (try dsimp only); repeat' split; all_goals simp (maxDischargeDepth := 40) +contextual [*])
@[simp] theorem holdTimeoutC_canon (c : Cluster) (k_c : c.canon) : (holdTimeoutC c).canon :=
  by unfold holdTimeoutC; dsimp only; (repeat' split) <;> simp (maxDischargeDepth := 40) +contextual [*]
@[simp] theorem holdTimeoutC_ident (c : Cluster) : (holdTimeoutC c).ident = c.ident :=
  by unfold holdTimeoutC; dsimp only; (repeat' split) <;> simp (maxDischargeDepth := 40) +contextual [*]
@[simp] theorem crossingRecentreC_canon (c : Cluster) (j : Nat) (fill : Nat) (k_c : c.canon) : (crossingRecentreC c j fill).canon :=
  by simp (maxDischargeDepth := 40) +contextual [crossingRecentreC, *]
@[simp] theorem crossingRecentreC_ident (c : Cluster) (j : Nat) (fill : Nat) : (crossingRecentreC c j fill).ident = c.ident :=
  by simp (maxDischargeDepth := 40) +contextual [crossingRecentreC, *]
@[simp] theorem Cluster.endCheck_canon (c : Cluster) (k_c : c.canon) : c.endCheck.canon :=
  by simp (maxDischargeDepth := 40) +contextual [Cluster.endCheck, *]
@[simp] theorem Cluster.endCheck_ident (c : Cluster) : c.endCheck.ident = c.ident :=
  by simp (maxDischargeDepth := 40) +contextual [Cluster.endCheck, *]
@[simp] theorem opEndC_canon (c : Cluster) (q : Nat) (k_c : c.canon) : (opEndC c q).canon :=
  by simp (maxDischargeDepth := 40) +contextual [opEndC, *]
@[simp] theorem opEndC_ident (c : Cluster) (q : Nat) : (opEndC c q).ident = c.ident :=
  by simp (maxDischargeDepth := 40) +contextual [opEndC, *]
@[simp] theorem fintbRecordC_canon (c : Cluster) (k : Nat) (k_c : c.canon) : (fintbRecordC c k).canon :=
  by simp (maxDischargeDepth := 40) +contextual [fintbRecordC, *]
@[simp] theorem fintbRecordC_ident (c : Cluster) (k : Nat) : (fintbRecordC c k).ident = c.ident :=
  by simp (maxDischargeDepth := 40) +contextual [fintbRecordC, *]

end Sys2Proof.Machine
end

