-- ==== Sys2Proof/Laws/CanonChains.lean ====
section
/-! SUPPORT. Every operation of Machine/Chains.lean keeps the canonical form of the stores and the identity of the cluster. -/

namespace Sys2Proof.Machine

@[simp] theorem Cluster.landStat_canon (c : Cluster) (a : Nat) (slot : Nat) (recs : List (BitVec 96)) (k_c : c.canon) : (c.landStat a slot recs).canon :=
  by simp (maxDischargeDepth := 40) +contextual [Cluster.landStat, *]
@[simp] theorem Cluster.landStat_ident (c : Cluster) (a : Nat) (slot : Nat) (recs : List (BitVec 96)) : (c.landStat a slot recs).ident = c.ident :=
  by simp (maxDischargeDepth := 40) +contextual [Cluster.landStat, *]
@[simp] theorem Cluster.freeSet_canon (c : Cluster) (stages : List W64) (k_c : c.canon) : (c.freeSet stages).2.canon :=
  by simp (maxDischargeDepth := 40) +contextual [Cluster.freeSet, *]
@[simp] theorem Cluster.freeSet_ident (c : Cluster) (stages : List W64) : (c.freeSet stages).2.ident = c.ident :=
  by simp (maxDischargeDepth := 40) +contextual [Cluster.freeSet, *]

end Sys2Proof.Machine
end

