-- ==== Sys2Proof/Laws/CanonFeeders.lean ====
section
/-! SUPPORT. Every operation of Machine/Feeders.lean keeps the canonical form of the stores and the identity of the cluster. -/

namespace Sys2Proof.Machine

@[simp] theorem Cluster.readLines_canon (c : Cluster) (ctx : Nat) (ls : List Nat) (k_c : c.canon) : (c.readLines ctx ls).2.canon :=
  by
  unfold Cluster.readLines
  exact foldl_keep (fun d : List (List Byte) × Cluster => d.2.canon) _ _ k_c (fun d kv h => by (try dsimp only); simp (maxDischargeDepth := 40) +contextual [*])
@[simp] theorem Cluster.readLines_ident (c : Cluster) (ctx : Nat) (ls : List Nat) : (c.readLines ctx ls).2.ident = c.ident :=
  by
  unfold Cluster.readLines
  exact foldl_keep (fun d : List (List Byte) × Cluster => d.2.ident = c.ident) _ _ rfl (fun d kv h => by (try dsimp only); simp (maxDischargeDepth := 40) +contextual [*])
@[simp] theorem Cluster.feederRead_canon (c : Cluster) (n : Nat) (o : MacroOp) (t0 : Nat) (list : Option (List W16)) (k : Nat × Nat) (k_c : c.canon) : (c.feederRead n o t0 list k).canon :=
  by unfold Cluster.feederRead; dsimp only; (repeat' split) <;> simp (maxDischargeDepth := 40) +contextual [*]
@[simp] theorem Cluster.feederRead_ident (c : Cluster) (n : Nat) (o : MacroOp) (t0 : Nat) (list : Option (List W16)) (k : Nat × Nat) : (c.feederRead n o t0 list k).ident = c.ident :=
  by unfold Cluster.feederRead; dsimp only; (repeat' split) <;> simp (maxDischargeDepth := 40) +contextual [*]
@[simp] theorem Cluster.setFeed_canon (c : Cluster) (n : Nat) (x : Feeder) (k_c : c.canon) : (c.setFeed n x).canon :=
  by simp (maxDischargeDepth := 40) +contextual [Cluster.setFeed, *]
@[simp] theorem Cluster.setFeed_ident (c : Cluster) (n : Nat) (x : Feeder) : (c.setFeed n x).ident = c.ident :=
  by simp (maxDischargeDepth := 40) +contextual [Cluster.setFeed, *]
@[simp] theorem Cluster.freeSlots_canon (c : Cluster) (n : Nat) (k_c : c.canon) : (c.freeSlots n).canon :=
  by simp (maxDischargeDepth := 40) +contextual [Cluster.freeSlots, *]
@[simp] theorem Cluster.freeSlots_ident (c : Cluster) (n : Nat) : (c.freeSlots n).ident = c.ident :=
  by simp (maxDischargeDepth := 40) +contextual [Cluster.freeSlots, *]
@[simp] theorem Cluster.landLine_canon (c : Cluster) (n : Nat) (kind : Nat) (l : FLine) (k_c : c.canon) : (c.landLine n kind l).canon :=
  by simp (maxDischargeDepth := 40) +contextual [Cluster.landLine, *]
@[simp] theorem Cluster.landLine_ident (c : Cluster) (n : Nat) (kind : Nat) (l : FLine) : (c.landLine n kind l).ident = c.ident :=
  by simp (maxDischargeDepth := 40) +contextual [Cluster.landLine, *]
@[simp] theorem Cluster.issueLines_canon (c : Cluster) (a : Nat) (o : MacroOp) (t0 : Nat) (list : Option (List W16)) (ks : List (Nat × Nat)) (k_c : c.canon) : (c.issueLines a o t0 list ks).canon :=
  by simp (maxDischargeDepth := 40) +contextual [Cluster.issueLines, *]
@[simp] theorem Cluster.issueLines_ident (c : Cluster) (a : Nat) (o : MacroOp) (t0 : Nat) (list : Option (List W16)) (ks : List (Nat × Nat)) : (c.issueLines a o t0 list ks).ident = c.ident :=
  by simp (maxDischargeDepth := 40) +contextual [Cluster.issueLines, *]
@[simp] theorem Cluster.freeCodes_canon (c : Cluster) (cnt : Nat) (w : Nat) (k_c : c.canon) : (c.freeCodes cnt w).2.canon :=
  by simp (maxDischargeDepth := 40) +contextual [Cluster.freeCodes, *]
@[simp] theorem Cluster.freeCodes_ident (c : Cluster) (cnt : Nat) (w : Nat) : (c.freeCodes cnt w).2.ident = c.ident :=
  by simp (maxDischargeDepth := 40) +contextual [Cluster.freeCodes, *]
@[simp] theorem Cluster.actScales_canon (c : Cluster) (n : Nat) (o : MacroOp) (list : Option (List W16)) (k : Nat) (k_c : c.canon) : (c.actScales n o list k).2.canon :=
  by unfold Cluster.actScales; (repeat' (first | split | intro _)) <;> simp (maxDischargeDepth := 40) +contextual [*]
@[simp] theorem Cluster.actScales_ident (c : Cluster) (n : Nat) (o : MacroOp) (list : Option (List W16)) (k : Nat) : (c.actScales n o list k).2.ident = c.ident :=
  by unfold Cluster.actScales; (repeat' (first | split | intro _)) <;> simp (maxDischargeDepth := 40) +contextual [*]
@[simp] theorem Cluster.sliceCodes_canon (c : Cluster) (a : Nat) (o : MacroOp) (list : Option (List W16)) (t : Nat) (k_c : c.canon) : (c.sliceCodes a o list t).2.canon :=
  by unfold Cluster.sliceCodes; (repeat' (first | split | intro _)) <;> simp (maxDischargeDepth := 40) +contextual [*]
@[simp] theorem Cluster.sliceCodes_ident (c : Cluster) (a : Nat) (o : MacroOp) (list : Option (List W16)) (t : Nat) : (c.sliceCodes a o list t).2.ident = c.ident :=
  by unfold Cluster.sliceCodes; (repeat' (first | split | intro _)) <;> simp (maxDischargeDepth := 40) +contextual [*]
@[simp] theorem Cluster.loadSet_canon (c : Cluster) (a : Nat) (s : PrimSet) (k_c : c.canon) : (c.loadSet a s).2.canon :=
  by simp (maxDischargeDepth := 40) +contextual [Cluster.loadSet, *]
@[simp] theorem Cluster.loadSet_ident (c : Cluster) (a : Nat) (s : PrimSet) : (c.loadSet a s).2.ident = c.ident :=
  by simp (maxDischargeDepth := 40) +contextual [Cluster.loadSet, *]
@[simp] theorem Cluster.needSet_canon (c : Cluster) (a : Nat) (o : MacroOp) (s : Option Bool) (k_c : c.canon) : (c.needSet a o s).2.canon :=
  by unfold Cluster.needSet; (repeat' (first | split | intro _)) <;> simp (maxDischargeDepth := 40) +contextual [*]
@[simp] theorem Cluster.needSet_ident (c : Cluster) (a : Nat) (o : MacroOp) (s : Option Bool) : (c.needSet a o s).2.ident = c.ident :=
  by unfold Cluster.needSet; (repeat' (first | split | intro _)) <;> simp (maxDischargeDepth := 40) +contextual [*]
@[simp] theorem Cluster.readSlice_canon (c : Cluster) (a : Nat) (o : MacroOp) (list : Option (List W16)) (set : Option Bool) (s : Nat) (k_c : c.canon) : (c.readSlice a o list set s).2.canon :=
  by unfold Cluster.readSlice; dsimp only; (repeat' split) <;> simp (maxDischargeDepth := 40) +contextual [*]
@[simp] theorem Cluster.readSlice_ident (c : Cluster) (a : Nat) (o : MacroOp) (list : Option (List W16)) (set : Option Bool) (s : Nat) : (c.readSlice a o list set s).2.ident = c.ident :=
  by unfold Cluster.readSlice; dsimp only; (repeat' split) <;> simp (maxDischargeDepth := 40) +contextual [*]
@[simp] theorem Cluster.keepAhead_canon (c : Cluster) (a : Nat) (e : Ahead) (k_c : c.canon) : (c.keepAhead a e).canon :=
  by simp (maxDischargeDepth := 40) +contextual [Cluster.keepAhead, *]
@[simp] theorem Cluster.keepAhead_ident (c : Cluster) (a : Nat) (e : Ahead) : (c.keepAhead a e).ident = c.ident :=
  by simp (maxDischargeDepth := 40) +contextual [Cluster.keepAhead, *]
@[simp] theorem Cluster.readList_canon (c : Cluster) (a : Nat) (o : MacroOp) (t0 : Nat) (k_c : c.canon) : (c.readList a o t0).canon :=
  by simp (maxDischargeDepth := 40) +contextual [Cluster.readList, *]
@[simp] theorem Cluster.readList_ident (c : Cluster) (a : Nat) (o : MacroOp) (t0 : Nat) : (c.readList a o t0).ident = c.ident :=
  by simp (maxDischargeDepth := 40) +contextual [Cluster.readList, *]
@[simp] theorem Cluster.gatherFault_canon (c : Cluster) (a : Nat) (o : MacroOp) (i : Nat) (e : W16) (k_c : c.canon) : (c.gatherFault a o i e).canon :=
  by simp (maxDischargeDepth := 40) +contextual [Cluster.gatherFault, *]
@[simp] theorem Cluster.gatherFault_ident (c : Cluster) (a : Nat) (o : MacroOp) (i : Nat) (e : W16) : (c.gatherFault a o i e).ident = c.ident :=
  by simp (maxDischargeDepth := 40) +contextual [Cluster.gatherFault, *]
@[simp] theorem Cluster.readLists_canon (c : Cluster) (n : Nat) (k_c : c.canon) : (c.readLists n).canon :=
  by unfold Cluster.readLists; dsimp only; (repeat' split) <;> simp (maxDischargeDepth := 40) +contextual [*]
@[simp] theorem Cluster.readLists_ident (c : Cluster) (n : Nat) : (c.readLists n).ident = c.ident :=
  by unfold Cluster.readLists; dsimp only; (repeat' split) <;> simp (maxDischargeDepth := 40) +contextual [*]
@[simp] theorem Cluster.makeRead_canon (c : Cluster) (a : Nat) (o : MacroOp) (t0 : Nat) (r : Nat × Nat) (k_c : c.canon) : (c.makeRead a o t0 r).canon :=
  by unfold Cluster.makeRead; dsimp only; (repeat' split) <;> simp (maxDischargeDepth := 40) +contextual [*]
@[simp] theorem Cluster.makeRead_ident (c : Cluster) (a : Nat) (o : MacroOp) (t0 : Nat) (r : Nat × Nat) : (c.makeRead a o t0 r).ident = c.ident :=
  by unfold Cluster.makeRead; dsimp only; (repeat' split) <;> simp (maxDischargeDepth := 40) +contextual [*]
@[simp] theorem readAheadC_canon (c : Cluster) (a : Nat) (k_c : c.canon) : (readAheadC c a).canon :=
  by simp (maxDischargeDepth := 40) +contextual [readAheadC, *]
@[simp] theorem readAheadC_ident (c : Cluster) (a : Nat) : (readAheadC c a).ident = c.ident :=
  by simp (maxDischargeDepth := 40) +contextual [readAheadC, *]

end Sys2Proof.Machine
end

