-- ==== Sys2Proof/Laws/CanonBoundary.lean ====
section
/-! SUPPORT. Every operation of Machine/Boundary.lean keeps the canonical form of the stores and the identity of the cluster. -/

namespace Sys2Proof.Machine

@[simp] theorem Cluster.serveRd_canon (c : Cluster) (lane : Nat) (f : Flit) (k_c : c.canon) : (c.serveRd lane f).canon :=
  by
  unfold Cluster.serveRd
  generalize List.replicate 256 (0 : Byte) = z
  dsimp only
  (repeat' split) <;> simp (maxDischargeDepth := 40) +contextual [*]
@[simp] theorem Cluster.serveRd_ident (c : Cluster) (lane : Nat) (f : Flit) : (c.serveRd lane f).ident = c.ident :=
  by
  unfold Cluster.serveRd
  generalize List.replicate 256 (0 : Byte) = z
  dsimp only
  (repeat' split) <;> simp (maxDischargeDepth := 40) +contextual [*]
@[simp] theorem Cluster.serveWr_canon (c : Cluster) (lane : Nat) (f : Flit) (k_c : c.canon) : (c.serveWr lane f).canon :=
  by simp (maxDischargeDepth := 40) +contextual [Cluster.serveWr, *]
@[simp] theorem Cluster.serveWr_ident (c : Cluster) (lane : Nat) (f : Flit) : (c.serveWr lane f).ident = c.ident :=
  by simp (maxDischargeDepth := 40) +contextual [Cluster.serveWr, *]
@[simp] theorem Cluster.sendReq_canon (c : Cluster) (ty : Nat) (txn : Nat) (lmask : Nat) (target : Nat) (payload : List Byte) (k_c : c.canon) : (c.sendReq ty txn lmask target payload).canon :=
  by simp (maxDischargeDepth := 40) +contextual [Cluster.sendReq, *]
@[simp] theorem Cluster.sendReq_ident (c : Cluster) (ty : Nat) (txn : Nat) (lmask : Nat) (target : Nat) (payload : List Byte) : (c.sendReq ty txn lmask target payload).ident = c.ident :=
  by simp (maxDischargeDepth := 40) +contextual [Cluster.sendReq, *]
@[simp] theorem Cluster.take_canon (c : Cluster) (p : Nat) (k_c : c.canon) : (c.take p).canon :=
  by simp (maxDischargeDepth := 40) +contextual [Cluster.take, *]
@[simp] theorem Cluster.take_ident (c : Cluster) (p : Nat) : (c.take p).ident = c.ident :=
  by simp (maxDischargeDepth := 40) +contextual [Cluster.take, *]
@[simp] theorem Cluster.sanderServed_canon (c : Cluster) (p : Nat) (late : Bool) (k_c : c.canon) : (c.sanderServed p late).canon :=
  by simp (maxDischargeDepth := 40) +contextual [Cluster.sanderServed, *]
@[simp] theorem Cluster.sanderServed_ident (c : Cluster) (p : Nat) (late : Bool) : (c.sanderServed p late).ident = c.ident :=
  by simp (maxDischargeDepth := 40) +contextual [Cluster.sanderServed, *]
@[simp] theorem Cluster.endSlots_canon (c : Cluster) (k_c : c.canon) : c.endSlots.canon :=
  by simp (maxDischargeDepth := 40) +contextual [Cluster.endSlots, *]
@[simp] theorem Cluster.endSlots_ident (c : Cluster) : c.endSlots.ident = c.ident :=
  by simp (maxDischargeDepth := 40) +contextual [Cluster.endSlots, *]
@[simp] theorem scrubRequestC_canon (c : Cluster) (k_c : c.canon) : (scrubRequestC c).canon :=
  by simp (maxDischargeDepth := 40) +contextual [scrubRequestC, *]
@[simp] theorem scrubRequestC_ident (c : Cluster) : (scrubRequestC c).ident = c.ident :=
  by simp (maxDischargeDepth := 40) +contextual [scrubRequestC, *]
@[simp] theorem Cluster.passEnd_canon (c : Cluster) (k_c : c.canon) : c.passEnd.canon :=
  by simp (maxDischargeDepth := 40) +contextual [Cluster.passEnd, *]
@[simp] theorem Cluster.passEnd_ident (c : Cluster) : c.passEnd.ident = c.ident :=
  by simp (maxDischargeDepth := 40) +contextual [Cluster.passEnd, *]
@[simp] theorem Cluster.scrubMove_canon (c : Cluster) (p : Nat) (k_c : c.canon) : (c.scrubMove p).canon :=
  by simp (maxDischargeDepth := 40) +contextual [Cluster.scrubMove, *]
@[simp] theorem Cluster.scrubMove_ident (c : Cluster) (p : Nat) : (c.scrubMove p).ident = c.ident :=
  by simp (maxDischargeDepth := 40) +contextual [Cluster.scrubMove, *]
@[simp] theorem Cluster.scrubRead_canon (c : Cluster) (line : Nat) (k_c : c.canon) : (c.scrubRead line).canon :=
  by simp (maxDischargeDepth := 40) +contextual [Cluster.scrubRead, *]
@[simp] theorem Cluster.scrubRead_ident (c : Cluster) (line : Nat) : (c.scrubRead line).ident = c.ident :=
  by simp (maxDischargeDepth := 40) +contextual [Cluster.scrubRead, *]
@[simp] theorem Cluster.doScrub_canon (c : Cluster) (p : Nat) (k_c : c.canon) : (c.doScrub p).canon :=
  by simp (maxDischargeDepth := 40) +contextual [Cluster.doScrub, *]
@[simp] theorem Cluster.doScrub_ident (c : Cluster) (p : Nat) : (c.doScrub p).ident = c.ident :=
  by simp (maxDischargeDepth := 40) +contextual [Cluster.doScrub, *]
@[simp] theorem scrubC_canon (c : Cluster) (p : Nat) (k_c : c.canon) : (scrubC c p).canon :=
  by simp (maxDischargeDepth := 40) +contextual [scrubC, *]
@[simp] theorem scrubC_ident (c : Cluster) (p : Nat) : (scrubC c p).ident = c.ident :=
  by simp (maxDischargeDepth := 40) +contextual [scrubC, *]
@[simp] theorem Cluster.repairWords_canon (c : Cluster) (r : Repair) (k_c : c.canon) : (c.repairWords r).canon :=
  by simp (maxDischargeDepth := 40) +contextual [Cluster.repairWords, *]
@[simp] theorem Cluster.repairWords_ident (c : Cluster) (r : Repair) : (c.repairWords r).ident = c.ident :=
  Cluster.each_ident _ _ _ (fun _ _ => rfl)
@[simp] theorem repairWriteC_canon (c : Cluster) (p : Nat) (k_c : c.canon) : (repairWriteC c p).canon :=
  by unfold repairWriteC; dsimp only; (repeat' split) <;> simp (maxDischargeDepth := 40) +contextual [*]
@[simp] theorem repairWriteC_ident (c : Cluster) (p : Nat) : (repairWriteC c p).ident = c.ident :=
  by unfold repairWriteC; dsimp only; (repeat' split) <;> simp (maxDischargeDepth := 40) +contextual [*]

end Sys2Proof.Machine
end

