-- ==== Sys2Proof/Laws/CanonSyncUnit.lean ====
section
/-! SUPPORT. Every operation of Machine/SyncUnit.lean keeps the canonical form of the stores and the identity of the cluster. -/

namespace Sys2Proof.Machine

@[simp] theorem Cluster.syncPost_canon (c : Cluster) (word : Nat) (ctx : Nat) (rank : Nat) (what : SyncWhat) (ack : Option (Nat × BitVec 128)) (k_c : c.canon) : (c.syncPost word ctx rank what ack).canon :=
  by simp (maxDischargeDepth := 40) +contextual [Cluster.syncPost, *]
@[simp] theorem Cluster.syncPost_ident (c : Cluster) (word : Nat) (ctx : Nat) (rank : Nat) (what : SyncWhat) (ack : Option (Nat × BitVec 128)) : (c.syncPost word ctx rank what ack).ident = c.ident :=
  by simp (maxDischargeDepth := 40) +contextual [Cluster.syncPost, *]
@[simp] theorem Cluster.syncTake_canon (c : Cluster) (i : Nat) (k_c : c.canon) : (c.syncTake i).canon :=
  by unfold Cluster.syncTake; (repeat' (first | split | intro _)) <;> simp (maxDischargeDepth := 40) +contextual [*]
@[simp] theorem Cluster.syncTake_ident (c : Cluster) (i : Nat) : (c.syncTake i).ident = c.ident :=
  by unfold Cluster.syncTake; (repeat' (first | split | intro _)) <;> simp (maxDischargeDepth := 40) +contextual [*]
@[simp] theorem Cluster.syncIssue_canon (c : Cluster) (k_c : c.canon) : c.syncIssue.canon :=
  by simp (maxDischargeDepth := 40) +contextual [Cluster.syncIssue, *]
@[simp] theorem Cluster.syncIssue_ident (c : Cluster) : c.syncIssue.ident = c.ident :=
  by simp (maxDischargeDepth := 40) +contextual [Cluster.syncIssue, *]
@[simp] theorem Cluster.endWait_canon (c : Cluster) (n : Nat) (engine : Bool) (rd : Nat) (rs : Nat) (v : W32) (status : Nat) (k_c : c.canon) : (c.endWait n engine rd rs v status).canon :=
  by simp (maxDischargeDepth := 40) +contextual [Cluster.endWait, *]
@[simp] theorem Cluster.endWait_ident (c : Cluster) (n : Nat) (engine : Bool) (rd : Nat) (rs : Nat) (v : W32) (status : Nat) : (c.endWait n engine rd rs v status).ident = c.ident :=
  by simp (maxDischargeDepth := 40) +contextual [Cluster.endWait, *]
@[simp] theorem Cluster.tryWaiter_canon (w : Nat) (p : Cluster × W64) (n : Nat) (k_p : p.1.canon) : (Cluster.tryWaiter w p n).1.canon :=
  by
  unfold Cluster.tryWaiter
  (repeat' split) <;> simp (maxDischargeDepth := 40) +contextual [*]
@[simp] theorem Cluster.tryWaiter_ident (w : Nat) (p : Cluster × W64) (n : Nat) : (Cluster.tryWaiter w p n).1.ident = p.1.ident :=
  by
  unfold Cluster.tryWaiter
  (repeat' split) <;> simp (maxDischargeDepth := 40) +contextual [*]
@[simp] theorem Cluster.vid_canon (c : Cluster) (ctx : Nat) (v : Nat) (k_c : c.canon) : (c.vid ctx v).1.canon :=
  by simp (maxDischargeDepth := 40) +contextual [Cluster.vid, *]
@[simp] theorem Cluster.vid_ident (c : Cluster) (ctx : Nat) (v : Nat) : (c.vid ctx v).1.ident = c.ident :=
  by simp (maxDischargeDepth := 40) +contextual [Cluster.vid, *]
@[simp] theorem Cluster.doWait_canon (c : Cluster) (n : Nat) (wt : Waiter) (timeout : Nat) (k_c : c.canon) : (c.doWait n wt timeout).canon :=
  by simp (maxDischargeDepth := 40) +contextual [Cluster.doWait, *]
@[simp] theorem Cluster.doWait_ident (c : Cluster) (n : Nat) (wt : Waiter) (timeout : Nat) : (c.doWait n wt timeout).ident = c.ident :=
  by simp (maxDischargeDepth := 40) +contextual [Cluster.doWait, *]
@[simp] theorem Cluster.evalWait_canon (c : Cluster) (n : Nat) (timeout : Nat) (wt : Waiter) (x : W64) (k_c : c.canon) : (c.evalWait n timeout wt x).1.canon :=
  by unfold Cluster.evalWait; (repeat' (first | split | intro _)) <;> simp (maxDischargeDepth := 40) +contextual [*]
@[simp] theorem Cluster.evalWait_ident (c : Cluster) (n : Nat) (timeout : Nat) (wt : Waiter) (x : W64) : (c.evalWait n timeout wt x).1.ident = c.ident :=
  by unfold Cluster.evalWait; (repeat' (first | split | intro _)) <;> simp (maxDischargeDepth := 40) +contextual [*]
@[simp] theorem Cluster.expireWait_canon (c : Cluster) (n : Nat) (wt : Waiter) (x : W64) (k_c : c.canon) : (c.expireWait n wt x).canon :=
  by simp (maxDischargeDepth := 40) +contextual [Cluster.expireWait, *]
@[simp] theorem Cluster.expireWait_ident (c : Cluster) (n : Nat) (wt : Waiter) (x : W64) : (c.expireWait n wt x).ident = c.ident :=
  by simp (maxDischargeDepth := 40) +contextual [Cluster.expireWait, *]
@[simp] theorem waitTimeoutC_canon (c : Cluster) (n : Nat) (k_c : c.canon) : (waitTimeoutC c n).canon :=
  by unfold waitTimeoutC; (repeat' (first | split | intro _)) <;> simp (maxDischargeDepth := 40) +contextual [*]
@[simp] theorem waitTimeoutC_ident (c : Cluster) (n : Nat) : (waitTimeoutC c n).ident = c.ident :=
  by unfold waitTimeoutC; (repeat' (first | split | intro _)) <;> simp (maxDischargeDepth := 40) +contextual [*]
@[simp] theorem Cluster.syncApply_canon (c : Cluster) (o : SyncOp) (x : W64) (k_c : c.canon) : (c.syncApply o x).1.canon :=
  by unfold Cluster.syncApply; (repeat' (first | split | intro _)) <;> simp (maxDischargeDepth := 40) +contextual [*]
@[simp] theorem Cluster.syncApply_ident (c : Cluster) (o : SyncOp) (x : W64) : (c.syncApply o x).1.ident = c.ident :=
  by unfold Cluster.syncApply; (repeat' (first | split | intro _)) <;> simp (maxDischargeDepth := 40) +contextual [*]
@[simp] theorem Cluster.syncReadDone_canon (c : Cluster) (id : Nat) (x : W64) (bad : Bool) (k_c : c.canon) : (c.syncReadDone id x bad).canon :=
  by unfold Cluster.syncReadDone; (repeat' (first | split | intro _)) <;> simp (maxDischargeDepth := 40) +contextual [*]
@[simp] theorem Cluster.syncReadDone_ident (c : Cluster) (id : Nat) (x : W64) (bad : Bool) : (c.syncReadDone id x bad).ident = c.ident :=
  by unfold Cluster.syncReadDone; (repeat' (first | split | intro _)) <;> simp (maxDischargeDepth := 40) +contextual [*]
@[simp] theorem Cluster.syncWriteDone_canon (c : Cluster) (id : Nat) (k_c : c.canon) : (c.syncWriteDone id).canon :=
  by unfold Cluster.syncWriteDone; (repeat' (first | split | intro _)) <;> simp (maxDischargeDepth := 40) +contextual [*]
@[simp] theorem Cluster.syncWriteDone_ident (c : Cluster) (id : Nat) : (c.syncWriteDone id).ident = c.ident :=
  by unfold Cluster.syncWriteDone; (repeat' (first | split | intro _)) <;> simp (maxDischargeDepth := 40) +contextual [*]
@[simp] theorem Cluster.sendAcks_canon (c : Cluster) (k_c : c.canon) : c.sendAcks.canon :=
  by simp (maxDischargeDepth := 40) +contextual [Cluster.sendAcks, *]
@[simp] theorem Cluster.sendAcks_ident (c : Cluster) : c.sendAcks.ident = c.ident :=
  by simp (maxDischargeDepth := 40) +contextual [Cluster.sendAcks, *]
@[simp] theorem Cluster.syncArrive_canon (c : Cluster) (lane : Nat) (f : Flit) (k_c : c.canon) : (c.syncArrive lane f).canon :=
  by simp (maxDischargeDepth := 40) +contextual [Cluster.syncArrive, *]
@[simp] theorem Cluster.syncArrive_ident (c : Cluster) (lane : Nat) (f : Flit) : (c.syncArrive lane f).ident = c.ident :=
  by simp (maxDischargeDepth := 40) +contextual [Cluster.syncArrive, *]
@[simp] theorem Cluster.signaller_canon (c : Cluster) (lane : Nat) (f : Flit) (k_c : c.canon) : (c.signaller lane f).2.canon :=
  by unfold Cluster.signaller; (repeat' (first | split | intro _)) <;> simp (maxDischargeDepth := 40) +contextual [*]
@[simp] theorem Cluster.signaller_ident (c : Cluster) (lane : Nat) (f : Flit) : (c.signaller lane f).2.ident = c.ident :=
  by unfold Cluster.signaller; (repeat' (first | split | intro _)) <;> simp (maxDischargeDepth := 40) +contextual [*]
@[simp] theorem Cluster.applyFlit_canon (c : Cluster) (lane : Nat) (f : Flit) (k_c : c.canon) : (c.applyFlit lane f).canon :=
  by unfold Cluster.applyFlit; dsimp only; (repeat' split) <;> simp (maxDischargeDepth := 40) +contextual [*]
@[simp] theorem Cluster.applyFlit_ident (c : Cluster) (lane : Nat) (f : Flit) : (c.applyFlit lane f).ident = c.ident :=
  by unfold Cluster.applyFlit; dsimp only; (repeat' split) <;> simp (maxDischargeDepth := 40) +contextual [*]
@[simp] theorem syncApplyC_canon (c : Cluster) (k_c : c.canon) : (syncApplyC c).canon :=
  by unfold syncApplyC; (repeat' (first | split | intro _)) <;> simp (maxDischargeDepth := 40) +contextual [*]
@[simp] theorem syncApplyC_ident (c : Cluster) : (syncApplyC c).ident = c.ident :=
  by unfold syncApplyC; (repeat' (first | split | intro _)) <;> simp (maxDischargeDepth := 40) +contextual [*]
@[simp] theorem Cluster.launchSignal_canon (c : Cluster) (n : Nat) (slot : Nat) (g : SigSlot) (k_c : c.canon) : (c.launchSignal n slot g).canon :=
  by simp (maxDischargeDepth := 40) +contextual [Cluster.launchSignal, *]
@[simp] theorem Cluster.launchSignal_ident (c : Cluster) (n : Nat) (slot : Nat) (g : SigSlot) : (c.launchSignal n slot g).ident = c.ident :=
  by simp (maxDischargeDepth := 40) +contextual [Cluster.launchSignal, *]
@[simp] theorem signalSendC_canon (c : Cluster) (n : Nat) (slot : Nat) (k_c : c.canon) : (signalSendC c n slot).canon :=
  by unfold signalSendC; dsimp only; (repeat' split) <;> simp (maxDischargeDepth := 40) +contextual [*]
@[simp] theorem signalSendC_ident (c : Cluster) (n : Nat) (slot : Nat) : (signalSendC c n slot).ident = c.ident :=
  by unfold signalSendC; dsimp only; (repeat' split) <;> simp (maxDischargeDepth := 40) +contextual [*]
@[simp] theorem signalResendC_canon (c : Cluster) (n : Nat) (slot : Nat) (k_c : c.canon) : (signalResendC c n slot).canon :=
  by unfold signalResendC; dsimp only; (repeat' split) <;> simp (maxDischargeDepth := 40) +contextual [*]
@[simp] theorem signalResendC_ident (c : Cluster) (n : Nat) (slot : Nat) : (signalResendC c n slot).ident = c.ident :=
  by unfold signalResendC; dsimp only; (repeat' split) <;> simp (maxDischargeDepth := 40) +contextual [*]
@[simp] theorem signalTimeoutC_canon (c : Cluster) (n : Nat) (slot : Nat) (k_c : c.canon) : (signalTimeoutC c n slot).canon :=
  by unfold signalTimeoutC; (repeat' (first | split | intro _)) <;> simp (maxDischargeDepth := 40) +contextual [*]
@[simp] theorem signalTimeoutC_ident (c : Cluster) (n : Nat) (slot : Nat) : (signalTimeoutC c n slot).ident = c.ident :=
  by unfold signalTimeoutC; (repeat' (first | split | intro _)) <;> simp (maxDischargeDepth := 40) +contextual [*]
@[simp] theorem Cluster.baseline_canon (c : Cluster) (i : Nat) (k_c : c.canon) : (c.baseline i).canon :=
  by
  unfold Cluster.baseline
  exact Cluster.withTab_canon _ _ _ k_c (fun d hd => by dsimp only; (repeat' split) <;> simp [hd])
@[simp] theorem Cluster.baseline_ident (c : Cluster) (i : Nat) : (c.baseline i).ident = c.ident :=
  by
  unfold Cluster.baseline
  exact Cluster.withTab_ident _ _ _ (fun d => by dsimp only; (repeat' split) <;> simp)
@[simp] theorem screedC_canon (c : Cluster) (k_c : c.canon) : (screedC c).canon :=
  by unfold screedC; (repeat' (first | split | intro _)) <;> simp (maxDischargeDepth := 40) +contextual [*]
@[simp] theorem screedC_ident (c : Cluster) : (screedC c).ident = c.ident :=
  by unfold screedC; (repeat' (first | split | intro _)) <;> simp (maxDischargeDepth := 40) +contextual [*]

end Sys2Proof.Machine
end

