-- ==== Sys2Proof/Laws/CanonMessages.lean ====
section
/-! SUPPORT. Every operation of Machine/Messages.lean keeps the canonical form of the stores and the identity of the cluster. -/

namespace Sys2Proof.Machine

@[simp] theorem Cluster.consume_canon (c : Cluster) (r : Nat) (n : Nat) (k_c : c.canon) : (c.consume r n).canon :=
  by simp (maxDischargeDepth := 40) +contextual [Cluster.consume, *]
@[simp] theorem Cluster.consume_ident (c : Cluster) (r : Nat) (n : Nat) : (c.consume r n).ident = c.ident :=
  by simp (maxDischargeDepth := 40) +contextual [Cluster.consume, *]
@[simp] theorem Cluster.padSkip_canon (c : Cluster) (r : Nat) (k_c : c.canon) : (c.padSkip r).canon :=
  by simp (maxDischargeDepth := 40) +contextual [Cluster.padSkip, *]
@[simp] theorem Cluster.padSkip_ident (c : Cluster) (r : Nat) : (c.padSkip r).ident = c.ident :=
  by simp (maxDischargeDepth := 40) +contextual [Cluster.padSkip, *]
@[simp] theorem Cluster.produce_canon (c : Cluster) (r : Nat) (n : Nat) (pad : Nat) (k_c : c.canon) : (c.produce r n pad).canon :=
  by simp (maxDischargeDepth := 40) +contextual [Cluster.produce, *]
@[simp] theorem Cluster.produce_ident (c : Cluster) (r : Nat) (n : Nat) (pad : Nat) : (c.produce r n pad).ident = c.ident :=
  by simp (maxDischargeDepth := 40) +contextual [Cluster.produce, *]
@[simp] theorem Cluster.injectDmem_canon (c : Cluster) (n : Nat) (w : Nat) (k_c : c.canon) : (c.injectDmem n w).canon :=
  by simp (maxDischargeDepth := 40) +contextual [Cluster.injectDmem, *]
@[simp] theorem Cluster.injectDmem_ident (c : Cluster) (n : Nat) (w : Nat) : (c.injectDmem n w).ident = c.ident :=
  by simp (maxDischargeDepth := 40) +contextual [Cluster.injectDmem, *]
@[simp] theorem Cluster.dmemPut_canon (c : Cluster) (n : Nat) (a : Nat) (bs : List Byte) (k_c : c.canon) : (c.dmemPut n a bs).canon :=
  by simp (maxDischargeDepth := 40) +contextual [Cluster.dmemPut, *]
@[simp] theorem Cluster.dmemPut_ident (c : Cluster) (n : Nat) (a : Nat) (bs : List Byte) : (c.dmemPut n a bs).ident = c.ident :=
  by simp (maxDischargeDepth := 40) +contextual [Cluster.dmemPut, *]
@[simp] theorem Cluster.takeHead_canon (c : Cluster) (n : Nat) (r : Nat) (rd : Nat) (rb : Nat) (rs : Nat) (copy : Bool) (k_c : c.canon) : (c.takeHead n r rd rb rs copy).canon :=
  by simp (maxDischargeDepth := 40) +contextual [Cluster.takeHead, *]
@[simp] theorem Cluster.takeHead_ident (c : Cluster) (n : Nat) (r : Nat) (rd : Nat) (rb : Nat) (rs : Nat) (copy : Bool) : (c.takeHead n r rd rb rs copy).ident = c.ident :=
  by simp (maxDischargeDepth := 40) +contextual [Cluster.takeHead, *]
@[simp] theorem Cluster.recvDone_canon (c : Cluster) (n : Nat) (r : Nat) (rd : Nat) (rb : Nat) (rs : Nat) (len : Nat) (bs : List Byte) (k_c : c.canon) : (c.recvDone n r rd rb rs len bs).canon :=
  by simp (maxDischargeDepth := 40) +contextual [Cluster.recvDone, *]
@[simp] theorem Cluster.recvDone_ident (c : Cluster) (n : Nat) (r : Nat) (rd : Nat) (rb : Nat) (rs : Nat) (len : Nat) (bs : List Byte) : (c.recvDone n r rd rb rs len bs).ident = c.ident :=
  by simp (maxDischargeDepth := 40) +contextual [Cluster.recvDone, *]
@[simp] theorem Cluster.recvHeadDone_canon (c : Cluster) (id : Nat) (n : Nat) (bs : List Byte) (k_c : c.canon) : (c.recvHeadDone id n bs).canon :=
  by unfold Cluster.recvHeadDone; dsimp only; (repeat' split) <;> simp (maxDischargeDepth := 40) +contextual [*]
@[simp] theorem Cluster.recvHeadDone_ident (c : Cluster) (id : Nat) (n : Nat) (bs : List Byte) : (c.recvHeadDone id n bs).ident = c.ident :=
  by unfold Cluster.recvHeadDone; dsimp only; (repeat' split) <;> simp (maxDischargeDepth := 40) +contextual [*]
@[simp] theorem Cluster.recvBodyDone_canon (c : Cluster) (id : Nat) (n : Nat) (bs : List Byte) (k_c : c.canon) : (c.recvBodyDone id n bs).canon :=
  by unfold Cluster.recvBodyDone; (repeat' (first | split | intro _)) <;> simp (maxDischargeDepth := 40) +contextual [*]
@[simp] theorem Cluster.recvBodyDone_ident (c : Cluster) (id : Nat) (n : Nat) (bs : List Byte) : (c.recvBodyDone id n bs).ident = c.ident :=
  by unfold Cluster.recvBodyDone; (repeat' (first | split | intro _)) <;> simp (maxDischargeDepth := 40) +contextual [*]
@[simp] theorem Cluster.recvCheck_canon (c : Cluster) (r : Nat) (k_c : c.canon) : (c.recvCheck r).canon :=
  by
  unfold Cluster.recvCheck
  exact Cluster.each_canon _ _ k_c (fun d x h => by (try dsimp only); repeat' split; all_goals simp (maxDischargeDepth := 40) +contextual [*])
@[simp] theorem Cluster.recvCheck_ident (c : Cluster) (r : Nat) : (c.recvCheck r).ident = c.ident :=
  by
  unfold Cluster.recvCheck
  exact Cluster.each_ident _ _ _ (fun d x => by (try dsimp only); repeat' split; all_goals simp (maxDischargeDepth := 40) +contextual [*])
@[simp] theorem Cluster.sporeGone_canon (c : Cluster) (i : Nat) (k_c : c.canon) : (c.sporeGone i).canon :=
  by simp (maxDischargeDepth := 40) +contextual [Cluster.sporeGone, *]
@[simp] theorem Cluster.sporeGone_ident (c : Cluster) (i : Nat) : (c.sporeGone i).ident = c.ident :=
  by simp (maxDischargeDepth := 40) +contextual [Cluster.sporeGone, *]
@[simp] theorem Cluster.placeSporeDone_canon (c : Cluster) (id : Nat) (i : Nat) (r : Nat) (n : Nat) (pad : Nat) (k_c : c.canon) : (c.placeSporeDone id i r n pad).canon :=
  by unfold Cluster.placeSporeDone; (repeat' (first | split | intro _)) <;> simp (maxDischargeDepth := 40) +contextual [*]
@[simp] theorem Cluster.placeSporeDone_ident (c : Cluster) (id : Nat) (i : Nat) (r : Nat) (n : Nat) (pad : Nat) : (c.placeSporeDone id i r n pad).ident = c.ident :=
  by unfold Cluster.placeSporeDone; (repeat' (first | split | intro _)) <;> simp (maxDischargeDepth := 40) +contextual [*]
@[simp] theorem sporePlacementC_canon (c : Cluster) (r : Nat) (k_c : c.canon) : (sporePlacementC c r).canon :=
  by
  unfold sporePlacementC
  (repeat' split) <;> first
    | simp (maxDischargeDepth := 40) +contextual [*]; done
    | (refine Cluster.withTab_canon _ _ _ (by simp (maxDischargeDepth := 40) +contextual [*]) (fun d hd => ?_); (try dsimp only); (repeat' split) <;> simp (maxDischargeDepth := 40) +contextual [*])
    | (refine Cluster.each_canon _ _ (by simp (maxDischargeDepth := 40) +contextual [*]) (fun d x hd => ?_); (try dsimp only); (repeat' split) <;> simp (maxDischargeDepth := 40) +contextual [*])
@[simp] theorem sporePlacementC_ident (c : Cluster) (r : Nat) : (sporePlacementC c r).ident = c.ident :=
  by
  unfold sporePlacementC
  (repeat' split) <;> first
    | simp (maxDischargeDepth := 40) +contextual [*]; done
    | (refine Cluster.withTab_ident _ _ _ (fun d => ?_); (try dsimp only); (repeat' split) <;> simp (maxDischargeDepth := 40) +contextual [*])
    | (refine (Cluster.each_ident _ _ _ (fun d x => ?_)).trans ?_ <;> (try dsimp only) <;> (repeat' split) <;> simp (maxDischargeDepth := 40) +contextual [*])
@[simp] theorem ringTimeoutC_canon (c : Cluster) (i : Nat) (k_c : c.canon) : (ringTimeoutC c i).canon :=
  by unfold ringTimeoutC; (repeat' (first | split | intro _)) <;> simp (maxDischargeDepth := 40) +contextual [*]
@[simp] theorem ringTimeoutC_ident (c : Cluster) (i : Nat) : (ringTimeoutC c i).ident = c.ident :=
  by unfold ringTimeoutC; (repeat' (first | split | intro _)) <;> simp (maxDischargeDepth := 40) +contextual [*]
@[simp] theorem Cluster.sporeComplete_canon (c : Cluster) (i : Nat) (k_c : c.canon) : (c.sporeComplete i).canon :=
  by unfold Cluster.sporeComplete; dsimp only; (repeat' split) <;> simp (maxDischargeDepth := 40) +contextual [*]
@[simp] theorem Cluster.sporeComplete_ident (c : Cluster) (i : Nat) : (c.sporeComplete i).ident = c.ident :=
  by unfold Cluster.sporeComplete; dsimp only; (repeat' split) <;> simp (maxDischargeDepth := 40) +contextual [*]
@[simp] theorem Cluster.sporeFirst_canon (c : Cluster) (lane : Nat) (f : Flit) (sorus : Bool) (k_c : c.canon) : (c.sporeFirst lane f sorus).canon :=
  by unfold Cluster.sporeFirst; dsimp only; (repeat' split) <;> simp (maxDischargeDepth := 40) +contextual [*]
@[simp] theorem Cluster.sporeFirst_ident (c : Cluster) (lane : Nat) (f : Flit) (sorus : Bool) : (c.sporeFirst lane f sorus).ident = c.ident :=
  by unfold Cluster.sporeFirst; dsimp only; (repeat' split) <;> simp (maxDischargeDepth := 40) +contextual [*]
@[simp] theorem Cluster.sporeMore_canon (c : Cluster) (f : Flit) (k_c : c.canon) : (c.sporeMore f).canon :=
  by unfold Cluster.sporeMore; dsimp only; (repeat' split) <;> simp (maxDischargeDepth := 40) +contextual [*]
@[simp] theorem Cluster.sporeMore_ident (c : Cluster) (f : Flit) : (c.sporeMore f).ident = c.ident :=
  by unfold Cluster.sporeMore; dsimp only; (repeat' split) <;> simp (maxDischargeDepth := 40) +contextual [*]
@[simp] theorem Cluster.sporeArrive_canon (c : Cluster) (lane : Nat) (f : Flit) (k_c : c.canon) : (c.sporeArrive lane f).canon :=
  by simp (maxDischargeDepth := 40) +contextual [Cluster.sporeArrive, *]
@[simp] theorem Cluster.sporeArrive_ident (c : Cluster) (lane : Nat) (f : Flit) : (c.sporeArrive lane f).ident = c.ident :=
  by simp (maxDischargeDepth := 40) +contextual [Cluster.sporeArrive, *]
@[simp] theorem Cluster.launchSpore_canon (c : Cluster) (n : Nat) (slot : Nat) (h : BitVec 128) (data : List Byte) (k_c : c.canon) : (c.launchSpore n slot h data).canon :=
  by simp (maxDischargeDepth := 40) +contextual [Cluster.launchSpore, *]
@[simp] theorem Cluster.launchSpore_ident (c : Cluster) (n : Nat) (slot : Nat) (h : BitVec 128) (data : List Byte) : (c.launchSpore n slot h data).ident = c.ident :=
  by simp (maxDischargeDepth := 40) +contextual [Cluster.launchSpore, *]
@[simp] theorem replyTimeoutC_canon (c : Cluster) (n : Nat) (slot : Nat) (k_c : c.canon) : (replyTimeoutC c n slot).canon :=
  by unfold replyTimeoutC; (repeat' (first | split | intro _)) <;> simp (maxDischargeDepth := 40) +contextual [*]
@[simp] theorem replyTimeoutC_ident (c : Cluster) (n : Nat) (slot : Nat) : (replyTimeoutC c n slot).ident = c.ident :=
  by unfold replyTimeoutC; (repeat' (first | split | intro _)) <;> simp (maxDischargeDepth := 40) +contextual [*]
@[simp] theorem Cluster.putSor_canon (c : Cluster) (e : Nat) (i : Nat) (a : SorAcc) (k_c : c.canon) : (c.putSor e i a).canon :=
  by simp (maxDischargeDepth := 40) +contextual [Cluster.putSor, *]
@[simp] theorem Cluster.putSor_ident (c : Cluster) (e : Nat) (i : Nat) (a : SorAcc) : (c.putSor e i a).ident = c.ident :=
  rfl
@[simp] theorem Cluster.loseSums_canon (c : Cluster) (e : Nat) (i : Nat) (ue : List Nat) (k_c : c.canon) : (c.loseSums e i ue).canon :=
  by simp (maxDischargeDepth := 40) +contextual [Cluster.loseSums, *]
@[simp] theorem Cluster.loseSums_ident (c : Cluster) (e : Nat) (i : Nat) (ue : List Nat) : (c.loseSums e i ue).ident = c.ident :=
  by
  unfold Cluster.loseSums
  (repeat' split) <;> first
    | simp (maxDischargeDepth := 40) +contextual [*]; done
    | (refine Cluster.withTab_ident _ _ _ (fun d => ?_); (try dsimp only); (repeat' split) <;> simp (maxDischargeDepth := 40) +contextual [*])
    | (refine (Cluster.each_ident _ _ _ (fun d x => ?_)).trans ?_ <;> (try dsimp only) <;> (repeat' split) <;> simp (maxDischargeDepth := 40) +contextual [*])
@[simp] theorem Cluster.sorLine_canon (c : Cluster) (e : Nat) (lo : Nat) (n : Nat) (data : List Byte) (i : Nat) (bs : List Byte) (k_c : c.canon) : (c.sorLine e lo n data i bs).2.canon :=
  by unfold Cluster.sorLine; (repeat' (first | split | intro _)) <;> simp (maxDischargeDepth := 40) +contextual [*]
@[simp] theorem Cluster.sorLine_ident (c : Cluster) (e : Nat) (lo : Nat) (n : Nat) (data : List Byte) (i : Nat) (bs : List Byte) : (c.sorLine e lo n data i bs).2.ident = c.ident :=
  by unfold Cluster.sorLine; (repeat' (first | split | intro _)) <;> simp (maxDischargeDepth := 40) +contextual [*]
@[simp] theorem Cluster.sorusReadDone_canon (c : Cluster) (id : Nat) (i : Nat) (lines : List (Nat × List Byte)) (k_c : c.canon) : (c.sorusReadDone id i lines).canon :=
  by unfold Cluster.sorusReadDone; (repeat' (first | split | intro _)) <;> simp (maxDischargeDepth := 40) +contextual [*]
@[simp] theorem Cluster.sorusReadDone_ident (c : Cluster) (id : Nat) (i : Nat) (lines : List (Nat × List Byte)) : (c.sorusReadDone id i lines).ident = c.ident :=
  by unfold Cluster.sorusReadDone; (repeat' (first | split | intro _)) <;> simp (maxDischargeDepth := 40) +contextual [*]
@[simp] theorem Cluster.sorRelease_canon (c : Cluster) (e : Nat) (k_c : c.canon) : (c.sorRelease e).canon :=
  by simp (maxDischargeDepth := 40) +contextual [Cluster.sorRelease, *]
@[simp] theorem Cluster.sorRelease_ident (c : Cluster) (e : Nat) : (c.sorRelease e).ident = c.ident :=
  by simp (maxDischargeDepth := 40) +contextual [Cluster.sorRelease, *]
@[simp] theorem Cluster.sorusOutDone_canon (c : Cluster) (id : Nat) (e : Nat) (bs : List Byte) (k_c : c.canon) : (c.sorusOutDone id e bs).canon :=
  by simp (maxDischargeDepth := 40) +contextual [Cluster.sorusOutDone, *]
@[simp] theorem Cluster.sorusOutDone_ident (c : Cluster) (id : Nat) (e : Nat) (bs : List Byte) : (c.sorusOutDone id e bs).ident = c.ident :=
  by simp (maxDischargeDepth := 40) +contextual [Cluster.sorusOutDone, *]
@[simp] theorem Cluster.sorCount_canon (c : Cluster) (e : Nat) (k_c : c.canon) : (c.sorCount e).canon :=
  by
  unfold Cluster.sorCount
  dsimp only
  split
  · exact Cluster.sorRelease_canon _ e (by simp [k_c, Sparse.wf_set])
  · simp [k_c, Sparse.wf_set]
@[simp] theorem Cluster.sorCount_ident (c : Cluster) (e : Nat) : (c.sorCount e).ident = c.ident :=
  by
  unfold Cluster.sorCount
  dsimp only
  split
  · exact Cluster.sorRelease_ident _ e
  · rfl
@[simp] theorem Cluster.sorusWriteDone_canon (c : Cluster) (id : Nat) (i : Nat) (k_c : c.canon) : (c.sorusWriteDone id i).canon :=
  by unfold Cluster.sorusWriteDone; (repeat' (first | split | intro _)) <;> simp (maxDischargeDepth := 40) +contextual [*]
@[simp] theorem Cluster.sorusWriteDone_ident (c : Cluster) (id : Nat) (i : Nat) : (c.sorusWriteDone id i).ident = c.ident :=
  by
  unfold Cluster.sorusWriteDone
  have he : ∀ (d : Cluster) (l : List Nat) (f : Cluster → Nat → SorAcc) (e o : Nat), (d.each l (fun c k => c.putSor e (o + k) (f c k))).ident = d.ident :=
    fun d l f e o => Cluster.each_ident _ _ _ (fun d x => by simp)
  dsimp only
  (repeat' split) <;> simp [he]
@[simp] theorem sorusAddC_canon (c : Cluster) (e : Nat) (k_c : c.canon) : (sorusAddC c e).canon :=
  by unfold sorusAddC; (repeat' (first | split | intro _)) <;> simp (maxDischargeDepth := 40) +contextual [*]
@[simp] theorem sorusAddC_ident (c : Cluster) (e : Nat) : (sorusAddC c e).ident = c.ident :=
  by unfold sorusAddC; (repeat' (first | split | intro _)) <;> simp (maxDischargeDepth := 40) +contextual [*]
@[simp] theorem Cluster.sorRearm_canon (c : Cluster) (e : Nat) (k_c : c.canon) : (c.sorRearm e).canon :=
  by simp (maxDischargeDepth := 40) +contextual [Cluster.sorRearm, *]
@[simp] theorem Cluster.sorRearm_ident (c : Cluster) (e : Nat) : (c.sorRearm e).ident = c.ident :=
  by simp (maxDischargeDepth := 40) +contextual [Cluster.sorRearm, *]
@[simp] theorem Cluster.placeSorusDone_canon (c : Cluster) (id : Nat) (e : Nat) (r : Nat) (n : Nat) (pad : Nat) (k_c : c.canon) : (c.placeSorusDone id e r n pad).canon :=
  by simp (maxDischargeDepth := 40) +contextual [Cluster.placeSorusDone, *]
@[simp] theorem Cluster.placeSorusDone_ident (c : Cluster) (id : Nat) (e : Nat) (r : Nat) (n : Nat) (pad : Nat) : (c.placeSorusDone id e r n pad).ident = c.ident :=
  by simp (maxDischargeDepth := 40) +contextual [Cluster.placeSorusDone, *]
@[simp] theorem sorusResultPlaceC_canon (c : Cluster) (e : Nat) (k_c : c.canon) : (sorusResultPlaceC c e).canon :=
  by
  unfold sorusResultPlaceC
  (repeat' split) <;> first
    | simp (maxDischargeDepth := 40) +contextual [*]; done
    | (refine Cluster.withTab_canon _ _ _ (by simp (maxDischargeDepth := 40) +contextual [*]) (fun d hd => ?_); (try dsimp only); (repeat' split) <;> simp (maxDischargeDepth := 40) +contextual [*])
    | (refine Cluster.each_canon _ _ (by simp (maxDischargeDepth := 40) +contextual [*]) (fun d x hd => ?_); (try dsimp only); (repeat' split) <;> simp (maxDischargeDepth := 40) +contextual [*])
@[simp] theorem sorusResultPlaceC_ident (c : Cluster) (e : Nat) : (sorusResultPlaceC c e).ident = c.ident :=
  by
  unfold sorusResultPlaceC
  (repeat' split) <;> first
    | simp (maxDischargeDepth := 40) +contextual [*]; done
    | (refine Cluster.withTab_ident _ _ _ (fun d => ?_); (try dsimp only); (repeat' split) <;> simp (maxDischargeDepth := 40) +contextual [*])
    | (refine (Cluster.each_ident _ _ _ (fun d x => ?_)).trans ?_ <;> (try dsimp only) <;> (repeat' split) <;> simp (maxDischargeDepth := 40) +contextual [*])
@[simp] theorem sorusResultTimeoutC_canon (c : Cluster) (e : Nat) (k_c : c.canon) : (sorusResultTimeoutC c e).canon :=
  by unfold sorusResultTimeoutC; (repeat' (first | split | intro _)) <;> simp (maxDischargeDepth := 40) +contextual [*]
@[simp] theorem sorusResultTimeoutC_ident (c : Cluster) (e : Nat) : (sorusResultTimeoutC c e).ident = c.ident :=
  by unfold sorusResultTimeoutC; (repeat' (first | split | intro _)) <;> simp (maxDischargeDepth := 40) +contextual [*]

end Sys2Proof.Machine
end

