-- ==== Sys2Proof/Laws/CanonImageOps.lean ====
section
/-! SUPPORT. Every operation of Machine/ImageOps.lean keeps the canonical form of the stores and the identity of the cluster. -/

namespace Sys2Proof.Machine

@[simp] theorem Cluster.claimSlots_canon (c : Cluster) (a : Nat) (n : Nat) (k_c : c.canon) : (c.claimSlots a n).canon :=
  by simp (maxDischargeDepth := 40) +contextual [Cluster.claimSlots, *]
@[simp] theorem Cluster.claimSlots_ident (c : Cluster) (a : Nat) (n : Nat) : (c.claimSlots a n).ident = c.ident :=
  by simp (maxDischargeDepth := 40) +contextual [Cluster.claimSlots, *]
@[simp] theorem Cluster.residentRead_canon (c : Cluster) (slot : Nat) (off : Nat) (n : Nat) (k_c : c.canon) : (c.residentRead slot off n).2.canon :=
  by unfold Cluster.residentRead; dsimp only; (repeat' split) <;> simp (maxDischargeDepth := 40) +contextual [*]
@[simp] theorem Cluster.residentRead_ident (c : Cluster) (slot : Nat) (off : Nat) (n : Nat) : (c.residentRead slot off n).2.ident = c.ident :=
  by unfold Cluster.residentRead; dsimp only; (repeat' split) <;> simp (maxDischargeDepth := 40) +contextual [*]
@[simp] theorem Cluster.residentDir_canon (c : Cluster) (slot : Nat) (im : Img) (k_c : c.canon) : (c.residentDir slot im).1.canon :=
  by simp (maxDischargeDepth := 40) +contextual [Cluster.residentDir, *]
@[simp] theorem Cluster.residentDir_ident (c : Cluster) (slot : Nat) (im : Img) : (c.residentDir slot im).1.ident = c.ident :=
  by simp (maxDischargeDepth := 40) +contextual [Cluster.residentDir, *]
@[simp] theorem Cluster.residentEntry_canon (c : Cluster) (slot : Nat) (ty : Nat) (size : Nat) (i : Nat) (k_c : c.canon) : (c.residentEntry slot ty size i).2.canon :=
  by unfold Cluster.residentEntry; dsimp only; (repeat' split) <;> simp (maxDischargeDepth := 40) +contextual [*]
@[simp] theorem Cluster.residentEntry_ident (c : Cluster) (slot : Nat) (ty : Nat) (size : Nat) (i : Nat) : (c.residentEntry slot ty size i).2.ident = c.ident :=
  by unfold Cluster.residentEntry; dsimp only; (repeat' split) <;> simp (maxDischargeDepth := 40) +contextual [*]
@[simp] theorem Cluster.segEntry_canon (c : Cluster) (tab : Nat) (k_c : c.canon) : (c.segEntry tab).2.canon :=
  by unfold Cluster.segEntry; (repeat' (first | split | intro _)) <;> simp (maxDischargeDepth := 40) +contextual [*]
@[simp] theorem Cluster.segEntry_ident (c : Cluster) (tab : Nat) : (c.segEntry tab).2.ident = c.ident :=
  by unfold Cluster.segEntry; (repeat' (first | split | intro _)) <;> simp (maxDischargeDepth := 40) +contextual [*]

end Sys2Proof.Machine
end

