-- ==== Sys2Proof/Laws/CanonWalker.lean ====
section
/-! SUPPORT. Every operation of Machine/Walker.lean keeps the canonical form of the stores and the identity of the cluster. -/

namespace Sys2Proof.Machine

@[simp] theorem Cluster.coreStop_canon (c : Cluster) (n : Nat) (kind : Nat) (src : Nat) (k_c : c.canon) : (c.coreStop n kind src).canon :=
  by unfold Cluster.coreStop; dsimp only; (repeat' split) <;> simp (maxDischargeDepth := 40) +contextual [*]
@[simp] theorem Cluster.coreStop_ident (c : Cluster) (n : Nat) (kind : Nat) (src : Nat) : (c.coreStop n kind src).ident = c.ident :=
  by unfold Cluster.coreStop; dsimp only; (repeat' split) <;> simp (maxDischargeDepth := 40) +contextual [*]
@[simp] theorem Cluster.lockstepStop_canon (c : Cluster) (n : Nat) (k_c : c.canon) : (c.lockstepStop n).canon :=
  by simp (maxDischargeDepth := 40) +contextual [Cluster.lockstepStop, *]
@[simp] theorem Cluster.lockstepStop_ident (c : Cluster) (n : Nat) : (c.lockstepStop n).ident = c.ident :=
  by simp (maxDischargeDepth := 40) +contextual [Cluster.lockstepStop, *]
@[simp] theorem Cluster.withImem_canon (c : Cluster) (n : Nat) (parts : List (Nat × Nat)) (f : Cluster → Cluster) (k_c : c.canon) (k_f : ∀ d, d.canon → (f d).canon) : (c.withImem n parts f).canon :=
  by simp (maxDischargeDepth := 40) +contextual [Cluster.withImem, *]
@[simp] theorem Cluster.withImem_ident (c : Cluster) (n : Nat) (parts : List (Nat × Nat)) (f : Cluster → Cluster) (k_f : ∀ d, (f d).ident = d.ident) : (c.withImem n parts f).ident = c.ident :=
  by simp (maxDischargeDepth := 40) +contextual [Cluster.withImem, *]
@[simp] theorem Cluster.dmemRead_canon (c : Cluster) (n : Nat) (a : Nat) (len : Nat) (k_c : c.canon) : (c.dmemRead n a len).2.1.canon :=
  by simp (maxDischargeDepth := 40) +contextual [Cluster.dmemRead, *]
@[simp] theorem Cluster.dmemRead_ident (c : Cluster) (n : Nat) (a : Nat) (len : Nat) : (c.dmemRead n a len).2.1.ident = c.ident :=
  by simp (maxDischargeDepth := 40) +contextual [Cluster.dmemRead, *]
@[simp] theorem Cluster.walkStep_canon (c : Cluster) (n : Nat) (kind : Nat) (waits : List Nat) (f : Cluster → Nat → Cluster) (k_c : c.canon) (k_f : ∀ d z0, d.canon → (f d z0).canon) : (c.walkStep n kind waits f).canon :=
  by simp (maxDischargeDepth := 40) +contextual [Cluster.walkStep, *]
@[simp] theorem Cluster.walkStep_ident (c : Cluster) (n : Nat) (kind : Nat) (waits : List Nat) (f : Cluster → Nat → Cluster) (k_f : ∀ d z0, (f d z0).ident = d.ident) : (c.walkStep n kind waits f).ident = c.ident :=
  by simp (maxDischargeDepth := 40) +contextual [Cluster.walkStep, *]
@[simp] theorem Cluster.wdrainCheck_canon (c : Cluster) (n : Nat) (k_c : c.canon) : (c.wdrainCheck n).canon :=
  by unfold Cluster.wdrainCheck; dsimp only; (repeat' split) <;> simp (maxDischargeDepth := 40) +contextual [*]
@[simp] theorem Cluster.wdrainCheck_ident (c : Cluster) (n : Nat) : (c.wdrainCheck n).ident = c.ident :=
  by unfold Cluster.wdrainCheck; dsimp only; (repeat' split) <;> simp (maxDischargeDepth := 40) +contextual [*]
@[simp] theorem Cluster.issueOp_canon (c : Cluster) (n : Nat) (e : Nat) (k_c : c.canon) : (c.issueOp n e).canon :=
  by simp (maxDischargeDepth := 40) +contextual [Cluster.issueOp, *]
@[simp] theorem Cluster.issueOp_ident (c : Cluster) (n : Nat) (e : Nat) : (c.issueOp n e).ident = c.ident :=
  by simp (maxDischargeDepth := 40) +contextual [Cluster.issueOp, *]
@[simp] theorem issueC_canon (c : Cluster) (n : Nat) (k_c : c.canon) : (issueC c n).canon :=
  by simp (maxDischargeDepth := 40) +contextual [issueC, *]
@[simp] theorem issueC_ident (c : Cluster) (n : Nat) : (issueC c n).ident = c.ident :=
  by simp (maxDischargeDepth := 40) +contextual [issueC, *]
@[simp] theorem walkerQfullResumeC_canon (c : Cluster) (n : Nat) (k_c : c.canon) : (walkerQfullResumeC c n).canon :=
  by simp (maxDischargeDepth := 40) +contextual [walkerQfullResumeC, *]
@[simp] theorem walkerQfullResumeC_ident (c : Cluster) (n : Nat) : (walkerQfullResumeC c n).ident = c.ident :=
  by simp (maxDischargeDepth := 40) +contextual [walkerQfullResumeC, *]
@[simp] theorem loopC_canon (c : Cluster) (n : Nat) (k_c : c.canon) : (loopC c n).canon :=
  by simp (maxDischargeDepth := 40) +contextual [loopC, *]
@[simp] theorem loopC_ident (c : Cluster) (n : Nat) : (loopC c n).ident = c.ident :=
  by simp (maxDischargeDepth := 40) +contextual [loopC, *]
@[simp] theorem endlC_canon (c : Cluster) (n : Nat) (k_c : c.canon) : (endlC c n).canon :=
  by simp (maxDischargeDepth := 40) +contextual [endlC, *]
@[simp] theorem endlC_ident (c : Cluster) (n : Nat) : (endlC c n).ident = c.ident :=
  by simp (maxDischargeDepth := 40) +contextual [endlC, *]
@[simp] theorem Cluster.withComp_canon (c : Cluster) (n : Nat) (k : Nat) (f : Cluster → Cluster) (k_c : c.canon) (k_f : ∀ d, d.canon → (f d).canon) : (c.withComp n k f).canon :=
  by simp (maxDischargeDepth := 40) +contextual [Cluster.withComp, *]
@[simp] theorem Cluster.withComp_ident (c : Cluster) (n : Nat) (k : Nat) (f : Cluster → Cluster) (k_f : ∀ d, (f d).ident = d.ident) : (c.withComp n k f).ident = c.ident :=
  by simp (maxDischargeDepth := 40) +contextual [Cluster.withComp, *]
@[simp] theorem waitkC_canon (c : Cluster) (n : Nat) (k_c : c.canon) : (waitkC c n).canon :=
  by simp (maxDischargeDepth := 40) +contextual [waitkC, *]
@[simp] theorem waitkC_ident (c : Cluster) (n : Nat) : (waitkC c n).ident = c.ident :=
  by simp (maxDischargeDepth := 40) +contextual [waitkC, *]
@[simp] theorem waitkReleaseC_canon (c : Cluster) (n : Nat) (k_c : c.canon) : (waitkReleaseC c n).canon :=
  by simp (maxDischargeDepth := 40) +contextual [waitkReleaseC, *]
@[simp] theorem waitkReleaseC_ident (c : Cluster) (n : Nat) : (waitkReleaseC c n).ident = c.ident :=
  by simp (maxDischargeDepth := 40) +contextual [waitkReleaseC, *]
@[simp] theorem Cluster.selBranch_canon (c : Cluster) (n : Nat) (tab : Nat) (base : Nat) (k_c : c.canon) : (c.selBranch n tab base).canon :=
  by unfold Cluster.selBranch; dsimp only; (repeat' split) <;> simp (maxDischargeDepth := 40) +contextual [*]
@[simp] theorem Cluster.selBranch_ident (c : Cluster) (n : Nat) (tab : Nat) (base : Nat) : (c.selBranch n tab base).ident = c.ident :=
  by unfold Cluster.selBranch; dsimp only; (repeat' split) <;> simp (maxDischargeDepth := 40) +contextual [*]
@[simp] theorem Cluster.doSel_canon (c : Cluster) (n : Nat) (e : Nat) (k_c : c.canon) : (c.doSel n e).canon :=
  by unfold Cluster.doSel; dsimp only; (repeat' split) <;> simp (maxDischargeDepth := 40) +contextual [*]
@[simp] theorem Cluster.doSel_ident (c : Cluster) (n : Nat) (e : Nat) : (c.doSel n e).ident = c.ident :=
  by unfold Cluster.doSel; dsimp only; (repeat' split) <;> simp (maxDischargeDepth := 40) +contextual [*]
@[simp] theorem selC_canon (c : Cluster) (n : Nat) (k_c : c.canon) : (selC c n).canon :=
  by simp (maxDischargeDepth := 40) +contextual [selC, *]
@[simp] theorem selC_ident (c : Cluster) (n : Nat) : (selC c n).ident = c.ident :=
  by simp (maxDischargeDepth := 40) +contextual [selC, *]
@[simp] theorem selResumeC_canon (c : Cluster) (n : Nat) (k_c : c.canon) : (selResumeC c n).canon :=
  by simp (maxDischargeDepth := 40) +contextual [selResumeC, *]
@[simp] theorem selResumeC_ident (c : Cluster) (n : Nat) : (selResumeC c n).ident = c.ident :=
  by simp (maxDischargeDepth := 40) +contextual [selResumeC, *]
@[simp] theorem jmpC_canon (c : Cluster) (n : Nat) (k_c : c.canon) : (jmpC c n).canon :=
  by simp (maxDischargeDepth := 40) +contextual [jmpC, *]
@[simp] theorem jmpC_ident (c : Cluster) (n : Nat) : (jmpC c n).ident = c.ident :=
  by simp (maxDischargeDepth := 40) +contextual [jmpC, *]
@[simp] theorem Cluster.synAccess_canon (c : Cluster) (n : Nat) (ctx : Nat) (k_c : c.canon) : (c.synAccess n ctx).canon :=
  by simp (maxDischargeDepth := 40) +contextual [Cluster.synAccess, *]
@[simp] theorem Cluster.synAccess_ident (c : Cluster) (n : Nat) (ctx : Nat) : (c.synAccess n ctx).ident = c.ident :=
  by simp (maxDischargeDepth := 40) +contextual [Cluster.synAccess, *]
theorem Cluster.takeSigSlot_canon {c d : Cluster} {n target kind ctx : Nat} {operand : W32}
    (h : c.takeSigSlot n target kind operand ctx = some d) (k : c.canon) : d.canon := by
  unfold Cluster.takeSigSlot at h
  dsimp only at h
  split at h
  · cases h
  · cases h; simp [k]
theorem Cluster.takeSigSlot_ident {c d : Cluster} {n target kind ctx : Nat} {operand : W32}
    (h : c.takeSigSlot n target kind operand ctx = some d) : d.ident = c.ident := by
  unfold Cluster.takeSigSlot at h
  dsimp only at h
  split at h
  · cases h
  · cases h; simp
@[simp] theorem Cluster.recSignal_canon (c : Cluster) (n : Nat) (ctx : Nat) (kind : Nat) (target : Nat) (operand : W32) (k_c : c.canon) : (c.recSignal n ctx kind target operand).canon :=
  by
  unfold Cluster.recSignal
  dsimp only
  split
  · split
    · rename_i h; simp [Cluster.takeSigSlot_canon h k_c]
    · simp [k_c]
  · split
    · exact Cluster.synAccess_canon _ _ _ (by simp [k_c])
    · exact Cluster.syncPost_canon _ _ _ _ _ _ (by simp [k_c])
@[simp] theorem Cluster.recSignal_ident (c : Cluster) (n : Nat) (ctx : Nat) (kind : Nat) (target : Nat) (operand : W32) : (c.recSignal n ctx kind target operand).ident = c.ident :=
  by
  unfold Cluster.recSignal
  (try dsimp only)
  split
  · split
    · rename_i h; simp [Cluster.takeSigSlot_ident h]
    · rfl
  · split <;> simp
@[simp] theorem Cluster.recWait_canon (c : Cluster) (n : Nat) (ctx : Nat) (kind : Nat) (target : Nat) (operand : W32) (timeout : Nat) (k_c : c.canon) : (c.recWait n ctx kind target operand timeout).canon :=
  by unfold Cluster.recWait; dsimp only; (repeat' split) <;> simp (maxDischargeDepth := 40) +contextual [*]
@[simp] theorem Cluster.recWait_ident (c : Cluster) (n : Nat) (ctx : Nat) (kind : Nat) (target : Nat) (operand : W32) (timeout : Nat) : (c.recWait n ctx kind target operand timeout).ident = c.ident :=
  by unfold Cluster.recWait; dsimp only; (repeat' split) <;> simp (maxDischargeDepth := 40) +contextual [*]
@[simp] theorem Cluster.doSyncRec_canon (c : Cluster) (n : Nat) (e : Nat) (k_c : c.canon) : (c.doSyncRec n e).canon :=
  by simp (maxDischargeDepth := 40) +contextual [Cluster.doSyncRec, *]
@[simp] theorem Cluster.doSyncRec_ident (c : Cluster) (n : Nat) (e : Nat) : (c.doSyncRec n e).ident = c.ident :=
  by simp (maxDischargeDepth := 40) +contextual [Cluster.doSyncRec, *]
@[simp] theorem syncRecC_canon (c : Cluster) (n : Nat) (k_c : c.canon) : (syncRecC c n).canon :=
  by simp (maxDischargeDepth := 40) +contextual [syncRecC, *]
@[simp] theorem syncRecC_ident (c : Cluster) (n : Nat) : (syncRecC c n).ident = c.ident :=
  by simp (maxDischargeDepth := 40) +contextual [syncRecC, *]
@[simp] theorem endWalkC_canon (c : Cluster) (n : Nat) (k_c : c.canon) : (endWalkC c n).canon :=
  by simp (maxDischargeDepth := 40) +contextual [endWalkC, *]
@[simp] theorem endWalkC_ident (c : Cluster) (n : Nat) : (endWalkC c n).ident = c.ident :=
  by simp (maxDischargeDepth := 40) +contextual [endWalkC, *]

end Sys2Proof.Machine
end

