-- ==== Sys2Proof/Laws/CanonScalar.lean ====
section
/-! SUPPORT. Every operation of Machine/Scalar.lean keeps the canonical form of the stores and the identity of the cluster. -/

namespace Sys2Proof.Machine

@[simp] theorem Cluster.scal_canon (c : Cluster) (n : Nat) (form : Nat → Bool) (f : Cluster → Core → Nat → Cluster) (k_c : c.canon) (k_f : ∀ d z0 z1, d.canon → (f d z0 z1).canon) : (c.scal n form f).canon :=
  by simp (maxDischargeDepth := 40) +contextual [Cluster.scal, *]
@[simp] theorem Cluster.scal_ident (c : Cluster) (n : Nat) (form : Nat → Bool) (f : Cluster → Core → Nat → Cluster) (k_f : ∀ d z0 z1, (f d z0 z1).ident = d.ident) : (c.scal n form f).ident = c.ident :=
  by simp (maxDischargeDepth := 40) +contextual [Cluster.scal, *]
@[simp] theorem Cluster.alu_canon (c : Cluster) (n : Nat) (form : Nat → Bool) (f : Core → Nat → W64) (k_c : c.canon) : (c.alu n form f).canon :=
  by simp (maxDischargeDepth := 40) +contextual [Cluster.alu, *]
@[simp] theorem Cluster.alu_ident (c : Cluster) (n : Nat) (form : Nat → Bool) (f : Core → Nat → W64) : (c.alu n form f).ident = c.ident :=
  by simp (maxDischargeDepth := 40) +contextual [Cluster.alu, *]
@[simp] theorem Cluster.aluRR_canon (c : Cluster) (n : Nat) (fn : Nat) (f : W64 → W64 → W64) (k_c : c.canon) : (c.aluRR n fn f).canon :=
  by simp (maxDischargeDepth := 40) +contextual [Cluster.aluRR, *]
@[simp] theorem Cluster.aluRR_ident (c : Cluster) (n : Nat) (fn : Nat) (f : W64 → W64 → W64) : (c.aluRR n fn f).ident = c.ident :=
  by simp (maxDischargeDepth := 40) +contextual [Cluster.aluRR, *]
@[simp] theorem addC_canon (c : Cluster) (n : Nat) (k_c : c.canon) : (addC c n).canon :=
  by simp (maxDischargeDepth := 40) +contextual [addC, *]
@[simp] theorem addC_ident (c : Cluster) (n : Nat) : (addC c n).ident = c.ident :=
  by simp (maxDischargeDepth := 40) +contextual [addC, *]
@[simp] theorem subC_canon (c : Cluster) (n : Nat) (k_c : c.canon) : (subC c n).canon :=
  by simp (maxDischargeDepth := 40) +contextual [subC, *]
@[simp] theorem subC_ident (c : Cluster) (n : Nat) : (subC c n).ident = c.ident :=
  by simp (maxDischargeDepth := 40) +contextual [subC, *]
@[simp] theorem andRC_canon (c : Cluster) (n : Nat) (k_c : c.canon) : (andRC c n).canon :=
  by simp (maxDischargeDepth := 40) +contextual [andRC, *]
@[simp] theorem andRC_ident (c : Cluster) (n : Nat) : (andRC c n).ident = c.ident :=
  by simp (maxDischargeDepth := 40) +contextual [andRC, *]
@[simp] theorem orRC_canon (c : Cluster) (n : Nat) (k_c : c.canon) : (orRC c n).canon :=
  by simp (maxDischargeDepth := 40) +contextual [orRC, *]
@[simp] theorem orRC_ident (c : Cluster) (n : Nat) : (orRC c n).ident = c.ident :=
  by simp (maxDischargeDepth := 40) +contextual [orRC, *]
@[simp] theorem xorRC_canon (c : Cluster) (n : Nat) (k_c : c.canon) : (xorRC c n).canon :=
  by simp (maxDischargeDepth := 40) +contextual [xorRC, *]
@[simp] theorem xorRC_ident (c : Cluster) (n : Nat) : (xorRC c n).ident = c.ident :=
  by simp (maxDischargeDepth := 40) +contextual [xorRC, *]
@[simp] theorem Cluster.freeD_canon (c : Cluster) (k_c : c.canon) : c.freeD.2.canon :=
  by simp (maxDischargeDepth := 40) +contextual [Cluster.freeD, *]
@[simp] theorem Cluster.freeD_ident (c : Cluster) : c.freeD.2.ident = c.ident :=
  by simp (maxDischargeDepth := 40) +contextual [Cluster.freeD, *]
@[simp] theorem Cluster.shiftRR_canon (c : Cluster) (n : Nat) (fn : Nat) (f : W64 → Nat → W64) (k_c : c.canon) : (c.shiftRR n fn f).canon :=
  by simp (maxDischargeDepth := 40) +contextual [Cluster.shiftRR, *]
@[simp] theorem Cluster.shiftRR_ident (c : Cluster) (n : Nat) (fn : Nat) (f : W64 → Nat → W64) : (c.shiftRR n fn f).ident = c.ident :=
  by simp (maxDischargeDepth := 40) +contextual [Cluster.shiftRR, *]
@[simp] theorem shlC_canon (c : Cluster) (n : Nat) (k_c : c.canon) : (shlC c n).canon :=
  by simp (maxDischargeDepth := 40) +contextual [shlC, *]
@[simp] theorem shlC_ident (c : Cluster) (n : Nat) : (shlC c n).ident = c.ident :=
  by simp (maxDischargeDepth := 40) +contextual [shlC, *]
@[simp] theorem shrC_canon (c : Cluster) (n : Nat) (k_c : c.canon) : (shrC c n).canon :=
  by simp (maxDischargeDepth := 40) +contextual [shrC, *]
@[simp] theorem shrC_ident (c : Cluster) (n : Nat) : (shrC c n).ident = c.ident :=
  by simp (maxDischargeDepth := 40) +contextual [shrC, *]
@[simp] theorem shraC_canon (c : Cluster) (n : Nat) (k_c : c.canon) : (shraC c n).canon :=
  by simp (maxDischargeDepth := 40) +contextual [shraC, *]
@[simp] theorem shraC_ident (c : Cluster) (n : Nat) : (shraC c n).ident = c.ident :=
  by simp (maxDischargeDepth := 40) +contextual [shraC, *]
@[simp] theorem mulC_canon (c : Cluster) (n : Nat) (k_c : c.canon) : (mulC c n).canon :=
  by simp (maxDischargeDepth := 40) +contextual [mulC, *]
@[simp] theorem mulC_ident (c : Cluster) (n : Nat) : (mulC c n).ident = c.ident :=
  by simp (maxDischargeDepth := 40) +contextual [mulC, *]
@[simp] theorem mulhuC_canon (c : Cluster) (n : Nat) (k_c : c.canon) : (mulhuC c n).canon :=
  by simp (maxDischargeDepth := 40) +contextual [mulhuC, *]
@[simp] theorem mulhuC_ident (c : Cluster) (n : Nat) : (mulhuC c n).ident = c.ident :=
  by simp (maxDischargeDepth := 40) +contextual [mulhuC, *]
@[simp] theorem mulhsC_canon (c : Cluster) (n : Nat) (k_c : c.canon) : (mulhsC c n).canon :=
  by simp (maxDischargeDepth := 40) +contextual [mulhsC, *]
@[simp] theorem mulhsC_ident (c : Cluster) (n : Nat) : (mulhsC c n).ident = c.ident :=
  by simp (maxDischargeDepth := 40) +contextual [mulhsC, *]
@[simp] theorem minSC_canon (c : Cluster) (n : Nat) (k_c : c.canon) : (minSC c n).canon :=
  by simp (maxDischargeDepth := 40) +contextual [minSC, *]
@[simp] theorem minSC_ident (c : Cluster) (n : Nat) : (minSC c n).ident = c.ident :=
  by simp (maxDischargeDepth := 40) +contextual [minSC, *]
@[simp] theorem maxSC_canon (c : Cluster) (n : Nat) (k_c : c.canon) : (maxSC c n).canon :=
  by simp (maxDischargeDepth := 40) +contextual [maxSC, *]
@[simp] theorem maxSC_ident (c : Cluster) (n : Nat) : (maxSC c n).ident = c.ident :=
  by simp (maxDischargeDepth := 40) +contextual [maxSC, *]
@[simp] theorem minUC_canon (c : Cluster) (n : Nat) (k_c : c.canon) : (minUC c n).canon :=
  by simp (maxDischargeDepth := 40) +contextual [minUC, *]
@[simp] theorem minUC_ident (c : Cluster) (n : Nat) : (minUC c n).ident = c.ident :=
  by simp (maxDischargeDepth := 40) +contextual [minUC, *]
@[simp] theorem maxUC_canon (c : Cluster) (n : Nat) (k_c : c.canon) : (maxUC c n).canon :=
  by simp (maxDischargeDepth := 40) +contextual [maxUC, *]
@[simp] theorem maxUC_ident (c : Cluster) (n : Nat) : (maxUC c n).ident = c.ident :=
  by simp (maxDischargeDepth := 40) +contextual [maxUC, *]
@[simp] theorem Cluster.aluImm_canon (c : Cluster) (n : Nat) (maj : Nat) (f : W64 → W64 → W64) (k_c : c.canon) : (c.aluImm n maj f).canon :=
  by simp (maxDischargeDepth := 40) +contextual [Cluster.aluImm, *]
@[simp] theorem Cluster.aluImm_ident (c : Cluster) (n : Nat) (maj : Nat) (f : W64 → W64 → W64) : (c.aluImm n maj f).ident = c.ident :=
  by simp (maxDischargeDepth := 40) +contextual [Cluster.aluImm, *]
@[simp] theorem addiC_canon (c : Cluster) (n : Nat) (k_c : c.canon) : (addiC c n).canon :=
  by simp (maxDischargeDepth := 40) +contextual [addiC, *]
@[simp] theorem addiC_ident (c : Cluster) (n : Nat) : (addiC c n).ident = c.ident :=
  by simp (maxDischargeDepth := 40) +contextual [addiC, *]
@[simp] theorem andiC_canon (c : Cluster) (n : Nat) (k_c : c.canon) : (andiC c n).canon :=
  by simp (maxDischargeDepth := 40) +contextual [andiC, *]
@[simp] theorem andiC_ident (c : Cluster) (n : Nat) : (andiC c n).ident = c.ident :=
  by simp (maxDischargeDepth := 40) +contextual [andiC, *]
@[simp] theorem oriC_canon (c : Cluster) (n : Nat) (k_c : c.canon) : (oriC c n).canon :=
  by simp (maxDischargeDepth := 40) +contextual [oriC, *]
@[simp] theorem oriC_ident (c : Cluster) (n : Nat) : (oriC c n).ident = c.ident :=
  by simp (maxDischargeDepth := 40) +contextual [oriC, *]
@[simp] theorem xoriC_canon (c : Cluster) (n : Nat) (k_c : c.canon) : (xoriC c n).canon :=
  by simp (maxDischargeDepth := 40) +contextual [xoriC, *]
@[simp] theorem xoriC_ident (c : Cluster) (n : Nat) : (xoriC c n).ident = c.ident :=
  by simp (maxDischargeDepth := 40) +contextual [xoriC, *]
@[simp] theorem Cluster.shiftImm_canon (c : Cluster) (n : Nat) (kind : Nat) (f : W64 → Nat → W64) (k_c : c.canon) : (c.shiftImm n kind f).canon :=
  by simp (maxDischargeDepth := 40) +contextual [Cluster.shiftImm, *]
@[simp] theorem Cluster.shiftImm_ident (c : Cluster) (n : Nat) (kind : Nat) (f : W64 → Nat → W64) : (c.shiftImm n kind f).ident = c.ident :=
  by simp (maxDischargeDepth := 40) +contextual [Cluster.shiftImm, *]
@[simp] theorem shliC_canon (c : Cluster) (n : Nat) (k_c : c.canon) : (shliC c n).canon :=
  by simp (maxDischargeDepth := 40) +contextual [shliC, *]
@[simp] theorem shliC_ident (c : Cluster) (n : Nat) : (shliC c n).ident = c.ident :=
  by simp (maxDischargeDepth := 40) +contextual [shliC, *]
@[simp] theorem shriC_canon (c : Cluster) (n : Nat) (k_c : c.canon) : (shriC c n).canon :=
  by simp (maxDischargeDepth := 40) +contextual [shriC, *]
@[simp] theorem shriC_ident (c : Cluster) (n : Nat) : (shriC c n).ident = c.ident :=
  by simp (maxDischargeDepth := 40) +contextual [shriC, *]
@[simp] theorem shraiC_canon (c : Cluster) (n : Nat) (k_c : c.canon) : (shraiC c n).canon :=
  by simp (maxDischargeDepth := 40) +contextual [shraiC, *]
@[simp] theorem shraiC_ident (c : Cluster) (n : Nat) : (shraiC c n).ident = c.ident :=
  by simp (maxDischargeDepth := 40) +contextual [shraiC, *]
@[simp] theorem movkC_canon (c : Cluster) (n : Nat) (k_c : c.canon) : (movkC c n).canon :=
  by simp (maxDischargeDepth := 40) +contextual [movkC, *]
@[simp] theorem movkC_ident (c : Cluster) (n : Nat) : (movkC c n).ident = c.ident :=
  by simp (maxDischargeDepth := 40) +contextual [movkC, *]
@[simp] theorem Cluster.compare_canon (c : Cluster) (n : Nat) (maj : Nat) (b : Core → Nat → W64) (k_c : c.canon) : (c.compare n maj b).canon :=
  by simp (maxDischargeDepth := 40) +contextual [Cluster.compare, *]
@[simp] theorem Cluster.compare_ident (c : Cluster) (n : Nat) (maj : Nat) (b : Core → Nat → W64) : (c.compare n maj b).ident = c.ident :=
  by simp (maxDischargeDepth := 40) +contextual [Cluster.compare, *]
@[simp] theorem cmpC_canon (c : Cluster) (n : Nat) (k_c : c.canon) : (cmpC c n).canon :=
  by simp (maxDischargeDepth := 40) +contextual [cmpC, *]
@[simp] theorem cmpC_ident (c : Cluster) (n : Nat) : (cmpC c n).ident = c.ident :=
  by simp (maxDischargeDepth := 40) +contextual [cmpC, *]
@[simp] theorem cmpiC_canon (c : Cluster) (n : Nat) (k_c : c.canon) : (cmpiC c n).canon :=
  by simp (maxDischargeDepth := 40) +contextual [cmpiC, *]
@[simp] theorem cmpiC_ident (c : Cluster) (n : Nat) : (cmpiC c n).ident = c.ident :=
  by simp (maxDischargeDepth := 40) +contextual [cmpiC, *]
@[simp] theorem plogC_canon (c : Cluster) (n : Nat) (k_c : c.canon) : (plogC c n).canon :=
  by simp (maxDischargeDepth := 40) +contextual [plogC, *]
@[simp] theorem plogC_ident (c : Cluster) (n : Nat) : (plogC c n).ident = c.ident :=
  by simp (maxDischargeDepth := 40) +contextual [plogC, *]
@[simp] theorem brC_canon (c : Cluster) (n : Nat) (k_c : c.canon) : (brC c n).canon :=
  by simp (maxDischargeDepth := 40) +contextual [brC, *]
@[simp] theorem brC_ident (c : Cluster) (n : Nat) : (brC c n).ident = c.ident :=
  by simp (maxDischargeDepth := 40) +contextual [brC, *]
@[simp] theorem jalC_canon (c : Cluster) (n : Nat) (k_c : c.canon) : (jalC c n).canon :=
  by simp (maxDischargeDepth := 40) +contextual [jalC, *]
@[simp] theorem jalC_ident (c : Cluster) (n : Nat) : (jalC c n).ident = c.ident :=
  by simp (maxDischargeDepth := 40) +contextual [jalC, *]
@[simp] theorem jrC_canon (c : Cluster) (n : Nat) (k_c : c.canon) : (jrC c n).canon :=
  by simp (maxDischargeDepth := 40) +contextual [jrC, *]
@[simp] theorem jrC_ident (c : Cluster) (n : Nat) : (jrC c n).ident = c.ident :=
  by simp (maxDischargeDepth := 40) +contextual [jrC, *]
@[simp] theorem Cluster.load_canon (c : Cluster) (n : Nat) (maj : Nat) (len : Nat) (k_c : c.canon) : (c.load n maj len).canon :=
  by simp (maxDischargeDepth := 40) +contextual [Cluster.load, *]
@[simp] theorem Cluster.load_ident (c : Cluster) (n : Nat) (maj : Nat) (len : Nat) : (c.load n maj len).ident = c.ident :=
  by simp (maxDischargeDepth := 40) +contextual [Cluster.load, *]
@[simp] theorem ld64C_canon (c : Cluster) (n : Nat) (k_c : c.canon) : (ld64C c n).canon :=
  by simp (maxDischargeDepth := 40) +contextual [ld64C, *]
@[simp] theorem ld64C_ident (c : Cluster) (n : Nat) : (ld64C c n).ident = c.ident :=
  by simp (maxDischargeDepth := 40) +contextual [ld64C, *]
@[simp] theorem ld32uC_canon (c : Cluster) (n : Nat) (k_c : c.canon) : (ld32uC c n).canon :=
  by simp (maxDischargeDepth := 40) +contextual [ld32uC, *]
@[simp] theorem ld32uC_ident (c : Cluster) (n : Nat) : (ld32uC c n).ident = c.ident :=
  by simp (maxDischargeDepth := 40) +contextual [ld32uC, *]
@[simp] theorem Cluster.store__canon (c : Cluster) (n : Nat) (maj : Nat) (len : Nat) (k_c : c.canon) : (c.store_ n maj len).canon :=
  by unfold Cluster.store_; dsimp only; (repeat' split) <;> simp (maxDischargeDepth := 40) +contextual [*]
@[simp] theorem Cluster.store__ident (c : Cluster) (n : Nat) (maj : Nat) (len : Nat) : (c.store_ n maj len).ident = c.ident :=
  by unfold Cluster.store_; dsimp only; (repeat' split) <;> simp (maxDischargeDepth := 40) +contextual [*]
@[simp] theorem st64C_canon (c : Cluster) (n : Nat) (k_c : c.canon) : (st64C c n).canon :=
  by simp (maxDischargeDepth := 40) +contextual [st64C, *]
@[simp] theorem st64C_ident (c : Cluster) (n : Nat) : (st64C c n).ident = c.ident :=
  by simp (maxDischargeDepth := 40) +contextual [st64C, *]
@[simp] theorem st32C_canon (c : Cluster) (n : Nat) (k_c : c.canon) : (st32C c n).canon :=
  by simp (maxDischargeDepth := 40) +contextual [st32C, *]
@[simp] theorem st32C_ident (c : Cluster) (n : Nat) : (st32C c n).ident = c.ident :=
  by simp (maxDischargeDepth := 40) +contextual [st32C, *]
@[simp] theorem Cluster.unbound_canon (c : Cluster) (n : Nat) (k_c : c.canon) : (c.unbound n).canon :=
  by simp (maxDischargeDepth := 40) +contextual [Cluster.unbound, *]
@[simp] theorem Cluster.unbound_ident (c : Cluster) (n : Nat) : (c.unbound n).ident = c.ident :=
  by simp (maxDischargeDepth := 40) +contextual [Cluster.unbound, *]
@[simp] theorem Cluster.doHld_canon (c : Cluster) (n : Nat) (w : Nat) (k_c : c.canon) : (c.doHld n w).canon :=
  by simp (maxDischargeDepth := 40) +contextual [Cluster.doHld, *]
@[simp] theorem Cluster.doHld_ident (c : Cluster) (n : Nat) (w : Nat) : (c.doHld n w).ident = c.ident :=
  by simp (maxDischargeDepth := 40) +contextual [Cluster.doHld, *]
@[simp] theorem Cluster.hldDone_canon (c : Cluster) (id : Nat) (n : Nat) (rd : Nat) (bs : List Byte) (k_c : c.canon) : (c.hldDone id n rd bs).canon :=
  by simp (maxDischargeDepth := 40) +contextual [Cluster.hldDone, *]
@[simp] theorem Cluster.hldDone_ident (c : Cluster) (id : Nat) (n : Nat) (rd : Nat) (bs : List Byte) : (c.hldDone id n rd bs).ident = c.ident :=
  by simp (maxDischargeDepth := 40) +contextual [Cluster.hldDone, *]
@[simp] theorem Cluster.hstDone_canon (c : Cluster) (id : Nat) (n : Nat) (k_c : c.canon) : (c.hstDone id n).canon :=
  by simp (maxDischargeDepth := 40) +contextual [Cluster.hstDone, *]
@[simp] theorem Cluster.hstDone_ident (c : Cluster) (id : Nat) (n : Nat) : (c.hstDone id n).ident = c.ident :=
  by simp (maxDischargeDepth := 40) +contextual [Cluster.hstDone, *]
@[simp] theorem hldC_canon (c : Cluster) (n : Nat) (k_c : c.canon) : (hldC c n).canon :=
  by simp (maxDischargeDepth := 40) +contextual [hldC, *]
@[simp] theorem hldC_ident (c : Cluster) (n : Nat) : (hldC c n).ident = c.ident :=
  by simp (maxDischargeDepth := 40) +contextual [hldC, *]
@[simp] theorem Cluster.doHst_canon (c : Cluster) (n : Nat) (w : Nat) (k_c : c.canon) : (c.doHst n w).canon :=
  by simp (maxDischargeDepth := 40) +contextual [Cluster.doHst, *]
@[simp] theorem Cluster.doHst_ident (c : Cluster) (n : Nat) (w : Nat) : (c.doHst n w).ident = c.ident :=
  by simp (maxDischargeDepth := 40) +contextual [Cluster.doHst, *]
@[simp] theorem hstC_canon (c : Cluster) (n : Nat) (k_c : c.canon) : (hstC c n).canon :=
  by simp (maxDischargeDepth := 40) +contextual [hstC, *]
@[simp] theorem hstC_ident (c : Cluster) (n : Nat) : (hstC c n).ident = c.ident :=
  by simp (maxDischargeDepth := 40) +contextual [hstC, *]
@[simp] theorem wstepC_canon (c : Cluster) (n : Nat) (k_c : c.canon) : (wstepC c n).canon :=
  by simp (maxDischargeDepth := 40) +contextual [wstepC, *]
@[simp] theorem wstepC_ident (c : Cluster) (n : Nat) : (wstepC c n).ident = c.ident :=
  by simp (maxDischargeDepth := 40) +contextual [wstepC, *]
@[simp] theorem wstatC_canon (c : Cluster) (n : Nat) (k_c : c.canon) : (wstatC c n).canon :=
  by simp (maxDischargeDepth := 40) +contextual [wstatC, *]
@[simp] theorem wstatC_ident (c : Cluster) (n : Nat) : (wstatC c n).ident = c.ident :=
  by simp (maxDischargeDepth := 40) +contextual [wstatC, *]
@[simp] theorem wdrainC_canon (c : Cluster) (n : Nat) (k_c : c.canon) : (wdrainC c n).canon :=
  by simp (maxDischargeDepth := 40) +contextual [wdrainC, *]
@[simp] theorem wdrainC_ident (c : Cluster) (n : Nat) : (wdrainC c n).ident = c.ident :=
  by simp (maxDischargeDepth := 40) +contextual [wdrainC, *]
@[simp] theorem Cluster.service_canon (c : Cluster) (n : Nat) (form : Nat → Bool) (f : Cluster → Core → Nat → Cluster) (k_c : c.canon) (k_f : ∀ d z0 z1, d.canon → (f d z0 z1).canon) : (c.service n form f).canon :=
  by simp (maxDischargeDepth := 40) +contextual [Cluster.service, *]
@[simp] theorem Cluster.service_ident (c : Cluster) (n : Nat) (form : Nat → Bool) (f : Cluster → Core → Nat → Cluster) (k_f : ∀ d z0 z1, (f d z0 z1).ident = d.ident) : (c.service n form f).ident = c.ident :=
  by simp (maxDischargeDepth := 40) +contextual [Cluster.service, *]
@[simp] theorem Cluster.sywait_canon (c : Cluster) (n : Nat) (x : Core) (w : Nat) (poll : Bool) (k_c : c.canon) : (c.sywait n x w poll).canon :=
  by unfold Cluster.sywait; dsimp only; (repeat' split) <;> simp (maxDischargeDepth := 40) +contextual [*]
@[simp] theorem Cluster.sywait_ident (c : Cluster) (n : Nat) (x : Core) (w : Nat) (poll : Bool) : (c.sywait n x w poll).ident = c.ident :=
  by unfold Cluster.sywait; dsimp only; (repeat' split) <;> simp (maxDischargeDepth := 40) +contextual [*]
@[simp] theorem sywaitFullC_canon (c : Cluster) (n : Nat) (k_c : c.canon) : (sywaitFullC c n).canon :=
  by simp (maxDischargeDepth := 40) +contextual [sywaitFullC, *]
@[simp] theorem sywaitFullC_ident (c : Cluster) (n : Nat) : (sywaitFullC c n).ident = c.ident :=
  by simp (maxDischargeDepth := 40) +contextual [sywaitFullC, *]
@[simp] theorem sywaitTakeC_canon (c : Cluster) (n : Nat) (k_c : c.canon) : (sywaitTakeC c n).canon :=
  by simp (maxDischargeDepth := 40) +contextual [sywaitTakeC, *]
@[simp] theorem sywaitTakeC_ident (c : Cluster) (n : Nat) : (sywaitTakeC c n).ident = c.ident :=
  by simp (maxDischargeDepth := 40) +contextual [sywaitTakeC, *]
@[simp] theorem sywaitGeC_canon (c : Cluster) (n : Nat) (k_c : c.canon) : (sywaitGeC c n).canon :=
  by simp (maxDischargeDepth := 40) +contextual [sywaitGeC, *]
@[simp] theorem sywaitGeC_ident (c : Cluster) (n : Nat) : (sywaitGeC c n).ident = c.ident :=
  by simp (maxDischargeDepth := 40) +contextual [sywaitGeC, *]
@[simp] theorem sywaitEmptyC_canon (c : Cluster) (n : Nat) (k_c : c.canon) : (sywaitEmptyC c n).canon :=
  by simp (maxDischargeDepth := 40) +contextual [sywaitEmptyC, *]
@[simp] theorem sywaitEmptyC_ident (c : Cluster) (n : Nat) : (sywaitEmptyC c n).ident = c.ident :=
  by simp (maxDischargeDepth := 40) +contextual [sywaitEmptyC, *]
@[simp] theorem sywaitPollC_canon (c : Cluster) (n : Nat) (k_c : c.canon) : (sywaitPollC c n).canon :=
  by simp (maxDischargeDepth := 40) +contextual [sywaitPollC, *]
@[simp] theorem sywaitPollC_ident (c : Cluster) (n : Nat) : (sywaitPollC c n).ident = c.ident :=
  by simp (maxDischargeDepth := 40) +contextual [sywaitPollC, *]
@[simp] theorem Cluster.sysig_canon (c : Cluster) (n : Nat) (x : Core) (w : Nat) (kind : Nat) (k_c : c.canon) : (c.sysig n x w kind).canon :=
  by
  unfold Cluster.sysig
  dsimp only
  split
  · split
    · rename_i h; simp [Cluster.takeSigSlot_canon h k_c]
    · simp [k_c]
  · split
    · exact Cluster.synAccess_canon _ _ _ (by simp [k_c])
    · exact Cluster.syncPost_canon _ _ _ _ _ _ (by simp [k_c])
@[simp] theorem Cluster.sysig_ident (c : Cluster) (n : Nat) (x : Core) (w : Nat) (kind : Nat) : (c.sysig n x w kind).ident = c.ident :=
  by
  unfold Cluster.sysig
  (try dsimp only)
  split
  · split
    · rename_i h; simp [Cluster.takeSigSlot_ident h]
    · rfl
  · split <;> simp
@[simp] theorem sysigSetC_canon (c : Cluster) (n : Nat) (k_c : c.canon) : (sysigSetC c n).canon :=
  by simp (maxDischargeDepth := 40) +contextual [sysigSetC, *]
@[simp] theorem sysigSetC_ident (c : Cluster) (n : Nat) : (sysigSetC c n).ident = c.ident :=
  by simp (maxDischargeDepth := 40) +contextual [sysigSetC, *]
@[simp] theorem sysigAddC_canon (c : Cluster) (n : Nat) (k_c : c.canon) : (sysigAddC c n).canon :=
  by simp (maxDischargeDepth := 40) +contextual [sysigAddC, *]
@[simp] theorem sysigAddC_ident (c : Cluster) (n : Nat) : (sysigAddC c n).ident = c.ident :=
  by simp (maxDischargeDepth := 40) +contextual [sysigAddC, *]
@[simp] theorem sysigOrC_canon (c : Cluster) (n : Nat) (k_c : c.canon) : (sysigOrC c n).canon :=
  by simp (maxDischargeDepth := 40) +contextual [sysigOrC, *]
@[simp] theorem sysigOrC_ident (c : Cluster) (n : Nat) : (sysigOrC c n).ident = c.ident :=
  by simp (maxDischargeDepth := 40) +contextual [sysigOrC, *]
@[simp] theorem sysigClearC_canon (c : Cluster) (n : Nat) (k_c : c.canon) : (sysigClearC c n).canon :=
  by simp (maxDischargeDepth := 40) +contextual [sysigClearC, *]
@[simp] theorem sysigClearC_ident (c : Cluster) (n : Nat) : (sysigClearC c n).ident = c.ident :=
  by simp (maxDischargeDepth := 40) +contextual [sysigClearC, *]
@[simp] theorem sysigFenceC_canon (c : Cluster) (n : Nat) (k_c : c.canon) : (sysigFenceC c n).canon :=
  by simp (maxDischargeDepth := 40) +contextual [sysigFenceC, *]
@[simp] theorem sysigFenceC_ident (c : Cluster) (n : Nat) : (sysigFenceC c n).ident = c.ident :=
  by simp (maxDischargeDepth := 40) +contextual [sysigFenceC, *]
@[simp] theorem Cluster.handSpore_canon (c : Cluster) (n : Nat) (rs : Nat) (i : Nat) (h : BitVec 128) (data : List Byte) (posted : Bool) (k_c : c.canon) : (c.handSpore n rs i h data posted).canon :=
  by simp (maxDischargeDepth := 40) +contextual [Cluster.handSpore, *]
@[simp] theorem Cluster.handSpore_ident (c : Cluster) (n : Nat) (rs : Nat) (i : Nat) (h : BitVec 128) (data : List Byte) (posted : Bool) : (c.handSpore n rs i h data posted).ident = c.ident :=
  by simp (maxDischargeDepth := 40) +contextual [Cluster.handSpore, *]
@[simp] theorem Cluster.spsend_canon (c : Cluster) (n : Nat) (x : Core) (w : Nat) (posted : Bool) (k_c : c.canon) : (c.spsend n x w posted).canon :=
  by unfold Cluster.spsend; dsimp only; (repeat' split) <;> simp (maxDischargeDepth := 40) +contextual [*]
@[simp] theorem Cluster.spsend_ident (c : Cluster) (n : Nat) (x : Core) (w : Nat) (posted : Bool) : (c.spsend n x w posted).ident = c.ident :=
  by unfold Cluster.spsend; dsimp only; (repeat' split) <;> simp (maxDischargeDepth := 40) +contextual [*]
@[simp] theorem spsendWaitC_canon (c : Cluster) (n : Nat) (k_c : c.canon) : (spsendWaitC c n).canon :=
  by simp (maxDischargeDepth := 40) +contextual [spsendWaitC, *]
@[simp] theorem spsendWaitC_ident (c : Cluster) (n : Nat) : (spsendWaitC c n).ident = c.ident :=
  by simp (maxDischargeDepth := 40) +contextual [spsendWaitC, *]
@[simp] theorem spsendPostedC_canon (c : Cluster) (n : Nat) (k_c : c.canon) : (spsendPostedC c n).canon :=
  by simp (maxDischargeDepth := 40) +contextual [spsendPostedC, *]
@[simp] theorem spsendPostedC_ident (c : Cluster) (n : Nat) : (spsendPostedC c n).ident = c.ident :=
  by simp (maxDischargeDepth := 40) +contextual [spsendPostedC, *]
@[simp] theorem spsendFenceC_canon (c : Cluster) (n : Nat) (k_c : c.canon) : (spsendFenceC c n).canon :=
  by simp (maxDischargeDepth := 40) +contextual [spsendFenceC, *]
@[simp] theorem spsendFenceC_ident (c : Cluster) (n : Nat) : (spsendFenceC c n).ident = c.ident :=
  by simp (maxDischargeDepth := 40) +contextual [spsendFenceC, *]
@[simp] theorem Cluster.sprecv_canon (c : Cluster) (n : Nat) (mode : Nat) (f : Cluster → Core → Nat → Nat → Cluster) (k_c : c.canon) (k_f : ∀ d z0 z1 z2, d.canon → (f d z0 z1 z2).canon) : (c.sprecv n mode f).canon :=
  by simp (maxDischargeDepth := 40) +contextual [Cluster.sprecv, *]
@[simp] theorem Cluster.sprecv_ident (c : Cluster) (n : Nat) (mode : Nat) (f : Cluster → Core → Nat → Nat → Cluster) (k_f : ∀ d z0 z1 z2, (f d z0 z1 z2).ident = d.ident) : (c.sprecv n mode f).ident = c.ident :=
  by simp (maxDischargeDepth := 40) +contextual [Cluster.sprecv, *]
@[simp] theorem sprecvPollC_canon (c : Cluster) (n : Nat) (k_c : c.canon) : (sprecvPollC c n).canon :=
  by simp (maxDischargeDepth := 40) +contextual [sprecvPollC, *]
@[simp] theorem sprecvPollC_ident (c : Cluster) (n : Nat) : (sprecvPollC c n).ident = c.ident :=
  by simp (maxDischargeDepth := 40) +contextual [sprecvPollC, *]
@[simp] theorem sprecvWaitC_canon (c : Cluster) (n : Nat) (k_c : c.canon) : (sprecvWaitC c n).canon :=
  by simp (maxDischargeDepth := 40) +contextual [sprecvWaitC, *]
@[simp] theorem sprecvWaitC_ident (c : Cluster) (n : Nat) : (sprecvWaitC c n).ident = c.ident :=
  by simp (maxDischargeDepth := 40) +contextual [sprecvWaitC, *]
@[simp] theorem sprecvDiscardC_canon (c : Cluster) (n : Nat) (k_c : c.canon) : (sprecvDiscardC c n).canon :=
  by simp (maxDischargeDepth := 40) +contextual [sprecvDiscardC, *]
@[simp] theorem sprecvDiscardC_ident (c : Cluster) (n : Nat) : (sprecvDiscardC c n).ident = c.ident :=
  by simp (maxDischargeDepth := 40) +contextual [sprecvDiscardC, *]
@[simp] theorem sprecvOccC_canon (c : Cluster) (n : Nat) (k_c : c.canon) : (sprecvOccC c n).canon :=
  by simp (maxDischargeDepth := 40) +contextual [sprecvOccC, *]
@[simp] theorem sprecvOccC_ident (c : Cluster) (n : Nat) : (sprecvOccC c n).ident = c.ident :=
  by simp (maxDischargeDepth := 40) +contextual [sprecvOccC, *]
@[simp] theorem recvTimeoutC_canon (c : Cluster) (n : Nat) (k_c : c.canon) : (recvTimeoutC c n).canon :=
  by unfold recvTimeoutC; dsimp only; (repeat' split) <;> simp (maxDischargeDepth := 40) +contextual [*]
@[simp] theorem recvTimeoutC_ident (c : Cluster) (n : Nat) : (recvTimeoutC c n).ident = c.ident :=
  by unfold recvTimeoutC; dsimp only; (repeat' split) <;> simp (maxDischargeDepth := 40) +contextual [*]
@[simp] theorem tbrdC_canon (c : Cluster) (n : Nat) (k_c : c.canon) : (tbrdC c n).canon :=
  by simp (maxDischargeDepth := 40) +contextual [tbrdC, *]
@[simp] theorem tbrdC_ident (c : Cluster) (n : Nat) : (tbrdC c n).ident = c.ident :=
  by simp (maxDischargeDepth := 40) +contextual [tbrdC, *]
@[simp] theorem lccrdC_canon (c : Cluster) (n : Nat) (k_c : c.canon) : (lccrdC c n).canon :=
  by simp (maxDischargeDepth := 40) +contextual [lccrdC, *]
@[simp] theorem lccrdC_ident (c : Cluster) (n : Nat) : (lccrdC c n).ident = c.ident :=
  by simp (maxDischargeDepth := 40) +contextual [lccrdC, *]
@[simp] theorem tbwaitC_canon (c : Cluster) (n : Nat) (k_c : c.canon) : (tbwaitC c n).canon :=
  by simp (maxDischargeDepth := 40) +contextual [tbwaitC, *]
@[simp] theorem tbwaitC_ident (c : Cluster) (n : Nat) : (tbwaitC c n).ident = c.ident :=
  by simp (maxDischargeDepth := 40) +contextual [tbwaitC, *]
@[simp] theorem Cluster.release_canon (c : Cluster) (n : Nat) (cond : Stall → Bool) (k_c : c.canon) : (c.release n cond).canon :=
  by simp (maxDischargeDepth := 40) +contextual [Cluster.release, *]
@[simp] theorem Cluster.release_ident (c : Cluster) (n : Nat) (cond : Stall → Bool) : (c.release n cond).ident = c.ident :=
  by simp (maxDischargeDepth := 40) +contextual [Cluster.release, *]
@[simp] theorem tbwaitReleaseC_canon (c : Cluster) (n : Nat) (k_c : c.canon) : (tbwaitReleaseC c n).canon :=
  by simp (maxDischargeDepth := 40) +contextual [tbwaitReleaseC, *]
@[simp] theorem tbwaitReleaseC_ident (c : Cluster) (n : Nat) : (tbwaitReleaseC c n).ident = c.ident :=
  by simp (maxDischargeDepth := 40) +contextual [tbwaitReleaseC, *]
@[simp] theorem lccwaitC_canon (c : Cluster) (n : Nat) (k_c : c.canon) : (lccwaitC c n).canon :=
  by simp (maxDischargeDepth := 40) +contextual [lccwaitC, *]
@[simp] theorem lccwaitC_ident (c : Cluster) (n : Nat) : (lccwaitC c n).ident = c.ident :=
  by simp (maxDischargeDepth := 40) +contextual [lccwaitC, *]
@[simp] theorem lccwaitReleaseC_canon (c : Cluster) (n : Nat) (k_c : c.canon) : (lccwaitReleaseC c n).canon :=
  by simp (maxDischargeDepth := 40) +contextual [lccwaitReleaseC, *]
@[simp] theorem lccwaitReleaseC_ident (c : Cluster) (n : Nat) : (lccwaitReleaseC c n).ident = c.ident :=
  by simp (maxDischargeDepth := 40) +contextual [lccwaitReleaseC, *]
@[simp] theorem setctxC_canon (c : Cluster) (n : Nat) (k_c : c.canon) : (setctxC c n).canon :=
  by simp (maxDischargeDepth := 40) +contextual [setctxC, *]
@[simp] theorem setctxC_ident (c : Cluster) (n : Nat) : (setctxC c n).ident = c.ident :=
  by simp (maxDischargeDepth := 40) +contextual [setctxC, *]
@[simp] theorem haltC_canon (c : Cluster) (n : Nat) (k_c : c.canon) : (haltC c n).canon :=
  by simp (maxDischargeDepth := 40) +contextual [haltC, *]
@[simp] theorem haltC_ident (c : Cluster) (n : Nat) : (haltC c n).ident = c.ident :=
  by simp (maxDischargeDepth := 40) +contextual [haltC, *]
@[simp] theorem nopC_canon (c : Cluster) (n : Nat) (k_c : c.canon) : (nopC c n).canon :=
  by simp (maxDischargeDepth := 40) +contextual [nopC, *]
@[simp] theorem nopC_ident (c : Cluster) (n : Nat) : (nopC c n).ident = c.ident :=
  by simp (maxDischargeDepth := 40) +contextual [nopC, *]

end Sys2Proof.Machine
end

