-- ==== Sys2Proof/Laws/CanonDrain.lean ====
section
/-! SUPPORT. Every operation of Machine/Drain.lean keeps the canonical form of the stores and the identity of the cluster. -/

namespace Sys2Proof.Machine

@[simp] theorem Cluster.putCells_canon (c : Cluster) (a : Nat) (set1 : Bool) (vs : List (Nat × Nat × W32)) (k_c : c.canon) : (c.putCells a set1 vs).canon :=
  by simp (maxDischargeDepth := 40) +contextual [Cluster.putCells, *]
@[simp] theorem Cluster.putCells_ident (c : Cluster) (a : Nat) (set1 : Bool) (vs : List (Nat × Nat × W32)) : (c.putCells a set1 vs).ident = c.ident :=
  by simp (maxDischargeDepth := 40) +contextual [Cluster.putCells, *]
@[simp] theorem Cluster.preGroup_canon (c : Cluster) (a : Nat) (set1 : Bool) (int : Bool) (orient : Bool) (i : Nat) (held : List (List W32)) (lanes : List W32) (k_c : c.canon) : (c.preGroup a set1 int orient i held lanes).canon :=
  by simp (maxDischargeDepth := 40) +contextual [Cluster.preGroup, *]
@[simp] theorem Cluster.preGroup_ident (c : Cluster) (a : Nat) (set1 : Bool) (int : Bool) (orient : Bool) (i : Nat) (held : List (List W32)) (lanes : List W32) : (c.preGroup a set1 int orient i held lanes).ident = c.ident :=
  by simp (maxDischargeDepth := 40) +contextual [Cluster.preGroup, *]
@[simp] theorem Cluster.skimRefs_canon (c : Cluster) (a : Nat) (due : Nat) (st : List W64) (k_c : c.canon) : (c.skimRefs a due st).canon :=
  by
  unfold Cluster.skimRefs
  (try dsimp only)
  refine foldl_fst_canon _ _ (by simp (maxDischargeDepth := 40) +contextual [*]) (fun d x h => ?_)
  (try dsimp only)
  (repeat' split) <;> simp (maxDischargeDepth := 40) +contextual [*]
@[simp] theorem Cluster.skimRefs_ident (c : Cluster) (a : Nat) (due : Nat) (st : List W64) : (c.skimRefs a due st).ident = c.ident :=
  by
  unfold Cluster.skimRefs
  (try dsimp only)
  refine (foldl_fst_ident _ _ _ (fun d x => ?_)).trans ?_ <;> (try dsimp only) <;> (repeat' split) <;> simp (maxDischargeDepth := 40) +contextual [*]
@[simp] theorem Cluster.startDrain_canon (c : Cluster) (a : Nat) (o : MacroOp) (t : Nat) (set1 : Bool) (nul : Bool) (part : Nat) (pre : Bool) (k_c : c.canon) : (c.startDrain a o t set1 nul part pre).canon :=
  by simp (maxDischargeDepth := 40) +contextual [Cluster.startDrain, *]
@[simp] theorem Cluster.startDrain_ident (c : Cluster) (a : Nat) (o : MacroOp) (t : Nat) (set1 : Bool) (nul : Bool) (part : Nat) (pre : Bool) : (c.startDrain a o t set1 nul part pre).ident = c.ident :=
  by simp (maxDischargeDepth := 40) +contextual [Cluster.startDrain, *]
@[simp] theorem Cluster.statPass_canon (c : Cluster) (a : Nat) (j : DrainJob) (i : Nat) (st : W64) (lanes : List W32) (k_c : c.canon) : (c.statPass a j i st lanes).canon :=
  by simp (maxDischargeDepth := 40) +contextual [Cluster.statPass, *]
@[simp] theorem Cluster.statPass_ident (c : Cluster) (a : Nat) (j : DrainJob) (i : Nat) (st : W64) (lanes : List W32) : (c.statPass a j i st lanes).ident = c.ident :=
  by simp (maxDischargeDepth := 40) +contextual [Cluster.statPass, *]
@[simp] theorem Cluster.postPiece_canon (c : Cluster) (a : Nat) (j : DrainJob) (t : Nat) (p : Nat × List Byte) (k_c : c.canon) : (c.postPiece a j t p).canon :=
  by simp (maxDischargeDepth := 40) +contextual [Cluster.postPiece, *]
@[simp] theorem Cluster.postPiece_ident (c : Cluster) (a : Nat) (j : DrainJob) (t : Nat) (p : Nat × List Byte) : (c.postPiece a j t p).ident = c.ident :=
  by simp (maxDischargeDepth := 40) +contextual [Cluster.postPiece, *]
@[simp] theorem Cluster.postGroup_canon (c : Cluster) (a : Nat) (j : DrainJob) (i : Nat) (t : Nat) (g : Skim) (k_c : c.canon) : (c.postGroup a j i t g).canon :=
  by unfold Cluster.postGroup; dsimp only; (repeat' split) <;> simp (maxDischargeDepth := 40) +contextual [*]
@[simp] theorem Cluster.postGroup_ident (c : Cluster) (a : Nat) (j : DrainJob) (i : Nat) (t : Nat) (g : Skim) : (c.postGroup a j i t g).ident = c.ident :=
  by unfold Cluster.postGroup; dsimp only; (repeat' split) <;> simp (maxDischargeDepth := 40) +contextual [*]
@[simp] theorem Cluster.skimEnter_canon (c : Cluster) (a : Nat) (j : DrainJob) (i : Nat) (k : Nat) (t : Nat) (g : Skim) (k_c : c.canon) : (c.skimEnter a j i k t g).canon :=
  by simp (maxDischargeDepth := 40) +contextual [Cluster.skimEnter, *]
@[simp] theorem Cluster.skimEnter_ident (c : Cluster) (a : Nat) (j : DrainJob) (i : Nat) (k : Nat) (t : Nat) (g : Skim) : (c.skimEnter a j i k t g).ident = c.ident :=
  by simp (maxDischargeDepth := 40) +contextual [Cluster.skimEnter, *]
@[simp] theorem Cluster.skimPass_canon (c : Cluster) (a : Nat) (j : DrainJob) (i : Nat) (k : Nat) (g : Skim) (k_c : c.canon) : (c.skimPass a j i k g).canon :=
  by simp (maxDischargeDepth := 40) +contextual [Cluster.skimPass, *]
@[simp] theorem Cluster.skimPass_ident (c : Cluster) (a : Nat) (j : DrainJob) (i : Nat) (k : Nat) (g : Skim) : (c.skimPass a j i k g).ident = c.ident :=
  by simp (maxDischargeDepth := 40) +contextual [Cluster.skimPass, *]
@[simp] theorem Cluster.witnessFault_canon (c : Cluster) (a : Nat) (j : DrainJob) (r : Nat) (k_c : c.canon) : (c.witnessFault a j r).canon :=
  by simp (maxDischargeDepth := 40) +contextual [Cluster.witnessFault, *]
@[simp] theorem Cluster.witnessFault_ident (c : Cluster) (a : Nat) (j : DrainJob) (r : Nat) : (c.witnessFault a j r).ident = c.ident :=
  by simp (maxDischargeDepth := 40) +contextual [Cluster.witnessFault, *]
@[simp] theorem Cluster.witnessRows_canon (c : Cluster) (a : Nat) (j : DrainJob) (rows : List (Nat × List W32)) (k_c : c.canon) : (c.witnessRows a j rows).1.canon :=
  by unfold Cluster.witnessRows; dsimp only; (repeat' split) <;> simp (maxDischargeDepth := 40) +contextual [*]
@[simp] theorem Cluster.witnessRows_ident (c : Cluster) (a : Nat) (j : DrainJob) (rows : List (Nat × List W32)) : (c.witnessRows a j rows).1.ident = c.ident :=
  by unfold Cluster.witnessRows; dsimp only; (repeat' split) <;> simp (maxDischargeDepth := 40) +contextual [*]
@[simp] theorem Cluster.drainGroup_canon (c : Cluster) (a : Nat) (j : DrainJob) (i : Nat) (k_c : c.canon) : (c.drainGroup a j i).1.canon :=
  by unfold Cluster.drainGroup; (repeat' (first | split | intro _)) <;> simp (maxDischargeDepth := 40) +contextual [*]
@[simp] theorem Cluster.drainGroup_ident (c : Cluster) (a : Nat) (j : DrainJob) (i : Nat) : (c.drainGroup a j i).1.ident = c.ident :=
  by unfold Cluster.drainGroup; (repeat' (first | split | intro _)) <;> simp (maxDischargeDepth := 40) +contextual [*]
@[simp] theorem Cluster.drainCycle_canon (c : Cluster) (a : Nat) (k_c : c.canon) : (c.drainCycle a).canon :=
  by unfold Cluster.drainCycle; (repeat' (first | split | intro _)) <;> simp (maxDischargeDepth := 40) +contextual [*]
@[simp] theorem Cluster.drainCycle_ident (c : Cluster) (a : Nat) : (c.drainCycle a).ident = c.ident :=
  by unfold Cluster.drainCycle; (repeat' (first | split | intro _)) <;> simp (maxDischargeDepth := 40) +contextual [*]
@[simp] theorem Cluster.preCycle_canon (c : Cluster) (a : Nat) (p : PreJob) (k_c : c.canon) : (c.preCycle a p).canon :=
  by simp (maxDischargeDepth := 40) +contextual [Cluster.preCycle, *]
@[simp] theorem Cluster.preCycle_ident (c : Cluster) (a : Nat) (p : PreJob) : (c.preCycle a p).ident = c.ident :=
  by simp (maxDischargeDepth := 40) +contextual [Cluster.preCycle, *]
@[simp] theorem Cluster.beginDrain_canon (c : Cluster) (a : Nat) (j : DrainJob) (k_c : c.canon) : (c.beginDrain a j).canon :=
  by simp (maxDischargeDepth := 40) +contextual [Cluster.beginDrain, *]
@[simp] theorem Cluster.beginDrain_ident (c : Cluster) (a : Nat) (j : DrainJob) : (c.beginDrain a j).ident = c.ident :=
  by simp (maxDischargeDepth := 40) +contextual [Cluster.beginDrain, *]
@[simp] theorem drainC_canon (c : Cluster) (a : Nat) (k_c : c.canon) : (drainC c a).canon :=
  by unfold drainC; dsimp only; (repeat' split) <;> simp (maxDischargeDepth := 40) +contextual [*]
@[simp] theorem drainC_ident (c : Cluster) (a : Nat) : (drainC c a).ident = c.ident :=
  by unfold drainC; dsimp only; (repeat' split) <;> simp (maxDischargeDepth := 40) +contextual [*]

end Sys2Proof.Machine
end

