-- ==== Sys2Proof/Laws/CanonTiles.lean ====
section
/-! SUPPORT. Every operation of Machine/Tiles.lean keeps the canonical form of the stores and the identity of the cluster. -/

namespace Sys2Proof.Machine

@[simp] theorem Cluster.cfgBusy_canon (c : Cluster) (n : Nat) (o : MacroOp) (refs : List TileRef) (k_c : c.canon) : (c.cfgBusy n o refs).canon :=
  by simp (maxDischargeDepth := 40) +contextual [Cluster.cfgBusy, *]
@[simp] theorem Cluster.cfgBusy_ident (c : Cluster) (n : Nat) (o : MacroOp) (refs : List TileRef) : (c.cfgBusy n o refs).ident = c.ident :=
  by simp (maxDischargeDepth := 40) +contextual [Cluster.cfgBusy, *]
@[simp] theorem Cluster.tileGeometry_canon (c : Cluster) (n : Nat) (t : Nat) (rowsm1 : Nat) (rb : Nat) (k_c : c.canon) : (c.tileGeometry n t rowsm1 rb).canon :=
  by simp (maxDischargeDepth := 40) +contextual [Cluster.tileGeometry, *]
@[simp] theorem Cluster.tileGeometry_ident (c : Cluster) (n : Nat) (t : Nat) (rowsm1 : Nat) (rb : Nat) : (c.tileGeometry n t rowsm1 rb).ident = c.ident :=
  by simp (maxDischargeDepth := 40) +contextual [Cluster.tileGeometry, *]
@[simp] theorem Cluster.doTcfg_canon (c : Cluster) (n : Nat) (o : MacroOp) (k_c : c.canon) : (c.doTcfg n o).canon :=
  by simp (maxDischargeDepth := 40) +contextual [Cluster.doTcfg, *]
@[simp] theorem Cluster.doTcfg_ident (c : Cluster) (n : Nat) (o : MacroOp) : (c.doTcfg n o).ident = c.ident :=
  by simp (maxDischargeDepth := 40) +contextual [Cluster.doTcfg, *]
@[simp] theorem Cluster.emptyRows_canon (c : Cluster) (n : Nat) (t : Nat) (r0 : Nat) (cnt : Nat) (k_c : c.canon) : (c.emptyRows n t r0 cnt).canon :=
  by simp (maxDischargeDepth := 40) +contextual [Cluster.emptyRows, *]
@[simp] theorem Cluster.emptyRows_ident (c : Cluster) (n : Nat) (t : Nat) (r0 : Nat) (cnt : Nat) : (c.emptyRows n t r0 cnt).ident = c.ident :=
  by simp (maxDischargeDepth := 40) +contextual [Cluster.emptyRows, *]
@[simp] theorem Cluster.doConfig_canon (c : Cluster) (n : Nat) (o : MacroOp) (k_c : c.canon) : (c.doConfig n o).canon :=
  by unfold Cluster.doConfig; (repeat' (first | split | intro _)) <;> simp (maxDischargeDepth := 40) +contextual [*]
@[simp] theorem Cluster.doConfig_ident (c : Cluster) (n : Nat) (o : MacroOp) : (c.doConfig n o).ident = c.ident :=
  by unfold Cluster.doConfig; (repeat' (first | split | intro _)) <;> simp (maxDischargeDepth := 40) +contextual [*]
@[simp] theorem Cluster.postConfig_canon (c : Cluster) (n : Nat) (o : MacroOp) (k_c : c.canon) : (c.postConfig n o).canon :=
  by simp (maxDischargeDepth := 40) +contextual [Cluster.postConfig, *]
@[simp] theorem Cluster.postConfig_ident (c : Cluster) (n : Nat) (o : MacroOp) : (c.postConfig n o).ident = c.ident :=
  by simp (maxDischargeDepth := 40) +contextual [Cluster.postConfig, *]
@[simp] theorem tcfgC_canon (c : Cluster) (n : Nat) (k_c : c.canon) : (tcfgC c n).canon :=
  by simp (maxDischargeDepth := 40) +contextual [tcfgC, *]
@[simp] theorem tcfgC_ident (c : Cluster) (n : Nat) : (tcfgC c n).ident = c.ident :=
  by simp (maxDischargeDepth := 40) +contextual [tcfgC, *]
@[simp] theorem trelC_canon (c : Cluster) (n : Nat) (k_c : c.canon) : (trelC c n).canon :=
  by simp (maxDischargeDepth := 40) +contextual [trelC, *]
@[simp] theorem trelC_ident (c : Cluster) (n : Nat) : (trelC c n).ident = c.ident :=
  by simp (maxDischargeDepth := 40) +contextual [trelC, *]
@[simp] theorem tzeroC_canon (c : Cluster) (n : Nat) (k_c : c.canon) : (tzeroC c n).canon :=
  by simp (maxDischargeDepth := 40) +contextual [tzeroC, *]
@[simp] theorem tzeroC_ident (c : Cluster) (n : Nat) : (tzeroC c n).ident = c.ident :=
  by simp (maxDischargeDepth := 40) +contextual [tzeroC, *]
@[simp] theorem Cluster.sbufWrite_canon (c : Cluster) (n : Nat) (off : Nat) (bs : List Byte) (k_c : c.canon) : (c.sbufWrite n off bs).canon :=
  by simp (maxDischargeDepth := 40) +contextual [Cluster.sbufWrite, *]
@[simp] theorem Cluster.sbufWrite_ident (c : Cluster) (n : Nat) (off : Nat) (bs : List Byte) : (c.sbufWrite n off bs).ident = c.ident :=
  by simp (maxDischargeDepth := 40) +contextual [Cluster.sbufWrite, *]
@[simp] theorem Cluster.stopLoad_canon (c : Cluster) (m : Mov) (k_c : c.canon) : (c.stopLoad m).canon :=
  by simp (maxDischargeDepth := 40) +contextual [Cluster.stopLoad, *]
@[simp] theorem Cluster.stopLoad_ident (c : Cluster) (m : Mov) : (c.stopLoad m).ident = c.ident :=
  by simp (maxDischargeDepth := 40) +contextual [Cluster.stopLoad, *]
@[simp] theorem Cluster.loadRow_canon (c : Cluster) (m : Mov) (i : Nat) (k_c : c.canon) : (c.loadRow m i).canon :=
  by simp (maxDischargeDepth := 40) +contextual [Cluster.loadRow, *]
@[simp] theorem Cluster.loadRow_ident (c : Cluster) (m : Mov) (i : Nat) : (c.loadRow m i).ident = c.ident :=
  by simp (maxDischargeDepth := 40) +contextual [Cluster.loadRow, *]
@[simp] theorem Cluster.postChunks_canon (c : Cluster) (m : Mov) (bs : List Byte) (k_c : c.canon) : (c.postChunks m bs).canon :=
  by simp (maxDischargeDepth := 40) +contextual [Cluster.postChunks, *]
@[simp] theorem Cluster.postChunks_ident (c : Cluster) (m : Mov) (bs : List Byte) : (c.postChunks m bs).ident = c.ident :=
  by simp (maxDischargeDepth := 40) +contextual [Cluster.postChunks, *]
@[simp] theorem Cluster.transRow_canon (c : Cluster) (m : Mov) (i : Nat) (k_c : c.canon) : (c.transRow m i).canon :=
  by simp (maxDischargeDepth := 40) +contextual [Cluster.transRow, *]
@[simp] theorem Cluster.transRow_ident (c : Cluster) (m : Mov) (i : Nat) : (c.transRow m i).ident = c.ident :=
  by simp (maxDischargeDepth := 40) +contextual [Cluster.transRow, *]
@[simp] theorem Cluster.movRead_canon (c : Cluster) (m : Mov) (k_c : c.canon) : (c.movRead m).canon :=
  by unfold Cluster.movRead; (repeat' (first | split | intro _)) <;> simp (maxDischargeDepth := 40) +contextual [*]
@[simp] theorem Cluster.movRead_ident (c : Cluster) (m : Mov) : (c.movRead m).ident = c.ident :=
  by unfold Cluster.movRead; (repeat' (first | split | intro _)) <;> simp (maxDischargeDepth := 40) +contextual [*]
@[simp] theorem Cluster.owe_canon (c : Cluster) (m : Mov) (k_c : c.canon) : (c.owe m).canon :=
  by simp (maxDischargeDepth := 40) +contextual [Cluster.owe, *]
@[simp] theorem Cluster.owe_ident (c : Cluster) (m : Mov) : (c.owe m).ident = c.ident :=
  by simp (maxDischargeDepth := 40) +contextual [Cluster.owe, *]
@[simp] theorem Cluster.doTld_canon (c : Cluster) (n : Nat) (o : MacroOp) (k_c : c.canon) : (c.doTld n o).canon :=
  by simp (maxDischargeDepth := 40) +contextual [Cluster.doTld, *]
@[simp] theorem Cluster.doTld_ident (c : Cluster) (n : Nat) (o : MacroOp) : (c.doTld n o).ident = c.ident :=
  by simp (maxDischargeDepth := 40) +contextual [Cluster.doTld, *]
@[simp] theorem tldC_canon (c : Cluster) (n : Nat) (k_c : c.canon) : (tldC c n).canon :=
  by simp (maxDischargeDepth := 40) +contextual [tldC, *]
@[simp] theorem tldC_ident (c : Cluster) (n : Nat) : (tldC c n).ident = c.ident :=
  by simp (maxDischargeDepth := 40) +contextual [tldC, *]
@[simp] theorem Cluster.doTst_canon (c : Cluster) (n : Nat) (o : MacroOp) (k_c : c.canon) : (c.doTst n o).canon :=
  by simp (maxDischargeDepth := 40) +contextual [Cluster.doTst, *]
@[simp] theorem Cluster.doTst_ident (c : Cluster) (n : Nat) (o : MacroOp) : (c.doTst n o).ident = c.ident :=
  by simp (maxDischargeDepth := 40) +contextual [Cluster.doTst, *]
@[simp] theorem tstC_canon (c : Cluster) (n : Nat) (k_c : c.canon) : (tstC c n).canon :=
  by simp (maxDischargeDepth := 40) +contextual [tstC, *]
@[simp] theorem tstC_ident (c : Cluster) (n : Nat) : (tstC c n).ident = c.ident :=
  by simp (maxDischargeDepth := 40) +contextual [tstC, *]
@[simp] theorem Cluster.doMove_canon (c : Cluster) (n : Nat) (o : MacroOp) (k_c : c.canon) : (c.doMove n o).canon :=
  by simp (maxDischargeDepth := 40) +contextual [Cluster.doMove, *]
@[simp] theorem Cluster.doMove_ident (c : Cluster) (n : Nat) (o : MacroOp) : (c.doMove n o).ident = c.ident :=
  by simp (maxDischargeDepth := 40) +contextual [Cluster.doMove, *]
@[simp] theorem Cluster.doTranspose_canon (c : Cluster) (n : Nat) (o : MacroOp) (k_c : c.canon) : (c.doTranspose n o).canon :=
  by simp (maxDischargeDepth := 40) +contextual [Cluster.doTranspose, *]
@[simp] theorem Cluster.doTranspose_ident (c : Cluster) (n : Nat) (o : MacroOp) : (c.doTranspose n o).ident = c.ident :=
  by simp (maxDischargeDepth := 40) +contextual [Cluster.doTranspose, *]
@[simp] theorem tmovC_canon (c : Cluster) (n : Nat) (k_c : c.canon) : (tmovC c n).canon :=
  by simp (maxDischargeDepth := 40) +contextual [tmovC, *]
@[simp] theorem tmovC_ident (c : Cluster) (n : Nat) : (tmovC c n).ident = c.ident :=
  by simp (maxDischargeDepth := 40) +contextual [tmovC, *]

end Sys2Proof.Machine
end

