-- ==== Sys2Proof/Laws/CanonDataMover.lean ====
section
/-! SUPPORT. Every operation of Machine/DataMover.lean keeps the canonical form of the stores and the identity of the cluster. -/

namespace Sys2Proof.Machine

@[simp] theorem Cluster.enterXfer_canon (c : Cluster) (ch : Nat) (op : MacroOp) (k_c : c.canon) : (c.enterXfer ch op).canon :=
  by simp (maxDischargeDepth := 40) +contextual [Cluster.enterXfer, *]
@[simp] theorem Cluster.enterXfer_ident (c : Cluster) (ch : Nat) (op : MacroOp) : (c.enterXfer ch op).ident = c.ident :=
  by simp (maxDischargeDepth := 40) +contextual [Cluster.enterXfer, *]
@[simp] theorem Cluster.startXfer_canon (c : Cluster) (ch : Nat) (opc : Nat) (k_c : c.canon) : (c.startXfer ch opc).canon :=
  by unfold Cluster.startXfer; dsimp only; (repeat' split) <;> simp (maxDischargeDepth := 40) +contextual [*]
@[simp] theorem Cluster.startXfer_ident (c : Cluster) (ch : Nat) (opc : Nat) : (c.startXfer ch opc).ident = c.ident :=
  by unfold Cluster.startXfer; dsimp only; (repeat' split) <;> simp (maxDischargeDepth := 40) +contextual [*]
@[simp] theorem dmgetC_canon (c : Cluster) (ch : Nat) (k_c : c.canon) : (dmgetC c ch).canon :=
  by simp (maxDischargeDepth := 40) +contextual [dmgetC, *]
@[simp] theorem dmgetC_ident (c : Cluster) (ch : Nat) : (dmgetC c ch).ident = c.ident :=
  by simp (maxDischargeDepth := 40) +contextual [dmgetC, *]
@[simp] theorem dmputC_canon (c : Cluster) (ch : Nat) (k_c : c.canon) : (dmputC c ch).canon :=
  by simp (maxDischargeDepth := 40) +contextual [dmputC, *]
@[simp] theorem dmputC_ident (c : Cluster) (ch : Nat) : (dmputC c ch).ident = c.ident :=
  by simp (maxDischargeDepth := 40) +contextual [dmputC, *]
@[simp] theorem dmarrC_canon (c : Cluster) (ch : Nat) (k_c : c.canon) : (dmarrC c ch).canon :=
  by unfold dmarrC; (repeat' split) <;> simp (maxDischargeDepth := 40) +contextual [*]
@[simp] theorem dmarrC_ident (c : Cluster) (ch : Nat) : (dmarrC c ch).ident = c.ident :=
  by unfold dmarrC; (repeat' split) <;> simp (maxDischargeDepth := 40) +contextual [*]
@[simp] theorem Cluster.parkBlock_canon (c : Cluster) (ch : Nat) (slot : Nat) (x : Xfer) (kind : Nat) (k_c : c.canon) : (c.parkBlock ch slot x kind).canon :=
  by simp (maxDischargeDepth := 40) +contextual [Cluster.parkBlock, *]
@[simp] theorem Cluster.parkBlock_ident (c : Cluster) (ch : Nat) (slot : Nat) (x : Xfer) (kind : Nat) : (c.parkBlock ch slot x kind).ident = c.ident :=
  by simp (maxDischargeDepth := 40) +contextual [Cluster.parkBlock, *]
@[simp] theorem Cluster.sendBlock_canon (c : Cluster) (ch : Nat) (slot : Nat) (x : Xfer) (k : Nat) (target : Nat) (payload : List Byte) (k_c : c.canon) : (c.sendBlock ch slot x k target payload).canon :=
  by simp (maxDischargeDepth := 40) +contextual [Cluster.sendBlock, *]
@[simp] theorem Cluster.sendBlock_ident (c : Cluster) (ch : Nat) (slot : Nat) (x : Xfer) (k : Nat) (target : Nat) (payload : List Byte) : (c.sendBlock ch slot x k target payload).ident = c.ident :=
  by simp (maxDischargeDepth := 40) +contextual [Cluster.sendBlock, *]
@[simp] theorem Cluster.sendGet_canon (c : Cluster) (ch : Nat) (slot : Nat) (x : Xfer) (k_c : c.canon) : (c.sendGet ch slot x).canon :=
  by unfold Cluster.sendGet; dsimp only; (repeat' split) <;> simp (maxDischargeDepth := 40) +contextual [*]
@[simp] theorem Cluster.sendGet_ident (c : Cluster) (ch : Nat) (slot : Nat) (x : Xfer) : (c.sendGet ch slot x).ident = c.ident :=
  by unfold Cluster.sendGet; dsimp only; (repeat' split) <;> simp (maxDischargeDepth := 40) +contextual [*]
@[simp] theorem Cluster.readPut_canon (c : Cluster) (ch : Nat) (slot : Nat) (x : Xfer) (k_c : c.canon) : (c.readPut ch slot x).canon :=
  by simp (maxDischargeDepth := 40) +contextual [Cluster.readPut, *]
@[simp] theorem Cluster.readPut_ident (c : Cluster) (ch : Nat) (slot : Nat) (x : Xfer) : (c.readPut ch slot x).ident = c.ident :=
  by simp (maxDischargeDepth := 40) +contextual [Cluster.readPut, *]
@[simp] theorem dmvBlockSendC_canon (c : Cluster) (ch : Nat) (k_c : c.canon) : (dmvBlockSendC c ch).canon :=
  by unfold dmvBlockSendC; (repeat' (first | split | intro _)) <;> simp (maxDischargeDepth := 40) +contextual [*]
@[simp] theorem dmvBlockSendC_ident (c : Cluster) (ch : Nat) : (dmvBlockSendC c ch).ident = c.ident :=
  by unfold dmvBlockSendC; (repeat' (first | split | intro _)) <;> simp (maxDischargeDepth := 40) +contextual [*]
@[simp] theorem Cluster.putDone_canon (c : Cluster) (ch : Nat) (ord : Nat) (k : Nat) (payload : List Byte) (k_c : c.canon) : (c.putDone ch ord k payload).canon :=
  by unfold Cluster.putDone; dsimp only; (repeat' split) <;> simp (maxDischargeDepth := 40) +contextual [*]
@[simp] theorem Cluster.putDone_ident (c : Cluster) (ch : Nat) (ord : Nat) (k : Nat) (payload : List Byte) : (c.putDone ch ord k payload).ident = c.ident :=
  by unfold Cluster.putDone; dsimp only; (repeat' split) <;> simp (maxDischargeDepth := 40) +contextual [*]
@[simp] theorem Cluster.flushPuts_canon (c : Cluster) (ch m : Nat) (k_c : c.canon) : (c.flushPuts ch m).canon := by
  induction m generalizing c with
  | zero => exact k_c
  | succ n ih =>
    unfold Cluster.flushPuts
    dsimp only
    (repeat' split) <;> first | exact k_c | (apply ih; simp (maxDischargeDepth := 40) +contextual [*])
@[simp] theorem Cluster.flushPuts_ident (c : Cluster) (ch m : Nat) : (c.flushPuts ch m).ident = c.ident := by
  induction m generalizing c with
  | zero => rfl
  | succ n ih =>
    unfold Cluster.flushPuts
    dsimp only
    (repeat' split) <;> first | rfl | (rw [ih]; simp (maxDischargeDepth := 40) +contextual [*])
@[simp] theorem Cluster.flushAll_canon (c : Cluster) (k_c : c.canon) : c.flushAll.canon :=
  by simp (maxDischargeDepth := 40) +contextual [Cluster.flushAll, *]
@[simp] theorem Cluster.flushAll_ident (c : Cluster) : c.flushAll.ident = c.ident :=
  by simp (maxDischargeDepth := 40) +contextual [Cluster.flushAll, *]
@[simp] theorem Cluster.drainTurned_canon (c : Cluster) (k_c : c.canon) : c.drainTurned.canon :=
  by unfold Cluster.drainTurned; (repeat' (first | split | intro _)) <;> simp (maxDischargeDepth := 40) +contextual [*]
@[simp] theorem Cluster.drainTurned_ident (c : Cluster) : c.drainTurned.ident = c.ident :=
  by unfold Cluster.drainTurned; (repeat' (first | split | intro _)) <;> simp (maxDischargeDepth := 40) +contextual [*]
@[simp] theorem dmTimeoutC_canon (c : Cluster) (ch : Nat) (slot : Nat) (k_c : c.canon) : (dmTimeoutC c ch slot).canon :=
  by unfold dmTimeoutC; (repeat' (first | split | intro _)) <;> simp (maxDischargeDepth := 40) +contextual [*]
@[simp] theorem dmTimeoutC_ident (c : Cluster) (ch : Nat) (slot : Nat) : (dmTimeoutC c ch slot).ident = c.ident :=
  by unfold dmTimeoutC; (repeat' (first | split | intro _)) <;> simp (maxDischargeDepth := 40) +contextual [*]
@[simp] theorem Cluster.retryPark_canon (c : Cluster) (ch : Nat) (k_c : c.canon) : (c.retryPark ch).canon :=
  by unfold Cluster.retryPark; dsimp only; (repeat' split) <;> simp (maxDischargeDepth := 40) +contextual [*]
@[simp] theorem Cluster.retryPark_ident (c : Cluster) (ch : Nat) : (c.retryPark ch).ident = c.ident :=
  by unfold Cluster.retryPark; dsimp only; (repeat' split) <;> simp (maxDischargeDepth := 40) +contextual [*]
@[simp] theorem Cluster.abortPark_canon (c : Cluster) (ch : Nat) (k_c : c.canon) : (c.abortPark ch).canon :=
  by unfold Cluster.abortPark; (repeat' (first | split | intro _)) <;> simp (maxDischargeDepth := 40) +contextual [*]
@[simp] theorem Cluster.abortPark_ident (c : Cluster) (ch : Nat) : (c.abortPark ch).ident = c.ident :=
  by unfold Cluster.abortPark; (repeat' (first | split | intro _)) <;> simp (maxDischargeDepth := 40) +contextual [*]
@[simp] theorem Cluster.commitWindow_canon (c : Cluster) (w : Nat) (v : W64) (k_c : c.canon) : (c.commitWindow w v).canon :=
  by simp (maxDischargeDepth := 40) +contextual [Cluster.commitWindow, *]
@[simp] theorem Cluster.commitWindow_ident (c : Cluster) (w : Nat) (v : W64) : (c.commitWindow w v).ident = c.ident :=
  by simp (maxDischargeDepth := 40) +contextual [Cluster.commitWindow, *]
@[simp] theorem Cluster.windowsIn_canon (c : Cluster) (k_c : c.canon) : c.windowsIn.canon :=
  by simp (maxDischargeDepth := 40) +contextual [Cluster.windowsIn, *]
@[simp] theorem Cluster.windowsIn_ident (c : Cluster) : c.windowsIn.ident = c.ident :=
  by simp (maxDischargeDepth := 40) +contextual [Cluster.windowsIn, *]

end Sys2Proof.Machine
end

