-- ==== Sys2Proof/Laws/CanonRegMap.lean ====
section
/-! SUPPORT. Every operation of Machine/RegMap.lean keeps the canonical form of the stores and the identity of the cluster. -/

namespace Sys2Proof.Machine

@[simp] theorem Cluster.viewRead_canon (c : Cluster) (a : Nat) (k_c : c.canon) : (c.viewRead a).canon :=
  by unfold Cluster.viewRead; (repeat' (first | split | intro _)) <;> simp (maxDischargeDepth := 40) +contextual [*]
@[simp] theorem Cluster.viewRead_ident (c : Cluster) (a : Nat) : (c.viewRead a).ident = c.ident :=
  by unfold Cluster.viewRead; (repeat' (first | split | intro _)) <;> simp (maxDischargeDepth := 40) +contextual [*]
@[simp] theorem Cluster.regRead_canon (c : Cluster) (a : Nat) (k_c : c.canon) : (c.regRead a).2.canon :=
  by unfold Cluster.regRead; dsimp only; (repeat' split) <;> simp (maxDischargeDepth := 40) +contextual [*]
@[simp] theorem Cluster.regRead_ident (c : Cluster) (a : Nat) : (c.regRead a).2.ident = c.ident :=
  by unfold Cluster.regRead; dsimp only; (repeat' split) <;> simp (maxDischargeDepth := 40) +contextual [*]
@[simp] theorem Cluster.clearRecord_canon (c : Cluster) (a : Nat) (p : Nat × List Nat × Nat) (k_c : c.canon) : (c.clearRecord a p).canon :=
  by simp (maxDischargeDepth := 40) +contextual [Cluster.clearRecord, *]
@[simp] theorem Cluster.clearRecord_ident (c : Cluster) (a : Nat) (p : Nat × List Nat × Nat) : (c.clearRecord a p).ident = c.ident :=
  by simp (maxDischargeDepth := 40) +contextual [Cluster.clearRecord, *]
@[simp] theorem Cluster.regPut_canon (c : Cluster) (a : Nat) (v : W64) (m : W64) (k_c : c.canon) : (c.regPut a v m).canon :=
  by unfold Cluster.regPut; (repeat' (first | split | intro _)) <;> simp (maxDischargeDepth := 40) +contextual [*]
@[simp] theorem Cluster.regPut_ident (c : Cluster) (a : Nat) (v : W64) (m : W64) : (c.regPut a v m).ident = c.ident :=
  by unfold Cluster.regPut; (repeat' (first | split | intro _)) <;> simp (maxDischargeDepth := 40) +contextual [*]
@[simp] theorem Cluster.regWrite_canon (c : Cluster) (a : Nat) (v : W32) (k_c : c.canon) : (c.regWrite a v).canon :=
  by simp (maxDischargeDepth := 40) +contextual [Cluster.regWrite, *]
@[simp] theorem Cluster.regWrite_ident (c : Cluster) (a : Nat) (v : W32) : (c.regWrite a v).ident = c.ident :=
  by simp (maxDischargeDepth := 40) +contextual [Cluster.regWrite, *]
@[simp] theorem Cluster.unmapped_canon (c : Cluster) (n : Nat) (k_c : c.canon) : (c.unmapped n).canon :=
  by simp (maxDischargeDepth := 40) +contextual [Cluster.unmapped, *]
@[simp] theorem Cluster.unmapped_ident (c : Cluster) (n : Nat) : (c.unmapped n).ident = c.ident :=
  by simp (maxDischargeDepth := 40) +contextual [Cluster.unmapped, *]
@[simp] theorem Cluster.doRrd_canon (c : Cluster) (n : Nat) (x : Core) (w : Nat) (k_c : c.canon) : (c.doRrd n x w).canon :=
  by simp (maxDischargeDepth := 40) +contextual [Cluster.doRrd, *]
@[simp] theorem Cluster.doRrd_ident (c : Cluster) (n : Nat) (x : Core) (w : Nat) : (c.doRrd n x w).ident = c.ident :=
  by simp (maxDischargeDepth := 40) +contextual [Cluster.doRrd, *]
@[simp] theorem rrdC_canon (c : Cluster) (n : Nat) (k_c : c.canon) : (rrdC c n).canon :=
  by simp (maxDischargeDepth := 40) +contextual [rrdC, *]
@[simp] theorem rrdC_ident (c : Cluster) (n : Nat) : (rrdC c n).ident = c.ident :=
  by simp (maxDischargeDepth := 40) +contextual [rrdC, *]
@[simp] theorem Cluster.doRwr_canon (c : Cluster) (n : Nat) (x : Core) (w : Nat) (k_c : c.canon) : (c.doRwr n x w).canon :=
  by simp (maxDischargeDepth := 40) +contextual [Cluster.doRwr, *]
@[simp] theorem Cluster.doRwr_ident (c : Cluster) (n : Nat) (x : Core) (w : Nat) : (c.doRwr n x w).ident = c.ident :=
  by simp (maxDischargeDepth := 40) +contextual [Cluster.doRwr, *]
@[simp] theorem rwrC_canon (c : Cluster) (n : Nat) (k_c : c.canon) : (rwrC c n).canon :=
  by simp (maxDischargeDepth := 40) +contextual [rwrC, *]
@[simp] theorem rwrC_ident (c : Cluster) (n : Nat) : (rwrC c n).ident = c.ident :=
  by simp (maxDischargeDepth := 40) +contextual [rwrC, *]

end Sys2Proof.Machine
end

