-- ==== Sys2Proof/Laws/CanonDict.lean ====
section
/-! SUPPORT. Every operation of Machine/Dict.lean keeps the canonical form of the stores and the identity of the cluster. -/

namespace Sys2Proof.Machine

@[simp] theorem Cluster.clampRec_canon (c : Cluster) (i : Nat) (s : Nat) (kind : Nat) (flsb : Nat) (written : Nat) (stored : Nat) (k_c : c.canon) : (c.clampRec i s kind flsb written stored).canon :=
  by
  unfold Cluster.clampRec
  (try dsimp only)
  refine Cluster.setDict_canon _ _ _ _ (Cluster.setDict_canon _ _ _ _ (Cluster.setDict_canon _ _ _ _ ?_))
  exact k_c
@[simp] theorem Cluster.clampRec_ident (c : Cluster) (i : Nat) (s : Nat) (kind : Nat) (flsb : Nat) (written : Nat) (stored : Nat) : (c.clampRec i s kind flsb written stored).ident = c.ident :=
  by
  unfold Cluster.clampRec
  (try dsimp only)
  rw [Cluster.setDict_ident, Cluster.setDict_ident, Cluster.setDict_ident]; rfl
@[simp] theorem Cluster.clampFields_canon (c : Cluster) (i : Nat) (s : Nat) (v : Nat) (old : Nat) (y5 : List DField) (k_c : c.canon)  : (c.clampFields i s v old y5).1.canon :=
  by
  induction y5 generalizing c with
  | nil => exact k_c
  | cons f fs ih =>
    unfold Cluster.clampFields
    (try dsimp only)
    apply ih
    split <;> simp [k_c]
@[simp] theorem Cluster.clampFields_ident (c : Cluster) (i : Nat) (s : Nat) (v : Nat) (old : Nat) (y5 : List DField)  : (c.clampFields i s v old y5).1.ident = c.ident :=
  by
  induction y5 generalizing c with
  | nil => rfl
  | cons f fs ih =>
    unfold Cluster.clampFields
    (try dsimp only)
    rw [ih]
    split <;> simp
@[simp] theorem Cluster.clampEntry_canon (c : Cluster) (i : Nat) (s : Nat) (v : Nat) (k_c : c.canon) : (c.clampEntry i s v).1.canon :=
  by unfold Cluster.clampEntry; (repeat' (first | split | intro _)) <;> simp (maxDischargeDepth := 40) +contextual [*]
@[simp] theorem Cluster.clampEntry_ident (c : Cluster) (i : Nat) (s : Nat) (v : Nat) : (c.clampEntry i s v).1.ident = c.ident :=
  by unfold Cluster.clampEntry; (repeat' (first | split | intro _)) <;> simp (maxDischargeDepth := 40) +contextual [*]
@[simp] theorem Cluster.written_canon (c : Cluster) (i : Nat) (s : Nat) (v : Nat) (f : Cluster → Nat → Cluster) (k_c : c.canon) (k_f : ∀ d z0, d.canon → (f d z0).canon) : (c.written i s v f).canon :=
  by simp (maxDischargeDepth := 40) +contextual [Cluster.written, *]
@[simp] theorem Cluster.written_ident (c : Cluster) (i : Nat) (s : Nat) (v : Nat) (f : Cluster → Nat → Cluster) (k_f : ∀ d z0, (f d z0).ident = d.ident) : (c.written i s v f).ident = c.ident :=
  by simp (maxDischargeDepth := 40) +contextual [Cluster.written, *]
@[simp] theorem Cluster.unhalt_canon (c : Cluster) (k_c : c.canon) : c.unhalt.canon :=
  by simp (maxDischargeDepth := 40) +contextual [Cluster.unhalt, *]
@[simp] theorem Cluster.unhalt_ident (c : Cluster) : c.unhalt.ident = c.ident :=
  by simp (maxDischargeDepth := 40) +contextual [Cluster.unhalt, *]
@[simp] theorem Cluster.sample_canon (c : Cluster) (g : Grants) (k_c : c.canon) : (c.sample g).canon :=
  by simp (maxDischargeDepth := 40) +contextual [Cluster.sample, *]
@[simp] theorem Cluster.sample_ident (c : Cluster) (g : Grants) : (c.sample g).ident = c.ident :=
  by simp (maxDischargeDepth := 40) +contextual [Cluster.sample, *]
@[simp] theorem Cluster.writtenM_canon (c : Cluster) (g : Grants) (i : Nat) (s : Nat) (v : Nat) (f : Cluster → Nat → Cluster) (k_c : c.canon) (k_f : ∀ d z0, d.canon → (f d z0).canon) : (c.writtenM g i s v f).canon :=
  by simp (maxDischargeDepth := 40) +contextual [Cluster.writtenM, *]
@[simp] theorem Cluster.writtenM_ident (c : Cluster) (g : Grants) (i : Nat) (s : Nat) (v : Nat) (f : Cluster → Nat → Cluster) (k_f : ∀ d z0, (f d z0).ident = d.ident) : (c.writtenM g i s v f).ident = c.ident :=
  by simp (maxDischargeDepth := 40) +contextual [Cluster.writtenM, *]
@[simp] theorem Cluster.writtenD_canon (c : Cluster) (g : Grants) (i : Nat) (s : Nat) (v : Nat) (f : Cluster → Nat → Cluster) (k_c : c.canon) (k_f : ∀ d z0, d.canon → (f d z0).canon) : (c.writtenD g i s v f).canon :=
  by simp (maxDischargeDepth := 40) +contextual [Cluster.writtenD, *]
@[simp] theorem Cluster.writtenD_ident (c : Cluster) (g : Grants) (i : Nat) (s : Nat) (v : Nat) (f : Cluster → Nat → Cluster) (k_f : ∀ d z0, (f d z0).ident = d.ident) : (c.writtenD g i s v f).ident = c.ident :=
  by simp (maxDischargeDepth := 40) +contextual [Cluster.writtenD, *]

end Sys2Proof.Machine
end

