-- ==== Sys2Proof/Laws/CanonFaults.lean ====
section
/-! SUPPORT. Every operation of Machine/Faults.lean keeps the canonical form of the stores and the identity of the cluster. -/

namespace Sys2Proof.Machine

@[simp] theorem Cluster.ackOne_canon (c : Cluster) (s : Nat) (k_c : c.canon) : (c.ackOne s).canon :=
  by simp (maxDischargeDepth := 40) +contextual [Cluster.ackOne, *]
@[simp] theorem Cluster.ackOne_ident (c : Cluster) (s : Nat) : (c.ackOne s).ident = c.ident :=
  by simp (maxDischargeDepth := 40) +contextual [Cluster.ackOne, *]
@[simp] theorem quietExpiryC_canon (c : Cluster) (k_c : c.canon) : (quietExpiryC c).canon :=
  by simp (maxDischargeDepth := 40) +contextual [quietExpiryC, *]
@[simp] theorem quietExpiryC_ident (c : Cluster) : (quietExpiryC c).ident = c.ident :=
  by simp (maxDischargeDepth := 40) +contextual [quietExpiryC, *]
@[simp] theorem Cluster.ack_canon (c : Cluster) (v : Nat) (k_c : c.canon) : (c.ack v).canon :=
  by simp (maxDischargeDepth := 40) +contextual [Cluster.ack, *]
@[simp] theorem Cluster.ack_ident (c : Cluster) (v : Nat) : (c.ack v).ident = c.ident :=
  by simp (maxDischargeDepth := 40) +contextual [Cluster.ack, *]
@[simp] theorem acknowledgeC_canon (c : Cluster) (v : Nat) (k_c : c.canon) : (acknowledgeC c v).canon :=
  by simp (maxDischargeDepth := 40) +contextual [acknowledgeC, *]
@[simp] theorem acknowledgeC_ident (c : Cluster) (v : Nat) : (acknowledgeC c v).ident = c.ident :=
  by simp (maxDischargeDepth := 40) +contextual [acknowledgeC, *]
@[simp] theorem clearFirstC_canon (c : Cluster) (k_c : c.canon) : (clearFirstC c).canon :=
  by simp (maxDischargeDepth := 40) +contextual [clearFirstC, *]
@[simp] theorem clearFirstC_ident (c : Cluster) : (clearFirstC c).ident = c.ident :=
  by simp (maxDischargeDepth := 40) +contextual [clearFirstC, *]
@[simp] theorem Cluster.forceCol_canon (c : Cluster) (src : Nat) (i : SrcInfo) (k_c : c.canon) : (c.forceCol src i).canon :=
  by simp (maxDischargeDepth := 40) +contextual [Cluster.forceCol, *]
@[simp] theorem Cluster.forceCol_ident (c : Cluster) (src : Nat) (i : SrcInfo) : (c.forceCol src i).ident = c.ident :=
  by simp (maxDischargeDepth := 40) +contextual [Cluster.forceCol, *]
@[simp] theorem Cluster.arm_canon (c : Cluster) (src : Nat) (k_c : c.canon) : (c.arm src).canon :=
  by simp (maxDischargeDepth := 40) +contextual [Cluster.arm, *]
@[simp] theorem Cluster.arm_ident (c : Cluster) (src : Nat) : (c.arm src).ident = c.ident :=
  by simp (maxDischargeDepth := 40) +contextual [Cluster.arm, *]
@[simp] theorem Cluster.force_canon (c : Cluster) (src : Nat) (k_c : c.canon) : (c.force src).canon :=
  by unfold Cluster.force; (repeat' (first | split | intro _)) <;> simp (maxDischargeDepth := 40) +contextual [*]
@[simp] theorem Cluster.force_ident (c : Cluster) (src : Nat) : (c.force src).ident = c.ident :=
  by unfold Cluster.force; (repeat' (first | split | intro _)) <;> simp (maxDischargeDepth := 40) +contextual [*]
@[simp] theorem forceFaultC_canon (c : Cluster) (src : Nat) (g : Grants) (k_c : c.canon) : (forceFaultC c src g).canon :=
  by simp (maxDischargeDepth := 40) +contextual [forceFaultC, *]
@[simp] theorem forceFaultC_ident (c : Cluster) (src : Nat) (g : Grants) : (forceFaultC c src g).ident = c.ident :=
  by simp (maxDischargeDepth := 40) +contextual [forceFaultC, *]
@[simp] theorem forceDisarmC_canon (c : Cluster) (src : Nat) (g : Grants) (k_c : c.canon) : (forceDisarmC c src g).canon :=
  by simp (maxDischargeDepth := 40) +contextual [forceDisarmC, *]
@[simp] theorem forceDisarmC_ident (c : Cluster) (src : Nat) (g : Grants) : (forceDisarmC c src g).ident = c.ident :=
  by simp (maxDischargeDepth := 40) +contextual [forceDisarmC, *]
@[simp] theorem Cluster.setWitThr_canon (c : Cluster) (v : Nat) (k_c : c.canon) : (c.setWitThr v).canon :=
  by simp (maxDischargeDepth := 40) +contextual [Cluster.setWitThr, *]
@[simp] theorem Cluster.setWitThr_ident (c : Cluster) (v : Nat) : (c.setWitThr v).ident = c.ident :=
  by simp (maxDischargeDepth := 40) +contextual [Cluster.setWitThr, *]
@[simp] theorem Cluster.setStopThr_canon (c : Cluster) (v : Nat) (k_c : c.canon) : (c.setStopThr v).canon :=
  by simp (maxDischargeDepth := 40) +contextual [Cluster.setStopThr, *]
@[simp] theorem Cluster.setStopThr_ident (c : Cluster) (v : Nat) : (c.setStopThr v).ident = c.ident :=
  by simp (maxDischargeDepth := 40) +contextual [Cluster.setStopThr, *]
@[simp] theorem Cluster.setBankThr_canon (c : Cluster) (v : Nat) (k_c : c.canon) : (c.setBankThr v).canon :=
  by simp (maxDischargeDepth := 40) +contextual [Cluster.setBankThr, *]
@[simp] theorem Cluster.setBankThr_ident (c : Cluster) (v : Nat) : (c.setBankThr v).ident = c.ident :=
  by simp (maxDischargeDepth := 40) +contextual [Cluster.setBankThr, *]
@[simp] theorem fenceThresholdWriteC_canon (c : Cluster) (which : FenceKind) (v : Nat) (k_c : c.canon) : (fenceThresholdWriteC c which v).canon :=
  by unfold fenceThresholdWriteC; (repeat' (first | split | intro _)) <;> simp (maxDischargeDepth := 40) +contextual [*]
@[simp] theorem fenceThresholdWriteC_ident (c : Cluster) (which : FenceKind) (v : Nat) : (fenceThresholdWriteC c which v).ident = c.ident :=
  by unfold fenceThresholdWriteC; (repeat' (first | split | intro _)) <;> simp (maxDischargeDepth := 40) +contextual [*]
@[simp] theorem Cluster.setBankMask_canon (c : Cluster) (k : Nat) (v : Nat) (k_c : c.canon) : (c.setBankMask k v).canon :=
  by simp (maxDischargeDepth := 40) +contextual [Cluster.setBankMask, *]
@[simp] theorem Cluster.setBankMask_ident (c : Cluster) (k : Nat) (v : Nat) : (c.setBankMask k v).ident = c.ident :=
  by simp (maxDischargeDepth := 40) +contextual [Cluster.setBankMask, *]
@[simp] theorem bankFenceMaskWriteC_canon (c : Cluster) (k : Nat) (v : W64) (g : Grants) (k_c : c.canon) : (bankFenceMaskWriteC c k v g).canon :=
  by simp (maxDischargeDepth := 40) +contextual [bankFenceMaskWriteC, *]
@[simp] theorem bankFenceMaskWriteC_ident (c : Cluster) (k : Nat) (v : W64) (g : Grants) : (bankFenceMaskWriteC c k v g).ident = c.ident :=
  by simp (maxDischargeDepth := 40) +contextual [bankFenceMaskWriteC, *]
@[simp] theorem Cluster.setCoreMask_canon (c : Cluster) (v : Nat) (k_c : c.canon) : (c.setCoreMask v).canon :=
  by simp (maxDischargeDepth := 40) +contextual [Cluster.setCoreMask, *]
@[simp] theorem Cluster.setCoreMask_ident (c : Cluster) (v : Nat) : (c.setCoreMask v).ident = c.ident :=
  by simp (maxDischargeDepth := 40) +contextual [Cluster.setCoreMask, *]
@[simp] theorem coreFenceMaskWriteC_canon (c : Cluster) (v : Byte) (g : Grants) (k_c : c.canon) : (coreFenceMaskWriteC c v g).canon :=
  by simp (maxDischargeDepth := 40) +contextual [coreFenceMaskWriteC, *]
@[simp] theorem coreFenceMaskWriteC_ident (c : Cluster) (v : Byte) (g : Grants) : (coreFenceMaskWriteC c v g).ident = c.ident :=
  by simp (maxDischargeDepth := 40) +contextual [coreFenceMaskWriteC, *]
@[simp] theorem Cluster.setBadCols_canon (c : Cluster) (a : Nat) (v : Nat) (k_c : c.canon) : (c.setBadCols a v).canon :=
  by simp (maxDischargeDepth := 40) +contextual [Cluster.setBadCols, *]
@[simp] theorem Cluster.setBadCols_ident (c : Cluster) (a : Nat) (v : Nat) : (c.setBadCols a v).ident = c.ident :=
  by simp (maxDischargeDepth := 40) +contextual [Cluster.setBadCols, *]
@[simp] theorem badColumnMapWriteC_canon (c : Cluster) (a : Nat) (v : W64) (g : Grants) (k_c : c.canon) : (badColumnMapWriteC c a v g).canon :=
  by simp (maxDischargeDepth := 40) +contextual [badColumnMapWriteC, *]
@[simp] theorem badColumnMapWriteC_ident (c : Cluster) (a : Nat) (v : W64) (g : Grants) : (badColumnMapWriteC c a v g).ident = c.ident :=
  by simp (maxDischargeDepth := 40) +contextual [badColumnMapWriteC, *]
@[simp] theorem budgetWriteC_canon (c : Cluster) (v : W16) (k_c : c.canon) : (budgetWriteC c v).canon :=
  by simp (maxDischargeDepth := 40) +contextual [budgetWriteC, *]
@[simp] theorem budgetWriteC_ident (c : Cluster) (v : W16) : (budgetWriteC c v).ident = c.ident :=
  by simp (maxDischargeDepth := 40) +contextual [budgetWriteC, *]
@[simp] theorem throttleFloorWriteC_canon (c : Cluster) (v : Byte) (k_c : c.canon) : (throttleFloorWriteC c v).canon :=
  by simp (maxDischargeDepth := 40) +contextual [throttleFloorWriteC, *]
@[simp] theorem throttleFloorWriteC_ident (c : Cluster) (v : Byte) : (throttleFloorWriteC c v).ident = c.ident :=
  by simp (maxDischargeDepth := 40) +contextual [throttleFloorWriteC, *]
@[simp] theorem scrubIntervalWriteC_canon (c : Cluster) (v : W32) (k_c : c.canon) : (scrubIntervalWriteC c v).canon :=
  by simp (maxDischargeDepth := 40) +contextual [scrubIntervalWriteC, *]
@[simp] theorem scrubIntervalWriteC_ident (c : Cluster) (v : W32) : (scrubIntervalWriteC c v).ident = c.ident :=
  by simp (maxDischargeDepth := 40) +contextual [scrubIntervalWriteC, *]
@[simp] theorem dispatchCancelC_canon (c : Cluster) (lid : W16) (k_c : c.canon) : (dispatchCancelC c lid).canon :=
  by simp (maxDischargeDepth := 40) +contextual [dispatchCancelC, *]
@[simp] theorem dispatchCancelC_ident (c : Cluster) (lid : W16) : (dispatchCancelC c lid).ident = c.ident :=
  Cluster.written_ident _ _ _ _ _ (fun _ _ => rfl)
@[simp] theorem Cluster.askReset_canon (c : Cluster) (sorus : Bool) (k : Nat) (k_c : c.canon) : (c.askReset sorus k).canon :=
  by simp (maxDischargeDepth := 40) +contextual [Cluster.askReset, *]
@[simp] theorem Cluster.askReset_ident (c : Cluster) (sorus : Bool) (k : Nat) : (c.askReset sorus k).ident = c.ident :=
  by simp (maxDischargeDepth := 40) +contextual [Cluster.askReset, *]
@[simp] theorem ringResetC_canon (c : Cluster) (v : W16) (k_c : c.canon) : (ringResetC c v).canon :=
  by simp (maxDischargeDepth := 40) +contextual [ringResetC, *]
@[simp] theorem ringResetC_ident (c : Cluster) (v : W16) : (ringResetC c v).ident = c.ident :=
  by simp (maxDischargeDepth := 40) +contextual [ringResetC, *]
@[simp] theorem sorusResetC_canon (c : Cluster) (v : W16) (k_c : c.canon) : (sorusResetC c v).canon :=
  by simp (maxDischargeDepth := 40) +contextual [sorusResetC, *]
@[simp] theorem sorusResetC_ident (c : Cluster) (v : W16) : (sorusResetC c v).ident = c.ident :=
  by simp (maxDischargeDepth := 40) +contextual [sorusResetC, *]
@[simp] theorem parkAbortC_canon (c : Cluster) (ch : Nat) (k_c : c.canon) : (parkAbortC c ch).canon :=
  by simp (maxDischargeDepth := 40) +contextual [parkAbortC, *]
@[simp] theorem parkAbortC_ident (c : Cluster) (ch : Nat) : (parkAbortC c ch).ident = c.ident :=
  by simp (maxDischargeDepth := 40) +contextual [parkAbortC, *]
@[simp] theorem windowCommitC_canon (c : Cluster) (w : Nat) (v : W64) (k_c : c.canon) : (windowCommitC c w v).canon :=
  by simp (maxDischargeDepth := 40) +contextual [windowCommitC, *]
@[simp] theorem windowCommitC_ident (c : Cluster) (w : Nat) (v : W64) : (windowCommitC c w v).ident = c.ident :=
  by simp (maxDischargeDepth := 40) +contextual [windowCommitC, *]
@[simp] theorem haltRequestC_canon (c : Cluster) (g : Grants) (k_c : c.canon) : (haltRequestC c g).canon :=
  by simp (maxDischargeDepth := 40) +contextual [haltRequestC, *]
@[simp] theorem haltRequestC_ident (c : Cluster) (g : Grants) : (haltRequestC c g).ident = c.ident :=
  Cluster.writtenD_ident _ _ _ _ _ _ (fun _ _ => rfl)
@[simp] theorem haltReleaseC_canon (c : Cluster) (g : Grants) (k_c : c.canon) : (haltReleaseC c g).canon :=
  by simp (maxDischargeDepth := 40) +contextual [haltReleaseC, *]
@[simp] theorem haltReleaseC_ident (c : Cluster) (g : Grants) : (haltReleaseC c g).ident = c.ident :=
  by simp (maxDischargeDepth := 40) +contextual [haltReleaseC, *]
@[simp] theorem Cluster.stepFor_canon (c : Cluster) (n : Nat) (k_c : c.canon) : (c.stepFor n).canon :=
  by simp (maxDischargeDepth := 40) +contextual [Cluster.stepFor, *]
@[simp] theorem Cluster.stepFor_ident (c : Cluster) (n : Nat) : (c.stepFor n).ident = c.ident :=
  by simp (maxDischargeDepth := 40) +contextual [Cluster.stepFor, *]
@[simp] theorem stepHaltedC_canon (c : Cluster) (n : W32) (g : Grants) (k_c : c.canon) : (stepHaltedC c n g).canon :=
  by simp (maxDischargeDepth := 40) +contextual [stepHaltedC, *]
@[simp] theorem stepHaltedC_ident (c : Cluster) (n : W32) (g : Grants) : (stepHaltedC c n g).ident = c.ident :=
  by simp (maxDischargeDepth := 40) +contextual [stepHaltedC, *]
@[simp] theorem debugGrantWithdrawC_canon (c : Cluster) (k_c : c.canon) : (debugGrantWithdrawC c).canon :=
  by simp (maxDischargeDepth := 40) +contextual [debugGrantWithdrawC, *]
@[simp] theorem debugGrantWithdrawC_ident (c : Cluster) : (debugGrantWithdrawC c).ident = c.ident :=
  by simp (maxDischargeDepth := 40) +contextual [debugGrantWithdrawC, *]

end Sys2Proof.Machine
end

