-- ==== Sys2Proof/Laws/CanonSched.lean ====
section
/-! SUPPORT. Every operation of Machine/Sched.lean keeps the canonical form of the stores and the identity of the cluster. -/

namespace Sys2Proof.Machine

@[simp] theorem Cluster.dispLog_canon (c : Cluster) (code : Nat) (lid : Nat) (k_c : c.canon) : (c.dispLog code lid).canon :=
  by simp (maxDischargeDepth := 40) +contextual [Cluster.dispLog, *]
@[simp] theorem Cluster.dispLog_ident (c : Cluster) (code : Nat) (lid : Nat) : (c.dispLog code lid).ident = c.ident :=
  by simp (maxDischargeDepth := 40) +contextual [Cluster.dispLog, *]
@[simp] theorem dispatchSubmitC_canon (c : Cluster) (k_c : c.canon) : (dispatchSubmitC c).canon :=
  by simp (maxDischargeDepth := 40) +contextual [dispatchSubmitC, *]
@[simp] theorem dispatchSubmitC_ident (c : Cluster) : (dispatchSubmitC c).ident = c.ident :=
  by simp (maxDischargeDepth := 40) +contextual [dispatchSubmitC, *]
@[simp] theorem stopRequestC_canon (c : Cluster) (k_c : c.canon) : (stopRequestC c).canon :=
  by unfold stopRequestC; (repeat' (first | split | intro _)) <;> simp (maxDischargeDepth := 40) +contextual [*]
@[simp] theorem stopRequestC_ident (c : Cluster) : (stopRequestC c).ident = c.ident :=
  by unfold stopRequestC; (repeat' (first | split | intro _)) <;> simp (maxDischargeDepth := 40) +contextual [*]
@[simp] theorem teardownRequestC_canon (c : Cluster) (k : Nat) (k_c : c.canon) : (teardownRequestC c k).canon :=
  by simp (maxDischargeDepth := 40) +contextual [teardownRequestC, *]
@[simp] theorem teardownRequestC_ident (c : Cluster) (k : Nat) : (teardownRequestC c k).ident = c.ident :=
  by simp (maxDischargeDepth := 40) +contextual [teardownRequestC, *]
@[simp] theorem rearmC_canon (c : Cluster) (k : Nat) (k_c : c.canon) : (rearmC c k).canon :=
  by simp (maxDischargeDepth := 40) +contextual [rearmC, *]
@[simp] theorem rearmC_ident (c : Cluster) (k : Nat) : (rearmC c k).ident = c.ident :=
  by simp (maxDischargeDepth := 40) +contextual [rearmC, *]
@[simp] theorem snapshotC_canon (c : Cluster) (k : Nat) (k_c : c.canon) : (snapshotC c k).canon :=
  by simp (maxDischargeDepth := 40) +contextual [snapshotC, *]
@[simp] theorem snapshotC_ident (c : Cluster) (k : Nat) : (snapshotC c k).ident = c.ident :=
  by simp (maxDischargeDepth := 40) +contextual [snapshotC, *]
@[simp] theorem Cluster.bindCtx_canon (c : Cluster) (d : List Byte) (again : Bool) (tbat : W64) (i : Nat) (k : Nat) (k_c : c.canon) : (c.bindCtx d again tbat i k).canon :=
  by simp (maxDischargeDepth := 40) +contextual [Cluster.bindCtx, *]
@[simp] theorem Cluster.bindCtx_ident (c : Cluster) (d : List Byte) (again : Bool) (tbat : W64) (i : Nat) (k : Nat) : (c.bindCtx d again tbat i k).ident = c.ident :=
  by simp (maxDischargeDepth := 40) +contextual [Cluster.bindCtx, *]
@[simp] theorem Cluster.loadCore_canon (c : Cluster) (n : Nat) (imem : Bool) (first : Nat) (bs : List Byte) (k_c : c.canon) : (c.loadCore n imem first bs).canon :=
  by simp (maxDischargeDepth := 40) +contextual [Cluster.loadCore, *]
@[simp] theorem Cluster.loadCore_ident (c : Cluster) (n : Nat) (imem : Bool) (first : Nat) (bs : List Byte) : (c.loadCore n imem first bs).ident = c.ident :=
  by simp (maxDischargeDepth := 40) +contextual [Cluster.loadCore, *]
@[simp] theorem Cluster.reloadSec_canon (c : Cluster) (slot : Nat) (n : Nat) (d : DirEnt) (k_c : c.canon) : (c.reloadSec slot n d).canon :=
  by unfold Cluster.reloadSec; dsimp only; (repeat' split) <;> simp (maxDischargeDepth := 40) +contextual [*]
@[simp] theorem Cluster.reloadSec_ident (c : Cluster) (slot : Nat) (n : Nat) (d : DirEnt) : (c.reloadSec slot n d).ident = c.ident :=
  by unfold Cluster.reloadSec; dsimp only; (repeat' split) <;> simp (maxDischargeDepth := 40) +contextual [*]
@[simp] theorem Cluster.reloadFrom_canon (c : Cluster) (n : Nat) (slot : Nat) (im : Img) (k_c : c.canon) : (c.reloadFrom n slot im).canon :=
  by simp (maxDischargeDepth := 40) +contextual [Cluster.reloadFrom, *]
@[simp] theorem Cluster.reloadFrom_ident (c : Cluster) (n : Nat) (slot : Nat) (im : Img) : (c.reloadFrom n slot im).ident = c.ident :=
  by simp (maxDischargeDepth := 40) +contextual [Cluster.reloadFrom, *]
@[simp] theorem Cluster.reload_canon (c : Cluster) (n : Nat) (k_c : c.canon) : (c.reload n).canon :=
  by
  unfold Cluster.reload
  dsimp only
  split
  · exact k_c
  · refine Cluster.setCore_canon _ _ _ (Cluster.each_canon _ _ k_c (fun d x h => ?_))
    split
    · exact h
    · exact Cluster.reloadFrom_canon _ _ _ _ h
@[simp] theorem Cluster.reload_ident (c : Cluster) (n : Nat) : (c.reload n).ident = c.ident :=
  by
  unfold Cluster.reload
  dsimp only
  split
  · rfl
  · refine (Cluster.setCore_ident _ _ _).trans (Cluster.each_ident _ _ _ (fun d x => ?_))
    split
    · rfl
    · exact Cluster.reloadFrom_ident _ _ _ _
@[simp] theorem Cluster.startCore_canon (c : Cluster) (im : Img) (d : List Byte) (again : Bool) (cur : Nat) (n : Nat) (k_c : c.canon) : (c.startCore im d again cur n).canon :=
  by unfold Cluster.startCore; dsimp only; (repeat' split) <;> simp (maxDischargeDepth := 40) +contextual [*]
@[simp] theorem Cluster.startCore_ident (c : Cluster) (im : Img) (d : List Byte) (again : Bool) (cur : Nat) (n : Nat) : (c.startCore im d again cur n).ident = c.ident :=
  by unfold Cluster.startCore; (repeat' (first | split | intro _)) <;> simp (maxDischargeDepth := 40) +contextual [*]
@[simp] theorem Cluster.runRegs_canon (c : Cluster) (again : Bool) (prio : Nat) (now : Bool) (lid : Nat) (k_c : c.canon) : (c.runRegs again prio now lid).canon :=
  by simp (maxDischargeDepth := 40) +contextual [Cluster.runRegs, *]
@[simp] theorem Cluster.runRegs_ident (c : Cluster) (again : Bool) (prio : Nat) (now : Bool) (lid : Nat) : (c.runRegs again prio now lid).ident = c.ident :=
  by simp (maxDischargeDepth := 40) +contextual [Cluster.runRegs, *]
@[simp] theorem Cluster.openQueues_canon (c : Cluster) (d : List Byte) (k_c : c.canon) : (c.openQueues d).canon :=
  by simp (maxDischargeDepth := 40) +contextual [Cluster.openQueues, *]
@[simp] theorem Cluster.openQueues_ident (c : Cluster) (d : List Byte) : (c.openQueues d).ident = c.ident :=
  by simp (maxDischargeDepth := 40) +contextual [Cluster.openQueues, *]
@[simp] theorem Cluster.beginRun_canon (c : Cluster) (im : Img) (l : LinEnt) (r : Run) (k_c : c.canon) : (c.beginRun im l r).canon :=
  by simp (maxDischargeDepth := 40) +contextual [Cluster.beginRun, *]
@[simp] theorem Cluster.beginRun_ident (c : Cluster) (im : Img) (l : LinEnt) (r : Run) : (c.beginRun im l r).ident = c.ident :=
  by simp (maxDischargeDepth := 40) +contextual [Cluster.beginRun, *]
@[simp] theorem Cluster.dispatchLid_canon (c : Cluster) (lid : Nat) (f : LinEnt → List MacroOp → Nat → Run) (k_c : c.canon) : (c.dispatchLid lid f).canon :=
  by unfold Cluster.dispatchLid; dsimp only; (repeat' split) <;> simp (maxDischargeDepth := 40) +contextual [*]
@[simp] theorem Cluster.dispatchLid_ident (c : Cluster) (lid : Nat) (f : LinEnt → List MacroOp → Nat → Run) : (c.dispatchLid lid f).ident = c.ident :=
  by unfold Cluster.dispatchLid; dsimp only; (repeat' split) <;> simp (maxDischargeDepth := 40) +contextual [*]
@[simp] theorem Cluster.advanceReq_canon (c : Cluster) (q : Req) (k_c : c.canon) : (c.advanceReq q).canon :=
  by simp (maxDischargeDepth := 40) +contextual [Cluster.advanceReq, *]
@[simp] theorem Cluster.advanceReq_ident (c : Cluster) (q : Req) : (c.advanceReq q).ident = c.ident :=
  by simp (maxDischargeDepth := 40) +contextual [Cluster.advanceReq, *]
@[simp] theorem Cluster.dispatchReq_canon (c : Cluster) (q : Req) (k_c : c.canon) : (c.dispatchReq q).canon :=
  by simp (maxDischargeDepth := 40) +contextual [Cluster.dispatchReq, *]
@[simp] theorem Cluster.dispatchReq_ident (c : Cluster) (q : Req) : (c.dispatchReq q).ident = c.ident :=
  by simp (maxDischargeDepth := 40) +contextual [Cluster.dispatchReq, *]
@[simp] theorem Cluster.scalarSave_canon (c : Cluster) (n : Nat) (k_c : c.canon) : (c.scalarSave n).2.canon :=
  by simp (maxDischargeDepth := 40) +contextual [Cluster.scalarSave, *]
@[simp] theorem Cluster.scalarSave_ident (c : Cluster) (n : Nat) : (c.scalarSave n).2.ident = c.ident :=
  by simp (maxDischargeDepth := 40) +contextual [Cluster.scalarSave, *]
@[simp] theorem Cluster.coreSave_canon (live : List Byte) (p : List (List Byte) × Cluster) (n : Nat) (k_p : p.2.canon) : (Cluster.coreSave live p n).2.canon :=
  by unfold Cluster.coreSave; dsimp only; (repeat' split) <;> simp (maxDischargeDepth := 40) +contextual [*]
@[simp] theorem Cluster.coreSave_ident (live : List Byte) (p : List (List Byte) × Cluster) (n : Nat) : (Cluster.coreSave live p n).2.ident = p.2.ident :=
  by unfold Cluster.coreSave; dsimp only; (repeat' split) <;> simp (maxDischargeDepth := 40) +contextual [*]
@[simp] theorem Cluster.writeSections_canon (c : Cluster) (a : Nat) (y2 : List (List Byte)) (k_c : c.canon)  : (c.writeSections a y2).canon :=
  by
  induction y2 generalizing c a with
  | nil => exact k_c
  | cons s ss ih =>
    unfold Cluster.writeSections
    apply ih
    simp [k_c]
@[simp] theorem Cluster.writeSections_ident (c : Cluster) (a : Nat) (y2 : List (List Byte))  : (c.writeSections a y2).ident = c.ident :=
  by
  induction y2 generalizing c a with
  | nil => rfl
  | cons s ss ih =>
    unfold Cluster.writeSections
    rw [ih]
    simp
@[simp] theorem Cluster.saveWord_canon (k : Nat) (p : List Byte × Cluster) (w : Nat) (k_p : p.2.canon) : (Cluster.saveWord k p w).2.canon :=
  by simp (maxDischargeDepth := 40) +contextual [Cluster.saveWord, *]
@[simp] theorem Cluster.saveWord_ident (k : Nat) (p : List Byte × Cluster) (w : Nat) : (Cluster.saveWord k p w).2.ident = p.2.ident :=
  by simp (maxDischargeDepth := 40) +contextual [Cluster.saveWord, *]
@[simp] theorem Cluster.syncSave_canon (c : Cluster) (k : Nat) (words : List Nat) (k_c : c.canon) : (c.syncSave k words).2.canon :=
  by simp (maxDischargeDepth := 40) +contextual [Cluster.syncSave, *]
@[simp] theorem Cluster.syncSave_ident (c : Cluster) (k : Nat) (words : List Nat) : (c.syncSave k words).2.ident = c.ident :=
  by simp (maxDischargeDepth := 40) +contextual [Cluster.syncSave, *]
@[simp] theorem Cluster.writeSave_canon (c : Cluster) (d : List Byte) (live : List Byte) (r : Run) (tp : Nat) (idx : Nat) (k_c : c.canon) : (c.writeSave d live r tp idx).canon :=
  by simp (maxDischargeDepth := 40) +contextual [Cluster.writeSave, *]
@[simp] theorem Cluster.writeSave_ident (c : Cluster) (d : List Byte) (live : List Byte) (r : Run) (tp : Nat) (idx : Nat) : (c.writeSave d live r tp idx).ident = c.ident :=
  by simp (maxDischargeDepth := 40) +contextual [Cluster.writeSave, *]
@[simp] theorem Cluster.liveEntry_canon (c : Cluster) (l : LinEnt) (idx : Nat) (k_c : c.canon) : (c.liveEntry l idx).2.canon :=
  by simp (maxDischargeDepth := 40) +contextual [Cluster.liveEntry, *]
@[simp] theorem Cluster.liveEntry_ident (c : Cluster) (l : LinEnt) (idx : Nat) : (c.liveEntry l idx).2.ident = c.ident :=
  by simp (maxDischargeDepth := 40) +contextual [Cluster.liveEntry, *]
@[simp] theorem Cluster.suspend_canon (c : Cluster) (r : Run) (tp : Nat) (idx : Nat) (k_c : c.canon) : (c.suspend r tp idx).canon :=
  by simp (maxDischargeDepth := 40) +contextual [Cluster.suspend, *]
@[simp] theorem Cluster.suspend_ident (c : Cluster) (r : Run) (tp : Nat) (idx : Nat) : (c.suspend r tp idx).ident = c.ident :=
  by simp (maxDischargeDepth := 40) +contextual [Cluster.suspend, *]
@[simp] theorem Cluster.takeAll_canon (c : Cluster) (k_c : c.canon) : c.takeAll.canon :=
  by simp (maxDischargeDepth := 40) +contextual [Cluster.takeAll, *]
@[simp] theorem Cluster.takeAll_ident (c : Cluster) : c.takeAll.ident = c.ident :=
  by simp (maxDischargeDepth := 40) +contextual [Cluster.takeAll, *]
@[simp] theorem Cluster.doSave_canon (c : Cluster) (r : Run) (l : LinEnt) (tp : Nat) (idx : Nat) (k_c : c.canon) : (c.doSave r l tp idx).canon :=
  by unfold Cluster.doSave; dsimp only; (repeat' split) <;> simp (maxDischargeDepth := 40) +contextual [*]
@[simp] theorem Cluster.doSave_ident (c : Cluster) (r : Run) (l : LinEnt) (tp : Nat) (idx : Nat) : (c.doSave r l tp idx).ident = c.ident :=
  by unfold Cluster.doSave; dsimp only; (repeat' split) <;> simp (maxDischargeDepth := 40) +contextual [*]
@[simp] theorem saveCompleteC_canon (c : Cluster) (k_c : c.canon) : (saveCompleteC c).canon :=
  by unfold saveCompleteC; (repeat' (first | split | intro _)) <;> simp (maxDischargeDepth := 40) +contextual [*]
@[simp] theorem saveCompleteC_ident (c : Cluster) : (saveCompleteC c).ident = c.ident :=
  by unfold saveCompleteC; (repeat' (first | split | intro _)) <;> simp (maxDischargeDepth := 40) +contextual [*]
@[simp] theorem Cluster.clearArrays_canon (c : Cluster) (k_c : c.canon) : c.clearArrays.canon :=
  by
  unfold Cluster.clearArrays
  refine (Cluster.each_canon _ _ ?_ (fun d x h => Cluster.each_canon _ _ h (fun e y k => Cluster.tileRelease_canon _ _ _ k)))
  have hs := wf_mapNonzero (fun v : BitVec 96 => setFld v 31 0 0) (lo := 0) k_c.side
  simp only [canon_mk, Sparse.wf_nil, k_c.mem, k_c.memErr, k_c.imem, k_c.imemErr, k_c.dmem, k_c.dmemErr, k_c.sbuf, k_c.xlat, k_c.rdesc, k_c.prod, k_c.cons, k_c.sdesc0, k_c.sdesc1, k_c.scount, k_c.sround, k_c.reg, k_c.dict, k_c.tabErr, true_and, and_true]
  exact hs
@[simp] theorem Cluster.clearArrays_ident (c : Cluster) : c.clearArrays.ident = c.ident :=
  by simp (maxDischargeDepth := 40) +contextual [Cluster.clearArrays, *]
@[simp] theorem Cluster.tileRestore_canon (c : Cluster) (n : Nat) (t : Nat) (a : Nat) (k_c : c.canon) : (c.tileRestore n t a).1.canon :=
  by unfold Cluster.tileRestore; dsimp only; (repeat' split) <;> simp (maxDischargeDepth := 40) +contextual [*]
@[simp] theorem Cluster.tileRestore_ident (c : Cluster) (n : Nat) (t : Nat) (a : Nat) : (c.tileRestore n t a).1.ident = c.ident :=
  by unfold Cluster.tileRestore; dsimp only; (repeat' split) <;> simp (maxDischargeDepth := 40) +contextual [*]
@[simp] theorem Cluster.scalarRestore_canon (c : Cluster) (n : Nat) (a : Nat) (pc : Nat) (k_c : c.canon) : (c.scalarRestore n a pc).canon :=
  by simp (maxDischargeDepth := 40) +contextual [Cluster.scalarRestore, *]
@[simp] theorem Cluster.scalarRestore_ident (c : Cluster) (n : Nat) (a : Nat) (pc : Nat) : (c.scalarRestore n a pc).ident = c.ident :=
  by simp (maxDischargeDepth := 40) +contextual [Cluster.scalarRestore, *]
@[simp] theorem Cluster.tilesRestore_canon (c : Cluster) (n : Nat) (y2 : List Nat) (y3 : Nat) (y4 : List (Nat × Nat)) (k_c : c.canon)  : (c.tilesRestore n y2 y3 y4).1.canon :=
  by
  induction y2 generalizing c y3 y4 with
  | nil => exact k_c
  | cons s ss ih =>
    unfold Cluster.tilesRestore
    apply ih
    simp [k_c]
@[simp] theorem Cluster.tilesRestore_ident (c : Cluster) (n : Nat) (y2 : List Nat) (y3 : Nat) (y4 : List (Nat × Nat))  : (c.tilesRestore n y2 y3 y4).1.ident = c.ident :=
  by
  induction y2 generalizing c y3 y4 with
  | nil => rfl
  | cons s ss ih =>
    unfold Cluster.tilesRestore
    rw [ih]
    simp
@[simp] theorem Cluster.coreRestore_canon (c : Cluster) (live : List Byte) (n : Nat) (a : Nat) (k_c : c.canon) : (c.coreRestore live n a).1.canon :=
  by unfold Cluster.coreRestore; dsimp only; (repeat' split) <;> simp (maxDischargeDepth := 40) +contextual [*]
@[simp] theorem Cluster.coreRestore_ident (c : Cluster) (live : List Byte) (n : Nat) (a : Nat) : (c.coreRestore live n a).1.ident = c.ident :=
  by unfold Cluster.coreRestore; dsimp only; (repeat' split) <;> simp (maxDischargeDepth := 40) +contextual [*]
@[simp] theorem Cluster.walkRestore_canon (c : Cluster) (live : List Byte) (n : Nat) (k_c : c.canon) : (c.walkRestore live n).canon :=
  by simp (maxDischargeDepth := 40) +contextual [Cluster.walkRestore, *]
@[simp] theorem Cluster.walkRestore_ident (c : Cluster) (live : List Byte) (n : Nat) : (c.walkRestore live n).ident = c.ident :=
  by simp (maxDischargeDepth := 40) +contextual [Cluster.walkRestore, *]
@[simp] theorem Cluster.coresRestore_canon (c : Cluster) (live : List Byte) (y2 : List Nat) (y3 : Nat) (y4 : List (List (Nat × Nat) × Bool)) (k_c : c.canon)  : (c.coresRestore live y2 y3 y4).1.canon :=
  by
  induction y2 generalizing c y3 y4 with
  | nil => exact k_c
  | cons s ss ih =>
    unfold Cluster.coresRestore
    apply ih
    simp [k_c]
@[simp] theorem Cluster.coresRestore_ident (c : Cluster) (live : List Byte) (y2 : List Nat) (y3 : Nat) (y4 : List (List (Nat × Nat) × Bool))  : (c.coresRestore live y2 y3 y4).1.ident = c.ident :=
  by
  induction y2 generalizing c y3 y4 with
  | nil => rfl
  | cons s ss ih =>
    unfold Cluster.coresRestore
    rw [ih]
    simp
@[simp] theorem Cluster.syncRestore_canon (c : Cluster) (k : Nat) (words : List Nat) (a : Nat) (k_c : c.canon) : (c.syncRestore k words a).canon :=
  by simp (maxDischargeDepth := 40) +contextual [Cluster.syncRestore, *]
@[simp] theorem Cluster.syncRestore_ident (c : Cluster) (k : Nat) (words : List Nat) (a : Nat) : (c.syncRestore k words a).ident = c.ident :=
  by simp (maxDischargeDepth := 40) +contextual [Cluster.syncRestore, *]
@[simp] theorem Cluster.resumeQueues_canon (c : Cluster) (d : List Byte) (head : List Byte) (tp : Nat) (k_c : c.canon) : (c.resumeQueues d head tp).canon :=
  by simp (maxDischargeDepth := 40) +contextual [Cluster.resumeQueues, *]
@[simp] theorem Cluster.resumeQueues_ident (c : Cluster) (d : List Byte) (head : List Byte) (tp : Nat) : (c.resumeQueues d head tp).ident = c.ident :=
  by simp (maxDischargeDepth := 40) +contextual [Cluster.resumeQueues, *]
@[simp] theorem Cluster.resumeChans_canon (c : Cluster) (p : Susp) (k_c : c.canon) : (c.resumeChans p).canon :=
  by simp (maxDischargeDepth := 40) +contextual [Cluster.resumeChans, *]
@[simp] theorem Cluster.resumeChans_ident (c : Cluster) (p : Susp) : (c.resumeChans p).ident = c.ident :=
  by simp (maxDischargeDepth := 40) +contextual [Cluster.resumeChans, *]
@[simp] theorem Cluster.resumeRegs_canon (c : Cluster) (r : Run) (tb0 : W64) (k_c : c.canon) : (c.resumeRegs r tb0).canon :=
  by simp (maxDischargeDepth := 40) +contextual [Cluster.resumeRegs, *]
@[simp] theorem Cluster.resumeRegs_ident (c : Cluster) (r : Run) (tb0 : W64) : (c.resumeRegs r tb0).ident = c.ident :=
  by simp (maxDischargeDepth := 40) +contextual [Cluster.resumeRegs, *]
@[simp] theorem Cluster.restoreRun_canon (c : Cluster) (p : Susp) (l : LinEnt) (im : Img) (live : List Byte) (h : List Byte) (k_c : c.canon) : (c.restoreRun p l im live h).canon :=
  by simp (maxDischargeDepth := 40) +contextual [Cluster.restoreRun, *]
@[simp] theorem Cluster.restoreRun_ident (c : Cluster) (p : Susp) (l : LinEnt) (im : Img) (live : List Byte) (h : List Byte) : (c.restoreRun p l im live h).ident = c.ident :=
  by simp (maxDischargeDepth := 40) +contextual [Cluster.restoreRun, *]
@[simp] theorem Cluster.doResume_canon (c : Cluster) (p : Susp) (l : LinEnt) (im : Img) (live : List Byte) (k_c : c.canon) : (c.doResume p l im live).canon :=
  by unfold Cluster.doResume; dsimp only; (repeat' split) <;> simp (maxDischargeDepth := 40) +contextual [*]
@[simp] theorem Cluster.doResume_ident (c : Cluster) (p : Susp) (l : LinEnt) (im : Img) (live : List Byte) : (c.doResume p l im live).ident = c.ident :=
  by unfold Cluster.doResume; dsimp only; (repeat' split) <;> simp (maxDischargeDepth := 40) +contextual [*]
@[simp] theorem Cluster.dispatchResume_canon (c : Cluster) (p : Susp) (k_c : c.canon) : (c.dispatchResume p).canon :=
  by unfold Cluster.dispatchResume; dsimp only; (repeat' split) <;> simp (maxDischargeDepth := 40) +contextual [*]
@[simp] theorem Cluster.dispatchResume_ident (c : Cluster) (p : Susp) : (c.dispatchResume p).ident = c.ident :=
  by unfold Cluster.dispatchResume; dsimp only; (repeat' split) <;> simp (maxDischargeDepth := 40) +contextual [*]
@[simp] theorem Cluster.dispatchAgain_canon (c : Cluster) (lid : Nat) (prio : Nat) (tbat : W64) (now : Bool) (k_c : c.canon) : (c.dispatchAgain lid prio tbat now).canon :=
  by simp (maxDischargeDepth := 40) +contextual [Cluster.dispatchAgain, *]
@[simp] theorem Cluster.dispatchAgain_ident (c : Cluster) (lid : Nat) (prio : Nat) (tbat : W64) (now : Bool) : (c.dispatchAgain lid prio tbat now).ident = c.ident :=
  by simp (maxDischargeDepth := 40) +contextual [Cluster.dispatchAgain, *]
@[simp] theorem dispatchC_canon (c : Cluster) (k_c : c.canon) : (dispatchC c).canon :=
  by unfold dispatchC; (repeat' (first | split | intro _)) <;> simp (maxDischargeDepth := 40) +contextual [*]
@[simp] theorem dispatchC_ident (c : Cluster) : (dispatchC c).ident = c.ident :=
  by unfold dispatchC; (repeat' (first | split | intro _)) <;> simp (maxDischargeDepth := 40) +contextual [*]
@[simp] theorem Cluster.skipPeriods_canon (c : Cluster) (r : Run) (tb0 : Nat) (k_c : c.canon) : (c.skipPeriods r tb0).canon :=
  by simp (maxDischargeDepth := 40) +contextual [Cluster.skipPeriods, *]
@[simp] theorem Cluster.skipPeriods_ident (c : Cluster) (r : Run) (tb0 : Nat) : (c.skipPeriods r tb0).ident = c.ident :=
  by simp (maxDischargeDepth := 40) +contextual [Cluster.skipPeriods, *]
@[simp] theorem Cluster.atLcc0_canon (c : Cluster) (r : Run) (k_c : c.canon) : (c.atLcc0 r).canon :=
  by simp (maxDischargeDepth := 40) +contextual [Cluster.atLcc0, *]
@[simp] theorem Cluster.atLcc0_ident (c : Cluster) (r : Run) : (c.atLcc0 r).ident = c.ident :=
  by simp (maxDischargeDepth := 40) +contextual [Cluster.atLcc0, *]
@[simp] theorem Cluster.beginCheck_canon (c : Cluster) (k_c : c.canon) : c.beginCheck.canon :=
  by unfold Cluster.beginCheck; (repeat' (first | split | intro _)) <;> simp (maxDischargeDepth := 40) +contextual [*]
@[simp] theorem Cluster.beginCheck_ident (c : Cluster) : c.beginCheck.ident = c.ident :=
  by unfold Cluster.beginCheck; (repeat' (first | split | intro _)) <;> simp (maxDischargeDepth := 40) +contextual [*]
@[simp] theorem Cluster.holdAtStart_canon (c : Cluster) (k_c : c.canon) : c.holdAtStart.canon :=
  by simp (maxDischargeDepth := 40) +contextual [Cluster.holdAtStart, *]
@[simp] theorem Cluster.holdAtStart_ident (c : Cluster) : c.holdAtStart.ident = c.ident :=
  by simp (maxDischargeDepth := 40) +contextual [Cluster.holdAtStart, *]
@[simp] theorem Cluster.enterSegs_canon (c : Cluster) (k_c : c.canon) : c.enterSegs.canon :=
  by unfold Cluster.enterSegs; (repeat' (first | split | intro _)) <;> simp (maxDischargeDepth := 40) +contextual [*]
@[simp] theorem Cluster.enterSegs_ident (c : Cluster) : c.enterSegs.ident = c.ident :=
  by unfold Cluster.enterSegs; (repeat' (first | split | intro _)) <;> simp (maxDischargeDepth := 40) +contextual [*]
@[simp] theorem launchC_canon (c : Cluster) (k_c : c.canon) : (launchC c).canon :=
  by
  unfold launchC
  have h : (c.popCtl.clearArrays.setReg (rClk + 0x10) 0).canon := by simp (maxDischargeDepth := 40) +contextual [k_c]
  generalize c.popCtl.clearArrays.setReg (rClk + 0x10) 0 = d at h
  dsimp only
  split <;> simp (maxDischargeDepth := 40) +contextual [*]
@[simp] theorem launchC_ident (c : Cluster) : (launchC c).ident = c.ident :=
  by
  unfold launchC
  have h : ∀ d : Cluster, d.ident = c.ident →
      ({ d with tim := { d.tim with running := true, lcc := 0 } } : Cluster).enterSegs.holdAtStart.beginCheck.ident = c.ident :=
    fun d hd => by simp (maxDischargeDepth := 40) +contextual [hd]
  split
  · exact h _ ((Cluster.setReg_ident _ _ _).trans ((Cluster.clearArrays_ident _).trans (Cluster.popCtl_ident _)))
  · rfl
@[simp] theorem Cluster.resumeGo_canon (c : Cluster) (k_c : c.canon) : c.resumeGo.canon :=
  by unfold Cluster.resumeGo; dsimp only; (repeat' split) <;> simp (maxDischargeDepth := 40) +contextual [*]
@[simp] theorem Cluster.resumeGo_ident (c : Cluster) : c.resumeGo.ident = c.ident :=
  by simp (maxDischargeDepth := 40) +contextual [Cluster.resumeGo, *]
@[simp] theorem Cluster.postBranch_canon (c : Cluster) (o : MacroOp) (alt : Nat) (k_c : c.canon) : (c.postBranch o alt).1.canon :=
  by unfold Cluster.postBranch; dsimp only; (repeat' split) <;> simp (maxDischargeDepth := 40) +contextual [*]
@[simp] theorem Cluster.postBranch_ident (c : Cluster) (o : MacroOp) (alt : Nat) : (c.postBranch o alt).1.ident = c.ident :=
  by unfold Cluster.postBranch; dsimp only; (repeat' split) <;> simp (maxDischargeDepth := 40) +contextual [*]
@[simp] theorem Cluster.openExit_canon (c : Cluster) (o : MacroOp) (k_c : c.canon) : (c.openExit o).canon :=
  by simp (maxDischargeDepth := 40) +contextual [Cluster.openExit, *]
@[simp] theorem Cluster.openExit_ident (c : Cluster) (o : MacroOp) : (c.openExit o).ident = c.ident :=
  by simp (maxDischargeDepth := 40) +contextual [Cluster.openExit, *]
@[simp] theorem Cluster.segAct_canon (c : Cluster) (o : MacroOp) (alt : Nat) (log : Option (W64 × W64)) (k_c : c.canon) : (c.segAct o alt log).canon :=
  by simp (maxDischargeDepth := 40) +contextual [Cluster.segAct, *]
@[simp] theorem Cluster.segAct_ident (c : Cluster) (o : MacroOp) (alt : Nat) (log : Option (W64 × W64)) : (c.segAct o alt log).ident = c.ident :=
  by simp (maxDischargeDepth := 40) +contextual [Cluster.segAct, *]
@[simp] theorem Cluster.doSegbr_canon (c : Cluster) (o : MacroOp) (k_c : c.canon) : (c.doSegbr o).canon :=
  by simp (maxDischargeDepth := 40) +contextual [Cluster.doSegbr, *]
@[simp] theorem Cluster.doSegbr_ident (c : Cluster) (o : MacroOp) : (c.doSegbr o).ident = c.ident :=
  by simp (maxDischargeDepth := 40) +contextual [Cluster.doSegbr, *]
@[simp] theorem segbrC_canon (c : Cluster) (k_c : c.canon) : (segbrC c).canon :=
  by unfold segbrC; (repeat' (first | split | intro _)) <;> simp (maxDischargeDepth := 40) +contextual [*]
@[simp] theorem segbrC_ident (c : Cluster) : (segbrC c).ident = c.ident :=
  by unfold segbrC; (repeat' (first | split | intro _)) <;> simp (maxDischargeDepth := 40) +contextual [*]
@[simp] theorem Cluster.landSeg_canon (c : Cluster) (n : Nat) (r : SegRec) (k_c : c.canon) : (c.landSeg n r).canon :=
  by simp (maxDischargeDepth := 40) +contextual [Cluster.landSeg, *]
@[simp] theorem Cluster.landSeg_ident (c : Cluster) (n : Nat) (r : SegRec) : (c.landSeg n r).ident = c.ident :=
  by simp (maxDischargeDepth := 40) +contextual [Cluster.landSeg, *]
@[simp] theorem Cluster.landChoice_canon (c : Cluster) (log : Option (W64 × W64)) (cores : List Nat) (r : SegRec) (k_c : c.canon) : (c.landChoice log cores r).canon :=
  by unfold Cluster.landChoice; (repeat' (first | split | intro _)) <;> simp (maxDischargeDepth := 40) +contextual [*]
@[simp] theorem Cluster.landChoice_ident (c : Cluster) (log : Option (W64 × W64)) (cores : List Nat) (r : SegRec) : (c.landChoice log cores r).ident = c.ident :=
  by unfold Cluster.landChoice; (repeat' (first | split | intro _)) <;> simp (maxDischargeDepth := 40) +contextual [*]
@[simp] theorem Cluster.predictCtx_canon (c : Cluster) (tp : Nat) (k : Nat) (k_c : c.canon) : (c.predictCtx tp k).canon :=
  by simp (maxDischargeDepth := 40) +contextual [Cluster.predictCtx, *]
@[simp] theorem Cluster.predictCtx_ident (c : Cluster) (tp : Nat) (k : Nat) : (c.predictCtx tp k).ident = c.ident :=
  by simp (maxDischargeDepth := 40) +contextual [Cluster.predictCtx, *]
@[simp] theorem Cluster.preempt_canon (c : Cluster) (o : MacroOp) (k_c : c.canon) : (c.preempt o).canon :=
  by unfold Cluster.preempt; dsimp only; (repeat' split) <;> simp (maxDischargeDepth := 40) +contextual [*]
@[simp] theorem Cluster.preempt_ident (c : Cluster) (o : MacroOp) : (c.preempt o).ident = c.ident :=
  by unfold Cluster.preempt; dsimp only; (repeat' split) <;> simp (maxDischargeDepth := 40) +contextual [*]
@[simp] theorem ppmarkC_canon (c : Cluster) (k_c : c.canon) : (ppmarkC c).canon :=
  by unfold ppmarkC; dsimp only; (repeat' split) <;> simp (maxDischargeDepth := 40) +contextual [*]
@[simp] theorem ppmarkC_ident (c : Cluster) : (ppmarkC c).ident = c.ident :=
  by unfold ppmarkC; dsimp only; (repeat' split) <;> simp (maxDischargeDepth := 40) +contextual [*]

end Sys2Proof.Machine
end

