-- ==== Sys2Proof/Laws/CanonImages.lean ====
section
/-! SUPPORT. Every operation of Machine/Images.lean keeps the canonical form of the stores and the identity of the cluster. -/

namespace Sys2Proof.Machine

@[simp] theorem Cluster.injectTab_canon (c : Cluster) (src : Nat) (bits : Nat) (keys : List Nat) (k_c : c.canon) : (c.injectTab src bits keys).canon :=
  by unfold Cluster.injectTab; (repeat' (first | split | intro _)) <;> simp (maxDischargeDepth := 40) +contextual [*]
@[simp] theorem Cluster.injectTab_ident (c : Cluster) (src : Nat) (bits : Nat) (keys : List Nat) : (c.injectTab src bits keys).ident = c.ident :=
  by unfold Cluster.injectTab; (repeat' (first | split | intro _)) <;> simp (maxDischargeDepth := 40) +contextual [*]
@[simp] theorem Cluster.loadRings_canon (c : Cluster) (b : Nat) (k_c : c.canon) : (c.loadRings b).canon :=
  by simp (maxDischargeDepth := 40) +contextual [Cluster.loadRings, *]
@[simp] theorem Cluster.loadRings_ident (c : Cluster) (b : Nat) : (c.loadRings b).ident = c.ident :=
  by simp (maxDischargeDepth := 40) +contextual [Cluster.loadRings, *]
@[simp] theorem Cluster.loadSorus_canon (c : Cluster) (b : Nat) (k_c : c.canon) : (c.loadSorus b).canon :=
  by simp (maxDischargeDepth := 40) +contextual [Cluster.loadSorus, *]
@[simp] theorem Cluster.loadSorus_ident (c : Cluster) (b : Nat) : (c.loadSorus b).ident = c.ident :=
  by simp (maxDischargeDepth := 40) +contextual [Cluster.loadSorus, *]
@[simp] theorem Cluster.loadTables_canon (c : Cluster) (b : Nat) (slot : Nat) (k_c : c.canon) : (c.loadTables b slot).canon :=
  by simp (maxDischargeDepth := 40) +contextual [Cluster.loadTables, *]
@[simp] theorem Cluster.loadTables_ident (c : Cluster) (b : Nat) (slot : Nat) : (c.loadTables b slot).ident = c.ident :=
  by simp (maxDischargeDepth := 40) +contextual [Cluster.loadTables, *]
@[simp] theorem Cluster.loadMems_canon (c : Cluster) (b : Nat) (k_c : c.canon) : (c.loadMems b).canon :=
  by simp (maxDischargeDepth := 40) +contextual [Cluster.loadMems, *]
@[simp] theorem Cluster.loadMems_ident (c : Cluster) (b : Nat) : (c.loadMems b).ident = c.ident :=
  by simp (maxDischargeDepth := 40) +contextual [Cluster.loadMems, *]
@[simp] theorem Cluster.loadFloors_canon (c : Cluster) (lat : List Nat) (k_c : c.canon) : (c.loadFloors lat).canon :=
  by simp (maxDischargeDepth := 40) +contextual [Cluster.loadFloors, *]
@[simp] theorem Cluster.loadFloors_ident (c : Cluster) (lat : List Nat) : (c.loadFloors lat).ident = c.ident :=
  by simp (maxDischargeDepth := 40) +contextual [Cluster.loadFloors, *]
@[simp] theorem Cluster.present_canon (c : Cluster) (a : Nat) (k_c : c.canon) : (c.present a).canon :=
  by simp (maxDischargeDepth := 40) +contextual [Cluster.present, *]
@[simp] theorem Cluster.present_ident (c : Cluster) (a : Nat) : (c.present a).ident = c.ident :=
  by simp (maxDischargeDepth := 40) +contextual [Cluster.present, *]
@[simp] theorem Cluster.loadManifests_canon (c : Cluster) (im : Img) (k_c : c.canon) : (c.loadManifests im).canon :=
  by simp (maxDischargeDepth := 40) +contextual [Cluster.loadManifests, *]
@[simp] theorem Cluster.loadManifests_ident (c : Cluster) (im : Img) : (c.loadManifests im).ident = c.ident :=
  by simp (maxDischargeDepth := 40) +contextual [Cluster.loadManifests, *]
@[simp] theorem Cluster.loadModes_canon (c : Cluster) (k_c : c.canon) : c.loadModes.canon :=
  by simp (maxDischargeDepth := 40) +contextual [Cluster.loadModes, *]
@[simp] theorem Cluster.loadModes_ident (c : Cluster) : c.loadModes.ident = c.ident :=
  by simp (maxDischargeDepth := 40) +contextual [Cluster.loadModes, *]
@[simp] theorem Cluster.loadShape_canon (c : Cluster) (p : Plan) (k_c : c.canon) : (c.loadShape p).canon :=
  by simp (maxDischargeDepth := 40) +contextual [Cluster.loadShape, *]
@[simp] theorem Cluster.loadShape_ident (c : Cluster) (p : Plan) : (c.loadShape p).ident = c.ident :=
  by simp (maxDischargeDepth := 40) +contextual [Cluster.loadShape, *]
@[simp] theorem Cluster.loadC1_canon (c : Cluster) (k_c : c.canon) : c.loadC1.canon :=
  by simp (maxDischargeDepth := 40) +contextual [Cluster.loadC1, *]
@[simp] theorem Cluster.loadC1_ident (c : Cluster) : c.loadC1.ident = c.ident :=
  by simp (maxDischargeDepth := 40) +contextual [Cluster.loadC1, *]
@[simp] theorem Cluster.putImage_canon (c : Cluster) (slot : Nat) (p : Plan) (k_c : c.canon) : (c.putImage slot p).canon :=
  by simp (maxDischargeDepth := 40) +contextual [Cluster.putImage, *]
@[simp] theorem Cluster.putImage_ident (c : Cluster) (slot : Nat) (p : Plan) : (c.putImage slot p).ident = c.ident :=
  by simp (maxDischargeDepth := 40) +contextual [Cluster.putImage, *]

end Sys2Proof.Machine
end

