-- ==== Sys2Proof/Laws/CanonDesc.lean ====
section
/-! SUPPORT. Every operation of Machine/Desc.lean keeps the canonical form of the stores and the identity of the cluster. -/

namespace Sys2Proof.Machine

@[simp] theorem Cluster.descRead_canon (c : Cluster) (n : Nat) (ctx : Nat) (d : Desc) (b : Nat) (len : Nat) (k_c : c.canon) : (c.descRead n ctx d b len).2.canon :=
  by unfold Cluster.descRead; dsimp only; (repeat' split) <;> simp (maxDischargeDepth := 40) +contextual [*]
@[simp] theorem Cluster.descRead_ident (c : Cluster) (n : Nat) (ctx : Nat) (d : Desc) (b : Nat) (len : Nat) : (c.descRead n ctx d b len).2.ident = c.ident :=
  by unfold Cluster.descRead; dsimp only; (repeat' split) <;> simp (maxDischargeDepth := 40) +contextual [*]
@[simp] theorem Cluster.readRun_canon (c : Cluster) (n : Nat) (ctx : Nat) (d : Desc) (e : Nat) (it : Nat) (k_c : c.canon) : (c.readRun n ctx d e it).2.canon :=
  by simp (maxDischargeDepth := 40) +contextual [Cluster.readRun, *]
@[simp] theorem Cluster.readRun_ident (c : Cluster) (n : Nat) (ctx : Nat) (d : Desc) (e : Nat) (it : Nat) : (c.readRun n ctx d e it).2.ident = c.ident :=
  by simp (maxDischargeDepth := 40) +contextual [Cluster.readRun, *]
@[simp] theorem Cluster.descPost_canon (c : Cluster) (n : Nat) (t : Nat) (d : Desc) (b : Nat) (lo : Nat) (hi : Nat) (bs : List Byte) (k_c : c.canon) : (c.descPost n t d b lo hi bs).canon :=
  by simp (maxDischargeDepth := 40) +contextual [Cluster.descPost, *]
@[simp] theorem Cluster.descPost_ident (c : Cluster) (n : Nat) (t : Nat) (d : Desc) (b : Nat) (lo : Nat) (hi : Nat) (bs : List Byte) : (c.descPost n t d b lo hi bs).ident = c.ident :=
  by simp (maxDischargeDepth := 40) +contextual [Cluster.descPost, *]
@[simp] theorem Cluster.writeRun_canon (c : Cluster) (n : Nat) (t : Nat) (d : Desc) (e : Nat) (it : Nat) (codes : List Nat) (k_c : c.canon) : (c.writeRun n t d e it codes).canon :=
  by unfold Cluster.writeRun; (repeat' (first | split | intro _)) <;> simp (maxDischargeDepth := 40) +contextual [*]
@[simp] theorem Cluster.writeRun_ident (c : Cluster) (n : Nat) (t : Nat) (d : Desc) (e : Nat) (it : Nat) (codes : List Nat) : (c.writeRun n t d e it codes).ident = c.ident :=
  by unfold Cluster.writeRun; (repeat' (first | split | intro _)) <;> simp (maxDischargeDepth := 40) +contextual [*]
@[simp] theorem Cluster.regionWrite_canon (c : Cluster) (n : Nat) (t : Nat) (d : Desc) (k : Nat) (bs : List Byte) (k_c : c.canon) : (c.regionWrite n t d k bs).canon :=
  by simp (maxDischargeDepth := 40) +contextual [Cluster.regionWrite, *]
@[simp] theorem Cluster.regionWrite_ident (c : Cluster) (n : Nat) (t : Nat) (d : Desc) (k : Nat) (bs : List Byte) : (c.regionWrite n t d k bs).ident = c.ident :=
  by simp (maxDischargeDepth := 40) +contextual [Cluster.regionWrite, *]

end Sys2Proof.Machine
end

