-- ==== Sys2Proof/Laws/CanonFrond.lean ====
section
/-! SUPPORT. Every operation of Machine/Frond.lean keeps the canonical form of the stores and the identity of the cluster. -/

namespace Sys2Proof.Machine

@[simp] theorem Cluster.vrunTake_canon (c : Cluster) (n : Nat) (j : VecJob) (it : Nat) (ins : List (List Nat)) (k_c : c.canon) : (c.vrunTake n j it ins).1.canon :=
  by simp (maxDischargeDepth := 40) +contextual [Cluster.vrunTake, *]
@[simp] theorem Cluster.vrunTake_ident (c : Cluster) (n : Nat) (j : VecJob) (it : Nat) (ins : List (List Nat)) : (c.vrunTake n j it ins).1.ident = c.ident :=
  by simp (maxDischargeDepth := 40) +contextual [Cluster.vrunTake, *]
@[simp] theorem Cluster.setVec_canon (c : Cluster) (n : Nat) (j : Option VecJob) (k_c : c.canon) : (c.setVec n j).canon :=
  by simp (maxDischargeDepth := 40) +contextual [Cluster.setVec, *]
@[simp] theorem Cluster.setVec_ident (c : Cluster) (n : Nat) (j : Option VecJob) : (c.setVec n j).ident = c.ident :=
  by simp (maxDischargeDepth := 40) +contextual [Cluster.setVec, *]
@[simp] theorem Cluster.readRuns_canon (c : Cluster) (n : Nat) (o : MacroOp) (rs : List (Nat × Nat × Nat)) (k_c : c.canon) : (c.readRuns n o rs).2.canon :=
  by simp (maxDischargeDepth := 40) +contextual [Cluster.readRuns, *]
@[simp] theorem Cluster.readRuns_ident (c : Cluster) (n : Nat) (o : MacroOp) (rs : List (Nat × Nat × Nat)) : (c.readRuns n o rs).2.ident = c.ident :=
  by simp (maxDischargeDepth := 40) +contextual [Cluster.readRuns, *]
@[simp] theorem Cluster.beginVec_canon (c : Cluster) (n : Nat) (o : MacroOp) (dm : Nat) (tiles : List Nat) (ents : List (W16 × Nat)) (k_c : c.canon) : (c.beginVec n o dm tiles ents).canon :=
  by simp (maxDischargeDepth := 40) +contextual [Cluster.beginVec, *]
@[simp] theorem Cluster.beginVec_ident (c : Cluster) (n : Nat) (o : MacroOp) (dm : Nat) (tiles : List Nat) (ents : List (W16 × Nat)) : (c.beginVec n o dm tiles ents).ident = c.ident :=
  by simp (maxDischargeDepth := 40) +contextual [Cluster.beginVec, *]
@[simp] theorem Cluster.onVec_canon (c : Cluster) (n : Nat) (opc : Nat) (f : Cluster → MacroOp → Cluster) (k_c : c.canon) (k_f : ∀ d z0, d.canon → (f d z0).canon) : (c.onVec n opc f).canon :=
  by simp (maxDischargeDepth := 40) +contextual [Cluster.onVec, *]
@[simp] theorem Cluster.onVec_ident (c : Cluster) (n : Nat) (opc : Nat) (f : Cluster → MacroOp → Cluster) (k_f : ∀ d z0, (f d z0).ident = d.ident) : (c.onVec n opc f).ident = c.ident :=
  by simp (maxDischargeDepth := 40) +contextual [Cluster.onVec, *]
@[simp] theorem Cluster.doVrun_canon (c : Cluster) (n : Nat) (o : MacroOp) (k_c : c.canon) : (c.doVrun n o).canon :=
  by simp (maxDischargeDepth := 40) +contextual [Cluster.doVrun, *]
@[simp] theorem Cluster.doVrun_ident (c : Cluster) (n : Nat) (o : MacroOp) : (c.doVrun n o).ident = c.ident :=
  by simp (maxDischargeDepth := 40) +contextual [Cluster.doVrun, *]
@[simp] theorem vrunC_canon (c : Cluster) (n : Nat) (k_c : c.canon) : (vrunC c n).canon :=
  by simp (maxDischargeDepth := 40) +contextual [vrunC, *]
@[simp] theorem vrunC_ident (c : Cluster) (n : Nat) : (vrunC c n).ident = c.ident :=
  by simp (maxDischargeDepth := 40) +contextual [vrunC, *]

end Sys2Proof.Machine
end

