-- ==== Sys2Proof/Laws/CanonVector.lean ====
section
/-! SUPPORT. Every operation of Machine/Vector.lean keeps the canonical form of the stores and the identity of the cluster. -/

namespace Sys2Proof.Machine

@[simp] theorem Cluster.bcastTake_canon (c : Cluster) (n : Nat) (j : VecJob) (it : Nat) (ins : List (List Nat)) (k_c : c.canon) : (c.bcastTake n j it ins).canon :=
  by simp (maxDischargeDepth := 40) +contextual [Cluster.bcastTake, *]
@[simp] theorem Cluster.bcastTake_ident (c : Cluster) (n : Nat) (j : VecJob) (it : Nat) (ins : List (List Nat)) : (c.bcastTake n j it ins).ident = c.ident :=
  by simp (maxDischargeDepth := 40) +contextual [Cluster.bcastTake, *]
@[simp] theorem Cluster.doVbcast_canon (c : Cluster) (n : Nat) (o : MacroOp) (k_c : c.canon) : (c.doVbcast n o).canon :=
  by simp (maxDischargeDepth := 40) +contextual [Cluster.doVbcast, *]
@[simp] theorem Cluster.doVbcast_ident (c : Cluster) (n : Nat) (o : MacroOp) : (c.doVbcast n o).ident = c.ident :=
  by simp (maxDischargeDepth := 40) +contextual [Cluster.doVbcast, *]
@[simp] theorem vbcastC_canon (c : Cluster) (n : Nat) (k_c : c.canon) : (vbcastC c n).canon :=
  by simp (maxDischargeDepth := 40) +contextual [vbcastC, *]
@[simp] theorem vbcastC_ident (c : Cluster) (n : Nat) : (vbcastC c n).ident = c.ident :=
  by simp (maxDischargeDepth := 40) +contextual [vbcastC, *]
@[simp] theorem Cluster.postRuns_canon (c : Cluster) (n : Nat) (fin : Nat) (out : Desc) (had : Nat) (codes : List Nat) (k_c : c.canon) : (c.postRuns n fin out had codes).canon :=
  by simp (maxDischargeDepth := 40) +contextual [Cluster.postRuns, *]
@[simp] theorem Cluster.postRuns_ident (c : Cluster) (n : Nat) (fin : Nat) (out : Desc) (had : Nat) (codes : List Nat) : (c.postRuns n fin out had codes).ident = c.ident :=
  by simp (maxDischargeDepth := 40) +contextual [Cluster.postRuns, *]
@[simp] theorem Cluster.redTake_canon (c : Cluster) (n : Nat) (j : VecJob) (ins : List (List Nat)) (k_c : c.canon) : (c.redTake n j ins).1.canon :=
  by simp (maxDischargeDepth := 40) +contextual [Cluster.redTake, *]
@[simp] theorem Cluster.redTake_ident (c : Cluster) (n : Nat) (j : VecJob) (ins : List (List Nat)) : (c.redTake n j ins).1.ident = c.ident :=
  by simp (maxDischargeDepth := 40) +contextual [Cluster.redTake, *]
@[simp] theorem Cluster.doVred_canon (c : Cluster) (n : Nat) (o : MacroOp) (k_c : c.canon) : (c.doVred n o).canon :=
  by simp (maxDischargeDepth := 40) +contextual [Cluster.doVred, *]
@[simp] theorem Cluster.doVred_ident (c : Cluster) (n : Nat) (o : MacroOp) : (c.doVred n o).ident = c.ident :=
  by simp (maxDischargeDepth := 40) +contextual [Cluster.doVred, *]
@[simp] theorem vredC_canon (c : Cluster) (n : Nat) (k_c : c.canon) : (vredC c n).canon :=
  by simp (maxDischargeDepth := 40) +contextual [vredC, *]
@[simp] theorem vredC_ident (c : Cluster) (n : Nat) : (vredC c n).ident = c.ident :=
  by simp (maxDischargeDepth := 40) +contextual [vredC, *]
@[simp] theorem Cluster.listRow_canon (c : Cluster) (len : Nat) (idx : List Nat) (k_c : c.canon) : (c.listRow len idx).2.canon :=
  by simp (maxDischargeDepth := 40) +contextual [Cluster.listRow, *]
@[simp] theorem Cluster.listRow_ident (c : Cluster) (len : Nat) (idx : List Nat) : (c.listRow len idx).2.ident = c.ident :=
  by simp (maxDischargeDepth := 40) +contextual [Cluster.listRow, *]
@[simp] theorem Cluster.putList_canon (c : Cluster) (n : Nat) (o : MacroOp) (t : Nat) (i : Nat) (len : Nat) (idx : List Nat) (k_c : c.canon) : (c.putList n o t i len idx).canon :=
  by simp (maxDischargeDepth := 40) +contextual [Cluster.putList, *]
@[simp] theorem Cluster.putList_ident (c : Cluster) (n : Nat) (o : MacroOp) (t : Nat) (i : Nat) (len : Nat) (idx : List Nat) : (c.putList n o t i len idx).ident = c.ident :=
  by simp (maxDischargeDepth := 40) +contextual [Cluster.putList, *]
@[simp] theorem Cluster.route_canon (c : Cluster) (n : Nat) (o : MacroOp) (rows : List (List W32)) (t : Nat) (k_c : c.canon) : (c.route n o rows t).canon :=
  by simp (maxDischargeDepth := 40) +contextual [Cluster.route, *]
@[simp] theorem Cluster.route_ident (c : Cluster) (n : Nat) (o : MacroOp) (rows : List (List W32)) (t : Nat) : (c.route n o rows t).ident = c.ident :=
  by simp (maxDischargeDepth := 40) +contextual [Cluster.route, *]
@[simp] theorem Cluster.select_canon (c : Cluster) (n : Nat) (o : MacroOp) (rows : List (List W32)) (t : Nat) (k_c : c.canon) : (c.select n o rows t).canon :=
  by simp (maxDischargeDepth := 40) +contextual [Cluster.select, *]
@[simp] theorem Cluster.select_ident (c : Cluster) (n : Nat) (o : MacroOp) (rows : List (List W32)) (t : Nat) : (c.select n o rows t).ident = c.ident :=
  by simp (maxDischargeDepth := 40) +contextual [Cluster.select, *]
@[simp] theorem Cluster.topkTake_canon (c : Cluster) (n : Nat) (j : VecJob) (it : Nat) (ins : List (List Nat)) (k_c : c.canon) : (c.topkTake n j it ins).1.canon :=
  by simp (maxDischargeDepth := 40) +contextual [Cluster.topkTake, *]
@[simp] theorem Cluster.topkTake_ident (c : Cluster) (n : Nat) (j : VecJob) (it : Nat) (ins : List (List Nat)) : (c.topkTake n j it ins).1.ident = c.ident :=
  by simp (maxDischargeDepth := 40) +contextual [Cluster.topkTake, *]
@[simp] theorem Cluster.doVtopk_canon (c : Cluster) (n : Nat) (o : MacroOp) (k_c : c.canon) : (c.doVtopk n o).canon :=
  by simp (maxDischargeDepth := 40) +contextual [Cluster.doVtopk, *]
@[simp] theorem Cluster.doVtopk_ident (c : Cluster) (n : Nat) (o : MacroOp) : (c.doVtopk n o).ident = c.ident :=
  by simp (maxDischargeDepth := 40) +contextual [Cluster.doVtopk, *]
@[simp] theorem vtopkC_canon (c : Cluster) (n : Nat) (k_c : c.canon) : (vtopkC c n).canon :=
  by simp (maxDischargeDepth := 40) +contextual [vtopkC, *]
@[simp] theorem vtopkC_ident (c : Cluster) (n : Nat) : (vtopkC c n).ident = c.ident :=
  by simp (maxDischargeDepth := 40) +contextual [vtopkC, *]
@[simp] theorem Cluster.vecOut_canon (c : Cluster) (n : Nat) (o : MacroOp) (es : List (W16 × Nat)) (rows : Nat) (k_c : c.canon) : (c.vecOut n o es rows).canon :=
  by unfold Cluster.vecOut; dsimp only; (repeat' split) <;> simp (maxDischargeDepth := 40) +contextual [*]
@[simp] theorem Cluster.vecOut_ident (c : Cluster) (n : Nat) (o : MacroOp) (es : List (W16 × Nat)) (rows : Nat) : (c.vecOut n o es rows).ident = c.ident :=
  by unfold Cluster.vecOut; dsimp only; (repeat' split) <;> simp (maxDischargeDepth := 40) +contextual [*]
@[simp] theorem Cluster.beginMove_canon (c : Cluster) (n : Nat) (o : MacroOp) (tile : Nat) (dm : Nat) (k_c : c.canon) : (c.beginMove n o tile dm).canon :=
  by simp (maxDischargeDepth := 40) +contextual [Cluster.beginMove, *]
@[simp] theorem Cluster.beginMove_ident (c : Cluster) (n : Nat) (o : MacroOp) (tile : Nat) (dm : Nat) : (c.beginMove n o tile dm).ident = c.ident :=
  by simp (maxDischargeDepth := 40) +contextual [Cluster.beginMove, *]
@[simp] theorem Cluster.gathTake_canon (c : Cluster) (n : Nat) (j : VecJob) (it : Nat) (k_c : c.canon) : (c.gathTake n j it).canon :=
  by simp (maxDischargeDepth := 40) +contextual [Cluster.gathTake, *]
@[simp] theorem Cluster.gathTake_ident (c : Cluster) (n : Nat) (j : VecJob) (it : Nat) : (c.gathTake n j it).ident = c.ident :=
  by simp (maxDischargeDepth := 40) +contextual [Cluster.gathTake, *]
@[simp] theorem Cluster.doVgath_canon (c : Cluster) (n : Nat) (o : MacroOp) (k_c : c.canon) : (c.doVgath n o).canon :=
  by simp (maxDischargeDepth := 40) +contextual [Cluster.doVgath, *]
@[simp] theorem Cluster.doVgath_ident (c : Cluster) (n : Nat) (o : MacroOp) : (c.doVgath n o).ident = c.ident :=
  by simp (maxDischargeDepth := 40) +contextual [Cluster.doVgath, *]
@[simp] theorem vgathC_canon (c : Cluster) (n : Nat) (k_c : c.canon) : (vgathC c n).canon :=
  by simp (maxDischargeDepth := 40) +contextual [vgathC, *]
@[simp] theorem vgathC_ident (c : Cluster) (n : Nat) : (vgathC c n).ident = c.ident :=
  by simp (maxDischargeDepth := 40) +contextual [vgathC, *]
@[simp] theorem Cluster.scatTake_canon (c : Cluster) (n : Nat) (j : VecJob) (it : Nat) (k_c : c.canon) : (c.scatTake n j it).canon :=
  by unfold Cluster.scatTake; dsimp only; (repeat' split) <;> simp (maxDischargeDepth := 40) +contextual [*]
@[simp] theorem Cluster.scatTake_ident (c : Cluster) (n : Nat) (j : VecJob) (it : Nat) : (c.scatTake n j it).ident = c.ident :=
  by unfold Cluster.scatTake; dsimp only; (repeat' split) <;> simp (maxDischargeDepth := 40) +contextual [*]
@[simp] theorem Cluster.doVscat_canon (c : Cluster) (n : Nat) (o : MacroOp) (k_c : c.canon) : (c.doVscat n o).canon :=
  by simp (maxDischargeDepth := 40) +contextual [Cluster.doVscat, *]
@[simp] theorem Cluster.doVscat_ident (c : Cluster) (n : Nat) (o : MacroOp) : (c.doVscat n o).ident = c.ident :=
  by simp (maxDischargeDepth := 40) +contextual [Cluster.doVscat, *]
@[simp] theorem vscatC_canon (c : Cluster) (n : Nat) (k_c : c.canon) : (vscatC c n).canon :=
  by simp (maxDischargeDepth := 40) +contextual [vscatC, *]
@[simp] theorem vscatC_ident (c : Cluster) (n : Nat) : (vscatC c n).ident = c.ident :=
  by simp (maxDischargeDepth := 40) +contextual [vscatC, *]
@[simp] theorem Cluster.cvtTake_canon (c : Cluster) (n : Nat) (j : VecJob) (it : Nat) (ins : List (List Nat)) (k_c : c.canon) : (c.cvtTake n j it ins).canon :=
  by simp (maxDischargeDepth := 40) +contextual [Cluster.cvtTake, *]
@[simp] theorem Cluster.cvtTake_ident (c : Cluster) (n : Nat) (j : VecJob) (it : Nat) (ins : List (List Nat)) : (c.cvtTake n j it ins).ident = c.ident :=
  by simp (maxDischargeDepth := 40) +contextual [Cluster.cvtTake, *]
@[simp] theorem Cluster.doVcvt_canon (c : Cluster) (n : Nat) (o : MacroOp) (k_c : c.canon) : (c.doVcvt n o).canon :=
  by simp (maxDischargeDepth := 40) +contextual [Cluster.doVcvt, *]
@[simp] theorem Cluster.doVcvt_ident (c : Cluster) (n : Nat) (o : MacroOp) : (c.doVcvt n o).ident = c.ident :=
  by simp (maxDischargeDepth := 40) +contextual [Cluster.doVcvt, *]
@[simp] theorem vcvtC_canon (c : Cluster) (n : Nat) (k_c : c.canon) : (vcvtC c n).canon :=
  by simp (maxDischargeDepth := 40) +contextual [vcvtC, *]
@[simp] theorem vcvtC_ident (c : Cluster) (n : Nat) : (vcvtC c n).ident = c.ident :=
  by simp (maxDischargeDepth := 40) +contextual [vcvtC, *]
@[simp] theorem Cluster.accumTake_canon (c : Cluster) (n : Nat) (j : VecJob) (it : Nat) (ins : List (List Nat)) (k_c : c.canon) : (c.accumTake n j it ins).1.canon :=
  by simp (maxDischargeDepth := 40) +contextual [Cluster.accumTake, *]
@[simp] theorem Cluster.accumTake_ident (c : Cluster) (n : Nat) (j : VecJob) (it : Nat) (ins : List (List Nat)) : (c.accumTake n j it ins).1.ident = c.ident :=
  by simp (maxDischargeDepth := 40) +contextual [Cluster.accumTake, *]
@[simp] theorem Cluster.mergeTake_canon (c : Cluster) (n : Nat) (j : VecJob) (k_c : c.canon) : (c.mergeTake n j).canon :=
  by simp (maxDischargeDepth := 40) +contextual [Cluster.mergeTake, *]
@[simp] theorem Cluster.mergeTake_ident (c : Cluster) (n : Nat) (j : VecJob) : (c.mergeTake n j).ident = c.ident :=
  by simp (maxDischargeDepth := 40) +contextual [Cluster.mergeTake, *]
@[simp] theorem Cluster.doVstat_canon (c : Cluster) (n : Nat) (o : MacroOp) (k_c : c.canon) : (c.doVstat n o).canon :=
  by simp (maxDischargeDepth := 40) +contextual [Cluster.doVstat, *]
@[simp] theorem Cluster.doVstat_ident (c : Cluster) (n : Nat) (o : MacroOp) : (c.doVstat n o).ident = c.ident :=
  by simp (maxDischargeDepth := 40) +contextual [Cluster.doVstat, *]
@[simp] theorem vstatC_canon (c : Cluster) (n : Nat) (k_c : c.canon) : (vstatC c n).canon :=
  by simp (maxDischargeDepth := 40) +contextual [vstatC, *]
@[simp] theorem vstatC_ident (c : Cluster) (n : Nat) : (vstatC c n).ident = c.ident :=
  by simp (maxDischargeDepth := 40) +contextual [vstatC, *]
@[simp] theorem Cluster.vecTake_canon (c : Cluster) (n : Nat) (j : VecJob) (it : Nat) (ins : List (List Nat)) (k_c : c.canon) : (c.vecTake n j it ins).1.canon :=
  by unfold Cluster.vecTake; (repeat' (first | split | intro _)) <;> simp (maxDischargeDepth := 40) +contextual [*]
@[simp] theorem Cluster.vecTake_ident (c : Cluster) (n : Nat) (j : VecJob) (it : Nat) (ins : List (List Nat)) : (c.vecTake n j it ins).1.ident = c.ident :=
  by unfold Cluster.vecTake; (repeat' (first | split | intro _)) <;> simp (maxDischargeDepth := 40) +contextual [*]
@[simp] theorem Cluster.vecCycle_canon (c : Cluster) (n : Nat) (k_c : c.canon) : (c.vecCycle n).canon :=
  by unfold Cluster.vecCycle; (repeat' (first | split | intro _)) <;> simp (maxDischargeDepth := 40) +contextual [*]
@[simp] theorem Cluster.vecCycle_ident (c : Cluster) (n : Nat) : (c.vecCycle n).ident = c.ident :=
  by unfold Cluster.vecCycle; (repeat' (first | split | intro _)) <;> simp (maxDischargeDepth := 40) +contextual [*]

end Sys2Proof.Machine
end

