-- ==== Sys2Proof/Laws/CanonMatrix.lean ====
section
/-! SUPPORT. Every operation of Machine/Matrix.lean keeps the canonical form of the stores and the identity of the cluster. -/

namespace Sys2Proof.Machine

@[simp] theorem Cluster.accumulate_canon (c : Cluster) (a : Nat) (o : MacroOp) (set1 : Bool) (zero : Bool) (sub : Bool) (ws : List (List (Nat × FV))) (xs : Array FV) (k_c : c.canon) : (c.accumulate a o set1 zero sub ws xs).canon :=
  by simp (maxDischargeDepth := 40) +contextual [Cluster.accumulate, *]
@[simp] theorem Cluster.accumulate_ident (c : Cluster) (a : Nat) (o : MacroOp) (set1 : Bool) (zero : Bool) (sub : Bool) (ws : List (List (Nat × FV))) (xs : Array FV) : (c.accumulate a o set1 zero sub ws xs).ident = c.ident :=
  by simp (maxDischargeDepth := 40) +contextual [Cluster.accumulate, *]
@[simp] theorem Cluster.fillAcc_canon (c : Cluster) (a : Nat) (f : Fill) (k_c : c.canon) : (c.fillAcc a f).canon :=
  by simp (maxDischargeDepth := 40) +contextual [Cluster.fillAcc, *]
@[simp] theorem Cluster.fillAcc_ident (c : Cluster) (a : Nat) (f : Fill) : (c.fillAcc a f).ident = c.ident :=
  by simp (maxDischargeDepth := 40) +contextual [Cluster.fillAcc, *]
@[simp] theorem Cluster.freeBits_canon (c : Cluster) (k : Nat) (k_c : c.canon) : (c.freeBits k).2.canon :=
  by simp (maxDischargeDepth := 40) +contextual [Cluster.freeBits, *]
@[simp] theorem Cluster.freeBits_ident (c : Cluster) (k : Nat) : (c.freeBits k).2.ident = c.ident :=
  by simp (maxDischargeDepth := 40) +contextual [Cluster.freeBits, *]
@[simp] theorem Cluster.lineBits_canon (c : Cluster) (n : Nat) (f : Fill) (kind : Nat) (i : Nat) (pos : Nat) (k : Nat) (k_c : c.canon) : (c.lineBits n f kind i pos k).2.canon :=
  by unfold Cluster.lineBits; (repeat' (first | split | intro _)) <;> simp (maxDischargeDepth := 40) +contextual [*]
@[simp] theorem Cluster.lineBits_ident (c : Cluster) (n : Nat) (f : Fill) (kind : Nat) (i : Nat) (pos : Nat) (k : Nat) : (c.lineBits n f kind i pos k).2.ident = c.ident :=
  by unfold Cluster.lineBits; (repeat' (first | split | intro _)) <;> simp (maxDischargeDepth := 40) +contextual [*]
@[simp] theorem Cluster.streamBits_canon (c : Cluster) (n : Nat) (f : Fill) (kind : Nat) (p : Nat) (pos : Nat) (k : Nat) (k_c : c.canon) : (c.streamBits n f kind p pos k).2.canon :=
  by unfold Cluster.streamBits; dsimp only; (repeat' split) <;> simp (maxDischargeDepth := 40) +contextual [*]
@[simp] theorem Cluster.streamBits_ident (c : Cluster) (n : Nat) (f : Fill) (kind : Nat) (p : Nat) (pos : Nat) (k : Nat) : (c.streamBits n f kind p pos k).2.ident = c.ident :=
  by unfold Cluster.streamBits; dsimp only; (repeat' split) <;> simp (maxDischargeDepth := 40) +contextual [*]
@[simp] theorem Cluster.scaleBytes_canon (c : Cluster) (n : Nat) (f : Fill) (p : Nat) (b : Nat) (k_c : c.canon) : (c.scaleBytes n f p b).2.canon :=
  by unfold Cluster.scaleBytes; (repeat' (first | split | intro _)) <;> simp (maxDischargeDepth := 40) +contextual [*]
@[simp] theorem Cluster.scaleBytes_ident (c : Cluster) (n : Nat) (f : Fill) (p : Nat) (b : Nat) : (c.scaleBytes n f p b).2.ident = c.ident :=
  by unfold Cluster.scaleBytes; (repeat' (first | split | intro _)) <;> simp (maxDischargeDepth := 40) +contextual [*]
@[simp] theorem Cluster.enterWeights_canon (c : Cluster) (a : Nat) (f : Fill) (i : Nat) (k_c : c.canon) : (c.enterWeights a f i).2.2.canon :=
  by unfold Cluster.enterWeights; dsimp only; (repeat' split) <;> simp (maxDischargeDepth := 40) +contextual [*]
@[simp] theorem Cluster.enterWeights_ident (c : Cluster) (a : Nat) (f : Fill) (i : Nat) : (c.enterWeights a f i).2.2.ident = c.ident :=
  by unfold Cluster.enterWeights; dsimp only; (repeat' split) <;> simp (maxDischargeDepth := 40) +contextual [*]
@[simp] theorem Cluster.enterSlice_canon (c : Cluster) (a : Nat) (f : Fill) (i : Nat) (k_c : c.canon) : (c.enterSlice a f i).2.canon :=
  by unfold Cluster.enterSlice; (repeat' (first | split | intro _)) <;> simp (maxDischargeDepth := 40) +contextual [*]
@[simp] theorem Cluster.enterSlice_ident (c : Cluster) (a : Nat) (f : Fill) (i : Nat) : (c.enterSlice a f i).2.ident = c.ident :=
  by unfold Cluster.enterSlice; (repeat' (first | split | intro _)) <;> simp (maxDischargeDepth := 40) +contextual [*]
@[simp] theorem Cluster.enterOperand_canon (c : Cluster) (a : Nat) (f : Fill) (i : Nat) (k_c : c.canon) : (c.enterOperand a f i).2.canon :=
  by unfold Cluster.enterOperand; dsimp only; (repeat' split) <;> simp (maxDischargeDepth := 40) +contextual [*]
@[simp] theorem Cluster.enterOperand_ident (c : Cluster) (a : Nat) (f : Fill) (i : Nat) : (c.enterOperand a f i).2.ident = c.ident :=
  by unfold Cluster.enterOperand; dsimp only; (repeat' split) <;> simp (maxDischargeDepth := 40) +contextual [*]
@[simp] theorem Cluster.fillSlice_canon (c : Cluster) (a : Nat) (f : Fill) (k_c : c.canon) : (c.fillSlice a f).2.canon :=
  by unfold Cluster.fillSlice; dsimp only; (repeat' split) <;> simp (maxDischargeDepth := 40) +contextual [*]
@[simp] theorem Cluster.fillSlice_ident (c : Cluster) (a : Nat) (f : Fill) : (c.fillSlice a f).2.ident = c.ident :=
  by unfold Cluster.fillSlice; dsimp only; (repeat' split) <;> simp (maxDischargeDepth := 40) +contextual [*]
@[simp] theorem Cluster.fillCycle_canon (c : Cluster) (a : Nat) (f : Fill) (k_c : c.canon) : (c.fillCycle a f).canon :=
  by unfold Cluster.fillCycle; dsimp only; (repeat' split) <;> simp (maxDischargeDepth := 40) +contextual [*]
@[simp] theorem Cluster.fillCycle_ident (c : Cluster) (a : Nat) (f : Fill) : (c.fillCycle a f).ident = c.ident :=
  by unfold Cluster.fillCycle; dsimp only; (repeat' split) <;> simp (maxDischargeDepth := 40) +contextual [*]
@[simp] theorem Cluster.feedCycle_canon (c : Cluster) (a : Nat) (k_c : c.canon) : (c.feedCycle a).canon :=
  by simp (maxDischargeDepth := 40) +contextual [Cluster.feedCycle, *]
@[simp] theorem Cluster.feedCycle_ident (c : Cluster) (a : Nat) : (c.feedCycle a).ident = c.ident :=
  by simp (maxDischargeDepth := 40) +contextual [Cluster.feedCycle, *]
@[simp] theorem Cluster.arrayCycle_canon (c : Cluster) (a : Nat) (k_c : c.canon) : (c.arrayCycle a).canon :=
  by simp (maxDischargeDepth := 40) +contextual [Cluster.arrayCycle, *]
@[simp] theorem Cluster.arrayCycle_ident (c : Cluster) (a : Nat) : (c.arrayCycle a).ident = c.ident :=
  by simp (maxDischargeDepth := 40) +contextual [Cluster.arrayCycle, *]
@[simp] theorem Cluster.fillIssue_canon (c : Cluster) (a : Nat) (k_c : c.canon) : (c.fillIssue a).canon :=
  by simp (maxDischargeDepth := 40) +contextual [Cluster.fillIssue, *]
@[simp] theorem Cluster.fillIssue_ident (c : Cluster) (a : Nat) : (c.fillIssue a).ident = c.ident :=
  by simp (maxDischargeDepth := 40) +contextual [Cluster.fillIssue, *]
@[simp] theorem Cluster.swapDrain_canon (c : Cluster) (a : Nat) (o : MacroOp) (nul : Bool) (ds : List (Option Nat × Option (Nat × Bool × Nat × Bool))) (k_c : c.canon) : (c.swapDrain a o nul ds).canon :=
  by
  unfold Cluster.swapDrain
  refine Cluster.each_canon _ _ k_c (fun d x h => ?_)
  have h2 : (match x.1 with
      | some t => d.setArr a { d.arr a with front := !(d.arr a).front, swaps := (d.arr a).swaps.filter (fun u => decide (d.lcc < u)) ++ [t] }
      | none => d).canon := by split <;> simp [h]
  dsimp only
  split
  · exact Cluster.startDrain_canon _ _ _ _ _ _ _ _ h2
  · exact h2
@[simp] theorem Cluster.swapDrain_ident (c : Cluster) (a : Nat) (o : MacroOp) (nul : Bool) (ds : List (Option Nat × Option (Nat × Bool × Nat × Bool))) : (c.swapDrain a o nul ds).ident = c.ident :=
  by
  unfold Cluster.swapDrain
  refine Cluster.each_ident _ _ _ (fun d x => ?_)
  have h2 : (match x.1 with
      | some t => d.setArr a { d.arr a with front := !(d.arr a).front, swaps := (d.arr a).swaps.filter (fun u => decide (d.lcc < u)) ++ [t] }
      | none => d).ident = d.ident := by split <;> simp
  dsimp only
  split
  · exact (Cluster.startDrain_ident _ _ _ _ _ _ _ _).trans h2
  · exact h2
@[simp] theorem Cluster.doMma_canon (c : Cluster) (a : Nat) (o : MacroOp) (k_c : c.canon) : (c.doMma a o).canon :=
  by simp (maxDischargeDepth := 40) +contextual [Cluster.doMma, *]
@[simp] theorem Cluster.doMma_ident (c : Cluster) (a : Nat) (o : MacroOp) : (c.doMma a o).ident = c.ident :=
  by simp (maxDischargeDepth := 40) +contextual [Cluster.doMma, *]
@[simp] theorem mmaOp_canon (c : Cluster) (a : Nat) (opc : Nat) (k_c : c.canon) : (mmaOp c a opc).canon :=
  by unfold mmaOp; dsimp only; (repeat' split) <;> simp (maxDischargeDepth := 40) +contextual [*]
@[simp] theorem mmaOp_ident (c : Cluster) (a : Nat) (opc : Nat) : (mmaOp c a opc).ident = c.ident :=
  by unfold mmaOp; dsimp only; (repeat' split) <;> simp (maxDischargeDepth := 40) +contextual [*]
@[simp] theorem mmaC_canon (c : Cluster) (a : Nat) (k_c : c.canon) : (mmaC c a).canon :=
  by simp (maxDischargeDepth := 40) +contextual [mmaC, *]
@[simp] theorem mmaC_ident (c : Cluster) (a : Nat) : (mmaC c a).ident = c.ident :=
  by simp (maxDischargeDepth := 40) +contextual [mmaC, *]
@[simp] theorem mmasC_canon (c : Cluster) (a : Nat) (k_c : c.canon) : (mmasC c a).canon :=
  by simp (maxDischargeDepth := 40) +contextual [mmasC, *]
@[simp] theorem mmasC_ident (c : Cluster) (a : Nat) : (mmasC c a).ident = c.ident :=
  by simp (maxDischargeDepth := 40) +contextual [mmasC, *]
@[simp] theorem mmagC_canon (c : Cluster) (a : Nat) (k_c : c.canon) : (mmagC c a).canon :=
  by simp (maxDischargeDepth := 40) +contextual [mmagC, *]
@[simp] theorem mmagC_ident (c : Cluster) (a : Nat) : (mmagC c a).ident = c.ident :=
  by simp (maxDischargeDepth := 40) +contextual [mmagC, *]
@[simp] theorem mmacC_canon (c : Cluster) (a : Nat) (k_c : c.canon) : (mmacC c a).canon :=
  by simp (maxDischargeDepth := 40) +contextual [mmacC, *]
@[simp] theorem mmacC_ident (c : Cluster) (a : Nat) : (mmacC c a).ident = c.ident :=
  by simp (maxDischargeDepth := 40) +contextual [mmacC, *]
@[simp] theorem mdrainC_canon (c : Cluster) (a : Nat) (k_c : c.canon) : (mdrainC c a).canon :=
  by unfold mdrainC; dsimp only; (repeat' split) <;> simp (maxDischargeDepth := 40) +contextual [*]
@[simp] theorem mdrainC_ident (c : Cluster) (a : Nat) : (mdrainC c a).ident = c.ident :=
  by unfold mdrainC; dsimp only; (repeat' split) <;> simp (maxDischargeDepth := 40) +contextual [*]
@[simp] theorem Cluster.doMpre_canon (c : Cluster) (a : Nat) (o : MacroOp) (k_c : c.canon) : (c.doMpre a o).canon :=
  by simp (maxDischargeDepth := 40) +contextual [Cluster.doMpre, *]
@[simp] theorem Cluster.doMpre_ident (c : Cluster) (a : Nat) (o : MacroOp) : (c.doMpre a o).ident = c.ident :=
  by simp (maxDischargeDepth := 40) +contextual [Cluster.doMpre, *]
@[simp] theorem mpreC_canon (c : Cluster) (a : Nat) (k_c : c.canon) : (mpreC c a).canon :=
  by simp (maxDischargeDepth := 40) +contextual [mpreC, *]
@[simp] theorem mpreC_ident (c : Cluster) (a : Nat) : (mpreC c a).ident = c.ident :=
  by simp (maxDischargeDepth := 40) +contextual [mpreC, *]
@[simp] theorem mnulC_canon (c : Cluster) (a : Nat) (k_c : c.canon) : (mnulC c a).canon :=
  by simp (maxDischargeDepth := 40) +contextual [mnulC, *]
@[simp] theorem mnulC_ident (c : Cluster) (a : Nat) : (mnulC c a).ident = c.ident :=
  by simp (maxDischargeDepth := 40) +contextual [mnulC, *]

end Sys2Proof.Machine
end

