-- ==== Sys2Proof/Laws/CanonVerExp.lean ====
section
/-! SUPPORT. Every operation of Machine/VerExp.lean keeps the canonical form of the stores and the identity of the cluster. -/

namespace Sys2Proof.Machine

@[simp] theorem Cluster.traced_canon (v : Cluster) (n : Nat) (tm : List MacroOp) (k_v : v.canon) : (v.traced n tm).canon :=
  by simp (maxDischargeDepth := 40) +contextual [Cluster.traced, *]
@[simp] theorem Cluster.traced_ident (v : Cluster) (n : Nat) (tm : List MacroOp) : (v.traced n tm).ident = v.ident :=
  by simp (maxDischargeDepth := 40) +contextual [Cluster.traced, *]
@[simp] theorem Cluster.traceAt_canon (v : Cluster) (s : Scn) (n : Nat) (t : Nat) (k_v : v.canon) : (v.traceAt s n t).canon :=
  by simp (maxDischargeDepth := 40) +contextual [Cluster.traceAt, *]
@[simp] theorem Cluster.traceAt_ident (v : Cluster) (s : Scn) (n : Nat) (t : Nat) : (v.traceAt s n t).ident = v.ident :=
  by simp (maxDischargeDepth := 40) +contextual [Cluster.traceAt, *]
@[simp] theorem Cluster.atOp_canon (v : Cluster) (s : Scn) (q : Nat) (o : MacroOp) (k_v : v.canon) : (v.atOp s q o).canon :=
  by simp (maxDischargeDepth := 40) +contextual [Cluster.atOp, *]
@[simp] theorem Cluster.atOp_ident (v : Cluster) (s : Scn) (q : Nat) (o : MacroOp) : (v.atOp s q o).ident = v.ident :=
  by simp (maxDischargeDepth := 40) +contextual [Cluster.atOp, *]

end Sys2Proof.Machine
end

