-- ==== Sys2Proof/Laws/CanonIntake.lean ====
section
/-! SUPPORT. Every operation of Machine/Intake.lean keeps the canonical form of the stores and the identity of the cluster. -/

namespace Sys2Proof.Machine

@[simp] theorem Cluster.verdict_canon (c : Cluster) (w : W64) (k_c : c.canon) : (c.verdict w).canon :=
  by simp (maxDischargeDepth := 40) +contextual [Cluster.verdict, *]
@[simp] theorem Cluster.verdict_ident (c : Cluster) (w : W64) : (c.verdict w).ident = c.ident :=
  by simp (maxDischargeDepth := 40) +contextual [Cluster.verdict, *]
@[simp] theorem Cluster.reject_canon (c : Cluster) (r : Rej) (k_c : c.canon) : (c.reject r).canon :=
  by simp (maxDischargeDepth := 40) +contextual [Cluster.reject, *]
@[simp] theorem Cluster.reject_ident (c : Cluster) (r : Rej) : (c.reject r).ident = c.ident :=
  by simp (maxDischargeDepth := 40) +contextual [Cluster.reject, *]
@[simp] theorem openIntakeC_canon (c : Cluster) (k_c : c.canon) : (openIntakeC c).canon :=
  by simp (maxDischargeDepth := 40) +contextual [openIntakeC, *]
@[simp] theorem openIntakeC_ident (c : Cluster) : (openIntakeC c).ident = c.ident :=
  by simp (maxDischargeDepth := 40) +contextual [openIntakeC, *]
@[simp] theorem abandonC_canon (c : Cluster) (k_c : c.canon) : (abandonC c).canon :=
  by simp (maxDischargeDepth := 40) +contextual [abandonC, *]
@[simp] theorem abandonC_ident (c : Cluster) : (abandonC c).ident = c.ident :=
  by simp (maxDischargeDepth := 40) +contextual [abandonC, *]
@[simp] theorem Cluster.under_canon (c : Cluster) (b : Nat) (p : Plan) (k_c : c.canon) : (c.under b p).canon :=
  by simp (maxDischargeDepth := 40) +contextual [Cluster.under, *]
@[simp] theorem Cluster.under_ident (c : Cluster) (b : Nat) (p : Plan) : (c.under b p).ident = c.ident :=
  by simp (maxDischargeDepth := 40) +contextual [Cluster.under, *]
@[simp] theorem Cluster.readStage_canon (c : Cluster) (k : Nat) (lo : Nat) (n : Nat) (k_c : c.canon) : (c.readStage k lo n).canon :=
  by simp (maxDischargeDepth := 40) +contextual [Cluster.readStage, *]
@[simp] theorem Cluster.readStage_ident (c : Cluster) (k : Nat) (lo : Nat) (n : Nat) : (c.readStage k lo n).ident = c.ident :=
  by simp (maxDischargeDepth := 40) +contextual [Cluster.readStage, *]
@[simp] theorem Cluster.beginCheckImg_canon (c : Cluster) (k_c : c.canon) : c.beginCheckImg.canon :=
  by simp (maxDischargeDepth := 40) +contextual [Cluster.beginCheckImg, *]
@[simp] theorem Cluster.beginCheckImg_ident (c : Cluster) : c.beginCheckImg.ident = c.ident :=
  by simp (maxDischargeDepth := 40) +contextual [Cluster.beginCheckImg, *]
@[simp] theorem Cluster.stageDone_canon (c : Cluster) (id : Nat) (k : Nat) (k_c : c.canon) : (c.stageDone id k).canon :=
  by unfold Cluster.stageDone; dsimp only; (repeat' split) <;> simp (maxDischargeDepth := 40) +contextual [*]
@[simp] theorem Cluster.stageDone_ident (c : Cluster) (id : Nat) (k : Nat) : (c.stageDone id k).ident = c.ident :=
  by unfold Cluster.stageDone; dsimp only; (repeat' split) <;> simp (maxDischargeDepth := 40) +contextual [*]
@[simp] theorem commitC_canon (c : Cluster) (k_c : c.canon) : (commitC c).canon :=
  by unfold commitC; (repeat' (first | split | intro _)) <;> simp (maxDischargeDepth := 40) +contextual [*]
@[simp] theorem commitC_ident (c : Cluster) : (commitC c).ident = c.ident :=
  by unfold commitC; (repeat' (first | split | intro _)) <;> simp (maxDischargeDepth := 40) +contextual [*]
@[simp] theorem acceptanceVerdictC_canon (c : Cluster) (accept : Bool) (k_c : c.canon) : (acceptanceVerdictC c accept).canon :=
  by unfold acceptanceVerdictC; dsimp only; (repeat' split) <;> simp (maxDischargeDepth := 40) +contextual [*]
@[simp] theorem acceptanceVerdictC_ident (c : Cluster) (accept : Bool) : (acceptanceVerdictC c accept).ident = c.ident :=
  by unfold acceptanceVerdictC; dsimp only; (repeat' split) <;> simp (maxDischargeDepth := 40) +contextual [*]
@[simp] theorem acceptTimeoutC_canon (c : Cluster) (k_c : c.canon) : (acceptTimeoutC c).canon :=
  by simp (maxDischargeDepth := 40) +contextual [acceptTimeoutC, *]
@[simp] theorem acceptTimeoutC_ident (c : Cluster) : (acceptTimeoutC c).ident = c.ident :=
  by simp (maxDischargeDepth := 40) +contextual [acceptTimeoutC, *]
@[simp] theorem Cluster.admitCtx_canon (c : Cluster) (k : Nat) (k_c : c.canon) : (c.admitCtx k).canon :=
  by simp (maxDischargeDepth := 40) +contextual [Cluster.admitCtx, *]
@[simp] theorem Cluster.admitCtx_ident (c : Cluster) (k : Nat) : (c.admitCtx k).ident = c.ident :=
  by simp (maxDischargeDepth := 40) +contextual [Cluster.admitCtx, *]
@[simp] theorem Cluster.admitCores_canon (c : Cluster) (k_c : c.canon) : c.admitCores.canon :=
  by simp (maxDischargeDepth := 40) +contextual [Cluster.admitCores, *]
@[simp] theorem Cluster.admitCores_ident (c : Cluster) : c.admitCores.ident = c.ident :=
  by simp (maxDischargeDepth := 40) +contextual [Cluster.admitCores, *]
@[simp] theorem Cluster.imgRecord_canon (c : Cluster) (slot : Nat) (im : Img) (k_c : c.canon) : (c.imgRecord slot im).canon :=
  by simp (maxDischargeDepth := 40) +contextual [Cluster.imgRecord, *]
@[simp] theorem Cluster.imgRecord_ident (c : Cluster) (slot : Nat) (im : Img) : (c.imgRecord slot im).ident = c.ident :=
  by simp (maxDischargeDepth := 40) +contextual [Cluster.imgRecord, *]
@[simp] theorem Cluster.takeIn_canon (c : Cluster) (p : Plan) (slot : Nat) (k_c : c.canon) : (c.takeIn p slot).canon :=
  by simp (maxDischargeDepth := 40) +contextual [Cluster.takeIn, *]
@[simp] theorem Cluster.takeIn_ident (c : Cluster) (p : Plan) (slot : Nat) : (c.takeIn p slot).ident = c.ident :=
  by simp (maxDischargeDepth := 40) +contextual [Cluster.takeIn, *]
@[simp] theorem admissionC_canon (c : Cluster) (k_c : c.canon) : (admissionC c).canon :=
  by unfold admissionC; (repeat' (first | split | intro _)) <;> simp (maxDischargeDepth := 40) +contextual [*]
@[simp] theorem admissionC_ident (c : Cluster) : (admissionC c).ident = c.ident :=
  by unfold admissionC; (repeat' (first | split | intro _)) <;> simp (maxDischargeDepth := 40) +contextual [*]
@[simp] theorem retireC_canon (c : Cluster) (slot : Nat) (k_c : c.canon) : (retireC c slot).canon :=
  by unfold retireC; (repeat' (first | split | intro _)) <;> simp (maxDischargeDepth := 40) +contextual [*]
@[simp] theorem retireC_ident (c : Cluster) (slot : Nat) : (retireC c slot).ident = c.ident :=
  by unfold retireC; (repeat' (first | split | intro _)) <;> simp (maxDischargeDepth := 40) +contextual [*]
@[simp] theorem retirementC_canon (c : Cluster) (slot : Nat) (k_c : c.canon) : (retirementC c slot).canon :=
  by unfold retirementC; (repeat' (first | split | intro _)) <;> simp (maxDischargeDepth := 40) +contextual [*]
@[simp] theorem retirementC_ident (c : Cluster) (slot : Nat) : (retirementC c slot).ident = c.ident :=
  by unfold retirementC; (repeat' (first | split | intro _)) <;> simp (maxDischargeDepth := 40) +contextual [*]

end Sys2Proof.Machine
end

