-- ==== Sys2Proof/Laws/CanonMoss.lean ====
section
/-! SUPPORT. Every operation of Machine/Moss.lean keeps the canonical form of the stores and the identity of the cluster. -/

namespace Sys2Proof.Machine

@[simp] theorem Cluster.putFrame_canon (c : Cluster) (bs : List Byte) (k_c : c.canon) : (c.putFrame bs).canon :=
  by simp (maxDischargeDepth := 40) +contextual [Cluster.putFrame, *]
@[simp] theorem Cluster.putFrame_ident (c : Cluster) (bs : List Byte) : (c.putFrame bs).ident = c.ident :=
  by simp (maxDischargeDepth := 40) +contextual [Cluster.putFrame, *]
@[simp] theorem Cluster.takeFrame_canon (c : Cluster) (bs : List Byte) (ty : Nat) (f : Cluster → Cluster) (k_c : c.canon) (k_f : ∀ d, d.canon → (f d).canon) : (c.takeFrame bs ty f).canon :=
  by simp (maxDischargeDepth := 40) +contextual [Cluster.takeFrame, *]
@[simp] theorem Cluster.takeFrame_ident (c : Cluster) (bs : List Byte) (ty : Nat) (f : Cluster → Cluster) (k_f : ∀ d, (f d).ident = d.ident) : (c.takeFrame bs ty f).ident = c.ident :=
  by simp (maxDischargeDepth := 40) +contextual [Cluster.takeFrame, *]
@[simp] theorem frameForwardC_canon (c : Cluster) (bs : List Byte) (k_c : c.canon) : (frameForwardC c bs).canon :=
  by simp (maxDischargeDepth := 40) +contextual [frameForwardC, *]
@[simp] theorem frameForwardC_ident (c : Cluster) (bs : List Byte) : (frameForwardC c bs).ident = c.ident :=
  by simp (maxDischargeDepth := 40) +contextual [frameForwardC, *]
@[simp] theorem Cluster.dbgRegs_canon (c : Cluster) (a : Nat) (y2 : Nat) (k_c : c.canon)  : (c.dbgRegs a y2).2.canon :=
  by
  induction y2 generalizing c a with
  | zero => exact k_c
  | succ m ih =>
    unfold Cluster.dbgRegs
    (try dsimp only)
    apply ih
    simp [k_c]
@[simp] theorem Cluster.dbgRegs_ident (c : Cluster) (a : Nat) (y2 : Nat)  : (c.dbgRegs a y2).2.ident = c.ident :=
  by
  induction y2 generalizing c a with
  | zero => rfl
  | succ m ih =>
    unfold Cluster.dbgRegs
    (try dsimp only)
    rw [ih]
    simp
@[simp] theorem Cluster.dbgStep_canon (c : Cluster) (n : Nat) (k_c : c.canon) : (c.dbgStep n).canon :=
  by simp (maxDischargeDepth := 40) +contextual [Cluster.dbgStep, *]
@[simp] theorem Cluster.dbgStep_ident (c : Cluster) (n : Nat) : (c.dbgStep n).ident = c.ident :=
  by simp (maxDischargeDepth := 40) +contextual [Cluster.dbgStep, *]
@[simp] theorem Cluster.dbgRead_canon (c : Cluster) (n : Nat) (done_ : BDone) (k_c : c.canon) : (c.dbgRead n done_).2.canon :=
  by unfold Cluster.dbgRead; dsimp only; (repeat' split) <;> simp (maxDischargeDepth := 40) +contextual [*]
@[simp] theorem Cluster.dbgRead_ident (c : Cluster) (n : Nat) (done_ : BDone) : (c.dbgRead n done_).2.ident = c.ident :=
  by unfold Cluster.dbgRead; dsimp only; (repeat' split) <;> simp (maxDischargeDepth := 40) +contextual [*]
@[simp] theorem Cluster.dbgForce_canon (c : Cluster) (s0 : Nat) (v : W32) (k_c : c.canon) : (c.dbgForce s0 v).canon :=
  by simp (maxDischargeDepth := 40) +contextual [Cluster.dbgForce, *]
@[simp] theorem Cluster.dbgForce_ident (c : Cluster) (s0 : Nat) (v : W32) : (c.dbgForce s0 v).ident = c.ident :=
  by simp (maxDischargeDepth := 40) +contextual [Cluster.dbgForce, *]
@[simp] theorem Cluster.dbgPutReg_canon (c : Cluster) (maint : Bool) (a : Nat) (v : W32) (k_c : c.canon) : (c.dbgPutReg maint a v).canon :=
  by simp (maxDischargeDepth := 40) +contextual [Cluster.dbgPutReg, *]
@[simp] theorem Cluster.dbgPutReg_ident (c : Cluster) (maint : Bool) (a : Nat) (v : W32) : (c.dbgPutReg maint a v).ident = c.ident :=
  by simp (maxDischargeDepth := 40) +contextual [Cluster.dbgPutReg, *]
@[simp] theorem Cluster.dbgPutRegs_canon (c : Cluster) (maint : Bool) (a : Nat) (bs : List Byte) (k_c : c.canon) : (c.dbgPutRegs maint a bs).canon :=
  by simp (maxDischargeDepth := 40) +contextual [Cluster.dbgPutRegs, *]
@[simp] theorem Cluster.dbgPutRegs_ident (c : Cluster) (maint : Bool) (a : Nat) (bs : List Byte) : (c.dbgPutRegs maint a bs).ident = c.ident :=
  by simp (maxDischargeDepth := 40) +contextual [Cluster.dbgPutRegs, *]
@[simp] theorem Cluster.dbgPutTiles_canon (c : Cluster) (a : Nat) (bs : List Byte) (k_c : c.canon) : (c.dbgPutTiles a bs).canon :=
  by simp (maxDischargeDepth := 40) +contextual [Cluster.dbgPutTiles, *]
@[simp] theorem Cluster.dbgPutTiles_ident (c : Cluster) (a : Nat) (bs : List Byte) : (c.dbgPutTiles a bs).ident = c.ident :=
  by simp (maxDischargeDepth := 40) +contextual [Cluster.dbgPutTiles, *]
@[simp] theorem Cluster.dbgWrite_canon (c : Cluster) (maint : Bool) (bs : List Byte) (k_c : c.canon) : (c.dbgWrite maint bs).canon :=
  by unfold Cluster.dbgWrite; dsimp only; (repeat' split) <;> simp (maxDischargeDepth := 40) +contextual [*]
@[simp] theorem Cluster.dbgWrite_ident (c : Cluster) (maint : Bool) (bs : List Byte) : (c.dbgWrite maint bs).ident = c.ident :=
  by unfold Cluster.dbgWrite; dsimp only; (repeat' split) <;> simp (maxDischargeDepth := 40) +contextual [*]
@[simp] theorem Cluster.boolCmd_canon (c : Cluster) (i : Nat) (s : Nat) (v : Nat) (f : Cluster → Cluster) (k_c : c.canon) (k_f : ∀ d, d.canon → (f d).canon) : (c.boolCmd i s v f).canon :=
  by simp (maxDischargeDepth := 40) +contextual [Cluster.boolCmd, *]
@[simp] theorem Cluster.boolCmd_ident (c : Cluster) (i : Nat) (s : Nat) (v : Nat) (f : Cluster → Cluster) (k_f : ∀ d, (f d).ident = d.ident) : (c.boolCmd i s v f).ident = c.ident :=
  by simp (maxDischargeDepth := 40) +contextual [Cluster.boolCmd, *]
@[simp] theorem Cluster.intakeCmd_canon (c : Cluster) (v : Nat) (k_c : c.canon) : (c.intakeCmd v).canon :=
  by simp (maxDischargeDepth := 40) +contextual [Cluster.intakeCmd, *]
@[simp] theorem Cluster.intakeCmd_ident (c : Cluster) (v : Nat) : (c.intakeCmd v).ident = c.ident :=
  by simp (maxDischargeDepth := 40) +contextual [Cluster.intakeCmd, *]
theorem Cluster.applyUnits_canon {c d : Cluster} {g : Grants} {i s v : Nat} (h : c.applyUnits g i s v = some d) (k : c.canon) : d.canon := by
  unfold Cluster.applyUnits at h
  repeat' split at h
  all_goals first | (cases h; done) | (cases h; (repeat' split) <;> simp (maxDischargeDepth := 40) +contextual [*]) | (cases h; apply Cluster.written_canon <;> (intros; (repeat' split) <;> simp [*]))
theorem Cluster.applyUnits_ident {c d : Cluster} {g : Grants} {i s v : Nat} (h : c.applyUnits g i s v = some d) : d.ident = c.ident := by
  unfold Cluster.applyUnits at h
  repeat' split at h
  all_goals first | (cases h; done) | (cases h; (repeat' split) <;> simp (maxDischargeDepth := 40) +contextual [*]) | (cases h; apply Cluster.written_ident <;> (intros; (repeat' split) <;> simp [*]))
theorem Cluster.applySched_canon {c d : Cluster} {i s v : Nat} (h : c.applySched i s v = some d) (k : c.canon) : d.canon := by
  unfold Cluster.applySched at h
  repeat' split at h
  all_goals first | (cases h; done) | (cases h; (repeat' split) <;> simp (maxDischargeDepth := 40) +contextual [*]) | (cases h; apply Cluster.written_canon <;> (intros; (repeat' split) <;> simp [*]))
theorem Cluster.applySched_ident {c d : Cluster} {i s v : Nat} (h : c.applySched i s v = some d) : d.ident = c.ident := by
  unfold Cluster.applySched at h
  repeat' split at h
  all_goals first | (cases h; done) | (cases h; (repeat' split) <;> simp (maxDischargeDepth := 40) +contextual [*]) | (cases h; apply Cluster.written_ident <;> (intros; (repeat' split) <;> simp [*]))
theorem Cluster.applyLinks_canon {c d : Cluster} {g : Grants} {i s : Nat} {p : List Byte} (h : c.applyLinks g i s p = some d) (k : c.canon) : d.canon := by
  unfold Cluster.applyLinks at h
  dsimp only at h
  repeat' split at h
  all_goals first | (cases h; done) | (cases h; (repeat' split) <;> simp (maxDischargeDepth := 40) +contextual [*]) | (cases h; apply Cluster.written_canon <;> (intros; (repeat' split) <;> simp [*]))
theorem Cluster.applyLinks_ident {c d : Cluster} {g : Grants} {i s : Nat} {p : List Byte} (h : c.applyLinks g i s p = some d) : d.ident = c.ident := by
  unfold Cluster.applyLinks at h
  dsimp only at h
  repeat' split at h
  all_goals first | (cases h; done) | (cases h; (repeat' split) <;> simp (maxDischargeDepth := 40) +contextual [*]) | (cases h; apply Cluster.written_ident <;> (intros; (repeat' split) <;> simp [*]))
theorem Cluster.applyOwn_canon {c d : Cluster} {g : Grants} {i s : Nat} {p : List Byte} (h : c.applyOwn g i s p = some d) (k : c.canon) : d.canon := by
  unfold Cluster.applyOwn at h
  split at h
  · rename_i h1; cases h; exact Cluster.applyUnits_canon h1 k
  · split at h
    · rename_i h1; cases h; exact Cluster.applySched_canon h1 k
    · exact Cluster.applyLinks_canon h k
theorem Cluster.applyOwn_ident {c d : Cluster} {g : Grants} {i s : Nat} {p : List Byte} (h : c.applyOwn g i s p = some d) : d.ident = c.ident := by
  unfold Cluster.applyOwn at h
  split at h
  · rename_i h1; cases h; exact Cluster.applyUnits_ident h1
  · split at h
    · rename_i h1; cases h; exact Cluster.applySched_ident h1
    · exact Cluster.applyLinks_ident h
@[simp] theorem Cluster.storeEntry_canon (c : Cluster) (i : Nat) (s : Nat) (v : Nat) (k_c : c.canon) : (c.storeEntry i s v).canon :=
  by simp (maxDischargeDepth := 40) +contextual [Cluster.storeEntry, *]
@[simp] theorem Cluster.storeEntry_ident (c : Cluster) (i : Nat) (s : Nat) (v : Nat) : (c.storeEntry i s v).ident = c.ident :=
  by simp (maxDischargeDepth := 40) +contextual [Cluster.storeEntry, *]
@[simp] theorem Cluster.applyWrite_canon (c : Cluster) (g : Grants) (i : Nat) (s : Nat) (payload : List Byte) (k_c : c.canon) : (c.applyWrite g i s payload).canon :=
  by
  unfold Cluster.applyWrite
  cases h : c.applyOwn g i s payload with
  | none => simp [k_c]
  | some d => exact Cluster.applyOwn_canon h k_c
@[simp] theorem Cluster.applyWrite_ident (c : Cluster) (g : Grants) (i : Nat) (s : Nat) (payload : List Byte) : (c.applyWrite g i s payload).ident = c.ident :=
  by
  unfold Cluster.applyWrite
  cases h : c.applyOwn g i s payload with
  | none => simp
  | some d => exact Cluster.applyOwn_ident h
@[simp] theorem Cluster.sendResp_canon (c : Cluster) (bs : List Byte) (resp : List Byte) (k_c : c.canon) : (c.sendResp bs resp).canon :=
  by simp (maxDischargeDepth := 40) +contextual [Cluster.sendResp, *]
@[simp] theorem Cluster.sendResp_ident (c : Cluster) (bs : List Byte) (resp : List Byte) : (c.sendResp bs resp).ident = c.ident :=
  by simp (maxDischargeDepth := 40) +contextual [Cluster.sendResp, *]
@[simp] theorem Cluster.respond_canon (c : Cluster) (bs : List Byte) (st : Nat) (payload : List Byte) (k_c : c.canon) : (c.respond bs st payload).canon :=
  by simp (maxDischargeDepth := 40) +contextual [Cluster.respond, *]
@[simp] theorem Cluster.respond_ident (c : Cluster) (bs : List Byte) (st : Nat) (payload : List Byte) : (c.respond bs st payload).ident = c.ident :=
  by simp (maxDischargeDepth := 40) +contextual [Cluster.respond, *]
@[simp] theorem Cluster.served_canon (c : Cluster) (k_c : c.canon) : c.served.canon :=
  by simp (maxDischargeDepth := 40) +contextual [Cluster.served, *]
@[simp] theorem Cluster.served_ident (c : Cluster) : c.served.ident = c.ident :=
  by simp (maxDischargeDepth := 40) +contextual [Cluster.served, *]
@[simp] theorem Cluster.serveRead_canon (c : Cluster) (bs : List Byte) (k_c : c.canon) : (c.serveRead bs).canon :=
  by unfold Cluster.serveRead; dsimp only; (repeat' split) <;> simp (maxDischargeDepth := 40) +contextual [*]
@[simp] theorem Cluster.serveRead_ident (c : Cluster) (bs : List Byte) : (c.serveRead bs).ident = c.ident :=
  by unfold Cluster.serveRead; dsimp only; (repeat' split) <;> simp (maxDischargeDepth := 40) +contextual [*]
@[simp] theorem Cluster.serveWrite_canon (c : Cluster) (bs : List Byte) (k_c : c.canon) : (c.serveWrite bs).canon :=
  by unfold Cluster.serveWrite; dsimp only; (repeat' split) <;> simp (maxDischargeDepth := 40) +contextual [*]
@[simp] theorem Cluster.serveWrite_ident (c : Cluster) (bs : List Byte) : (c.serveWrite bs).ident = c.ident :=
  by unfold Cluster.serveWrite; dsimp only; (repeat' split) <;> simp (maxDischargeDepth := 40) +contextual [*]
@[simp] theorem Cluster.takeRequest_canon (c : Cluster) (bs : List Byte) (ty : Nat) (g : Grants) (serve : Cluster → Cluster) (k_c : c.canon) (k_serve : ∀ d, d.canon → (serve d).canon) : (c.takeRequest bs ty g serve).canon :=
  by simp (maxDischargeDepth := 40) +contextual [Cluster.takeRequest, *]
@[simp] theorem Cluster.takeRequest_ident (c : Cluster) (bs : List Byte) (ty : Nat) (g : Grants) (serve : Cluster → Cluster) (k_serve : ∀ d, (serve d).ident = d.ident) : (c.takeRequest bs ty g serve).ident = c.ident :=
  by simp (maxDischargeDepth := 40) +contextual [Cluster.takeRequest, *]
@[simp] theorem readFrameC_canon (c : Cluster) (bs : List Byte) (g : Grants) (k_c : c.canon) : (readFrameC c bs g).canon :=
  by simp (maxDischargeDepth := 40) +contextual [readFrameC, *]
@[simp] theorem readFrameC_ident (c : Cluster) (bs : List Byte) (g : Grants) : (readFrameC c bs g).ident = c.ident :=
  by simp (maxDischargeDepth := 40) +contextual [readFrameC, *]
@[simp] theorem writeFrameC_canon (c : Cluster) (bs : List Byte) (g : Grants) (k_c : c.canon) : (writeFrameC c bs g).canon :=
  by simp (maxDischargeDepth := 40) +contextual [writeFrameC, *]
@[simp] theorem writeFrameC_ident (c : Cluster) (bs : List Byte) (g : Grants) : (writeFrameC c bs g).ident = c.ident :=
  by simp (maxDischargeDepth := 40) +contextual [writeFrameC, *]
@[simp] theorem Cluster.serveNext_canon (c : Cluster) (k_c : c.canon) : c.serveNext.canon :=
  by unfold Cluster.serveNext; (repeat' (first | split | intro _)) <;> simp (maxDischargeDepth := 40) +contextual [*]
@[simp] theorem Cluster.serveNext_ident (c : Cluster) : c.serveNext.ident = c.ident :=
  by unfold Cluster.serveNext; (repeat' (first | split | intro _)) <;> simp (maxDischargeDepth := 40) +contextual [*]
@[simp] theorem Cluster.refuseDebug_canon (c : Cluster) (k_c : c.canon) : c.refuseDebug.canon :=
  by unfold Cluster.refuseDebug; (repeat' (first | split | intro _)) <;> simp (maxDischargeDepth := 40) +contextual [*]
@[simp] theorem Cluster.refuseDebug_ident (c : Cluster) : c.refuseDebug.ident = c.ident :=
  by unfold Cluster.refuseDebug; (repeat' (first | split | intro _)) <;> simp (maxDischargeDepth := 40) +contextual [*]
@[simp] theorem Cluster.mossCycle_canon (c : Cluster) (k_c : c.canon) : c.mossCycle.canon :=
  by simp (maxDischargeDepth := 40) +contextual [Cluster.mossCycle, *]
@[simp] theorem Cluster.mossCycle_ident (c : Cluster) : c.mossCycle.ident = c.ident :=
  by simp (maxDischargeDepth := 40) +contextual [Cluster.mossCycle, *]
@[simp] theorem Cluster.debugDone_canon (c : Cluster) (bs : List Byte) (data : List Byte) (k_c : c.canon) : (c.debugDone bs data).canon :=
  by simp (maxDischargeDepth := 40) +contextual [Cluster.debugDone, *]
@[simp] theorem Cluster.debugDone_ident (c : Cluster) (bs : List Byte) (data : List Byte) : (c.debugDone bs data).ident = c.ident :=
  by simp (maxDischargeDepth := 40) +contextual [Cluster.debugDone, *]
@[simp] theorem evackC_canon (c : Cluster) (bs : List Byte) (k_c : c.canon) : (evackC c bs).canon :=
  by
  unfold evackC
  refine Cluster.takeFrame_canon _ _ _ _ k_c (fun d h => ?_)
  (try dsimp only)
  (repeat' split) <;> exact h
@[simp] theorem evackC_ident (c : Cluster) (bs : List Byte) : (evackC c bs).ident = c.ident :=
  by
  unfold evackC
  refine Cluster.takeFrame_ident _ _ _ _ (fun d => ?_)
  (try dsimp only)
  (repeat' split) <;> rfl
@[simp] theorem Cluster.sendEvent_canon (c : Cluster) (e : Event) (k_c : c.canon) : (c.sendEvent e).canon :=
  by simp (maxDischargeDepth := 40) +contextual [Cluster.sendEvent, *]
@[simp] theorem Cluster.sendEvent_ident (c : Cluster) (e : Event) : (c.sendEvent e).ident = c.ident :=
  by simp (maxDischargeDepth := 40) +contextual [Cluster.sendEvent, *]
@[simp] theorem eventSendC_canon (c : Cluster) (k_c : c.canon) : (eventSendC c).canon :=
  by unfold eventSendC; (repeat' (first | split | intro _)) <;> simp (maxDischargeDepth := 40) +contextual [*]
@[simp] theorem eventSendC_ident (c : Cluster) : (eventSendC c).ident = c.ident :=
  by unfold eventSendC; (repeat' (first | split | intro _)) <;> simp (maxDischargeDepth := 40) +contextual [*]
@[simp] theorem eventResendC_canon (c : Cluster) (k_c : c.canon) : (eventResendC c).canon :=
  by unfold eventResendC; (repeat' (first | split | intro _)) <;> simp (maxDischargeDepth := 40) +contextual [*]
@[simp] theorem eventResendC_ident (c : Cluster) : (eventResendC c).ident = c.ident :=
  by unfold eventResendC; (repeat' (first | split | intro _)) <;> simp (maxDischargeDepth := 40) +contextual [*]
@[simp] theorem dictWriteC_canon (c : Cluster) (i : Nat) (s : Nat) (value : List Byte) (g : Grants) (k_c : c.canon) : (dictWriteC c i s value g).canon :=
  by simp (maxDischargeDepth := 40) +contextual [dictWriteC, *]
@[simp] theorem dictWriteC_ident (c : Cluster) (i : Nat) (s : Nat) (value : List Byte) (g : Grants) : (dictWriteC c i s value g).ident = c.ident :=
  by simp (maxDischargeDepth := 40) +contextual [dictWriteC, *]
@[simp] theorem dbgdataReadC_canon (c : Cluster) (count : Nat) (g : Grants) (k_c : c.canon) : (dbgdataReadC c count g).canon :=
  by simp (maxDischargeDepth := 40) +contextual [dbgdataReadC, *]
@[simp] theorem dbgdataReadC_ident (c : Cluster) (count : Nat) (g : Grants) : (dbgdataReadC c count g).ident = c.ident :=
  by simp (maxDischargeDepth := 40) +contextual [dbgdataReadC, *]
@[simp] theorem dbgdataWriteC_canon (c : Cluster) (data : List Byte) (g : Grants) (k_c : c.canon) : (dbgdataWriteC c data g).canon :=
  by simp (maxDischargeDepth := 40) +contextual [dbgdataWriteC, *]
@[simp] theorem dbgdataWriteC_ident (c : Cluster) (data : List Byte) (g : Grants) : (dbgdataWriteC c data g).ident = c.ident :=
  by simp (maxDischargeDepth := 40) +contextual [dbgdataWriteC, *]

end Sys2Proof.Machine
end

