-- ==== Sys2Proof/Laws/CanonArbiter.lean ====
section
/-! SUPPORT. Every operation of Machine/Arbiter.lean keeps the canonical form of the stores and the identity of the cluster. -/

namespace Sys2Proof.Machine

@[simp] theorem Cluster.groupDone_canon (c : Cluster) (g : BGroup) (k_c : c.canon) : (c.groupDone g).canon :=
  by unfold Cluster.groupDone; (repeat' (first | split | intro _)) <;> simp (maxDischargeDepth := 40) +contextual [*]
@[simp] theorem Cluster.groupDone_ident (c : Cluster) (g : BGroup) : (c.groupDone g).ident = c.ident :=
  by unfold Cluster.groupDone; (repeat' (first | split | intro _)) <;> simp (maxDischargeDepth := 40) +contextual [*]
@[simp] theorem Cluster.groupEnd_canon (c : Cluster) (g : BGroup) (k_c : c.canon) : (c.groupEnd g).canon :=
  by unfold Cluster.groupEnd; (repeat' (first | split | intro _)) <;> simp (maxDischargeDepth := 40) +contextual [*]
@[simp] theorem Cluster.groupEnd_ident (c : Cluster) (g : BGroup) : (c.groupEnd g).ident = c.ident :=
  by unfold Cluster.groupEnd; (repeat' (first | split | intro _)) <;> simp (maxDischargeDepth := 40) +contextual [*]
@[simp] theorem Cluster.groupServe_canon (c : Cluster) (r : BReq) (bs : List Byte) (bad : Bool) (k_c : c.canon) : (c.groupServe r bs bad).canon :=
  by unfold Cluster.groupServe; dsimp only; (repeat' split) <;> simp (maxDischargeDepth := 40) +contextual [*]
@[simp] theorem Cluster.groupServe_ident (c : Cluster) (r : BReq) (bs : List Byte) (bad : Bool) : (c.groupServe r bs bad).ident = c.ident :=
  by unfold Cluster.groupServe; dsimp only; (repeat' split) <;> simp (maxDischargeDepth := 40) +contextual [*]
@[simp] theorem Cluster.areaLost_canon (c : Cluster) (r : BReq) (k_c : c.canon) : (c.areaLost r).canon :=
  by unfold Cluster.areaLost; (repeat' (first | split | intro _)) <;> simp (maxDischargeDepth := 40) +contextual [*]
@[simp] theorem Cluster.areaLost_ident (c : Cluster) (r : BReq) : (c.areaLost r).ident = c.ident :=
  by unfold Cluster.areaLost; (repeat' (first | split | intro _)) <;> simp (maxDischargeDepth := 40) +contextual [*]
@[simp] theorem Cluster.serveReq_canon (c : Cluster) (r : BReq) (k_c : c.canon) : (c.serveReq r).canon :=
  by unfold Cluster.serveReq; dsimp only; (repeat' split) <;> simp (maxDischargeDepth := 40) +contextual [*]
@[simp] theorem Cluster.serveReq_ident (c : Cluster) (r : BReq) : (c.serveReq r).ident = c.ident :=
  by unfold Cluster.serveReq; dsimp only; (repeat' split) <;> simp (maxDischargeDepth := 40) +contextual [*]
@[simp] theorem Cluster.arbiterServed_canon (c : Cluster) (p : Nat) (cls : Nat) (grp : Nat) (idx : Nat) (k_c : c.canon) : (c.arbiterServed p cls grp idx).canon :=
  by simp (maxDischargeDepth := 40) +contextual [Cluster.arbiterServed, *]
@[simp] theorem Cluster.arbiterServed_ident (c : Cluster) (p : Nat) (cls : Nat) (grp : Nat) (idx : Nat) : (c.arbiterServed p cls grp idx).ident = c.ident :=
  by simp (maxDischargeDepth := 40) +contextual [Cluster.arbiterServed, *]
@[simp] theorem boundaryAccessC_canon (c : Cluster) (p : Nat) (k_c : c.canon) : (boundaryAccessC c p).canon :=
  by unfold boundaryAccessC; (repeat' (first | split | intro _)) <;> simp (maxDischargeDepth := 40) +contextual [*]
@[simp] theorem boundaryAccessC_ident (c : Cluster) (p : Nat) : (boundaryAccessC c p).ident = c.ident :=
  by unfold boundaryAccessC; (repeat' (first | split | intro _)) <;> simp (maxDischargeDepth := 40) +contextual [*]

end Sys2Proof.Machine
end

