-- ==== Sys2Proof/Laws/CanonFabric.lean ====
section
/-! SUPPORT. Every operation of Machine/Fabric.lean keeps the canonical form of the stores and the identity of the cluster. -/

namespace Sys2Proof.Machine

@[simp] theorem Cluster.flitIn_canon (c : Cluster) (ty : Nat) (lane : Nat) (f : Flit) (deliver : Cluster → Cluster) (k_c : c.canon) (k_deliver : ∀ d, d.canon → (deliver d).canon) : (c.flitIn ty lane f deliver).canon :=
  by simp (maxDischargeDepth := 40) +contextual [Cluster.flitIn, *]
@[simp] theorem Cluster.flitIn_ident (c : Cluster) (ty : Nat) (lane : Nat) (f : Flit) (deliver : Cluster → Cluster) (k_deliver : ∀ d, (deliver d).ident = d.ident) : (c.flitIn ty lane f deliver).ident = c.ident :=
  by simp (maxDischargeDepth := 40) +contextual [Cluster.flitIn, *]
@[simp] theorem linkFlitC_canon (c : Cluster) (l : Nat) (f : Flit) (k_c : c.canon) : (linkFlitC c l f).canon :=
  by simp (maxDischargeDepth := 40) +contextual [linkFlitC, *]
@[simp] theorem linkFlitC_ident (c : Cluster) (l : Nat) (f : Flit) : (linkFlitC c l f).ident = c.ident :=
  by simp (maxDischargeDepth := 40) +contextual [linkFlitC, *]
@[simp] theorem rdReqC_canon (c : Cluster) (l : Nat) (f : Flit) (k_c : c.canon) : (rdReqC c l f).canon :=
  by simp (maxDischargeDepth := 40) +contextual [rdReqC, *]
@[simp] theorem rdReqC_ident (c : Cluster) (l : Nat) (f : Flit) : (rdReqC c l f).ident = c.ident :=
  by simp (maxDischargeDepth := 40) +contextual [rdReqC, *]
@[simp] theorem wrReqC_canon (c : Cluster) (l : Nat) (f : Flit) (k_c : c.canon) : (wrReqC c l f).canon :=
  by simp (maxDischargeDepth := 40) +contextual [wrReqC, *]
@[simp] theorem wrReqC_ident (c : Cluster) (l : Nat) (f : Flit) : (wrReqC c l f).ident = c.ident :=
  by simp (maxDischargeDepth := 40) +contextual [wrReqC, *]
@[simp] theorem rdDataC_canon (c : Cluster) (l : Nat) (f : Flit) (k_c : c.canon) : (rdDataC c l f).canon :=
  by simp (maxDischargeDepth := 40) +contextual [rdDataC, *]
@[simp] theorem rdDataC_ident (c : Cluster) (l : Nat) (f : Flit) : (rdDataC c l f).ident = c.ident :=
  by simp (maxDischargeDepth := 40) +contextual [rdDataC, *]
@[simp] theorem wrAckC_canon (c : Cluster) (l : Nat) (f : Flit) (k_c : c.canon) : (wrAckC c l f).canon :=
  by simp (maxDischargeDepth := 40) +contextual [wrAckC, *]
@[simp] theorem wrAckC_ident (c : Cluster) (l : Nat) (f : Flit) : (wrAckC c l f).ident = c.ident :=
  by simp (maxDischargeDepth := 40) +contextual [wrAckC, *]
@[simp] theorem errReplyC_canon (c : Cluster) (l : Nat) (f : Flit) (k_c : c.canon) : (errReplyC c l f).canon :=
  by simp (maxDischargeDepth := 40) +contextual [errReplyC, *]
@[simp] theorem errReplyC_ident (c : Cluster) (l : Nat) (f : Flit) : (errReplyC c l f).ident = c.ident :=
  by simp (maxDischargeDepth := 40) +contextual [errReplyC, *]
@[simp] theorem sporeFlitC_canon (c : Cluster) (l : Nat) (f : Flit) (k_c : c.canon) : (sporeFlitC c l f).canon :=
  by simp (maxDischargeDepth := 40) +contextual [sporeFlitC, *]
@[simp] theorem sporeFlitC_ident (c : Cluster) (l : Nat) (f : Flit) : (sporeFlitC c l f).ident = c.ident :=
  by simp (maxDischargeDepth := 40) +contextual [sporeFlitC, *]
@[simp] theorem spReplyC_canon (c : Cluster) (l : Nat) (f : Flit) (k_c : c.canon) : (spReplyC c l f).canon :=
  by simp (maxDischargeDepth := 40) +contextual [spReplyC, *]
@[simp] theorem spReplyC_ident (c : Cluster) (l : Nat) (f : Flit) : (spReplyC c l f).ident = c.ident :=
  by simp (maxDischargeDepth := 40) +contextual [spReplyC, *]
@[simp] theorem syncFlitC_canon (c : Cluster) (l : Nat) (f : Flit) (k_c : c.canon) : (syncFlitC c l f).canon :=
  by simp (maxDischargeDepth := 40) +contextual [syncFlitC, *]
@[simp] theorem syncFlitC_ident (c : Cluster) (l : Nat) (f : Flit) : (syncFlitC c l f).ident = c.ident :=
  by simp (maxDischargeDepth := 40) +contextual [syncFlitC, *]
@[simp] theorem sorusFlitC_canon (c : Cluster) (l : Nat) (f : Flit) (k_c : c.canon) : (sorusFlitC c l f).canon :=
  by simp (maxDischargeDepth := 40) +contextual [sorusFlitC, *]
@[simp] theorem sorusFlitC_ident (c : Cluster) (l : Nat) (f : Flit) : (sorusFlitC c l f).ident = c.ident :=
  by simp (maxDischargeDepth := 40) +contextual [sorusFlitC, *]
@[simp] theorem resendTimeoutC_canon (c : Cluster) (l : Nat) (k_c : c.canon) : (resendTimeoutC c l).canon :=
  by simp (maxDischargeDepth := 40) +contextual [resendTimeoutC, *]
@[simp] theorem resendTimeoutC_ident (c : Cluster) (l : Nat) : (resendTimeoutC c l).ident = c.ident :=
  by simp (maxDischargeDepth := 40) +contextual [resendTimeoutC, *]

end Sys2Proof.Machine
end

