-- ==== Sys2Proof/Laws/CanonCycle.lean ====
section
/-! SUPPORT. Every operation of Machine/Cycle.lean keeps the canonical form of the stores and the identity of the cluster. -/

namespace Sys2Proof.Machine

@[simp] theorem Cluster.landStream_canon (c : Cluster) (n : Nat) (t : Nat) (r : Nat) (off : Nat) (lo : Nat) (hi : Nat) (bs : List Byte) (k_c : c.canon) : (c.landStream n t r off lo hi bs).canon :=
  by simp (maxDischargeDepth := 40) +contextual [Cluster.landStream, *]
@[simp] theorem Cluster.landStream_ident (c : Cluster) (n : Nat) (t : Nat) (r : Nat) (off : Nat) (lo : Nat) (hi : Nat) (bs : List Byte) : (c.landStream n t r off lo hi bs).ident = c.ident :=
  by simp (maxDischargeDepth := 40) +contextual [Cluster.landStream, *]
@[simp] theorem Cluster.landRow_canon (c : Cluster) (n : Nat) (t : Nat) (r : Nat) (bs : List Byte) (k_c : c.canon) : (c.landRow n t r bs).canon :=
  by simp (maxDischargeDepth := 40) +contextual [Cluster.landRow, *]
@[simp] theorem Cluster.landRow_ident (c : Cluster) (n : Nat) (t : Nat) (r : Nat) (bs : List Byte) : (c.landRow n t r bs).ident = c.ident :=
  by simp (maxDischargeDepth := 40) +contextual [Cluster.landRow, *]
@[simp] theorem Cluster.deliver_canon (c : Cluster) (w : Post) (k_c : c.canon) : (c.deliver w).canon :=
  by unfold Cluster.deliver; (repeat' (first | split | intro _)) <;> simp (maxDischargeDepth := 40) +contextual [*]
@[simp] theorem Cluster.deliver_ident (c : Cluster) (w : Post) : (c.deliver w).ident = c.ident :=
  by unfold Cluster.deliver; (repeat' (first | split | intro _)) <;> simp (maxDischargeDepth := 40) +contextual [*]
@[simp] theorem Cluster.deliverAll_canon (c : Cluster) (skim : Bool) (k_c : c.canon) : (c.deliverAll skim).canon :=
  by simp (maxDischargeDepth := 40) +contextual [Cluster.deliverAll, *]
@[simp] theorem Cluster.deliverAll_ident (c : Cluster) (skim : Bool) : (c.deliverAll skim).ident = c.ident :=
  by simp (maxDischargeDepth := 40) +contextual [Cluster.deliverAll, *]
@[simp] theorem Cluster.unitReads_canon (c : Cluster) (k_c : c.canon) : c.unitReads.canon :=
  by simp (maxDischargeDepth := 40) +contextual [Cluster.unitReads, *]
@[simp] theorem Cluster.unitReads_ident (c : Cluster) : c.unitReads.ident = c.ident :=
  by simp (maxDischargeDepth := 40) +contextual [Cluster.unitReads, *]
@[simp] theorem Cluster.staticCycle_canon (c : Cluster) (k_c : c.canon) : c.staticCycle.canon :=
  by simp (maxDischargeDepth := 40) +contextual [Cluster.staticCycle, *]
@[simp] theorem Cluster.staticCycle_ident (c : Cluster) : c.staticCycle.ident = c.ident :=
  by simp (maxDischargeDepth := 40) +contextual [Cluster.staticCycle, *]
@[simp] theorem Cluster.enterUses_canon (c : Cluster) (k_c : c.canon) : c.enterUses.canon :=
  by simp (maxDischargeDepth := 40) +contextual [Cluster.enterUses, *]
@[simp] theorem Cluster.enterUses_ident (c : Cluster) : c.enterUses.ident = c.ident :=
  by simp (maxDischargeDepth := 40) +contextual [Cluster.enterUses, *]

end Sys2Proof.Machine
end

