-- ==== Sys2Proof/Laws/CanonTick.lean ====
section
/-! SUPPORT. Every operation of Machine/Tick.lean keeps the canonical form of the stores and the identity of the cluster. -/

namespace Sys2Proof.Machine

@[simp] theorem Cluster.passTk_canon (c : Cluster) (k_c : c.canon) : c.passTk.canon :=
  by simp (maxDischargeDepth := 40) +contextual [Cluster.passTk, *]
@[simp] theorem Cluster.passTk_ident (c : Cluster) : c.passTk.ident = c.ident :=
  by simp (maxDischargeDepth := 40) +contextual [Cluster.passTk, *]
@[simp] theorem Cluster.countStretch_canon (c : Cluster) (k_c : c.canon) : c.countStretch.canon :=
  by simp (maxDischargeDepth := 40) +contextual [Cluster.countStretch, *]
@[simp] theorem Cluster.countStretch_ident (c : Cluster) : c.countStretch.ident = c.ident :=
  by simp (maxDischargeDepth := 40) +contextual [Cluster.countStretch, *]
@[simp] theorem Cluster.countHeld_canon (c : Cluster) (k_c : c.canon) : c.countHeld.canon :=
  by unfold Cluster.countHeld; dsimp only; (repeat' split) <;> simp (maxDischargeDepth := 40) +contextual [*]
@[simp] theorem Cluster.countHeld_ident (c : Cluster) : c.countHeld.ident = c.ident :=
  by unfold Cluster.countHeld; dsimp only; (repeat' split) <;> simp (maxDischargeDepth := 40) +contextual [*]
@[simp] theorem Cluster.haltTurn_canon (c : Cluster) (was : Bool) (is_ : Bool) (t : Nat) (k_c : c.canon) : (c.haltTurn was is_ t).canon :=
  by simp (maxDischargeDepth := 40) +contextual [Cluster.haltTurn, *]
@[simp] theorem Cluster.haltTurn_ident (c : Cluster) (was : Bool) (is_ : Bool) (t : Nat) : (c.haltTurn was is_ t).ident = c.ident :=
  by simp (maxDischargeDepth := 40) +contextual [Cluster.haltTurn, *]
@[simp] theorem Cluster.ageHold_canon (c : Cluster) (k_c : c.canon) : c.ageHold.canon :=
  by unfold Cluster.ageHold; dsimp only; (repeat' split) <;> simp (maxDischargeDepth := 40) +contextual [*]
@[simp] theorem Cluster.ageHold_ident (c : Cluster) : c.ageHold.ident = c.ident :=
  by unfold Cluster.ageHold; dsimp only; (repeat' split) <;> simp (maxDischargeDepth := 40) +contextual [*]
@[simp] theorem Cluster.countFull_canon (c : Cluster) (k_c : c.canon) : c.countFull.canon :=
  by simp (maxDischargeDepth := 40) +contextual [Cluster.countFull, *]
@[simp] theorem Cluster.countFull_ident (c : Cluster) : c.countFull.ident = c.ident :=
  by simp (maxDischargeDepth := 40) +contextual [Cluster.countFull, *]
@[simp] theorem Cluster.endTorn_canon (c : Cluster) (k_c : c.canon) : c.endTorn.canon :=
  by
  unfold Cluster.endTorn
  exact Cluster.each_canon _ _ k_c (fun d x h => by (try dsimp only); repeat' split; all_goals simp (maxDischargeDepth := 40) +contextual [*])
@[simp] theorem Cluster.endTorn_ident (c : Cluster) : c.endTorn.ident = c.ident :=
  by
  unfold Cluster.endTorn
  exact Cluster.each_ident _ _ _ (fun d x => by (try dsimp only); repeat' split; all_goals simp (maxDischargeDepth := 40) +contextual [*])
@[simp] theorem Cluster.passCkm_canon (c : Cluster) (k_c : c.canon) : c.passCkm.canon :=
  by simp (maxDischargeDepth := 40) +contextual [Cluster.passCkm, *]
@[simp] theorem Cluster.passCkm_ident (c : Cluster) : c.passCkm.ident = c.ident :=
  by simp (maxDischargeDepth := 40) +contextual [Cluster.passCkm, *]
@[simp] theorem Cluster.passHalt_canon (c : Cluster) (k_c : c.canon) : c.passHalt.canon :=
  by simp (maxDischargeDepth := 40) +contextual [Cluster.passHalt, *]
@[simp] theorem Cluster.passHalt_ident (c : Cluster) : c.passHalt.ident = c.ident :=
  by simp (maxDischargeDepth := 40) +contextual [Cluster.passHalt, *]
@[simp] theorem Cluster.passClocks_canon (c : Cluster) (k_c : c.canon) : c.passClocks.canon :=
  by simp (maxDischargeDepth := 40) +contextual [Cluster.passClocks, *]
@[simp] theorem Cluster.passClocks_ident (c : Cluster) : c.passClocks.ident = c.ident :=
  by simp (maxDischargeDepth := 40) +contextual [Cluster.passClocks, *]
@[simp] theorem Cluster.stallStops_canon (c : Cluster) (k_c : c.canon) : c.stallStops.canon :=
  by simp (maxDischargeDepth := 40) +contextual [Cluster.stallStops, *]
@[simp] theorem Cluster.stallStops_ident (c : Cluster) : c.stallStops.ident = c.ident :=
  by simp (maxDischargeDepth := 40) +contextual [Cluster.stallStops, *]
@[simp] theorem Cluster.endIdle_canon (c : Cluster) (k_c : c.canon) : c.endIdle.canon :=
  by unfold Cluster.endIdle; (repeat' (first | split | intro _)) <;> simp (maxDischargeDepth := 40) +contextual [*]
@[simp] theorem Cluster.endIdle_ident (c : Cluster) : c.endIdle.ident = c.ident :=
  by unfold Cluster.endIdle; (repeat' (first | split | intro _)) <;> simp (maxDischargeDepth := 40) +contextual [*]
@[simp] theorem Cluster.passSave_canon (c : Cluster) (k_c : c.canon) : c.passSave.canon :=
  by unfold Cluster.passSave; (repeat' (first | split | intro _)) <;> simp (maxDischargeDepth := 40) +contextual [*]
@[simp] theorem Cluster.passSave_ident (c : Cluster) : c.passSave.ident = c.ident :=
  by unfold Cluster.passSave; (repeat' (first | split | intro _)) <;> simp (maxDischargeDepth := 40) +contextual [*]
@[simp] theorem Cluster.newCycle_canon (c : Cluster) (k_c : c.canon) : c.newCycle.canon :=
  by simp (maxDischargeDepth := 40) +contextual [Cluster.newCycle, *]
@[simp] theorem Cluster.newCycle_ident (c : Cluster) : c.newCycle.ident = c.ident :=
  by simp (maxDischargeDepth := 40) +contextual [Cluster.newCycle, *]
@[simp] theorem Cluster.passStatic_canon (c : Cluster) (k_c : c.canon) : c.passStatic.canon :=
  by simp (maxDischargeDepth := 40) +contextual [Cluster.passStatic, *]
@[simp] theorem Cluster.passStatic_ident (c : Cluster) : c.passStatic.ident = c.ident :=
  by simp (maxDischargeDepth := 40) +contextual [Cluster.passStatic, *]
@[simp] theorem Cluster.portCycle_canon (c : Cluster) (k_c : c.canon) : c.portCycle.canon :=
  by simp (maxDischargeDepth := 40) +contextual [Cluster.portCycle, *]
@[simp] theorem Cluster.portCycle_ident (c : Cluster) : c.portCycle.ident = c.ident :=
  by simp (maxDischargeDepth := 40) +contextual [Cluster.portCycle, *]
@[simp] theorem Cluster.passCycle_canon (c : Cluster) (k_c : c.canon) : c.passCycle.canon :=
  by simp (maxDischargeDepth := 40) +contextual [Cluster.passCycle, *]
@[simp] theorem Cluster.passCycle_ident (c : Cluster) : c.passCycle.ident = c.ident :=
  by simp (maxDischargeDepth := 40) +contextual [Cluster.passCycle, *]
@[simp] theorem Cluster.tick_canon (c : Cluster) (k_c : c.canon) : c.tick.canon :=
  by simp (maxDischargeDepth := 40) +contextual [Cluster.tick, *]
@[simp] theorem Cluster.tick_ident (c : Cluster) : c.tick.ident = c.ident :=
  by simp (maxDischargeDepth := 40) +contextual [Cluster.tick, *]

end Sys2Proof.Machine
end

