-- ==== Sys2Proof/Laws/Effects.lean ====
section
/-! SUPPORT. What the shared counters and the start of an op can change: each once, so that no later proof unfolds them. -/

namespace Sys2Proof.Machine

/-! The counters and latched records change registers alone. -/

theorem Cluster.bump_form (c : Cluster) (a e b n : Nat) : c.bump a e b n = { c with reg := (c.bump a e b n).reg } := by
  unfold Cluster.bump
  dsimp only
  split <;> rfl

theorem Cluster.stick_form (c : Cluster) (a hi lo n : Nat) : c.stick a hi lo n = { c with reg := (c.stick a hi lo n).reg } := rfl

theorem Cluster.latch_form (c : Cluster) (a : Nat) (v : W64) : c.latch a v = { c with reg := (c.latch a v).reg } := by
  unfold Cluster.latch
  split <;> rfl

theorem Cluster.account_form (c : Cluster) (k i n : Nat) : c.account k i n = { c with reg := (c.account k i n).reg } := by
  unfold Cluster.account
  dsimp only
  split <;> rfl

theorem Cluster.slip_form (c : Cluster) (q : Nat) (o : MacroOp) : c.slip q o = { c with reg := (c.slip q o).reg } := by
  unfold Cluster.slip
  split
  · rfl
  · dsimp only
    rw [Cluster.latch_form, Cluster.bump_form]

/-- The accounting of an op that starts changes registers alone. -/
theorem Cluster.startOp_form (c : Cluster) (q : Nat) (o : MacroOp) :
    (c.startOp q o).1 = { c with
      reg := (c.startOp q o).1.reg
      queues := vset c.queues q { c.queue q with
        ents := (c.queue q).ents.drop 1, started := (c.queue q).started + 1, fin := c.lcc + opDur o
        run := some ⟨o, c.lcc, c.lcc + opDur o, c.nullified q (c.queue q).started o c.lcc⟩, lastCtx := opCtx o
        freed := c.clk.free :: (c.queue q).fresh c.clk.free } } := by
  unfold Cluster.startOp
  dsimp only
  generalize (match arrayOfQ q with
    | some a => _
    | none => 0) = wit
  split
  · rw [Cluster.account_form, Cluster.slip_form]; rfl
  · rw [Cluster.account_form, Cluster.account_form, Cluster.slip_form]; rfl

@[simp] theorem Cluster.startOp_lcc (c : Cluster) (q : Nat) (o : MacroOp) : (c.startOp q o).1.lcc = c.lcc := by
  rw [Cluster.startOp_form]; rfl

/-- An op that starts has the code that the command asks for. -/
theorem Cluster.starting_opc {c : Cluster} {q opc : Nat} {o : MacroOp} (h : c.starting q opc = some o) : opOpc o = opc := by
  simp only [Cluster.starting, Cluster.startOf] at h
  repeat' split at h
  all_goals simp_all

/-- What a command does on the op that starts in its cycle: nullified, the op only starts. -/
theorem Cluster.onStart_starting {c : Cluster} {q opc : Nat} {o : MacroOp} (f : Cluster → MacroOp → Cluster)
    (h : c.starting q opc = some o) :
    c.onStart q opc f = if c.nullified q (c.queue q).started o c.lcc then (c.startOp q o).1 else f (c.startOp q o).1 o := by
  rw [Cluster.onStart, h]; rfl

end Sys2Proof.Machine
end

