-- ==== Sys2Proof/Laws/PerInstr.lean ====
section
/-! SUPPORT. Statements made once per constructor of Instr. The family NoWord says that no word of the table spells the
command: the table of operations gives bits to no row, so commands reach the cluster as events and register operations,
never as words. -/

namespace Sys2Proof.Laws.NoWord

/-- No word of any length decodes to the command. -/
def Statement (i : Instr) : Prop := ∀ nbits w : Nat, decodeTableWord nbits w ≠ some i

theorem of_any (i : Instr) : Statement i := by intro nbits w h; exact absurd h (by simp [decodeTableWord])

theorem powerGood : Statement (.powerGood) := of_any _
theorem powerLoss : Statement (.powerLoss) := of_any _
theorem pllLock : Statement (.pllLock) := of_any _
theorem pllLockTimeout : Statement (.pllLockTimeout) := of_any _
theorem droopCalibrationDone (cal : W64) : Statement (.droopCalibrationDone cal) := of_any _
theorem calibrationTimeout : Statement (.calibrationTimeout) := of_any _
theorem crossingAlign (j : FifoId) : Statement (.crossingAlign j) := of_any _
theorem crossingAlignTimeout (lane : LaneId) : Statement (.crossingAlignTimeout lane) := of_any _
theorem tbLoadTimeout : Statement (.tbLoadTimeout) := of_any _
theorem stageComplete (find : Findings) : Statement (.stageComplete find) := of_any _
theorem alignmentPulse (v : W64) : Statement (.alignmentPulse v) := of_any _
theorem alignmentPulseMissing : Statement (.alignmentPulseMissing) := of_any _
theorem droopRequest (level : DroopLevel) : Statement (.droopRequest level) := of_any _
theorem stretchDecay : Statement (.stretchDecay) := of_any _
theorem stretchTimeout : Statement (.stretchTimeout) := of_any _
theorem clockMonitorWindow (count : Nat) : Statement (.clockMonitorWindow count) := of_any _
theorem pllLossOfLock : Statement (.pllLossOfLock) := of_any _
theorem railFault : Statement (.railFault) := of_any _
theorem thermalTrip : Statement (.thermalTrip) := of_any _
theorem collectorParityError : Statement (.collectorParityError) := of_any _
theorem throttleRequest (req : Fin 16) : Statement (.throttleRequest req) := of_any _
theorem throttlePeriod : Statement (.throttlePeriod) := of_any _
theorem telemetryUpdate (t : Telemetry) : Statement (.telemetryUpdate t) := of_any _
theorem aliveToggle : Statement (.aliveToggle) := of_any _
theorem holdBegin : Statement (.holdBegin) := of_any _
theorem holdEnd : Statement (.holdEnd) := of_any _
theorem holdTimeout : Statement (.holdTimeout) := of_any _
theorem crossingRecentre (j : FifoId) (fill : Fin 17) : Statement (.crossingRecentre j fill) := of_any _
theorem opEnd (q : QueueId) : Statement (.opEnd q) := of_any _
theorem mma (a : ArrayId) : Statement (.mma a) := of_any _
theorem mmas (a : ArrayId) : Statement (.mmas a) := of_any _
theorem mmag (a : ArrayId) : Statement (.mmag a) := of_any _
theorem mmac (a : ArrayId) : Statement (.mmac a) := of_any _
theorem mdrain (a : ArrayId) : Statement (.mdrain a) := of_any _
theorem mpre (a : ArrayId) : Statement (.mpre a) := of_any _
theorem mnul (a : ArrayId) : Statement (.mnul a) := of_any _
theorem drain (a : ArrayId) : Statement (.drain a) := of_any _
theorem tcfg (n : CoreId) : Statement (.tcfg n) := of_any _
theorem tld (n : CoreId) : Statement (.tld n) := of_any _
theorem tst (n : CoreId) : Statement (.tst n) := of_any _
theorem tmov (n : CoreId) : Statement (.tmov n) := of_any _
theorem trel (n : CoreId) : Statement (.trel n) := of_any _
theorem tzero (n : CoreId) : Statement (.tzero n) := of_any _
theorem vrun (n : CoreId) : Statement (.vrun n) := of_any _
theorem vbcast (n : CoreId) : Statement (.vbcast n) := of_any _
theorem vred (n : CoreId) : Statement (.vred n) := of_any _
theorem vtopk (n : CoreId) : Statement (.vtopk n) := of_any _
theorem vgath (n : CoreId) : Statement (.vgath n) := of_any _
theorem vscat (n : CoreId) : Statement (.vscat n) := of_any _
theorem vcvt (n : CoreId) : Statement (.vcvt n) := of_any _
theorem vstat (n : CoreId) : Statement (.vstat n) := of_any _
theorem dmget (c : ChanId) : Statement (.dmget c) := of_any _
theorem dmput (c : ChanId) : Statement (.dmput c) := of_any _
theorem dmarr (c : ChanId) : Statement (.dmarr c) := of_any _
theorem launch : Statement (.launch) := of_any _
theorem segbr : Statement (.segbr) := of_any _
theorem ppmark : Statement (.ppmark) := of_any _
theorem saveComplete : Statement (.saveComplete) := of_any _
theorem screed : Statement (.screed) := of_any _
theorem dispatch : Statement (.dispatch) := of_any _
theorem issue (n : CoreId) : Statement (.issue n) := of_any _
theorem walkerQfullResume (n : CoreId) : Statement (.walkerQfullResume n) := of_any _
theorem loop (n : CoreId) : Statement (.loop n) := of_any _
theorem endl (n : CoreId) : Statement (.endl n) := of_any _
theorem waitk (n : CoreId) : Statement (.waitk n) := of_any _
theorem waitkRelease (n : CoreId) : Statement (.waitkRelease n) := of_any _
theorem sel (n : CoreId) : Statement (.sel n) := of_any _
theorem selResume (n : CoreId) : Statement (.selResume n) := of_any _
theorem jmp (n : CoreId) : Statement (.jmp n) := of_any _
theorem syncRec (n : CoreId) : Statement (.syncRec n) := of_any _
theorem endWalk (n : CoreId) : Statement (.endWalk n) := of_any _
theorem add (n : CoreId) : Statement (.add n) := of_any _
theorem sub (n : CoreId) : Statement (.sub n) := of_any _
theorem andR (n : CoreId) : Statement (.andR n) := of_any _
theorem orR (n : CoreId) : Statement (.orR n) := of_any _
theorem xorR (n : CoreId) : Statement (.xorR n) := of_any _
theorem shl (n : CoreId) : Statement (.shl n) := of_any _
theorem shr (n : CoreId) : Statement (.shr n) := of_any _
theorem shra (n : CoreId) : Statement (.shra n) := of_any _
theorem mul (n : CoreId) : Statement (.mul n) := of_any _
theorem mulhu (n : CoreId) : Statement (.mulhu n) := of_any _
theorem mulhs (n : CoreId) : Statement (.mulhs n) := of_any _
theorem minS (n : CoreId) : Statement (.minS n) := of_any _
theorem maxS (n : CoreId) : Statement (.maxS n) := of_any _
theorem minU (n : CoreId) : Statement (.minU n) := of_any _
theorem maxU (n : CoreId) : Statement (.maxU n) := of_any _
theorem addi (n : CoreId) : Statement (.addi n) := of_any _
theorem andi (n : CoreId) : Statement (.andi n) := of_any _
theorem ori (n : CoreId) : Statement (.ori n) := of_any _
theorem xori (n : CoreId) : Statement (.xori n) := of_any _
theorem shli (n : CoreId) : Statement (.shli n) := of_any _
theorem shri (n : CoreId) : Statement (.shri n) := of_any _
theorem shrai (n : CoreId) : Statement (.shrai n) := of_any _
theorem movk (n : CoreId) : Statement (.movk n) := of_any _
theorem cmp (n : CoreId) : Statement (.cmp n) := of_any _
theorem cmpi (n : CoreId) : Statement (.cmpi n) := of_any _
theorem plog (n : CoreId) : Statement (.plog n) := of_any _
theorem br (n : CoreId) : Statement (.br n) := of_any _
theorem jal (n : CoreId) : Statement (.jal n) := of_any _
theorem jr (n : CoreId) : Statement (.jr n) := of_any _
theorem ld64 (n : CoreId) : Statement (.ld64 n) := of_any _
theorem ld32u (n : CoreId) : Statement (.ld32u n) := of_any _
theorem st64 (n : CoreId) : Statement (.st64 n) := of_any _
theorem st32 (n : CoreId) : Statement (.st32 n) := of_any _
theorem hld (n : CoreId) : Statement (.hld n) := of_any _
theorem hst (n : CoreId) : Statement (.hst n) := of_any _
theorem rrd (n : CoreId) : Statement (.rrd n) := of_any _
theorem rwr (n : CoreId) : Statement (.rwr n) := of_any _
theorem wstep (n : CoreId) : Statement (.wstep n) := of_any _
theorem wstat (n : CoreId) : Statement (.wstat n) := of_any _
theorem wdrain (n : CoreId) : Statement (.wdrain n) := of_any _
theorem sywaitFull (n : CoreId) : Statement (.sywaitFull n) := of_any _
theorem sywaitTake (n : CoreId) : Statement (.sywaitTake n) := of_any _
theorem sywaitGe (n : CoreId) : Statement (.sywaitGe n) := of_any _
theorem sywaitEmpty (n : CoreId) : Statement (.sywaitEmpty n) := of_any _
theorem sywaitPoll (n : CoreId) : Statement (.sywaitPoll n) := of_any _
theorem sysigSet (n : CoreId) : Statement (.sysigSet n) := of_any _
theorem sysigAdd (n : CoreId) : Statement (.sysigAdd n) := of_any _
theorem sysigOr (n : CoreId) : Statement (.sysigOr n) := of_any _
theorem sysigClear (n : CoreId) : Statement (.sysigClear n) := of_any _
theorem sysigFence (n : CoreId) : Statement (.sysigFence n) := of_any _
theorem spsendWait (n : CoreId) : Statement (.spsendWait n) := of_any _
theorem spsendPosted (n : CoreId) : Statement (.spsendPosted n) := of_any _
theorem spsendFence (n : CoreId) : Statement (.spsendFence n) := of_any _
theorem sprecvPoll (n : CoreId) : Statement (.sprecvPoll n) := of_any _
theorem sprecvWait (n : CoreId) : Statement (.sprecvWait n) := of_any _
theorem sprecvDiscard (n : CoreId) : Statement (.sprecvDiscard n) := of_any _
theorem sprecvOcc (n : CoreId) : Statement (.sprecvOcc n) := of_any _
theorem recvTimeout (n : CoreId) : Statement (.recvTimeout n) := of_any _
theorem tbrd (n : CoreId) : Statement (.tbrd n) := of_any _
theorem lccrd (n : CoreId) : Statement (.lccrd n) := of_any _
theorem tbwait (n : CoreId) : Statement (.tbwait n) := of_any _
theorem tbwaitRelease (n : CoreId) : Statement (.tbwaitRelease n) := of_any _
theorem lccwait (n : CoreId) : Statement (.lccwait n) := of_any _
theorem lccwaitRelease (n : CoreId) : Statement (.lccwaitRelease n) := of_any _
theorem setctx (n : CoreId) : Statement (.setctx n) := of_any _
theorem halt (n : CoreId) : Statement (.halt n) := of_any _
theorem nop (n : CoreId) : Statement (.nop n) := of_any _
theorem scrubRequest : Statement (.scrubRequest) := of_any _
theorem scrub (bank : BankId) : Statement (.scrub bank) := of_any _
theorem repairWrite (bank : BankId) : Statement (.repairWrite bank) := of_any _
theorem boundaryAccess (bank : BankId) : Statement (.boundaryAccess bank) := of_any _
theorem dmvBlockSend (c : ChanId) : Statement (.dmvBlockSend c) := of_any _
theorem dmTimeout (c : ChanId) (slot : Fin 16) : Statement (.dmTimeout c slot) := of_any _
theorem linkFlit (lane : LaneId) (f : Flit) : Statement (.linkFlit lane f) := of_any _
theorem rdReq (lane : LaneId) (f : Flit) : Statement (.rdReq lane f) := of_any _
theorem wrReq (lane : LaneId) (f : Flit) : Statement (.wrReq lane f) := of_any _
theorem rdData (lane : LaneId) (f : Flit) : Statement (.rdData lane f) := of_any _
theorem wrAck (lane : LaneId) (f : Flit) : Statement (.wrAck lane f) := of_any _
theorem errReply (lane : LaneId) (f : Flit) : Statement (.errReply lane f) := of_any _
theorem sporeFlit (lane : LaneId) (f : Flit) : Statement (.sporeFlit lane f) := of_any _
theorem spReply (lane : LaneId) (f : Flit) : Statement (.spReply lane f) := of_any _
theorem syncFlit (lane : LaneId) (f : Flit) : Statement (.syncFlit lane f) := of_any _
theorem sorusFlit (lane : LaneId) (f : Flit) : Statement (.sorusFlit lane f) := of_any _
theorem resendTimeout (lane : LaneId) : Statement (.resendTimeout lane) := of_any _
theorem sporePlacement (ring : RingId) : Statement (.sporePlacement ring) := of_any _
theorem sorusAdd (e : SorusId) : Statement (.sorusAdd e) := of_any _
theorem sorusResultPlace (e : SorusId) : Statement (.sorusResultPlace e) := of_any _
theorem sorusResultTimeout (e : SorusId) : Statement (.sorusResultTimeout e) := of_any _
theorem ringTimeout (h : Fin 64) : Statement (.ringTimeout h) := of_any _
theorem replyTimeout (n : CoreId) (slot : Fin 8) : Statement (.replyTimeout n slot) := of_any _
theorem syncApply : Statement (.syncApply) := of_any _
theorem waitTimeout (n : CoreId) : Statement (.waitTimeout n) := of_any _
theorem signalSend (n : CoreId) (slot : Fin 8) : Statement (.signalSend n slot) := of_any _
theorem signalResend (n : CoreId) (slot : Fin 8) : Statement (.signalResend n slot) := of_any _
theorem signalTimeout (n : CoreId) (slot : Fin 8) : Statement (.signalTimeout n slot) := of_any _
theorem quietExpiry : Statement (.quietExpiry) := of_any _
theorem frameForward (bytes : List Byte) : Statement (.frameForward bytes) := of_any _
theorem readFrame (bytes : List Byte) (g : Grants) : Statement (.readFrame bytes g) := of_any _
theorem writeFrame (bytes : List Byte) (g : Grants) : Statement (.writeFrame bytes g) := of_any _
theorem evack (bytes : List Byte) : Statement (.evack bytes) := of_any _
theorem eventSend : Statement (.eventSend) := of_any _
theorem eventResend : Statement (.eventResend) := of_any _
theorem dictWrite (index : W16) (sub : Byte) (value : List Byte) (g : Grants) : Statement (.dictWrite index sub value g) := of_any _
theorem openIntake : Statement (.openIntake) := of_any _
theorem commit : Statement (.commit) := of_any _
theorem abandon : Statement (.abandon) := of_any _
theorem acceptanceVerdict (accept : Bool) : Statement (.acceptanceVerdict accept) := of_any _
theorem acceptTimeout : Statement (.acceptTimeout) := of_any _
theorem admission : Statement (.admission) := of_any _
theorem retire (slot : Fin 8) : Statement (.retire slot) := of_any _
theorem retirement (slot : Fin 8) : Statement (.retirement slot) := of_any _
theorem dispatchSubmit : Statement (.dispatchSubmit) := of_any _
theorem dispatchCancel (lid : W16) : Statement (.dispatchCancel lid) := of_any _
theorem stopRequest : Statement (.stopRequest) := of_any _
theorem teardownRequest (ctx : CtxId) : Statement (.teardownRequest ctx) := of_any _
theorem rearm (ctx : CtxId) : Statement (.rearm ctx) := of_any _
theorem snapshot (ctx : CtxId) : Statement (.snapshot ctx) := of_any _
theorem ringReset (v : W16) : Statement (.ringReset v) := of_any _
theorem sorusReset (v : W16) : Statement (.sorusReset v) := of_any _
theorem parkAbort (c : ChanId) : Statement (.parkAbort c) := of_any _
theorem windowCommit (w : Fin 64) (v : W64) : Statement (.windowCommit w v) := of_any _
theorem budgetWrite (v : W16) : Statement (.budgetWrite v) := of_any _
theorem throttleFloorWrite (v : Byte) : Statement (.throttleFloorWrite v) := of_any _
theorem scrubIntervalWrite (v : W32) : Statement (.scrubIntervalWrite v) := of_any _
theorem fenceThresholdWrite (which : FenceKind) (v : Nat) : Statement (.fenceThresholdWrite which v) := of_any _
theorem bankFenceMaskWrite (k : Fin 4) (v : W64) (g : Grants) : Statement (.bankFenceMaskWrite k v g) := of_any _
theorem coreFenceMaskWrite (v : Byte) (g : Grants) : Statement (.coreFenceMaskWrite v g) := of_any _
theorem badColumnMapWrite (a : ArrayId) (v : W64) (g : Grants) : Statement (.badColumnMapWrite a v g) := of_any _
theorem acknowledge (v : Byte) : Statement (.acknowledge v) := of_any _
theorem clearFirst : Statement (.clearFirst) := of_any _
theorem forceFault (src : SrcId) (g : Grants) : Statement (.forceFault src g) := of_any _
theorem forceDisarm (src : SrcId) (g : Grants) : Statement (.forceDisarm src g) := of_any _
theorem haltRequest (g : Grants) : Statement (.haltRequest g) := of_any _
theorem haltRelease (g : Grants) : Statement (.haltRelease g) := of_any _
theorem stepHalted (count : W32) (g : Grants) : Statement (.stepHalted count g) := of_any _
theorem debugGrantWithdraw : Statement (.debugGrantWithdraw) := of_any _
theorem dbgdataRead (count : W16) (g : Grants) : Statement (.dbgdataRead count g) := of_any _
theorem dbgdataWrite (data : List Byte) (g : Grants) : Statement (.dbgdataWrite data g) := of_any _
theorem readAheadOfStart (a : ArrayId) : Statement (.readAheadOfStart a) := of_any _
theorem fintbRecord (ctx : CtxId) : Statement (.fintbRecord ctx) := of_any _

end Sys2Proof.Laws.NoWord
end

