-- ==== Sys2Proof/Laws/Sound.lean ====
section
/-! SUPPORT. What the shared reads do where nothing is in error, and what an instruction or walk entry does in the
cycle in which it runs: each once, for the statements about single commands. -/

namespace Sys2Proof.Machine

theorem Cluster.each_nil {α : Type} (c : Cluster) (f : Cluster → α → Cluster) : c.each [] f = c := rfl

theorem Cluster.tabFix_sound {c : Cluster} {keys : List Nat} (h : c.tabSound keys) : c.tabFix keys = (c, true) := by
  have e : c.tabErr.filter (fun kv => keys.contains kv.1) = [] := by
    rw [List.filter_eq_nil_iff]
    intro kv hk hc
    exact h kv hk (by simpa using hc)
  unfold Cluster.tabFix
  rw [e]
  rfl

/-- Table words without stored error are read as they stand. -/
theorem Cluster.tabRead_sound {c : Cluster} {keys : List Nat} (h : c.tabSound keys) : c.tabRead keys = (c, true) := by
  simp [Cluster.tabRead, Cluster.tabFix_sound h]

theorem Cluster.withTab_sound {c : Cluster} {keys : List Nat} (f : Cluster → Cluster) (h : c.tabSound keys) :
    c.withTab keys f = f c := by
  simp [Cluster.withTab, Cluster.tabRead_sound h]

theorem Cluster.withHandle_sound {c : Cluster} {k : Nat} (f : Cluster → Cluster) (h : c.tabSound [rHnd k]) :
    c.withHandle k f = f c := Cluster.withTab_sound f h

/-- A VID whose table words hold no error translates as they stand. -/
theorem Cluster.vid_sound {c : Cluster} {ctx v : Nat} (h : c.tabSound (c.vidKeys ctx v)) :
    c.vid ctx v = (c, c.translateVid ctx v) := by
  simp [Cluster.vid, Cluster.tabRead_sound h]

/-- A read of scratchpad words without stored error changes nothing. -/
theorem Cluster.spdRead_sound {c : Cluster} {a n : Nat} (agent ctx : Nat) (h : c.spdSound a n) :
    c.spdRead agent ctx a n = (c.maskBytes a n [], c, false) := by
  have h : c.badWords a n = [] := h
  have u : c.ueWords a n = [] := by simp [Cluster.ueWords, h]
  simp [Cluster.spdRead, Cluster.spdBytes, Cluster.spdScan, h, u, Cluster.each]

/-- A read of data-memory words without stored error changes nothing. -/
theorem Cluster.dmemRead_sound {c : Cluster} {n a len : Nat} (h : errWords c.dmemErr n a len = []) :
    c.dmemRead n a len = (Memory.bytes c.dmem (n * 65536 + a) len, c, false) := by
  simp [Cluster.dmemRead, h, Cluster.each, anyUe]

/-- A read of instruction memory without stored error only goes on. -/
theorem Cluster.withImem_sound {c : Cluster} {n : CoreId} {parts : List (Nat × Nat)} (f : Cluster → Cluster)
    (h : c.imemSound n parts) : c.withImem n.val parts f = f c := by
  have e : parts.flatMap (fun p => errWords c.imemErr n.val p.1 p.2) = [] := List.flatMap_eq_nil_iff.mpr h
  simp [Cluster.withImem, e, Cluster.each, anyUe]

/-- A write of data memory with no forced error armed. -/
theorem Cluster.dmemPut_calm (c : Cluster) (n : CoreId) (a : Nat) (bs : List Byte) (h : c.dmemCalm n) :
    c.dmemPut n.val a bs = { c with
      dmem := Memory.write c.dmem (n.val * 65536 + a) bs
      dmemErr := Sparse.clearRange c.dmemErr ((n.val * 65536 + a) / 8 * 8) ((n.val * 65536 + a + bs.length + 7) / 8 * 8) } := by
  obtain ⟨h1, h2⟩ := h
  unfold Cluster.armedAt at h1 h2
  simp only [Cluster.dmemPut, Cluster.injectDmem, Cluster.armedAt, h1, Bool.false_eq_true, if_false, h2]

theorem Cluster.injectSpd_calm (c : Cluster) (a : Nat) (hc : c.bankCalm a) : c.injectSpd a = c := by
  obtain ⟨h1, h2⟩ := hc
  simp only [Cluster.injectSpd, h1, Bool.false_eq_true, if_false, h2]

/-- A write of scratchpad bytes in one line of a bank that is not fenced, with no forced error armed for the bank. -/
theorem Cluster.spdWriteLine_calm (c : Cluster) (a : Nat) (bs : List Byte) (h0 : bs ≠ []) (hf : c.fencedAt a = false)
    (hc : c.bankCalm a) :
    c.spdWriteLine a bs = { c with
      mem := Memory.write c.mem a bs
      memErr := c.memErr.filter (fun kv => !(decide (a < kv.1 + 8) && decide (kv.1 < a + bs.length)))
      spd := { c.spd with
        repairs := cancelRepairs (fun w => decide (a < w + 8) && decide (w < a + bs.length)) c.spd.repairs } } := by
  have e : bs.isEmpty = false := by cases bs <;> simp_all
  simp only [Cluster.spdWriteLine, e, hf, Bool.or_self, Bool.false_eq_true, if_false]
  exact Cluster.injectSpd_calm _ a hc

/-- A scalar instruction in the cycle in which it runs. -/
theorem Cluster.scal_fetches {c : Cluster} {n : CoreId} {form : Nat → Bool} {f : Cluster → Core → Nat → Cluster}
    (h : c.fetches n form) : c.scal n.val form f = f c (c.core n.val) (c.word n.val) := by
  obtain ⟨h1, h2, h3, h4, h5⟩ := h
  simp [Cluster.scal, h1, h2, h3, h4, Cluster.withImem_sound _ h5]

/-- A service instruction in the cycle in which it acts. -/
theorem Cluster.service_serves {c : Cluster} {n : CoreId} {form : Nat → Bool} {f : Cluster → Core → Nat → Cluster}
    (h : c.serves n form) : c.service n.val form f = f c (c.core n.val) (c.word n.val) := by
  obtain ⟨h1, h2, h3⟩ := h
  simp [Cluster.service, Cluster.scal_fetches h1, h2, h3]

/-- A walk entry in the cycle in which it is performed. -/
theorem Cluster.walkStep_walks {c : Cluster} {n : CoreId} {kind wait : Nat} {waits : List Nat} {f : Cluster → Nat → Cluster}
    (h : c.walks n kind wait) (hw : wait ∈ waits) : c.walkStep n.val kind waits f = f c (c.walkEntry n.val) := by
  obtain ⟨h1, h2, h3, h4, h5, h6, h7⟩ := h
  have hc : waits.contains (c.core n.val).wwait = true := by rw [h5]; simpa using hw
  simp only [Cluster.walkStep, h1, h2, h3, h4, hc, h6, Bool.false_eq_true, if_false, Bool.not_false, Bool.and_true, beq_self_eq_true, if_true,
    Cluster.withImem_sound _ h7]

/-- Core n of a cluster after its core n is replaced. -/
@[simp] theorem Cluster.core_setCore (c : Cluster) (n : Nat) (x : Core) (h : n < 8) : (c.setCore n x).core n = x :=
  vat_vset_self _ _ _ _ h

@[simp] theorem Cluster.setCore_setCore (c : Cluster) (n : Nat) (x y : Core) : (c.setCore n x).setCore n y = c.setCore n y := by
  simp only [Cluster.setCore, vset]
  congr 1
  ext i hi
  simp only [Vector.getElem_setIfInBounds]
  split <;> rfl

end Sys2Proof.Machine
end

