-- ==== Sys2Proof/WellFormed.lean ====
section
/-! DEFINITION. Which commands are well formed: sizes and ranges that the operand types leave open. -/

namespace Sys2Proof

/-- Does a flit of a type carry a payload of 256 bytes (RD, WRACK, ERR, SPREPLY, SYNC and LINK carry none) (R312)? -/
def flitPayload (ty : Nat) : Nat :=
  if ty = 2 || ty = 3 || ty = 6 || ty = 9 then 256 else 0

/-- A flit whose payload has the size that its type fixes (R312). A flit of a reserved type may have either. -/
def Flit.wf (f : Flit) : Bool :=
  let ty := f.hdr.toNat / 2 ^ 98 % 16
  if 10 ≤ ty then decide (f.payload.length = 0) || decide (f.payload.length = 256)
  else decide (f.payload.length = flitPayload ty)

/-- Findings name arrays 0 to 31, each once (R450). -/
def Findings.wf (f : Findings) : Bool :=
  f.badCols.all (fun p => decide (p.1 < 32)) && decide ((f.badCols.map (fun p => p.1)).Nodup)

/-- A value of a fence threshold fits its entry: U16 for the witness, U8 for the others (R113, R254, R303). -/
def FenceKind.fits : FenceKind → Nat → Bool
  | .witness, v => decide (v < 65536)
  | .lockstep, v => decide (v < 256)
  | .bank, v => decide (v < 256)

/-- A well-formed command. Commands not named carry operands that their types already bound. -/
def Instr.wf : Instr → Bool
  | .stageComplete f => f.wf
  | .clockMonitorWindow count => decide (count < 65536)
  | .linkFlit _ f => f.wf
  | .rdReq _ f => f.wf
  | .wrReq _ f => f.wf
  | .rdData _ f => f.wf
  | .wrAck _ f => f.wf
  | .errReply _ f => f.wf
  | .sporeFlit _ f => f.wf
  | .spReply _ f => f.wf
  | .syncFlit _ f => f.wf
  | .sorusFlit _ f => f.wf
  | .frameForward b => decide (b.length ≤ 270)
  | .readFrame b _ => decide (b.length ≤ 270)
  | .writeFrame b _ => decide (b.length ≤ 270)
  | .evack b => decide (b.length ≤ 270)
  | .dictWrite _ _ v _ => decide (v.length ≤ 256)
  | .fenceThresholdWrite k v => k.fits v
  | .dbgdataWrite d _ => decide (d.length ≤ 256)
  | _ => true

end Sys2Proof
end

