-- ==== Sys2Proof/Tests/Slice0.lean ====
section
/-! SUPPORT. Tests. First ill-formed commands that WellFormed refuses; then single steps whose expected values are worked
out by hand from the rules that each theorem names; then, as the theorems named witness_<statement>, states and operands that
meet the hypotheses of the clauses of each statement. -/

namespace Sys2Proof.Tests

open Sys2Proof.Machine

set_option maxRecDepth 100000
set_option Elab.async false

/-- A lining in progress on context 0. -/
def theRun : Run where
  lid := 0
  prio := 0
  now := true
  tbat := 0
  rerun := false
  tb0 := 0
  tbref := 0
  begun := true
  ready := 0
  ctxs := [0]
  ctl := []
  sendEnd := 1000
  stop := false
  saving := none
  detect := none
  detTorn := []
  detLines := []
  resumed := false
  reqId := 0
  period := 0
  skip := 0
  started := []
  saveRan := 0
  choices := []

/-- A cluster that has come up: stage 3, every lane up, TB running. -/
def up : Cluster :=
  { Cluster.atPowerGood 0 2 with
    stage := 3
    clk := { Clk.reset with locked := true, sen := true, free := 1000, ckm := 1000 }
    tb := { Tb.reset with runs := true, tbok := true, ok := true, value := 5 }
    lanes := Vector.replicate 4 { Lane.reset with up := true, alignO := true, alignI := true } }

/-- The same with a lining at LCC 50 and context 0 bound to it. -/
def go : Cluster :=
  { up with
    run := some theRun
    tim := { Timing.reset with running := true, lcc := 50 }
    ctxs := vset up.ctxs 0 { Ctx.reset with state := 2 } }

theorem go_canon : go.canon := by simp only [Cluster.canon]; decide +kernel

/-- Core 0 as x, about to execute an instruction word at the address 0. -/
def coreWith (w : Nat) (x : Core) : Cluster :=
  { go with
    imem := Memory.write [] 0 (leBytes 4 w)
    cores := vset go.cores 0 { x with mode := 2, codeRun := true, codeHi := 65536 } }

/-- A core whose registers S1 and S2 hold two values. -/
def two (a b : W64) : Core := (Core.reset.setS 1 a).setS 2 b

/-- An instruction word of a major code, rd, ra, rb and FN. -/
def word (maj rd ra rb fn : Nat) : Nat := maj * 2 ^ 26 + rd * 2 ^ 21 + ra * 2 ^ 16 + rb * 2 ^ 11 + fn

/-- The cluster after a command, with no other waiting. -/
def after (i : Instr) (c : Cluster) : Cluster :=
  match exec i ⟨[], c⟩ with
  | .next t => t.cl
  | _ => c

/-- S3 of core 0 after an instruction whose word has rd 3, ra 1 and rb 2, with a and b in S1 and S2. -/
def s3 (i : Instr) (w : Nat) (a b : W64) : W64 := ((after i (coreWith w (two a b))).core 0).s 3

/-! ### Commands that are not well formed -/

/-- A flit of a TYPE, with a payload of n zero bytes. -/
def flitOf (ty n : Nat) : Flit := ⟨BitVec.ofNat 128 (ty * 2 ^ 98), 0, List.replicate n 0⟩

/-- Types without payload are refused one, the others need 256 bytes, and a reserved type takes either (R312). -/
theorem test_wf_flits :
    (∀ i ∈ [Instr.linkFlit 0 (flitOf 0 256), .rdReq 0 (flitOf 1 256), .wrReq 0 (flitOf 2 0), .rdData 0 (flitOf 3 255),
      .wrAck 0 (flitOf 4 1), .errReply 0 (flitOf 5 256), .sporeFlit 0 (flitOf 6 0), .spReply 0 (flitOf 7 256),
      .syncFlit 0 (flitOf 8 1), .sorusFlit 0 (flitOf 9 257), .linkFlit 0 (flitOf 12 1)], i.wf = false)
    ∧ (Instr.wrReq 0 (flitOf 2 256)).wf = true ∧ (Instr.rdReq 0 (flitOf 1 0)).wf = true := by decide +kernel

/-- Findings about an array that does not exist, or twice about one, are refused (R450). -/
theorem test_wf_findings :
    (Instr.stageComplete ⟨[(32, 0)], 0, 0⟩).wf = false ∧ (Instr.stageComplete ⟨[(3, 1), (3, 2)], 0, 0⟩).wf = false
    ∧ (Instr.stageComplete ⟨[(3, 1), (31, 2)], 0, 0⟩).wf = true := by decide +kernel

/-- Counts, thresholds and byte strings beyond their fields are refused (R435, R427, R455, R466, R474). -/
theorem test_wf_ranges :
    (∀ i ∈ [Instr.clockMonitorWindow 65536, .fenceThresholdWrite .witness 65536, .fenceThresholdWrite .lockstep 256,
      .fenceThresholdWrite .bank 256, .frameForward (List.replicate 271 0), .readFrame (List.replicate 271 0) ⟨false, false⟩,
      .writeFrame (List.replicate 271 0) ⟨false, false⟩, .evack (List.replicate 271 0),
      .dictWrite 0 0 (List.replicate 257 0) ⟨false, false⟩, .dbgdataWrite (List.replicate 257 0) ⟨false, false⟩], i.wf = false)
    ∧ (Instr.fenceThresholdWrite .witness 65535).wf = true ∧ (Instr.frameForward (List.replicate 270 0)).wf = true := by
  decide +kernel

/-! ### Single steps -/

/-- SUB takes ra minus rb modulo 2^64 (R268). -/
theorem test_sub_wraps : s3 (.sub 0) (word 0 3 1 2 1) 3 5 = 0xFFFFFFFFFFFFFFFE := by decide +kernel

/-- MULHU and MULHS take the upper half of the product (R268): 2^63 times 2 is 2^64, and -2^63 times 2 is -2^64. -/
theorem test_mulh : s3 (.mulhu 0) (word 0 3 1 2 9) (2 ^ 63) 2 = 1 ∧ s3 (.mulhs 0) (word 0 3 1 2 10) (2 ^ 63) 2 = 0xFFFFFFFFFFFFFFFF := by
  decide +kernel

/-- MIN is signed and MINU is not (R268). -/
theorem test_min : s3 (.minS 0) (word 0 3 1 2 11) (-1) 1 = -1 ∧ s3 (.minU 0) (word 0 3 1 2 13) (-1) 1 = 1 := by decide +kernel

/-- SHRA keeps the sign and SHR does not (R268). -/
theorem test_shifts :
    s3 (.shra 0) (word 0 3 1 2 7) (2 ^ 63) 63 = -1 ∧ s3 (.shr 0) (word 0 3 1 2 6) (2 ^ 63) 63 = 1 := by decide +kernel

/-- imm16 is sign-extended (R268): 5 + (-1) = 4, and OR with -1 gives all ones. -/
theorem test_immediates : s3 (.addi 0) (word 1 3 1 31 2047) 5 0 = 4 ∧ s3 (.ori 0) (word 3 3 1 31 2047) 5 0 = -1 := by
  decide +kernel

/-- MOVK with k = 2 replaces bits 47 to 32 alone (R268). -/
theorem test_movk : ((after (.movk 0) (coreWith (word 6 1 2 0 0x1234) (two (-1) 0))).core 0).s 1 = 0xFFFF1234FFFFFFFF := by
  decide +kernel

/-- CMP LT is signed and LTU is not (R268): -1 below 1, and 2^64 - 1 above it. -/
theorem test_cmp :
    ((after (.cmp 0) (coreWith (8 * 2 ^ 26 + 4 * 2 ^ 23 + 1 * 2 ^ 18 + 2 * 2 ^ 13 + 2 * 2 ^ 9) (two (-1) 1))).core 0).p 4 = true
    ∧ ((after (.cmp 0) (coreWith (8 * 2 ^ 26 + 4 * 2 ^ 23 + 1 * 2 ^ 18 + 2 * 2 ^ 13 + 4 * 2 ^ 9) (two (-1) 1))).core 0).p 4 = false := by
  decide +kernel

/-- JAL writes the address behind it to S31 and goes to its offset (R268). -/
theorem test_jal :
    let x := (after (.jal 0) (coreWith (0x11 * 2 ^ 26 + 3) Core.reset)).core 0
    x.s 31 = 4 ∧ x.pc = 12 := by decide +kernel

/-- LD32U zero-extends four bytes, lowest first (R268). -/
theorem test_ld32u : ((after (.ld32u 0)
    { coreWith (word 0x19 3 1 0 4) (two 4 0) with dmem := Memory.write [] 8 [0x78, 0x56, 0x34, 0xF2, 0xFF] }).core 0).s 3 = 0xF2345678 := by
  decide +kernel

/-- ST32 stores the low four bytes of rd, and no more (R268). -/
theorem test_st32 : Memory.bytes (after (.st32 0) (coreWith (word 0x1B 1 2 0 8) (two 0x1122334455667788 0))).dmem 4 12
    = [0, 0, 0, 0, 0x88, 0x77, 0x66, 0x55, 0, 0, 0, 0] := by decide +kernel

/-- A signal ADD wraps modulo 2^32, and CLEAR keeps VALUE with FULL = 0 (R352). -/
theorem test_signals :
    let o := fun (kind : Nat) (v : W32) => (⟨0, 7, 0, 0, 1, .signal kind v 0 0 0, none, true⟩ : SyncOp)
    let w := (go.syncApply (o 1 2) 0xFFFFFFFF).2
    let v := (go.syncApply (o 3 9) w).2
    w.extractLsb' 0 32 = 1 ∧ w.getLsbD 63 = true ∧ v.extractLsb' 0 32 = 1 ∧ v.getLsbD 63 = false := by decide +kernel

/-- A budget below 240 is clamped to it, and counts as a clamp (R61, R466). -/
theorem test_budget :
    (after (.budgetWrite 100) up).regAt 0x20020000 = 240 ∧ (after (.budgetWrite 100) up).moss.clamps = 1
    ∧ (after (.budgetWrite 1000) up).moss.clamps = 0 := by decide +kernel

/-- A loss of lock is fatal: HSTATE FATAL with source 0x03, and no lining left (R417, R421). -/
theorem test_fatal :
    let c := (after .pllLossOfLock go).collect
    c.flt.fatal = true ∧ c.flt.hstate = 3 ∧ c.flt.fatalSrc = 3 ∧ c.run = none := by decide +kernel

/-- A clock count of 1,600 to 3,700 is in the window and one beside it raises CLK_LOSS (R435). -/
theorem test_clock_window :
    let src := fun (n : Nat) => (after (.clockMonitorWindow n) up).collect.flt.fatalSrc
    src 1600 = 0 ∧ src 3700 = 0 ∧ src 1599 = 1 ∧ src 3701 = 1 := by
  decide +kernel

/-- The second alignment pulse, 3 tk behind TB, leaves DEV = 3 and raises TB_ALIGN, and TB then falls back by slewing (R442). -/
theorem test_alignment :
    let c := (after (.alignmentPulse 2) up).collect
    c.tb.dev = 3 ∧ c.tb.debt = 3 ∧ c.tb.ok = false ∧ (c.regAt (0x20061000 + 8 * 8)).getLsbD 63 = true := by decide +kernel

/-- A droop request of 4 sets R and D, and a lower one leaves D (R438). -/
theorem test_droop :
    let c := after (.droopRequest .l4) up
    c.clk.reqR = 4 ∧ c.clk.decD = 4 ∧ (after (.droopRequest .l1) c).clk.reqR = 1 ∧ (after (.droopRequest .l1) c).clk.decD = 4 := by
  decide +kernel

/-- The CRC-32C of the bytes 1 to 9 in ASCII is the check value 0xE3069283 of its definition. -/
theorem test_crc32c : crc32c [0x31, 0x32, 0x33, 0x34, 0x35, 0x36, 0x37, 0x38, 0x39] = 0xE3069283 := by decide +kernel

/-- OPEN of a region without lines is refused with code 0x02 and leaves IDLE (R396). -/
theorem test_open :
    (after .openIntake { up with dict := [(0x238002, 0)] }).intake.state = 0
    ∧ (after .openIntake { up with dict := [(0x238002, 16)] }).intake.state = 1 := by decide +kernel

/-- The worked example of file 19: node 0x1B, CLAMPSEQ 41, HOLD_LIMIT written with 500. The answer carries 1,250; record 42 lies in
slot 9; and the same frame again is answered from the kept RESP alone (R459, R466, R467). -/
theorem test_clamped_write :
    let bs := mkFrame 0x1B 0 2 0x5C 0x2400 0x10 0 [0xF4, 1, 0, 0]
    let c : Cluster := { Cluster.atPowerGood 0x1B 2 with stage := 1, moss := { Moss.reset with clamps := 41 } }
    let d := after (.writeFrame bs ⟨false, false⟩) c
    let e := after (.writeFrame bs ⟨false, false⟩) { d with moss := { d.moss with busyTo := 0 } }
    bs.take 14 = [0x1B, 0, 2, 0x5C, 0, 0x24, 0x10, 0, 4, 0, 0xF4, 1, 0, 0]
    ∧ (d.moss.out.map (fun r => r.take 14)) = [[0, 0x1B, 3, 0x5C, 0, 0x24, 0x10, 0, 4, 0, 0xE2, 4, 0, 0]]
    ∧ d.dictAt 0x2400 0x10 = 1250 ∧ d.dictAt 0x1F00 0x19 = 0x240010000000002A ∧ d.dictAt 0x1F00 0x29 = 500
    ∧ d.dictAt 0x1F00 0x39 = 1250 ∧ d.moss.clamps = 42 ∧ e.moss.clamps = 42 ∧ e.moss.out.length = 2 := by decide +kernel

/-- The second write of that example: the dispatch flags with 0x0E are stored as 6, with a MASKED record of field 3 (R466, R467). -/
theorem test_masked_write :
    let c : Cluster := { Cluster.atPowerGood 0x1B 2 with stage := 1, moss := { Moss.reset with clamps := 42 } }
    let d := after (.writeFrame (mkFrame 0x1B 0 2 0x5D 0x2303 3 0 [0x0E]) ⟨false, false⟩) c
    d.dictAt 0x2303 3 = 6 ∧ d.dictAt 0x1F00 0x1A = 0x230303418000002B ∧ d.dictAt 0x1F00 0x2A = 1 ∧ d.dictAt 0x1F00 0x3A = 0
    ∧ d.moss.clamps = 43 := by decide +kernel
/-! ### States and operands that meet the hypotheses of the statements -/
theorem witness_StepRunsFront :
    { up with powered := false }.powered = false ∧ { go with clk := { go.clk with reqR := 0, decD := 1, decAt := 0 } }.due = true
    ∧ (up.powered = true ∧ up.due = false ∧ up.clk.locked = true)
    ∧ (State.reset.cl.powered = true ∧ State.reset.cl.due = false ∧ State.reset.cl.clk.locked = false) := by decide +kernel

theorem witness_AluRegister : ∀ k ∈ [0, 1, 2, 3, 4, 8, 9, 10, 11, 12, 13, 14],
    (coreWith (word 0 3 1 2 k) (two 3 5)).fetches 0 (isFn 0 k) := by
  simp only [Cluster.fetches, Cluster.imemSound]; decide +kernel

theorem witness_AluRegister_shifts : ∀ k ∈ [5, 6, 7],
    (coreWith (word 0 3 1 2 k) (two 3 63)).fetches 0 (isFn 0 k) ∧ ((two 3 63).s 2).toNat < 64
    ∧ (coreWith (word 0 3 1 2 k) (two 3 64)).fetches 0 (isFn 0 k) ∧ 64 ≤ ((two 3 64).s 2).toNat := by
  simp only [Cluster.fetches, Cluster.imemSound]; decide +kernel

theorem witness_AluImmediate :
    (∀ m ∈ [1, 2, 3, 4, 6], (coreWith (word m 3 1 0 9) (two 3 5)).fetches 0 (isMaj m))
    ∧ ∀ k ∈ [0, 1, 2], (coreWith (word 5 3 1 0 (64 * k + 63)) (two 3 5)).fetches 0 (fun w => isMaj 5 w && w / 64 % 4 == k) := by
  simp only [Cluster.fetches, Cluster.imemSound]; decide +kernel

theorem witness_Compares :
    (∀ k ∈ [0, 5], ∀ m ∈ [8, 9], (coreWith (m * 2 ^ 26 + k * 2 ^ 9) (two 3 5)).fetches 0 (isMaj m)
      ∧ (coreWith (m * 2 ^ 26 + k * 2 ^ 9) (two 3 5)).word 0 / 2 ^ 9 % 16 = k)
    ∧ ∀ k ∈ [0, 1, 2, 3], (coreWith (word 10 3 1 2 k) Core.reset).fetches 0 (isMaj 10)
      ∧ sFn ((coreWith (word 10 3 1 2 k) Core.reset).word 0) = k := by
  simp only [Cluster.fetches, Cluster.imemSound]; decide +kernel

theorem witness_Compares_branches :
    (∀ m ∈ [0x10, 0x11, 0x12], (coreWith (word m 0 1 0 0) Core.reset).fetches 0 (isMaj m))
    ∧ Core.reset.p 0 = (word 0x10 0 1 0 0).testBit 22 ∧ Core.reset.p 0 ≠ (word 0x10 2 1 0 0).testBit 22 := by
  simp only [Cluster.fetches, Cluster.imemSound]; decide +kernel

/-- At the first and the last address of data memory. -/
theorem witness_Loads : ∀ p ∈ [(0x18, 8, 0), (0x18, 8, 65528), (0x19, 4, 0), (0x19, 4, 65532)],
    (coreWith (word p.1 3 1 0 0) (two (BitVec.ofNat 64 p.2.2) 0)).fetches 0 (isMaj p.1)
    ∧ errWords (coreWith (word p.1 3 1 0 0) (two (BitVec.ofNat 64 p.2.2) 0)).dmemErr 0 p.2.2 p.2.1 = [] ∧ p.2.2 % p.2.1 = 0
    ∧ p.2.2 + p.2.1 ≤ 65536 := by
  simp only [Cluster.fetches, Cluster.imemSound]; decide +kernel

theorem witness_Stores : ∀ p ∈ [(0x1A, 8, 0), (0x1A, 8, 65528), (0x1B, 4, 4), (0x1B, 4, 65532)],
    (coreWith (word p.1 3 1 0 0) (two (BitVec.ofNat 64 p.2.2) 0)).fetches 0 (isMaj p.1)
    ∧ errWords (coreWith (word p.1 3 1 0 0) (two (BitVec.ofNat 64 p.2.2) 0)).dmemErr 0 (p.2.2 / 8 * 8) 8 = [] ∧ p.2.2 % p.2.1 = 0
    ∧ p.2.2 + p.2.1 ≤ 65536 ∧ (coreWith (word p.1 3 1 0 0) (two (BitVec.ofNat 64 p.2.2) 0)).dmemCalm 0 := by
  simp only [Cluster.fetches, Cluster.imemSound, Cluster.dmemCalm]; decide +kernel

theorem witness_CoreControl :
    (∀ p ∈ [(0x28, 0), (0x28, 1), (0x20, 0), (0x20, 1), (0x3F, 0), (0x3F, 1)],
      (coreWith (word p.1 3 1 0 p.2) Core.reset).fetches 0 (isSub p.1 p.2))
    ∧ (coreWith (word 0x30 0 0 0 63) Core.reset).fetches 0 (isMaj 0x30) := by
  simp only [Cluster.fetches, Cluster.imemSound]; decide +kernel

/-- TB is 5 and LCC is 50: each value is met at its bound and missed one beyond. -/
theorem witness_CoreControl_waits :
    (∀ p ∈ [(0x28, 2), (0x28, 3), (0x20, 2)], (coreWith (word p.1 0 1 0 p.2) (two 5 0)).fetches 0 (isSub p.1 p.2))
    ∧ (coreWith 0 { Core.reset with stall := .tbWait 5 }).coresRun = true
    ∧ ((coreWith 0 { Core.reset with stall := .tbWait 5 }).core 0).codeRun = true
    ∧ ((coreWith 0 { Core.reset with stall := .tbWait 5 }).core 0).stopped = false
    ∧ ((coreWith 0 { Core.reset with stall := .tbWait 5 }).core 0).stall = .tbWait 5 ∧ go.tb.value = 5
    ∧ ((coreWith 0 { Core.reset with stall := .lccWait 50 }).core 0).stall = .lccWait 50 ∧ go.tim.lcc = 50 := by
  simp only [Cluster.fetches, Cluster.imemSound]; decide +kernel

/-- Every context as in go, but context 0 with a given state and teardown. -/
def ctx0 (c : Cluster) (x : Ctx) : Cluster := { c with ctxs := vset c.ctxs 0 x }

/-- Handle 0: valid, readable and writable, of context 0, one line from line 16. -/
def held (c : Cluster) : Cluster := c.setReg (rHnd 0) (BitVec.ofNat 64 (2 ^ 63 + 2 ^ 62 + 2 ^ 61 + 16 * 2 ^ 22 + 1))

/-- A core that accesses handle 0 at an offset by HLD (0x1C) or HST (0x1D). -/
def viaHandle (m off : Nat) : Cluster := held (coreWith (word m 3 1 0 0) (two (BitVec.ofNat 64 off) 0))

/-- Core 0 with an HLD or HST of scratchpad line 16 in its bank's arbiter. -/
def inPort (done : BDone) (wr : Option (List Byte)) : Cluster :=
  { coreWith 0 { Core.reset with stall := .port 0 } with spd := { Spd.reset with
      nextGrp := 1
      groups := [{ id := 0, ctx := 0, done := done, left := 1, data := [], bad := false }]
      reqs := [{ cls := 4, grp := 0, idx := 0, line := 16, off := 56, len := 8, wr := wr }] } }

/-- A read and a write that are served, the write in a bank that is fenced and one that is not, and one whose context is torn down. -/
theorem witness_HandleAccess_service :
    (∀ p ∈ [(BDone.hld 0 3, none), (.hst 0, some (List.replicate 8 1))],
      let c := inPort p.1 p.2
      c.slotOpen 16 = true ∧ c.arbiterTurn 16 = true ∧ c.nextReq 16 = c.spd.reqs.head? ∧ (c.core 0).stall = .port 0
      ∧ c.spdSound (16 * 64 + 56) 8 ∧ c.tornSeen 0 = false ∧ c.fencedAt (16 * 64 + 56) = false ∧ c.bankCalm (16 * 64 + 56))
    ∧ { inPort (.hst 0) (some (List.replicate 8 1)) with flt := { Flt.reset with fenB := BitVec.allOnes 256 } }.fencedAt (16 * 64 + 56)
      = true
    ∧ (let c := ctx0 (inPort (.hst 0) (some (List.replicate 8 1))) { Ctx.reset with state := 2, torn := true }
      c.slotOpen 16 = true ∧ c.arbiterTurn 16 = true ∧ c.nextReq 16 = c.spd.reqs.head? ∧ c.tornSeen 0 = true
      ∧ c.fencedAt (16 * 64 + 56) = false) := by
  simp only [Cluster.spdSound, Cluster.bankCalm]; decide +kernel

/-- At the last offset inside the handle and the first beyond it. -/
theorem witness_HandleAccess :
    let e := (viaHandle 0x1C 0).regAt (rHnd 0)
    (∀ m ∈ [0x1C, 0x1D], (viaHandle m 56).serves 0 (isMaj m) ∧ (viaHandle m 64).serves 0 (isMaj m)
      ∧ (viaHandle m 56).tabSound [rHnd 0] ∧ (viaHandle m 64).tabSound [rHnd 0])
    ∧ hndGrants e 0 62 56 = true ∧ hndGrants e 0 62 64 = false ∧ hndGrants e 0 61 56 = true ∧ hndGrants e 0 61 64 = false := by
  simp only [Cluster.serves, Cluster.fetches, Cluster.imemSound, Cluster.tabSound]; decide +kernel

/-- The word of a service instruction with rd 3, ra 1, rb 2 and rs 4. -/
def svc (maj sub mode : Nat) : Nat := word maj 3 1 2 (4 * 64 + mode * 8 + sub)

theorem witness_ServicesRefused :
    (∀ p ∈ [(0x24, 0), (0x24, 1), (0x25, 0), (0x25, 1)],
      (ctx0 (coreWith (svc p.1 p.2 0) Core.reset) Ctx.reset).fetches 0 (isSvc p.1 p.2 0)
      ∧ (ctx0 (coreWith (svc p.1 p.2 0) Core.reset) { Ctx.reset with state := 2, torn := true }).fetches 0 (isSvc p.1 p.2 0))
    ∧ (∀ m ∈ [0x1C, 0x1D], (ctx0 (viaHandle m 0) Ctx.reset).fetches 0 (isMaj m)
      ∧ (ctx0 (viaHandle m 0) { Ctx.reset with state := 2, torn := true }).fetches 0 (isMaj m))
    ∧ (ctx0 go Ctx.reset).bound 0 = false ∧ (ctx0 go { Ctx.reset with state := 2, torn := true }).bound 0 = true
    ∧ (ctx0 go { Ctx.reset with state := 2, torn := true }).tornSeen 0 = true := by
  simp only [Cluster.fetches, Cluster.imemSound]; decide +kernel

/-- VIDs 0 to 1 of context 0 lie at entry 0 of the translation store; VID 0 is word 7, entry 1 is not valid, and word 7 holds
5 with FULL as given. -/
def synced (full : Bool) (c : Cluster) : Cluster :=
  { c.setReg rSyn (BitVec.ofNat 64 (2 ^ 63 + 2 ^ 35)) with
    xlat := [(0, 0xC0000007)]
    mem := Memory.write [] (syncAddr 7) (leBytes 8 (if full then 2 ^ 63 + 5 else 5)) }

/-- The synchronisation unit with one operation on word 7 under way. -/
def inUnit (what : SyncWhat) (c : Cluster) : Cluster := { c with syncOps := [⟨5, 7, 0, 0, 1, what, none, true⟩] }

/-- Core n with a wait on word 7, or with its wait registered. -/
def aWaiter (live : Bool) (kind n : Nat) : Cluster :=
  { go with waiters := vset go.waiters n (some ⟨live, 5, 7, 0, kind, 0, 0, false, 9999, 3, 4⟩) }

/-- Does no registered wait of a core other than n lie on word 7? -/
def alone (c : Cluster) (n : Nat) : Bool :=
  (List.range 8).all (fun m => m == n || (vat c.waiters m none).all (fun w => !w.live || w.word != 7))

/-- Each kind, as a wait and as a poll, and VIDs that translate and do not; and its condition met and not. -/
theorem witness_SyncWaits :
    (∀ k ∈ [0, 1, 2, 3], ∀ t ∈ [0, 9],
      let c := synced true (coreWith (svc 0x24 0 k) (two 0 (BitVec.ofNat 64 t)))
      c.serves 0 (isSvc 0x24 0 k) ∧ c.tabSound (c.vidKeys 0 0) ∧ c.translateVid 0 0 = some 0xC0000007
      ∧ c.translateVid 0 1 = none ∧ c.translateVid 0 2 = none)
    ∧ (∀ k ∈ [0, 1, 2, 3], ∀ n ∈ [0, 7], ∀ t ∈ [0, 9],
      let c := inUnit (.wait n t) (aWaiter false k n)
      c.syncOps.find? (fun p => p.id == 5) = c.syncOps.head? ∧ (vat c.waiters n none).isSome = true ∧ alone c n = true)
    ∧ (∀ k ∈ [0, 1, 2], waitHolds k 0 (2 ^ 63 + 5) = true ∧ waitHolds k 0 5 = false)
    ∧ waitHolds 3 0 5 = true ∧ waitHolds 3 0 (2 ^ 63 + 5) = false := by
  simp only [Cluster.serves, Cluster.fetches, Cluster.imemSound, Cluster.tabSound]; decide +kernel

/-- A signal in flight. -/
def aSig : SigSlot := ⟨0, 0, 0, 0, 0, 0, false, 0, none, 0⟩

/-- In own form to VIDs that translate and do not, in cross form with the first, the last or no slot free, and fences. -/
theorem witness_SyncSignals :
    let w := fun (k : Nat) (x : Core) => synced true (coreWith (svc 0x24 1 k) x)
    (∀ k ∈ [0, 1, 2, 3], (w k (two 0 0)).serves 0 (isSvc 0x24 1 k) ∧ (w k (two (2 ^ 31) 0)).serves 0 (isSvc 0x24 1 k)
      ∧ (w k { two (2 ^ 31) 0 with sig := vset (Vector.replicate 8 (some aSig)) 7 none }).serves 0 (isSvc 0x24 1 k)
      ∧ (w k { two (2 ^ 31) 0 with sig := Vector.replicate 8 (some aSig) }).serves 0 (isSvc 0x24 1 k))
    ∧ (w 0 (two 0 0)).translateVid 0 0 = some 0xC0000007 ∧ (w 0 (two 0 0)).translateVid 0 1 = none
    ∧ (w 0 (two 0 0)).tabSound ((w 0 (two 0 0)).vidKeys 0 0)
    ∧ (∀ k < 8, vat (two 0 0).sig k none = none)
    ∧ vat (vset (Vector.replicate 8 (some aSig)) 7 none) 7 none = none
    ∧ (∀ j < 7, vat (vset (Vector.replicate 8 (some aSig)) 7 none) j none ≠ none)
    ∧ (∀ k < 8, vat (Vector.replicate 8 (some aSig)) k none ≠ none)
    ∧ (w 4 (two 0 0)).serves 0 (isSvc 0x24 1 4) ∧ (w 4 { two 0 0 with sig := Vector.replicate 8 (some aSig) }).serves 0 (isSvc 0x24 1 4) := by
  simp only [Cluster.serves, Cluster.fetches, Cluster.imemSound, Cluster.tabSound]; decide +kernel

/-- Each kind of signal, with no registered wait on the word, and with one of the first or the last core. -/
theorem witness_SignalEffect : ∀ sig ∈ [0, 1, 2, 3],
    let here := inUnit (.signal sig 9 0 0 0)
    (here go).syncOps.find? (fun p => p.id == 5) = (here go).syncOps.head? ∧ (∀ n < 8, vat (here go).waiters n none = none)
    ∧ ∀ kind ∈ [0, 1], ∀ n ∈ [0, 7], (vat (here (aWaiter true kind n)).waiters n none).isSome = true
      ∧ alone (here (aWaiter true kind n)) n = true := by decide +kernel

/-- A spore in a send slot. -/
def aSend (posted : Bool) : SendSlot := ⟨0, [], posted, 100⟩

/-- With the first slot free, and with only the last. -/
theorem witness_SporeHeader : ∀ posted ∈ [0, 1],
    (coreWith (svc 0x25 0 posted) Core.reset).serves 0 (isSvc 0x25 0 posted)
    ∧ badHdr 0 0 = false ∧ errWords (coreWith (svc 0x25 0 posted) Core.reset).dmemErr 0 0 64 = []
    ∧ vat Core.reset.send 0 none = none
    ∧ (coreWith (svc 0x25 0 posted) { Core.reset with send := vset (Vector.replicate 8 (some (aSend true))) 7 none }).serves 0 (isSvc 0x25 0 posted)
    ∧ vat (vset (Vector.replicate 8 (some (aSend true))) 7 none) 7 none = none
    ∧ (∀ j < 7, vat (vset (Vector.replicate 8 (some (aSend true))) 7 none) j none ≠ none) := by
  simp only [Cluster.serves, Cluster.fetches, Cluster.imemSound]; decide +kernel

/-- A refused header at address 0 in words without error, with one and with two wrong bits; one beyond the end of data memory; no free
slot; and a fence with and without a posted spore in flight. -/
theorem witness_SporeFence :
    (∀ m ∈ [0, 1], (coreWith (svc 0x25 0 m) (two 65536 0)).serves 0 (isSvc 0x25 0 m)
      ∧ (coreWith (svc 0x25 0 m) { Core.reset with send := Vector.replicate 8 (some (aSend false)) }).serves 0 (isSvc 0x25 0 m))
    ∧ badHdr 65536 0 = true ∧ badHdr 0 (BitVec.ofNat 128 (2 ^ 13)) = true ∧ badHdr 0 0 = false ∧ badHdr 65472 0 = false
    ∧ (∀ k < 8, vat (Vector.replicate 8 (some (aSend false))) k none ≠ none)
    ∧ (∀ b ∈ [true, false],
      (coreWith (svc 0x25 0 2) { Core.reset with send := Vector.replicate 8 (some (aSend b)) }).serves 0 (isSvc 0x25 0 2))
    ∧ (∀ m ∈ [0, 1], ∀ e ∈ [0, 1, 3],
      let c := { coreWith (svc 0x25 0 m) Core.reset with dmem := Memory.write [] 0 (leBytes 4 (2 ^ 13)), dmemErr := if e = 0 then [] else [(8, BitVec.ofNat 64 e)] }
      c.serves 0 (isSvc 0x25 0 m) ∧ badHdr 0 (BitVec.ofNat 128 (leNat (Memory.bytes c.dmem 0 16))) = true
      ∧ errWords c.dmemErr 0 0 16 = (if e = 0 then [] else [(8, BitVec.ofNat 64 e)]) ∧ popcount 64 e = (e + 1) / 2) := by
  simp only [Cluster.serves, Cluster.fetches, Cluster.imemSound]; decide +kernel

/-- Ring 0: valid, of context 0 and core 0, with four slots from the first line of handle 0, holding k records. -/
def ringed (k : Nat) (c : Cluster) : Cluster :=
  { held c with rdesc := [(0, BitVec.ofNat 64 (2 ^ 63 + 2 * 2 ^ 49))], prod := if k = 0 then [] else [(0, BitVec.ofNat 32 k)] }

/-- An empty ring and one with a record of one slot, copied to the start and the end of data memory and beyond it, a ring that is
not valid, and a receive past its deadline. -/
theorem witness_RingReceive :
    (∀ m ∈ [0, 1, 2, 3], ∀ k ∈ [0, 1], ∀ d ∈ [0, 65472, 65473],
      let c := ringed k (coreWith (svc 0x25 1 m) (two 0 (BitVec.ofNat 64 d)))
      c.serves 0 (isSvc 0x25 1 m) ∧ c.tabSound [kRing 0] ∧ ringValid (c.ringD 0) = true ∧ ringCore (c.ringD 0) = 0
      ∧ ringCtx (c.ringD 0) = 0 ∧ (c.prodOf 0 = c.consOf 0 ↔ k = 0))
    ∧ (∀ copy ∈ [true, false], ∀ d ∈ [0, 65472, 65473],
      let c := ringed 1 (coreWith 0 { two 0 (BitVec.ofNat 64 d) with stall := .recvRead 0 3 2 4 copy 0 })
      (c.core 0).stall = .recvRead 0 3 2 4 copy 0 ∧ c.dmemCalm 0)
    ∧ sLen 0 = 1 ∧ sLen (BitVec.ofNat 128 (2 ^ 21)) = 2 ∧ go.canon
    ∧ (∀ m ∈ [0, 1, 2, 3], (coreWith (svc 0x25 1 m) Core.reset).serves 0 (isSvc 0x25 1 m))
    ∧ ringValid (go.ringD 0) = false
    ∧ ((coreWith 0 { Core.reset with stall := .recv 0 3 2 4 0 }).core 0).stall = .recv 0 3 2 4 0 ∧ 0 ≤ go.tk := by
  and_intros
  all_goals first
    | decide +kernel
    | exact go_canon
    | (simp only [Cluster.serves, Cluster.fetches, Cluster.imemSound, Cluster.tabSound, Cluster.dmemCalm]; decide +kernel)

/-- RRD at the ends of the windows that it may read and at addresses that it may not, and RWR at each place that it may write and
at one that it may not. -/
theorem witness_RegisterAccess :
    (∀ k ∈ [0, 1], ∀ a ∈ [0x20000000, 0x2003FFFC, 0x200A0000, 0x200AFFFC, 0x20100000, 0x2010FFFC, 0x20040000, 0x20000002,
        0x20110000, 0x20100020, 0x20100024, 0x20100038, 0x2010003C],
      (coreWith (word 0x1E 3 1 2 k) (two (BitVec.ofNat 64 a) 1)).fetches 0 (isFn 0x1E k)
      ∧ (coreWith (word 0x1E 3 1 2 k) (two (BitVec.ofNat 64 a) 1)).tabSound
        ((coreWith (word 0x1E 3 1 2 k) (two (BitVec.ofNat 64 a) 1)).viewKeys a)) := by
  simp only [Cluster.fetches, Cluster.imemSound, Cluster.tabSound]; decide +kernel

theorem witness_CoreStops :
    { coreWith 0 Core.reset with flt := { Flt.reset with armed := [(0x26, 0)] } }.lockstepArmed 0 = true
    ∧ (coreWith 0 { Core.reset with codeLo := 4 }).lockstepArmed 0 = false
    ∧ (coreWith 0 { Core.reset with codeLo := 4 }).scalarReady 0 = true
    ∧ ((coreWith 0 { Core.reset with codeLo := 4 }).core 0).inCode = false
    ∧ (∀ p ∈ [(0x18, 8), (0x19, 4), (0x1B, 4)],
      let c := { coreWith (word p.1 3 1 0 0) Core.reset with dmemErr := [(0, 3)] }
      c.fetches 0 (isMaj p.1) ∧ (∃ kv ∈ errWords c.dmemErr 0 0 p.2, 2 ≤ popcount 64 kv.2.toNat)
      ∧ (∃ kv ∈ errWords c.dmemErr 0 (0 / 8 * 8) 8, 2 ≤ popcount 64 kv.2.toNat))
    ∧ ∀ e ∈ [1, 3],
      let c := { coreWith (word 0x3F 0 0 0 1) Core.reset with imemErr := [(0, BitVec.ofNat 64 e)] }
      c.lockstepArmed 0 = false ∧ c.scalarReady 0 = true ∧ (c.core 0).inCode = true ∧ isSub 0x3F 1 (c.word 0) = true
      ∧ errWords c.imemErr 0 0 4 = [(0, BitVec.ofNat 64 e)] ∧ popcount 64 e = e / 2 + 1 := by
  simp only [Cluster.fetches, Cluster.imemSound]; decide +kernel

/-- Core 0 as x, its walker about to perform an entry of a kind and rest. -/
def walker (kind rest : Nat) (x : Core) : Cluster :=
  { go with
    imem := Memory.write [] 0 (leBytes 4 (kind * 2 ^ 28 + rest))
    cores := vset go.cores 0 { x with mode := if x.mode = 2 then 2 else 1, walkRun := true } }

theorem witness_WalkFlow :
    (walker 1 9 Core.reset).walks 0 1 0 ∧ (walker 2 0 Core.reset).walks 0 2 0 ∧ (walker 5 0 Core.reset).walks 0 5 0
    ∧ (walker 15 0 Core.reset).walks 0 15 0 ∧ (walker 15 0 { Core.reset with stall := .wdrain }).walks 0 15 0
    ∧ (∀ k ∈ [2, 3], ((walker 2 0 { Core.reset with loops := Vector.replicate 4 ⟨true, k, 4, 1⟩ }).walks 0 2 0))
    ∧ (vat ((walker 2 0 { Core.reset with loops := Vector.replicate 4 ⟨true, 2, 4, 1⟩ }).core 0).loops 0 Loop.reset).idx + 1 < 4
    ∧ 4 ≤ (vat ((walker 2 0 { Core.reset with loops := Vector.replicate 4 ⟨true, 3, 4, 1⟩ }).core 0).loops 0 Loop.reset).idx + 1 := by
  simp only [Cluster.walks, Cluster.imemSound]; decide +kernel

/-- A macro-op: its opcode, DUR, STAMP and the bits below, for context 0. -/
def op (opc dur stamp rest : Nat) : MacroOp := BitVec.ofNat 256 (opc * 2 ^ 248 + dur * 2 ^ 224 + stamp * 2 ^ 192 + rest)

/-- A queue that holds one visible op. -/
def queued (q : Nat) (o : MacroOp) (c : Cluster) : Cluster := c.setQueue q { EngQ.reset with ents := [⟨o, 0⟩], count := 1 }

/-- With the queue empty, with one entry free and with none, one freed in the present CK_C cycle, without credit, and on the way
out of a full queue. -/
theorem witness_IssueEntry :
    let filled := fun (n : Nat) (freed : List Nat) =>
      (walker 0 0 Core.reset).setQueue 0 { EngQ.reset with ents := List.replicate n ⟨op 0x16 1 0 0, 0⟩, freed := freed }
    let full := fun (c : Cluster) =>
      64 ≤ (c.queue 0).ents.length + ((c.queue 0).freed.filter (fun g => decide (c.clk.free / 2 * 2 ≤ g))).length
    (∀ sel ∈ [0, 9, 10], (walker 0 (sel * 2 ^ 24) Core.reset).walks 0 0 0) ∧ (walker 0 0 { Core.reset with mode := 2 }).walks 0 0 0
    ∧ (walker 0 0 { Core.reset with mode := 2, wwait := 9, credit := 1 }).walks 0 0 9
    ∧ ((walker 0 0 { Core.reset with mode := 2 }).core 0).credit = 0
    ∧ (∀ p ∈ [(63, []), (63, [1000]), (64, [])], (filled p.1 p.2).walks 0 0 0)
    ∧ ¬ full (filled 63 []) ∧ full (filled 63 [1000]) ∧ full (filled 64 []) ∧ (walker 0 0 { Core.reset with wwait := 1 }).walks 0 0 1 := by
  simp only [Cluster.walks, Cluster.imemSound]; decide +kernel

theorem witness_DeltaPatch :
    let d : BitVec 256 := BitVec.ofNat 256 (191 * 2 ^ 120 + 32 * 2 ^ 114)
    (d.extractLsb' 120 8).toNat ≤ 191 ∧ (d.extractLsb' 114 6).toNat ≤ 32 := by decide +kernel

/-- An image with nothing in it. -/
def noImg : Img where
  imgid := 0
  c1 := false
  modes := 0
  latman := []
  widthm := 0
  witm := 0
  wittol := []
  holes := 0
  ctxs := [0]
  handles := []
  rings := []
  sorus := []
  xlat := []
  bases := []
  base := 0
  lines := 32
  peak := 0
  peakWin := 0
  retire := false
  pads := []
  named := []
  secs := []
  regs := []
  uses := []

/-- An image in slot 0 with one section, at 0x400 of scratchpad line 0 on: a segment table whose entry 0 is of a kind. -/
def withSegs (kind : Nat) (c : Cluster) : Cluster :=
  { c with
    linings := [⟨0, 0, []⟩]
    imgs := vset c.imgs 0 (some noImg)
    mem := Memory.write (Memory.write (Memory.write [] 0x0C [1]) 0x100 (leBytes 4 9 ++ leBytes 4 0x400 ++ leBytes 4 1088)) 0x400
      [BitVec.ofNat 8 kind] }

/-- A core whose segment queue holds a record of a region. -/
def recorded (tab : Nat) (wait : Nat) : Core := { Core.reset with segq := [⟨tab, 0, 1, 50⟩], wwait := wait }

/-- Comparators that hold at their bound and miss by one; variant and branch regions, with a record of the region, of another, and
none, with one of the region lost and without. -/
theorem witness_WalkChoices :
    (∀ b ∈ [50, 51], ∀ w ∈ [0, 7], ∀ didx ∈ [0, 255],
      let c := (walker 3 0 { Core.reset with wwait := w }).setReg (rCore 0 + 0x100) (BitVec.ofNat 64 (didx * 2 ^ 54 + b))
      c.walks 0 3 w ∧ c.tabSound [rCore 0 + 0x100] ∧ c.imemSound 0 (if didx = 0 then [] else [((c.core 0).delta + 32 * didx, 32)])
      ∧ (c.regAt (rCore 0 + 0x100)).extractLsb' 0 32 = BitVec.ofNat 32 b)
    ∧ go.tim.lcc = 50
    ∧ (∀ w ∈ [0, 2], ∀ kind ∈ [0, 1], ∀ t ∈ [0, 1],
      let c := withSegs kind (walker 4 0 (recorded t w))
      c.walks 0 4 w ∧ (c.segHead 0).isSome = true
      ∧ (c.segEntry 0).1.map segVar = some (decide (kind = 1)) ∧ ((c.segEntry 0).2.core 0).segq = (recorded t w).segq
      ∧ (c.segEntry 0).2.tim.lcc = 50 ∧ (c.segEntry 0).2.heldNow = false)
    ∧ (∀ lost ∈ [[], [0]], ∀ w ∈ [0, 2], ∀ q ∈ [[], [⟨0, 0, 1, 50⟩]],
      let c := withSegs 0 (walker 4 0 { Core.reset with segLost := lost, wwait := w, segq := q })
      let c := { c with tim := { c.tim with duty := 16 } }
      c.walks 0 4 w ∧ c.segHead 0 = none ∧ (c.core 0).segLost = lost ∧ (c.segEntry 0).1.isSome = true
      ∧ ((c.segEntry 0).2.core 0).segq = q ∧ (c.segEntry 0).2.tim.lcc = 50 ∧ (c.segEntry 0).2.heldNow = true) := by
  simp only [Cluster.walks, Cluster.imemSound, Cluster.tabSound]; decide +kernel

/-- A core whose template 0 is a sync record of context 0. -/
def record (full : Bool) (x : Core) (kind sig target timeout : Nat) : Cluster :=
  let c := synced full (walker 6 0 { x with tmpl := 64 })
  { c with imem := Memory.write c.imem 64 (leBytes 32 (kind * 2 ^ 239 + sig * 2 ^ 238 + timeout * 2 ^ 160 + target * 2 ^ 128)) }

/-- Signals in own and cross form, with the first, the last and no slot free; waits whose condition holds and does not; VIDs that
translate and do not; a torn context. -/
theorem witness_SyncRecords :
    let full : Vector (Option SigSlot) 8 := Vector.replicate 8 (some aSig)
    (∀ x ∈ [Core.reset, { Core.reset with sig := vset full 7 none }, { Core.reset with sig := full }],
      (record true x 0 1 (2 ^ 31) 0).walks 0 6 0)
    ∧ (∀ k ∈ [0, 1, 2, 3], ∀ sig ∈ [0, 1], ∀ f ∈ [true, false], ∀ t ∈ [0, 1],
      let c := record f Core.reset k sig t 9
      c.walks 0 6 0 ∧ c.tornSeen 0 = false ∧ c.tabSound (c.vidKeys 0 t)
      ∧ c.translateVid 0 t = (if t = 0 then some 0xC0000007 else none)
      ∧ c.spdSound (syncAddr 7) 8 ∧ vat c.waiters 0 none = none ∧ waitHolds k 0 (c.syncWord 7) = (if k = 3 then !f else f))
    ∧ (ctx0 (record true Core.reset 0 0 0 9) { Ctx.reset with state := 2, torn := true }).tornSeen 0 = true
    ∧ (ctx0 (record true Core.reset 0 0 0 9) { Ctx.reset with state := 2, torn := true }).walks 0 6 0 := by
  simp only [Cluster.walks, Cluster.imemSound, Cluster.tabSound, Cluster.spdSound]; decide +kernel

/-- A record's operation under way: a wait without and with a timeout, and one that has expired. -/
theorem witness_SyncRecords_engine : ∀ k ∈ [0, 1, 2, 3], ∀ n ∈ [0, 7], ∀ what ∈ [SyncWhat.wait n 0, .wait n 9, .expire n],
      let c := inUnit what { go with waiters := vset go.waiters n (some ⟨false, 5, 7, 0, k, 0, 0, true, 9999, 0, 0⟩) }
      c.syncOps.find? (fun p => p.id == 5) = c.syncOps.head? ∧ (vat c.waiters n none).isSome = true ∧ alone c n = true := by
  decide +kernel

/-- LCC is 50: the op starts at its STAMP and one later, and not before; and not while a pre-emption point is due. -/
theorem witness_StartRule :
    (queued 0 (op 0x10 9 50 0) go).starting 0 0x10 = some (op 0x10 9 50 0)
    ∧ (queued 0 (op 0x10 9 49 0) go).starting 0 0x10 = some (op 0x10 9 49 0)
    ∧ (queued 0 (op 0x10 9 51 0) go).starting 0 0x10 = none
    ∧ (queued 0 (op 0x10 9 50 0) { go with run := some { theRun with ctl := [op 0x52 0 50 0] } }).starting 0 0x10 = none := by
  decide +kernel

/-- An op on time and a late one, nullified or not, with CLU_SLIPFIRST empty and full. -/
theorem witness_OpStart :
    let torn := ctx0 go { Ctx.reset with state := 2, torn := true }
    go.canon ∧ (queued 0 (op 0x10 9 50 0) go).nullified 0 0 (op 0x10 9 50 0) 50 = false
    ∧ (queued 0 (op 0x10 9 50 0) torn).nullified 0 0 (op 0x10 9 50 0) 50 = true
    ∧ opStamp (op 0x10 9 50 0) = 50 ∧ opStamp (op 0x10 9 49 0) < go.lcc
    ∧ (go.regAt 0x20001300).getLsbD 63 = false ∧ ((go.setReg 0x20001300 (2 ^ 63)).regAt 0x20001300).getLsbD 63 = true
    ∧ (go.regAt 0x20074010).toNat + 9 < 2 ^ 64 ∧ (go.regAt 0x20074018).toNat + 9 < 2 ^ 64
    ∧ (go.regAt 0x20074020).toNat + 9 * (tokRate (op 0x10 9 50 0) + 1) < 2 ^ 64 :=
  ⟨go_canon, by decide +kernel⟩

theorem witness_NullifiedOps :
    let torn := ctx0 go { Ctx.reset with state := 2, torn := true }
    (∀ p ∈ [(5, 0x21), (5, 0x22), (5, 0x23), (5, 0x25), (4, 0x30), (4, 0x31), (4, 0x32), (4, 0x33), (4, 0x34), (4, 0x35),
        (4, 0x36), (4, 0x37), (0, 0x15), (0, 0x16), (48, 0x40), (48, 0x41), (48, 0x42)],
      (queued p.1 (op p.2 1 50 0) torn).starting p.1 p.2 = some (op p.2 1 50 0)
      ∧ (queued p.1 (op p.2 1 50 0) torn).nullified p.1 0 (op p.2 1 50 0) 50 = true)
    ∧ opOpc (op 0x20 1 50 0) = 0x20 ∧ opOpc (op 0x24 1 50 0) = 0x24 := by decide +kernel

/-- Core 0 with tiles 0 and 23 of one row-group geometry: R - 1 and B / 16 - 1 as given. -/
def tiled (r b : Nat) (c : Cluster) : Cluster :=
  (c.setReg (rTilCfg 0 0) (BitVec.ofNat 64 (2 ^ 11 + (r - 1) * 2 ^ 4 + (b / 16 - 1)))).setReg (rTilCfg 0 23)
    (BitVec.ofNat 64 (2 ^ 11 + (r - 1) * 2 ^ 4 + (b / 16 - 1)))

/-- In the first and the last row of tile 0 of 128 rows of 16 bytes, empty and written. -/
theorem witness_EmptyRows :
    let c := tiled 128 16 go
    c.canon ∧ c.tileValid 0 0 = true ∧ c.tileRows 0 0 = 128 ∧ c.tileB 0 0 = 16 ∧ (∀ r ∈ [0, 127], (c.tileEmpty 0 0).testBit r = true)
    ∧ (c.tileWrite 0 0 127 15 [9]).canon ∧ (c.tileWrite 0 0 127 15 [9]).tileValid 0 0 = true
    ∧ ((c.tileWrite 0 0 127 15 [9]).tileEmpty 0 0).testBit 127 = false := by
  simp only [Cluster.canon]; decide +kernel

/-- A TCFG of tiles 0 and 23, and an op of tile 0 that still refers to it. -/
def cfgOp : MacroOp := op 0x20 1 50 (2 ^ 176 + 2 ^ 175)
def cfgBusy : Cluster := { queued 5 cfgOp go with refs := [⟨5, 0, 50, 50⟩] }

/-- TCFG, TREL and a TZERO of all rows of tile 0, which start; and what they do at the end of their cycle, a TCFG without and with a
reference that it meets. -/
theorem witness_TileShapes :
    (tiled 128 16 go).canon
    ∧ (queued 5 cfgOp go).starting 5 0x20 = some cfgOp
    ∧ go.busyRefs 0 50 (maskTiles cfgOp) = [] ∧ cfgBusy.busyRefs 0 50 (maskTiles cfgOp) ≠ []
    ∧ (queued 5 (op 0x24 1 50 (2 ^ 176)) go).starting 5 0x24 = some (op 0x24 1 50 (2 ^ 176))
    ∧ (queued 5 (op 0x25 1 50 (128 * 2 ^ 172)) go).starting 5 0x25 = some (op 0x25 1 50 (128 * 2 ^ 172))
    ∧ (queued 5 (op 0x25 1 50 (128 * 2 ^ 172)) go).nullified 5 0 (op 0x25 1 50 (128 * 2 ^ 172)) 50 = false := by
  simp only [Cluster.canon]; decide +kernel

/-- Each op as it starts, and in the first and the last cycle in which it reads. -/
theorem witness_TileMoves :
    (∀ p ∈ [(0x21, 0), (0x22, 0), (0x23, 0), (0x23, 2 ^ 159)],
      (queued 5 (op p.1 1 50 p.2) go).starting 5 p.1 = some (op p.1 1 50 p.2)
      ∧ (queued 5 (op p.1 1 50 p.2) go).nullified 5 0 (op p.1 1 50 p.2) 50 = false
      ∧ (queued 5 (op p.1 1 50 p.2) go).tabSound [rHnd (fld (op p.1 1 50 p.2) 171 160)])
    ∧ ∀ k ∈ [1, 2, 3], ∀ i ∈ [0, 7],
      let m : Mov := ⟨0, k, op (0x20 + k) 1 50 0, 50 - i, 8, 5, 8, [], false⟩
      m.stop = false ∧ go.lcc = m.t0 + i ∧ i < m.reads ∧ (go.portRead (opCtx m.op) (go.rowAddr m.op i) (moveB m.op)).2.2 = false := by
  simp only [Cluster.tabSound]; decide +kernel

/-- From the last row of tile 0 to the last of tile 23, and from the first to the first. -/
theorem witness_TileMoves_row : ∀ r ∈ [0, 127],
    let m : Mov := ⟨0, 3, op 0x23 1 50 (r * 2 ^ 180 + 23 * 2 ^ 175 + r * 2 ^ 168 + 2 ^ 160), 50, 1, 5, 1, [], false⟩
    let e := tiled 128 16 go
    m.stop = false ∧ e.lcc = m.t0 + 0 ∧ 0 < m.reads ∧ tmovB m.op = e.tileB 0 23 ∧ e.tileB 0 0 = e.tileB 0 23 ∧ fld m.op 191 187 = 0
    ∧ fld m.op 179 175 = 23 ∧ e.canon ∧ e.tileValid 0 23 = true ∧ fld m.op 174 168 + 0 < e.tileRows 0 23 := by
  simp only [Cluster.canon]; decide +kernel

/-- The first and the last operand of a fill; and an array without bad columns, which presents all that it may. -/
theorem witness_FillCells :
    (∀ k ∈ [0x10, 0x12], ∀ i ∈ [0, 7],
      let f : Fill := ⟨op k 8 1 (7 * 2 ^ 128), 50 - (go.regAt 0x20001400).toNat % 2 ^ 16 - i, false, false, none, none, [], []⟩
      opOpc f.op = k ∧ f.counts = false ∧ go.lcc = f.t0 + (go.regAt 0x20001400).toNat % 2 ^ 16 + i ∧ i < opN f.op)
    ∧ go.canon ∧ (List.replicate 128 ([] : List (Nat × FV))).length = 128
    ∧ go.presW 0 + (if go.witness 0 then 1 else 0) ≤ (go.goodCols 0).length := by
  simp only [Cluster.canon]; decide +kernel

/-- One-pass ops and each CMODE, with SWAP 0 and 1; the drain time in force is 32. -/
theorem witness_SwapsAndDrains :
    (go.regAt 0x20001404).toNat % 2 ^ 16 = 32
    ∧ ∀ s ∈ [0, 1], (∀ k ∈ [0x10, 0x11, 0x12], opOpc (op k 1 50 (s * 2 ^ 118)) = k ∧ (op k 1 50 (s * 2 ^ 118)).getLsbD 118 = decide (s = 1))
      ∧ ∀ m ∈ [0, 1, 2, 3], fld (op 0x13 1 50 (s * 2 ^ 118 + m * 2 ^ 16)) 17 16 = m
        ∧ opOpc (op 0x13 1 50 (s * 2 ^ 118 + m * 2 ^ 16)) = 0x13
        ∧ (op 0x13 1 50 (s * 2 ^ 118 + m * 2 ^ 16)).getLsbD 118 = decide (s = 1) := by decide +kernel

theorem witness_MatrixOps : ∀ k ∈ [0x10, 0x11, 0x12, 0x13],
    let o := op k 32 50 0
    let torn := ctx0 go { Ctx.reset with state := 2, torn := true }
    (queued 0 o go).starting 0 k = some o ∧ (queued 0 o go).nullified 0 0 o 50 = false ∧ (queued 0 o go).tabSound (opKeys 0 o)
    ∧ (queued 0 o torn).starting 0 k = some o ∧ (queued 0 o torn).nullified 0 0 o 50 = true := by
  simp only [Cluster.tabSound]; decide +kernel

/-- An MDRAIN, MPRE and MNUL that start, an array with nothing to read, and one whose MMA starts ten cycles from now with LEAD 10. -/
theorem witness_MatrixMarkers :
    (∀ k ∈ [0x14, 0x15, 0x16], (queued 0 (op k 1 50 0) go).starting 0 k = some (op k 1 50 0)
      ∧ (queued 0 (op k 1 50 0) go).nullified 0 0 (op k 1 50 0) 50 = false)
    ∧ go.aheadDue 0 = false ∧ (queued 0 (op 0x10 32 60 (10 * 2 ^ 145)) go).aheadDue 0 = true := by decide +kernel

/-- A drain of an array, nullified or not. -/
def job (nul : Bool) : DrainJob := ⟨op 0x10 32 10 0, 50, false, nul, 0, false, [], [], false⟩

theorem witness_DrainRuns :
    (∀ nul ∈ [true, false],
      let c := go.setArr 0 { ArrSt.reset with jobs := [job nul] }
      c.runs = true ∧ (c.arr 0).jobs = [job nul] ∧ (job nul).due ≤ c.lcc ∧ c.tabSound (drainKeys 0 (job nul).op))
    ∧ (∀ nul ∈ [true, false], ∀ i ∈ [0, 31],
      let j := { job nul with due := 50 - i }
      let c := go.setArr 31 { ArrSt.reset with drn := some j }
      (c.arr 31).drn = some j ∧ c.lcc = j.due + i ∧ j.pre = false ∧ c.witness 31 = false ∧ fld j.op 109 104 = 0
      ∧ (c.setReg 0x20001508 (2 ^ 31)).witness 31 = true)
    ∧ go.armedAt 0x28 0 = false ∧ go.canon := by
  and_intros
  all_goals first
    | decide +kernel
    | exact go_canon
    | (simp only [Cluster.tabSound]; decide +kernel)

/-- The sum 1 + 1 against 2 and 1 as integers; the values 1.0 and 1.0 against 2.0, 3.0 and 0 with TOLREL 31 and A = 2^-15; an infinity is
skipped (R116). -/
theorem witness_DrainRuns_rows :
    (∀ w : Fin 2, rowMismatch true 0 [1, 1] (BitVec.ofNat 32 (w.val + 1)) = some (decide (w.val = 0)))
    ∧ rowMismatch false 0 [0x7F800000] 0 = none ∧ (f32 0x7F800000).isFin = false
    ∧ rowMismatch false 0x1F70 [0x3F800000, 0x3F800000] 0x40000000 = some false
    ∧ rowMismatch false 0x1F70 [0x3F800000, 0x3F800000] 0x40400000 = some true
    ∧ rowMismatch false 0x1F70 [0x3F800000, 0x3F800000] 0 = some true
    ∧ (f32 0x40000000).isFin = true ∧ (f32 0x40400000).isFin = true ∧ (f32 0).isFin = true ∧ (f32 0x3F800000).isFin = true := by
  decide +kernel

theorem witness_VectorOps : ∀ k ∈ [0x30, 0x31, 0x32, 0x33, 0x34, 0x35, 0x36, 0x37],
    let o := op k 1 50 0
    let c := queued 4 o go
    c.starting 4 k = some o ∧ c.nullified 4 0 o 50 = false ∧ c.tabSound (c.descKeys 0 o) ∧ c.tabSound (frondKeys 0 (fld o 191 187)) := by
  simp only [Cluster.tabSound]; decide +kernel

/-- A vector op under way since LCC 40, at the cycle in which its first or its last iteration is due and one beyond it: a VGATH of two
entries, the second of which names row 0 of tile 0, a VSCAT with ADD, and a VRED. -/
theorem witness_VectorOps_cycles :
    let vgath := op 0x34 99 40 (2 ^ 38)
    let vscat := op 0x35 99 40 (2 ^ 38 + 2 ^ 23)
    let vred := op 0x32 99 40 0
    let on := fun (o : MacroOp) (lcc : Nat) =>
      let c := tiled 128 16 { go with tim := { go.tim with lcc := lcc } }
      c.setVec 0 (some ⟨o, 40, 99, [], [], [(0, 0), (0x8000, 0)]⟩)
    (∀ lcc ∈ [40 + go.vX + 1, 40 + go.vX + 2, 40 + go.vX + 3], ((on vgath lcc).vec 0).isSome = true ∧ (on vgath lcc).vecIters 0 vgath = 2)
    ∧ (on vscat 40).vecIters 0 vscat = 2 ∧ 1 ≤ (on vred 40).vecIters 0 vred
    ∧ (on vgath 40).tileRows 0 0 = 128 ∧ (0x8000#16).getLsbD 15 = true ∧ (0#16).getLsbD 15 = false := by
  decide +kernel

/-- Elements with and without NaN, all NaN, and equal ones. -/
theorem witness_VectorOps_reductions :
    (f32 0x7FC00000).isNan = true ∧ (f32 0x3F800000).isNan = false
    ∧ redArg false true [0x3F800000, 0x40000000, 0x40000000] = 1 ∧ redExt false false [0x3F800000, 0x40000000] = 0x3F800000
    ∧ fmtIsInt 0 = false ∧ fmtIsInt 7 = true := by
  decide +kernel

/-- A transfer of one block. -/
def aXfer (opc ga : Nat) (dec : List Nat) : Xfer := ⟨op opc 1 10 (ga * 2 ^ 144), 1, 0, 0, 0, 0, false, 0, 3, 0, dec, []⟩

/-- Channel 0 with a table. -/
def tabbed (tab : Vector (Option Xfer) 16) (park : Option Nat) (c : Cluster) : Cluster := c.setChan 0 ⟨tab, [], park, []⟩

/-- A table of one transfer in a slot. -/
def oneXfer (slot : Nat) (x : Xfer) : Vector (Option Xfer) 16 := vset (Vector.replicate 16 none) slot (some x)

/-- A transfer whose block 0 is parked, in slot 15. -/
def parked (ga : Nat) : Cluster := tabbed (oneXfer 15 { aXfer 0x40 ga [] with parked := true }) (some 15) go

/-- With 15 and with 16 transfers outstanding; a DMARR that is late and one that is not. -/
theorem witness_TransferStart :
    let full : Vector (Option Xfer) 16 := Vector.replicate 16 (some (aXfer 0x40 0 []))
    (∀ k ∈ [0x40, 0x41, 0x42], ∀ t ∈ [full, vset full 15 none],
      (queued 48 (op k 1 50 0) (tabbed t none go)).starting 48 k = some (op k 1 50 0)
      ∧ (queued 48 (op k 1 50 0) (tabbed t none go)).nullified 48 0 (op k 1 50 0) 50 = false)
    ∧ ((queued 48 (op 0x42 1 50 (2 ^ 188)) go).lateAt 50 0).isSome = true
    ∧ (queued 48 (op 0x42 1 50 0) go).lateAt 50 0 = none := by decide +kernel

/-- Window 0 with an entry and a size of four lines. -/
def window (e : Nat) : Cluster := (go.setReg 0x200A1000 (BitVec.ofNat 64 e)).setReg 0x200A1008 4

/-- A local address; an entry that is not valid, one that is, at the last block inside its size and one line beyond, with each
permission and both kinds of target. -/
theorem witness_WindowTranslation :
    (BitVec.ofNat 48 0).extractLsb' 46 2 ≠ 2 ∧ (BitVec.ofNat 48 (2 ^ 47 + 64)).extractLsb' 46 2 = 2
    ∧ (go.regAt 0x200A1000).getLsbD 63 = false
    ∧ (∀ p ∈ [0, 2 ^ 61, 2 ^ 62], ∀ t ∈ [0, 2 ^ 47], ((window (2 ^ 63 + p + t)).regAt 0x200A1000).getLsbD 63 = true
      ∧ ((window (2 ^ 63 + p + t)).regAt 0x200A1000).getLsbD 61 = decide (p = 2 ^ 61)
      ∧ ((window (2 ^ 63 + p + t)).regAt 0x200A1000).getLsbD 62 = decide (p = 2 ^ 62)
      ∧ ((window (2 ^ 63 + p + t)).regAt 0x200A1000).getLsbD 47 = decide (t = 2 ^ 47)
      ∧ ((window (2 ^ 63 + p + t)).regAt 0x200A1008).toNat = 4)
    ∧ ¬ (4 * 64 < 0 + 64 * 4) ∧ 4 * 64 < 64 + 64 * 4 ∧ ¬ (4 * 64 < 192 + 64 * 1) := by decide +kernel

/-- A block that translates and one that does not, in the first and the last slot, with the park free and occupied, with a port that
is full; a DMPUT block in flight; a transfer past its limit. -/
theorem witness_TransferBlocks :
    (∀ slot ∈ [0, 15], ∀ opc ∈ [0x40, 0x41], ∀ ga ∈ [0, 2 ^ 47], ∀ park ∈ [none, some 3],
      let x := aXfer opc ga []
      let c := tabbed (oneXfer slot x) park go
      c.live = true ∧ c.portRoom = true ∧ (c.chan 0).nextSend = some (slot, x) ∧ opOpc x.op = opc
      ∧ (c.translate ga 1 (opc == 0x41)).2 = (if ga = 0 then none else some 0)
      ∧ vat (c.chan 0).tab slot none = some x ∧ x.parked = false ∧ x.at_ + x.lim ≤ c.tk)
    ∧ (∀ slot ∈ [0, 15], 0 ∈ (aXfer 0x41 0 [0]).dec
      ∧ vat ((tabbed (oneXfer slot (aXfer 0x41 0 [0])) none go).chan 0).tab slot none = some (aXfer 0x41 0 [0]))
    ∧ (let k : Kept := ⟨flitOf 1 0, 1, 0⟩
      let c := (tabbed (oneXfer 0 (aXfer 0x40 (2 ^ 40) [])) none go).setLane 0 { go.lane 0 with kept := List.replicate 1024 k }
      c.portRoom = false ∧ (c.translate (2 ^ 40) 1 false) = (2 ^ 40, none) ∧ 2 ^ 40 / 2 ^ 40 ≠ c.straps.toNat) := by decide +kernel

theorem witness_ParkAbort :
    (go.chan 0).park = none ∧ (parked (2 ^ 47)).answers = true ∧ ((parked (2 ^ 47)).chan 0).park = some 15
    ∧ vat ((parked (2 ^ 47)).chan 0).tab 15 none = some { aXfer 0x40 (2 ^ 47) [] with parked := true } := by decide +kernel

theorem witness_WindowCommit :
    go.answers = true ∧ State.reset.cl.answers = false ∧ { go with winOld := [(63, 0, 0)] }.winOld ≠ []
    ∧ ((parked 0).chan 0).park = some 15 ∧ vat ((parked 0).chan 0).tab 15 none = some { aXfer 0x40 0 [] with parked := true }
    ∧ (parked 0).translate (blockAddr (aXfer 0x40 0 []).op 0) (xferLines (aXfer 0x40 0 []).op 0) false = (0, none) := by decide +kernel

theorem witness_DictionaryCommands : up.answers = true ∧ State.reset.cl.answers = false ∧ go.canon := ⟨by decide +kernel, by decide +kernel, go_canon⟩

/-- A lining whose control list holds one op. -/
def control (o : MacroOp) (c : Cluster) : Cluster := { c with run := some { theRun with ctl := [o] } }

/-- A lining that is dispatched and has not begun. -/
def toLaunch : Cluster := { up with run := some { theRun with begun := false } }

/-- A lining that is being saved. -/
def toSave : Cluster := { go with run := some { theRun with saving := some (40, 0) }, linings := [⟨0, 0, []⟩] }

/-- A suspended lining. -/
def aSusp : Susp := ⟨0, 2, 40, 0, [0], theRun, []⟩

/-- A dispatch request. -/
def aReq : Req := ⟨0, 0, 0, true, 0, 0⟩

/-- A cluster without a lining, with an image and its lining 0. -/
def idle : Cluster := withSegs 0 up

/-- Each kind of control op, nullified or not, and behind an op that has yet to start; a save without transfers; and each choice of
the dispatcher. -/
theorem witness_ControlOps :
    toLaunch.launchDue = true ∧ go.launchDue = false
    ∧ (∀ k ∈ [0x51, 0x52, 0x53],
      (control (op k 0 50 0) go).ctlHead k = some ({ theRun with ctl := [op k 0 50 0] }, op k 0 50 0)
      ∧ (control (op k 0 50 0) go).nullified 63 0 (op k 0 50 0) 50 = false)
    ∧ (control (op 0x51 0 50 0) go).settled = true
    ∧ (queued 0 (op 0x16 1 50 0) (control (op 0x51 0 50 0) go)).settled = false
    ∧ ((control (op 0x51 0 50 0) (ctx0 go { Ctx.reset with state := 2, torn := true })).ctlHead 0x51).isSome = true
    ∧ (ctx0 go { Ctx.reset with state := 2, torn := true }).nullified 63 0 (op 0x51 0 50 0) 50 = true
    ∧ (queued 0 (op 0x16 1 50 0) (control (op 0x51 0 50 0) go)).pointDue = false ∧ (control (op 0x52 0 50 0) go).pointDue = true
    ∧ (toSave.lining 0).isSome = true ∧ toSave.saveDone theRun ⟨0, 0, []⟩ 0 = true
    ∧ { toSave with tim := { toSave.tim with duty := 16 } }.saveDone theRun ⟨0, 0, []⟩ 0 = false
    ∧ idle.ready = true ∧ idle.run = none ∧ idle.freeAt < idle.clk.free ∧ idle.pick = none
    ∧ { idle with freeAt := 1000 }.clk.free ≤ { idle with freeAt := 1000 }.freeAt
    ∧ ((withSegs 0 go).segEntry 0).1.isSome = true ∧ (op 0x51 0 50 (2 ^ 191)).getLsbD 191 = true
    ∧ { idle with rerun := some (0, 1, 7, true) }.pick = some (.again 0 1 7 true)
    ∧ { idle with susp := [aSusp], reqs := [aReq] }.pick = some (.resume aSusp)
    ∧ { idle with reqs := [aReq] }.pick = some (.fresh aReq)
    ∧ go.canon := by
  simp only [Cluster.canon]; decide +kernel

theorem witness_ControlOps_handle : go.tabSound [rHnd (fld (op 0x51 0 50 0) 188 177)] := by
  simp only [Cluster.tabSound]; decide +kernel

/-- A context of the running lining whose FIN is LCC 90, with a deadline. -/
def aimed (dl : Nat) : Ctx := { Ctx.reset with state := 2, dl := dl, dlrel := 1, fin := Vector.replicate 3 90 }

/-- At LCC 50, 40 values before FIN: a context that makes its deadline and one that does not, with nothing measured and with held cycles;
points that pre-empt for a stop, a request and a suspended lining, and one that does not; requests and suspended linings that are
eligible and not; and a lining that is resumed or begun. -/
theorem witness_LiningChoices :
    let late := ctx0 go (aimed 7)
    let ok := ctx0 go (aimed 8)
    (late.predictCtx 50 0 ≠ late ∧ ok.predictCtx 50 0 = ok ∧ (aimed 7).torn = false ∧ (aimed 7).dlrel ≠ 0 ∧ 50 ≤ vat (aimed 7).fin 0 0)
    ∧ go.preempts theRun = false ∧ go.preempts { theRun with stop := true } = true ∧ go.susp.length < 4
    ∧ { idle with reqs := [{ aReq with prio := 1 }] }.preempts theRun = true
    ∧ { idle with susp := [aSusp] }.preempts theRun = true
    ∧ idle.reqEligible aReq = true ∧ idle.reqEligible { aReq with now := false, tbat := 2000 } = false
    ∧ idle.suspEligible aSusp = true ∧ (ctx0 idle { Ctx.reset with state := 2 }).suspEligible aSusp = false
    ∧ aReq.prio < 4 ∧ aSusp.prio < 4
    ∧ { idle with reqs := [aReq, { aReq with id := 1, prio := 3 }] }.pick = some (.fresh { aReq with id := 1, prio := 3 })
    ∧ { idle with susp := [aSusp, { aSusp with tp := 41 }] }.pick = some (.resume aSusp)
    ∧ idle.fits 0 = true ∧ (idle.lining 0).isSome = true ∧ (vat idle.imgs 0 none).isSome = true
    ∧ (List.range 8).all (fun n => !(idle.core n).reloadI && !(idle.core n).reloadD) = true
    ∧ ((idle.advanceReq aReq).residentRead 0 (lnClOff []) (32 * lnClN [])).1.isSome = true
    ∧ theRun.lid < 2 ^ 16 ∧ theRun.tbref < 2 ^ 64 ∧ theRun.prio < 2 ^ 8 ∧ (List.replicate 52 0).length = 52 := by
  decide +kernel

/-- An image with one section of live sets, of one set. -/
def withLive : Cluster :=
  { go with
    linings := [⟨0, 0, []⟩]
    imgs := vset go.imgs 0 (some noImg)
    mem := Memory.write (Memory.write [] 0x0C [1]) 0x100 (leBytes 4 10 ++ leBytes 4 0x400 ++ leBytes 4 liveSize) }

theorem witness_LiningChoices_save :
    (withLive.liveEntry ⟨0, 0, []⟩ 0).1.isSome = true ∧ (withLive.liveEntry ⟨0, 0, []⟩ 0).2.tabSound [rHnd (lnSaveHnd [])]
    ∧ idle.tabSound ((List.range 72).map (fun j => kLining 0 + j)) := by
  simp only [Cluster.tabSound]; decide +kernel

/-- Every row of R390: pinned, missed with and without a variant to go to, neither missed nor met, and met before, at and beyond n, at
level 1 and 0. -/
theorem witness_LiningChoices_rule :
    let miss : Ctx := { aimed 10 with fintb := 11, nvar := 2 }
    let met : Ctx := { aimed 10 with fintb := 5, allow := 5, rest := 1, level := 1 }
    variantRule { miss with pin := 1 } 0 = (0, 0, 0, 0) ∧ variantRule miss 0 = (1, 0, 1, 0) ∧ variantRule { miss with nvar := 1 } 0 = (0, 0, 0, 0)
    ∧ variantRule { met with allow := 6 } 2 = (1, 0, 0, 0) ∧ variantRule met 3 = (1, 2, 0, 0) ∧ variantRule met 0 = (1, 2, 0, 0)
    ∧ variantRule met 2 = (0, 0, 0, 1) ∧ variantRule { met with level := 0 } 2 = (0, 0, 0, 0) := by
  decide +kernel

/-- A lining held at LCC 50, whose hold began at the tick 0. -/
def heldAt (mask : Nat) : Cluster := { go with tim := { go.tim with hold := some ⟨50, true, 0, 0, mask, [], 0⟩ } }

/-- A queue that waits for an op. -/
def short (c : Cluster) : Cluster := c.setQueue 0 { EngQ.reset with count := 1 }

theorem witness_LiningTime :
    (go.setQueue 0 { EngQ.reset with run := some ⟨op 0x10 9 41 0, 41, 50, false⟩ }).ready = true
    ∧ ((go.setQueue 0 { EngQ.reset with run := some ⟨op 0x10 9 41 0, 41, 50, false⟩ }).queue 0).run = some ⟨op 0x10 9 41 0, 41, 50, false⟩
    ∧ (ctx0 go { Ctx.reset with state := 2, fin := Vector.replicate 3 50 }).runs = true
    ∧ vat ((ctx0 go { Ctx.reset with state := 2, fin := Vector.replicate 3 50 }).ctx 0).fin 0 0 = 50
    ∧ (short go).runs = true ∧ (short go).decided 52 = false ∧ (short go).causes 52 ≠ 0
    ∧ (∀ m ∈ [1, 16], (heldAt m).ready = true ∧ (heldAt m).causes 50 = 0)
    ∧ (short (heldAt 1)).halted = false ∧ (short (heldAt 1)).causes 50 % 8 ≠ 0 ∧ 0 + 0 < (short (heldAt 1)).tk
    ∧ go.live = true ∧ (∀ j < 8, (go.lane (j / 2)).up = true ∧ (go.fifo j).fill < 4) ∧ go.tim.recentre = 0 ∧ go.clk.unstretched < 64
    ∧ 64 ≤ { go with clk := { go.clk with unstretched := 64 } }.clk.unstretched := by decide +kernel

/-- A stage with its clocks. -/
def stage (n : Nat) (k : Clk) : Cluster := { Cluster.atPowerGood 0 2 with stage := n, clk := k }

/-- Clocks that are locked, with the stretcher free or not, at a CK_M cycle. -/
def clocks (sen : Bool) (m : Nat) : Clk := { Clk.reset with locked := true, sen := sen, ckm := m }

theorem witness_StartUp :
    { up with powered := false }.powered = false ∧ up.powered = true
    ∧ (stage 1 Clk.reset).live = true ∧ (stage 1 Clk.reset).clk.locked = false ∧ (stage 1 (clocks false 0)).clk.sen = false
    ∧ (stage 1 (clocks true 0)).clk.sen = true ∧ (∀ l < 4, ((stage 1 (clocks true 0)).lane l).dead = false)
    ∧ (stage 0 Clk.reset).powered = true ∧ { up with stage := 2 }.throttled = false ∧ { up with stage := 1 }.lanesDone = true ∧ up.tb.runs = true ∧ { up with stage := 2 }.live = true
    ∧ (∀ f ∈ [Fifo.reset, ⟨8, 8, 0, 0⟩], f.fill + f.cred + f.got + f.back = 16)
    ∧ up.tb.tbok = true ∧ up.lanesDone = true ∧ { up with tb := Tb.reset }.lanesDone = true ∧ Tb.reset.tbok = false
    ∧ ¬ (1 < (up.tb.value - 4).toInt ∨ (up.tb.value - 4).toInt < -1) ∧ ¬ (1 < (up.tb.value - 6).toInt ∨ (up.tb.value - 6).toInt < -1)
    ∧ 1 < (up.tb.value - 3).toInt ∧ (up.tb.value - 7).toInt < -1 := by decide +kernel

theorem witness_ClockAndPower :
    up.live = true ∧ up.clk.locked = true ∧ up.clk.sen = true ∧ 1 ≤ up.stage ∧ up.clk.reqR = 0
    ∧ DroopLevel.l0.val ≤ 0 ∧ 0 < DroopLevel.l1.val
    ∧ { up with clk := { up.clk with decD := 1, decAt := 968 } }.clk.decAt + 32 ≤ up.clk.free
    ∧ { up with clk := { up.clk with ckm := 50000 } }.flt.aliveAt + 50000 ≤ 50000 := by decide +kernel

/-- Each limit of start-up in the cycle in which it is reached, the cause of each fault; faults that have reached the collector; and
records that are clear, pending and full, with CLU_FIRST empty and full. -/
theorem witness_FaultsRecorded :
    (stage 0 { Clk.reset with ckm := 10000 }).live = true ∧ (stage 1 { Clk.reset with ckm := 10000 }).clk.locked = false
    ∧ (stage 1 (clocks false 6000)).clk.lockAt + 6000 ≤ 6000
    ∧ (stage 1 (clocks true 2000)).clk.calAt + 2000 ≤ 2000 ∧ ((stage 1 (clocks true 2000)).lane 3).up = false
    ∧ { up with stage := 1, tb := Tb.reset, clk := clocks true 20000 }.lanesDone = true
    ∧ (let k := { up.clk with reqR := 1, riseAt := 998 }
      0 < k.reqR ∧ k.free = k.riseAt + 2 ∧ ¬ (0 < k.reqR ∧ k.free = (k.riseAt - 1) + 2))
    ∧ (let k := { up.clk with reqR := 8 }
      k.reqR = 8 ∧ k.fullAt + 1000 ≤ k.ckm) ∧ up.flt.fatal = false ∧ (srcInfo 0x20).isSome = true
    ∧ (let f : FaultIn := { src := 0x11, cls := 2, inst := 0, scope := 2, ctx := 0 }
      let g : FaultIn := { src := 0x11, cls := 2, inst := 4095, scope := 2, ctx := 0 }
      f.inst < 4096 ∧ g.inst < 4096 ∧ f.src = g.src ∧ f.inst < g.inst ∧ go.flt.inbox = []
      ∧ { go with flt := { go.flt with inbox := [g, f] } }.flt.inbox = [g, f])
    ∧ (go.regAt 0x20060010).getLsbD 63 = false ∧ ((go.setReg 0x20060010 (2 ^ 63)).regAt 0x20060010).getLsbD 63 = true
    ∧ escDomain 8 = 0
    ∧ (let c := go.setReg (0x20061000 + 8 * 0x20) (BitVec.ofNat 64 (2 ^ 63 + 2 ^ 61 + 255 * 2 ^ 48))
      (c.regAt (0x20061000 + 8 * 0x20)).getLsbD 63 = true ∧ (c.regAt (0x20061000 + 8 * 0x20)).extractLsb' 61 2 = 1
      ∧ ((c.regAt (0x20061000 + 8 * 0x20)).extractLsb' 48 12).toNat = 255
      ∧ c.flt.fenB.getLsbD 255 = false ∧ c.flt.pendB.getLsbD 255 = false)
    ∧ go.canon := by
  simp only [Cluster.canon]; decide +kernel

/-- Bank 0 with requests, repairs and scrubs that wait. -/
def bank (reqs : List BReq) (repairs : List Repair) (scrubs : Sparse 64) : Cluster :=
  { up with spd := { Spd.reset with reqs := reqs, repairs := repairs, scrubs := scrubs } }

theorem witness_BankSlots :
    { up with clk := { up.clk with free := 1024 } }.scrubReqDue = true
    ∧ { up with powered := false }.slotOpen 0 = false
    ∧ (∀ r ∈ [(⟨1, 0, 0, 64, 0, 0, none⟩ : BReq), ⟨2, 0, 56, 8, 0, 0, some (List.replicate 8 7)⟩],
      (bank [r] [] []).slotOpen 0 = true ∧ (bank [r] [] []).arbiterTurn 0 = true ∧ (bank [r] [] []).nextReq 0 = some r)
    ∧ (bank [] [⟨0, 0, [], 0⟩] []).sanderTurn 0 = true
    ∧ (bank [] [⟨0, 0, [], 0⟩] []).spd.repairs.find? (fun r => r.bank == 0) = some ⟨0, 0, [], 0⟩
    ∧ (bank [] [] [(0, 1)]).sanderTurn 0 = true ∧ (bank [] [] [(0, 1)]).flt.fenB.getLsbD 0 = false
    ∧ (bank [] [] [(0, 1)]).spd.repairs.find? (fun r => r.bank == 0) = none
    ∧ Sparse.get (bank [] [] [(0, 1)]).spd.scrubs 0 ≠ 0
    ∧ ({ bank [] [] [] with spd := { Spd.reset with urgent := [0] } }.scrubLine 0).2 = true
    ∧ { bank [] [] [] with spd := { Spd.reset with urgent := [0] } }.slotOpen 0 = true
    ∧ { bank [] [] [] with spd := { Spd.reset with urgent := [0] } }.sanderTurn 0 = true := by decide +kernel

/-- A flit of a TYPE and LSEQ with n payload bytes and its CRC. -/
def goodFlit (ty seq n : Nat) : Flit :=
  let h : BitVec 128 := BitVec.ofNat 128 (seq * 2 ^ 116 + ty * 2 ^ 98)
  ⟨h, crc32c (hdrBytes h ++ List.replicate n 0), List.replicate n 0⟩

/-- Good flits of each row's TYPE with the number expected, a repeated one and a later one, on a lane of its network and on one of the
other; a bad flit; lanes that are down; a full landing buffer; a flit to be sent again; and an armed injection. -/
theorem witness_Flits :
    (∀ ty < 10, ∀ seq ∈ [0, 1], flitGood (goodFlit ty seq 0) = true ∧ fType (goodFlit ty seq 0) = ty ∧ fLseq (goodFlit ty seq 0) = seq)
    ∧ up.live = true ∧ (∀ l < 4, (up.lane l).up = true) ∧ (up.lane 0).rx = 0 ∧ (up.lane 0).rx ≠ fLseq (goodFlit 1 1 0)
    ∧ 2048 < (0 + 4096 - 1) % 4096 ∧ (1 + 4096 - 0) % 4096 ≤ 2048
    ∧ flitGood { goodFlit 1 0 0 with crc := 0 } = false ∧ flitGood (goodFlit 10 0 0) = false
    ∧ (State.reset.cl.lane 0).up = false ∧ up.landing < 64
    ∧ 64 ≤ { up with spd := { Spd.reset with groups := List.replicate 64 ⟨0, 0, 1, [], false, .getBlock 0 0 0⟩ } }.landing
    ∧ ({ up with clk := { up.clk with free := 1024 } }.setLane 0 { up.lane 0 with kept := [⟨goodFlit 1 0 0, 1, 0⟩] }).resendDue 0 = true
    ∧ { up with flt := { Flt.reset with armed := [(0x29, 0)] } }.armedAt 0x29 0 = true := by decide +kernel

/-- A spore of one slot that waits in header entry 0, for ring 0 or sorus entry 0. -/
def aSpore (sorus : Bool) (grp : Option Nat) : InSpore := ⟨0, 0, 0, 0, 0, sorus, 1, List.replicate 64 0, true, 0, 0, 5, grp⟩

/-- The store with that spore alone. -/
def stored (sorus : Bool) (grp : Option Nat) (c : Cluster) : Cluster :=
  { c with store := vset c.store 0 (some (aSpore sorus grp)) }

/-- Ring 0 of four slots at a PROD and CONS. -/
def ringAt (p k : Nat) : Cluster :=
  { ringed 1 go with prod := if p = 0 then [] else [(0, BitVec.ofNat 32 p)], cons := if k = 0 then [] else [(0, BitVec.ofNat 32 k)] }

/-- Records of two slots that fit before the end, behind a pad record, and not at all; waiting spores and results, and ones whose lines
are on their way; and a core with a sent spore past its deadline (TB is 5). -/
theorem witness_MessageUnit :
    (∀ p ∈ [(0, 0), (3, 2), (3, 0)], ringSize ((ringAt p.1 p.2).ringD 0) = 4)
    ∧ (2 ≤ 4 - 0 % 4 ∧ 2 ≤ 4 - ((ringAt 0 0).prodOf 0 - (ringAt 0 0).consStart 0).toNat)
    ∧ (4 - 3 % 4 < 2 ∧ 4 - 3 % 4 + 2 ≤ 4 - ((ringAt 3 2).prodOf 0 - (ringAt 3 2).consStart 0).toNat)
    ∧ (4 - 3 % 4 < 2 ∧ ¬ (4 - 3 % 4 + 2 ≤ 4 - ((ringAt 3 0).prodOf 0 - (ringAt 3 0).consStart 0).toNat))
    ∧ (∀ b ∈ [true, false], (stored b none go).live = true ∧ (stored b none go).waiting b 0 = [0]
      ∧ vat (stored b none go).store 0 none = some (aSpore b none) ∧ vat (stored b (some 9) go).store 0 none = some (aSpore b (some 9))
      ∧ (aSpore b (some 9)).grp = some 9)
    ∧ sLen (aSpore false none).hdr = 1 ∧ (stored false none (ringAt 0 0)).placing 0 = false
    ∧ (stored false none (ringAt 0 0)).ringFit 0 1 = some 0 ∧ (stored false none (ringAt 4 0)).ringFit 0 1 = none
    ∧ (stored true none go).sorRes.any (fun x => x.e == 0) = false ∧ (stored true none go).adding 0 = false
    ∧ (stored true (some 9) go).adding 0 = true ∧ { go with sorRes := [⟨0, [], 5, none⟩] }.sorRes.any (fun x => x.e == 0) = true
    ∧ { ringed 1 go with sorRes := [⟨0, [], 5, none⟩] }.resultOf 0 = some ⟨0, [], 5, none⟩
    ∧ ringValid ({ ringed 1 go with sorRes := [⟨0, [], 5, none⟩] }.ringD ({ ringed 1 go with sorRes := [⟨0, [], 5, none⟩] }.sorusRing 0)) = true
    ∧ (aSpore false none).done = true ∧ (aSpore false none).due ≤ go.tk
    ∧ vat ((coreWith 0 { Core.reset with send := vset Core.reset.send 7 (some ⟨0, [], true, 5⟩) }).core 0).send 7 none = some ⟨0, [], true, 5⟩ := by
  decide +kernel

theorem witness_MessageUnit_stores : (ringAt 3 2).canon ∧ (∀ b ∈ [true, false], (stored b none go).tabSound [kRing 0]
    ∧ (stored b none go).tabSound [kSorus 0, kSorus 0 + 1]) := by
  simp only [Cluster.canon, Cluster.tabSound]; decide +kernel

/-- Sorus entry 0 of context 0: INT32, four elements, two contributions a round, its area at handle 0; one contribution of the
elements 1 and 2 has the values 5 and -1. -/
def sorusInt : Cluster :=
  { held go with sdesc0 := [(0, BitVec.ofNat 64 (2 ^ 63 + 2 ^ 56 + 3 * 2 ^ 47))], sdesc1 := [(0, 2)],
                 mem := Memory.write [] 1028 (leBytes 4 7 ++ leBytes 4 0xFFFFFFFE) }
def contribution : BitVec 128 := BitVec.ofNat 128 (2 ^ 94 + 2 ^ 85 + 2 ^ 12)

/-- The entry as FP32 and as INT32, with a contribution whose lines are on their way; and the sum of 1.0, 2^24 and 1.0 in both orders, which
is 2^24 + 2 (R346). -/
theorem witness_MessageUnit_sums :
    let e : Cluster := { held go with sdesc0 := [(0, BitVec.ofNat 64 (2 ^ 63 + 3 * 2 ^ 47))] }
    e.sorusInt 0 = false ∧ sorusInt.sorusInt 0 = true ∧ vat (stored true (some 9) e).store 0 none = some (aSpore true (some 9))
    ∧ ([0x3F800000, 0x4B800000, 0x3F800000].foldl SorAcc.addF SorAcc.empty).outF = 0x4B800001
    ∧ ([0x4B800000, 0x3F800000, 0x3F800000].foldl SorAcc.addF SorAcc.empty).outF = 0x4B800001
    ∧ (([] : List W32).foldl SorAcc.addF SorAcc.empty).outF = 0
    ∧ ([0x80000000].foldl SorAcc.addF SorAcc.empty).outF = 0x80000000
    ∧ ([0x7F800000, 0xFF800000].foldl SorAcc.addF SorAcc.empty).outF = 0x7FC00000 := by
  decide +kernel

/-- A contribution adds modulo 2^32 where its elements stand, and nowhere else; a cleared area is zero (R344 to R346). -/
theorem test_sorus_int :
    (sorusInt.sorLine 0 (sElemOff contribution) (sNelc contribution) (List.replicate 16 0 ++ leBytes 4 5 ++ leBytes 4 0xFFFFFFFF) 0
      (Memory.bytes sorusInt.mem 1024 64)).1.take 16 = leBytes 4 0 ++ leBytes 4 12 ++ leBytes 4 0xFFFFFFFD ++ leBytes 4 0
    ∧ (sorusInt.clearArea 0).spd.reqs.map (fun r => (r.line, r.wr)) = [(16, some (List.replicate 64 0))] := by decide +kernel

/-- A SYNC flit to a VID of context 0. -/
def syncTo (vid : Nat) : Flit := ⟨BitVec.ofNat 128 (8 * 2 ^ 98 + vid * 2 ^ 68), 0, []⟩

/-- An inbound queue that holds it, with the entry's XSIG as given. -/
def inbound (lane vid : Nat) (xsig : Bool) : Cluster :=
  { synced true go with syncIn := [(lane, 0, syncTo vid)], xlat := [(0, if xsig then 0xC0000007 else 0x80000007)] }

/-- Core 0 with a signal in its last slot. -/
def signalling (g : SigSlot) : Cluster := coreWith 0 { Core.reset with sig := vset Core.reset.sig 7 (some g) }

/-- Signals of another cluster and of this one, to a VID that admits them, forbids them and does not translate; a wait past its deadline,
and its operation under way; a signal that waits to be sent, one answered BUSY and one past its deadline; and a full port. -/
theorem witness_SyncUnit :
    (∀ lane ∈ [0, 1, 4], (inbound lane 0 true).live = true ∧ (inbound lane 0 true).syncIn = [(lane, 0, syncTo 0)]
      ∧ (inbound lane 0 true).tabSound ((inbound lane 0 true).vidKeys 0 0)
      ∧ (inbound lane 0 true).translateVid 0 0 = some 0xC0000007
      ∧ (inbound lane 0 false).translateVid 0 0 = some 0x80000007 ∧ (inbound lane 2 true).translateVid 0 2 = none)
    ∧ fGaddr (syncTo 0) / 2 ^ 34 % 64 = 0 ∧ fTxn (syncTo 0) % 65536 = 0 ∧ fTxn (syncTo 2) % 65536 = 2
    ∧ (0xC0000007#32).getLsbD 30 = true ∧ (0x80000007#32).getLsbD 30 = false
    ∧ (vat ({ inbound 4 0 true with cores := vset go.cores 0 { Core.reset with sig := Vector.replicate 8 (some aSig) } }.core 0).sig
      (fLmask (syncTo 0) % 8) none).isSome = true
    ∧ (aWaiter true 0 7).ready = true ∧ { aWaiter true 0 7 with tb := { go.tb with value := 9999 } }.tk = 9999
    ∧ (vat (aWaiter true 0 7).waiters 7 none).all (fun w => w.live && w.deadline == 9999) = true ∧ (aWaiter true 0 7).tornSeen 0 = false
    ∧ (vat (aWaiter false 0 7).waiters 7 none).all (fun w => !w.live && w.id == 5) = true
    ∧ vat ((signalling aSig).core 0).sig 7 none = some aSig ∧ ((signalling aSig).core 0).earlier aSig = false ∧ go.portRoom = true
    ∧ ({ aSig with sent := true, busy := some 5 }.busy = some 5 ∧ 5 ≤ go.tk)
    ∧ { aSig with sent := true, due := 5 }.sent = true ∧ aSig.dcl = go.straps.toNat := by
  and_intros
  all_goals first
    | decide +kernel
    | (simp only [Cluster.tabSound]; decide +kernel)

/-- A frame of a TYPE to a node, from node 0. -/
def frame (dst ty seq index sub : Nat) (pay : List Byte) : List Byte := mkFrame dst 0 ty seq index sub 0 pay

/-- The agent with an event of EVSEQ 7. -/
def withEvent (sent : Option Nat) : Cluster :=
  { up with moss := { Moss.reset with events := [⟨7, List.replicate 28 0⟩], evSent := sent } }

/-- A lining in a debug halt. -/
def halted : Cluster := { heldAt 16 with tim := { (heldAt 16).tim with haltReq := true, haltSeen := true } }

/-- The node is 0x10. A frame for another node; a READ, a WRITE, a repeated WRITE, an EVACK, a faulty frame; an agent at a request, with
waiting ones up to the limit, and one that F finds at a debug read; an event to send and to
send again; a write that only stores; debug reads of 8 and 256 bytes at DBGADDR 0, and a debug write during a halt. -/
theorem witness_MossAgent :
    up.node = 0x10 ∧ fmDst (frame 0x11 1 3 0x2000 0x20 []) ≠ up.node ∧ fmSrc (frame 0x11 1 3 0x2000 0x20 []) ≠ up.node
    ∧ (∀ p ∈ [(1, []), (2, [240, 0]), (5, leBytes 2 7)],
      up.forMe (frame 0x10 p.1 3 0x2000 0x20 p.2) = true ∧ fmBad (frame 0x10 p.1 3 0x2000 0x20 p.2) = false
      ∧ fmType (frame 0x10 p.1 3 0x2000 0x20 p.2) = p.1)
    ∧ up.forMe [0x10, 0] = true ∧ fmBad [0x10, 0] = true
    ∧ up.mossBusy = false ∧ up.moss.queue = [] ∧ { up with moss := { Moss.reset with busyTo := 1001 } }.mossBusy = true
    ∧ { up with spd := { Spd.reset with groups := [⟨0, 0, 1, [], false, .debug []⟩] } }.mossBusy = true
    ∧ { up with spd := { Spd.reset with groups := [⟨0, 0, 1, [], false, .debug []⟩] } }.debugReq = some []
    ∧ { up with flt := { Flt.reset with fatal := true } }.flt.fatal = true
    ∧ (∀ n ∈ [1, 3, 4], { up with moss := { Moss.reset with queue := List.replicate n [] } }.moss.queue.length = n)
    ∧ (up.sample ⟨true, true⟩).status ⟨true, true⟩ false 0x2000 0x20 [] = 0 ∧ (dictEntry 0x2000 0x20).isSome = true
    ∧ (up.sample ⟨false, false⟩).status ⟨false, false⟩ false 0x3000 2 (leBytes 2 8) ≠ 0 ∧ isDbgData 0x3000 2 = true
    ∧ halted.halted = true ∧ up.halted = false ∧ (up.dbgRead 8 .quiet).1 = none ∧ ((up.setDict 0x3000 1 0x10000000).dbgRead 8 .quiet).1 = some (List.replicate 8 0)
    ∧ up.keptResp (frame 0x10 2 3 0x2000 0x20 [240, 0]) = none
    ∧ { up with moss := { Moss.reset with last := some (3, 0x2000, 0x20, [1]) } }.keptResp (frame 0x10 2 3 0x2000 0x20 [240, 0]) = some [1]
    ∧ leNat (fmPayload (frame 0x10 5 3 0 0 (leBytes 2 7))) = 7
    ∧ (withEvent none).moss.evSent = none ∧ (withEvent (some 0)).moss.evSent = some 0 ∧ 0 + 1000 ≤ (withEvent (some 0)).clk.ckm
    ∧ (up.sample ⟨false, false⟩).status ⟨false, false⟩ true 0x2303 1 [1, 0] = 0
    ∧ ((up.sample ⟨false, false⟩).applyOwn ⟨false, false⟩ 0x2303 1 [1, 0]).isNone = true
    ∧ (∀ n ∈ [8, 256], (up.sample ⟨true, true⟩).status ⟨true, true⟩ false 0x3000 2 (leBytes 2 n) = 0)
    ∧ halted.answers = true ∧ (halted.sample ⟨true, true⟩).status ⟨true, true⟩ true 0x3000 2 (List.replicate 8 1) = 0 := by
  decide +kernel

/-- A plan whose image has a peak. -/
def aPlan (peak : Nat) : Plan := ⟨{ noImg with ctxs := [], lines := 0, peak := peak }, 0, 0, 0, 0, []⟩

/-- The intake unit in a state. -/
def taking (st step : Nat) (fail : Option Rej) (plan : Option Plan) : Cluster :=
  { up with intake := { Intake.reset with state := st, step := step, fail := fail, plan := plan } }

/-- Slot 0 holds an image. -/
def admitted (retire : Bool) (peak : Nat) : Cluster := { withSegs 0 up with
  imgs := vset up.imgs 0 (some { (aPlan peak).img with retire := retire }) }

theorem witness_ImageIntake :
    up.ready = true ∧ up.intake.state = 0 ∧ up.stagingOk 0 16 = true ∧ up.stagingOk 0 0 = false
    ∧ (taking 1 0 none none).ready = true ∧ (taking 1 0 none none).intake.state = 1
    ∧ (taking 1 0 none none).freeSlot = some 0 ∧ { taking 1 0 none none with imgs := Vector.replicate 8 (some (aPlan 0).img) }.freeSlot = none
    ∧ ((taking 1 0 none none).step1 0 1).isSome = true
    ∧ (taking 2 2 (some ⟨1, 3, 0, 0, 0⟩) none).intake.fail = some ⟨1, 3, 0, 0, 0⟩ ∧ (taking 2 2 none none).intake.fail = none
    ∧ (taking 2 2 none none).intake.since + (taking 2 2 none none).intake.limit ≤ (taking 2 2 none none).tk
    ∧ (taking 3 0 none (some (aPlan 1000))).budget = 1000 ∧ (taking 3 0 none (some (aPlan 1001))).freeSlot = some 0
    ∧ vat (admitted true 0).imgs 0 none = some { (aPlan 0).img with retire := true } ∧ (admitted true 0).answers = true
    ∧ (admitted true 0).runSlot ≠ some 0 ∧ (admitted true 0).intake.state = 0 := by decide +kernel

/-- No such lining, a peak over the budget, a full queue of requests and one with a place; contexts that are bound, not bound and torn;
and a quiet period that has ended. -/
theorem witness_RuntimeRequests :
    up.answers = true ∧ up.imgOf 0 = none
    ∧ (admitted false 1001).imgOf 0 ≠ none ∧ (admitted false 1001).fits 0 = false ∧ (admitted false 1000).fits 0 = true
    ∧ 16 ≤ { admitted false 0 with reqs := List.replicate 16 aReq }.reqs.length ∧ (admitted false 0).reqs.length < 16
    ∧ go.run = some theRun ∧ up.run = none ∧ (up.ctx 0).state ≤ 1 ∧ 1 < (go.ctx 0).state ∧ (go.ctx 0).state = 2 ∧ theRun.begun = true
    ∧ (go.ctx 0).torn = false ∧ ((ctx0 go { Ctx.reset with torn := true }).ctx 0).torn = true ∧ (go.ctx 63).state ≠ 2
    ∧ { up with flt := { Flt.reset with hstate := 2 } }.live = true ∧ up.flt.quietAt ≤ up.tk := by decide +kernel

/-- Staged in five lines from line 0: an image with one empty context section. -/
def staged : Cluster :=
  { taking 1 0 none none with
    mem := Memory.write (Memory.write [] 0 (leBytes 4 0x3249464B ++ leBytes 4 2 ++ leBytes 4 320 ++ leBytes 4 1)) 0x100
      (leBytes 4 0xFF01 ++ leBytes 4 320) }

/-- Its header is right, and so is its layout; a header of another kind, and a layout that faults; the read that is awaited, and another;
a plan within the budget and one beyond it; and an image that is admitted and retired. -/
theorem witness_ImageIntake_phases :
    staged.ready = true ∧ staged.freeSlot.isSome = true ∧ staged.headOk 0 5 = true ∧ staged.step1 0 5 = none
    ∧ (taking 1 0 none none).headOk 0 5 = false ∧ (taking 1 0 none none).step1 0 5 ≠ none
    ∧ { Intake.reset with grp := some 4 }.grp = some 4
    ∧ (taking 2 2 none none).ready = true ∧ (taking 2 2 none none).intake.step = 2 ∧ (taking 3 0 none (some (aPlan 0))).intake.grp = none
    ∧ (taking 3 0 none (some (aPlan 1001))).budget < (aPlan 1001).img.peak ∧ (aPlan 1000).img.peak ≤ (taking 3 0 none none).budget
    ∧ up.images = [] ∧ (admitted true 0).images ≠ [] ∧ (aPlan 0).img.ctxs = [] ∧ noImg.ctxs = [0] := by decide +kernel

theorem witness_StepInvariant : step ⟨[.railFault], go⟩ = .next ⟨[], railFaultC go⟩ ∧ go.canon := ⟨rfl, go_canon⟩

theorem witness_FatalLasts :
    (after .railFault go).collect.flt.fatal = true ∧ [Instr.eventSend].head? ≠ some .powerGood
    ∧ [Instr.eventSend].head? ≠ some .powerLoss ∧ go.powered = true := by decide +kernel

/-- A cycle that is held for a missing op, for the throttle, and not, between linings and in one; each exit count; no stretch and level
8; TB that stands still, counts, slews with and without a turn, either way; and a debug halt. -/
theorem witness_PassCycle :
    let exiting := fun (e : Nat) => { heldAt 1 with tim := { (heldAt 1).tim with hold := some ⟨50, true, 0, e, 1, [0], 0⟩ } }
    (heldAt 1).heldNow = true ∧ { go with tim := { go.tim with duty := 16 } }.heldNow = true ∧ go.heldNow = false ∧ go.tim.running = true
    ∧ up.heldNow = false ∧ up.tim.running = false ∧ theRun.ctxs = [0] ∧ go.run = some theRun
    ∧ (∀ e ∈ [0, 1, 2], (exiting e).heldNow = true) ∧ (short (exiting 0)).countHeld.causes 50 ≠ 0 ∧ (exiting 0).countHeld.causes 50 = 0
    ∧ go.level = 0 ∧ { go with clk := { go.clk with sen := false } }.level = 8
    ∧ Tb.reset.runs = false ∧ go.tb.runs = true ∧ go.tb.debt = 0 ∧ (∀ d ∈ [(-3 : Int), 3], { go.tb with debt := d, slewN := 14 }.slewN < 15)
    ∧ 15 ≤ { go.tb with debt := 3, slewN := 15 }.slewN ∧ halted.halted = true ∧ go.halted = false := by decide +kernel

theorem witness_PassCycle_stores : (heldAt 1).canon ∧ go.canon := by
  simp only [Cluster.canon]; decide +kernel

/-- CLK_FREE, LCC, the held cycles and TB after one cycle, executed and held (R30, R43, R45, R436). -/
theorem test_pass_cycle :
    let d := (short (heldAt 1)).passCycle
    go.passCycle.lcc = 51 ∧ go.passCycle.clk.free = 1001 ∧ go.passCycle.regAt 0x20001010 = 0
    ∧ d.lcc = 50 ∧ d.clk.free = 1001 ∧ d.regAt 0x20001010 = 1 ∧ d.regAt 0x20001018 = 1 ∧ d.regAt 0x20074028 = 1
    ∧ { go with clk := { go.clk with phaseT := 104 } }.passCycle.tb.value = 6 := by decide +kernel

/-- The scratchpad word at an address with given bits wrong, repaired before or not. -/
def wrong (w m : Nat) (marked : Bool) : Cluster :=
  { held go with memErr := [(w, BitVec.ofNat 64 m)], mem := Memory.write [] w [9], spd := { Spd.reset with mark := if marked then [(w, 1)] else [] } }

/-- The first and the last word of the scratchpad and one that handle 0 maps, with one and two wrong bits, sticky and not; a word without
error; a full repair queue; an armed bank and core. -/
theorem witness_ScratchErrors :
    (∀ w ∈ [0, 1024, 0x0BFFFFF8], ∀ m ∈ [1, 3], ∀ b ∈ [true, false],
      let c := wrong w m b
      c.badWords w 8 = [(w, BitVec.ofNat 64 m)] ∧ c.residentOf (w / 64) = none ∧ popcount 64 m = (m + 1) / 2
      ∧ (Sparse.get c.spd.mark w ≠ 0 ↔ b = true) ∧ c.spd.repairs = [] ∧ (c.mappers (w / 64) = if w = 1024 then [0] else []))
    ∧ ((go.regAt 0x200B0010).getLsbD 63 = false ∧ ((go.setReg 0x200B0010 (2 ^ 63)).regAt 0x200B0010).getLsbD 63 = true)
    ∧ go.badWords 0 64 = [] ∧ go.fencedAt 0 = false
    ∧ (∀ s ∈ [0x20, 0x21, 0x24, 0x25], { go with flt := { Flt.reset with armed := [(s, 0)] } }.armedAt s 0 = true ∧ go.armedAt s 0 = false) := by
  decide +kernel

theorem witness_ScratchErrors_stores : (wrong 1024 3 true).canon := by
  simp only [Cluster.canon]; decide +kernel

/-- A single-bit error at handle 0's line is corrected and counted, and two are not: the word reads as zero and the context that maps
it is torn down (R290, R291). -/
theorem test_scratch_errors :
    let r := ((wrong 1024 1 false).setReg 0x200B0010 (2 ^ 63)).spdRead 1 0 1024 8
    let u := ((wrong 1024 3 false).setReg 0x200B0010 (2 ^ 63)).spdRead 1 0 1024 8
    r.1 = [9, 0, 0, 0, 0, 0, 0, 0] ∧ r.2.1.regAt 0x200B0020 = 1 ∧ (r.2.1.ctx 0).torn = false ∧ r.2.2 = false
    ∧ u.1 = List.replicate 8 0 ∧ u.2.1.regAt 0x200B0028 = 1 ∧ (u.2.1.ctx 0).torn = true ∧ u.2.2 = true
    ∧ fld (u.2.1.regAt 0x200B1040) 7 0 = 1 := by decide +kernel

/-- Every code of the three narrowest formats; and FP32 values at the bounds of E4M3, FP16 and INT8 (R63, R80): 448 and 464 are written
as 0x7E, 65,520 overflows FP16 unless toward zero, and 2.5 goes to 2. -/
theorem witness_NumberFormats :
    (∀ x : Fin 16, ∀ r ∈ [Rnd.rne, .tz, .sr 65535], fmtE2M1.enc r (fmtE2M1.dec x.val) = x.val)
    ∧ (∀ x : Fin 64, fmtE3M2.enc .rne (fmtE3M2.dec x.val) = x.val)
    ∧ fmtE4M3.enc .rne (f32 0x43E00000) = 0x7E ∧ fmtE4M3.enc .rne (f32 0x43E80000) = 0x7E ∧ fmtE4M3.enc .rne (f32 0x7F800000) = 0x7F
    ∧ fmtF16.enc .rne (f32 0x477FF000) = 0x7C00 ∧ fmtF16.enc .tz (f32 0x477FF000) = 0x7BFF ∧ fmtF16.enc .rne (f32 0x477FEFFF) = 0x7BFF
    ∧ toIntSat 8 .rne (f32 0x40200000) = 2 ∧ toIntSat 8 (.sr 32768) (f32 0x40200000) = 3 ∧ toIntSat 8 (.sr 32767) (f32 0x40200000) = 2
    ∧ toIntSat 8 .rne (f32 0xC3000000) = -128 ∧ toIntSat 8 .rne (f32 0x43000000) = 127 ∧ elemInt 8 (narrowInt 8 (-9)) = -8 := by
  decide +kernel

/-- Blocks with an infinity, of zeros, and with 6.0 as the largest magnitude, whose scale for E2M1 is 2^0 (R69). -/
theorem witness_NumberFormats_blocks :
    mxBlock 6 (fun _ => .rne) [f32 0x7F800000, f32 0x3F800000] = (255, [0, 0]) ∧ mxBlock 6 (fun _ => .rne) [f32 0, f32 0x80000000] = (0, [0, 0])
    ∧ mxBlock 6 (fun _ => .rne) [f32 0x40C00000, f32 0xBF800000, f32 0x80000000] = (127, [7, 10, 8])
    ∧ unpack 6 4 [0x41, 0x20, 0x0C] = [1, 1, 2, 3] ∧ packElems 6 [1, 1, 2, 3] = [0x41, 0x20, 0x0C] := by decide +kernel

/-! ### Single steps of the engines -/

/-- LOOP at entry 0 with count field 9 opens loop 0 for ten passes, its body at entry 1 (R261). -/
theorem test_loop :
    let x := (after (.loop 0) (walker 1 9 Core.reset)).core 0
    x.widx = 1 ∧ vat x.loops 0 Loop.reset = ⟨true, 0, 10, 1⟩ := by decide +kernel

/-- ISSUE for DM1 (selector 7) puts the template into queue 49 (R35, R261). -/
theorem test_issue :
    let c := after (.issue 0) (walker 0 (7 * 2 ^ 24) Core.reset)
    (c.queue 49).ents.length = 1 ∧ (c.queue 0).ents.length = 0 ∧ (c.core 0).widx = 1 := by decide +kernel

/-- An MNUL with STAMP 47 that starts at LCC 50 is one slip of 3, and ends at LCC 59 (R38). -/
theorem test_slip :
    let c := after (.mnul 0) (queued 0 (op 0x16 9 47 0) go)
    c.regAt 0x20001100 = 1 ∧ c.regAt 0x20001300 = BitVec.ofNat 64 (2 ^ 63 + 3 * 2 ^ 32 + 47) ∧ (c.queue 0).fin = 59 := by decide +kernel

/-- A TCFG of tiles 0 and 23 with R 1 and B 16 configures them and no other (R200). -/
theorem test_tcfg :
    let c := (after (.tcfg 0) (queued 5 cfgOp go)).deliverAll false
    c.tileValid 0 0 = true ∧ c.tileValid 0 23 = true ∧ c.tileValid 0 1 = false ∧ c.tileRows 0 23 = 1 ∧ c.tileB 0 23 = 16 := by decide +kernel

/-- A DMGET of five lines is two blocks (R307). -/
theorem test_dmget :
    let c := after (.dmget 0) (queued 48 (op 0x40 1 50 (4 * 2 ^ 90)) go)
    (c.chan 0).tab.toList.filterMap (fun x => x.map (fun x => (x.blocks, x.sent))) = [(2, 0)] := by decide +kernel

/-- A record of two slots at PROD 3 of a ring of four goes behind a pad record: PROD 6 (R341). -/
theorem test_pad : (ringAt 3 2).ringFit 0 2 = some 1 ∧ ((ringAt 3 2).produce 0 2 1).prodOf 0 = 6 := by decide +kernel

/-- SEGBR with three alternatives takes the last for a selector beyond it, and the exit for any value but 0 (R249). -/
theorem test_segments :
    segChoice (op 0x51 0 0 (2 * 2 ^ 189)) 9 = 2 ∧ segChoice (op 0x51 0 0 (2 * 2 ^ 189)) 1 = 1 ∧ segChoice (op 0x51 0 0 (2 ^ 191)) 9 = 1 := by
  decide +kernel

end Sys2Proof.Tests
end

section
/-! What every command and every cycle of the clocks keeps: the canonical form of the stores and the identity of the
cluster. A command answers with the cluster that its own operation leaves, so the law of that operation settles it. -/

namespace Sys2Proof.Machine

/-- Every command of the table only replaces the cluster, by one that keeps the canonical form and the identity. -/
theorem exec_keeps_canon_ident (i : Instr) (s : State) :
    ∃ d, exec i s = done s d ∧ (s.cl.canon → d.canon) ∧ d.ident = s.cl.ident := by
  cases i <;> exact ⟨_, rfl, fun h => by simp [h], by simp⟩

/-- So does a step, which runs the command in front or, where none waits, lets one cycle of the clocks pass (R30, R434). -/
theorem step_keeps_canon_ident {s t : State} (h : step s = .next t) :
    (s.cl.canon → t.cl.canon) ∧ t.cl.ident = s.cl.ident := by
  obtain ⟨queue, c⟩ := s
  cases queue with
  | nil =>
    obtain rfl := done_next (s := ⟨[], c⟩) (d := c.tick) h
    exact ⟨Cluster.tick_canon c, Cluster.tick_ident c⟩
  | cons i rest =>
    obtain ⟨d, hexec, hkeeps⟩ := exec_keeps_canon_ident i ⟨rest, c⟩
    obtain rfl := done_next (hexec.symm.trans h)
    exact hkeeps

end Sys2Proof.Machine

open Sys2Proof Sys2Proof.Machine

/-- Settles O56, by the step lemma: each command and the passing cycle keep both. -/
theorem stepInvariant : Obligations.StepInvariant := by
  unfold Obligations.StepInvariant
  exact fun _ _ => step_keeps_canon_ident

end

section
/-! What power-good leaves (R14, R448) in the units that come in numbers, in the registers and in the settings. -/

namespace Sys2Proof.Machine

theorem vat_replicate {α : Type} (n k : Nat) (x : α) : vat (Vector.replicate n x) k x = x := by
  unfold vat
  rw [Vector.getElem?_replicate]
  split <;> rfl

section
variable (straps : BitVec 6) (stepping : Byte)

@[simp] theorem atPowerGood_img (k : Nat) : vat (Cluster.atPowerGood straps stepping).imgs k none = none :=
  vat_replicate 8 k none
@[simp] theorem atPowerGood_lane (l : Nat) : (Cluster.atPowerGood straps stepping).lane l = Lane.reset :=
  vat_replicate 4 l Lane.reset
@[simp] theorem atPowerGood_ctx (k : Nat) : (Cluster.atPowerGood straps stepping).ctx k = Ctx.reset :=
  vat_replicate 64 k Ctx.reset

end

/-- Every source record of the fault collector reads as zero: no fault is recorded (R417). -/
theorem reset_faultRecords : ∀ k < 128, State.reset.cl.regAt (0x20061000 + 8 * k) = 0 := by decide +kernel

/-- No tile is configured, and every row of every tile is empty (R196). -/
theorem reset_tiles :
    ∀ n < 8, ∀ t < 24, State.reset.cl.tileValid n t = false ∧ State.reset.cl.tileEmpty n t = 2 ^ 128 - 1 := by decide +kernel

/-- The settings whose defaults O54 names: hold limits, scrub interval, fence thresholds, time-outs and LINK_LIMIT (R295,
R303, R316, R323, R350, R409). -/
theorem reset_settings :
    let c := State.reset.cl
    c.dictAt 0x2400 0x10 = 125000 ∧ c.dictAt 0x2400 0x11 = 1250000 ∧ c.dictAt 0x2100 1 = 1024 ∧ c.dictAt 0x2100 2 = 4
      ∧ c.dictAt 0x2200 1 = 3 ∧ c.dictAt 0x2300 0x10 = 2 ∧ c.dictAt 0x2700 1 = 2500 ∧ c.dictAt 0x2700 2 = 5000
      ∧ c.dictAt 0x2783 1 = 12500 ∧ c.dictAt 0x2783 2 = 8 ∧ c.dictAt 0x2382 1 = 12500000 := by decide

end Sys2Proof.Machine

open Sys2Proof Sys2Proof.Machine

/-- Settles O54: the fields as power-good sets them, and the facts above for what is read by number or by address. -/
theorem resetState : Obligations.ResetState := by
  have hpower : State.reset.cl.regAt 0x20020000 = 1000 := by decide
  have hfirst : State.reset.cl.regAt 0x20060010 = 0 := by decide +kernel
  have hlane : ∀ l < 4, (State.reset.cl.lane l).up = false := fun l _ => by simp [State.reset, Lane.reset]
  have hctx : ∀ k < 64, (State.reset.cl.ctx k).state = 0 ∧ (State.reset.cl.ctx k).torn = false := fun k _ => by
    simp [State.reset, Ctx.reset]
  exact ⟨rfl, atPowerGood_canon 0 2, rfl, rfl, rfl, rfl,
    rfl, rfl, rfl, rfl, rfl, rfl,
    rfl, rfl, rfl, rfl, rfl, fun k _ => atPowerGood_img 0 2 k,
    rfl, rfl, rfl, rfl, rfl,
    rfl, rfl, rfl, rfl, rfl, rfl,
    hlane, hctx, hpower, hfirst, reset_faultRecords, reset_tiles, reset_settings⟩

end

section
/-! What the shared counters and records leave in the registers: each at its own addresses, and every other register as it
was (R38, R39, R391). -/

namespace Sys2Proof.Machine

variable {c : Cluster}

theorem Cluster.regAt_setReg_self (h : c.canon) (a : Nat) (v : W64) : (c.setReg a v).regAt a = v :=
  Sparse.get_set_self a v h.reg

theorem Cluster.regAt_setReg_ne {a b : Nat} (v : W64) (h : b ≠ a) : (c.setReg a v).regAt b = c.regAt b :=
  Sparse.get_set_ne v h

theorem Cluster.regAt_setBit_ne {a b : Nat} (n : Nat) (h : b ≠ a) : (c.setBit a n).regAt b = c.regAt b :=
  Cluster.regAt_setReg_ne _ h

/-- A counter of 48 bits adds modulo 2^48 (R39). -/
theorem Cluster.regAt_bump_self (hc : c.canon) {a e : Nat} (b n : Nat) (h : a ≠ e) :
    (c.bump a e b n).regAt a = BitVec.ofNat 64 (((c.regAt a).toNat % 2 ^ 48 + n) % 2 ^ 48) := by
  simp only [Cluster.bump]
  split
  · rw [Cluster.regAt_setBit_ne _ h, Cluster.regAt_setReg_self hc]
  · rw [Cluster.regAt_setReg_self hc]

theorem Cluster.regAt_bump_ne {a e x : Nat} (b n : Nat) (ha : x ≠ a) (he : x ≠ e) : (c.bump a e b n).regAt x = c.regAt x := by
  simp only [Cluster.bump]
  split
  · rw [Cluster.regAt_setBit_ne _ he, Cluster.regAt_setReg_ne _ ha]
  · rw [Cluster.regAt_setReg_ne _ ha]

theorem Cluster.account_of_lt {k i n : Nat} (h : (c.regAt (0x20074000 + 0x100 * k + 8 * i)).toNat + n < 2 ^ 64) :
    c.account k i n = c.setReg (0x20074000 + 0x100 * k + 8 * i)
      (BitVec.ofNat 64 ((c.regAt (0x20074000 + 0x100 * k + 8 * i)).toNat + n)) := if_pos h

theorem Cluster.account_of_ge {k i n : Nat} (h : ¬ (c.regAt (0x20074000 + 0x100 * k + 8 * i)).toNat + n < 2 ^ 64) :
    c.account k i n = (c.setReg (0x20074000 + 0x100 * k + 8 * i) (BitVec.ofNat 64 (2 ^ 64 - 1))).setBit
      (0x20074000 + 0x100 * k + 0x80) i := if_neg h

/-- An accounting counter stops at all ones (R391). -/
theorem Cluster.regAt_account_self (hc : c.canon) (k n : Nat) {i : Nat} (hi : i < 16) :
    (c.account k i n).regAt (0x20074000 + 0x100 * k + 8 * i)
      = BitVec.ofNat 64 (min ((c.regAt (0x20074000 + 0x100 * k + 8 * i)).toNat + n) (2 ^ 64 - 1)) := by
  by_cases h : (c.regAt (0x20074000 + 0x100 * k + 8 * i)).toNat + n < 2 ^ 64
  · rw [Cluster.account_of_lt h, Cluster.regAt_setReg_self hc, Nat.min_eq_left (by omega)]
  · rw [Cluster.account_of_ge h, Cluster.regAt_setBit_ne _ (by omega), Cluster.regAt_setReg_self hc,
      Nat.min_eq_right (by omega)]

theorem Cluster.regAt_account_ne {k i x : Nat} (n : Nat) (ha : x ≠ 0x20074000 + 0x100 * k + 8 * i)
    (hs : x ≠ 0x20074000 + 0x100 * k + 0x80) : (c.account k i n).regAt x = c.regAt x := by
  by_cases h : (c.regAt (0x20074000 + 0x100 * k + 8 * i)).toNat + n < 2 ^ 64
  · rw [Cluster.account_of_lt h, Cluster.regAt_setReg_ne _ ha]
  · rw [Cluster.account_of_ge h, Cluster.regAt_setBit_ne _ hs, Cluster.regAt_setReg_ne _ ha]

/-- Below its bound an accounting counter just adds. -/
theorem Cluster.regAt_account_add (hc : c.canon) (k n : Nat) {i : Nat} (hi : i < 16)
    (h : (c.regAt (0x20074000 + 0x100 * k + 8 * i)).toNat + n < 2 ^ 64) :
    (c.account k i n).regAt (0x20074000 + 0x100 * k + 8 * i) = c.regAt (0x20074000 + 0x100 * k + 8 * i) + BitVec.ofNat 64 n := by
  rw [Cluster.regAt_account_self hc k n hi, Nat.min_eq_left (by omega), BitVec.ofNat_add, BitVec.ofNat_toNat, BitVec.setWidth_eq]

theorem Cluster.regAt_latch_ne {a x : Nat} (v : W64) (h : x ≠ a) : (c.latch a v).regAt x = c.regAt x := by
  unfold Cluster.latch
  split
  · rfl
  · exact Cluster.regAt_setReg_ne _ h

/-- A record that is already there stays. -/
theorem Cluster.latch_of_valid {a : Nat} (v : W64) (h : (c.regAt a).getLsbD 63 = true) : c.latch a v = c := if_pos h

theorem Cluster.regAt_latch_of_empty (hc : c.canon) {a : Nat} (v : W64) (h : (c.regAt a).getLsbD 63 = false) :
    (c.latch a v).regAt a = v ||| placeB true 63 := by
  have hempty : ¬ bitAt (c.regAt a) 63 = true := by rw [bitAt, h]; decide
  rw [Cluster.latch, if_neg hempty, Cluster.regAt_setReg_self hc]

/-- Fields placed one above the other add up. -/
theorem place_or_ofNat (v : Nat) {lo n : Nat} (h : n < 2 ^ lo) :
    place v lo ||| BitVec.ofNat 64 n = BitVec.ofNat 64 (v * 2 ^ lo + n) := by
  rw [place, ← BitVec.ofNat_or, ← Nat.shiftLeft_add_eq_or_of_lt h, Nat.shiftLeft_eq]

/-! The slip of an op (R38, R39). -/

theorem opCtx_lt (o : MacroOp) : opCtx o < 64 := Nat.mod_lt _ (by decide)
theorem opStamp_lt (o : MacroOp) : opStamp o < 2 ^ 32 := Nat.mod_lt _ (by decide)

/-- CLU_SLIPFIRST of an op that starts late by a number of cycles: VALID, queue, context, the cycles up to 0x7FFFF, STAMP. -/
def slipRecord (q : Nat) (o : MacroOp) (late : Nat) : W64 :=
  BitVec.ofNat 64 (2 ^ 63 + q * 2 ^ 57 + opCtx o * 2 ^ 51 + min late 0x7FFFF * 2 ^ 32 + opStamp o)

theorem satN_eq_min (m v : Nat) : satN m v = min v m := by
  unfold satN
  split <;> omega

theorem slipRecord_eq {q : Nat} (hq : q < 64) (o : MacroOp) (late : Nat) :
    (place q 57 ||| place (opCtx o) 51 ||| place (satN 0x7FFFF late) 32 ||| place (opStamp o) 0) ||| placeB true 63
      = slipRecord q o late := by
  have hctx := opCtx_lt o
  have hstamp := opStamp_lt o
  have hlow : place (opStamp o) 0 = BitVec.ofNat 64 (opStamp o) := rfl
  have hvalid : placeB true 63 = place 1 63 := rfl
  rw [hlow, hvalid, satN_eq_min, BitVec.or_comm]
  simp only [BitVec.or_assoc]
  rw [place_or_ofNat _ hstamp, place_or_ofNat _ (by omega), place_or_ofNat _ (by omega), place_or_ofNat _ (by omega), slipRecord]
  congr 1
  omega

theorem Cluster.slip_of_on_time {o : MacroOp} (q : Nat) (h : c.lcc ≤ opStamp o) : c.slip q o = c := by
  rw [Cluster.slip, if_pos h]

theorem Cluster.slip_of_late {o : MacroOp} (q : Nat) (h : opStamp o < c.lcc) :
    c.slip q o = (c.bump (0x20001100 + 8 * q) 0x20001040 (6 + q) 1).latch 0x20001300
      (place q 57 ||| place (opCtx o) 51 ||| place (satN 0x7FFFF (c.lcc - opStamp o)) 32 ||| place (opStamp o) 0) := by
  rw [Cluster.slip, if_neg (by omega)]
  simp only [Cluster.lcc, Cluster.bump_tim]

/-- A slip changes the counter of its queue, the wrap bits and the first slip. -/
theorem Cluster.regAt_slip_ne (q : Nat) (o : MacroOp) {x : Nat} (hcount : x ≠ 0x20001100 + 8 * q) (hwrap : x ≠ 0x20001040)
    (hfirst : x ≠ 0x20001300) : (c.slip q o).regAt x = c.regAt x := by
  rcases Nat.lt_or_ge (opStamp o) c.lcc with h | h
  · rw [Cluster.slip_of_late q h, Cluster.regAt_latch_ne _ hfirst, Cluster.regAt_bump_ne _ _ hcount hwrap]
  · rw [Cluster.slip_of_on_time q h]

section
variable (hc : c.canon) {q : Nat} (hq : q < 52) {o : MacroOp} (hlate : opStamp o < c.lcc)
include hc hq hlate

theorem Cluster.regAt_slip_count : (c.slip q o).regAt (0x20001100 + 8 * q)
    = BitVec.ofNat 64 (((c.regAt (0x20001100 + 8 * q)).toNat % 2 ^ 48 + 1) % 2 ^ 48) := by
  rw [Cluster.slip_of_late q hlate, Cluster.regAt_latch_ne _ (by omega), Cluster.regAt_bump_self hc _ _ (by omega)]

omit hc in
theorem Cluster.regAt_slip_first_of_valid (h : (c.regAt 0x20001300).getLsbD 63 = true) :
    (c.slip q o).regAt 0x20001300 = c.regAt 0x20001300 := by
  have hkeep : ∀ b n, (c.bump (0x20001100 + 8 * q) 0x20001040 b n).regAt 0x20001300 = c.regAt 0x20001300 :=
    fun b n => Cluster.regAt_bump_ne b n (by omega) (by decide)
  rw [Cluster.slip_of_late q hlate, Cluster.latch_of_valid _ (by rw [hkeep, h]), hkeep]

theorem Cluster.regAt_slip_first_of_empty (h : (c.regAt 0x20001300).getLsbD 63 = false) :
    (c.slip q o).regAt 0x20001300 = slipRecord q o (c.lcc - opStamp o) := by
  have hkeep : ∀ b n, (c.bump (0x20001100 + 8 * q) 0x20001040 b n).regAt 0x20001300 = c.regAt 0x20001300 :=
    fun b n => Cluster.regAt_bump_ne b n (by omega) (by decide)
  rw [Cluster.slip_of_late q hlate, Cluster.regAt_latch_of_empty (Cluster.bump_canon c _ _ _ _ hc) _ (by rw [hkeep, h]),
    slipRecord_eq (by omega)]

end

/-! The accounting of an op that starts (R59, R391). -/

/-- The witness's share of the token rate of an op (R54, R59). -/
def Cluster.witRate (c : Cluster) (q : Nat) (o : MacroOp) : Nat :=
  match arrayOfQ q with
  | some a => if c.witness a && opOpc o != 0x16 then 1 else 0
  | none => 0

/-- The cycles and tokens of an op go to its context. -/
def Cluster.charge (c : Cluster) (o : MacroOp) (nul : Bool) (rate : Nat) : Cluster :=
  if nul then c.account (opCtx o) 3 (opDur o)
  else (c.account (opCtx o) 2 (opDur o)).account (opCtx o) 4 (opDur o * rate)

/-- The queue of an op that starts. -/
def Cluster.dequeue (c : Cluster) (q : Nat) (o : MacroOp) : Cluster :=
  let e := c.queue q
  c.setQueue q { e with
    ents := e.ents.drop 1, started := e.started + 1, fin := c.lcc + opDur o
    run := some ⟨o, c.lcc, c.lcc + opDur o, c.nullified q e.started o c.lcc⟩, lastCtx := opCtx o
    freed := c.clk.free :: e.fresh c.clk.free }

@[simp] theorem Cluster.dequeue_canon (hc : c.canon) (q : Nat) (o : MacroOp) : (c.dequeue q o).canon :=
  Cluster.setQueue_canon c q _ hc

/-- The start of an op in its three parts: queue, slip and accounting. -/
theorem Cluster.startOp_parts (c : Cluster) (q : Nat) (o : MacroOp) :
    let nul := c.nullified q (c.queue q).started o c.lcc
    let d := (c.dequeue q o).slip q o
    c.startOp q o = (d.charge o nul (tokRate o + d.witRate q o), nul) := rfl

theorem Cluster.witRate_slip (q : Nat) (hq : q < 52) (o : MacroOp) : (c.slip q o).witRate q o = c.witRate q o := by
  have hwit : ∀ a, (c.slip q o).witness a = c.witness a := fun a => by
    rw [Cluster.witness, Cluster.witness, Cluster.regAt_slip_ne q o (by omega) (by decide) (by decide)]
  simp only [Cluster.witRate, hwit]

theorem Cluster.charge_nullified (o : MacroOp) (rate : Nat) : c.charge o true rate = c.account (opCtx o) 3 (opDur o) := rfl

theorem Cluster.charge_op (o : MacroOp) (rate : Nat) :
    c.charge o false rate = (c.account (opCtx o) 2 (opDur o)).account (opCtx o) 4 (opDur o * rate) := rfl

/-- The accounting of an op changes the cycles, the nullified cycles, the tokens and the sticky mask of its context. -/
theorem Cluster.regAt_charge_ne (o : MacroOp) (nul : Bool) (rate : Nat) {x : Nat}
    (hcycles : x ≠ 0x20074000 + 0x100 * opCtx o + 8 * 2) (hnul : x ≠ 0x20074000 + 0x100 * opCtx o + 8 * 3)
    (htokens : x ≠ 0x20074000 + 0x100 * opCtx o + 8 * 4) (hsticky : x ≠ 0x20074000 + 0x100 * opCtx o + 8 * 16) :
    (c.charge o nul rate).regAt x = c.regAt x := by
  cases nul with
  | true => rw [Cluster.charge_nullified, Cluster.regAt_account_ne _ hnul hsticky]
  | false => rw [Cluster.charge_op, Cluster.regAt_account_ne _ htokens hsticky, Cluster.regAt_account_ne _ hcycles hsticky]

/-! The registers after the start of an op, in the parts above. -/

section
variable (c : Cluster) {q : Nat} (o : MacroOp)

/-- Accounting leaves what stands below the contexts' counters to the slip. -/
theorem Cluster.regAt_startOp_low {x : Nat} (hx : x < 0x20074000) :
    (c.startOp q o).1.regAt x = ((c.dequeue q o).slip q o).regAt x := by
  rw [Cluster.startOp_parts]
  exact Cluster.regAt_charge_ne o _ _ (by omega) (by omega) (by omega) (by omega)

/-- The slip leaves the contexts' counters to the accounting. -/
theorem Cluster.regAt_dequeue_slip (hq : q < 52) {x : Nat} (hx : 0x20074000 ≤ x) :
    ((c.dequeue q o).slip q o).regAt x = c.regAt x :=
  Cluster.regAt_slip_ne q o (by omega) (by omega) (by omega)

theorem Cluster.regAt_startOp_nullified (hc : c.canon) (hq : q < 52) (hnul : c.nullified q (c.queue q).started o c.lcc = true) :
    let acct := fun k => 0x20074000 + 0x100 * opCtx o + 8 * k
    let d := (c.startOp q o).1
    (c.regAt (acct 3)).toNat + opDur o < 2 ^ 64 →
      d.regAt (acct 3) = c.regAt (acct 3) + BitVec.ofNat 64 (opDur o)
        ∧ d.regAt (acct 2) = c.regAt (acct 2) ∧ d.regAt (acct 4) = c.regAt (acct 4) := by
  intro acct d hbound
  have hcanon : ((c.dequeue q o).slip q o).canon := by simp [hc]
  have hslip : ∀ k, ((c.dequeue q o).slip q o).regAt (acct k) = c.regAt (acct k) :=
    fun k => c.regAt_dequeue_slip o hq (by simp only [acct]; omega)
  have hd : d = ((c.dequeue q o).slip q o).account (opCtx o) 3 (opDur o) := by
    simp only [d, Cluster.startOp_parts, hnul, Cluster.charge_nullified]
  rw [hd, ← hslip 2, ← hslip 3, ← hslip 4]
  refine ⟨Cluster.regAt_account_add hcanon _ _ (by decide) (by rw [hslip]; exact hbound), ?_, ?_⟩
  all_goals exact Cluster.regAt_account_ne _ (by simp only [acct]; omega) (by simp only [acct]; omega)

theorem Cluster.regAt_startOp_op (hc : c.canon) (hq : q < 52) (hnul : c.nullified q (c.queue q).started o c.lcc = false) :
    let acct := fun k => 0x20074000 + 0x100 * opCtx o + 8 * k
    let d := (c.startOp q o).1
    let tokens := opDur o * (tokRate o + c.witRate q o)
    (c.regAt (acct 2)).toNat + opDur o < 2 ^ 64 → (c.regAt (acct 4)).toNat + tokens < 2 ^ 64 →
      d.regAt (acct 2) = c.regAt (acct 2) + BitVec.ofNat 64 (opDur o)
        ∧ d.regAt (acct 4) = c.regAt (acct 4) + BitVec.ofNat 64 tokens ∧ d.regAt (acct 3) = c.regAt (acct 3) := by
  intro acct d tokens hcycles htokens
  have hcanon : ((c.dequeue q o).slip q o).canon := by simp [hc]
  have hslip : ∀ k, ((c.dequeue q o).slip q o).regAt (acct k) = c.regAt (acct k) :=
    fun k => c.regAt_dequeue_slip o hq (by simp only [acct]; omega)
  have hrate : ((c.dequeue q o).slip q o).witRate q o = c.witRate q o := Cluster.witRate_slip q hq o
  have hd : d = (((c.dequeue q o).slip q o).account (opCtx o) 2 (opDur o)).account (opCtx o) 4 tokens := by
    simp only [d, Cluster.startOp_parts, hnul, Cluster.charge_op, hrate, tokens]
  have hother : ∀ i n k, k ≠ i → k < 16 → ∀ x : Cluster, (x.account (opCtx o) i n).regAt (acct k) = x.regAt (acct k) :=
    fun i n k hki hk x => Cluster.regAt_account_ne _ (by simp only [acct]; omega) (by simp only [acct]; omega)
  rw [hd, ← hslip 2, ← hslip 3, ← hslip 4]
  refine ⟨?_, ?_, ?_⟩
  · rw [hother 4 _ 2 (by decide) (by decide)]
    exact Cluster.regAt_account_add hcanon _ _ (by decide) (by rw [hslip]; exact hcycles)
  · rw [← hother 2 (opDur o) 4 (by decide) (by decide) ((c.dequeue q o).slip q o)]
    refine Cluster.regAt_account_add (Cluster.account_canon _ _ _ _ hcanon) _ _ (by decide) ?_
    rw [hother 2 _ 4 (by decide) (by decide), hslip]
    exact htokens
  · rw [hother 4 _ 3 (by decide) (by decide), hother 2 _ 3 (by decide) (by decide)]

end

end Sys2Proof.Machine

open Sys2Proof Sys2Proof.Machine

/-- Settles O24, from the three parts of a start: queue, slip and accounting. -/
theorem opStart : Obligations.OpStart := by
  intro c q o e nul late slips acct wit hc
  have hq : q.val < 52 := q.isLt
  have hcanon : (c.dequeue q.val o).canon := Cluster.dequeue_canon hc _ o
  have hlow : ∀ x < 0x20074000, (c.startOp q.val o).1.regAt x = ((c.dequeue q.val o).slip q.val o).regAt x :=
    fun x hx => c.regAt_startOp_low o hx
  have hslips : slips < 0x20074000 := by simp only [slips]; omega
  refine ⟨(c.startOp q.val o).1.reg, Prod.ext (c.startOp_form q.val o) rfl, ?_, ?_,
    c.regAt_startOp_nullified o hc hq, c.regAt_startOp_op o hc hq, ?_⟩
  · intro hlate
    have hle : (c.dequeue q.val o).lcc ≤ opStamp o := by
      have : ¬ opStamp o < c.lcc := of_decide_eq_false hlate
      exact Nat.le_of_not_lt this
    refine ⟨(hlow _ hslips).trans ?_, (hlow _ (by decide)).trans ?_⟩
    all_goals rw [Cluster.slip_of_on_time _ hle]; rfl
  · intro hlate
    have hlt : opStamp o < (c.dequeue q.val o).lcc := of_decide_eq_true hlate
    exact ⟨(hlow _ hslips).trans (Cluster.regAt_slip_count hcanon hq hlt),
      fun h => (hlow _ (by decide)).trans (Cluster.regAt_slip_first_of_valid hq hlt h),
      fun h => (hlow _ (by decide)).trans (Cluster.regAt_slip_first_of_empty hcanon hq hlt h)⟩
  · intro a hcount hwrap hfirst hcycles hnulled htokens hsticky
    have hslip : ((c.dequeue q.val o).slip q.val o).regAt a = c.regAt a := Cluster.regAt_slip_ne _ _ hcount hwrap hfirst
    exact (Cluster.regAt_charge_ne o _ _ hcycles hnulled htokens hsticky).trans hslip

end

section
/-! One tick of the clocks (R30, R434, log entries 6 and 8). -/

namespace Sys2Proof.Machine

theorem step_nil (c : Cluster) : step ⟨[], c⟩ = .next ⟨[], c.tick⟩ := rfl

variable {c : Cluster}

theorem Cluster.tick_of_idle (h : c.powered = false ∨ c.due = true) : c.tick = c := by
  have hidle : (!c.powered || c.due) = true := by simpa using h
  rw [Cluster.tick, if_pos hidle]

theorem Cluster.tick_of_unlocked (hpower : c.powered = true) (hdue : c.due = false) (hlock : c.clk.locked = false) :
    c.tick = ({ c with clk := { c.clk with ckm := c.clk.ckm + 1 } } : Cluster).passCkm := by
  simp [Cluster.tick, hpower, hdue, hlock]

theorem Cluster.tick_of_locked (hpower : c.powered = true) (hdue : c.due = false) (hlock : c.clk.locked = true) :
    c.tick = c.passCycle := by
  simp [Cluster.tick, hpower, hdue, hlock]

end Sys2Proof.Machine

open Sys2Proof Sys2Proof.Machine

/-- Settles O1: a step with a command runs it, and one without is a tick of the clocks. -/
theorem stepRunsFront : Obligations.StepRunsFront := by
  intro c
  refine ⟨fun _ _ => rfl, fun hidle => ?_, fun hpower hdue => ⟨fun hlock => ?_, fun hlock => ?_⟩⟩
  · rw [step_nil, Cluster.tick_of_idle hidle]
  · rw [step_nil, Cluster.tick_of_unlocked hpower hdue hlock]
  · rw [step_nil, Cluster.tick_of_locked hpower hdue hlock]

end

section
/-! When an op starts (R33, R35, R36, R256). -/

namespace Sys2Proof.Machine

/-- The op at the head of a queue is visible (R256). -/
theorem Cluster.headOp_eq_some (c : Cluster) (q : Nat) (o : MacroOp) :
    c.headOp q = some o ↔ ∃ vis rest, (c.queue q).ents = ⟨o, vis⟩ :: rest ∧ vis ≤ c.clk.free := by
  unfold Cluster.headOp
  cases (c.queue q).ents with
  | nil => simp
  | cons e rest =>
    obtain ⟨op, vis⟩ := e
    simp [eq_comm, and_comm]

/-- An open queue with a free engine starts its head at its STAMP, or at the end of the op before (R33, R35). -/
theorem Cluster.startOf_eq_some (c : Cluster) (q : Nat) (o : MacroOp) (t : Nat) :
    c.startOf q = some (o, t) ↔ c.headOp q = some o ∧ (c.queue q).run = none ∧ (c.queue q).started < (c.queue q).count
      ∧ max (opStamp o) (c.queue q).fin = t := by
  unfold Cluster.startOf
  cases c.headOp q with
  | none => simp
  | some p =>
    by_cases hfree : (c.queue q).run = none ∧ (c.queue q).started < (c.queue q).count
    · simp +contextual [hfree]
    · simp [Option.isNone_iff_eq_none, hfree, ← and_assoc]

/-- It starts in the executed cycle that reaches that LCC value, unless a pre-emption point has to act first (R250). -/
theorem Cluster.starting_eq_some (c : Cluster) (q opc : Nat) (o : MacroOp) :
    c.starting q opc = some o ↔ c.runs = true ∧ c.pointDue = false
      ∧ ∃ t, c.startOf q = some (o, t) ∧ opOpc o = opc ∧ t ≤ c.lcc := by
  unfold Cluster.starting
  cases c.startOf q with
  | none => simp
  | some p =>
    obtain ⟨op, t⟩ := p
    by_cases hop : op = o
    · subst hop; simp [and_assoc]
    · simp [hop]

end Sys2Proof.Machine

open Sys2Proof Sys2Proof.Machine

/-- Settles O23: the head op, the LCC value at which it starts, and the cycle that reaches it. -/
theorem startRule : Obligations.StartRule := by
  intro c q opc o e
  simp only [Cluster.starting_eq_some, Cluster.startOf_eq_some, Cluster.headOp_eq_some]
  constructor
  · rintro ⟨hruns, hpoint, t, ⟨hhead, hrun, hopen, rfl⟩, hopc, hle⟩
    exact ⟨hruns, hpoint, hhead, hrun, hopen, hopc, Nat.max_le.mp hle⟩
  · rintro ⟨hruns, hpoint, hhead, hrun, hopen, hopc, hstarts⟩
    exact ⟨hruns, hpoint, _, ⟨hhead, hrun, hopen, rfl⟩, hopc, Nat.max_le.mpr hstarts⟩

end

section
/-! The ends of ops, FINTB, the holds and the crossing's samples (R32, R35, R41, R47, R320, R376): what each of these
commands does when it is due. -/

namespace Sys2Proof.Machine

variable {c : Cluster}

/-! The end of an op and FINTB. -/

theorem Cluster.endDue_of_over {q : Nat} {r : RunOp} (hready : c.ready = true) (hrunning : c.tim.running = true)
    (hrun : (c.queue q).run = some r) (hover : r.fin ≤ c.tim.lcc) : c.endDue q = true := by
  simp [Cluster.endDue, hready, hrunning, hrun, Cluster.lcc, hover]

theorem opEndC_of_due {q : Nat} (h : c.endDue q = true) :
    opEndC c q = (c.setQueue q { c.queue q with run := none }).endCheck := if_pos h

theorem Cluster.endCheck_of_running (h : c.tim.running = true) : c.endCheck = if c.allClosed then c.liningEnd else c := by
  rw [Cluster.endCheck, h, Bool.true_and]

theorem fintbRecordC_of_due {k : Nat} (h : c.finDue k = true) :
    fintbRecordC c k = c.setCtx k { c.ctx k with fintb := c.tb.value, finSet := true } := if_pos h

/-! The beginning and the end of a hold. -/

theorem holdBeginC_of_cause (hruns : c.runs = true) (hnew : c.decided (c.tim.lcc + 2) = false)
    (hcause : c.causes (c.tim.lcc + 2) ≠ 0) : holdBeginC c = c.openHold (c.tim.lcc + 2) := by
  have hdue : c.holdDue = true := by simp [Cluster.holdDue, Cluster.lcc, hruns, hnew, hcause]
  exact if_pos hdue

/-- The HALT event of a halt that is over carries four bytes 0, then LCC (R469). -/
theorem Cluster.haltOver_eq (c : Cluster) (t : Nat) :
    c.haltOver t = ({ c with tim := { c.tim with haltKept := false } } : Cluster).event 5 (leBytes 4 0 ++ leBytes 4 t) := rfl

theorem holdEndC_of_clear {h : Hold} (hhold : c.tim.hold = some h) (hclear : c.holdClear = true) :
    let d := { c with tim := { c.tim with hold := some { h with exit := 1 } } }
    holdEndC c = if h.mask.testBit 4 then d.haltOver h.target else d := by
  rw [holdEndC, if_pos hclear, hhold]

/-! A hold that outlasts its limit. -/

/-- The causes below the throttle keep their places in the evaluated mask. -/
theorem testBit_mod_eight (m : Nat) {i : Nat} (hi : i < 3) : (m % 8).testBit i = m.testBit i := by
  rw [show 8 = 2 ^ 3 from rfl, Nat.testBit_mod_two_pow, decide_eq_true hi, Bool.true_and]

/-! The samples of the crossing FIFOs. -/

theorem Cluster.fifo_setFifo_self (c : Cluster) {j : Nat} (f : Fifo) (h : j < 8) : (c.setFifo j f).fifo j = f :=
  vat_vset_self _ _ _ _ h

theorem Cluster.fifo_setFifo_ne (c : Cluster) {j k : Nat} (f : Fifo) (h : k ≠ j) : (c.setFifo j f).fifo k = c.fifo k :=
  vat_vset_ne _ _ _ _ _ h

theorem Cluster.setFill_fill (c : Cluster) {j : Nat} (fill : Nat) (h : j < 8) : ((c.setFill j fill).fifo j).fill = fill := by
  rw [Cluster.setFill, Cluster.fifo_setFifo_self c _ h]
  split <;> rfl

theorem Cluster.setFill_fifo_ne (c : Cluster) {j k : Nat} (fill : Nat) (h : k ≠ j) : (c.setFill j fill).fifo k = c.fifo k :=
  Cluster.fifo_setFifo_ne c _ h

/-- A fill lies outside a band on a lane that carries traffic. -/
theorem Cluster.fillIn_eq_false (c : Cluster) (lo hi k : Nat) :
    c.fillIn lo hi k = false ↔ (c.lane (k / 2)).up = true ∧ ((c.fifo k).fill < lo ∨ hi < (c.fifo k).fill) := by
  simp [Cluster.fillIn, or_iff_not_imp_left]

theorem Cluster.recentreDue_iff (hlive : c.live = true) :
    c.recentreDue = true ↔ c.tim.recentre = 0 ∧ 64 ≤ c.clk.unstretched
      ∧ ∃ k < 8, (c.lane (k / 2)).up = true ∧ ((c.fifo k).fill < 4 ∨ 12 < (c.fifo k).fill) := by
  simp only [← Cluster.fillIn_eq_false]
  simp [Cluster.recentreDue, hlive, and_assoc]

end Sys2Proof.Machine

open Sys2Proof Sys2Proof.Machine

/-- Settles O43, command by command: each acts because its event is due. -/
theorem liningTime : Obligations.LiningTime := by
  intro s c
  refine ⟨?_, ?_, ?_, ?_, ?_, ?_⟩
  · intro q r hready hrunning hrun hover d
    have hend : opEndC c q.val = if d.allClosed then d.liningEnd else d :=
      (opEndC_of_due (Cluster.endDue_of_over hready hrunning hrun hover)).trans
        (Cluster.endCheck_of_running (c := d) hrunning)
    exact congrArg (fun e => done s e) hend
  · intro k hruns hbound htorn hset hfin
    have hdue : c.finDue k.val = true := by simp [Cluster.finDue, Cluster.lcc, hruns, hbound, htorn, hset, hfin]
    exact congrArg (fun e => done s e) (fintbRecordC_of_due hdue)
  · intro hruns hnew hcause
    exact congrArg (fun e => done s e) (holdBeginC_of_cause hruns hnew hcause)
  · intro h hready hrunning hhold htarget hexit hcauses d
    have hclear : c.holdClear = true := by
      simp [Cluster.holdClear, Cluster.lcc, hready, hrunning, hhold, htarget, hexit, hcauses]
    exact congrArg (fun e => done s e) (holdEndC_of_clear hhold hclear)
  · intro h hready hrunning hhold htarget hbegun hhalted hcauses hlimit m u d₁ d₂ d₃
    have hout : holdTimeoutC c = if m.testBit 0 then u d₃ ((c.shortQs h.target).headD 0) else d₃ := by
      have hexpired : (c.ready && c.tim.running && h.begun && decide (h.target ≤ c.lcc) && !c.halted
          && c.causes h.target % 8 != 0 && decide (h.since + h.limit < c.tk)) = true := by
        simp [Cluster.lcc, hready, hrunning, htarget, hbegun, hhalted, hcauses, hlimit]
      rw [holdTimeoutC, hhold]
      simp only [hexpired, if_true, testBit_mod_eight, Nat.reduceLT, Bool.or_eq_true]
      rfl
    exact congrArg (fun e => done s e) hout
  · intro j fill hlive hup d far due
    have hsample : crossingRecentreC c j.val fill.val = if d.recentreDue then d.recentreBegin else d := by
      simp only [crossingRecentreC, hlive, hup, Bool.and_self, if_true]; rfl
    have hdue : d.recentreDue = true ↔ due := Cluster.recentreDue_iff hlive
    refine ⟨c.setFill_fill _ j.isLt, fun k hk => c.setFill_fifo_ne _ hk, fun h => ?_, fun h => ?_⟩
    · rw [if_pos (hdue.mpr h)] at hsample
      exact congrArg (fun e => done s e) hsample
    · rw [if_neg (fun hd => h (hdue.mp hd))] at hsample
      exact congrArg (fun e => done s e) hsample

end

section
/-! A held cycle (R41, R43, R45, R46, R475): what it counts, what the evaluation at its end does, and that everything else
stands. -/

namespace Sys2Proof.Machine

/-! A fold that changes what is observed in one round alone. -/

/-- What is observed of element x changes once, by g, where x is in the list. -/
theorem Cluster.each_observe {α β : Type} [DecidableEq α] (obs : Cluster → β) (g : β → β)
    {f : Cluster → α → Cluster} (x : α)
    (hcanon : ∀ d y, d.canon → (f d y).canon) (hself : ∀ d, d.canon → obs (f d x) = g (obs d))
    (hother : ∀ d y, x ≠ y → obs (f d y) = obs d) {l : List α} (hl : l.Nodup) {c : Cluster} (hc : c.canon) :
    obs (c.each l f) = if x ∈ l then g (obs c) else obs c := by
  unfold Cluster.each
  induction l generalizing c with
  | nil => rfl
  | cons y ys ih =>
    obtain ⟨hy, hys⟩ := List.nodup_cons.mp hl
    rw [List.foldl_cons, ih hys (hcanon c y hc)]
    by_cases hxy : x = y
    · subst hxy
      rw [if_neg hy, if_pos List.mem_cons_self, hself c hc]
    · simp only [List.mem_cons, hxy, false_or, hother c y hxy]

/-- What no round changes stands. -/
theorem Cluster.each_keeps {α β : Type} (obs : Cluster → β) {f : Cluster → α → Cluster} (h : ∀ d y, obs (f d y) = obs d)
    (l : List α) (c : Cluster) : obs (c.each l f) = obs c :=
  foldl_keep (fun d => obs d = obs c) f l rfl (fun d y hd => (h d y).trans hd)

/-! The parts of a held cycle's accounting. -/

/-- A held cycle counted for the cluster and for its highest-priority cause (R45). -/
def Cluster.countCause (c : Cluster) : Cluster :=
  let top := topCause c.holdAct
  let d := (c.bump 0x20001010 0x20001040 0 1).bump (0x20001018 + 8 * top) 0x20001040 (1 + top) 1
  { d with tim := { d.tim with held := d.tim.held + 1 } }

/-- The allowance of a context of the lining rises by a held cycle (R46). -/
def Cluster.allow (c : Cluster) (k : Nat) : Cluster :=
  (c.setCtx k { c.ctx k with hchg := (c.ctx k).hchg + 1 }).account k 5 1

/-- The contexts that a held cycle counts for: those of the lining, -/
def Cluster.dueCtxs (c : Cluster) : List Nat :=
  match c.run with
  | some r => r.ctxs
  | none => []

/-- and those named as having caused it, for MISSING_OP and LATE_ARRIVAL. -/
def Cluster.blamed (c : Cluster) : List Nat :=
  match c.run, c.tim.hold with
  | some _, some h => if topCause c.holdAct ≤ 1 then h.blame else []
  | _, _ => []

theorem Cluster.each_allow_tim (c : Cluster) (l : List Nat) : (c.each l Cluster.allow).tim = c.tim :=
  Cluster.each_keeps (fun d => d.tim) (fun d k => Cluster.account_tim (d.setCtx k _) k 5 1) l c

/-- A held cycle's accounting in its three parts. -/
theorem Cluster.countHeld_parts (c : Cluster) :
    c.countHeld = (c.countCause.each c.dueCtxs Cluster.allow).each c.blamed (fun d k => d.account k 6 1) := by
  have htim : c.countCause.tim.hold = c.tim.hold := by simp [Cluster.countCause]
  have hrun : c.countCause.run = c.run := by simp [Cluster.countCause]
  have hunfold : c.countHeld = match c.countCause.run with
    | none => c.countCause
    | some r =>
      match (c.countCause.each r.ctxs Cluster.allow).tim.hold with
      | some h => if topCause c.holdAct ≤ 1 then (c.countCause.each r.ctxs Cluster.allow).each h.blame (fun d k => d.account k 6 1)
          else c.countCause.each r.ctxs Cluster.allow
      | none => c.countCause.each r.ctxs Cluster.allow := rfl
  rw [hunfold, hrun, Cluster.dueCtxs, Cluster.blamed]
  cases c.run with
  | none => rfl
  | some r =>
    simp only [Cluster.each_allow_tim, htim]
    cases c.tim.hold with
    | none => rfl
    | some h =>
      simp only
      split <;> rfl

/-! What the accounting leaves alone. -/

/-- The cluster apart from its registers and its contexts, which a held cycle's accounting changes. -/
def Cluster.uncounted (c : Cluster) : Cluster := { c with ctxs := Vector.replicate 64 Ctx.reset, reg := [] }

theorem Cluster.eq_of_uncounted {c d : Cluster} (h : d.uncounted = c.uncounted) : d = { c with ctxs := d.ctxs, reg := d.reg } :=
  congrArg (fun e : Cluster => { e with ctxs := d.ctxs, reg := d.reg }) h

theorem Cluster.uncounted_account (c : Cluster) (k i n : Nat) : (c.account k i n).uncounted = c.uncounted := by
  rw [Cluster.account_form]; rfl

theorem Cluster.uncounted_allow (c : Cluster) (k : Nat) : (c.allow k).uncounted = c.uncounted :=
  Cluster.uncounted_account (c.setCtx k _) k 5 1

theorem Cluster.countCause_form (c : Cluster) :
    c.countCause = { c with tim := { c.tim with held := c.tim.held + 1 }, reg := c.countCause.reg } := by
  rw [Cluster.countCause]
  dsimp only
  rw [Cluster.bump_form, Cluster.bump_form (c := c)]

theorem Cluster.countHeld_form (c : Cluster) :
    c.countHeld = { c with tim := { c.tim with held := c.tim.held + 1 }, ctxs := c.countHeld.ctxs, reg := c.countHeld.reg } := by
  have hcause : c.countCause.uncounted = ({ c with tim := { c.tim with held := c.tim.held + 1 } } : Cluster).uncounted := by
    rw [Cluster.countCause_form]; rfl
  refine Cluster.eq_of_uncounted (c := { c with tim := { c.tim with held := c.tim.held + 1 } }) ?_
  rw [Cluster.countHeld_parts, Cluster.each_keeps _ (fun d k => d.uncounted_account k 6 1),
    Cluster.each_keeps _ Cluster.uncounted_allow, hcause]

/-! The registers and contexts after the accounting. -/

theorem topCause_le (mask : Nat) : topCause mask ≤ 4 := by
  unfold topCause
  repeat' split
  all_goals decide

variable {c : Cluster}

theorem Cluster.countCause_canon (hc : c.canon) : c.countCause.canon :=
  Cluster.bump_canon _ _ _ _ _ (Cluster.bump_canon c _ _ _ _ hc)

theorem Cluster.allow_canon (c : Cluster) (k : Nat) (hc : c.canon) : (c.allow k).canon :=
  Cluster.account_canon _ _ _ _ (Cluster.setCtx_canon _ _ _ hc)

theorem Cluster.regAt_countCause_total (hc : c.canon) :
    c.countCause.regAt 0x20001010 = BitVec.ofNat 64 (((c.regAt 0x20001010).toNat % 2 ^ 48 + 1) % 2 ^ 48) :=
  (Cluster.regAt_bump_ne _ _ (by omega) (by decide)).trans (Cluster.regAt_bump_self hc _ _ (by decide))

theorem Cluster.regAt_countCause_top (hc : c.canon) :
    c.countCause.regAt (0x20001018 + 8 * topCause c.holdAct)
      = BitVec.ofNat 64 (((c.regAt (0x20001018 + 8 * topCause c.holdAct)).toNat % 2 ^ 48 + 1) % 2 ^ 48) := by
  have htop := topCause_le c.holdAct
  refine (Cluster.regAt_bump_self (Cluster.bump_canon c _ _ _ _ hc) _ _ (by omega)).trans ?_
  rw [Cluster.regAt_bump_ne _ _ (by omega) (by omega)]

theorem Cluster.regAt_countCause_ne {x : Nat} (htotal : x ≠ 0x20001010) (htop : x ≠ 0x20001018 + 8 * topCause c.holdAct)
    (hwrap : x ≠ 0x20001040) : c.countCause.regAt x = c.regAt x :=
  (Cluster.regAt_bump_ne _ _ htop hwrap).trans (Cluster.regAt_bump_ne _ _ htotal hwrap)

/-- The counters of the contexts stand above those of the cluster. -/
theorem Cluster.regAt_countCause_high {x : Nat} (hx : 0x20074000 ≤ x) : c.countCause.regAt x = c.regAt x := by
  have htop := topCause_le c.holdAct
  exact Cluster.regAt_countCause_ne (by omega) (by omega) (by omega)

theorem Cluster.regAt_allow_ne {k x : Nat} (hcount : x ≠ 0x20074000 + 0x100 * k + 8 * 5)
    (hsticky : x ≠ 0x20074000 + 0x100 * k + 0x80) : (c.allow k).regAt x = c.regAt x :=
  Cluster.regAt_account_ne _ hcount hsticky

theorem Cluster.regAt_countHeld_low {x : Nat} (hx : x < 0x20074000) : c.countHeld.regAt x = c.countCause.regAt x := by
  rw [Cluster.countHeld_parts,
    Cluster.each_keeps (fun d => d.regAt x) (fun d k => Cluster.regAt_account_ne _ (by omega) (by omega)),
    Cluster.each_keeps (fun d => d.regAt x) (fun d k => Cluster.regAt_allow_ne (by omega) (by omega))]

section
variable (hc : c.canon) (k : CtxId)
include hc

/-- The allowance of a context of the lining. -/
theorem Cluster.ctx_countHeld (hdue : c.dueCtxs.Nodup) :
    c.countHeld.ctx k.val
      = if k.val ∈ c.dueCtxs then { c.ctx k.val with hchg := (c.ctx k.val).hchg + 1 } else c.ctx k.val := by
  have hcause : c.countCause.ctx k.val = c.ctx k.val := by rw [Cluster.countCause_form]; rfl
  have hblame : ∀ (d : Cluster) i, (d.account i 6 1).ctx k.val = d.ctx k.val :=
    fun d i => congrArg (fun v => vat v k.val Ctx.reset) (d.account_ctxs i 6 1)
  have hallow : ∀ (d : Cluster) i, (d.allow i).ctx k.val = (d.setCtx i { d.ctx i with hchg := (d.ctx i).hchg + 1 }).ctx k.val :=
    fun d i => congrArg (fun v => vat v k.val Ctx.reset) (Cluster.account_ctxs _ i 5 1)
  rw [Cluster.countHeld_parts, Cluster.each_keeps (fun d => d.ctx k.val) hblame,
    Cluster.each_observe (fun d => d.ctx k.val) (fun x => { x with hchg := x.hchg + 1 }) k.val Cluster.allow_canon ?_ ?_ hdue
      (Cluster.countCause_canon hc), hcause]
  · exact fun d _ => (hallow d k.val).trans (d.ctx_setCtx_self _ _ k.isLt)
  · exact fun d i hi => (hallow d i).trans (d.ctx_setCtx_ne _ _ _ hi)

/-- The counter of held cycles of a context of the lining (R391). -/
theorem Cluster.regAt_countHeld_held (hdue : c.dueCtxs.Nodup) :
    let a := 0x20074000 + 0x100 * k.val + 8 * 5
    c.countHeld.regAt a
      = if k.val ∈ c.dueCtxs then BitVec.ofNat 64 (min ((c.regAt a).toNat + 1) (2 ^ 64 - 1)) else c.regAt a := by
  intro a
  rw [Cluster.countHeld_parts,
    Cluster.each_keeps (fun d => d.regAt a) (fun d i => Cluster.regAt_account_ne _ (by omega) (by omega)),
    Cluster.each_observe (fun d => d.regAt a) (fun w => BitVec.ofNat 64 (min (w.toNat + 1) (2 ^ 64 - 1))) k.val
      Cluster.allow_canon ?_ ?_ hdue (Cluster.countCause_canon hc), Cluster.regAt_countCause_high (by omega)]
  · exact fun d hd => Cluster.regAt_account_self (Cluster.setCtx_canon _ _ _ hd) _ _ (by decide)
  · exact fun d i hi => Cluster.regAt_allow_ne (by omega) (by omega)

/-- The counter of held cycles that a context caused (R46, R391). -/
theorem Cluster.regAt_countHeld_caused (hblamed : c.blamed.Nodup) :
    let a := 0x20074000 + 0x100 * k.val + 8 * 6
    c.countHeld.regAt a
      = if k.val ∈ c.blamed then BitVec.ofNat 64 (min ((c.regAt a).toNat + 1) (2 ^ 64 - 1)) else c.regAt a := by
  intro a
  have hdue : (c.countCause.each c.dueCtxs Cluster.allow).regAt a = c.regAt a := by
    rw [Cluster.each_keeps (fun d => d.regAt a) (fun d i => Cluster.regAt_allow_ne (by omega) (by omega)),
      Cluster.regAt_countCause_high (by omega)]
  rw [Cluster.countHeld_parts,
    Cluster.each_observe (fun d => d.regAt a) (fun w => BitVec.ofNat 64 (min (w.toNat + 1) (2 ^ 64 - 1))) k.val
      (fun d i => Cluster.account_canon d i 6 1) ?_ ?_ hblamed
      (Cluster.each_canon _ _ (Cluster.countCause_canon hc) Cluster.allow_canon), hdue]
  · exact fun d hd => Cluster.regAt_account_self hd _ _ (by decide)
  · exact fun d i hi => Cluster.regAt_account_ne _ (by omega) (by omega)

end

end Sys2Proof.Machine
end

section
/-! The evaluation at the end of a held cycle (R41, R469, R475). -/

namespace Sys2Proof.Machine

theorem Cluster.event_form (c : Cluster) (code : Nat) (data : List Byte) :
    c.event code data = { c with moss := (c.event code data).moss } := by
  unfold Cluster.event
  dsimp only
  split <;> rfl

theorem Cluster.haltOver_form (c : Cluster) (t : Nat) :
    c.haltOver t = { c with tim := { c.tim with haltKept := false }, moss := (c.haltOver t).moss } := by
  rw [Cluster.haltOver, Cluster.haltEvent, Cluster.event_form]

/-- DEBUG joining or leaving a hold changes the kept halt and the event queue. -/
theorem Cluster.haltTurn_form (c : Cluster) (was now : Bool) (t : Nat) :
    c.haltTurn was now t = { c with
      tim := { c.tim with haltKept := (c.haltTurn was now t).tim.haltKept }, moss := (c.haltTurn was now t).moss } := by
  unfold Cluster.haltTurn
  split
  · rfl
  · split
    · split
      · rfl
      · rw [Cluster.haltEvent, Cluster.event_form]
    · rw [Cluster.haltOver_form]

/-- The hold after a held cycle that is not its exit cycle (R41). -/
def Cluster.aged (c : Cluster) (h : Hold) : Hold :=
  let m := if h.exit = 0 then c.causes h.target else 0
  { h with
    begun := true
    since := if h.begun then h.since else c.tk
    limit := if h.begun then h.limit else c.dictAt 0x2400 0x10
    exit := if h.exit = 1 then 2 else 0
    mask := if m = 0 then h.mask else m
    blame := if m % 8 = 0 then h.blame else c.blameOf h.target (m % 8) }

variable {c : Cluster} {h : Hold}

theorem Cluster.ageHold_of_none (hnone : c.tim.hold = none) : c.ageHold = c := by
  rw [Cluster.ageHold, hnone]

theorem Cluster.ageHold_of_ahead (hhold : c.tim.hold = some h) (hahead : c.lcc < h.target) : c.ageHold = c := by
  rw [Cluster.ageHold, hhold]
  exact if_pos hahead

/-- Behind its exit cycle the hold is gone, and the next one stands (R41). -/
theorem Cluster.ageHold_of_exit (hhold : c.tim.hold = some h) (hreached : h.target ≤ c.lcc) (hexit : h.exit = 2) :
    c.ageHold = { c with tim := { c.tim with hold := c.tim.next, next := none } } := by
  rw [Cluster.ageHold, hhold]
  exact (if_neg (Nat.not_lt.mpr hreached)).trans (if_pos hexit)

theorem Cluster.ageHold_of_held (hhold : c.tim.hold = some h) (hreached : h.target ≤ c.lcc) (hexit : h.exit ≠ 2) :
    c.ageHold = ({ c with tim := { c.tim with hold := some (c.aged h) } } : Cluster).haltTurn
      (h.mask.testBit 4) ((c.aged h).mask.testBit 4) h.target := by
  rw [Cluster.ageHold, hhold]
  exact (if_neg (Nat.not_lt.mpr hreached)).trans (if_neg hexit)

theorem Cluster.ageHold_hold (hhold : c.tim.hold = some h) (hreached : h.target ≤ c.lcc) (hexit : h.exit ≠ 2) :
    c.ageHold.tim.hold = some (c.aged h) := by
  rw [Cluster.ageHold_of_held hhold hreached hexit, Cluster.haltTurn_form]

/-- The evaluation changes the holds, the kept halt and the event queue. -/
theorem Cluster.ageHold_form (c : Cluster) : c.ageHold = { c with
    tim := { c.tim with hold := c.ageHold.tim.hold, next := c.ageHold.tim.next, haltKept := c.ageHold.tim.haltKept }
    moss := c.ageHold.moss } := by
  cases hhold : c.tim.hold with
  | none => rw [Cluster.ageHold_of_none hhold]
  | some h =>
    rcases Nat.lt_or_ge c.lcc h.target with hahead | hreached
    · rw [Cluster.ageHold_of_ahead hhold hahead]
    · by_cases hexit : h.exit = 2
      · rw [Cluster.ageHold_of_exit hhold hreached hexit]
      · rw [Cluster.ageHold_of_held hhold hreached hexit, Cluster.haltTurn_form]

/-! A held cycle as a whole: the accounting, then the evaluation. -/

theorem Cluster.heldNow_iff (c : Cluster) : c.heldNow = true ↔ c.tim.running = true
    ∧ ((∃ h, c.tim.hold = some h ∧ h.target ≤ c.lcc) ∨ (c.clk.locked = true ∧ c.clk.free % 256 < 16 * c.tim.duty)) := by
  have hin : c.inHold = true ↔ ∃ h, c.tim.hold = some h ∧ h.target ≤ c.lcc := by
    unfold Cluster.inHold
    cases c.tim.hold <;> simp
  simp [Cluster.heldNow, Cluster.throttled, hin]

theorem Cluster.passStatic_of_held (hheld : c.heldNow = true) : c.passStatic = c.countHeld.ageHold := if_pos hheld

theorem Cluster.passStatic_of_executed (hheld : c.heldNow = false) (hrunning : c.tim.running = true) :
    c.passStatic = if c.staticCycle.tim.running then
      ({ c.staticCycle with tim := { c.staticCycle.tim with lcc := (c.staticCycle.lcc + 1) % 2 ^ 32 } } : Cluster).enterUses
      else c.staticCycle := by
  simp only [Cluster.passStatic, hheld, hrunning, Bool.false_eq_true, if_true, if_false]

theorem Cluster.passStatic_of_idle (hheld : c.heldNow = false) (hrunning : c.tim.running = false) : c.passStatic = c := by
  simp [Cluster.passStatic, hheld, hrunning]

section
variable (hheld : c.heldNow = true)
include hheld

theorem Cluster.passStatic_held_form : c.passStatic = { c with
    tim := c.passStatic.tim, ctxs := c.passStatic.ctxs, reg := c.passStatic.reg, moss := c.passStatic.moss } := by
  rw [Cluster.passStatic_of_held hheld, Cluster.ageHold_form, Cluster.countHeld_form]

theorem Cluster.passStatic_held_tim : c.passStatic.lcc = c.lcc ∧ c.passStatic.tim.held = c.tim.held + 1
    ∧ c.passStatic.tim.running = c.tim.running := by
  rw [Cluster.passStatic_of_held hheld, Cluster.ageHold_form, Cluster.countHeld_form]
  exact ⟨rfl, rfl, rfl⟩

theorem Cluster.regAt_passStatic_held (x : Nat) : c.passStatic.regAt x = c.countHeld.regAt x := by
  rw [Cluster.passStatic_of_held hheld, Cluster.ageHold_form]; rfl

theorem Cluster.ctx_passStatic_held (k : Nat) : c.passStatic.ctx k = c.countHeld.ctx k := by
  rw [Cluster.passStatic_of_held hheld, Cluster.ageHold_form]; rfl

end

theorem Cluster.mem_blamed {r : Run} (hrun : c.run = some r) (hhold : c.tim.hold = some h) (k : Nat) :
    k ∈ c.blamed ↔ topCause c.holdAct ≤ 1 ∧ k ∈ h.blame := by
  simp only [Cluster.blamed, hrun, hhold]
  split <;> simp_all

theorem Cluster.blamed_nodup {r : Run} (hrun : c.run = some r) (hhold : c.tim.hold = some h) (hnodup : h.blame.Nodup) :
    c.blamed.Nodup := by
  simp only [Cluster.blamed, hrun, hhold]
  split
  · exact hnodup
  · exact List.nodup_nil

/-- The part of PassCycle about a held cycle: what stands, what is counted, and for whom. -/
theorem Cluster.passStatic_held (hc : c.canon) (hheld : c.heldNow = true) :
    let d := c.passStatic
    let top := topCause c.holdAct
    let plus := fun (a : Nat) => BitVec.ofNat 64 (((c.regAt a).toNat % 2 ^ 48 + 1) % 2 ^ 48)
    d = { c with tim := d.tim, ctxs := d.ctxs, reg := d.reg, moss := d.moss }
      ∧ d.lcc = c.lcc ∧ d.tim.held = c.tim.held + 1 ∧ d.tim.running = true
      ∧ d.regAt 0x20001010 = plus 0x20001010 ∧ d.regAt (0x20001018 + 8 * top) = plus (0x20001018 + 8 * top)
      ∧ (∀ i, i < 5 → i ≠ top → d.regAt (0x20001018 + 8 * i) = c.regAt (0x20001018 + 8 * i))
      ∧ (∀ (r : Run) (k : CtxId), c.run = some r → r.ctxs.Nodup →
        let due := k.val ∈ r.ctxs
        let a := 0x20074028 + 0x100 * k.val
        d.ctx k.val = (if due then { c.ctx k.val with hchg := (c.ctx k.val).hchg + 1 } else c.ctx k.val)
          ∧ d.regAt a = (if due then BitVec.ofNat 64 (min ((c.regAt a).toNat + 1) (2 ^ 64 - 1)) else c.regAt a))
      ∧ (∀ (r : Run) (h : Hold) (k : CtxId), c.run = some r → c.tim.hold = some h → h.blame.Nodup →
        let a := 0x20074030 + 0x100 * k.val
        d.regAt a = (if top ≤ 1 ∧ k.val ∈ h.blame then BitVec.ofNat 64 (min ((c.regAt a).toNat + 1) (2 ^ 64 - 1)) else c.regAt a)) := by
  intro d top plus
  have htop : top ≤ 4 := topCause_le _
  obtain ⟨hlcc, hcount, hrunning⟩ := Cluster.passStatic_held_tim hheld
  have hreg : ∀ x, d.regAt x = c.countHeld.regAt x := Cluster.regAt_passStatic_held hheld
  have hlow : ∀ x < 0x20074000, d.regAt x = c.countCause.regAt x :=
    fun x hx => (hreg x).trans (Cluster.regAt_countHeld_low hx)
  refine ⟨Cluster.passStatic_held_form hheld, hlcc, hcount, hrunning.trans ((Cluster.heldNow_iff c).mp hheld).1,
    (hlow _ (by decide)).trans (Cluster.regAt_countCause_total hc),
    (hlow _ (by omega)).trans (Cluster.regAt_countCause_top hc), ?_, ?_, ?_⟩
  · intro i hi hne
    exact (hlow _ (by omega)).trans (Cluster.regAt_countCause_ne (by omega) (by omega) (by omega))
  · intro r k hrun hnodup due a
    have hdue : c.dueCtxs = r.ctxs := by rw [Cluster.dueCtxs, hrun]
    have ha : a = 0x20074000 + 0x100 * k.val + 8 * 5 := by omega
    rw [← hdue] at hnodup
    simp only [due, ← hdue, ha]
    exact ⟨(Cluster.ctx_passStatic_held hheld k.val).trans (Cluster.ctx_countHeld hc k hnodup),
      (hreg _).trans (Cluster.regAt_countHeld_held hc k hnodup)⟩
  · intro r h k hrun hhold hnodup a
    have ha : a = 0x20074000 + 0x100 * k.val + 8 * 6 := by omega
    simp only [top, ← Cluster.mem_blamed hrun hhold, ha]
    exact (hreg _).trans (Cluster.regAt_countHeld_caused hc k (Cluster.blamed_nodup hrun hhold hnodup))

/-- The part of PassCycle about the hold behind a held cycle. -/
theorem Cluster.passStatic_held_hold (hheld : c.heldNow = true) (hhold : c.tim.hold = some h) (hreached : h.target ≤ c.lcc) :
    let d := c.passStatic
    let m := c.countHeld.causes h.target
    (h.exit = 0 → m ≠ 0 → ∃ g, d.tim.hold = some g ∧ g.begun = true ∧ g.exit = 0 ∧ g.mask = m ∧ g.target = h.target
        ∧ g.since = (if h.begun then h.since else c.tk))
      ∧ (h.exit = 1 → ∃ g, d.tim.hold = some g ∧ g.begun = true ∧ g.exit = 2 ∧ g.mask = h.mask ∧ g.target = h.target)
      ∧ (h.exit = 2 → d.tim.hold = c.tim.next ∧ d.tim.next = none) := by
  intro d m
  have htim : c.countHeld.tim = { c.tim with held := c.tim.held + 1 } := by rw [Cluster.countHeld_form]
  have hhold' : c.countHeld.tim.hold = some h := by rw [htim]; exact hhold
  have hreached' : h.target ≤ c.countHeld.lcc := by rw [Cluster.lcc, htim]; exact hreached
  have htk : c.countHeld.tk = c.tk := by rw [Cluster.countHeld_form]; rfl
  simp only [d, Cluster.passStatic_of_held hheld]
  refine ⟨fun hexit hm => ?_, fun hexit => ?_, fun hexit => ?_⟩
  · refine ⟨_, Cluster.ageHold_hold hhold' hreached' (by omega), rfl, ?_, ?_, rfl, ?_⟩
    · simp [Cluster.aged, hexit]
    · simp only [Cluster.aged, hexit, if_true]; exact if_neg hm
    · rw [← htk]; rfl
  · refine ⟨_, Cluster.ageHold_hold hhold' hreached' (by omega), rfl, ?_, ?_, rfl⟩
    · simp [Cluster.aged, hexit]
    · simp [Cluster.aged, hexit]
  · rw [Cluster.ageHold_of_exit hhold' hreached' hexit, htim]
    exact ⟨rfl, rfl⟩

end Sys2Proof.Machine
end

section
/-! The clocks of a cycle: the stretch counters, CLK_FREE, the ticks and TB (R42, R436, R437, R440 to R442). -/

namespace Sys2Proof.Machine

variable {c : Cluster}

theorem Cluster.level_eq (c : Cluster) :
    c.level = if c.clk.locked then (if c.clk.sen then max c.clk.reqR c.clk.decD else 8) else 0 := by
  unfold Cluster.level
  cases c.clk.locked <;> rfl

/-- The two stretch counters that run with the clock (R440). -/
def Cluster.bumpStretch (c : Cluster) : Cluster :=
  (c.bump 0x20010018 0x20010030 0 c.level).bump 0x20010020 0x20010030 1 1

theorem Cluster.countStretch_of_level (h : 0 < c.level) :
    c.countStretch = if c.tim.running then
      c.bumpStretch.setReg 0x20010010 (c.bumpStretch.regAt 0x20010010 + BitVec.ofNat 64 c.level) else c.bumpStretch := by
  have hrunning : c.bumpStretch.tim.running = c.tim.running := by simp [Cluster.bumpStretch]
  rw [Cluster.countStretch, if_neg (Nat.ne_of_gt h), ← hrunning]
  rfl

theorem Cluster.bumpStretch_form (c : Cluster) : c.bumpStretch = { c with reg := c.bumpStretch.reg } := by
  rw [Cluster.bumpStretch, Cluster.bump_form, Cluster.bump_form (c := c)]

theorem Cluster.bumpStretch_canon (hc : c.canon) : c.bumpStretch.canon :=
  Cluster.bump_canon _ _ _ _ _ (Cluster.bump_canon c _ _ _ _ hc)

/-- The part of PassCycle about the stretch counters. -/
theorem Cluster.countStretch_regs (hc : c.canon) (h : 0 < c.level) :
    let l := c.level
    let d := c.countStretch
    let plus := fun (a n : Nat) => BitVec.ofNat 64 (((c.regAt a).toNat % 2 ^ 48 + n) % 2 ^ 48)
    d = { c with reg := d.reg } ∧ d.regAt 0x20010018 = plus 0x20010018 l ∧ d.regAt 0x20010020 = plus 0x20010020 1
      ∧ d.regAt 0x20010010 = if c.tim.running then c.regAt 0x20010010 + BitVec.ofNat 64 l else c.regAt 0x20010010 := by
  intro l d plus
  have hwhole : c.bumpStretch.regAt 0x20010010 = c.regAt 0x20010010 :=
    (Cluster.regAt_bump_ne _ _ (by decide) (by decide)).trans (Cluster.regAt_bump_ne _ _ (by decide) (by decide))
  have heighths : c.bumpStretch.regAt 0x20010018 = plus 0x20010018 l :=
    (Cluster.regAt_bump_ne _ _ (by decide) (by decide)).trans (Cluster.regAt_bump_self hc _ _ (by decide))
  have hcycles : c.bumpStretch.regAt 0x20010020 = plus 0x20010020 1 := by
    refine (Cluster.regAt_bump_self (Cluster.bump_canon c _ _ _ _ hc) _ _ (by decide)).trans ?_
    rw [Cluster.regAt_bump_ne _ _ (by decide) (by decide)]
  have hcanon := Cluster.bumpStretch_canon hc
  cases hrunning : c.tim.running with
  | true =>
    have hd : d = c.bumpStretch.setReg 0x20010010 (c.bumpStretch.regAt 0x20010010 + BitVec.ofNat 64 c.level) := by
      simp only [d, Cluster.countStretch_of_level h, hrunning, if_true]
    rw [hd]
    refine ⟨?_, (Cluster.regAt_setReg_ne _ (by decide)).trans heighths, (Cluster.regAt_setReg_ne _ (by decide)).trans hcycles, ?_⟩
    · rw [Cluster.bumpStretch_form]; rfl
    · rw [Cluster.regAt_setReg_self hcanon, hwhole, if_pos rfl]
  | false =>
    have hd : d = c.bumpStretch := by
      simp only [d, Cluster.countStretch_of_level h, hrunning, Bool.false_eq_true, if_false]
    rw [hd]
    exact ⟨Cluster.bumpStretch_form c, heighths, hcycles, hwhole⟩

/-! The clocks. -/

/-- The cluster apart from its crossing FIFOs. -/
def Cluster.uncrossed (c : Cluster) : Cluster := { c with fifos := Vector.replicate 8 Fifo.reset }

theorem Cluster.uncrossed_passFifo (c : Cluster) (e j : Nat) : (c.passFifo e j).uncrossed = c.uncrossed := by
  unfold Cluster.passFifo
  split <;> rfl

theorem Cluster.eq_of_uncrossed {c d : Cluster} (h : d.uncrossed = c.uncrossed) : d = { c with fifos := d.fifos } :=
  congrArg (fun e : Cluster => { e with fifos := d.fifos }) h

/-- The crossing FIFOs after their cycle, before the count of a re-centring takes note of them. -/
def Cluster.crossed (c : Cluster) (l : Nat) : Cluster :=
  ({ c with clk := { c.clk with phaseF := (c.clk.phaseF + 8 + l) % 8 } } : Cluster).each (List.range 8)
    (fun d j => d.passFifo ((c.clk.phaseF + 8 + l) / 8) j)

theorem Cluster.passCrossings_eq (c : Cluster) (l : Nat) :
    c.passCrossings l = { c.crossed l with tim := { (c.crossed l).tim with recentre := (c.crossed l).recentreAged } } := by
  simp only [Cluster.passCrossings, Cluster.crossed]

theorem Cluster.crossed_form (c : Cluster) (l : Nat) : c.crossed l = { c with
    clk := { c.clk with phaseF := (c.clk.phaseF + 8 + l) % 8 }, fifos := (c.crossed l).fifos } :=
  Cluster.eq_of_uncrossed (c := { c with clk := { c.clk with phaseF := (c.clk.phaseF + 8 + l) % 8 } })
    (Cluster.each_keeps _ (fun d j => d.uncrossed_passFifo _ j) _ _)

/-- A cycle of the crossings changes their FIFOs, the phase of the fabric clock and the count of a re-centring. -/
theorem Cluster.passCrossings_form (c : Cluster) (l : Nat) : c.passCrossings l = { c with
    clk := { c.clk with phaseF := (c.clk.phaseF + 8 + l) % 8 }
    fifos := (c.passCrossings l).fifos
    tim := { c.tim with recentre := (c.passCrossings l).tim.recentre } } := by
  rw [Cluster.passCrossings_eq, Cluster.crossed_form]

/-- The clocks after a cycle, before the end of a CK_M cycle that ends with it. -/
def Cluster.counted (c : Cluster) : Cluster :=
  let d := c.passCrossings c.level
  { d with
    tim := { d.tim with dutyNext := if (d.clk.free + 1) % 256 = 0 then d.dutyNow else d.tim.dutyNext }
    clk := { d.clk with
      free := d.clk.free + 1
      unstretched := if c.level = 0 then d.clk.unstretched + 1 else 0
      phaseT := (c.clk.phaseT + 8 + c.level) % 112, phaseM := (c.clk.phaseM + 8 + c.level) % 140
      ckm := d.clk.ckm + (c.clk.phaseM + 8 + c.level) / 140 } }

/-- TB takes the tick that ends with the cycle, if one does (R441). -/
def Cluster.ticked (c : Cluster) : Cluster :=
  if 112 ≤ c.clk.phaseT + 8 + c.level then c.counted.passTk else c.counted

theorem Cluster.passClocks_eq (c : Cluster) :
    c.passClocks = if 140 ≤ c.clk.phaseM + 8 + c.level then c.ticked.passCkm else c.ticked := rfl

theorem Cluster.passTk_form (c : Cluster) : c.passTk = { c with tb := c.passTk.tb } := by
  unfold Cluster.passTk
  dsimp only
  split <;> rfl

/-- A tick of TB depends on TB and on whether a halt is in force. -/
theorem Cluster.passTk_tb_congr {d : Cluster} (htb : d.tb = c.tb) (hhalted : d.halted = c.halted) :
    d.passTk.tb = c.passTk.tb := by
  unfold Cluster.passTk
  rw [htb, hhalted]
  dsimp only
  split
  · exact htb
  · rfl

theorem Cluster.counted_form (c : Cluster) : c.counted = { c with
    tim := { c.tim with
      recentre := c.counted.tim.recentre, dutyNext := if (c.clk.free + 1) % 256 = 0 then c.dutyNow else c.tim.dutyNext }
    clk := { c.clk with
      free := c.clk.free + 1
      unstretched := if c.level = 0 then c.clk.unstretched + 1 else 0
      phaseT := (c.clk.phaseT + 8 + c.level) % 112, phaseM := (c.clk.phaseM + 8 + c.level) % 140
      phaseF := c.counted.clk.phaseF
      ckm := c.clk.ckm + (c.clk.phaseM + 8 + c.level) / 140 }
    fifos := c.counted.fifos } := by
  rw [Cluster.counted]
  dsimp only
  rw [Cluster.passCrossings_form]
  rfl

theorem Cluster.ticked_form (c : Cluster) : c.ticked = { c.counted with
    tb := if 112 ≤ c.clk.phaseT + 8 + c.level then c.passTk.tb else c.tb } := by
  have htb : c.counted.tb = c.tb := by rw [Cluster.counted_form]
  have hhalted : c.counted.halted = c.halted := by rw [Cluster.counted_form]; rfl
  rw [Cluster.ticked]
  split
  · rw [Cluster.passTk_form, Cluster.passTk_tb_congr htb hhalted]
  · rw [← htb]

/-- The part of PassCycle about the clocks. -/
theorem Cluster.passClocks_fields (c : Cluster) :
    let l := c.level
    let pt := c.clk.phaseT + 8 + l
    let pm := c.clk.phaseM + 8 + l
    let d := c.passClocks
    ∃ e : Cluster, d = (if pm < 140 then e else e.passCkm)
      ∧ e.clk.free = c.clk.free + 1 ∧ e.clk.phaseT = pt % 112 ∧ e.clk.phaseM = pm % 140 ∧ e.clk.ckm = c.clk.ckm + pm / 140
      ∧ e.clk.unstretched = (if l = 0 then c.clk.unstretched + 1 else 0)
      ∧ e.tb = (if 112 ≤ pt then c.passTk.tb else c.tb) ∧ e.lcc = c.lcc ∧ e.mem = c.mem
      ∧ e.tim.dutyNext = (if (c.clk.free + 1) % 256 = 0 then c.dutyNow else c.tim.dutyNext) := by
  intro l pt pm d
  have hd : d = if pm < 140 then c.ticked else c.ticked.passCkm := by
    rw [← ite_not]
    simp only [d, pm, l, Cluster.passClocks_eq, Nat.not_lt]
  refine ⟨c.ticked, hd, ?_⟩
  rw [Cluster.ticked_form, Cluster.counted_form]
  exact ⟨rfl, rfl, rfl, rfl, rfl, rfl, rfl, rfl, rfl⟩

/-! TB. -/

/-- A tick of a slew in which TB is corrected: every 16th (R442). -/
def Tb.turns (t : Tb) : Bool := t.debt != 0 && decide (15 ≤ t.slewN)

/-- What TB advances by in a tick. -/
def Tb.stride (t : Tb) : Nat := if t.turns then (if t.debt < 0 then 2 else 0) else 1

theorem Cluster.passTk_of_stopped (h : c.tb.runs = false) : c.passTk = c := by
  simp [Cluster.passTk, h]

theorem Cluster.passTk_tb_of_running (h : c.tb.runs = true) : c.passTk.tb = { c.tb with
    value := c.tb.value + BitVec.ofNat 64 c.tb.stride
    debt := if c.tb.turns then (if c.tb.debt < 0 then c.tb.debt + 1 else c.tb.debt - 1) else c.tb.debt
    slewN := if c.tb.turns then 0 else if c.tb.debt != 0 then c.tb.slewN + 1 else 0
    dbgTk := if c.halted then c.tb.dbgTk + c.tb.stride else c.tb.dbgTk } := by
  simp only [Cluster.passTk, h, Bool.not_true, Bool.false_eq_true, if_false]
  rfl

/-- The part of PassCycle about a tick of TB. -/
theorem Cluster.passTk_fields (c : Cluster) :
    let t := c.tb
    let d := c.passTk.tb
    c.passTk = { c with tb := d } ∧ (t.runs = false → d = t)
      ∧ (t.runs = true →
        (t.debt = 0 → d.value = t.value + 1 ∧ d.debt = 0 ∧ d.slewN = 0)
        ∧ (t.debt ≠ 0 → t.slewN < 15 → d.value = t.value + 1 ∧ d.debt = t.debt ∧ d.slewN = t.slewN + 1)
        ∧ (t.debt < 0 → 15 ≤ t.slewN → d.value = t.value + 2 ∧ d.debt = t.debt + 1 ∧ d.slewN = 0)
        ∧ (0 < t.debt → 15 ≤ t.slewN → d.value = t.value ∧ d.debt = t.debt - 1 ∧ d.slewN = 0)
        ∧ (c.halted = false → d.dbgTk = t.dbgTk)
        ∧ (c.halted = true → d.value - t.value = BitVec.ofNat 64 (d.dbgTk - t.dbgTk))) := by
  intro t d
  refine ⟨Cluster.passTk_form c, fun hstopped => congrArg Cluster.tb (Cluster.passTk_of_stopped hstopped), fun hruns => ?_⟩
  have hd : d = _ := Cluster.passTk_tb_of_running hruns
  rw [hd]
  refine ⟨fun (hdebt : c.tb.debt = 0) => ?_, fun (hdebt : c.tb.debt ≠ 0) (hslew : c.tb.slewN < 15) => ?_,
    fun (hdebt : c.tb.debt < 0) (hslew : 15 ≤ c.tb.slewN) => ?_, fun (hdebt : 0 < c.tb.debt) (hslew : 15 ≤ c.tb.slewN) => ?_,
    fun hhalted => ?_, fun hhalted => ?_⟩
  · have hturns : c.tb.turns = false := by simp [Tb.turns, hdebt]
    simp [t, Tb.stride, hturns, hdebt]
  · have hturns : c.tb.turns = false := by simp [Tb.turns, hslew]
    simp [t, Tb.stride, hturns, hdebt]
  · have hturns : c.tb.turns = true := by simp [Tb.turns, hslew, hdebt.ne]
    simp [t, Tb.stride, hturns, hdebt]
  · have hturns : c.tb.turns = true := by simp [Tb.turns, hslew, hdebt.ne']
    simp [t, Tb.stride, hturns, hdebt.not_gt]
  · simp only [hhalted, Bool.false_eq_true, if_false]; rfl
  · simp only [hhalted, if_true, t, Nat.add_sub_cancel_left, add_sub_cancel_left]

theorem Cluster.passHalt_haltSeen (c : Cluster) : c.passHalt.tim.haltSeen = c.tim.haltReq := by
  unfold Cluster.passHalt
  dsimp only
  split
  · rw [Cluster.haltOver_form]
  · rfl

end Sys2Proof.Machine

open Sys2Proof Sys2Proof.Machine

/-- Settles O58, part by part in the order in which a cycle does them. -/
theorem passCycle : Obligations.PassCycle := by
  refine ⟨fun _ => rfl, Cluster.heldNow_iff, fun _ => Cluster.passStatic_held,
    fun c hheld hrunning => ⟨fun h => ?_, fun h => ?_⟩, fun _ => Cluster.passStatic_of_idle,
    fun _ _ => Cluster.passStatic_held_hold, fun c hc => ⟨fun h => if_pos h, Cluster.countStretch_regs hc⟩,
    Cluster.level_eq, Cluster.passClocks_fields, Cluster.passTk_fields, Cluster.passHalt_haltSeen⟩
  · rw [Cluster.passStatic_of_executed hheld hrunning, if_pos h]
  · rw [Cluster.passStatic_of_executed hheld hrunning, if_neg (Bool.eq_false_iff.mp h)]

end

section
/-! Exact values as rationals, and the one rounding of them (R73, R76, R77): the multiple of a power of two is the floor,
or one more. Conversions to integers and to float formats share it. -/

namespace Sys2Proof.Machine

/-- The exact magnitude m * 2^e. -/
def dyadic (m : Nat) (e : Int) : ℚ := m * (2 : ℚ) ^ e

/-- The exact value (-1)^neg * m * 2^e. -/
def signed (neg : Bool) (m : Nat) (e : Int) : ℚ := (if neg then -1 else 1) * dyadic m e

@[simp] theorem dyadic_zero_right (m : Nat) : dyadic m 0 = m := by simp [dyadic]

theorem dyadic_nonneg (m : Nat) (e : Int) : 0 ≤ dyadic m e := by unfold dyadic; positivity

theorem dyadic_add (m : Nat) (e k : Int) : dyadic m (e + k) = dyadic m e * (2 : ℚ) ^ k := by
  rw [dyadic, dyadic, zpow_add₀ two_ne_zero, mul_assoc]

theorem dyadic_sub (m : Nat) (e k : Int) : dyadic m (e - k) = dyadic m e / (2 : ℚ) ^ k := by
  rw [dyadic, dyadic, zpow_sub₀ two_ne_zero, mul_div_assoc]

theorem dyadic_mul_pow (m k : Nat) (e : Int) : dyadic (m * 2 ^ k) e = dyadic m (e + k) := by
  simp only [dyadic, zpow_add₀ (two_ne_zero' ℚ), zpow_natCast, Nat.cast_mul, Nat.cast_pow, Nat.cast_ofNat]
  ring

theorem dyadic_neg_natCast (m k : Nat) : dyadic m (-(k : Int)) = (m : ℚ) / ((2 ^ k : Nat) : ℚ) := by
  simp [dyadic, div_eq_mul_inv]

theorem dyadic_lt_dyadic_iff {m n : Nat} (e : Int) : dyadic m e < dyadic n e ↔ m < n := by
  simp only [dyadic, mul_lt_mul_iff_left₀ (show (0 : ℚ) < 2 ^ e by positivity), Nat.cast_lt]

/-- A magnitude written with the smaller exponent q. -/
theorem dyadic_align (m : Nat) {q e : Int} (h : q ≤ e) : dyadic (m * 2 ^ (e - q).toNat) q = dyadic m e := by
  rw [dyadic_mul_pow, Int.toNat_of_nonneg (sub_nonneg.mpr h), add_sub_cancel]

/-- A magnitude lies within the power of two of its leading bit and the next. -/
theorem le_dyadic_of_le_log2 {m : Nat} (hm : m ≠ 0) {e : Int} {k : Nat} (h : k ≤ e + Nat.log2 m) : (2 : ℚ) ^ k ≤ dyadic m e :=
  calc (2 : ℚ) ^ k = (2 : ℚ) ^ (k : Int) := (zpow_natCast 2 k).symm
    _ ≤ (2 : ℚ) ^ ((Nat.log2 m : Int) + e) := zpow_le_zpow_right₀ one_le_two (by omega)
    _ = ((2 ^ Nat.log2 m : Nat) : ℚ) * (2 : ℚ) ^ e := by
      rw [zpow_add₀ two_ne_zero, zpow_natCast, Nat.cast_pow, Nat.cast_ofNat]
    _ ≤ dyadic m e := by
      rw [dyadic]
      exact mul_le_mul_of_nonneg_right (Nat.cast_le.mpr (Nat.log2_self_le hm)) (by positivity)

theorem dyadic_lt_of_log2_lt {m : Nat} {e : Int} {k : Nat} (h : e + Nat.log2 m < k) : dyadic m e < (2 : ℚ) ^ k :=
  calc dyadic m e < ((2 ^ (Nat.log2 m + 1) : Nat) : ℚ) * (2 : ℚ) ^ e := by
        rw [dyadic]
        exact mul_lt_mul_of_pos_right (Nat.cast_lt.mpr Nat.lt_log2_self) (by positivity)
    _ = (2 : ℚ) ^ ((Nat.log2 m + 1 : Nat) + e : Int) := by
      rw [zpow_add₀ two_ne_zero, zpow_natCast, Nat.cast_pow, Nat.cast_ofNat]
    _ ≤ (2 : ℚ) ^ (k : Int) := zpow_le_zpow_right₀ one_le_two (by omega)
    _ = (2 : ℚ) ^ k := zpow_natCast 2 k

/-- Does the rounding of R76 and R77 go up from the floor of x? -/
def Rnd.up (r : Rnd) (x : ℚ) : Prop :=
  let h := ⌊x⌋₊
  let d := x - h
  match r with
  | .rne => d > 1 / 2 ∨ (d = 1 / 2 ∧ h % 2 = 1)
  | .tz => False
  | .sr u => 65536 ≤ ⌊d * 65536⌋₊ + u

/-- h is x rounded to an integer. -/
def Rnd.Rounds (r : Rnd) (x : ℚ) (h : Nat) : Prop := (r.up x → h = ⌊x⌋₊ + 1) ∧ (¬ r.up x → h = ⌊x⌋₊)

/-- The rounding up that the model reads from the sh low bits of m, which are cut off. -/
def Rnd.carry (r : Rnd) (m sh : Nat) : Bool :=
  match r with
  | .rne => decide (2 ^ (sh - 1) < m % 2 ^ sh) || (decide (m % 2 ^ sh = 2 ^ (sh - 1)) && (m >>> sh) % 2 == 1)
  | .tz => false
  | .sr u => decide (65536 ≤ m % 2 ^ sh * 65536 / 2 ^ sh + u)

/-- m * 2^d, rounded to an integer. -/
def Rnd.int (r : Rnd) (m : Nat) (d : Int) : Nat :=
  if 0 ≤ d then m * 2 ^ d.toNat
  else if r.carry m (-d).toNat then m >>> (-d).toNat + 1 else m >>> (-d).toNat

theorem Rnd.int_of_nonneg (r : Rnd) (m : Nat) {d : Int} (h : 0 ≤ d) : r.int m d = m * 2 ^ d.toNat := if_pos h

theorem Rnd.int_of_neg (r : Rnd) (m : Nat) {d : Int} (h : d < 0) :
    r.int m d = if r.carry m (-d).toNat then m >>> (-d).toNat + 1 else m >>> (-d).toNat := if_neg (not_le.mpr h)

theorem Rnd.Rounds.bounds {r : Rnd} {x : ℚ} {h : Nat} (hr : r.Rounds x h) : ⌊x⌋₊ ≤ h ∧ h ≤ ⌊x⌋₊ + 1 := by
  by_cases hup : r.up x
  · have := hr.1 hup; omega
  · have := hr.2 hup; omega

/-- An integer is never changed (R77). -/
theorem Rnd.not_up_natCast {r : Rnd} (hr : ∀ u, r = .sr u → u < 65536) (n : Nat) : ¬ r.up n := by
  cases r with
  | rne => simp [Rnd.up]
  | tz => exact id
  | sr u =>
    have := hr u rfl
    simpa [Rnd.up] using this

theorem fract_div_two_pow (m sh : Nat) :
    (m : ℚ) / ((2 ^ sh : Nat) : ℚ) - ((m / 2 ^ sh : Nat) : ℚ) = ((m % 2 ^ sh : Nat) : ℚ) / ((2 ^ sh : Nat) : ℚ) := by
  have hsplit : ((m % 2 ^ sh : Nat) : ℚ) + ((2 ^ sh : Nat) : ℚ) * ((m / 2 ^ sh : Nat) : ℚ) = m := by
    exact_mod_cast Nat.mod_add_div m (2 ^ sh)
  have hne : ((2 ^ sh : Nat) : ℚ) ≠ 0 := by positivity
  rw [sub_eq_iff_eq_add, div_add' _ _ _ hne, mul_comm _ ((2 ^ sh : Nat) : ℚ), hsplit]

/-- The bits cut off say whether the rational rule rounds up. -/
theorem Rnd.carry_iff (r : Rnd) (m : Nat) {sh : Nat} (hsh : 0 < sh) :
    r.carry m sh = true ↔ r.up ((m : ℚ) / ((2 ^ sh : Nat) : ℚ)) := by
  have hpow : 2 ^ sh = 2 * 2 ^ (sh - 1) := by rw [← pow_succ', Nat.sub_add_cancel hsh]
  have hpos : (0 : ℚ) < ((2 ^ sh : Nat) : ℚ) := by positivity
  have hhalf : (1 / 2 : ℚ) = ((2 ^ (sh - 1) : Nat) : ℚ) / ((2 ^ sh : Nat) : ℚ) := by
    rw [hpow]; push_cast; field_simp
  cases r with
  | rne =>
    simp only [Rnd.carry, Rnd.up, Nat.floor_div_eq_div, fract_div_two_pow, hhalf, gt_iff_lt, div_lt_div_iff_of_pos_right hpos,
      div_left_inj' hpos.ne', Nat.cast_lt, Nat.cast_inj, Nat.shiftRight_eq_div_pow, Bool.or_eq_true, Bool.and_eq_true,
      decide_eq_true_eq, beq_iff_eq]
  | tz => simp [Rnd.carry, Rnd.up]
  | sr u =>
    have hcast : ((m % 2 ^ sh : Nat) : ℚ) / ((2 ^ sh : Nat) : ℚ) * 65536
        = ((m % 2 ^ sh * 65536 : Nat) : ℚ) / ((2 ^ sh : Nat) : ℚ) := by push_cast; ring
    simp only [Rnd.carry, Rnd.up, Nat.floor_div_eq_div, fract_div_two_pow, hcast, decide_eq_true_eq]

/-- The model's integer is the rounding of the exact magnitude. -/
theorem Rnd.int_rounds {r : Rnd} (hr : ∀ u, r = .sr u → u < 65536) (m : Nat) (d : Int) : r.Rounds (dyadic m d) (r.int m d) := by
  rcases le_or_gt 0 d with hd | hd
  · have hx : dyadic m d = ((m * 2 ^ d.toNat : Nat) : ℚ) := by
      rw [← dyadic_align m hd, sub_zero, dyadic_zero_right]
    rw [r.int_of_nonneg m hd, hx]
    exact ⟨fun h => absurd h (Rnd.not_up_natCast hr _), fun _ => (Nat.floor_natCast _).symm⟩
  · obtain ⟨sh, rfl⟩ : ∃ sh : Nat, d = -(sh : Int) := ⟨(-d).toNat, by omega⟩
    have hsh : 0 < sh := by omega
    rw [r.int_of_neg m hd, neg_neg, Int.toNat_natCast, dyadic_neg_natCast, Rnd.Rounds, ← r.carry_iff m hsh,
      Nat.floor_div_eq_div, Nat.shiftRight_eq_div_pow]
    exact ⟨fun h => if_pos h, fun h => if_neg h⟩

/-- Rounding to p significant bits with no unit below 2^qmin is rounding to an integer in units of 2^q. -/
theorem roundMag_eq (p : Nat) (qmin : Int) (r : Rnd) {m : Nat} (hm : m ≠ 0) (e : Int) :
    let q := max qmin (e + Nat.log2 m - (p : Int))
    roundMag (p + 1) qmin r m e false = (r.int m (e - q), q) := by
  intro q
  have hq : max qmin (e + (Nat.log2 m : Int) - (((p + 1 : Nat) : Int) - 1)) = q := by simp only [q]; congr 1; push_cast; ring
  unfold roundMag
  rw [if_neg hm]
  simp only [hq]
  by_cases h : q ≤ e
  · rw [if_pos h, r.int_of_nonneg m (sub_nonneg.mpr h)]
  · rw [if_neg h, r.int_of_neg m (sub_neg.mpr (not_le.mp h)), neg_sub]
    cases r <;> rfl

/-- Conversion to an integer: one rounding, then saturation (R80). -/
theorem toIntSat_fin (n : Nat) (r : Rnd) (neg : Bool) (m : Nat) (e : Int) :
    toIntSat n r (.fin neg m e)
      = max (-(2 ^ (n - 1))) (min (2 ^ (n - 1) - 1) (if neg then -(r.int m e : Int) else r.int m e)) := by
  have hsat : ∀ i : Int, (if i < -(2 ^ (n - 1)) then -(2 ^ (n - 1)) else if 2 ^ (n - 1) - 1 < i then 2 ^ (n - 1) - 1 else i)
      = max (-(2 ^ (n - 1))) (min (2 ^ (n - 1) - 1) i) := fun i => by
    have hpos : (0 : Int) < 2 ^ (n - 1) := by positivity
    generalize (2 : Int) ^ (n - 1) = b at hpos ⊢
    split_ifs <;> omega
  rw [← hsat]
  cases r <;> rfl

end Sys2Proof.Machine
end

section
/-! The float formats of R63: what a code decodes to, in the order of the codes, and what a value is written as. -/

namespace Sys2Proof.Machine

/-- The float formats of R62, in the order of their codes. -/
def floatFmts : List FloatFmt := [fmtF32, fmtBF16, fmtF16, fmtE4M3, fmtE5M2, fmtE3M2, fmtE2M1]

namespace FloatFmt

variable (f : FloatFmt)

/-- The multiple of its unit that a code without sign stands for. -/
def sig (c : Nat) : Nat := if c < 2 ^ f.mb then c else c % 2 ^ f.mb + 2 ^ f.mb

/-- How far its unit lies above the unit of the subnormals. -/
def rise (c : Nat) : Nat := c / 2 ^ f.mb - 1

/-- The value of a code without sign. -/
def value (c : Nat) : ℚ := dyadic (f.sig c) (f.rise c + f.qmin)

/-- The codes without sign that are no finite value: infinities and NaNs. -/
def special (c : Nat) : Bool :=
  f.ieee && c / 2 ^ f.mb == 2 ^ f.eb - 1 || f.e4m3 && c / 2 ^ f.mb == 15 && c % 2 ^ f.mb == 7

/-! A code and its value. -/

theorem sig_lt (c : Nat) : f.sig c < 2 ^ (f.mb + 1) := by
  have hmod := Nat.mod_lt c (Nat.two_pow_pos f.mb)
  rw [pow_succ, sig]
  split <;> omega

section
variable {f} {c : Nat} (h : c < 2 ^ f.mb)
include h

theorem sig_of_lt : f.sig c = c := if_pos h

theorem rise_of_lt : f.rise c = 0 := by rw [rise, Nat.div_eq_of_lt h]

end

/-- The codes from the smallest normal value on: an exponent above 0 and a fraction. -/
theorem exists_normal {c : Nat} (h : 2 ^ f.mb ≤ c) : ∃ k, ∃ m < 2 ^ f.mb, c = (k + 1) * 2 ^ f.mb + m := by
  obtain ⟨k, hk⟩ := Nat.exists_eq_succ_of_ne_zero (Nat.div_pos h (Nat.two_pow_pos f.mb)).ne'
  exact ⟨k, c % 2 ^ f.mb, Nat.mod_lt c (Nat.two_pow_pos f.mb), by rw [← Nat.succ_eq_add_one, ← hk, Nat.div_add_mod']⟩

section
variable {f} (k : Nat) {m : Nat} (hm : m < 2 ^ f.mb)
include hm

theorem sig_normal : f.sig ((k + 1) * 2 ^ f.mb + m) = m + 2 ^ f.mb := by
  have hge : ¬ (k + 1) * 2 ^ f.mb + m < 2 ^ f.mb := by rw [add_mul]; omega
  rw [sig, if_neg hge, Nat.mul_add_mod_self_right, Nat.mod_eq_of_lt hm]

theorem rise_normal : f.rise ((k + 1) * 2 ^ f.mb + m) = k := by
  rw [rise, mul_comm, Nat.mul_add_div (Nat.two_pow_pos f.mb), Nat.div_eq_of_lt hm, add_zero, Nat.add_sub_cancel]

theorem value_normal : f.value ((k + 1) * 2 ^ f.mb + m) = dyadic (m + 2 ^ f.mb) (k + f.qmin) := by
  rw [value, sig_normal k hm, rise_normal k hm]

end

theorem rise_eq_zero {c : Nat} (h : f.sig c < 2 ^ f.mb) : f.rise c = 0 := by
  rcases lt_or_ge c (2 ^ f.mb) with hc | hc
  · exact rise_of_lt hc
  · obtain ⟨k, m, hm, rfl⟩ := f.exists_normal hc
    rw [sig_normal k hm] at h
    omega

theorem rise_mul_add_sig (c : Nat) : f.rise c * 2 ^ f.mb + f.sig c = c := by
  rcases lt_or_ge c (2 ^ f.mb) with hc | hc
  · rw [rise_of_lt hc, sig_of_lt hc, zero_mul, zero_add]
  · obtain ⟨k, m, hm, rfl⟩ := f.exists_normal hc
    rw [rise_normal k hm, sig_normal k hm]
    ring

/-- A carry out of the mantissa raises the exponent: the sum of both parts is the code all the same. -/
theorem value_mul_add {h k : Nat} (hh : h ≤ 2 ^ (f.mb + 1)) (hk : h < 2 ^ f.mb → k = 0) :
    f.value (k * 2 ^ f.mb + h) = dyadic h (k + f.qmin) := by
  rcases lt_or_ge h (2 ^ f.mb) with hsub | hnormal
  · rw [hk hsub, zero_mul, zero_add, value, sig_of_lt hsub, rise_of_lt hsub]
  obtain ⟨m, rfl⟩ := Nat.exists_eq_add_of_le' hnormal
  rcases hh.lt_or_eq with hlt | hcarry
  · rw [← f.value_normal k (by rw [pow_succ] at hlt; omega)]
    congr 1
    ring
  · have hm : m = 2 ^ f.mb := by rw [pow_succ] at hcarry; omega
    have hcode : k * 2 ^ f.mb + 2 ^ (f.mb + 1) = (k + 1 + 1) * 2 ^ f.mb + 0 := by ring
    have hdouble : dyadic (2 ^ (f.mb + 1)) (k + f.qmin) = dyadic (2 ^ f.mb) (k + f.qmin + 1) :=
      dyadic_mul_pow (2 ^ f.mb) 1 _
    rw [hcarry, hcode, f.value_normal (k + 1) (Nat.two_pow_pos f.mb), hdouble, zero_add, Nat.cast_succ, add_right_comm]

/-- A greater code is a greater value. -/
theorem value_strictMono : StrictMono f.value := by
  refine strictMono_nat_of_lt_succ fun c => ?_
  have hnext : c + 1 = f.rise c * 2 ^ f.mb + (f.sig c + 1) := by rw [← add_assoc, f.rise_mul_add_sig]
  rw [hnext, f.value_mul_add (f.sig_lt c) (fun h => f.rise_eq_zero (Nat.lt_of_succ_lt h)), value, dyadic_lt_dyadic_iff]
  exact Nat.lt_succ_self _

/-! Decoding. -/

section
variable {f} (neg : Bool) {c : Nat} (hc : c < 2 ^ (f.mb + f.eb))
include hc

theorem sign_sgn_add : ((f.sgn neg + c) >>> (f.mb + f.eb) % 2 == 1) = neg := by
  have hpos := Nat.two_pow_pos (f.mb + f.eb)
  cases neg with
  | false => simp [sgn, Nat.shiftRight_eq_div_pow, Nat.div_eq_of_lt hc]
  | true => simp [sgn, Nat.shiftRight_eq_div_pow, Nat.add_div_left _ hpos, Nat.div_eq_of_lt hc]

theorem exponent_sgn_add : (f.sgn neg + c) >>> f.mb % 2 ^ f.eb = c / 2 ^ f.mb := by
  have hlt : c / 2 ^ f.mb < 2 ^ f.eb := Nat.div_lt_of_lt_mul (by rwa [← pow_add])
  cases neg with
  | false => simp [sgn, Nat.shiftRight_eq_div_pow, Nat.mod_eq_of_lt hlt]
  | true =>
    rw [sgn, if_pos rfl, Nat.shiftRight_eq_div_pow, pow_add, Nat.mul_add_div (Nat.two_pow_pos f.mb),
      Nat.add_mod_left, Nat.mod_eq_of_lt hlt]

omit hc in
theorem mantissa_sgn_add : (f.sgn neg + c) % 2 ^ f.mb = c % 2 ^ f.mb := by
  cases neg with
  | false => simp [sgn]
  | true => rw [sgn, if_pos rfl, pow_add, Nat.mul_add_mod]

theorem dec_sgn_add : f.dec (f.sgn neg + c)
    = if f.ieee && c / 2 ^ f.mb == 2 ^ f.eb - 1 then (if c % 2 ^ f.mb == 0 then .inf neg else .nan)
      else if f.e4m3 && c / 2 ^ f.mb == 15 && c % 2 ^ f.mb == 7 then .nan
      else .fin neg (f.sig c) (f.rise c + f.qmin) := by
  have hfin : (if c / 2 ^ f.mb == 0 then FV.fin neg (c % 2 ^ f.mb) f.qmin
      else .fin neg (c % 2 ^ f.mb + 2 ^ f.mb) (((c / 2 ^ f.mb : Nat) : Int) - 1 + f.qmin))
        = .fin neg (f.sig c) (f.rise c + f.qmin) := by
    by_cases hsub : c < 2 ^ f.mb
    · simp [sig_of_lt hsub, rise_of_lt hsub, Nat.div_eq_of_lt hsub, Nat.mod_eq_of_lt hsub]
    · have hexp : 0 < c / 2 ^ f.mb := Nat.div_pos (not_lt.mp hsub) (Nat.two_pow_pos f.mb)
      simp [sig, rise, hsub, hexp.ne', Nat.cast_sub hexp]
  rw [← hfin, dec]
  simp only [sign_sgn_add neg hc, exponent_sgn_add neg hc, mantissa_sgn_add neg]

theorem dec_of_not_special (hs : f.special c = false) :
    f.dec (f.sgn neg + c) = .fin neg (f.sig c) (f.rise c + f.qmin) := by
  obtain ⟨hieee, he4m3⟩ := Bool.or_eq_false_iff.mp hs
  rw [dec_sgn_add neg hc, if_neg (by rw [hieee]; decide), if_neg (by rw [he4m3]; decide)]

theorem dec_of_special (hs : f.special c = true) :
    f.dec (f.sgn neg + c) = .nan
      ∨ f.ieee = true ∧ c = (2 ^ f.eb - 1) * 2 ^ f.mb ∧ f.dec (f.sgn neg + c) = .inf neg := by
  rw [dec_sgn_add neg hc]
  by_cases hieee : (f.ieee && c / 2 ^ f.mb == 2 ^ f.eb - 1) = true
  · rw [if_pos hieee]
    obtain ⟨hi, he⟩ : f.ieee = true ∧ c / 2 ^ f.mb = 2 ^ f.eb - 1 := by simpa using hieee
    by_cases hm : c % 2 ^ f.mb = 0
    · have hsplit := Nat.div_add_mod' c (2 ^ f.mb)
      rw [he, hm, add_zero] at hsplit
      exact .inr ⟨hi, hsplit.symm, by simp [hm]⟩
    · exact .inl (by simp [hm])
  · have he4m3 := (Bool.or_eq_true_iff.mp hs).resolve_left hieee
    rw [if_neg hieee, if_pos he4m3]
    exact .inl rfl

end

/-- Every bit pattern is a sign and a code. -/
theorem exists_sgn_add {x : Nat} (hx : x < 2 ^ (1 + f.eb + f.mb)) : ∃ neg, ∃ c < 2 ^ (f.mb + f.eb), x = f.sgn neg + c := by
  rw [show 1 + f.eb + f.mb = (f.mb + f.eb) + 1 by omega, pow_succ] at hx
  rcases lt_or_ge x (2 ^ (f.mb + f.eb)) with h | h
  · exact ⟨false, x, h, by simp [sgn]⟩
  · exact ⟨true, x - 2 ^ (f.mb + f.eb), by omega, by simp [sgn]; omega⟩

/-! Rounding to a format. -/

/-- The exponent of the last place of a value, no smaller than the subnormals'. -/
def lastPlace (m : Nat) (e : Int) : Int := max f.qmin (e + Nat.log2 m - f.mb)

theorem encMag_of_rise {h k : Nat} (hk : h < 2 ^ f.mb → k = 0) : f.encMag (h, k + f.qmin) = k * 2 ^ f.mb + h := by
  rcases lt_or_ge h (2 ^ f.mb) with hsub | hnormal
  · simp [encMag, hsub, hk hsub]
  · have htop : ((k : Int) + f.qmin - f.qmin + 1).toNat = k + 1 := by omega
    rw [encMag, if_neg (not_lt.mpr hnormal)]
    simp only [htop, add_mul]
    omega

/-- The rounded multiple carries at most once, and is subnormal only in the subnormals' unit. -/
theorem rounds_bounds {r : Rnd} {m : Nat} (hm : m ≠ 0) {e : Int} {h : Nat}
    (hr : r.Rounds (dyadic m (e - f.lastPlace m e)) h) :
    h ≤ 2 ^ (f.mb + 1) ∧ (h < 2 ^ f.mb → f.lastPlace m e = f.qmin) := by
  obtain ⟨hlow, hhigh⟩ := hr.bounds
  have hplace : f.lastPlace m e = max f.qmin (e + Nat.log2 m - f.mb) := rfl
  constructor
  · have hx : dyadic m (e - f.lastPlace m e) < ((2 ^ (f.mb + 1) : Nat) : ℚ) := by
      rw [Nat.cast_pow]
      exact dyadic_lt_of_log2_lt (by push_cast; omega)
    have := (Nat.floor_lt (dyadic_nonneg m _)).mpr hx
    omega
  · intro hsub
    by_contra hne
    have hx : ((2 ^ f.mb : Nat) : ℚ) ≤ dyadic m (e - f.lastPlace m e) := by
      rw [Nat.cast_pow]
      exact le_dyadic_of_le_log2 hm (by omega)
    have := Nat.le_floor hx
    omega

/-- The code of the rounded magnitude has its value. -/
theorem encMag_roundMag {r : Rnd} (hr : ∀ u, r = .sr u → u < 65536) {m : Nat} (hm : m ≠ 0) (e : Int) :
    let q := f.lastPlace m e
    f.value (f.encMag (roundMag (f.mb + 1) f.qmin r m e false)) = dyadic (r.int m (e - q)) q := by
  intro q
  obtain ⟨hle, hsub⟩ := f.rounds_bounds hm (Rnd.int_rounds hr m (e - q))
  obtain ⟨k, hk⟩ : ∃ k : Nat, q = k + f.qmin := ⟨(q - f.qmin).toNat, by simp only [q, lastPlace]; omega⟩
  have hrise : r.int m (e - q) < 2 ^ f.mb → k = 0 := fun h => by
    have := hsub h
    omega
  have hround : roundMag (f.mb + 1) f.qmin r m e false = (r.int m (e - q), q) := roundMag_eq f.mb f.qmin r hm e
  rw [hround]
  generalize r.int m (e - q) = h at hle hrise
  rw [hk, f.encMag_of_rise hrise, f.value_mul_add hle hrise]

/-- What a code stands for is in the format already: rounding keeps it, in every mode. -/
theorem encMag_roundMag_code (r : Rnd) (c : Nat) :
    f.encMag (roundMag (f.mb + 1) f.qmin r (f.sig c) (f.rise c + f.qmin) false) = c := by
  have hrise : f.sig c < 2 ^ f.mb → f.rise c = 0 := f.rise_eq_zero
  suffices hround : roundMag (f.mb + 1) f.qmin r (f.sig c) (f.rise c + f.qmin) false = (f.sig c, f.rise c + f.qmin) by
    rw [hround, f.encMag_of_rise hrise, f.rise_mul_add_sig]
  by_cases hz : f.sig c = 0
  · have hk : f.rise c = 0 := hrise (by rw [hz]; exact Nat.two_pow_pos f.mb)
    simp [roundMag, hz, hk]
  · have hlog : Nat.log2 (f.sig c) < f.mb + 1 := (Nat.log2_lt hz).mpr (f.sig_lt c)
    have hnormal : f.rise c ≠ 0 → f.mb ≤ Nat.log2 (f.sig c) := fun hne =>
      (Nat.le_log2 hz).mpr (not_lt.mp fun h => hne (hrise h))
    have hplace : max f.qmin ((f.rise c : Int) + f.qmin + Nat.log2 (f.sig c) - f.mb) = f.rise c + f.qmin := by omega
    rw [roundMag_eq f.mb f.qmin r hz, hplace, sub_self, r.int_of_nonneg _ le_rfl]
    simp

/-! Writing. -/

theorem enc_fin_of_le {r : Rnd} {neg : Bool} {m : Nat} {e : Int}
    (h : f.encMag (roundMag (f.mb + 1) f.qmin r m e false) ≤ f.maxCode) :
    f.enc r (.fin neg m e) = f.sgn neg + f.encMag (roundMag (f.mb + 1) f.qmin r m e false) := if_pos h

/-- A zero keeps its sign. -/
theorem enc_zero (r : Rnd) (neg : Bool) (e : Int) : f.enc r (.fin neg 0 e) = f.sgn neg := by
  have hcode : f.encMag (roundMag (f.mb + 1) f.qmin r 0 e false) = 0 := by simp [roundMag, encMag]
  rw [f.enc_fin_of_le (by rw [hcode]; exact Nat.zero_le _), hcode, add_zero]

end FloatFmt

/-- An infinity is written as one in the formats that have one, and reads back (R63, R80). -/
theorem FloatFmt.enc_inf (r : Rnd) (neg : Bool) : ∀ f ∈ [fmtF32, fmtBF16, fmtF16, fmtE5M2],
    f.enc r (.inf neg) = f.sgn neg + (2 ^ f.eb - 1) * 2 ^ f.mb ∧ f.dec (f.enc r (.inf neg)) = .inf neg := by
  have hcodes : ∀ f ∈ [fmtF32, fmtBF16, fmtF16, fmtE5M2],
      f.ieee = true ∧ f.dec (f.sgn neg + (2 ^ f.eb - 1) * 2 ^ f.mb) = .inf neg := by
    revert neg
    decide
  intro f hf
  obtain ⟨hieee, hdec⟩ := hcodes f hf
  have henc : f.enc r (.inf neg) = f.sgn neg + (2 ^ f.eb - 1) * 2 ^ f.mb := if_pos hieee
  exact ⟨henc, henc ▸ hdec⟩

/-- The eight magnitudes of E2M1 (R63). -/
theorem fmtE2M1_magnitude (i : Fin 8) : ∃ m e, fmtE2M1.dec i.val = .fin false m e
    ∧ dyadic m e = ([0, 1 / 2, 1, 3 / 2, 2, 3, 4, 6] : List ℚ).getD i.val 0 := by
  fin_cases i <;> exact ⟨_, _, rfl, by norm_num [dyadic, fmtE2M1, FloatFmt.qmin, Nat.shiftRight_eq_div_pow]⟩

variable {f : FloatFmt} (hf : f ∈ floatFmts)
include hf

/-- The formats whose overflow is an infinity (R80), as the model tells them. -/
theorem FloatFmt.overflow_eq :
    (f.ieee && f.eb != 5 || f.ieee && f.mb == 10) = decide (f ∈ [fmtF32, fmtBF16, fmtF16]) := by
  revert f
  decide

/-- Beyond the largest finite value, FP32, BF16 and FP16 write an infinity, unless toward zero; all else saturates (R70, R80). -/
theorem FloatFmt.enc_fin_of_gt {r : Rnd} {neg : Bool} {m : Nat} {e : Int}
    (h : f.maxCode < f.encMag (roundMag (f.mb + 1) f.qmin r m e false)) :
    f.enc r (.fin neg m e) = f.sgn neg
      + (if r ≠ .tz ∧ f ∈ [fmtF32, fmtBF16, fmtF16] then (2 ^ f.eb - 1) * 2 ^ f.mb else f.maxCode) := by
  refine (if_neg (not_le.mpr h)).trans ?_
  rw [FloatFmt.overflow_eq hf]
  by_cases hinf : f ∈ [fmtF32, fmtBF16, fmtF16] <;> cases r <;> simp [hinf]

theorem FloatFmt.maxCode_lt : f.maxCode < 2 ^ (f.mb + f.eb) := by
  revert f
  decide

/-- The finite values are the codes up to the largest finite one (R63). -/
theorem FloatFmt.le_maxCode_iff {c : Nat} (hc : c < 2 ^ (f.mb + f.eb)) : c ≤ f.maxCode ↔ f.special c = false := by
  simp only [floatFmts, List.mem_cons, List.not_mem_nil, or_false] at hf
  rcases hf with rfl | rfl | rfl | rfl | rfl | rfl | rfl
  all_goals
    simp [FloatFmt.special, FloatFmt.maxCode, fmtF32, fmtBF16, fmtF16, fmtE4M3, fmtE5M2, fmtE3M2, fmtE2M1] at hc ⊢
    omega

theorem FloatFmt.dec_of_le_maxCode (neg : Bool) {c : Nat} (hc : c ≤ f.maxCode) :
    f.dec (f.sgn neg + c) = .fin neg (f.sig c) (f.rise c + f.qmin) :=
  have hlt := hc.trans_lt (FloatFmt.maxCode_lt hf)
  FloatFmt.dec_of_not_special neg hlt ((FloatFmt.le_maxCode_iff hf hlt).mp hc)

/-- Writing what a code decodes to gives the code again, or the canonical NaN (R64). -/
theorem FloatFmt.enc_dec {x : Nat} (r : Rnd) (hx : x < 2 ^ (1 + f.eb + f.mb)) :
    f.enc r (f.dec x) = if f.dec x = .nan then f.qnan else x := by
  obtain ⟨neg, c, hc, rfl⟩ := f.exists_sgn_add hx
  cases hs : f.special c with
  | false =>
    have hcode := f.encMag_roundMag_code r c
    rw [FloatFmt.dec_of_not_special neg hc hs, if_neg (by simp),
      f.enc_fin_of_le (by rw [hcode]; exact (FloatFmt.le_maxCode_iff hf hc).mpr hs), hcode]
  | true =>
    rcases FloatFmt.dec_of_special neg hc hs with hnan | ⟨hieee, rfl, hinf⟩
    · rw [hnan, if_pos rfl, FloatFmt.enc]
    · rw [hinf, if_neg (by simp), FloatFmt.enc, if_pos hieee]

/-- A finite value is rounded once, and then written or taken as an overflow (R70, R76, R77, R80). -/
theorem FloatFmt.enc_fin {r : Rnd} (neg : Bool) {m : Nat} (e : Int) (hm : m ≠ 0) (hr : ∀ u, r = .sr u → u < 65536) :
    let q := f.lastPlace m e
    ∃ (h mm : Nat) (em : Int), r.Rounds (dyadic m e / (2 : ℚ) ^ q) h ∧ f.dec f.maxCode = .fin false mm em
      ∧ (dyadic h q ≤ dyadic mm em → ∃ m2 e2, f.dec (f.enc r (.fin neg m e)) = .fin neg m2 e2 ∧ dyadic m2 e2 = dyadic h q)
      ∧ (dyadic mm em < dyadic h q → f.enc r (.fin neg m e) = f.sgn neg
          + (if r ≠ .tz ∧ f ∈ [fmtF32, fmtBF16, fmtF16] then (2 ^ f.eb - 1) * 2 ^ f.mb else f.maxCode)) := by
  intro q
  have hvalue := f.encMag_roundMag hr hm e
  have hmax : f.dec f.maxCode = .fin false (f.sig f.maxCode) (f.rise f.maxCode + f.qmin) := by
    simpa [FloatFmt.sgn] using FloatFmt.dec_of_le_maxCode hf false le_rfl
  refine ⟨r.int m (e - q), _, _, ?_, hmax, fun hle => ?_, fun hlt => ?_⟩
  · rw [← dyadic_sub]
    exact Rnd.int_rounds hr m (e - q)
  · rw [← hvalue] at hle
    have hcode := f.value_strictMono.le_iff_le.mp hle
    rw [f.enc_fin_of_le hcode]
    exact ⟨_, _, FloatFmt.dec_of_le_maxCode hf neg hcode, hvalue⟩
  · rw [← hvalue] at hlt
    exact FloatFmt.enc_fin_of_gt hf (f.value_strictMono.lt_iff_lt.mp hlt)

end Sys2Proof.Machine
end

section
/-! Integer formats, MX blocks, exact sums and products, and packed elements (R66, R67, R69, R73, R80). -/

namespace Sys2Proof.Machine

/-! INT32 to a narrower integer format. -/

/-- An n-bit two's complement code reads back as the number it was made from. -/
theorem sextN_emod {n : Nat} (hn : 0 < n) {i : Int} (hlo : -(2 ^ (n - 1)) ≤ i) (hhi : i < 2 ^ (n - 1)) :
    sextN n ((i % 2 ^ n).toNat % 2 ^ n) = i := by
  have hpow : (2 : Int) ^ n = 2 * 2 ^ (n - 1) := by rw [← pow_succ', Nat.sub_add_cancel hn]
  have hcode : (((i % 2 ^ n).toNat % 2 ^ n : Nat) : Int) = i % 2 ^ n := by
    rw [Int.natCast_emod, Int.toNat_of_nonneg (Int.emod_nonneg _ (by positivity)), Nat.cast_pow, Nat.cast_ofNat, Int.emod_emod]
  have hlt : (i % 2 ^ n).toNat % 2 ^ n < 2 ^ (n - 1) ↔ i % 2 ^ n < 2 ^ (n - 1) := by
    rw [← Nat.cast_lt (α := Int), hcode, Nat.cast_pow, Nat.cast_ofNat]
  simp only [sextN, hlt, hcode]
  rcases lt_or_ge i 0 with hneg | hpos
  · have hmod : i % 2 ^ n = i + 2 ^ n := by
      rw [← Int.add_emod_right, Int.emod_eq_of_lt (by omega) (by omega)]
    rw [hmod, if_neg (by omega)]
    omega
  · rw [Int.emod_eq_of_lt hpos (by omega), if_pos hhi]

theorem toIntSat_ofInt (n : Nat) (r : Rnd) (i : Int) :
    toIntSat n r (FV.ofInt i) = max (-(2 ^ (n - 1))) (min (2 ^ (n - 1) - 1) i) := by
  have hval : (if decide (i < 0) then -(r.int i.natAbs 0 : Int) else r.int i.natAbs 0) = i := by
    rw [r.int_of_nonneg _ le_rfl]
    simp only [Int.toNat_zero, pow_zero, mul_one, decide_eq_true_eq]
    split_ifs <;> omega
  rw [FV.ofInt, toIntSat_fin, hval]

/-- An integer narrowed into a format reads back saturated (R80). -/
theorem elemInt_narrowInt {k : Nat} (hk : 0 < fmtBits k) (x : W32) :
    elemInt k (narrowInt k x) = max (-(2 ^ (fmtBits k - 1))) (min (2 ^ (fmtBits k - 1) - 1) x.toInt) := by
  have hpos : (0 : Int) < 2 ^ (fmtBits k - 1) := by positivity
  rw [elemInt, narrowInt, toIntSat_ofInt]
  exact sextN_emod hk (le_max_left _ _) (by omega)

/-! MX blocks. -/

/-- The exponent of the leading bit of a value that has one. -/
def FV.lead : FV → Option Int
  | .fin _ m e => if m = 0 then none else some (e + (Nat.log2 m : Int))
  | _ => none

theorem FV.lead_eq_some {v : FV} {l : Int} :
    v.lead = some l ↔ ∃ n m e, v = .fin n m e ∧ m ≠ 0 ∧ e + Nat.log2 m = l := by
  cases v with
  | nan => simp [FV.lead]
  | inf neg => simp [FV.lead]
  | fin neg m e => by_cases hm : m = 0 <;> simp [FV.lead, hm]

theorem mxScaleOf_of_not_fin (emax : Int) {vs : List FV} (h : ∃ v ∈ vs, v.isFin = false) : mxScaleOf emax vs = 0xFF :=
  if_pos (by simpa using h)

/-- The scale byte from the exponents of the leading bits in a block (R69). -/
def mxScaleOfLeads (emax : Int) : List Int → Nat
  | [] => 0
  | l :: ls => (max (ls.foldl max l - emax) (-127) + 127).toNat

theorem mxScaleOfLeads_of_max (emax : Int) {ls : List Int} {l : Int} (h : ls.max? = some l) :
    mxScaleOfLeads emax ls = (max (l - emax) (-127) + 127).toNat := by
  cases ls with
  | nil => cases h
  | cons k ks =>
    rw [List.max?_cons', Option.some.injEq] at h
    rw [mxScaleOfLeads, h]

theorem mxScaleOf_of_fin (emax : Int) {vs : List FV} (h : ∀ v ∈ vs, v.isFin = true) :
    mxScaleOf emax vs = mxScaleOfLeads emax (vs.filterMap FV.lead) :=
  if_neg (by simpa using h)

theorem mxScaleOf_of_max (emax : Int) {vs : List FV} {l : Int} (hfin : ∀ v ∈ vs, v.isFin = true)
    (hmem : ∃ v ∈ vs, v.lead = some l) (hmax : ∀ v ∈ vs, ∀ k, v.lead = some k → k ≤ l) :
    mxScaleOf emax vs = (max (l - emax) (-127) + 127).toNat := by
  rw [mxScaleOf_of_fin emax hfin]
  refine mxScaleOfLeads_of_max emax ?_
  simp only [List.max?_eq_some_iff, List.mem_filterMap, forall_exists_index, and_imp]
  exact ⟨hmem, fun k v hv hk => hmax v hv k hk⟩

theorem mxScaleOf_of_zero (emax : Int) {vs : List FV} (h : ∀ v ∈ vs, ∃ n e, v = .fin n 0 e) : mxScaleOf emax vs = 0 := by
  have hfin : ∀ v ∈ vs, v.isFin = true := fun v hv => by
    obtain ⟨n, e, rfl⟩ := h v hv
    rfl
  have hlead : vs.filterMap FV.lead = [] := List.filterMap_eq_nil_iff.mpr fun v hv => by
    obtain ⟨n, e, rfl⟩ := h v hv
    rfl
  rw [mxScaleOf_of_fin emax hfin, hlead]
  rfl

theorem mxElem_nan_scale (g : FloatFmt) (r : Rnd) (v : FV) : mxElem g r 0xFF v = 0 := rfl

theorem mxElem_fin (g : FloatFmt) (r : Rnd) {s : Nat} (hs : s ≠ 0xFF) (n : Bool) (m : Nat) (e : Int) :
    mxElem g r s (.fin n m e) = g.enc r (.fin n m (e - ((s : Int) - 127))) := by
  refine (if_neg hs).trans ?_
  by_cases hm : m = 0
  · simp [hm, g.enc_zero]
  · simp [hm]

theorem FV.not_isZero_of_lead {v : FV} {l : Int} (h : v.lead = some l) : v.isZero = false := by
  obtain ⟨n, m, e, rfl, hm, -⟩ := FV.lead_eq_some.mp h
  simpa [FV.isZero] using hm

/-- The element format of an MX code (R62). -/
def mxFmt (f : Nat) : FloatFmt := if f = 5 then fmtE3M2 else fmtE2M1

/-- emax of R69. -/
def mxEmax (f : Nat) : Int := if f = 5 then 4 else 2

theorem mxBlock_scale (f : Nat) (rnd : Nat → Rnd) (vs : List FV) : (mxBlock f rnd vs).1 = mxScaleOf (mxEmax f) vs := rfl

theorem mxBlock_elem (f : Nat) (rnd : Nat → Rnd) (vs : List FV) (i : Nat) :
    (mxBlock f rnd vs).2[i]? = (vs[i]?).map fun v =>
      if vs.all FV.isZero then 0 else mxElem (mxFmt f) (rnd i) (mxScaleOf (mxEmax f) vs) v := by
  simp only [mxBlock, List.getElem?_map, List.getElem?_zipIdx, Option.map_map, zero_add]
  rfl

theorem mxBlock_of_not_fin (f : Nat) (rnd : Nat → Rnd) {vs : List FV} (h : ∃ v ∈ vs, v.isFin = false) :
    mxBlock f rnd vs = (0xFF, vs.map fun _ => 0) := by
  have hscale := mxScaleOf_of_not_fin (mxEmax f) h
  refine Prod.ext hscale (List.ext_getElem? fun i => ?_)
  simp only [mxBlock_elem, hscale, mxElem_nan_scale, ite_self, List.getElem?_map]

theorem mxBlock_of_zero (f : Nat) (rnd : Nat → Rnd) {vs : List FV} (h : ∀ v ∈ vs, ∃ n e, v = .fin n 0 e) :
    mxBlock f rnd vs = (0, vs.map fun _ => 0) := by
  have hzero : vs.all FV.isZero = true := List.all_eq_true.mpr fun v hv => by
    obtain ⟨n, e, rfl⟩ := h v hv
    rfl
  refine Prod.ext (mxScaleOf_of_zero (mxEmax f) h) (List.ext_getElem? fun i => ?_)
  simp only [mxBlock_elem, hzero, if_true, List.getElem?_map]

/-- A block whose largest leading bit has exponent l: its scale, and each element in units of the scale (R69, R70). -/
theorem mxBlock_of_max (f : Nat) (rnd : Nat → Rnd) {vs : List FV} {l : Int} (hl : l ≤ 127) (hfin : ∀ v ∈ vs, v.isFin = true)
    (hmem : ∃ v ∈ vs, v.lead = some l) (hmax : ∀ v ∈ vs, ∀ k, v.lead = some k → k ≤ l)
    {i m : Nat} {n : Bool} {e : Int} (hi : vs[i]? = some (.fin n m e)) :
    let s := max (l - mxEmax f) (-127) + 127
    ((mxBlock f rnd vs).1 : Int) = s ∧ (mxBlock f rnd vs).2[i]? = some ((mxFmt f).enc (rnd i) (.fin n m (e - (s - 127)))) := by
  intro s
  have hemax : 2 ≤ mxEmax f := by unfold mxEmax; split <;> decide
  have hscale : mxScaleOf (mxEmax f) vs = s.toNat := mxScaleOf_of_max _ hfin hmem hmax
  have hs : (s.toNat : Int) = s := Int.toNat_of_nonneg (by omega)
  have hnan : s.toNat ≠ 0xFF := by omega
  have hzero : ¬ vs.all FV.isZero = true := by
    obtain ⟨v, hv, hlead⟩ := hmem
    rw [Bool.not_eq_true, List.all_eq_false]
    exact ⟨v, hv, by simp [FV.not_isZero_of_lead hlead]⟩
  refine ⟨?_, ?_⟩
  · rw [mxBlock_scale, hscale, hs]
  · rw [mxBlock_elem, hi, Option.map_some, if_neg hzero, hscale, mxElem_fin _ _ hnan, hs]

theorem FV.mxScale_nan (v : FV) : v.mxScale 255 = .nan := rfl

theorem FV.mxScale_fin {s : Nat} (hs : s < 255) (n : Bool) (m : Nat) (e : Int) :
    (FV.fin n m e).mxScale s = .fin n m (e + ((s : Int) - 127)) := by
  rw [FV.mxScale, Nat.mod_eq_of_lt (by omega), if_neg hs.ne, FV.scale]

/-! Exact sums and products. -/

/-- A signed multiple in a unit that is 2^k times smaller. -/
def signedMul (neg : Bool) (m k : Nat) : Int := (if neg then -1 else 1) * ((m * 2 ^ k : Nat) : Int)

theorem signed_align (neg : Bool) (m : Nat) {q e : Int} (h : q ≤ e) :
    signed neg m e = (signedMul neg m (e - q).toNat : ℚ) * (2 : ℚ) ^ q := by
  rw [signed, ← dyadic_align m h, dyadic, signedMul]
  cases neg <;> simp

theorem signed_natAbs (z q : Int) : signed (decide (z < 0)) z.natAbs q = z * (2 : ℚ) ^ q := by
  rw [signed, dyadic, Nat.cast_natAbs, Int.cast_abs]
  rcases lt_or_ge z 0 with h | h
  · rw [abs_of_neg (by exact_mod_cast h)]; simp [h]
  · rw [abs_of_nonneg (by exact_mod_cast h)]; simp [not_lt.mpr h]

theorem FV.add_eq (a b : Bool) (m n : Nat) (e f : Int) :
    let q := min e f
    let z := signedMul a m (e - q).toNat + signedMul b n (f - q).toNat
    FV.add (.fin a m e) (.fin b n f) = if z = 0 then .fin (a && b && decide (m = 0) && decide (n = 0)) 0 0
      else .fin (decide (z < 0)) z.natAbs q := rfl

theorem FV.add_fin (a b : Bool) (m n : Nat) (e f : Int) :
    ∃ c k g, FV.add (.fin a m e) (.fin b n f) = .fin c k g ∧ signed c k g = signed a m e + signed b n f := by
  rw [FV.add_eq, signed_align a m (min_le_left e f), signed_align b n (min_le_right e f), ← add_mul, ← Int.cast_add]
  generalize signedMul a m (e - min e f).toNat + signedMul b n (f - min e f).toNat = z
  by_cases hz : z = 0
  · exact ⟨_, _, _, if_pos hz, by simp [signed, dyadic, hz]⟩
  · exact ⟨_, _, _, if_neg hz, signed_natAbs z _⟩

theorem FV.mul_fin (a b : Bool) (m n : Nat) (e f : Int) :
    ∃ c k g, FV.mul (.fin a m e) (.fin b n f) = .fin c k g ∧ signed c k g = signed a m e * signed b n f := by
  refine ⟨_, _, _, rfl, ?_⟩
  simp only [signed, dyadic, zpow_add₀ (two_ne_zero' ℚ), Nat.cast_mul]
  cases a <;> cases b <;> simp <;> ring

/-! Packed elements. -/

theorem le_eight_mul_cdiv (n : Nat) : n ≤ 8 * cdiv n 8 := by unfold cdiv; omega

/-- The number that packed elements spell has them as its digits in base 2^w. -/
theorem packElems_eq {w : Nat} {xs : List Nat} (hxs : ∀ x ∈ xs, x < 2 ^ w) :
    packElems w xs = leBytes (cdiv (w * xs.length) 8) (Nat.ofDigits (2 ^ w) xs) := by
  have hdigit : ∀ p ∈ xs.zipIdx, (p.1 % 2 ^ w) <<< (w * p.2) = p.1 * (2 ^ w) ^ p.2 := fun p hp => by
    rw [Nat.mod_eq_of_lt (hxs _ (List.fst_mem_of_mem_zipIdx hp)), Nat.shiftLeft_eq, pow_mul]
  rw [packElems, Nat.ofDigits_eq_sum_mapIdx, List.mapIdx_eq_zipIdx_map, ← List.sum_eq_foldl, List.map_congr_left hdigit]

theorem ofDigits_div_mod {b : Nat} {xs : List Nat} (hxs : ∀ x ∈ xs, x < b) {i : Nat} (hi : i < xs.length) :
    Nat.ofDigits b xs / b ^ i % b = xs[i] := by
  have hlt : xs[i] < b := hxs _ (List.getElem_mem hi)
  rw [Nat.ofDigits_div_pow_eq_ofDigits_drop i (by omega) xs hxs, List.drop_eq_getElem_cons hi, Nat.ofDigits_cons,
    Nat.add_mul_mod_self_left, Nat.mod_eq_of_lt hlt]

theorem unpack_packElems {w : Nat} (hw : 0 < w) {xs : List Nat} (hxs : ∀ x ∈ xs, x < 2 ^ w) :
    unpack w xs.length (packElems w xs) = xs := by
  have hlt : Nat.ofDigits (2 ^ w) xs < 256 ^ cdiv (w * xs.length) 8 :=
    calc Nat.ofDigits (2 ^ w) xs < (2 ^ w) ^ xs.length := Nat.ofDigits_lt_base_pow_length (Nat.one_lt_two_pow hw.ne') hxs
      _ = 2 ^ (w * xs.length) := (pow_mul 2 w _).symm
      _ ≤ 2 ^ (8 * cdiv (w * xs.length) 8) := Nat.pow_le_pow_right two_pos (le_eight_mul_cdiv _)
      _ = 256 ^ cdiv (w * xs.length) 8 := by rw [pow_mul]; norm_num
  refine List.ext_getElem (by simp [unpack]) fun i _ hi => ?_
  simp only [unpack, List.getElem_map, List.getElem_range, packElems_eq hxs, leNat_leBytes, Nat.mod_eq_of_lt hlt,
    Nat.shiftRight_eq_div_pow, pow_mul, ofDigits_div_mod hxs hi]

theorem unpack_nibbles (a : Byte) : unpack 4 2 [a] = [a.toNat % 16, a.toNat / 16] := by
  have ha := a.isLt
  simp only [unpack, leNat, List.range_succ, List.range_zero, Nat.shiftRight_eq_div_pow, List.map_cons,
    List.map_nil, List.nil_append, List.cons_append, List.cons.injEq, and_true]
  omega

theorem unpack_sextets (a b d : Byte) :
    unpack 6 4 [a, b, d] = [a.toNat % 64, a.toNat / 64 + b.toNat % 16 * 4, b.toNat / 16 + d.toNat % 4 * 16, d.toNat / 4] := by
  have ha := a.isLt
  have hb := b.isLt
  have hd := d.isLt
  simp only [unpack, leNat, List.range_succ, List.range_zero, Nat.shiftRight_eq_div_pow, List.map_cons,
    List.map_nil, List.nil_append, List.cons_append, List.cons.injEq, and_true]
  omega

end Sys2Proof.Machine

open Sys2Proof Sys2Proof.Machine

/-- Settles O60: codes and exact values, the one rounding and what is written, conversions, MX blocks, sums, products and
packing, each by its lemma above. -/
theorem numberFormats : Obligations.NumberFormats := by
  unfold Obligations.NumberFormats
  intro fmts mag val up
  refine ⟨⟨rfl, rfl, rfl, rfl⟩, fmtE2M1_magnitude, fun f hf x r hx => FloatFmt.enc_dec hf r hx, ?rounding,
    fun r neg => ⟨fun _ _ => rfl, FloatFmt.enc_inf r neg, rfl⟩, ?toInt,
    fun k x hk => elemInt_narrowInt (by revert k; decide) x, ?mxBlock,
    ?mxScale, fun a b m n e f => ⟨FV.add_fin a b m n e f, FV.mul_fin a b m n e f⟩, fun _ _ => rfl,
    fun _ _ hw => unpack_packElems hw, fun a b d => ⟨unpack_nibbles a, unpack_sextets a b d⟩⟩
  case rounding =>
    intro f hf r neg m e hm hr
    obtain ⟨h, mm, em, ⟨hup, hdown⟩, hrest⟩ := FloatFmt.enc_fin hf neg e hm hr
    exact ⟨h, mm, em, hup, hdown, hrest⟩
  case toInt =>
    intro n r _ hr hi lo
    refine ⟨rfl, rfl, rfl, fun neg m e => ?_⟩
    obtain ⟨hup, hdown⟩ := Rnd.int_rounds hr m e
    exact ⟨r.int m e, hup, hdown, toIntSat_fin n r neg m e⟩
  case mxBlock =>
    intro f rnd vs hf g emax b
    refine ⟨mxBlock_of_not_fin f rnd, mxBlock_of_zero f rnd, fun l i m n e hfin hl hmem hmax => ?_⟩
    refine mxBlock_of_max f rnd hl hfin ?_ ?_
    · obtain ⟨n2, m2, e2, hv, hm2, hlead⟩ := hmem
      exact ⟨_, hv, FV.lead_eq_some.mpr ⟨n2, m2, e2, rfl, hm2, hlead⟩⟩
    · intro v hv k hk
      obtain ⟨n2, m2, e2, rfl, hm2, rfl⟩ := FV.lead_eq_some.mp hk
      exact hmax n2 m2 e2 hv hm2
  case mxScale =>
    refine fun v s _ => ⟨fun hs => hs ▸ v.mxScale_nan, fun hs n m e hv => ?_⟩
    exact ⟨_, hv ▸ FV.mxScale_fin hs n m e, dyadic_add m e _⟩

end

section
/-! What an op of the MMA family swaps and drains, and when (R97, R98, R106, R107). -/

namespace Sys2Proof.Machine

/-! The kinds of an op by its code and its CMODE (R228). -/

theorem isMmac_iff (o : MacroOp) (m : Nat) : isMmac o m = true ↔ opOpc o = 0x13 ∧ fld o 17 16 = m := by
  simp [isMmac, opCmode]

theorem isComplex_of {o : MacroOp} (hopc : opOpc o = 0x13) (hmode : fld o 17 16 = 2) : isComplex o = true :=
  (isMmac_iff o 2).mpr ⟨hopc, hmode⟩

theorem isGauss_of {o : MacroOp} (hopc : opOpc o = 0x13) (hmode : fld o 17 16 = 3) : isGauss o = true :=
  (isMmac_iff o 3).mpr ⟨hopc, hmode⟩

theorem isMmac_eq_false {o : MacroOp} {m : Nat} (h : opOpc o = 0x13 → fld o 17 16 ≠ m) : isMmac o m = false :=
  Bool.eq_false_iff.mpr fun hm => have ⟨hopc, hmode⟩ := (isMmac_iff o m).mp hm; h hopc hmode

/-- A complex op makes four passes over K (R106). -/
theorem opN_of_complex {o : MacroOp} (hopc : opOpc o = 0x13) (hmode : fld o 17 16 = 2) : opN o = 4 * passLen o := by
  simp [opN, passes, opCmode, hopc, hmode]

section
variable (c : Cluster) {o : MacroOp} (t0 : Nat) (front : Bool)

/-- An op of one fill swaps, and drains the set that it has filled, with SWAP alone. -/
theorem Cluster.opDrains_of_one_fill (hgauss : isGauss o = false) (hcomplex : isComplex o = false) :
    let ts := t0 + opN o + c.floor 0
    c.opDrains o t0 front
      = if bitAt o 118 then [(some ts, some (ts + (c.floor 1 - 32), front, 0, bitAt o 116))] else [] := by
  simp [Cluster.opDrains, hgauss, hcomplex]

/-- A complex op swaps between its real and its imaginary fill in any case. -/
theorem Cluster.opDrains_of_complex (hgauss : isGauss o = false) (hcomplex : isComplex o = true) :
    let h := t0 + 2 * passLen o + c.floor 0
    let ts := t0 + opN o + c.floor 0
    c.opDrains o t0 front
      = if bitAt o 118 then [(some h, some (h + (c.floor 1 - 32), front, 0, false)),
            (some ts, some (ts + (c.floor 1 - 32), !front, 0, bitAt o 116))]
        else [(some h, none)] := by
  rw [Cluster.opDrains, hgauss, hcomplex]
  cases bitAt o 118 <;> rfl

/-- A Gauss op fills both sets and drains both, the second behind the first. -/
theorem Cluster.opDrains_of_gauss (hgauss : isGauss o = true) :
    let g := t0 + opN o + c.floor 0 + (c.floor 1 - 32)
    c.opDrains o t0 front
      = [(none, some (g, front, 0, bitAt o 116)), (none, some (g + c.floor 1, !front, 1, bitAt o 116))] := by
  rw [Cluster.opDrains, hgauss]
  rfl

end

end Sys2Proof.Machine

open Sys2Proof Sys2Proof.Machine

/-- Settles O30: an op of one fill, a complex one and a Gauss one, each by its equation. -/
theorem swapsAndDrains : Obligations.SwapsAndDrains := by
  intro c o t0 front p d n ts pre mmac cm hd
  have hsub : ∀ x, x + d - 32 = x + (c.floor 1 - 32) := fun x => Nat.add_sub_assoc hd x
  simp only [hsub]
  refine ⟨fun hone => ?_, fun hmmac hmode => ?_, fun hmmac hmode => c.opDrains_of_gauss t0 front (isGauss_of hmmac hmode)⟩
  · have hkind : opOpc o = 0x13 → fld o 17 16 < 2 := fun h => by
      have hmode : opOpc o = 0x10 ∨ opOpc o = 0x11 ∨ opOpc o = 0x12 ∨ (opOpc o = 0x13 ∧ fld o 17 16 < 2) := hone
      omega
    have heq := c.opDrains_of_one_fill t0 front (isMmac_eq_false (o := o) (m := 3) fun h => by have := hkind h; omega)
      (isMmac_eq_false fun h => by have := hkind h; omega)
    exact ⟨fun hswap => heq.trans (if_pos hswap), fun hswap => heq.trans (if_neg (Bool.eq_false_iff.mp hswap))⟩
  · have hhalf : n / 2 = 2 * passLen o := by
      have := opN_of_complex hmmac hmode
      simp only [n]
      omega
    have hnot : isGauss o = false := isMmac_eq_false fun _ => by rw [show fld o 17 16 = 2 from hmode]; decide
    have heq := c.opDrains_of_complex t0 front hnot (isComplex_of hmmac hmode)
    rw [hhalf]
    exact ⟨fun hswap => heq.trans (if_pos hswap), fun hswap => heq.trans (if_neg (Bool.eq_false_iff.mp hswap))⟩

end

section
/-! The start of an op of a matrix array (R91, R97, R101, R102, R104, R138): its slot, its fill or preload, and its swaps and
drains. -/

namespace Sys2Proof.Machine

variable {c : Cluster}

/-! What the start of an op leaves to the arrays and the tables. -/

@[simp] theorem Cluster.startOp_arr (c : Cluster) (q : Nat) (o : MacroOp) (a : Nat) : (c.startOp q o).1.arr a = c.arr a := by
  rw [Cluster.startOp_form]; rfl

@[simp] theorem Cluster.startOp_tabErr (c : Cluster) (q : Nat) (o : MacroOp) : (c.startOp q o).1.tabErr = c.tabErr := by
  rw [Cluster.startOp_form]

theorem Cluster.startOp_nullified (c : Cluster) (q : Nat) (o : MacroOp) :
    (c.startOp q o).2 = c.nullified q (c.queue q).started o c.lcc := rfl

theorem Cluster.tabSound_startOp {keys : List Nat} (q : Nat) (o : MacroOp) (h : c.tabSound keys) :
    (c.startOp q o).1.tabSound keys := by
  rwa [Cluster.tabSound, Cluster.startOp_tabErr]

/-! What the parts of the start of a fill leave alone. -/

section
variable (c : Cluster) {a : Nat} (ha : a < 32) (o : MacroOp)
include ha

theorem Cluster.loadSet_front (s : PrimSet) : ((c.loadSet a s).2.arr a).front = (c.arr a).front := by
  show ((c.setArr a _).arr a).front = _
  rw [Cluster.arr_setArr_self _ _ _ ha]

/-- The choice of a per-token set concerns the primer alone (R164). -/
theorem Cluster.needSet_front (set : Option Bool) : ((c.needSet a o set).2.arr a).front = (c.arr a).front := by
  unfold Cluster.needSet
  split
  · rfl
  · split
    · exact Cluster.loadSet_front _ ha _
    · rfl
  · rfl

theorem Cluster.issueLines_fills (t0 : Nat) (list : Option (List W16)) (ks : List (Nat × Nat)) :
    ((c.issueLines a o t0 list ks).arr a).fills = (c.arr a).fills := by
  unfold Cluster.issueLines
  dsimp only
  split
  · rfl
  · show (Cluster.arr (Cluster.setArr _ a _) a).fills = _
    rw [Cluster.arr_setArr_self _ _ _ ha]
    rfl

end

/-- The fill that an op begins, with what was read ahead for it (R91, R97). -/
def Cluster.newFill (c : Cluster) (a : Nat) (o : MacroOp) : Fill :=
  let e := c.aheadOf a o c.lcc
  let s := c.needSet a o e.set
  ⟨o, c.lcc, (s.2.arr a).front, isStip o && !c.streamSeen a o c.lcc, e.list, s.1, e.slices, []⟩

theorem Cluster.newFill_mem_doMma (c : Cluster) {a : Nat} (ha : a < 32) (o : MacroOp) :
    c.newFill a o ∈ ((c.doMma a o).arr a).fills := by
  show _ ∈ ((Cluster.issueLines (Cluster.setArr _ a _) a o c.lcc _ _).arr a).fills
  rw [Cluster.issueLines_fills _ ha, Cluster.arr_setArr_self _ _ _ ha]
  exact List.mem_append_right _ List.mem_cons_self

/-- The fill begins on the front set at the LCC value of the start (R91, R97). -/
theorem Cluster.doMma_begins_fill (c : Cluster) {a : Nat} (ha : a < 32) (o : MacroOp) :
    ∃ f ∈ ((c.doMma a o).arr a).fills, f.op = o ∧ f.t0 = c.lcc ∧ f.front = (c.arr a).front :=
  ⟨c.newFill a o, c.newFill_mem_doMma ha o, rfl, rfl, c.needSet_front ha o _⟩

/-! The ops of the MMA family. -/

/-- The end of a start: what was read ahead is dropped, and the swaps and drains are entered. -/
def Cluster.enterDrains (c : Cluster) (a : Nat) (o : MacroOp) (t0 : Nat) (nul : Bool) : Cluster :=
  let d := c.setArr a { c.arr a with ahead := (c.arr a).ahead.filter (fun e => decide (t0 < e.t0)) }
  if d.run = none then d else d.swapDrain a o nul (d.opDrains o t0 (c.arr a).front)

/-- The four commands of the family differ in the op code that they start. -/
theorem exec_mma_family (a : ArrayId) (s : State) :
    ∀ i ∈ [(Instr.mma a, 0x10), (.mmas a, 0x11), (.mmag a, 0x12), (.mmac a, 0x13)],
      exec i.1 s = done s (mmaOp s.cl a.val i.2) := by
  simp only [List.forall_mem_cons, List.not_mem_nil, false_implies, implies_true, and_true]
  exact ⟨rfl, rfl, rfl, rfl⟩

section
variable {a opc : Nat} {o : MacroOp} (hstart : c.starting (qArr a) opc = some o)
include hstart

theorem mmaOp_of_start :
    let p := c.startOp (qArr a) o
    mmaOp c a opc = (if p.2 then p.1 else p.1.withTab (opKeys (a / 4) o) (fun d => d.doMma a o)).enterDrains a o c.lcc p.2 := by
  rw [mmaOp, hstart]
  simp only [Cluster.enterDrains, Option.isNone_iff_eq_none]

theorem mmaOp_of_nullified (hnul : c.nullified (qArr a) (c.queue (qArr a)).started o c.lcc = true) :
    mmaOp c a opc = (c.startOp (qArr a) o).1.enterDrains a o c.lcc true := by
  simp only [mmaOp_of_start hstart, Cluster.startOp_nullified, hnul, if_true]

theorem mmaOp_of_fill (hnul : c.nullified (qArr a) (c.queue (qArr a)).started o c.lcc = false)
    (htab : c.tabSound (opKeys (a / 4) o)) :
    mmaOp c a opc = ((c.startOp (qArr a) o).1.doMma a o).enterDrains a o c.lcc false := by
  simp only [mmaOp_of_start hstart, Cluster.startOp_nullified, hnul, Bool.false_eq_true, if_false,
    Cluster.withTab_sound _ (Cluster.tabSound_startOp _ o htab)]

end

/-! MDRAIN, MPRE and the reads ahead of a start. -/

theorem mdrainC_of_start {a : Nat} {o : MacroOp} (hstart : c.starting (qArr a) 0x14 = some o) :
    let p := c.startOp (qArr a) o
    let ts := c.lcc + c.floor 0
    mdrainC c a = p.1.swapDrain a o p.2 [(some ts, some (ts + (p.1.floor 1 - 32), (c.arr a).front, 0, bitAt o 116))] := by
  rw [mdrainC, hstart]
  simp only [Cluster.startOp_arr]

theorem Cluster.doMpre_begins (c : Cluster) {a : Nat} (ha : a < 32) (o : MacroOp) :
    ((c.doMpre a o).arr a).mpre = (c.arr a).mpre ++ [⟨o, c.lcc, []⟩] :=
  congrArg ArrSt.mpre (Cluster.arr_setArr_self c a _ ha)

end Sys2Proof.Machine

open Sys2Proof Sys2Proof.Machine

/-- Settles O31: the start of an op of the family, nullified or with its fill. -/
theorem matrixOps : Obligations.MatrixOps := by
  intro a o s c q p finish i hi hstart
  rw [exec_mma_family a s i hi]
  refine ⟨fun hnul => congrArg (done s) (mmaOp_of_nullified hstart hnul),
    fun hnul htab => ⟨congrArg (done s) (mmaOp_of_fill hstart hnul htab), ?_⟩⟩
  have hfill := p.1.doMma_begins_fill a.isLt o
  simpa only [p, Cluster.startOp_lcc, Cluster.startOp_arr] using hfill

/-- Settles O32: each marker from what its start enters, and the reads ahead from what is due. -/
theorem matrixMarkers : Obligations.MatrixMarkers := by
  intro a o s c q p nul ts d
  refine ⟨fun hstart => congrArg (done s) (mdrainC_of_start hstart), fun hstart hnul => ⟨?_, ?_⟩, fun hstart => ?_,
    fun hdue => ?_, fun hdue => congrArg (done s) (if_pos hdue)⟩
  · refine congrArg (done s) ((Cluster.onStart_starting _ hstart).trans (if_neg ?_))
    exact Bool.eq_false_iff.mp hnul
  · simpa only [p, Cluster.startOp_lcc, Cluster.startOp_arr] using p.1.doMpre_begins a.isLt o
  · exact congrArg (done s) ((Cluster.onStart_starting _ hstart).trans (ite_self _))
  · have hnone : ¬ c.aheadDue a.val = true := Bool.eq_false_iff.mp hdue
    exact congrArg (done s) (if_neg hnone)

end

section
/-! The cells of an accumulator set: where they lie, and what a list of writes leaves in them (R87, R111). -/

namespace Sys2Proof.Machine

/-! Writes to a sparse map, in order. -/

theorem Sparse.setAll_cons {w : Nat} (m : Sparse w) (p : Nat × BitVec w) (ps : List (Nat × BitVec w)) :
    Sparse.setAll m (p :: ps) = Sparse.setAll (Sparse.set m p.1 p.2) ps := rfl

theorem Sparse.get_setAll_of_not_mem {w : Nat} (m : Sparse w) {ps : List (Nat × BitVec w)} {k : Nat} (h : ∀ p ∈ ps, p.1 ≠ k) :
    Sparse.get (Sparse.setAll m ps) k = Sparse.get m k := by
  induction ps generalizing m with
  | nil => rfl
  | cons p ps ih =>
    obtain ⟨hp, hps⟩ := List.forall_mem_cons.mp h
    rw [Sparse.setAll_cons, ih _ hps, Sparse.get_set_ne _ hp.symm]

/-- A key that is written reads as what every write of it agrees in. -/
theorem Sparse.get_setAll_of_mem {w : Nat} {m : Sparse w} (hm : Sparse.wf m = true) {ps : List (Nat × BitVec w)} {k : Nat}
    {v : BitVec w} (hmem : ∃ p ∈ ps, p.1 = k) (hval : ∀ p ∈ ps, p.1 = k → p.2 = v) : Sparse.get (Sparse.setAll m ps) k = v := by
  induction ps generalizing m with
  | nil => simp at hmem
  | cons p ps ih =>
    obtain ⟨hp, hps⟩ := List.forall_mem_cons.mp hval
    rw [Sparse.setAll_cons]
    by_cases hlater : ∃ q ∈ ps, q.1 = k
    · exact ih (Sparse.wf_set _ _ hm) hlater hps
    · obtain ⟨q, hq, hqk⟩ := hmem
      obtain rfl : q = p := (List.mem_cons.mp hq).resolve_right fun hq => hlater ⟨q, hq, hqk⟩
      rw [Sparse.get_setAll_of_not_mem _ fun r hr hrk => hlater ⟨r, hr, hrk⟩, ← hqk, Sparse.get_set_self _ _ hm, hp hqk]

/-! The keys of the cells. -/

theorem accKey_inj {a r r' col col' : Nat} {set1 : Bool} (hcol : col < 34) (hcol' : col' < 34)
    (h : accKey a set1 r col = accKey a set1 r' col') : r = r' ∧ col = col' := by
  unfold accKey at h
  omega

variable {c : Cluster} {a : Nat}

theorem Cluster.get_setCells (set1 : Bool) {r col : Nat} (hr : r < 128) (hcol : col < 34) :
    Sparse.get (c.setCells a set1) (accKey a set1 r col) = Sparse.get c.acc (accKey a set1 r col) := by
  have hwindow : (decide (accKey a set1 0 0 ≤ accKey a set1 r col) && decide (accKey a set1 r col < accKey a set1 128 0)) = true := by
    rw [Bool.and_eq_true, decide_eq_true_eq, decide_eq_true_eq]
    unfold accKey
    omega
  exact Sparse.get_filter (fun k => decide (accKey a set1 0 0 ≤ k) && decide (k < accKey a set1 128 0)) _ _ hwindow

/-! The good physical columns (R111). -/

theorem Cluster.goodCols_lt {p : Nat} (hp : p < (c.goodCols a).length) : (c.goodCols a).getD p 34 < 34 := by
  rw [List.getD_eq_getElem _ _ hp]
  exact List.mem_range.mp (List.mem_of_mem_filter (List.getElem_mem hp))

theorem Cluster.goodCols_inj {p p' : Nat} (hp : p < (c.goodCols a).length) (hp' : p' < (c.goodCols a).length)
    (h : (c.goodCols a).getD p 34 = (c.goodCols a).getD p' 34) : p = p' := by
  rw [List.getD_eq_getElem _ _ hp, List.getD_eq_getElem _ _ hp'] at h
  exact (List.nodup_range.filter _).getElem_inj_iff.mp h

end Sys2Proof.Machine
end

section
/-! The accumulates of a fill (R73 to R75, R95, R96, R114). -/

namespace Sys2Proof.Machine

/-! One accumulate of one cell. -/

/-- A cell adds its exact sum, or takes it off (R73, R74, R82). -/
theorem cellStep_eq (int sub : Bool) (xs : Array FV) (col : Nat) (old : W32) (ps : List (Nat × FV)) :
    let prods := ps.map (fun k => k.2.mul (((xs)[k.1 * 33 + col]?).getD .zero))
    let sum := FV.sum prods
    cellStep int sub xs col old ps
      = if int then old + BitVec.ofInt 32 (if sub then -sum.int else sum.int)
        else if prods = [] then old else toF32 ((f32 old).add (if sub then sum.neg else sum)) := by
  simp only [cellStep, accStepInt, accStep, List.isEmpty_iff]

/-! One accumulate of a set. -/

/-- The activations that position p of the presented columns takes: its own, and behind the last one the witness's (R114). -/
def operandCol (w p : Nat) : Nat := if p < w then p else 32

theorem operandCol_of_lt {w p : Nat} (h : p < w) : operandCol w p = p := if_pos h

theorem operandCol_self (w : Nat) : operandCol w w = 32 := if_neg (Nat.lt_irrefl w)

section
variable (c : Cluster) (a : Nat) (o : MacroOp) (set1 zero sub : Bool) (ws : List (List (Nat × FV))) (xs : Array FV)

/-- The columns that are presented, and the witness where it runs. -/
def Cluster.accWidth : Nat := c.presW a + (if c.witness a then 1 else 0)

/-- The key of position p of row r. -/
def Cluster.cellKey (r p : Nat) : Nat := accKey a set1 r ((c.goodCols a).getD p 34)

/-- What an accumulate makes of position p of row r. -/
def Cluster.cellAfter (r p : Nat) : W32 :=
  cellStep (opInt o) sub xs (operandCol (c.presW a) p) (if zero then 0 else Sparse.get c.acc (c.cellKey a set1 r p)) (ws.getD r [])

theorem Cluster.accCols_eq :
    (List.range (c.presW a)).map (fun p => (p, (c.goodCols a).getD p 34))
        ++ (if c.witness a then [(32, (c.goodCols a).getD (c.presW a) 34)] else [])
      = (List.range (c.accWidth a)).map (fun p => (operandCol (c.presW a) p, (c.goodCols a).getD p 34)) := by
  have hpres : (List.range (c.presW a)).map (fun p => (p, (c.goodCols a).getD p 34))
      = (List.range (c.presW a)).map (fun p => (operandCol (c.presW a) p, (c.goodCols a).getD p 34)) :=
    List.map_congr_left fun p hp => by rw [operandCol_of_lt (List.mem_range.mp hp)]
  rw [hpres, Cluster.accWidth]
  cases c.witness a with
  | false => simp
  | true => simp [List.range_succ, operandCol_self]

/-- The writes of an accumulate: every position of every row. -/
def Cluster.accWrites : List (Nat × W32) :=
  ws.zipIdx.flatMap fun r => (List.range (c.accWidth a)).map fun p =>
    (c.cellKey a set1 r.2 p, cellStep (opInt o) sub xs (operandCol (c.presW a) p)
      (if zero then 0 else Sparse.get (c.setCells a set1) (c.cellKey a set1 r.2 p)) r.1)

theorem Cluster.accumulate_eq :
    c.accumulate a o set1 zero sub ws xs = { c with acc := Sparse.setAll c.acc (c.accWrites a o set1 zero sub ws xs) } := by
  unfold Cluster.accumulate Cluster.accWrites
  simp only [Cluster.accCols_eq, Cluster.putCells, List.map_flatMap, List.map_map]
  rfl

variable {c a o set1 zero sub ws xs} (hws : ws.length = 128) (hwidth : c.accWidth a ≤ (c.goodCols a).length)
include hws hwidth

theorem Cluster.mem_accWrites {v : Nat × W32} :
    v ∈ c.accWrites a o set1 zero sub ws xs
      ↔ ∃ r < 128, ∃ p < c.accWidth a, v = (c.cellKey a set1 r p, c.cellAfter a o set1 zero sub ws xs r p) := by
  have hcell : ∀ r < 128, ∀ p < c.accWidth a,
      Sparse.get (c.setCells a set1) (c.cellKey a set1 r p) = Sparse.get c.acc (c.cellKey a set1 r p) :=
    fun r hr p hp => Cluster.get_setCells set1 hr (Cluster.goodCols_lt (hp.trans_le hwidth))
  simp only [Cluster.accWrites, Cluster.cellAfter, List.mem_flatMap, List.mem_map, List.mem_range, Prod.exists,
    List.mem_zipIdx_iff_getElem?]
  constructor
  · rintro ⟨x, r, hx, p, hp, rfl⟩
    obtain ⟨hr, rfl⟩ := List.getElem?_eq_some_iff.mp hx
    exact ⟨r, hws ▸ hr, p, hp, by rw [hcell r (hws ▸ hr) p hp, List.getD_eq_getElem _ _ hr]⟩
  · rintro ⟨r, hr, p, hp, rfl⟩
    have hr' : r < ws.length := hws ▸ hr
    exact ⟨ws[r], r, List.getElem?_eq_getElem hr', p, hp, by rw [hcell r hr p hp, List.getD_eq_getElem _ _ hr']⟩

/-- Each position takes its products on. -/
theorem Cluster.get_accumulate_cell (hc : c.canon) {r p : Nat} (hr : r < 128) (hp : p < c.accWidth a) :
    Sparse.get (c.accumulate a o set1 zero sub ws xs).acc (c.cellKey a set1 r p) = c.cellAfter a o set1 zero sub ws xs r p := by
  rw [Cluster.accumulate_eq]
  refine Sparse.get_setAll_of_mem hc.acc ⟨_, (Cluster.mem_accWrites hws hwidth).mpr ⟨r, hr, p, hp, rfl⟩, rfl⟩ fun v hv hkey => ?_
  obtain ⟨r', -, p', hp', rfl⟩ := (Cluster.mem_accWrites hws hwidth).mp hv
  have hgood := fun q (hq : q < c.accWidth a) => Cluster.goodCols_lt (hq.trans_le hwidth)
  obtain ⟨rfl, hcol⟩ := accKey_inj (hgood p' hp') (hgood p hp) hkey
  rw [Cluster.goodCols_inj (hp'.trans_le hwidth) (hp.trans_le hwidth) hcol]

/-- Every other cell keeps its value. -/
theorem Cluster.get_accumulate_other {k : Nat} (hk : ∀ r < 128, ∀ p < c.accWidth a, k ≠ c.cellKey a set1 r p) :
    Sparse.get (c.accumulate a o set1 zero sub ws xs).acc k = Sparse.get c.acc k := by
  rw [Cluster.accumulate_eq]
  refine Sparse.get_setAll_of_not_mem _ fun v hv => ?_
  obtain ⟨r, hr, p, hp, rfl⟩ := (Cluster.mem_accWrites hws hwidth).mp hv
  exact (hk r hr p hp).symm

end

/-! The accumulates of an op of one pass without stipple. -/

theorem kPos_pos (o : MacroOp) : 0 < kPos o := by
  have hpair : ∀ w x, 0 < pairAdv w x := fun w x => by unfold pairAdv; split_ifs <;> decide
  have hadv : 0 < kAdv o := by unfold kAdv; split_ifs; exacts [Nat.one_pos, hpair _ _]
  unfold kPos
  split_ifs <;> omega

/-- Without stipple every operand makes an accumulate of its own (R95, R125). -/
theorem period_of_dense {o : MacroOp} (h : isStip o = false) : period o = 1 := by
  simp [period, accSpan, h, Nat.div_self (kPos_pos o)]

theorem opN_of_one_pass {o : MacroOp} (h : opOpc o ≠ 0x13) : opN o = passLen o := by simp [opN, passes, h]

theorem passInto_of_one_pass {o : MacroOp} (h : opOpc o ≠ 0x13) (p : Nat) : passInto o p = [(0, false)] := by
  have hmmac : ∀ m, isMmac o m = false := fun m => isMmac_eq_false fun hopc => absurd hopc h
  unfold passInto isComplex isGauss
  rw [hmmac, hmmac]
  rfl

/-- Operand i of a dense op of one pass is accumulated P cycles after it entered (R95). -/
theorem Cluster.fillAcc_of_dense {c : Cluster} {f : Fill} {i : Nat} (a : Nat) (hopc : opOpc f.op ≠ 0x13)
    (hstip : isStip f.op = false) (hcounts : f.counts = false) (hlcc : c.lcc = f.t0 + c.floor 0 + i) (hi : i < opN f.op) :
    let win := f.pipe.filter (fun e => decide (e.slice.i ≤ i) && decide (i < e.slice.i + 1))
    c.fillAcc a f = c.accumulate a f.op f.front (!bitAt f.op 119 && decide (i = 0)) false
      ((List.range 128).map (winWeights f.op 0 win)) (winActs f.op 0 (c.presW a) win) := by
  intro win
  have hpass : i < passLen f.op := opN_of_one_pass hopc ▸ hi
  have hat : c.lcc - (f.t0 + c.floor 0) = i := by omega
  have hnow : (decide (c.lcc < f.t0 + c.floor 0) || decide (opN f.op ≤ i) || (i + 1) % 1 != 0) = false := by
    simp [Nat.mod_one]; omega
  have hfirst : (i + 1 == 1) = decide (i = 0) := by rw [Bool.eq_iff_iff]; simp
  simp only [Cluster.fillAcc, hat, period_of_dense hstip, Nat.mod_eq_of_lt hpass, Nat.div_eq_of_lt hpass, hnow,
    passInto_of_one_pass hopc, hcounts, hfirst, Bool.false_eq_true, if_false, if_true]
  simp [Cluster.each, firstPass, fillTo, win]

end Sys2Proof.Machine

open Sys2Proof Sys2Proof.Machine

/-- Settles O29: which accumulate falls into a cycle, and what one leaves in each cell. -/
theorem fillCells : Obligations.FillCells := by
  refine ⟨?_, ?_⟩
  · intro c a f i o win hopc hcounts hlcc hi
    have hcode : opOpc f.op = 0x10 ∨ opOpc f.op = 0x12 := hopc
    exact Cluster.fillAcc_of_dense a.val (by omega) (by rw [isStip, beq_eq_false_iff_ne]; omega) hcounts hlcc hi
  · intro c a o set1 zero sub ws xs d w wit key take hc hws hwidth
    have hcell : ∀ r < 128, ∀ p < c.accWidth a.val, Sparse.get d.acc (key r p) = take r p (operandCol w p) := fun r hr p hp => by
      have h := Cluster.get_accumulate_cell (o := o) (set1 := set1) (zero := zero) (sub := sub) (xs := xs) hws hwidth hc hr hp
      rw [Cluster.cellAfter, cellStep_eq] at h
      exact h
    refine ⟨by simp only [d, Cluster.accumulate_eq], fun r hr => ⟨fun p hp => ?_, fun hwit => ?_⟩,
      fun k hk => Cluster.get_accumulate_other hws hwidth hk⟩
    · rw [hcell r hr p (Nat.lt_add_right _ hp), operandCol_of_lt hp]
    · have hlast : w < c.accWidth a.val := by simp [Cluster.accWidth, w, show c.witness a.val = true from hwit]
      rw [hcell r hr w hlast, operandCol_self]

end

section
/-! The drains of an array: when one is under way, and what its cycles read and post (R98, R104, R116, R138). -/

namespace Sys2Proof.Machine

variable {c : Cluster} {a : Nat}

@[simp] theorem Cluster.setArr_setArr (c : Cluster) (a : Nat) (x y : ArrSt) : (c.setArr a x).setArr a y = c.setArr a y := by
  simp only [Cluster.setArr, vset, Vector.setIfInBounds_setIfInBounds]

/-! The beginning of a drain. -/

theorem drainC_of_due (ha : a < 32) {j : DrainJob} {rest : List DrainJob} (hruns : c.runs = true)
    (hjobs : (c.arr a).jobs = j :: rest) (hdue : j.due ≤ c.lcc) (htab : j.nul = false → c.tabSound (drainKeys (a / 4) j.op)) :
    drainC c a = c.setArr a { c.arr a with jobs := rest, drn := some j } := by
  have hnow : c.drainDue a = true := by simp [Cluster.drainDue, hruns, hjobs, hdue]
  have hbegin : (c.setArr a { c.arr a with jobs := rest }).beginDrain a j
      = c.setArr a { c.arr a with jobs := rest, drn := some j } := by
    rw [Cluster.beginDrain, Cluster.arr_setArr_self _ _ _ ha, Cluster.setArr_setArr]
  rw [drainC, if_pos hnow, hjobs]
  cases hnul : j.nul with
  | true => simp only [hnul, if_true, hbegin]
  | false =>
    have hsound : (c.setArr a { c.arr a with jobs := rest }).tabSound (drainKeys (a / 4) j.op) := htab hnul
    simp only [hnul, Bool.false_eq_true, if_false, Cluster.withTab_sound _ hsound, hbegin]

/-! The cycles of a drain without a skim chain. -/

/-- The drain goes on until its last group has been read. -/
def Cluster.drainOn (c : Cluster) (a i : Nat) (j : DrainJob) : Cluster :=
  c.setArr a { c.arr a with drn := if i < 31 then some j else none }

section
variable {j : DrainJob} {i : Nat} (hdrn : (c.arr a).drn = some j) (hlcc : c.lcc = j.due + i)
include hdrn hlcc

/-- A nullified drain reads and writes nothing (R104, R138). -/
theorem Cluster.drainCycle_of_nullified (hnul : j.nul = true) : c.drainCycle a = c.drainOn a i j := by
  have hi : c.lcc - j.due = i := by omega
  simp only [Cluster.drainCycle, hdrn, hnul, if_true, hi, Cluster.drainOn]

theorem Cluster.drainCycle_of_group (hnul : j.nul = false) :
    c.drainCycle a = (c.drainGroup a j i).1.drainOn a i (c.drainGroup a j i).2 := by
  have hi : c.lcc - j.due = i := by omega
  simp only [Cluster.drainCycle, hdrn, hnul, Bool.false_eq_true, if_false, hi, Cluster.drainOn]

end

theorem Cluster.skimStages_of_no_chain (c : Cluster) (n : Nat) {o : MacroOp} (h : fld o 109 104 = 0) : c.skimStages n o = [] := by
  rw [Cluster.skimStages, if_pos h]

/-- Without a chain a group is posted as it was read, in elements of 4 bytes (R98, R158). -/
theorem Cluster.skimEnter_of_no_chain (c : Cluster) (a : Nat) {j : DrainJob} (h : fld j.op 109 104 = 0) (i t : Nat)
    (raw : List W32) (isInt : Bool) :
    c.skimEnter a j i 0 t ⟨raw, raw, isInt, none, []⟩
      = c.each (groupPieces (bitAt j.op 117) 32 (c.presW a) i (raw.map (fun v => v.toNat))) (fun d p => d.postPiece a j t p) := by
  simp only [Cluster.skimEnter, Cluster.postGroup, Cluster.drainBits, Cluster.skimStages_of_no_chain _ _ h, Skim.out,
    List.length_nil, Nat.not_lt_zero, if_false, List.all_nil, if_true, List.find?_nil]

/-- A fold of rounds that keep LCC may read it ahead of the first one. -/
theorem Cluster.each_lcc {α : Type} {f : Nat → Cluster → α → Cluster} (hkeep : ∀ t d y, (f t d y).lcc = d.lcc) (l : List α)
    (c : Cluster) : c.each l (fun d y => f d.lcc d y) = c.each l (f c.lcc) := by
  induction l generalizing c with
  | nil => rfl
  | cons y ys ih => exact (ih (f c.lcc c y)).trans (by rw [hkeep]; rfl)

theorem Cluster.postPiece_lcc (c : Cluster) (a : Nat) (j : DrainJob) (t : Nat) (p : Nat × List Byte) :
    (c.postPiece a j t p).lcc = c.lcc := by
  simp only [Cluster.postPiece]
  split_ifs <;> rfl

theorem Cluster.each_postPiece_lcc (c : Cluster) (a : Nat) (j : DrainJob) (ps : List (Nat × List Byte)) :
    c.each ps (fun d p => d.postPiece a j (d.lcc + 1) p) = c.each ps (fun d p => d.postPiece a j (c.lcc + 1) p) :=
  Cluster.each_lcc (f := fun t d p => d.postPiece a j (t + 1) p) (fun t d p => d.postPiece_lcc a j (t + 1) p) ps c

section
variable (c : Cluster) (a : Nat) (j : DrainJob) (i : Nat)

/-- Group i, as its cycle reads it. -/
def Cluster.groupRead : List W32 := c.rawGroup a j.set1 (bitAt j.op 117) i

/-- The comparison that falls into the cycle of group i: with the witness, that of the rows complete with it (R98, R116). -/
def Cluster.compareGroup : Cluster × Bool :=
  if c.witness a then c.witnessRows a j (rowsDone (bitAt j.op 117) (c.presW a) i j.seen (c.groupRead a j i)) else (c, j.hit)

variable {c a} in
theorem Cluster.compareGroup_of_witness (h : c.witness a = true) :
    c.compareGroup a j i = c.witnessRows a j (rowsDone (bitAt j.op 117) (c.presW a) i j.seen (c.groupRead a j i)) := if_pos h

variable {c a} in
theorem Cluster.compareGroup_of_no_witness (h : c.witness a = false) : c.compareGroup a j i = (c, j.hit) :=
  if_neg (Bool.eq_false_iff.mp h)

/-- The drain behind group i: a column drain keeps its groups for the comparison (R116). -/
def Cluster.drainAfter : DrainJob :=
  { j with
    seen := if bitAt j.op 117 || decide (c.presW a ≤ i) then j.seen else j.seen ++ [c.groupRead a j i]
    hit := (c.compareGroup a j i).2 }

variable {c a j i} in
theorem Cluster.drainAfter_seen (horient : bitAt j.op 117 = false) (hi : i < c.presW a) :
    (c.drainAfter a j i).seen = j.seen ++ [c.groupRead a j i] :=
  if_neg (by rw [horient, Bool.false_or, decide_eq_true_eq]; omega)

end

/-- A group of a drain without a skim chain and preload is compared and posted for the next LCC value (R98, R116). -/
theorem Cluster.drainCycle_of_plain {j : DrainJob} {i : Nat} (hdrn : (c.arr a).drn = some j) (hlcc : c.lcc = j.due + i)
    (hnul : j.nul = false) (hpre : j.pre = false) (hchain : fld j.op 109 104 = 0) :
    let d := (c.compareGroup a j i).1
    c.drainCycle a
      = (d.each (groupPieces (bitAt j.op 117) 32 (d.presW a) i ((c.groupRead a j i).map (fun v => v.toNat)))
          (fun d p => d.postPiece a j (c.lcc + 1) p)).drainOn a i (c.drainAfter a j i) := by
  rw [Cluster.drainCycle_of_group hdrn hlcc hnul]
  simp only [Cluster.drainGroup, Cluster.drainAfter, hpre, Bool.false_eq_true, if_false, Cluster.skimEnter_of_no_chain _ _ hchain]
  rfl

end Sys2Proof.Machine
end

section
/-! The comparison of the rows of a drain with their witness, and the record of a mismatch (R116 to R118, R432). -/

namespace Sys2Proof.Machine

variable (c : Cluster) (a : Nat) (j : DrainJob)

/-- The comparison of one row with the witness column. -/
def Cluster.rowOutcome (r : Nat × List W32) : Option Bool :=
  rowMismatch (jobInt j) (c.regAt (rMxe (a / 4) + 0x10 * (a % 4) + 8)) r.2
    (Sparse.get (c.setCells a j.set1) (accKey a j.set1 r.1 ((c.goodCols a).getD (c.presW a) 34)))

/-- The rows that are skipped are counted in WITSKIP. -/
def Cluster.countSkipped (rows : List (Nat × List W32)) : Cluster :=
  let skipped := (rows.filter (fun r => (c.rowOutcome a j r).isNone)).length
  if skipped = 0 then c
  else c.bump (rMxe (a / 4) + 0x140 + 8 * (a % 4)) (rMxe (a / 4) + 0x10 * (a % 4) + 0x200) 8 skipped

variable {c a j} {rows : List (Nat × List W32)}

/-- The lowest row that mismatches, if one does. -/
theorem Cluster.witnessRows_eq (hrows : rows ≠ []) (harmed : c.armedAt 0x28 a = false) :
    c.witnessRows a j rows = match rows.find? (fun r => c.rowOutcome a j r == some true) with
      | none => (c.countSkipped a j rows, j.hit)
      | some r => (if j.hit then c.countSkipped a j rows else (c.countSkipped a j rows).witnessFault a j r.1, true) := by
  have hempty : rows.isEmpty = false := by simpa using hrows
  have hout : (rows.map fun r => (r.1, c.rowOutcome a j r)).find? (fun m => m.2 == some true)
      = (rows.find? fun r => c.rowOutcome a j r == some true).map fun r => (r.1, c.rowOutcome a j r) := List.find?_map ..
  have hskip : ((rows.map fun r => (r.1, c.rowOutcome a j r)).filter (fun m => m.2.isNone)).length
      = (rows.filter fun r => (c.rowOutcome a j r).isNone).length := by rw [List.filter_map, List.length_map]; rfl
  simp only [Cluster.rowOutcome] at hout hskip
  simp only [Cluster.witnessRows, hempty, harmed, Bool.false_eq_true, if_false, hout, hskip, Cluster.countSkipped,
    Cluster.rowOutcome]
  cases rows.find? _ <;> rfl

theorem Cluster.witnessRows_of_match (hrows : rows ≠ []) (harmed : c.armedAt 0x28 a = false)
    (h : ∀ r ∈ rows, c.rowOutcome a j r ≠ some true) : c.witnessRows a j rows = (c.countSkipped a j rows, j.hit) := by
  have hnone : rows.find? (fun r => c.rowOutcome a j r == some true) = none := by simpa [List.find?_eq_none] using h
  rw [Cluster.witnessRows_eq hrows harmed, hnone]

theorem Cluster.witnessRows_of_mismatch (hrows : rows ≠ []) (harmed : c.armedAt 0x28 a = false)
    {pre post : List (Nat × List W32)} {r : Nat × List W32} (hsplit : rows = pre ++ r :: post)
    (hpre : ∀ p ∈ pre, c.rowOutcome a j p ≠ some true) (hr : c.rowOutcome a j r = some true) :
    c.witnessRows a j rows
      = (if j.hit then c.countSkipped a j rows else (c.countSkipped a j rows).witnessFault a j r.1, true) := by
  have hsome : rows.find? (fun r => c.rowOutcome a j r == some true) = some r :=
    List.find?_eq_some_iff_append.mpr ⟨by simp [hr], pre, post, hsplit, by simpa using hpre⟩
  rw [Cluster.witnessRows_eq hrows harmed, hsome]

end Sys2Proof.Machine
end

section
/-! Exact sums and comparisons as rationals, and the comparison of a row with its witness (R73, R116). -/

namespace Sys2Proof.Machine

/-- The exact value of a finite value. -/
def FV.rat : FV → ℚ
  | .fin neg m e => signed neg m e
  | _ => 0

theorem FV.exists_fin {v : FV} (h : v.isFin = true) : ∃ neg m e, v = .fin neg m e := by
  cases v with
  | fin neg m e => exact ⟨neg, m, e, rfl⟩
  | nan => cases h
  | inf neg => cases h

section
variable {v w : FV} (hv : v.isFin = true)
include hv

theorem FV.neg_exact : v.neg.isFin = true ∧ v.neg.rat = -v.rat := by
  obtain ⟨n, m, e, rfl⟩ := FV.exists_fin hv
  refine ⟨rfl, ?_⟩
  cases n <;> simp [FV.neg, FV.rat, signed]

theorem FV.abs_exact : v.abs.isFin = true ∧ v.abs.rat = |v.rat| := by
  obtain ⟨n, m, e, rfl⟩ := FV.exists_fin hv
  refine ⟨rfl, ?_⟩
  cases n <;> simp [FV.abs, FV.rat, signed, abs_of_nonneg (dyadic_nonneg m e)]

theorem FV.scale_exact (k : Int) : (v.scale k).isFin = true ∧ (v.scale k).rat = v.rat * (2 : ℚ) ^ k := by
  obtain ⟨n, m, e, rfl⟩ := FV.exists_fin hv
  exact ⟨rfl, by simp only [FV.scale, FV.rat, signed, dyadic_add, mul_assoc]⟩

section
variable (hw : w.isFin = true)
include hw

theorem FV.add_exact : (v.add w).isFin = true ∧ (v.add w).rat = v.rat + w.rat := by
  obtain ⟨n, m, e, rfl⟩ := FV.exists_fin hv
  obtain ⟨n', m', e', rfl⟩ := FV.exists_fin hw
  obtain ⟨c, k, g, hadd, hval⟩ := FV.add_fin n n' m m' e e'
  rw [hadd]
  exact ⟨rfl, hval⟩

theorem FV.le_of_fin : v.le w = match w.add v.neg with
    | .fin n m _ => !n || decide (m = 0)
    | _ => false := by
  obtain ⟨n, m, e, rfl⟩ := FV.exists_fin hv
  obtain ⟨n', m', e', rfl⟩ := FV.exists_fin hw
  rfl

end
end

theorem signed_nonneg_iff (n : Bool) (m : Nat) (e : Int) : 0 ≤ signed n m e ↔ (!n || decide (m = 0)) = true := by
  cases n with
  | false => simpa [signed] using dyadic_nonneg m e
  | true =>
    have hpos : (0 : ℚ) < 2 ^ e := by positivity
    simp [signed, dyadic, mul_nonpos_iff, not_le.mpr hpos, hpos.le]

theorem FV.le_iff {v w : FV} (hv : v.isFin = true) (hw : w.isFin = true) : v.le w = true ↔ v.rat ≤ w.rat := by
  obtain ⟨hneg, hnegval⟩ := FV.neg_exact hv
  obtain ⟨hadd, hval⟩ := FV.add_exact hw hneg
  obtain ⟨n, m, e, hdiff⟩ := FV.exists_fin hadd
  have hsigned : signed n m e = w.rat - v.rat := by
    rw [sub_eq_add_neg, ← hnegval, ← hval, hdiff, FV.rat]
  rw [FV.le_of_fin hv hw, hdiff, ← sub_nonneg, ← hsigned, signed_nonneg_iff]

theorem FV.lt_iff {v w : FV} (hv : v.isFin = true) (hw : w.isFin = true) : v.lt w = true ↔ v.rat < w.rat := by
  rw [FV.lt, Bool.and_eq_true, Bool.not_eq_true', Bool.eq_false_iff, FV.le_iff hv hw, Ne, FV.le_iff hw hv, lt_iff_le_not_ge]

/-- A sum of finite values is exact. -/
theorem FV.sum_exact {vs : List FV} (h : ∀ v ∈ vs, v.isFin = true) :
    (FV.sum vs).isFin = true ∧ (FV.sum vs).rat = (vs.map FV.rat).sum := by
  have hfold : ∀ (ws : List FV) (v : FV), v.isFin = true → (∀ w ∈ ws, w.isFin = true) →
      (ws.foldl FV.add v).isFin = true ∧ (ws.foldl FV.add v).rat = v.rat + (ws.map FV.rat).sum := by
    intro ws
    induction ws with
    | nil => exact fun v hv _ => ⟨hv, by simp⟩
    | cons w ws ih =>
      intro v hv hws
      obtain ⟨hw, hws⟩ := List.forall_mem_cons.mp hws
      obtain ⟨hadd, hval⟩ := FV.add_exact hv hw
      obtain ⟨hfin, hsum⟩ := ih _ hadd hws
      exact ⟨hfin, by rw [List.foldl_cons, hsum, hval, List.map_cons, List.sum_cons, add_assoc]⟩
  cases vs with
  | nil => exact ⟨rfl, by simp [FV.sum, FV.zero, FV.rat, signed]⟩
  | cons v vs =>
    obtain ⟨hv, hvs⟩ := List.forall_mem_cons.mp h
    exact hfold vs v hv hvs

/-! The comparison of a row. -/

/-- A sum of words modulo 2^32 (R74). -/
theorem foldl_add_eq_ofNat_sum (vs : List W32) : vs.foldl (· + ·) 0 = BitVec.ofNat 32 (vs.map (fun x => x.toNat)).sum := by
  have hfold : ∀ (ws : List W32) (n : Nat),
      ws.foldl (· + ·) (BitVec.ofNat 32 n) = BitVec.ofNat 32 (n + (ws.map (fun x => x.toNat)).sum) := by
    intro ws
    induction ws with
    | nil => exact fun n => rfl
    | cons w ws ih =>
      intro n
      have hstep : BitVec.ofNat 32 n + w = BitVec.ofNat 32 (n + w.toNat) := by
        rw [BitVec.ofNat_add, BitVec.ofNat_toNat, BitVec.setWidth_eq]
      rw [List.foldl_cons, hstep, ih, List.map_cons, List.sum_cons, add_assoc]
  simpa using hfold vs 0

theorem rowMismatch_int (tol : W64) (vs : List W32) (w : W32) :
    rowMismatch true tol vs w = some (decide (BitVec.ofNat 32 (vs.map (fun x => x.toNat)).sum ≠ w)) := by
  rw [rowMismatch, if_pos rfl, foldl_add_eq_ofNat_sum, bne, beq_eq_decide, decide_not]

theorem rowMismatch_skipped (tol : W64) {vs : List W32} {w : W32} (h : ∃ x ∈ w :: vs, (f32 x).isFin = false) :
    rowMismatch false tol vs w = none := by
  have hskip : (!(f32 w).isFin || (vs.map f32).any (fun x => !x.isFin)) = true := by simpa [List.exists_mem_cons] using h
  simp only [rowMismatch, Bool.false_eq_true, if_false, hskip, if_true]

/-- How far a row of magnitude m may lie from its witness: 2^-TOLREL of the magnitudes, and A (R116). -/
def rowLimit (tol : W64) (m : ℚ) : ℚ :=
  m / 2 ^ fld tol 12 8 + (if fld tol 7 0 = 0 then 0 else (2 : ℚ) ^ ((fld tol 7 0 : Int) - 127))

/-- The limit as the model computes it is exact. -/
theorem rowLimit_exact (tol : W64) {v : FV} (hv : v.isFin = true) :
    let ab := fld tol 7 0
    let lim := (v.scale (-(fld tol 12 8 : Nat))).add (if ab = 0 then .zero else .fin false 1 ((ab : Int) - 127))
    lim.isFin = true ∧ lim.rat = rowLimit tol v.rat := by
  intro ab lim
  have hab : ∀ x : FV, x = (if ab = 0 then .zero else .fin false 1 ((ab : Int) - 127)) →
      x.isFin = true ∧ x.rat = if ab = 0 then 0 else (2 : ℚ) ^ ((ab : Int) - 127) := by
    rintro _ rfl
    by_cases h : ab = 0 <;> simp [h, FV.zero, FV.isFin, FV.rat, signed, dyadic]
  obtain ⟨hfin, hval⟩ := hab _ rfl
  obtain ⟨hscale, hscaled⟩ := FV.scale_exact hv (-(fld tol 12 8 : Nat))
  obtain ⟨hlim, hsum⟩ := FV.add_exact hscale hfin
  refine ⟨hlim, ?_⟩
  rw [hsum, hscaled, hval, zpow_neg, zpow_natCast, ← div_eq_mul_inv]
  rfl

/-- A row of finite values mismatches beyond its limit, without rounding (R116). -/
theorem rowMismatch_fin (tol : W64) {vs : List W32} {w : W32} (h : ∀ x ∈ w :: vs, (f32 x).isFin = true) :
    let val := fun x => (f32 x).rat
    rowMismatch false tol vs w
      = some (decide (rowLimit tol ((vs.map (fun x => |val x|)).sum + |val w|) < |val w - (vs.map val).sum|)) := by
  intro val
  obtain ⟨hw, hvs⟩ := List.forall_mem_cons.mp h
  have hgo : (!(f32 w).isFin || (vs.map f32).any (fun x => !x.isFin)) = false := by simpa [hw] using hvs
  have hxs : ∀ x ∈ vs.map f32, x.isFin = true := by simpa using hvs
  have habs : ∀ x ∈ (vs.map f32).map FV.abs, x.isFin = true := by
    simpa using fun x hx => (FV.abs_exact (hvs x hx)).1
  have hmagval : (((vs.map f32).map FV.abs).map FV.rat).sum = (vs.map (fun x => |val x|)).sum := by
    rw [List.map_map, List.map_map]
    exact congrArg List.sum (List.map_congr_left fun x hx => (FV.abs_exact (hvs x hx)).2)
  obtain ⟨hs, hsval⟩ := FV.sum_exact hxs
  obtain ⟨hm, hmval⟩ := FV.sum_exact habs
  obtain ⟨hwabs, hwval⟩ := FV.abs_exact hw
  obtain ⟨hmag, hmagsum⟩ := FV.add_exact hm hwabs
  obtain ⟨hlim, hlimval⟩ := rowLimit_exact tol hmag
  obtain ⟨hneg, hnegval⟩ := FV.neg_exact hs
  obtain ⟨hdiff, hdiffval⟩ := FV.add_exact hw hneg
  obtain ⟨herr, herrval⟩ := FV.abs_exact hdiff
  simp only [rowMismatch, Bool.false_eq_true, if_false, hgo]
  congr 1
  rw [Bool.eq_iff_iff, FV.lt_iff hlim herr, hlimval, herrval, hdiffval, hnegval, hsval, hmagsum, hmval, hwval, hmagval,
    List.map_map, ← sub_eq_add_neg, decide_eq_true_eq]
  rfl

end Sys2Proof.Machine
end

section
/-! The record of a mismatch (R117, R118). -/

namespace Sys2Proof.Machine

/-! A register written twice in one cycle. -/

theorem Sparse.set_of_lt {w : Nat} {m : Sparse w} {lo a : Nat} (h : Sparse.wfFrom lo m = true) (ha : a < lo) (x : BitVec w) :
    Sparse.set m a x = if x = 0#w then m else (a, x) :: m := by
  cases m with
  | nil => rfl
  | cons p r =>
    simp only [Sparse.wfFrom, Bool.and_eq_true, decide_eq_true_eq] at h
    rw [Sparse.set, if_pos (by omega)]

/-- The last write of a key counts. -/
theorem Sparse.set_set {w : Nat} {m : Sparse w} {lo : Nat} (h : Sparse.wfFrom lo m = true) (a : Nat) (x y : BitVec w) :
    Sparse.set (Sparse.set m a x) a y = Sparse.set m a y := by
  induction m generalizing lo with
  | nil => by_cases hx : x = 0#w <;> simp [Sparse.set, hx]
  | cons p r ih =>
    obtain ⟨k, v⟩ := p
    simp only [Sparse.wfFrom, Bool.and_eq_true, decide_eq_true_eq] at h
    rcases lt_trichotomy a k with hlt | rfl | hgt
    · by_cases hx : x = 0#w <;> simp [Sparse.set, hlt, hx]
    · by_cases hx : x = 0#w
      · simp [Sparse.set, hx, Sparse.set_of_lt h.2 (Nat.lt_succ_self a)]
      · simp [Sparse.set, hx]
    · simp [Sparse.set, hgt.not_gt, hgt.ne', ih h.2]

theorem Cluster.setReg_setReg {c : Cluster} (hc : c.canon) (a : Nat) (v w : W64) :
    (c.setReg a v).setReg a w = c.setReg a w := by
  simp only [Cluster.setReg, Sparse.set_set hc.reg]

/-! MXE_WITSTAT. -/

theorem fld_top (v : W64) : fld v 63 48 = v.toNat / 2 ^ 48 := by
  have := v.isLt
  rw [fld, Nat.shiftRight_eq_div_pow]
  omega

/-- A word with its upper 16 bits replaced. -/
theorem setFld_top (v : W64) (n : Nat) : setFld v 63 48 n = BitVec.ofNat 16 n ++ v.extractLsb' 0 48 := by
  refine BitVec.eq_of_getLsbD_eq fun i hi => ?_
  rw [getLsbD_setFld _ _ _ _ _ (by decide) hi, BitVec.getLsbD_append, BitVec.getLsbD_ofNat, BitVec.getLsbD_extractLsb']
  by_cases h : i < 48
  · simp [h, show ¬ (48 ≤ i ∧ i ≤ 63) by omega]
  · simp [h, show 48 ≤ i ∧ i ≤ 63 by omega, show i - 48 < 16 by omega]

section
variable {n : Nat} (low : BitVec 48)

theorem fld_top_append (hn : n < 2 ^ 16) : fld (BitVec.ofNat 16 n ++ low : W64) 63 48 = n := by
  have hlow := low.isLt
  rw [fld_top, BitVec.toNat_append, BitVec.toNat_ofNat, Nat.mod_eq_of_lt hn, ← Nat.shiftLeft_add_eq_or_of_lt hlow,
    Nat.shiftLeft_eq]
  omega

theorem bitAt_append_low {i : Nat} (hi : i < 48) : bitAt (BitVec.ofNat 16 n ++ low : W64) i = low.getLsbD i := by
  rw [bitAt, BitVec.getLsbD_append, if_pos hi]

end

theorem placeB_eq (b : Bool) (n : Nat) : placeB b n = place b.toNat n := by
  cases b <;> simp [placeB, place]

/-- COUNT after one more mismatch: it sticks at its largest value (R117). -/
def mismatchCount (v : W64) : Nat := min (v.toNat / 2 ^ 48 + 1) 0xFFFF

theorem mismatchCount_lt (v : W64) : mismatchCount v < 2 ^ 16 := by unfold mismatchCount; omega

/-- The record of a mismatch at row r: COUNT, VALID, the context, the row, the set and the STAMP (R117). -/
def mismatchRecord (cnt : Nat) (j : DrainJob) (r : Nat) : W64 :=
  BitVec.ofNat 64 (cnt * 2 ^ 48 + 2 ^ 47 + opCtx j.op * 2 ^ 41 + r * 2 ^ 34 + (if j.set1 then 2 ^ 33 else 0) + opStamp j.op)

theorem mismatchRecord_eq (cnt : Nat) (j : DrainJob) {r : Nat} (hr : r < 128) :
    place cnt 48 ||| placeB true 47 ||| place (opCtx j.op) 41 ||| place r 34 ||| placeB j.set1 33 ||| place (opStamp j.op) 0
      = mismatchRecord cnt j r := by
  have hctx := opCtx_lt j.op
  have hstamp := opStamp_lt j.op
  have hset : j.set1.toNat * 2 ^ 33 = if j.set1 then 2 ^ 33 else 0 := by cases j.set1 <;> rfl
  have hbound : j.set1.toNat < 2 := j.set1.toNat_lt
  have hlow : place (opStamp j.op) 0 = BitVec.ofNat 64 (opStamp j.op) := rfl
  rw [hlow, mismatchRecord, ← hset]
  simp only [placeB_eq, Bool.toNat_true, BitVec.or_assoc]
  rw [place_or_ofNat _ (by omega), place_or_ofNat _ (by omega), place_or_ofNat _ (by omega), place_or_ofNat _ (by omega),
    place_or_ofNat _ (by omega)]
  simp only [one_mul, add_assoc]

variable {c : Cluster}

theorem Cluster.stick_top (c : Cluster) (b : Nat) :
    c.stick b 63 48 1 = c.setReg b (BitVec.ofNat 16 (mismatchCount (c.regAt b)) ++ (c.regAt b).extractLsb' 0 48) := by
  simp only [Cluster.stick, setFld_top, fld_top, satN_eq_min]
  rfl

/-- A mismatch is counted, recorded unless one is recorded already, makes the array pending at the threshold, and is raised. -/
theorem Cluster.witnessFault_eq (hc : c.canon) (a : Nat) (j : DrainJob) {r : Nat} (hr : r < 128) :
    let b := rMxe (a / 4) + 0x10 * (a % 4) + 0x100
    let v := c.regAt b
    let cnt := mismatchCount v
    let d := c.setReg b (if v.getLsbD 47 then BitVec.ofNat 16 cnt ++ v.extractLsb' 0 48 else mismatchRecord cnt j r)
    c.witnessFault a j r = (if c.dictAt 0x2200 1 ≤ cnt then d.pendArr a else d).raise 0x28 a (opCtx j.op) := by
  intro b v cnt d
  have hbit : bitAt (BitVec.ofNat 16 cnt ++ v.extractLsb' 0 48 : W64) 47 = v.getLsbD 47 := by
    rw [bitAt_append_low _ (by decide), BitVec.getLsbD_extractLsb']
    simp
  have hrecord : (if v.getLsbD 47 then c.setReg b (BitVec.ofNat 16 cnt ++ v.extractLsb' 0 48)
      else (c.setReg b (BitVec.ofNat 16 cnt ++ v.extractLsb' 0 48)).setReg b (mismatchRecord cnt j r)) = d := by
    rw [Cluster.setReg_setReg hc, ← apply_ite (c.setReg b)]
  have hdict : d.dictAt 0x2200 1 = c.dictAt 0x2200 1 := rfl
  unfold Cluster.witnessFault
  simp only [Cluster.stick_top, Cluster.regAt_setReg_self hc, fld_top_append _ (mismatchCount_lt _), hbit, hrecord, hdict,
    mismatchRecord_eq _ j hr, b, v, cnt]

end Sys2Proof.Machine

open Sys2Proof Sys2Proof.Machine

/-- Settles O33: the beginning of a drain, its cycles, the comparison of complete rows, that of one row, and the record of a
mismatch. -/
theorem drainRuns : Obligations.DrainRuns := by
  refine ⟨?start, ?cycles, ?rows, ?row, ?record⟩
  case start =>
    intro a s j rest c x hruns hjobs hdue htab
    exact congrArg (done s) (drainC_of_due a.isLt hruns hjobs hdue htab)
  case cycles =>
    intro c a j i x next hdrn hlcc
    refine ⟨fun hnul => Cluster.drainCycle_of_nullified hdrn hlcc hnul, ?_, ?_⟩
    all_goals intro hnul hpre hwit hchain
    · refine ⟨c.drainAfter a.val j i, rfl, rfl, rfl, ?_⟩
      rw [Cluster.drainCycle_of_plain hdrn hlcc hnul hpre hchain, Cluster.compareGroup_of_no_witness _ _ hwit,
        ← c.each_postPiece_lcc a.val j]
      rfl
    · intro w raw rows x
      have hcompare : c.compareGroup a.val j i = x := Cluster.compareGroup_of_witness _ _ hwit
      refine ⟨c.drainAfter a.val j i, rfl, rfl, rfl, congrArg Prod.snd hcompare, fun horient hi => ?_, ?_⟩
      · exact Cluster.drainAfter_seen horient hi
      · rw [Cluster.drainCycle_of_plain hdrn hlcc hnul hpre hchain, hcompare]
        rfl
  case rows =>
    intro c a j rows n wit out skipped d hrows harmed
    exact ⟨Cluster.witnessRows_of_match hrows harmed,
      fun pre r post hsplit hpre hr => Cluster.witnessRows_of_mismatch hrows harmed hsplit hpre hr⟩
  case row =>
    intro tol vs w val a rel s m
    have hval : val = fun x => (f32 x).rat := funext fun x => by
      simp only [val]
      cases f32 x <;> simp [FV.rat, signed, dyadic]
    refine ⟨rowMismatch_int tol vs w, rowMismatch_skipped tol, fun hfin => ?_⟩
    have hrow : rowMismatch false tol vs w = some (decide (rowLimit tol (m + |val w|) < |val w - s|)) := by
      simp only [m, s, hval]
      exact rowMismatch_fin tol hfin
    exact ⟨fun hfar => hrow.trans (congrArg some (decide_eq_true hfar)),
      fun hnear => hrow.trans (congrArg some (decide_eq_false (not_lt.mpr hnear)))⟩
  case record =>
    intro c a j r b cnt rec_ old d hc
    exact Cluster.witnessFault_eq hc a.val j r.isLt

end

section
/-! The start of an op of the tile mover, the vector engine and the data mover, and of the preload and null markers of an
array: nullified, it takes its slot, its slip and its accounting alone (R136, R137, R138). -/

namespace Sys2Proof.Machine

/-- A command whose whole effect is on the op of one code that starts on one queue in its cycle. -/
def ActsOnStart (i : Instr) (q opc : Nat) : Prop :=
  ∃ f : Cluster → MacroOp → Cluster, ∀ s : State, exec i s = done s (s.cl.onStart q opc f)

theorem ActsOnStart.exec_of_nullified {i : Instr} {q opc : Nat} {o : MacroOp} {s : State} (hi : ActsOnStart i q opc)
    (hstart : s.cl.starting q opc = some o) (hnul : s.cl.nullified q (s.cl.queue q).started o s.cl.lcc = true) :
    exec i s = done s (s.cl.startOp q o).1 := by
  obtain ⟨f, hexec⟩ := hi
  rw [hexec, Cluster.onStart_starting f hstart, if_pos hnul]

/-! The commands by engine, each with the queue and the code of its op. -/

/-- The tile mover's commands on tile data (R203, R205 to R211). -/
def tileOps (n : CoreId) : List (Instr × Nat × Nat) :=
  [(.tld n, qTile n.val, 0x21), (.tst n, qTile n.val, 0x22), (.tmov n, qTile n.val, 0x23), (.tzero n, qTile n.val, 0x25)]

/-- The vector engine's commands (R182 to R194). -/
def vectorOps (n : CoreId) : List (Instr × Nat × Nat) :=
  [(.vrun n, qVec n.val, 0x30), (.vbcast n, qVec n.val, 0x31), (.vred n, qVec n.val, 0x32), (.vtopk n, qVec n.val, 0x33),
   (.vgath n, qVec n.val, 0x34), (.vscat n, qVec n.val, 0x35), (.vcvt n, qVec n.val, 0x36), (.vstat n, qVec n.val, 0x37)]

/-- The preload and null markers of an array (R230, R231). -/
def arrayMarkers (a : ArrayId) : List (Instr × Nat × Nat) := [(.mpre a, qArr a.val, 0x15), (.mnul a, qArr a.val, 0x16)]

/-- The transfers of a channel of the data mover (R244). -/
def transferOps (ch : ChanId) : List (Instr × Nat × Nat) := [(.dmget ch, qChan ch.val, 0x40), (.dmput ch, qChan ch.val, 0x41)]

theorem actsOnStart_tileOps (n : CoreId) : ∀ p ∈ tileOps n, ActsOnStart p.1 p.2.1 p.2.2 := by
  simp only [tileOps, List.forall_mem_cons, List.not_mem_nil, false_implies, implies_true, and_true]
  refine ⟨?_, ?_, ?_, ?_⟩
  all_goals exact ⟨_, fun _ => rfl⟩

/-- A vector op reads its table words only once it has started (R138, R416). -/
theorem ActsOnStart.of_onVec {i : Instr} {n opc : Nat} (f : Cluster → MacroOp → Cluster)
    (h : ∀ s : State, exec i s = done s (s.cl.onVec n opc f)) : ActsOnStart i (qVec n) opc :=
  ⟨_, h⟩

theorem actsOnStart_vectorOps (n : CoreId) : ∀ p ∈ vectorOps n, ActsOnStart p.1 p.2.1 p.2.2 := by
  simp only [vectorOps, List.forall_mem_cons, List.not_mem_nil, false_implies, implies_true, and_true]
  refine ⟨?_, ?_, ?_, ?_, ?_, ?_, ?_, ?_⟩
  all_goals exact ActsOnStart.of_onVec _ fun _ => rfl

theorem actsOnStart_arrayMarkers (a : ArrayId) : ∀ p ∈ arrayMarkers a, ActsOnStart p.1 p.2.1 p.2.2 := by
  simp only [arrayMarkers, List.forall_mem_cons, List.not_mem_nil, false_implies, implies_true, and_true]
  exact ⟨⟨_, fun _ => rfl⟩, ⟨_, fun _ => rfl⟩⟩

/-- A transfer is entered by what its op does at its start (R244, R307). -/
theorem Cluster.startXfer_eq_onStart (c : Cluster) (ch opc : Nat) :
    c.startXfer ch opc = c.onStart (qChan ch) opc (fun d o => d.enterXfer ch o) := rfl

theorem actsOnStart_transferOps (ch : ChanId) : ∀ p ∈ transferOps ch, ActsOnStart p.1 p.2.1 p.2.2 := by
  simp only [transferOps, List.forall_mem_cons, List.not_mem_nil, false_implies, implies_true, and_true]
  refine ⟨?_, ?_⟩
  all_goals exact ⟨_, fun s => congrArg (done s) (s.cl.startXfer_eq_onStart _ _)⟩

/-! DMARR alone can hold: what it waits for is looked at before it starts. -/

theorem Cluster.arrWaits_of_nullified {c : Cluster} {ch i t : Nat} {o : MacroOp} (h : c.nullified (qChan ch) i o t = true) :
    c.arrWaits ch i o t = false := by
  simp [Cluster.arrWaits, show c.nullified (48 + ch) i o t = true from h]

/-- Nullified, it ends without checking and never holds (R138). -/
theorem dmarrC_of_nullified {c : Cluster} {ch : Nat} {o : MacroOp} (hstart : c.starting (qChan ch) 0x42 = some o)
    (hnul : c.nullified (qChan ch) (c.queue (qChan ch)).started o c.lcc = true) :
    dmarrC c ch = (c.startOp (qChan ch) o).1 := by
  rw [dmarrC, hstart]
  exact if_neg (Bool.eq_false_iff.mp (Cluster.arrWaits_of_nullified hnul))

theorem Cluster.nullified_of_neverNul {o : MacroOp} (h : neverNul (opOpc o) = true) (c : Cluster) (q i t : Nat) :
    c.nullified q i o t = false := by
  simp [Cluster.nullified, h]

theorem neverNul_of_mem {opc : Nat} (h : opc ∈ [0x20, 0x24, 0x50, 0x52, 0x53]) : neverNul opc = true := by
  revert opc
  decide

end Sys2Proof.Machine

open Sys2Proof Sys2Proof.Machine

/-- Settles O25: every command but DMARR acts on the op that starts and on nothing else; a nullified DMARR waits for nothing. -/
theorem nullifiedOps : Obligations.NullifiedOps := by
  intro n a ch o s c q ops
  refine ⟨?_, fun hopc q i t => c.nullified_of_neverNul (neverNul_of_mem hopc) q i t⟩
  intro p hp hstart hnul
  have hsplit : ops = tileOps n ++ (vectorOps n ++ (arrayMarkers a ++ (transferOps ch ++ [(.dmarr ch, q, 0x42)]))) := rfl
  simp only [hsplit, List.mem_append, List.mem_singleton] at hp
  have honStart (hacts : ActsOnStart p.1 p.2.1 p.2.2) : exec p.1 s = .next (s.setCl (c.startOp p.2.1 o).1) :=
    hacts.exec_of_nullified hstart hnul
  obtain htile | hvec | hmarker | hxfer | rfl := hp
  · exact honStart (actsOnStart_tileOps n p htile)
  · exact honStart (actsOnStart_vectorOps n p hvec)
  · exact honStart (actsOnStart_arrayMarkers a p hmarker)
  · exact honStart (actsOnStart_transferOps ch p hxfer)
  · exact congrArg (done s) (dmarrC_of_nullified hstart hnul)

end

section
/-! Tiles: where their shapes, their empty bits and their bytes lie, and what a write of a row leaves in each (R22, R195,
R196, R199). -/

namespace Sys2Proof.Machine

/-! The registers of a tile. -/

theorem rTilCfg_eq (n t : Nat) : rTilCfg n t = 0x2010C000 + 0x10000 * n + 4 * t := by
  simp only [rTilCfg, rTil, rCore]
  omega

theorem rTilEmpty_eq (n t : Nat) : rTilEmpty n t = 0x2010C100 + 0x10000 * n + 0x10 * t := by
  simp only [rTilEmpty, rTil, rCore]
  omega

theorem Cluster.tileValid_lt {c : Cluster} {n t : Nat} (h : c.tileValid n t = true) : t < 24 := by
  simp only [Cluster.tileValid, Bool.and_eq_true, decide_eq_true_eq] at h
  exact h.1

theorem Cluster.tileRows_le (c : Cluster) (n t : Nat) : c.tileRows n t ≤ 128 := Nat.mod_lt _ (by decide)

theorem Cluster.tileB_pos (c : Cluster) (n t : Nat) : 0 < c.tileB n t := by simp [Cluster.tileB]

theorem Cluster.tileB_le (c : Cluster) (n t : Nat) : c.tileB n t ≤ 256 := by
  have : fld (c.tileCfg n t) 3 0 < 16 := Nat.mod_lt _ (by decide)
  rw [Cluster.tileB]
  omega

theorem Cluster.tileEmpty_lt (c : Cluster) (n t : Nat) : c.tileEmpty n t < 2 ^ 128 := by
  have := (c.regAt (rTilEmpty n t)).isLt
  have := (c.regAt (rTilEmpty n t + 8)).isLt
  rw [Cluster.tileEmpty]
  omega

/-- The configuration and the empty bits of a tile. -/
def Cluster.tileShape (c : Cluster) (n t : Nat) : W64 × Nat := (c.tileCfg n t, c.tileEmpty n t)

/-- What leaves the registers of a tile alone leaves its shape. -/
theorem Cluster.tileShape_congr {c d : Cluster} {n t : Nat} (hcfg : d.regAt (rTilCfg n t) = c.regAt (rTilCfg n t))
    (hlow : d.regAt (rTilEmpty n t) = c.regAt (rTilEmpty n t))
    (hhigh : d.regAt (rTilEmpty n t + 8) = c.regAt (rTilEmpty n t + 8)) : d.tileShape n t = c.tileShape n t := by
  simp only [Cluster.tileShape, Cluster.tileCfg, Cluster.tileEmpty, hcfg, hlow, hhigh]

theorem Cluster.tileShape_of_reg {c d : Cluster} (h : d.reg = c.reg) (n t : Nat) : d.tileShape n t = c.tileShape n t := by
  have hreg : ∀ x, d.regAt x = c.regAt x := fun x => by rw [Cluster.regAt, h, Cluster.regAt]
  exact Cluster.tileShape_congr (hreg _) (hreg _) (hreg _)

section
variable (c : Cluster) (n t v : Nat)

theorem Cluster.regAt_setTileEmpty_ne {x : Nat} (hlow : x ≠ rTilEmpty n t) (hhigh : x ≠ rTilEmpty n t + 8) :
    (c.setTileEmpty n t v).regAt x = c.regAt x := by
  rw [Cluster.setTileEmpty, Cluster.regAt_setReg_ne _ hhigh, Cluster.regAt_setReg_ne _ hlow]

/-- The empty bits lie apart from every configuration. -/
theorem Cluster.tileCfg_setTileEmpty (n' : Nat) {t' : Nat} (ht : t < 24) (ht' : t' < 24) :
    (c.setTileEmpty n t v).tileCfg n' t' = c.tileCfg n' t' := by
  refine Cluster.regAt_setTileEmpty_ne c n t v ?_ ?_
  all_goals rw [rTilCfg_eq, rTilEmpty_eq]; omega

variable {c v} in
theorem Cluster.tileShape_setTileEmpty_self (hc : c.canon) (ht : t < 24) (hv : v < 2 ^ 128) :
    (c.setTileEmpty n t v).tileShape n t = (c.tileCfg n t, v) := by
  have hne : rTilEmpty n t ≠ rTilEmpty n t + 8 := by omega
  refine Prod.ext (Cluster.tileCfg_setTileEmpty c n t v n ht ht) ?_
  show (c.setTileEmpty n t v).tileEmpty n t = v
  rw [Cluster.tileEmpty, Cluster.setTileEmpty, Cluster.regAt_setReg_self (Cluster.setReg_canon _ _ _ hc),
    Cluster.regAt_setReg_ne _ hne, Cluster.regAt_setReg_self hc, BitVec.toNat_ofNat, BitVec.toNat_ofNat]
  omega

/-- The empty bits of one tile lie apart from those of another. -/
theorem Cluster.tileShape_setTileEmpty_ne {n' t' : Nat} (ht : t < 24) (ht' : t' < 24) (h : n' ≠ n ∨ t' ≠ t) :
    (c.setTileEmpty n t v).tileShape n' t' = c.tileShape n' t' := by
  refine Cluster.tileShape_congr (Cluster.tileCfg_setTileEmpty c n t v n' ht ht') ?_ ?_
  all_goals
    refine Cluster.regAt_setTileEmpty_ne c n t v ?_ ?_
    all_goals rw [rTilEmpty_eq, rTilEmpty_eq]; omega

end

/-! The bytes of a tile. -/

/-- Does row r of a tile hold bytes: it is configured, has the row, and the row is not empty (R196, R199)? -/
def Cluster.rowHeld (c : Cluster) (n t r : Nat) : Bool :=
  c.tileValid n t && decide (r < c.tileRows n t) && !(c.tileEmpty n t).testBit r

/-- Local address of byte j of row r of a tile (R22, R196). -/
def Cluster.rowByteAt (c : Cluster) (n t r j : Nat) : Nat := tileSlot n t + (r * c.tileB n t + j)

theorem Cluster.rowHeld_iff {c : Cluster} {n t r : Nat} :
    c.rowHeld n t r = true ↔ c.tileValid n t = true ∧ r < c.tileRows n t ∧ (c.tileEmpty n t).testBit r = false := by
  simp [Cluster.rowHeld, and_assoc]

section
variable (c : Cluster) (n t : Nat)

theorem Cluster.tileRow_eq (r : Nat) : c.tileRow n t r =
    if c.rowHeld n t r then Memory.bytes c.mem (tileSlot n t + r * c.tileB n t) (c.tileB n t) else List.replicate (c.tileB n t) 0 := rfl

theorem Cluster.tileByte_eq (k : Nat) :
    c.tileByte n t k = if c.rowHeld n t (k / c.tileB n t) then Memory.byte c.mem (tileSlot n t + k) else 0 := rfl

theorem Cluster.tileByte_row (r : Nat) {j : Nat} (hj : j < c.tileB n t) :
    c.tileByte n t (r * c.tileB n t + j) = if c.rowHeld n t r then Memory.byte c.mem (c.rowByteAt n t r j) else 0 := by
  have hrow : (r * c.tileB n t + j) / c.tileB n t = r := by
    rw [Nat.mul_comm, Nat.mul_add_div (c.tileB_pos n t), Nat.div_eq_of_lt hj, Nat.add_zero]
  rw [Cluster.tileByte_eq, hrow]
  rfl

@[simp] theorem Cluster.tileRow_length (r : Nat) : (c.tileRow n t r).length = c.tileB n t := by
  rw [Cluster.tileRow_eq]
  split
  · exact Memory.bytes_length _ _ _
  · exact List.length_replicate

/-- The bytes of a row are those of the tile as one stream. -/
theorem Cluster.tileRow_getD (r : Nat) {j : Nat} (hj : j < c.tileB n t) :
    (c.tileRow n t r).getD j 0 = c.tileByte n t (r * c.tileB n t + j) := by
  rw [Cluster.tileByte_row c n t r hj, Cluster.tileRow_eq, List.getD_eq_getElem?_getD]
  split
  · rw [Memory.bytes_get, if_pos hj, Cluster.rowByteAt, Nat.add_assoc]
  · simp [hj]

end

theorem Cluster.tileCfg_fields {c d : Cluster} {n t : Nat} (h : d.tileCfg n t = c.tileCfg n t) :
    d.tileValid n t = c.tileValid n t ∧ d.tileRows n t = c.tileRows n t ∧ d.tileB n t = c.tileB n t := by
  simp only [Cluster.tileValid, Cluster.tileRows, Cluster.tileB, h, and_self]

/-- A row reads the same where the tile keeps its configuration and the row its empty bit and its bytes. -/
theorem Cluster.tileByte_row_congr {c d : Cluster} {n t r j : Nat} (hcfg : d.tileCfg n t = c.tileCfg n t)
    (hempty : (d.tileEmpty n t).testBit r = (c.tileEmpty n t).testBit r) (hj : j < c.tileB n t)
    (hmem : c.rowHeld n t r = true → Memory.byte d.mem (c.rowByteAt n t r j) = Memory.byte c.mem (c.rowByteAt n t r j)) :
    d.tileByte n t (r * c.tileB n t + j) = c.tileByte n t (r * c.tileB n t + j) := by
  obtain ⟨hvalid, hrows, hB⟩ := Cluster.tileCfg_fields hcfg
  have hheld : d.rowHeld n t r = c.rowHeld n t r := by
    rw [Cluster.rowHeld, hvalid, hrows, hempty, Cluster.rowHeld]
  have haddr : d.rowByteAt n t r j = c.rowByteAt n t r j := by rw [Cluster.rowByteAt, hB, Cluster.rowByteAt]
  rw [c.tileByte_row n t r hj, ← hB, d.tileByte_row n t r (hB.symm ▸ hj), hheld, haddr]
  split
  · next hrow => exact hmem hrow
  · rfl

/-- A number that is not one of a tile reads as zero (R199). -/
theorem Cluster.tileByte_of_no_tile (c : Cluster) (n : Nat) {t : Nat} (ht : 24 ≤ t) (k : Nat) : c.tileByte n t k = 0 := by
  rw [Cluster.tileByte_eq, if_neg]
  intro hheld
  have := Cluster.tileValid_lt (Cluster.rowHeld_iff.mp hheld).1
  omega

/-- The bytes of a row that a tile has lie in its slot (R22). -/
theorem Cluster.row_in_slot {c : Cluster} {n t r : Nat} (hr : r < c.tileRows n t) :
    r * c.tileB n t + c.tileB n t ≤ 0x8000 := by
  have hrows := c.tileRows_le n t
  calc r * c.tileB n t + c.tileB n t = (r + 1) * c.tileB n t := (Nat.succ_mul _ _).symm
    _ ≤ 128 * 256 := Nat.mul_le_mul (by omega) (c.tileB_le n t)

/-- What keeps the shape of a tile and the bytes of its slot keeps what it reads as. -/
theorem Cluster.tileByte_congr {c d : Cluster} {n t : Nat} (hshape : d.tileShape n t = c.tileShape n t)
    (hmem : ∀ k < 0x8000, Memory.byte d.mem (tileSlot n t + k) = Memory.byte c.mem (tileSlot n t + k)) (k : Nat) :
    d.tileByte n t k = c.tileByte n t k := by
  obtain ⟨hcfg, hempty⟩ := Prod.mk.inj hshape
  have hj : k % c.tileB n t < c.tileB n t := Nat.mod_lt _ (c.tileB_pos n t)
  have hk : k / c.tileB n t * c.tileB n t + k % c.tileB n t = k := Nat.div_add_mod' k _
  have hrow := Cluster.tileByte_row_congr (d := d) (r := k / c.tileB n t) hcfg (by rw [hempty]) hj fun hheld =>
    hmem _ (by have := Cluster.row_in_slot (Cluster.rowHeld_iff.mp hheld).2.1; omega)
  rwa [hk] at hrow

/-! A write of bytes into a row (R196, R199). -/

/-- A number less one of its bits. -/
theorem testBit_sub_two_pow {r e : Nat} (h : e.testBit r = true) (i : Nat) :
    (e - 2 ^ r).testBit i = (e.testBit i && decide (i ≠ r)) := by
  induction r generalizing e i with
  | zero =>
    have hodd : e % 2 = 1 := by simpa using h
    cases i with
    | zero =>
      have : (e - 1) % 2 = 0 := by omega
      simp [this]
    | succ i =>
      have : (e - 1) / 2 = e / 2 := by omega
      simp [Nat.testBit_add_one, this]
  | succ r ih =>
    rw [Nat.testBit_add_one] at h
    have hpow : 2 ^ (r + 1) = 2 * 2 ^ r := Nat.pow_succ'
    cases i with
    | zero =>
      have hle : 2 ^ r ≤ e / 2 := Nat.ge_two_pow_of_testBit h
      have : (e - 2 ^ (r + 1)) % 2 = e % 2 := by omega
      simp [this]
    | succ i =>
      have : (e - 2 ^ (r + 1)) / 2 = e / 2 - 2 ^ r := by omega
      rw [Nat.testBit_add_one, this, ih h, Nat.testBit_add_one]
      simp

section
variable {c : Cluster} {n t r off : Nat} {bs : List Byte} (hvalid : c.tileValid n t = true) (hr : r < c.tileRows n t)
  (hbs : 0 < bs.length) (hfit : off + bs.length ≤ c.tileB n t)

/-- The memory that a write into row r leaves: an empty row is zeroed first (R196). -/
def Cluster.memAfterRow (c : Cluster) (n t r off : Nat) (bs : List Byte) : Memory :=
  let base := tileSlot n t + r * c.tileB n t
  Memory.write (if (c.tileEmpty n t).testBit r then Sparse.clearRange (w := 8) c.mem base (base + c.tileB n t) else c.mem)
    (base + off) bs

/-- The empty bits that a write into row r leaves (R196). -/
def Cluster.emptyAfterRow (c : Cluster) (n t r : Nat) : Nat :=
  if (c.tileEmpty n t).testBit r then c.tileEmpty n t - 2 ^ r else c.tileEmpty n t

theorem Cluster.testBit_emptyAfterRow (i : Nat) :
    (c.emptyAfterRow n t r).testBit i = ((c.tileEmpty n t).testBit i && decide (i ≠ r)) := by
  unfold Cluster.emptyAfterRow
  split
  · next h => exact testBit_sub_two_pow h i
  · next h =>
    by_cases hi : i = r
    · subst hi
      simp [h]
    · simp [hi]

theorem Cluster.emptyAfterRow_lt (c : Cluster) (n t r : Nat) : c.emptyAfterRow n t r < 2 ^ 128 := by
  unfold Cluster.emptyAfterRow
  split
  · exact (Nat.sub_le _ _).trans_lt (c.tileEmpty_lt n t)
  · exact c.tileEmpty_lt n t

theorem Cluster.canon_memAfterRow (hc : c.canon) : ({ c with mem := c.memAfterRow n t r off bs } : Cluster).canon := by
  refine ⟨Memory.wf_write _ _ ?_, hc.2⟩
  split
  · exact Sparse.wf_clearRange _ _ hc.mem
  · exact hc.mem

include hfit in
/-- Outside row r memory stands. -/
theorem Cluster.byte_memAfterRow_out {a : Nat}
    (ha : a < tileSlot n t + r * c.tileB n t ∨ tileSlot n t + r * c.tileB n t + c.tileB n t ≤ a) :
    Memory.byte (c.memAfterRow n t r off bs) a = Memory.byte c.mem a := by
  rw [Cluster.memAfterRow, Memory.byte_write_out _ (by omega)]
  split
  · exact Sparse.get_clearRange_out _ _ _ _ ha
  · rfl

/-- In row r the bytes written stand, and the others as before or, where it was empty, at zero. -/
theorem Cluster.byte_memAfterRow_in {j : Nat} (hj : j < c.tileB n t) :
    Memory.byte (c.memAfterRow n t r off bs) (c.rowByteAt n t r j) =
      if off ≤ j ∧ j < off + bs.length then bs.getD (j - off) 0
      else if (c.tileEmpty n t).testBit r then 0 else Memory.byte c.mem (c.rowByteAt n t r j) := by
  have haddr : c.rowByteAt n t r j = tileSlot n t + r * c.tileB n t + j := (Nat.add_assoc _ _ _).symm
  rw [Cluster.memAfterRow, haddr]
  by_cases hin : off ≤ j ∧ j < off + bs.length
  · have hsum : tileSlot n t + r * c.tileB n t + j = tileSlot n t + r * c.tileB n t + off + (j - off) := by omega
    rw [if_pos hin, hsum, Memory.byte_write_in _ _ _ (by omega)]
  · rw [if_neg hin, Memory.byte_write_out _ (by omega)]
    split
    · refine Sparse.get_filter_out (w := 8) (fun a => decide (a < tileSlot n t + r * c.tileB n t)
        || decide (tileSlot n t + r * c.tileB n t + c.tileB n t ≤ a)) _ _ ?_
      simpa using hj
    · rfl

include hvalid hr hbs hfit

/-- A write that fits its row changes memory and the row's empty bit. -/
theorem Cluster.tileWrite_eq : c.tileWrite n t r off bs =
    if (c.tileEmpty n t).testBit r then
      ({ c with mem := c.memAfterRow n t r off bs } : Cluster).setTileEmpty n t (c.emptyAfterRow n t r)
    else { c with mem := c.memAfterRow n t r off bs } := by
  have htake : bs.take (c.tileB n t - off) = bs := List.take_of_length_le (by omega)
  have hsome : bs.isEmpty = false := by
    rw [List.isEmpty_eq_false_iff]
    exact List.ne_nil_of_length_pos hbs
  simp only [Cluster.tileWrite, hvalid, hr, decide_true, Bool.and_self, if_true, htake, hsome, Bool.false_eq_true, if_false,
    Cluster.memAfterRow, Cluster.emptyAfterRow]
  split <;> rfl

theorem Cluster.tileWrite_mem : (c.tileWrite n t r off bs).mem = c.memAfterRow n t r off bs := by
  rw [Cluster.tileWrite_eq hvalid hr hbs hfit]
  split <;> rfl

/-- The shape of another tile stands. -/
theorem Cluster.tileShape_tileWrite_ne {n' t' : Nat} (ht' : t' < 24) (h : n' ≠ n ∨ t' ≠ t) :
    (c.tileWrite n t r off bs).tileShape n' t' = c.tileShape n' t' := by
  have hmem : ∀ m, ({ c with mem := m } : Cluster).tileShape n' t' = c.tileShape n' t' := fun m => Cluster.tileShape_of_reg rfl n' t'
  rw [Cluster.tileWrite_eq hvalid hr hbs hfit]
  split
  · rw [Cluster.tileShape_setTileEmpty_ne _ n t _ (Cluster.tileValid_lt hvalid) ht' h, hmem]
  · exact hmem _

/-- The tile keeps its configuration, and row r is not empty any more. -/
theorem Cluster.tileShape_tileWrite_self (hc : c.canon) :
    (c.tileWrite n t r off bs).tileShape n t = (c.tileCfg n t, c.emptyAfterRow n t r) := by
  have hmem : ∀ m, ({ c with mem := m } : Cluster).tileShape n t = c.tileShape n t := fun m => Cluster.tileShape_of_reg rfl n t
  rw [Cluster.tileWrite_eq hvalid hr hbs hfit]
  split
  · rw [Cluster.tileShape_setTileEmpty_self n t (Cluster.canon_memAfterRow hc) (Cluster.tileValid_lt hvalid)
      (c.emptyAfterRow_lt n t r)]
    exact congrArg (fun p => (Prod.fst p, _)) (hmem _)
  · next h => rw [hmem, Cluster.emptyAfterRow, if_neg h, Cluster.tileShape]

section
variable (hc : c.canon)
include hc

theorem Cluster.testBit_tileEmpty_tileWrite (i : Nat) :
    ((c.tileWrite n t r off bs).tileEmpty n t).testBit i = ((c.tileEmpty n t).testBit i && decide (i ≠ r)) := by
  rw [(Prod.mk.inj (Cluster.tileShape_tileWrite_self hvalid hr hbs hfit hc)).2, Cluster.testBit_emptyAfterRow]

/-- Row r reads as the bytes written, and beside them as before (R196). -/
theorem Cluster.tileByte_tileWrite_row {j : Nat} (hj : j < c.tileB n t) :
    (c.tileWrite n t r off bs).tileByte n t (r * c.tileB n t + j) =
      if off ≤ j ∧ j < off + bs.length then bs.getD (j - off) 0
      else if (c.tileEmpty n t).testBit r then 0 else c.tileByte n t (r * c.tileB n t + j) := by
  obtain ⟨hV, hR, hB⟩ := Cluster.tileCfg_fields (Prod.mk.inj (Cluster.tileShape_tileWrite_self hvalid hr hbs hfit hc)).1
  have hheld : (c.tileWrite n t r off bs).rowHeld n t r = true :=
    Cluster.rowHeld_iff.mpr ⟨hV.trans hvalid, hR.symm ▸ hr, by simp [Cluster.testBit_tileEmpty_tileWrite hvalid hr hbs hfit hc]⟩
  have haddr : (c.tileWrite n t r off bs).rowByteAt n t r j = c.rowByteAt n t r j := by
    rw [Cluster.rowByteAt, hB, Cluster.rowByteAt]
  have hbefore : (c.tileEmpty n t).testBit r = false →
      c.tileByte n t (r * c.tileB n t + j) = Memory.byte c.mem (c.rowByteAt n t r j) := fun hwritten => by
    rw [c.tileByte_row n t r hj, if_pos (Cluster.rowHeld_iff.mpr ⟨hvalid, hr, hwritten⟩)]
  have hd := (c.tileWrite n t r off bs).tileByte_row n t r (hB.symm ▸ hj)
  rw [hheld, if_pos rfl, haddr, hB, Cluster.tileWrite_mem hvalid hr hbs hfit, Cluster.byte_memAfterRow_in hj] at hd
  rw [hd]
  split
  · rfl
  · split
    · rfl
    · next h => exact (hbefore (Bool.eq_false_iff.mpr h)).symm

/-- Every other row of the tile reads as before. -/
theorem Cluster.tileByte_tileWrite_row_ne {r' j : Nat} (hne : r' ≠ r) (hj : j < c.tileB n t) :
    (c.tileWrite n t r off bs).tileByte n t (r' * c.tileB n t + j) = c.tileByte n t (r' * c.tileB n t + j) := by
  refine Cluster.tileByte_row_congr (Prod.mk.inj (Cluster.tileShape_tileWrite_self hvalid hr hbs hfit hc)).1 ?_ hj fun _ => ?_
  · simp [Cluster.testBit_tileEmpty_tileWrite hvalid hr hbs hfit hc, hne]
  · rw [Cluster.tileWrite_mem hvalid hr hbs hfit, Cluster.byte_memAfterRow_out hfit]
    rw [Cluster.rowByteAt]
    rcases Nat.lt_or_gt_of_ne hne with h | h
    · have := Nat.mul_le_mul_right (c.tileB n t) (Nat.succ_le_of_lt h)
      rw [Nat.succ_mul] at this
      omega
    · have := Nat.mul_le_mul_right (c.tileB n t) (Nat.succ_le_of_lt h)
      rw [Nat.succ_mul] at this
      omega

omit hc

/-- Every other tile reads as before. -/
theorem Cluster.tileByte_tileWrite_tile_ne {n' t' : Nat} (hne : n' ≠ n ∨ t' ≠ t) (k : Nat) :
    (c.tileWrite n t r off bs).tileByte n' t' k = c.tileByte n' t' k := by
  rcases Nat.lt_or_ge t' 24 with ht' | ht'
  · refine Cluster.tileByte_congr (Cluster.tileShape_tileWrite_ne hvalid hr hbs hfit ht' hne) (fun k hk => ?_) k
    have ht := Cluster.tileValid_lt hvalid
    have hslot := Cluster.row_in_slot hr
    rw [Cluster.tileWrite_mem hvalid hr hbs hfit, Cluster.byte_memAfterRow_out hfit]
    simp only [tileSlot]
    omega
  · rw [Cluster.tileByte_of_no_tile _ _ ht', Cluster.tileByte_of_no_tile _ _ ht']

end

end

end Sys2Proof.Machine

open Sys2Proof Sys2Proof.Machine

/-- Settles O26, from what a write of a row leaves in the row, in the tile's other rows and in the other tiles. -/
theorem emptyRows : Obligations.EmptyRows := by
  intro c n t r b empty hc hvalid hr
  refine ⟨fun hempty j hj => ?_, fun off bs hbs hfit => ⟨fun j hj => ?_, ?_, fun r' j hne hj => ?_, fun n' t' k hne => ?_⟩⟩
  · have hheld : ¬ c.rowHeld n.val t r = true := by
      rw [Cluster.rowHeld_iff]
      rintro ⟨-, -, hwritten⟩
      exact absurd (hempty.symm.trans hwritten) (by decide)
    exact (c.tileByte_row n.val t r hj).trans (if_neg hheld)
  · exact Cluster.tileByte_tileWrite_row hvalid hr hbs hfit hc hj
  · simp [Cluster.testBit_tileEmpty_tileWrite hvalid hr hbs hfit hc]
  · exact Cluster.tileByte_tileWrite_row_ne hvalid hr hbs hfit hc hne hj
  · have hapart : n'.val ≠ n.val ∨ t' ≠ t := by
      rw [← not_and_or]
      rintro ⟨hn, rfl⟩
      exact hne (congrArg (·, t') (Fin.ext hn))
    exact Cluster.tileByte_tileWrite_tile_ne hvalid hr hbs hfit hapart k

end

section
/-! The tile-configuration ops: their start, and what each changes at the end of its cycle (R198 to R203, R232, R233). -/

namespace Sys2Proof.Machine

/-! The start of an op that is not nullified. -/

theorem Cluster.onStart_started {c : Cluster} {q opc : Nat} {o : MacroOp} (f : Cluster → MacroOp → Cluster)
    (hstart : c.starting q opc = some o) (hnul : c.nullified q (c.queue q).started o c.lcc = false) :
    c.onStart q opc f = f (c.startOp q o).1 o :=
  (Cluster.onStart_starting f hstart).trans (if_neg (Bool.eq_false_iff.mp hnul))

/-- A tile-configuration op waits for the end of its cycle, behind every write (R198). -/
theorem Cluster.postConfig_startOp (c : Cluster) (q n : Nat) (o : MacroOp) :
    let d := (c.startOp q o).1
    d.postConfig n o = { d with posts := d.posts ++ [⟨c.lcc, 9, .config n o⟩] } := by
  intro d
  have hlcc : d.lcc = c.lcc := c.startOp_lcc q o
  rw [Cluster.postConfig, hlcc]
  rfl

/-! The tiles of a mask (R232). -/

theorem testBit_fld {w : Nat} (x : BitVec w) (hi lo i : Nat) :
    (fld x hi lo).testBit i = (decide (i < hi + 1 - lo) && x.getLsbD (lo + i)) := by
  rw [fld, Nat.testBit_mod_two_pow, Nat.testBit_shiftRight]
  rfl

theorem mem_bitsOf {n v i : Nat} : i ∈ bitsOf n v ↔ i < n ∧ v.testBit i = true := by simp [bitsOf]

/-- The masks name tiles 0 to 15 and 16 to 23. -/
theorem mem_maskTiles (o : MacroOp) (t : Nat) :
    t ∈ maskTiles o ↔ t < 24 ∧ o.getLsbD (if t < 16 then 176 + t else 152 + t) = true := by
  simp only [maskTiles, List.mem_append, List.mem_map, mem_bitsOf, testBit_fld, Bool.and_eq_true, decide_eq_true_eq]
  split
  · next ht =>
    constructor
    · rintro (⟨-, -, hbit⟩ | ⟨u, -, rfl⟩)
      · exact ⟨by omega, hbit⟩
      · omega
    · rintro ⟨-, hbit⟩
      exact .inl ⟨ht, by omega, hbit⟩
  · next ht =>
    constructor
    · rintro (⟨hlow, -⟩ | ⟨u, ⟨hu, -, hbit⟩, rfl⟩)
      · omega
      · rw [show 152 + (u + 16) = 168 + u by omega]
        exact ⟨by omega, hbit⟩
    · rintro ⟨hlt, hbit⟩
      refine .inr ⟨t - 16, ⟨by omega, by omega, ?_⟩, by omega⟩
      rwa [show 168 + (t - 16) = 152 + t by omega]

/-! Shapes given to tiles (R197, R200, R203). -/

/-- A tile with a configuration and empty bits. -/
def Cluster.setTileShape (c : Cluster) (n t : Nat) (cfg : W64) (e : Nat) : Cluster :=
  (c.setReg (rTilCfg n t) cfg).setTileEmpty n t e

theorem Cluster.tileRelease_eq (c : Cluster) (n t : Nat) : c.tileRelease n t = c.setTileShape n t 0 (2 ^ 128 - 1) := rfl

theorem Cluster.tileValid_of_zero {c : Cluster} {n t : Nat} (h : c.tileCfg n t = 0) : c.tileValid n t = false := by
  simp [Cluster.tileValid, h, bitAt]

section
variable {c : Cluster} (n : Nat) (cfg : W64) {t e : Nat}

theorem Cluster.setTileShape_canon (hc : c.canon) (y : Nat) : (c.setTileShape n y cfg e).canon :=
  Cluster.setTileEmpty_canon _ _ _ _ (Cluster.setReg_canon _ _ _ hc)

theorem Cluster.tileShape_setTileShape_self (hc : c.canon) (ht : t < 24) (he : e < 2 ^ 128) :
    (c.setTileShape n t cfg e).tileShape n t = (cfg, e) := by
  rw [Cluster.setTileShape, Cluster.tileShape_setTileEmpty_self n t (Cluster.setReg_canon _ _ _ hc) ht he, Cluster.tileCfg,
    Cluster.regAt_setReg_self hc]

theorem Cluster.tileShape_setTileShape_ne {y : Nat} (ht : t < 24) (hy : y < 24) (hne : t ≠ y) :
    (c.setTileShape n y cfg e).tileShape n t = c.tileShape n t := by
  rw [Cluster.setTileShape, Cluster.tileShape_setTileEmpty_ne _ _ _ _ hy ht (.inr hne)]
  refine Cluster.tileShape_congr ?_ ?_ ?_
  all_goals
    refine Cluster.regAt_setReg_ne _ ?_
    simp only [rTilEmpty_eq, rTilCfg_eq]
    omega

theorem Cluster.each_cons {α : Type} (c : Cluster) (x : α) (xs : List α) (f : Cluster → α → Cluster) :
    c.each (x :: xs) f = (f c x).each xs f := rfl

/-- A shape given to the tiles of a list is that of each of them, and of no other tile. -/
theorem Cluster.tileShape_each_setTileShape (hc : c.canon) (ht : t < 24) (he : e < 2 ^ 128) {l : List Nat} (hl : ∀ y ∈ l, y < 24) :
    (c.each l (fun d y => d.setTileShape n y cfg e)).tileShape n t = if t ∈ l then (cfg, e) else c.tileShape n t := by
  induction l generalizing c with
  | nil => rfl
  | cons y ys ih =>
    obtain ⟨hy, hys⟩ := List.forall_mem_cons.mp hl
    have hrest := ih (Cluster.setTileShape_canon n cfg (e := e) hc y) hys
    rw [Cluster.each_cons, hrest]
    by_cases hty : t = y
    · subst hty
      rw [Cluster.tileShape_setTileShape_self n cfg hc ht he, ite_self, if_pos List.mem_cons_self]
    · simp only [List.mem_cons, hty, false_or, Cluster.tileShape_setTileShape_ne n cfg ht hy hty]

theorem Cluster.setTileShape_mem (c : Cluster) (y : Nat) : (c.setTileShape n y cfg e).mem = c.mem := by
  simp only [Cluster.setTileShape, Cluster.setTileEmpty, Cluster.setReg_mem]
theorem Cluster.setTileShape_arrs (c : Cluster) (y : Nat) : (c.setTileShape n y cfg e).arrs = c.arrs := by
  simp only [Cluster.setTileShape, Cluster.setTileEmpty, Cluster.setReg_arrs]
theorem Cluster.setTileShape_cores (c : Cluster) (y : Nat) : (c.setTileShape n y cfg e).cores = c.cores := by
  simp only [Cluster.setTileShape, Cluster.setTileEmpty, Cluster.setReg_cores]

theorem Cluster.each_setTileShape_keeps (c : Cluster) (l : List Nat) :
    let d := c.each l (fun d y => d.setTileShape n y cfg e)
    d.mem = c.mem ∧ d.arrs = c.arrs ∧ d.cores = c.cores :=
  ⟨Cluster.each_keeps Cluster.mem (Cluster.setTileShape_mem n cfg) l c,
    Cluster.each_keeps Cluster.arrs (Cluster.setTileShape_arrs n cfg) l c,
    Cluster.each_keeps Cluster.cores (Cluster.setTileShape_cores n cfg) l c⟩

end

/-! The geometry that a TCFG gives (R195, R200). -/

/-- TIL_CFG of a tile of rows + 1 rows of 16 * (rb + 1) bytes. -/
def geometryWord (rows rb : Nat) : W64 := BitVec.ofNat 64 (2 ^ 11 + rows * 2 ^ 4 + rb)

theorem geometryWord_eq {rows rb : Nat} (hrows : rows < 128) (hrb : rb < 16) :
    placeB true 11 ||| place rows 4 ||| place rb 0 = geometryWord rows rb := by
  have hlow : place rb 0 = BitVec.ofNat 64 rb := rfl
  rw [hlow, placeB_eq, BitVec.or_assoc, place_or_ofNat _ (by omega), place_or_ofNat _ (by omega), geometryWord, Bool.toNat_true,
    one_mul, add_assoc]

theorem Cluster.tileGeometry_eq (c : Cluster) (n t : Nat) {rows rb : Nat} (hrows : rows < 128) (hrb : rb < 16) :
    c.tileGeometry n t rows rb = c.setTileShape n t (geometryWord rows rb) (2 ^ 128 - 1) := by
  rw [Cluster.tileGeometry, geometryWord_eq hrows hrb, Cluster.setTileShape]

theorem Cluster.tile_of_geometryWord {c : Cluster} {n t rows rb : Nat} (hrows : rows < 128) (hrb : rb < 16) (ht : t < 24)
    (h : c.tileCfg n t = geometryWord rows rb) :
    c.tileValid n t = true ∧ c.tileRows n t = rows + 1 ∧ c.tileB n t = 16 * (rb + 1) := by
  refine ⟨?_, ?_, ?_⟩
  · have hbit : bitAt (geometryWord rows rb) 11 = true := by
      rw [bitAt, geometryWord, BitVec.getLsbD_ofNat, Nat.testBit_eq_decide_div_mod_eq]
      simp only [Nat.reduceLT, decide_true, Bool.true_and, decide_eq_true_eq]
      omega
    rw [Cluster.tileValid, h, hbit, decide_eq_true ht, Bool.and_self]
  · simp only [Cluster.tileRows, h, fld, geometryWord, BitVec.toNat_ofNat, Nat.shiftRight_eq_div_pow]
    omega
  · simp only [Cluster.tileB, h, fld, geometryWord, BitVec.toNat_ofNat, Nat.shiftRight_eq_div_pow]
    omega

/-! A TCFG that meets a reference (R202). -/

section
variable {c : Cluster}

theorem Cluster.keepTorn_reg (k : Nat) : (c.keepTorn k).reg = c.reg := by
  unfold Cluster.keepTorn
  split <;> rfl

/-- A teardown counts in its context's accounting (R391), and leaves every other register. -/
theorem Cluster.regAt_teardown_ne {k x : Nat} (hcount : x ≠ 0x20074000 + 0x100 * k + 8 * 15)
    (hsticky : x ≠ 0x20074000 + 0x100 * k + 0x80) : (c.teardown k).regAt x = c.regAt x := by
  unfold Cluster.teardown
  dsimp only
  split
  · rw [Cluster.regAt, Cluster.keepTorn_reg, Cluster.regAt]
  · exact Cluster.regAt_account_ne 1 hcount hsticky

theorem Cluster.regAt_raise_ne (src inst : Nat) {k x : Nat} (hcount : x ≠ 0x20074000 + 0x100 * k + 8 * 15)
    (hsticky : x ≠ 0x20074000 + 0x100 * k + 0x80) : (c.raise src inst k).regAt x = c.regAt x := by
  unfold Cluster.raise
  split
  · rfl
  · next i _ =>
    show (if i.scope = 1 then c.teardown k else c).regAt x = c.regAt x
    split
    · exact Cluster.regAt_teardown_ne hcount hsticky
    · rfl

/-- The TILE_CFG_BUSY record and its fault change two registers of the tile mover and the accounting of a context. -/
theorem Cluster.regAt_cfgBusy_ne (n : Nat) (o : MacroOp) (refs : List TileRef) {x : Nat} (hx : 0x20080000 ≤ x)
    (hrecord : x ≠ rTil n + 0x308) (hstamp : x ≠ rTil n + 0x310) : (c.cfgBusy n o refs).regAt x = c.regAt x := by
  have hctx := opCtx_lt o
  have hcount : x ≠ 0x20074000 + 0x100 * opCtx o + 8 * 15 := by omega
  have hsticky : x ≠ 0x20074000 + 0x100 * opCtx o + 0x80 := by omega
  refine (Cluster.regAt_raise_ne _ _ hcount hsticky).trans ?_
  split
  · rfl
  · rw [Cluster.regAt_setReg_ne _ hstamp, Cluster.regAt_setReg_ne _ hrecord]

/-- They leave the shape of every tile. -/
theorem Cluster.tileShape_cfgBusy (n : Nat) (o : MacroOp) (refs : List TileRef) {t : Nat} (ht : t < 24) :
    (c.cfgBusy n o refs).tileShape n t = c.tileShape n t := by
  have hbase : rTil n = 0x2010C000 + 0x10000 * n := rTilCfg_eq n 0
  have hcfg := rTilCfg_eq n t
  have hempty := rTilEmpty_eq n t
  have hkeep : ∀ x, 0x20080000 ≤ x → x < rTil n + 0x308 → (c.cfgBusy n o refs).regAt x = c.regAt x :=
    fun x hx hlt => Cluster.regAt_cfgBusy_ne n o refs hx (by omega) (by omega)
  have hkeepCfg := hkeep (rTilCfg n t) (by omega) (by omega)
  have hkeepLow := hkeep (rTilEmpty n t) (by omega) (by omega)
  have hkeepHigh := hkeep (rTilEmpty n t + 8) (by omega) (by omega)
  exact Cluster.tileShape_congr hkeepCfg hkeepLow hkeepHigh

end

/-! Rows made empty (R203). -/

theorem testBit_rowMask (r0 cnt : Nat) {r : Nat} (hr : r < 128) :
    (((2 ^ cnt - 1) <<< r0) % 2 ^ 128).testBit r = (decide (r0 ≤ r) && decide (r < r0 + cnt)) := by
  rw [Nat.testBit_mod_two_pow, Nat.testBit_shiftLeft, Nat.testBit_two_pow_sub_one, decide_eq_true hr, Bool.true_and]
  by_cases h : r0 ≤ r
  · simp [h]
    omega
  · simp [h]

theorem Cluster.emptyRows_keeps (c : Cluster) (n t r0 cnt : Nat) :
    let d := c.emptyRows n t r0 cnt
    d.mem = c.mem ∧ d.arrs = c.arrs ∧ d.cores = c.cores := by
  unfold Cluster.emptyRows
  split <;> exact ⟨rfl, rfl, rfl⟩

/-- A configured tile gets the rows named empty and keeps its configuration; every other tile stands. -/
theorem Cluster.tileShape_emptyRows {c : Cluster} (hc : c.canon) (n u r0 cnt : Nat) {t : Nat} (ht : t < 24) :
    (c.emptyRows n u r0 cnt).tileShape n t = if t = u ∧ c.tileValid n t = true
      then (c.tileCfg n t, c.tileEmpty n t ||| (((2 ^ cnt - 1) <<< r0) % 2 ^ 128)) else c.tileShape n t := by
  by_cases hnamed : t = u ∧ c.tileValid n t = true
  · obtain ⟨rfl, hvalid⟩ := hnamed
    have hbound : c.tileEmpty n t ||| (((2 ^ cnt - 1) <<< r0) % 2 ^ 128) < 2 ^ 128 :=
      Nat.or_lt_two_pow (c.tileEmpty_lt n t) (Nat.mod_lt _ (by decide))
    rw [if_pos ⟨rfl, hvalid⟩, Cluster.emptyRows, if_pos hvalid, Cluster.tileShape_setTileEmpty_self n t hc ht hbound]
  · rw [if_neg hnamed, Cluster.emptyRows]
    split
    · next hvalid =>
      have hne : t ≠ u := by
        rintro rfl
        exact hnamed ⟨rfl, hvalid⟩
      exact Cluster.tileShape_setTileEmpty_ne c n u _ (Cluster.tileValid_lt hvalid) ht (.inr hne)
    · rfl

/-! What each op does at the end of its cycle (R198). -/

section
variable (c : Cluster) (n : Nat) {o : MacroOp}

theorem Cluster.deliver_tcfg (hopc : opOpc o = 0x20) : c.deliver (.config n o) =
    if c.busyRefs n c.lcc (maskTiles o) = [] then
      c.each (maskTiles o) (fun d t => d.setTileShape n t (geometryWord (fld o 167 161) (fld o 160 157)) (2 ^ 128 - 1))
    else c.cfgBusy n o (c.busyRefs n c.lcc (maskTiles o)) := by
  have hgeometry : (fun (d : Cluster) t => d.tileGeometry n t (fld o 167 161) (fld o 160 157))
      = fun d t => d.setTileShape n t (geometryWord (fld o 167 161) (fld o 160 157)) (2 ^ 128 - 1) :=
    funext fun d => funext fun t => d.tileGeometry_eq n t (Nat.mod_lt _ (by decide)) (Nat.mod_lt _ (by decide))
  simp only [Cluster.deliver, Cluster.doConfig, hopc, Cluster.doTcfg, List.isEmpty_iff, hgeometry]

theorem Cluster.deliver_trel (hopc : opOpc o = 0x24) :
    c.deliver (.config n o) = c.each (maskTiles o) (fun d t => d.setTileShape n t 0 (2 ^ 128 - 1)) := by
  simp only [Cluster.deliver, Cluster.doConfig, hopc, Cluster.tileRelease_eq]

theorem Cluster.deliver_tzero (hopc : opOpc o = 0x25) :
    c.deliver (.config n o) = c.emptyRows n (fld o 191 187) (fld o 186 180) (fld o 179 172) := by
  simp only [Cluster.deliver, Cluster.doConfig, hopc]

end

/-! What each op leaves at the end of its cycle (R200, R202, R203). -/

section
variable {c : Cluster} (hc : c.canon) {n : Nat} {o : MacroOp} {t : Nat} (ht : t < 24)
include hc ht

theorem Cluster.tileShape_tcfg (hopc : opOpc o = 0x20) (hfree : c.busyRefs n c.lcc (maskTiles o) = []) :
    (c.deliver (.config n o)).tileShape n t = if t ∈ maskTiles o
      then (geometryWord (fld o 167 161) (fld o 160 157), 2 ^ 128 - 1) else c.tileShape n t := by
  rw [c.deliver_tcfg n hopc, if_pos hfree]
  exact Cluster.tileShape_each_setTileShape n _ hc ht (by decide) fun y hy => ((mem_maskTiles o y).mp hy).1

theorem Cluster.tileShape_trel (hopc : opOpc o = 0x24) :
    (c.deliver (.config n o)).tileShape n t = if t ∈ maskTiles o then (0, 2 ^ 128 - 1) else c.tileShape n t := by
  rw [c.deliver_trel n hopc]
  exact Cluster.tileShape_each_setTileShape n _ hc ht (by decide) fun y hy => ((mem_maskTiles o y).mp hy).1

theorem Cluster.tileCfg_tzero (hopc : opOpc o = 0x25) : (c.deliver (.config n o)).tileCfg n t = c.tileCfg n t := by
  have hshape := Cluster.tileShape_emptyRows hc n (fld o 191 187) (fld o 186 180) (fld o 179 172) ht
  rw [← c.deliver_tzero n hopc] at hshape
  split at hshape <;> exact (Prod.mk.inj hshape).1

theorem Cluster.testBit_tileEmpty_tzero (hopc : opOpc o = 0x25) {r : Nat} (hr : r < 128) :
    ((c.deliver (.config n o)).tileEmpty n t).testBit r = ((c.tileEmpty n t).testBit r
      || (decide (t = fld o 191 187) && c.tileValid n t && decide (fld o 186 180 ≤ r)
        && decide (r < fld o 186 180 + fld o 179 172))) := by
  have hshape := Cluster.tileShape_emptyRows hc n (fld o 191 187) (fld o 186 180) (fld o 179 172) ht
  rw [← c.deliver_tzero n hopc] at hshape
  split at hshape
  · next hnamed =>
    rw [(Prod.mk.inj hshape).2, Nat.testBit_or, testBit_rowMask _ _ hr, decide_eq_true hnamed.1, hnamed.2, Bool.true_and,
      Bool.true_and]
  · next hother =>
    have hfalse : (decide (t = fld o 191 187) && c.tileValid n t) = false := by simpa using hother
    rw [(Prod.mk.inj hshape).2, hfalse, Bool.false_and, Bool.false_and, Bool.or_false]

end

section
variable (c : Cluster) (n : Nat) {o : MacroOp}

/-- What a TCFG without a reference, a TREL and a TZERO leave alone beside the shapes. -/
theorem Cluster.deliver_config_keeps
    (h : (opOpc o = 0x20 ∧ c.busyRefs n c.lcc (maskTiles o) = []) ∨ opOpc o = 0x24 ∨ opOpc o = 0x25) :
    let d := c.deliver (.config n o)
    d.mem = c.mem ∧ d.arrs = c.arrs ∧ d.cores = c.cores := by
  intro d
  obtain ⟨hopc, hfree⟩ | hopc | hopc := h
  · have hd : d = _ := (c.deliver_tcfg n hopc).trans (if_pos hfree)
    rw [hd]
    exact c.each_setTileShape_keeps n _ _
  · have hd : d = _ := c.deliver_trel n hopc
    rw [hd]
    exact c.each_setTileShape_keeps n _ _
  · have hd : d = _ := c.deliver_tzero n hopc
    rw [hd]
    exact c.emptyRows_keeps _ _ _ _

end

end Sys2Proof.Machine

open Sys2Proof Sys2Proof.Machine

/-- Settles O27: the start of each op, and at the end of its cycle the shapes that a TCFG and a TREL give to the tiles of
their masks and the rows that a TZERO makes empty. -/
theorem tileShapes : Obligations.TileShapes := by
  refine ⟨fun n o s => ?_, fun c n o => ?_⟩
  · intro c q d after
    have hpost {opc : Nat} (hstart : c.starting q opc = some o) (hnul : c.nullified q (c.queue q).started o c.lcc = false) :
        done s (c.onStart q opc (fun c o => c.postConfig n.val o))
          = .next (s.setCl { d with posts := d.posts ++ [⟨c.lcc, 9, .config n.val o⟩] }) :=
      congrArg (done s) ((Cluster.onStart_started _ hstart hnul).trans (c.postConfig_startOp q n.val o))
    have hnever {opc : Nat} (hstart : c.starting q opc = some o) (hopc : opc ∈ [0x20, 0x24, 0x50, 0x52, 0x53]) :
        c.nullified q (c.queue q).started o c.lcc = false :=
      c.nullified_of_neverNul (Cluster.starting_opc hstart ▸ neverNul_of_mem hopc) _ _ _
    exact ⟨fun hstart => hpost hstart (hnever hstart (by decide)), fun hstart => hpost hstart (hnever hstart (by decide)), hpost⟩
  · intro d named busy keeps same hc
    have hmask : ∀ t, t ∈ maskTiles o ↔ named t := mem_maskTiles o
    have hsame {t : Nat} (h : d.tileShape n.val t = c.tileShape n.val t) : same t := Prod.mk.inj h
    refine ⟨fun hopc => ⟨fun hfree => ?_, fun hmet => ?_⟩, fun hopc => ?_, fun hopc => ?_⟩
    · refine ⟨c.deliver_config_keeps n.val (.inl ⟨hopc, hfree⟩), fun t hnamed => ?_, fun t ht hother => hsame ?_⟩
      · obtain ⟨hcfg, hempty⟩ := Prod.mk.inj
          ((Cluster.tileShape_tcfg hc hnamed.1 hopc hfree).trans (if_pos ((hmask t).mpr hnamed)))
        obtain ⟨hvalid, hrows, hB⟩ := Cluster.tile_of_geometryWord (Nat.mod_lt _ (by decide)) (Nat.mod_lt _ (by decide)) hnamed.1 hcfg
        exact ⟨hvalid, hrows, hB, hempty⟩
      · exact (Cluster.tileShape_tcfg hc ht hopc hfree).trans (if_neg (mt (hmask t).mp hother))
    · have hd : d = c.cfgBusy n.val o busy := (c.deliver_tcfg n.val hopc).trans (if_neg hmet)
      exact ⟨hd, fun t ht => hsame (hd ▸ Cluster.tileShape_cfgBusy n.val o busy ht)⟩
    · refine ⟨c.deliver_config_keeps n.val (.inr (.inl hopc)), fun t hnamed => ?_, fun t ht hother => hsame ?_⟩
      · obtain ⟨hcfg, hempty⟩ := Prod.mk.inj
          ((Cluster.tileShape_trel hc hnamed.1 hopc).trans (if_pos ((hmask t).mpr hnamed)))
        exact ⟨Cluster.tileValid_of_zero hcfg, hempty⟩
      · exact (Cluster.tileShape_trel hc ht hopc).trans (if_neg (mt (hmask t).mp hother))
    · exact ⟨c.deliver_config_keeps n.val (.inr (.inr hopc)), fun t ht => Cluster.tileCfg_tzero hc ht hopc,
        fun t ht r hr => Cluster.testBit_tileEmpty_tzero hc ht hopc hr⟩

end

section
/-! The tile mover's moves: their start, the row that each reads in a cycle, and where it lands (R205 to R211, R235). -/

namespace Sys2Proof.Machine

/-! What the start of a move enters (R205, R207, R209 to R212). -/

theorem Cluster.mem_owe (c : Cluster) (m : Mov) : m ∈ (c.owe m).movs :=
  List.mem_append_right _ (List.mem_singleton_self m)

section
variable (c : Cluster) (n : Nat) (o : MacroOp)

theorem Cluster.mem_doTld : ⟨n, 1, o, c.lcc, fld o 179 172, c.floor 5, fld o 179 172, [], false⟩ ∈ (c.doTld n o).movs :=
  Cluster.mem_owe _ _

theorem Cluster.mem_doTst : ⟨n, 2, o, c.lcc, fld o 179 172, 2, fld o 179 172, [], false⟩ ∈ (c.doTst n o).movs :=
  Cluster.mem_owe _ _

theorem Cluster.mem_doMove : ⟨n, 3, o, c.lcc, fld o 167 160, c.floor 6, fld o 167 160, [], false⟩ ∈ (c.doMove n o).movs :=
  Cluster.mem_owe _ _

/-- The chunks of 256 bytes that a transposed TMOV writes (R210). -/
def transposeChunks (o : MacroOp) : Nat := cdiv (cdiv (tmovB o * 8 / tmovW o * fld o 167 160 * tmovW o) 8) 256

theorem Cluster.mem_doTranspose : ⟨n, 4, o, c.lcc, fld o 167 160, fld o 167 160 - 1 + c.floor 6, transposeChunks o, [], false⟩
    ∈ (c.doTranspose n o).movs :=
  Cluster.mem_owe _ _

end

/-! The commands in the cycle in which their op starts. -/

section
variable {c : Cluster} {n : Nat} {o : MacroOp} (hnul : c.nullified (qTile n) (c.queue (qTile n)).started o c.lcc = false)
include hnul

theorem tldC_of_start (hstart : c.starting (qTile n) 0x21 = some o) (htab : c.tabSound [rHnd (fld o 171 160)]) :
    tldC c n = (c.startOp (qTile n) o).1.doTld n o :=
  (Cluster.onStart_started _ hstart hnul).trans (Cluster.withHandle_sound _ (Cluster.tabSound_startOp _ o htab))

theorem tstC_of_start (hstart : c.starting (qTile n) 0x22 = some o) (htab : c.tabSound [rHnd (fld o 171 160)]) :
    tstC c n = (c.startOp (qTile n) o).1.doTst n o :=
  (Cluster.onStart_started _ hstart hnul).trans (Cluster.withHandle_sound _ (Cluster.tabSound_startOp _ o htab))

theorem tmovC_of_plain (hstart : c.starting (qTile n) 0x23 = some o) (hplain : o.getLsbD 159 = false) :
    tmovC c n = (c.startOp (qTile n) o).1.doMove n o :=
  (Cluster.onStart_started _ hstart hnul).trans (if_neg (Bool.eq_false_iff.mp hplain))

theorem tmovC_of_transposed (hstart : c.starting (qTile n) 0x23 = some o) (htrans : o.getLsbD 159 = true) :
    tmovC c n = (c.startOp (qTile n) o).1.doTranspose n o :=
  (Cluster.onStart_started _ hstart hnul).trans (if_pos htrans)

end

/-! The row read in a cycle (R205, R207, R209). -/

section
variable {c : Cluster} {m : Mov} {i : Nat} (hstop : m.stop = false) (hlcc : c.lcc = m.t0 + i) (hi : i < m.reads)
include hstop hlcc hi

/-- A move that is under way reads its row i in the cycle t0 + i. -/
theorem Cluster.move_reads :
    (m.stop || decide (c.lcc < m.t0) || decide (m.t0 + m.reads ≤ c.lcc)) = false ∧ c.lcc - m.t0 = i := by
  simp only [hstop, Bool.false_or, Bool.or_eq_false_iff, decide_eq_false_iff_not]
  omega

theorem Cluster.movRead_of_load (hkind : m.kind = 1) : c.movRead m = c.loadRow m i := by
  obtain ⟨hreads, hrow⟩ := Cluster.move_reads hstop hlcc hi
  simp only [Cluster.movRead, hreads, hrow, hkind, Bool.false_eq_true, if_false]

theorem Cluster.movRead_of_store (hkind : m.kind = 2) :
    c.movRead m = c.post (m.t0 + i + 2) 0 (.spd (qTile m.n) (c.rowAddr m.op i) 0 0
      (c.rowBytes m.n (fld m.op 191 187) (fld m.op 186 180 + i) (moveB m.op))) := by
  obtain ⟨hreads, hrow⟩ := Cluster.move_reads hstop hlcc hi
  rw [← hlcc]
  simp only [Cluster.movRead, hreads, hrow, hkind, Bool.false_eq_true, if_false]

theorem Cluster.movRead_of_plain (hkind : m.kind = 3) :
    c.movRead m = c.post (m.t0 + i + m.woff) 1
      (movePost m.n m.op i (c.rowBytes m.n (fld m.op 191 187) (fld m.op 186 180 + i) (tmovB m.op))) := by
  obtain ⟨hreads, hrow⟩ := Cluster.move_reads hstop hlcc hi
  rw [← hlcc]
  simp only [Cluster.movRead, hreads, hrow, hkind, Bool.false_eq_true, if_false]

end

/-- A load without a detected error posts the row that it read (R205, R213). -/
theorem Cluster.loadRow_of_sound {c : Cluster} {m : Mov} {i : Nat}
    (h : (c.portRead (opCtx m.op) (c.rowAddr m.op i) (moveB m.op)).2.2 = false) :
    c.loadRow m i = (c.portRead (opCtx m.op) (c.rowAddr m.op i) (moveB m.op)).2.1.post (m.t0 + i + m.woff) 0
      (landPost m.n m.op i (c.portRead (opCtx m.op) (c.rowAddr m.op i) (moveB m.op)).1) :=
  if_neg (Bool.eq_false_iff.mp h)

/-! A row that a plain TMOV moves to another tile (R196, R209). -/

/-- A row read at the width of its tile is the row itself. -/
theorem Cluster.rowBytes_of_width {c : Cluster} {n t b : Nat} (hb : c.tileB n t = b) (r : Nat) :
    c.rowBytes n t r b = c.tileRow n t r := by
  subst hb
  rw [Cluster.rowBytes, Nat.sub_self, List.replicate_zero, List.append_nil, List.take_of_length_le (c.tileRow_length n t r).le]

/-- A row for a tile goes into the tile, not into the stage buffer. -/
theorem movePost_of_tile {o : MacroOp} (h : fld o 179 175 < 24) (n i : Nat) (bs : List Byte) :
    movePost n o i bs = .row n (fld o 179 175) (fld o 174 168 + i) bs :=
  if_neg (by omega)

/-- A whole row that lands replaces the row. -/
theorem Cluster.tileByte_landed {e : Cluster} {n t r : Nat} {bs : List Byte} (hc : e.canon) (hvalid : e.tileValid n t = true)
    (hr : r < e.tileRows n t) (hlen : bs.length = e.tileB n t) {j : Nat} (hj : j < e.tileB n t) :
    (e.deliver (.row n t r bs)).tileByte n t (r * e.tileB n t + j) = bs.getD j 0 := by
  have hrow := Cluster.tileByte_tileWrite_row (off := 0) hvalid hr (hlen ▸ e.tileB_pos n t) (by omega) hc hj
  rwa [if_pos (by omega)] at hrow

end Sys2Proof.Machine

open Sys2Proof Sys2Proof.Machine

/-- Settles O28: what the start of a move enters, the row that it reads in a cycle, and the row that lands. -/
theorem tileMoves : Obligations.TileMoves := by
  refine ⟨fun n o s => ?start, fun c m i hstop hlcc hi => ?read, fun c e m i => ?land⟩
  case start =>
    intro c q d runs hnul
    have hlcc : d.lcc = c.lcc := c.startOp_lcc q o
    exact ⟨fun hstart htab => ⟨congrArg (done s) (tldC_of_start hnul hstart htab), hlcc ▸ d.mem_doTld n.val o⟩,
      fun hstart htab => ⟨congrArg (done s) (tstC_of_start hnul hstart htab), hlcc ▸ d.mem_doTst n.val o⟩,
      fun hstart hplain => ⟨congrArg (done s) (tmovC_of_plain hnul hstart hplain), hlcc ▸ d.mem_doMove n.val o⟩,
      fun hstart htrans => ⟨transposeChunks o, congrArg (done s) (tmovC_of_transposed hnul hstart htrans),
        hlcc ▸ d.mem_doTranspose n.val o⟩⟩
  case read =>
    exact ⟨fun hkind hsound => (Cluster.movRead_of_load hstop hlcc hi hkind).trans (Cluster.loadRow_of_sound hsound),
      Cluster.movRead_of_store hstop hlcc hi, Cluster.movRead_of_plain hstop hlcc hi⟩
  case land =>
    intro src dst r b hn hkind hstop hlcc hi hwidth hsrc hc hvalid hr
    have hlen : (c.tileRow m.n src (fld m.op 186 180 + i)).length = e.tileB m.n dst := (c.tileRow_length _ _ _).trans hsrc
    have hpos : 0 < (c.tileRow m.n src (fld m.op 186 180 + i)).length := hlen ▸ e.tileB_pos m.n dst
    refine ⟨c.tileRow m.n src (fld m.op 186 180 + i), ?_, fun j hj => ?_, fun r' j hne hj => ?_, fun n' t' k hne => ?_⟩
    · rw [Cluster.movRead_of_plain hstop hlcc hi hkind, movePost_of_tile (Cluster.tileValid_lt hvalid), hwidth,
        Cluster.rowBytes_of_width hsrc]
    · rw [Cluster.tileByte_landed hc hvalid hr hlen hj, Cluster.tileRow_getD _ _ _ _ (hsrc.symm ▸ hj), hsrc]
    · exact Cluster.tileByte_tileWrite_row_ne hvalid hr hpos (by omega) hc hne hj
    · refine Cluster.tileByte_tileWrite_tile_ne hvalid hr hpos (by omega) ?_ k
      rw [← not_and_or]
      rintro ⟨hn', rfl⟩
      exact hne (congrArg (·, dst) hn')

end

section
/-! The control ops, the end of a save and the dispatch (R140, R247 to R251, R366, R379 to R382): what each of these
commands does when it is due. -/

namespace Sys2Proof.Machine

variable {c : Cluster}

theorem launchC_of_due (h : c.launchDue = true) : launchC c = (let d := c.popCtl.clearArrays.setReg 0x20010010 0
    ({ d with tim := { d.tim with running := true, lcc := 0 } } : Cluster).enterSegs.holdAtStart.beginCheck) := if_pos h

theorem launchC_of_not_due (h : c.launchDue = false) : launchC c = c := if_neg (Bool.eq_false_iff.mp h)

/-! The head of the control list. -/

section
variable {r : Run} {o : MacroOp}

theorem segbrC_of_head (h : c.ctlHead 0x51 = some (r, o)) :
    segbrC c = if c.nullified 63 0 o c.lcc then c.popCtl.segAct o 0 none
      else if c.settled || c.pointDue then c.popCtl.doSegbr o else c := by
  rw [segbrC, h]

theorem ppmarkC_of_head (h : c.ctlHead 0x52 = some (r, o)) :
    ppmarkC c = (let d := c.popCtl.each r.ctxs (fun c k => c.predictCtx (opStamp o) k)
      if d.preempts r then d.preempt o else d) := by
  rw [ppmarkC, h]

theorem screedC_of_head (h : c.ctlHead 0x53 = some (r, o)) :
    screedC c = c.popCtl.each (List.range (fld o 179 164 + 1)) (fun c i => c.baseline (fld o 191 180 + i)) := by
  rw [screedC, h]

end

theorem saveCompleteC_of_saving {r : Run} {tp idx : Nat} {l : LinEnt} (hrun : c.run = some r) (hsaving : r.saving = some (tp, idx))
    (hlining : c.lining r.lid = some l) : saveCompleteC c = if c.saveDone r l idx then c.doSave r l tp idx else c := by
  rw [saveCompleteC, hrun]
  simp only [hsaving, hlining]

/-- The dispatch of what the unit picks. -/
def Cluster.dispatchPick (c : Cluster) : Option Pick → Cluster
  | some (.again lid prio tbat now) => c.dispatchAgain lid prio tbat now
  | some (.resume p) => c.dispatchResume p
  | some (.fresh q) => c.dispatchReq q
  | none => c

/-- Nothing to pick is nothing to dispatch, so that the unit's readiness alone decides. -/
theorem dispatchC_eq (c : Cluster) :
    dispatchC c = if c.ready && c.run.isNone && decide (c.freeAt < c.clk.free) then c.dispatchPick c.pick else c := by
  rw [dispatchC, Cluster.dispatchDue]
  cases hpick : c.pick with
  | none => simp [Cluster.dispatchPick]
  | some p =>
    rw [Option.isSome_some, Bool.and_true]
    cases p <;> rfl

theorem dispatchC_of_ready (hready : c.ready = true) (hrun : c.run = none) (hfree : c.freeAt < c.clk.free) :
    dispatchC c = c.dispatchPick c.pick := by
  rw [dispatchC_eq, if_pos (by simp [hready, hrun, hfree])]

theorem dispatchC_of_busy (h : c.run ≠ none ∨ c.clk.free ≤ c.freeAt) : dispatchC c = c := by
  rw [dispatchC_eq, if_neg]
  simp only [Bool.and_eq_true, Option.isNone_iff_eq_none, decide_eq_true_eq]
  rintro ⟨⟨-, hrun⟩, hfree⟩
  exact h.elim (fun h => h hrun) (fun h => absurd hfree (not_lt.mpr h))

end Sys2Proof.Machine
end

section
/-! The choice of a SEGBR (R140, R144, R145, R274). -/

namespace Sys2Proof.Machine

theorem fld_eq_extract {w : Nat} (x : BitVec w) (hi lo : Nat) : fld x hi lo = (x.extractLsb' lo (hi + 1 - lo)).toNat := rfl

theorem toNat_append_add {m n : Nat} (x : BitVec m) (y : BitVec n) : (x ++ y).toNat = x.toNat * 2 ^ n + y.toNat := by
  rw [BitVec.toNat_append, ← Nat.shiftLeft_add_eq_or_of_lt y.isLt, Nat.shiftLeft_eq]

theorem toNat_extract_bit {w : Nat} (x : BitVec w) (i : Nat) : (x.extractLsb' i 1).toNat = (bitAt x i).toNat := by
  have hone (b : BitVec 1) : b.toNat = (b.getLsbD 0).toNat := by revert b; decide
  rw [hone, BitVec.getLsbD_extractLsb', bitAt]
  simp

/-- The alternative or the exit that v selects, by the bit that tells one from the other (R140). -/
theorem segChoice_eq (o : MacroOp) (v : Nat) :
    segChoice o v = if o.getLsbD 191 then (if v = 0 then 0 else 1) else min v (o.extractLsb' 189 2).toNat := by
  rw [segChoice, fld_eq_extract, ite_not, bitAt]

theorem segChoice_lt (o : MacroOp) (v : Nat) : segChoice o v < 4 := by
  have hlast := (o.extractLsb' 189 2).isLt
  rw [segChoice_eq]
  split_ifs <;> omega

/-- The last alternative of a branch, 0 for an exit: NSEG of CTX_SEGLAST (R145). -/
def segLast (o : MacroOp) : BitVec 2 := if o.getLsbD 191 then 0 else o.extractLsb' 189 2

theorem segLast_toNat (o : MacroOp) : (segLast o).toNat = if bitAt o 191 then 0 else fld o 190 189 := by
  rw [segLast, fld_eq_extract, bitAt]
  split <;> rfl

/-- CTX_SEGLAST after a SEGBR that chose alternative or exit alt (R145). -/
def segWord (o : MacroOp) (alt : Nat) : W64 :=
  1#1 ++ BitVec.ofNat 6 (opCtx o) ++ o.extractLsb' 191 1 ++ BitVec.ofNat 2 alt ++ segLast o ++ 0#20 ++ BitVec.ofNat 32 (opStamp o)

theorem segLog_eq (o : MacroOp) {alt : Nat} (halt : alt < 4) (v : Nat) : segLog o alt v = (segWord o alt, BitVec.ofNat 64 v) := by
  have hctx := opCtx_lt o
  have hstamp := opStamp_lt o
  have hexit : (bitAt o 191).toNat < 2 := Bool.toNat_lt _
  have hlast := (segLast o).isLt
  have hlow : place (opStamp o) 0 = BitVec.ofNat 64 (opStamp o) := rfl
  refine Prod.ext ?_ rfl
  apply BitVec.eq_of_toNat_eq
  simp only [segLog, segWord, ← segLast_toNat, hlow, placeB_eq, Bool.toNat_true, BitVec.or_assoc]
  rw [place_or_ofNat _ (by omega), place_or_ofNat _ (by omega), place_or_ofNat _ (by omega), place_or_ofNat _ (by omega),
    place_or_ofNat _ (by omega)]
  simp only [toNat_append_add, toNat_extract_bit, BitVec.toNat_ofNat]
  omega

variable {c : Cluster}

/-- A SEGBR whose handle's table word holds no error reads its selector and acts on what it selects (R140). -/
theorem Cluster.doSegbr_of_sound {o : MacroOp} (h : c.tabSound [rHnd (fld o 188 177)]) :
    let p := c.portRead (opCtx o) (hndBase (c.regAt (rHnd (fld o 188 177))) * 64 + 4 * fld o 176 153) 4
    let alt := segChoice o (leNat p.1)
    c.doSegbr o = p.2.1.segAct o alt (some (segWord o alt, BitVec.ofNat 64 (leNat p.1))) := by
  intro p alt
  rw [← segLog_eq o (segChoice_lt o _)]
  exact Cluster.withHandle_sound _ h

theorem Cluster.segAct_of_exit {o : MacroOp} (h : o.getLsbD 191 = true) (alt : Nat) (log : Option (W64 × W64)) :
    c.segAct o alt log
      = (if alt = 1 then c.openExit o else c).post (c.lcc + c.floor 2 - 1) 9 (.choice log [] ⟨0, 0, 0, 0⟩) := if_pos h

/-- A branch's choice among its context's alternatives, known F_R cycles later (R140). -/
def Cluster.noteAlt (c : Cluster) (o : MacroOp) (alt : Nat) : Cluster :=
  let x := c.ctx (opCtx o)
  let tab := fld o 120 109
  c.setCtx (opCtx o) { x with alts := (tab, alt, c.lcc + c.floor 2) :: x.alts.filter (fun p => p.1 != tab) }

/-- A branch notes its alternative, and the cores of its region's entry are to take its record (R140, R274). -/
theorem Cluster.segAct_of_branch {o : MacroOp} (h : o.getLsbD 191 = false) (alt : Nat) (log : Option (W64 × W64))
    {e : List Byte} {d : Cluster} (hentry : (c.noteAlt o alt).segEntry (fld o 120 109) = (some e, d)) :
    c.segAct o alt log = d.post (c.lcc + c.floor 2 - 1) 9
      (.choice log (bitsOf 8 (segCores e)) ⟨fld o 120 109, opCtx o, alt, c.lcc + c.floor 2 + 1⟩) := by
  refine (if_neg (Bool.eq_false_iff.mp h)).trans ?_
  rw [Cluster.noteAlt] at hentry
  simp only [Cluster.postBranch, hentry]

/-- A core with fewer than four records waiting takes one more; a full queue loses it (R274, R275). -/
theorem Cluster.landSeg_eq (c : Cluster) (n : Nat) (r : SegRec) : c.landSeg n r =
    if (c.core n).segq.length < 4 then c.setCore n { c.core n with segq := (c.core n).segq ++ [r] }
    else (c.setCore n { c.core n with segOvf := true, segLost := r.tab :: (c.core n).segLost }).raise 0x16 n r.ctx := by
  simp only [Cluster.landSeg, ← not_lt, ite_not]

end Sys2Proof.Machine
end

section
/-! What passes from no lining to the next (R103, R166, R197). -/

namespace Sys2Proof.Machine

/-- What no round over the list changes stands. -/
theorem Cluster.each_keeps_of_mem {α β : Type} (obs : Cluster → β) {f : Cluster → α → Cluster} {l : List α}
    (h : ∀ y ∈ l, ∀ d, obs (f d y) = obs d) (c : Cluster) : obs (c.each l f) = obs c :=
  List.foldlRecOn (motive := fun d => obs d = obs c) l f rfl (fun d hd y hy => (h y hy d).trans hd)

/-- Every tile of core n is released. -/
def Cluster.releaseTiles (c : Cluster) (n : Nat) : Cluster := c.each (List.range 24) (fun d t => d.setTileShape n t 0 (2 ^ 128 - 1))

/-- The cluster without the contents of its arrays and vector engines and without what is under way. -/
def Cluster.clearStores (c : Cluster) : Cluster :=
  { c with
    acc := [], arrs := c.arrs.map ArrSt.clear, feeds := Vector.replicate 8 Feeder.reset, vecs := Vector.replicate 8 none
    side := (c.side.map (fun kv => (kv.1, setFld kv.2 31 0 0))).filter (fun kv => kv.2 != 0)
    refs := [], movs := [], posts := [], uses := [] }

theorem Cluster.clearArrays_eq (c : Cluster) : c.clearArrays = c.clearStores.each (List.range 8) Cluster.releaseTiles := rfl

theorem Cluster.clearStores_canon {c : Cluster} (h : c.canon) : c.clearStores.canon := by
  have hside := wf_mapNonzero (fun v : BitVec 96 => setFld v 31 0 0) (lo := 0) h.side
  simp only [Cluster.clearStores, canon_mk, Sparse.wf_nil, h.mem, h.memErr, h.imem, h.imemErr, h.dmem, h.dmemErr, h.sbuf, h.xlat,
    h.rdesc, h.prod, h.cons, h.sdesc0, h.sdesc1, h.scount, h.sround, h.reg, h.dict, h.tabErr, true_and, and_true]
  exact hside

theorem Cluster.releaseTiles_canon (n : Nat) {c : Cluster} (h : c.canon) : (c.releaseTiles n).canon :=
  Cluster.each_canon _ _ h fun _ t hd => Cluster.setTileShape_canon n 0 hd t

/-- A shape given to a tile of one core leaves the tiles of the others. -/
theorem Cluster.tileShape_setTileShape_core_ne (c : Cluster) (cfg : W64) (e : Nat) {n m t u : Nat} (ht : t < 24) (hu : u < 24)
    (h : n ≠ m) : (c.setTileShape m u cfg e).tileShape n t = c.tileShape n t := by
  rw [Cluster.setTileShape, Cluster.tileShape_setTileEmpty_ne _ _ _ _ hu ht (.inl h)]
  refine Cluster.tileShape_congr ?_ ?_ ?_
  all_goals
    refine Cluster.regAt_setReg_ne _ ?_
    simp only [rTilEmpty_eq, rTilCfg_eq]
    omega

section
variable {c : Cluster} {n t : Nat} (ht : t < 24)
include ht

theorem Cluster.tileShape_releaseTiles_self (hc : c.canon) : (c.releaseTiles n).tileShape n t = (0, 2 ^ 128 - 1) := by
  rw [Cluster.releaseTiles, Cluster.tileShape_each_setTileShape n 0 hc ht (by decide) fun y hy => List.mem_range.mp hy,
    if_pos (List.mem_range.mpr ht)]

theorem Cluster.tileShape_releaseTiles_ne (c : Cluster) {m : Nat} (h : n ≠ m) :
    (c.releaseTiles m).tileShape n t = c.tileShape n t :=
  Cluster.each_keeps_of_mem (Cluster.tileShape · n t)
    (fun _ hu d => d.tileShape_setTileShape_core_ne 0 _ ht (List.mem_range.mp hu) h) c

/-- Every tile of every core is released (R197). -/
theorem Cluster.tileShape_clearArrays (hc : c.canon) (hn : n < 8) : c.clearArrays.tileShape n t = (0, 2 ^ 128 - 1) := by
  rw [Cluster.clearArrays_eq, Cluster.each_observe (Cluster.tileShape · n t) (fun _ => (0, 2 ^ 128 - 1)) n
    (fun _ m hd => Cluster.releaseTiles_canon m hd) (fun _ hd => Cluster.tileShape_releaseTiles_self ht hd)
    (fun d _ h => Cluster.tileShape_releaseTiles_ne ht d h) List.nodup_range (Cluster.clearStores_canon hc),
    if_pos (List.mem_range.mpr hn)]

end

/-- The release of tiles changes registers alone. -/
theorem Cluster.releaseTiles_keeps {β : Type} (obs : Cluster → β) (h : ∀ (d : Cluster) a v, obs (d.setReg a v) = obs d)
    (c : Cluster) (n : Nat) : obs (c.releaseTiles n) = obs c :=
  Cluster.each_keeps obs (fun d t => by simp only [Cluster.setTileShape, Cluster.setTileEmpty, h]) _ c

theorem Cluster.clearArrays_cleared (c : Cluster) :
    c.clearArrays.acc = [] ∧ c.clearArrays.posts = [] ∧ c.clearArrays.movs = [] := by
  have hkeeps {β : Type} (obs : Cluster → β) (h : ∀ (d : Cluster) a v, obs (d.setReg a v) = obs d) :
      obs c.clearArrays = obs c.clearStores :=
    Cluster.each_keeps obs (Cluster.releaseTiles_keeps obs h) (List.range 8) c.clearStores
  exact ⟨hkeeps Cluster.acc fun _ _ _ => rfl, hkeeps Cluster.posts fun _ _ _ => rfl, hkeeps Cluster.movs fun _ _ _ => rfl⟩

end Sys2Proof.Machine

open Sys2Proof Sys2Proof.Machine

/-- Settles O41: each command when it is due, the choice of a SEGBR and where it lands, and what a launch clears. -/
theorem controlOps : Obligations.ControlOps := by
  refine ⟨fun s => ?commands, fun c o htab => ?choice, fun c o alt log => ?act, fun c log cores r => ?land, fun c n t hc => ?clear⟩
  case commands =>
    intro c
    refine ⟨fun h => congrArg (done s) (launchC_of_not_due h), fun h => congrArg (done s) (launchC_of_due h), fun r o hhead => ?segbr,
      fun r o hhead => congrArg (done s) (ppmarkC_of_head hhead), fun r o hhead => congrArg (done s) (screedC_of_head hhead),
      fun r tp idx l hrun hsaving hlining => ?save, fun hready hrun hfree => ?dispatch,
      fun hbusy => congrArg (done s) (dispatchC_of_busy hbusy)⟩
    case segbr =>
      intro behind
      have hbehind : (c.settled || c.pointDue) = true ↔ behind := Bool.or_eq_true _ _ ▸ Iff.rfl
      have hexec : exec .segbr s = done s (segbrC c) := rfl
      rw [hexec, segbrC_of_head hhead]
      refine ⟨fun hnul => ?_, fun hnul h => ?_, fun hnul h => ?_⟩
      · rw [if_pos hnul]; rfl
      · rw [if_neg (Bool.eq_false_iff.mp hnul), if_pos (hbehind.mpr h)]; rfl
      · rw [if_neg (Bool.eq_false_iff.mp hnul), if_neg (mt hbehind.mp h)]; rfl
    case save =>
      have hsave := saveCompleteC_of_saving hrun hsaving hlining
      exact ⟨fun h => congrArg (done s) (hsave.trans (if_pos h)),
        fun h => congrArg (done s) (hsave.trans (if_neg (Bool.eq_false_iff.mp h)))⟩
    case dispatch =>
      have hpick {p : Option Pick} (h : c.pick = p) : exec .dispatch s = done s (c.dispatchPick p) :=
        congrArg (done s) ((dispatchC_of_ready hready hrun hfree).trans (congrArg c.dispatchPick h))
      exact ⟨fun _ _ _ _ h => hpick h, fun _ h => hpick h, fun _ h => hpick h, fun h => hpick h⟩
  case choice =>
    intro p v alt nseg
    have halt : alt = segChoice o v := (segChoice_eq o v).symm
    rw [halt]
    exact Cluster.doSegbr_of_sound htab
  case act =>
    exact ⟨fun hexit => Cluster.segAct_of_exit hexit alt log, fun hbranch _ _ hentry => Cluster.segAct_of_branch hbranch alt log hentry⟩
  case land =>
    intro d
    have hland : (fun (c : Cluster) n => c.landSeg n r) = fun (c : Cluster) n =>
        let x := c.core n
        if x.segq.length < 4 then c.setCore n { x with segq := x.segq ++ [r] }
        else (c.setCore n { x with segOvf := true, segLost := r.tab :: x.segLost }).raise 0x16 n r.ctx :=
      funext fun c => funext fun n => c.landSeg_eq n r
    rw [← hland]
    cases log <;> rfl
  case clear =>
    obtain ⟨hacc, hposts, hmovs⟩ := c.clearArrays_cleared
    obtain ⟨hcfg, hempty⟩ := Prod.mk.inj (Cluster.tileShape_clearArrays t.isLt hc n.isLt)
    exact ⟨hacc, hposts, hmovs, Cluster.tileValid_of_zero hcfg, hempty⟩

end

section
/-! The order of FP32 words that are no NaN (R63, R179): that of their magnitudes with their signs, on which the two zeros
are equal; maximum and minimum tell the zeros apart too. -/

namespace Sys2Proof.Machine

/-- A word of FP32 as a sign and a code without sign. -/
def f32Code (x : W32) : Nat := x.toNat % 2 ^ 31

theorem f32Code_lt (x : W32) : f32Code x < 2 ^ 31 := Nat.mod_lt _ (by decide)

theorem toNat_eq_sgn_add (x : W32) : x.toNat = fmtF32.sgn (bitAt x 31) + f32Code x := by
  have hx := x.isLt
  have hsgn : fmtF32.sgn (bitAt x 31) = x.toNat / 2 ^ 31 * 2 ^ 31 := by
    have hbit : bitAt x 31 = decide (x.toNat / 2 ^ 31 % 2 = 1) := Nat.testBit_eq_decide_div_mod_eq
    have hpow : 2 ^ (fmtF32.mb + fmtF32.eb) = 2 ^ 31 := rfl
    rw [FloatFmt.sgn, hbit, hpow]
    simp only [decide_eq_true_eq]
    split <;> omega
  rw [hsgn, f32Code]
  omega

/-- What a word that is no NaN stands for: a finite value, or an infinity. -/
theorem f32_of_not_nan {x : W32} (h : (f32 x).isNan = false) :
    f32Code x < 255 * 2 ^ 23 ∧ f32 x = .fin (bitAt x 31) (fmtF32.sig (f32Code x)) (fmtF32.rise (f32Code x) + fmtF32.qmin)
      ∨ f32Code x = 255 * 2 ^ 23 ∧ f32 x = .inf (bitAt x 31) := by
  have hdec : f32 x = fmtF32.dec (fmtF32.sgn (bitAt x 31) + f32Code x) := congrArg fmtF32.dec (toNat_eq_sgn_add x)
  have hlt : f32Code x < 2 ^ (fmtF32.mb + fmtF32.eb) := f32Code_lt x
  cases hs : fmtF32.special (f32Code x) with
  | false =>
    have hle : f32Code x ≤ 255 * 2 ^ 23 - 1 := (FloatFmt.le_maxCode_iff (f := fmtF32) (by decide) hlt).mpr hs
    exact .inl ⟨by omega, hdec.trans (FloatFmt.dec_of_not_special _ hlt hs)⟩
  | true =>
    rcases FloatFmt.dec_of_special (bitAt x 31) hlt hs with hnan | ⟨-, hcode, hinf⟩
    · rw [hdec, hnan] at h
      cases h
    · exact .inr ⟨hcode, hdec.trans hinf⟩

/-- A code with its sign. -/
def f32Order (x : W32) : Int := if bitAt x 31 then -(f32Code x : Int) else f32Code x

theorem FloatFmt.value_nonneg (f : FloatFmt) (c : Nat) : 0 ≤ f.value c := dyadic_nonneg _ _

theorem FloatFmt.value_zero (f : FloatFmt) : f.value 0 = 0 := by
  have hsig : f.sig 0 = 0 := f.sig_of_lt (Nat.two_pow_pos f.mb)
  simp [FloatFmt.value, hsig, dyadic]

theorem FloatFmt.value_pos_iff (f : FloatFmt) {c : Nat} : 0 < f.value c ↔ 0 < c := by
  rw [← f.value_strictMono.lt_iff_lt, f.value_zero]

/-- Codes with signs are in the order of their values. -/
theorem signed_value_le_iff (f : FloatFmt) (a b : Bool) (c d : Nat) :
    signed a (f.sig c) (f.rise c + f.qmin) ≤ signed b (f.sig d) (f.rise d + f.qmin)
      ↔ (if a then -(c : Int) else c) ≤ (if b then -(d : Int) else d) := by
  have hc := f.value_nonneg c
  have hd := f.value_nonneg d
  have hpos {e : Nat} : f.value e ≤ 0 ↔ e = 0 := by rw [← not_lt, f.value_pos_iff, not_lt, Nat.le_zero]
  show (if a then (-1 : ℚ) else 1) * f.value c ≤ (if b then (-1 : ℚ) else 1) * f.value d ↔ _
  cases a <;> cases b
  · simp [f.value_strictMono.le_iff_le]
  · have hzero : f.value c ≤ -f.value d ↔ f.value c ≤ 0 ∧ f.value d ≤ 0 :=
      ⟨fun h => ⟨by linarith, by linarith⟩, fun h => by linarith⟩
    simp only [Bool.false_eq_true, if_false, if_true, one_mul, neg_one_mul, hzero, hpos]
    omega
  · simp only [Bool.false_eq_true, if_false, if_true, one_mul, neg_one_mul]
    exact ⟨fun _ => by omega, fun _ => by linarith⟩
  · simp [f.value_strictMono.le_iff_le]

section
variable {x y : W32} (hx : (f32 x).isNan = false) (hy : (f32 y).isNan = false)
include hx hy

theorem f32_le_iff : (f32 x).le (f32 y) = true ↔ f32Order x ≤ f32Order y := by
  rcases f32_of_not_nan hx with ⟨hcx, hvx⟩ | ⟨hcx, hvx⟩ <;> rcases f32_of_not_nan hy with ⟨hcy, hvy⟩ | ⟨hcy, hvy⟩
  · rw [hvx, hvy, FV.le_iff rfl rfl]
    exact signed_value_le_iff fmtF32 _ _ _ _
  all_goals
    rw [hvx, hvy, f32Order, f32Order]
    cases bitAt x 31 <;> cases bitAt y 31 <;> simp [FV.le] <;> omega

theorem f32_lt_iff : (f32 x).lt (f32 y) = true ↔ f32Order x < f32Order y := by
  rw [FV.lt, Bool.and_eq_true, Bool.not_eq_true', Bool.eq_false_iff, f32_le_iff hx hy, Ne, f32_le_iff hy hx, lt_iff_le_not_ge]

theorem fcmpEq_iff : fcmpEq x y = true ↔ f32Order x = f32Order y := by
  rw [fcmpEq, Bool.and_eq_true, f32_le_iff hx hy, f32_le_iff hy hx, ← le_antisymm_iff]

theorem fcmpUn_of_numbers : fcmpUn x y = false := by rw [fcmpUn, hx, hy, Bool.or_false]

end

/-- The order of maximum and minimum, where -0 lies below +0. -/
def f32Key (x : W32) : Int := if bitAt x 31 then -(f32Code x : Int) - 1 else f32Code x

theorem f32Key_injective : Function.Injective f32Key := fun x y h => by
  have hx := toNat_eq_sgn_add x
  have hy := toNat_eq_sgn_add y
  apply BitVec.eq_of_toNat_eq
  rw [f32Key, f32Key] at h
  cases hbx : bitAt x 31 <;> cases hby : bitAt y 31 <;> simp [hbx, hby] at h hx hy <;> omega

theorem f32Key_lt_of_order_lt {x y : W32} (h : f32Order x < f32Order y) : f32Key x < f32Key y := by
  rw [f32Order, f32Order] at h
  rw [f32Key, f32Key]
  split_ifs at h ⊢ <;> omega

/-- Words of equal order differ in the sign of zero at most. -/
theorem f32Key_lt_iff_of_order_eq {x y : W32} (h : f32Order x = f32Order y) (hne : x ≠ y) :
    f32Key x < f32Key y ↔ bitAt x 31 = true := by
  have hkey := f32Key_injective.ne hne
  rw [f32Order, f32Order] at h
  rw [f32Key, f32Key] at hkey ⊢
  cases hbx : bitAt x 31 <;> cases hby : bitAt y 31 <;> simp [hbx, hby] at h hkey ⊢ <;> omega

section
variable {x y : W32} (hx : (f32 x).isNan = false) (hy : (f32 y).isNan = false)
include hx hy

/-- The smaller of two numbers and the larger one. -/
theorem fminNum_fmaxNum_eq : (fminNum x y, fmaxNum x y) = if f32Key x < f32Key y then (x, y) else (y, x) := by
  rw [fminNum, fmaxNum, fcmpUn_of_numbers hx hy, if_neg Bool.false_ne_true, if_neg Bool.false_ne_true]
  rcases lt_trichotomy (f32Order x) (f32Order y) with h | h | h
  · have heq : ¬ fcmpEq x y = true := mt (fcmpEq_iff hx hy).mp h.ne
    have hlt : fcmpLt x y = true := (f32_lt_iff hx hy).mpr h
    rw [if_neg heq, if_neg heq, if_pos hlt, if_pos hlt, if_pos (f32Key_lt_of_order_lt h)]
  · have heq : fcmpEq x y = true := (fcmpEq_iff hx hy).mpr h
    rw [if_pos heq, if_pos heq]
    by_cases hxy : x = y
    · simp [hxy]
    · simp only [f32Key_lt_iff_of_order_eq h hxy]
      split <;> rfl
  · have heq : ¬ fcmpEq x y = true := mt (fcmpEq_iff hx hy).mp h.ne'
    have hlt : ¬ fcmpLt x y = true := mt (f32_lt_iff hx hy).mp h.asymm
    rw [if_neg heq, if_neg heq, if_neg hlt, if_neg hlt, if_neg (f32Key_lt_of_order_lt h).asymm]

end

end Sys2Proof.Machine
end

section
/-! The reductions of a VRED over FP32 (R187): sums of integers modulo 2^32, extremes, and the index of an extreme. -/

namespace Sys2Proof.Machine

/-- Integer chunks sum up as their elements do, by the tree or in order. -/
theorem reduce_int_sum (chunks : List (List W32)) (tree : Bool) :
    reduce true 0 chunks tree = BitVec.ofNat 32 (chunks.flatten.map (fun x => x.toNat)).sum := by
  have hchunk : chunkSum true = List.sum := funext fun xs => (List.sum_eq_foldl (xs := xs)).symm
  have horder : ∀ xs : List W32, orderSum true xs = xs.sum
    | [] => rfl
    | x :: xs => by
      rw [List.sum_eq_foldl, List.foldl_cons, zero_add]
      rfl
  rw [← foldl_add_eq_ofNat_sum, ← List.sum_eq_foldl, reduce, horder, hchunk]
  cases tree
  · rfl
  · exact List.sum_flatten.symm

/-- The larger of two words, or the smaller one (R179). -/
def fext (mx : Bool) (x y : W32) : W32 := if mx then fmaxNum x y else fminNum x y

/-- The order in which the extreme is the largest. -/
def extKey (mx : Bool) (x : W32) : Int := if mx then f32Key x else -f32Key x

theorem fext_of_nan (mx : Bool) {x y : W32} (h : fcmpUn x y = true) : fext mx x y = qnan32 := by
  rw [fext, fmaxNum, fminNum, if_pos h, if_pos h, ite_self]

theorem fext_of_numbers (mx : Bool) {x y : W32} (hx : (f32 x).isNan = false) (hy : (f32 y).isNan = false) :
    fext mx x y = if extKey mx x < extKey mx y then y else x := by
  have hboth := fminNum_fmaxNum_eq hx hy
  have hmin := congrArg Prod.fst hboth
  have hmax := congrArg Prod.snd hboth
  rw [apply_ite Prod.fst] at hmin
  rw [apply_ite Prod.snd] at hmax
  cases mx with
  | true => exact hmax
  | false =>
    refine hmin.trans ?_
    have hneg : extKey false x < extKey false y ↔ f32Key y < f32Key x := neg_lt_neg_iff
    simp only [hneg]
    rcases lt_trichotomy (f32Key x) (f32Key y) with h | h | h
    · rw [if_pos h, if_neg h.asymm]
    · simp [f32Key_injective h]
    · rw [if_neg h.asymm, if_pos h]

theorem beats_iff (mx : Bool) {x y : W32} (hx : (f32 x).isNan = false) (hy : (f32 y).isNan = false) :
    beats false mx x y = true ↔ extKey mx x < extKey mx y := by
  have hbeats : beats false mx x y = (fext mx x y != x) := by cases mx <;> rfl
  rw [hbeats, bne_iff_ne, fext_of_numbers mx hx hy]
  by_cases h : extKey mx x < extKey mx y
  · rw [if_pos h]
    exact iff_of_true (fun hxy => h.ne (congrArg _ hxy.symm)) h
  · rw [if_neg h]
    exact iff_of_false (fun hne => hne rfl) h

/-- Is a the more extreme of two numbers, in the order of values? -/
def MoreExtreme (mx : Bool) (a b : W32) : Prop :=
  if mx then (f32 b).lt (f32 a) = true else (f32 a).lt (f32 b) = true

theorem extKey_lt_of_moreExtreme {mx : Bool} {a b : W32} (ha : (f32 a).isNan = false) (hb : (f32 b).isNan = false)
    (h : MoreExtreme mx a b) : extKey mx b < extKey mx a := by
  cases mx
  · exact neg_lt_neg (f32Key_lt_of_order_lt ((f32_lt_iff ha hb).mp h))
  · exact f32Key_lt_of_order_lt ((f32_lt_iff hb ha).mp h)

/-! The extreme of a list. -/

theorem redExt_cons (mx : Bool) (x : W32) (xs : List W32) :
    redExt false mx (x :: xs) = let r := xs.foldl (fext mx) x
      if (f32 r).isNan then qnan32 else r := by
  simp only [redExt, Bool.false_eq_true, if_false, Bool.not_false, Bool.true_and, fcmpUn, Bool.or_self]
  rfl

/-- NaN stays once it is met. -/
theorem foldl_fext_isNan (mx : Bool) : ∀ (xs : List W32) (x : W32), (∃ y ∈ x :: xs, (f32 y).isNan = true) →
    (f32 (xs.foldl (fext mx) x)).isNan = true
  | [], x, h => by simpa using h
  | y :: ys, x, h => by
    refine foldl_fext_isNan mx ys (fext mx x y) ?_
    by_cases hxy : fcmpUn x y = true
    · exact ⟨_, List.mem_cons_self, by rw [fext_of_nan mx hxy]; decide⟩
    · obtain ⟨z, hz, hnan⟩ := h
      simp only [fcmpUn, Bool.or_eq_true, not_or] at hxy
      simp only [List.mem_cons] at hz
      rcases hz with rfl | rfl | hz
      · exact absurd hnan hxy.1
      · exact absurd hnan hxy.2
      · exact ⟨z, List.mem_cons_of_mem _ hz, hnan⟩

theorem foldl_fext_max (mx : Bool) : ∀ (xs : List W32) (x : W32), (∀ y ∈ x :: xs, (f32 y).isNan = false) →
    xs.foldl (fext mx) x ∈ x :: xs ∧ ∀ y ∈ x :: xs, extKey mx y ≤ extKey mx (xs.foldl (fext mx) x)
  | [], x, _ => by simp
  | y :: ys, x, h => by
    simp only [List.forall_mem_cons] at h
    obtain ⟨hx, hy, hys⟩ := h
    have hext := fext_of_numbers mx hx hy
    have hnum : (f32 (fext mx x y)).isNan = false := by rw [hext]; split <;> assumption
    have hkeys : extKey mx x ≤ extKey mx (fext mx x y) ∧ extKey mx y ≤ extKey mx (fext mx x y) := by
      rw [hext]; split <;> constructor <;> omega
    have hmem : fext mx x y = x ∨ fext mx x y = y := by rw [hext]; split <;> simp
    obtain ⟨hin, hmax⟩ := foldl_fext_max mx ys (fext mx x y) (List.forall_mem_cons.mpr ⟨hnum, hys⟩)
    obtain ⟨hfirst, hrest⟩ := List.forall_mem_cons.mp hmax
    simp only [List.foldl_cons, List.forall_mem_cons]
    refine ⟨?_, hkeys.1.trans hfirst, hkeys.2.trans hfirst, hrest⟩
    rcases List.mem_cons.mp hin with hin | hin
    · rw [hin]
      rcases hmem with h | h <;> simp [h]
    · exact List.mem_cons_of_mem _ (List.mem_cons_of_mem _ hin)

theorem redExt_of_nan (mx : Bool) {xs : List W32} (hne : xs ≠ []) (h : ∃ x ∈ xs, (f32 x).isNan = true) :
    redExt false mx xs = qnan32 := by
  obtain ⟨x, ys, rfl⟩ := List.exists_cons_of_ne_nil hne
  rw [redExt_cons]
  exact if_pos (foldl_fext_isNan mx ys x h)

theorem redExt_of_numbers (mx : Bool) {xs : List W32} (hne : xs ≠ []) (h : ∀ x ∈ xs, (f32 x).isNan = false) :
    redExt false mx xs ∈ xs ∧ ∀ x ∈ xs, extKey mx x ≤ extKey mx (redExt false mx xs) := by
  obtain ⟨x, ys, rfl⟩ := List.exists_cons_of_ne_nil hne
  obtain ⟨hmem, hmax⟩ := foldl_fext_max mx ys x h
  have hres : redExt false mx (x :: ys) = ys.foldl (fext mx) x := by
    rw [redExt_cons]
    exact if_neg (Bool.eq_false_iff.mp (h _ hmem))
  rw [hres]
  exact ⟨hmem, hmax⟩

/-! The index of the extreme. -/

/-- The best element so far and its index, after one more element. -/
def argStep (mx : Bool) (b : Option (W32 × Nat)) (e : W32 × Nat) : Option (W32 × Nat) :=
  if (f32 e.1).isNan then b
  else match b with
    | none => some e
    | some w => if beats false mx w.1 e.1 then some e else b

section
variable (mx : Bool) {e : W32 × Nat}

theorem argStep_of_nan (b : Option (W32 × Nat)) (h : (f32 e.1).isNan = true) : argStep mx b e = b := if_pos h

theorem argStep_none (h : (f32 e.1).isNan = false) : argStep mx none e = some e := if_neg (Bool.eq_false_iff.mp h)

theorem argStep_some {w : W32 × Nat} (hw : (f32 w.1).isNan = false) (h : (f32 e.1).isNan = false) :
    argStep mx (some w) e = if extKey mx w.1 < extKey mx e.1 then some e else some w := by
  refine (if_neg (Bool.eq_false_iff.mp h)).trans ?_
  simp only [beats_iff mx hw h]

end

theorem redArg_eq (mx : Bool) (xs : List W32) :
    redArg false mx xs = match xs.zipIdx.foldl (argStep mx) none with
      | some w => BitVec.ofNat 32 w.2
      | none => 0 := by
  have hstep : (fun (b : Option (W32 × Nat)) (e : W32 × Nat) =>
      if !false && fcmpUn e.1 e.1 then b
      else match b with
        | none => some e
        | some w => if beats false mx w.1 e.1 then some e else b) = argStep mx := by
    funext b e
    simp only [argStep, fcmpUn, Bool.or_self, Bool.not_false, Bool.true_and]
  rw [← hstep]
  rfl

/-- What the search finds in a list: the first of the most extreme numbers, with its index; nothing where there is no number. -/
def IsBest (mx : Bool) (xs : List W32) : Option (W32 × Nat) → Prop
  | none => ∀ x ∈ xs, (f32 x).isNan = true
  | some w => (f32 w.1).isNan = false ∧ ∃ pre post, xs = pre ++ w.1 :: post ∧ w.2 = pre.length
      ∧ (∀ x ∈ pre, (f32 x).isNan = false → extKey mx x < extKey mx w.1)
      ∧ ∀ x ∈ post, (f32 x).isNan = false → extKey mx x ≤ extKey mx w.1

/-- One more element that is no more extreme changes nothing. -/
theorem IsBest.append_of_le {mx : Bool} {xs : List W32} {w : W32 × Nat} {x : W32} (h : IsBest mx xs (some w))
    (hx : (f32 x).isNan = false → extKey mx x ≤ extKey mx w.1) : IsBest mx (xs ++ [x]) (some w) := by
  obtain ⟨hw, pre, post, rfl, hidx, hpre, hpost⟩ := h
  exact ⟨hw, pre, post ++ [x], by simp, hidx, hpre, List.forall_mem_append.mpr ⟨hpost, List.forall_mem_singleton.mpr hx⟩⟩

theorem IsBest.append {mx : Bool} {xs : List W32} {b : Option (W32 × Nat)} (h : IsBest mx xs b) (x : W32) :
    IsBest mx (xs ++ [x]) (argStep mx b (x, xs.length)) := by
  by_cases hx : (f32 x).isNan = true
  · rw [argStep_of_nan mx (e := (x, xs.length)) b hx]
    cases b with
    | none => exact List.forall_mem_append.mpr ⟨h, List.forall_mem_singleton.mpr hx⟩
    | some w => exact h.append_of_le fun hnum => absurd hx (Bool.eq_false_iff.mp hnum)
  · have hnum : (f32 x).isNan = false := Bool.eq_false_iff.mpr hx
    cases b with
    | none =>
      rw [argStep_none mx (e := (x, xs.length)) hnum]
      exact ⟨hnum, xs, [], rfl, rfl, fun y hy hy' => absurd (h y hy) (Bool.eq_false_iff.mp hy'), by simp⟩
    | some w =>
      rw [argStep_some mx (e := (x, xs.length)) h.1 hnum]
      by_cases hlt : extKey mx w.1 < extKey mx x
      · obtain ⟨-, pre, post, rfl, -, hpre, hpost⟩ := h
        rw [if_pos hlt]
        refine ⟨hnum, pre ++ w.1 :: post, [], rfl, rfl, ?_, by simp⟩
        simp only [List.forall_mem_append, List.forall_mem_cons]
        exact ⟨fun y hy hn => (hpre y hy hn).trans hlt, fun _ => hlt, fun y hy hn => (hpost y hy hn).trans_lt hlt⟩
      · rw [if_neg hlt]
        exact h.append_of_le fun _ => not_lt.mp hlt

theorem isBest_foldl (mx : Bool) (xs : List W32) : IsBest mx xs (xs.zipIdx.foldl (argStep mx) none) := by
  induction xs using List.reverseRecOn with
  | nil => exact fun x hx => absurd hx List.not_mem_nil
  | append_singleton xs x ih =>
    rw [List.zipIdx_append, List.foldl_append]
    simpa using ih.append x

theorem redArg_of_nan (mx : Bool) {xs : List W32} (h : ∀ x ∈ xs, (f32 x).isNan = true) : redArg false mx xs = 0 := by
  have hbest := isBest_foldl mx xs
  rw [redArg_eq]
  cases hfold : xs.zipIdx.foldl (argStep mx) none with
  | none => rfl
  | some w =>
    rw [hfold] at hbest
    obtain ⟨hw, pre, post, rfl, -⟩ := hbest
    exact absurd (h w.1 (by simp)) (Bool.eq_false_iff.mp hw)

/-- Where there is a number, the index found is that of the first most extreme one. -/
theorem redArg_of_number (mx : Bool) {xs : List W32} (hlen : xs.length < 2 ^ 32) (h : ∃ x ∈ xs, (f32 x).isNan = false) :
    ∃ pre w post, xs = pre ++ w :: post ∧ (redArg false mx xs).toNat = pre.length ∧ (f32 w).isNan = false
      ∧ (∀ x ∈ pre, (f32 x).isNan = false → extKey mx x < extKey mx w)
      ∧ ∀ x ∈ post, (f32 x).isNan = false → extKey mx x ≤ extKey mx w := by
  have hbest := isBest_foldl mx xs
  rw [redArg_eq]
  cases hfold : xs.zipIdx.foldl (argStep mx) none with
  | none =>
    rw [hfold] at hbest
    obtain ⟨x, hx, hnum⟩ := h
    exact absurd (hbest x hx) (Bool.eq_false_iff.mp hnum)
  | some w =>
    rw [hfold] at hbest
    obtain ⟨hw, pre, post, rfl, hidx, hpre, hpost⟩ := hbest
    refine ⟨pre, w.1, post, rfl, ?_, hw, hpre, hpost⟩
    rw [List.length_append] at hlen
    rw [BitVec.toNat_ofNat, hidx, Nat.mod_eq_of_lt (by omega)]

/-- ARGMAX and ARGMIN in terms of indices and values (R187). -/
theorem redArg_index (mx : Bool) {xs : List W32} (hlen : xs.length < 2 ^ 32) (h : ∃ x ∈ xs, (f32 x).isNan = false) :
    let i := (redArg false mx xs).toNat
    i < xs.length ∧ (f32 (xs.getD i 0)).isNan = false
      ∧ (∀ k < xs.length, (f32 (xs.getD k 0)).isNan = false → ¬ MoreExtreme mx (xs.getD k 0) (xs.getD i 0))
      ∧ ∀ k < i, xs.getD k 0 ≠ xs.getD i 0 := by
  intro i
  obtain ⟨pre, w, post, rfl, hidx, hw, hpre, hpost⟩ := redArg_of_number mx hlen h
  have hi : i = pre.length := hidx
  have hbest : (pre ++ w :: post).getD i 0 = w := by simp [hi]
  have hlargest : ∀ x ∈ pre ++ w :: post, (f32 x).isNan = false → extKey mx x ≤ extKey mx w := by
    simp only [List.forall_mem_append, List.forall_mem_cons]
    exact ⟨fun x hx hnum => (hpre x hx hnum).le, fun _ => le_rfl, hpost⟩
  rw [hbest]
  refine ⟨by simp [hi], hw, fun k hk hnum hmore => ?_, fun k hk heq => ?_⟩
  · have hmem : (pre ++ w :: post).getD k 0 ∈ pre ++ w :: post := by
      rw [List.getD_eq_getElem _ _ hk]
      exact List.getElem_mem hk
    exact (extKey_lt_of_moreExtreme hnum hw hmore).not_ge (hlargest _ hmem hnum)
  · have hk : k < pre.length := hi ▸ hk
    have hmem : w ∈ pre := by
      rw [← heq, List.getD_append _ _ _ _ hk, List.getD_eq_getElem _ _ hk]
      exact List.getElem_mem hk
    exact lt_irrefl _ (hpre w hmem hw)

end Sys2Proof.Machine
end

section
/-! The ranking of a row of scores (R188): by value, NaN last, equal scores by column. -/

namespace Sys2Proof.Machine

/-- The order of scores, in which NaN lies below every number. -/
def rankKey (x : W32) : WithBot Int := if (f32 x).isNan then ⊥ else f32Order x

theorem ranksBefore_iff (x y : W32) : ranksBefore x y = true ↔ rankKey y < rankKey x := by
  simp only [ranksBefore, rankKey, fcmpUn, Bool.or_self]
  cases hx : (f32 x).isNan
  · cases hy : (f32 y).isNan
    · simpa [fcmpLt] using f32_lt_iff hy hx
    · simp
  · simp

/-- Column x stands before column y: it has the higher score, or an equal one and the lower number. -/
def RankedBefore (x y : W32 × Nat) : Prop :=
  ranksBefore x.1 y.1 = true ∨ (ranksBefore y.1 x.1 = false ∧ x.2 < y.2)

theorem RankedBefore.le {x y : W32 × Nat} (h : RankedBefore x y) : rankKey y.1 ≤ rankKey x.1 := by
  rcases h with h | ⟨h, -⟩
  · exact ((ranksBefore_iff _ _).mp h).le
  · exact not_lt.mp (mt (ranksBefore_iff _ _).mpr (Bool.eq_false_iff.mp h))

theorem rankIns_perm (x : W32 × Nat) : ∀ l, (rankIns x l).Perm (x :: l)
  | [] => .rfl
  | y :: ys => by
    rw [rankIns]
    split
    · exact .rfl
    · exact ((rankIns_perm x ys).cons y).trans (.swap x y ys)

/-- A column beyond all those ranked goes behind the last that it does not outrank. -/
theorem rankIns_pairwise {x : W32 × Nat} : ∀ {l : List (W32 × Nat)}, l.Pairwise RankedBefore → (∀ y ∈ l, y.2 < x.2) →
    (rankIns x l).Pairwise RankedBefore
  | [], _, _ => List.pairwise_singleton _ _
  | y :: ys, hl, hnew => by
    obtain ⟨hy, hys⟩ := List.pairwise_cons.mp hl
    obtain ⟨hyx, hrest⟩ := List.forall_mem_cons.mp hnew
    rw [rankIns]
    split
    · next hrank =>
      refine List.pairwise_cons.mpr ⟨List.forall_mem_cons.mpr ⟨.inl hrank, fun z hz => .inl ?_⟩, hl⟩
      exact (ranksBefore_iff _ _).mpr ((hy z hz).le.trans_lt ((ranksBefore_iff _ _).mp hrank))
    · next hrank =>
      refine List.pairwise_cons.mpr ⟨fun z hz => ?_, rankIns_pairwise hys hrest⟩
      rcases List.mem_cons.mp ((rankIns_perm x ys).mem_iff.mp hz) with rfl | hz
      · exact .inr ⟨Bool.eq_false_iff.mpr hrank, hyx⟩
      · exact hy z hz

theorem ranked_append (row : List W32) (x : W32) : ranked (row ++ [x]) = rankIns (x, row.length) (ranked row) := by
  rw [ranked, List.zipIdx_append, List.foldl_append, ranked]
  simp

/-- A ranking lists every column once, in order. -/
theorem ranked_sorted (row : List W32) : (ranked row).Perm row.zipIdx ∧ (ranked row).Pairwise RankedBefore := by
  induction row using List.reverseRecOn with
  | nil => exact ⟨.rfl, .nil⟩
  | append_singleton row x ih =>
    obtain ⟨hperm, hsorted⟩ := ih
    have hzip : (row ++ [x]).zipIdx = row.zipIdx ++ [(x, row.length)] := by simp [List.zipIdx_append]
    have hnew : ∀ y ∈ ranked row, y.2 < row.length := fun y hy => List.snd_lt_of_mem_zipIdx (hperm.mem_iff.mp hy)
    rw [ranked_append, hzip]
    exact ⟨(rankIns_perm _ _).trans ((hperm.cons _).trans (List.perm_append_singleton _ _).symm), rankIns_pairwise hsorted hnew⟩

end Sys2Proof.Machine
end

section
/-! The start of a vector op (R172, R191, R194): what is under way from then on. -/

namespace Sys2Proof.Machine

/-- What the job of a vector op is about: the op, its start, its duration and what it has computed. -/
def VecJob.outline (j : VecJob) : MacroOp × Nat × Nat × List (List Nat) := (j.op, j.t0, j.dm, j.runs)

theorem Cluster.keepTorn_vecs (c : Cluster) (k : Nat) : (c.keepTorn k).vecs = c.vecs := by
  unfold Cluster.keepTorn
  split <;> rfl

theorem Cluster.teardown_vecs (c : Cluster) (k : Nat) : (c.teardown k).vecs = c.vecs := by
  unfold Cluster.teardown
  dsimp only
  split
  · exact c.keepTorn_vecs k
  · simp

/-- A fault leaves what is under way on the vector engines. -/
theorem Cluster.raise_vecs (c : Cluster) (src inst k : Nat) : (c.raise src inst k).vecs = c.vecs := by
  unfold Cluster.raise
  split
  · rfl
  · next i _ =>
    show (if i.scope = 1 then c.teardown k else c).vecs = c.vecs
    split
    · exact c.teardown_vecs k
    · rfl

theorem Cluster.vecOut_vecs (c : Cluster) (n : Nat) (o : MacroOp) (es : List (W16 × Nat)) (rows : Nat) :
    (c.vecOut n o es rows).vecs = c.vecs := by
  unfold Cluster.vecOut
  split
  · rfl
  · rw [Cluster.raise_vecs]
    split <;> rfl

section
variable (c : Cluster) {n : Nat} (hn : n < 8) (o : MacroOp) (dm : Nat)
include hn

theorem Cluster.vec_beginVec (tiles : List Nat) (ents : List (W16 × Nat)) :
    ((c.beginVec n o dm tiles ents).vec n).map VecJob.outline = some (o, c.lcc, dm, []) :=
  congrArg (Option.map VecJob.outline) (vat_vset_self _ _ _ _ hn)

/-- An entry beyond the rows of its tile is a fault, and the op begins all the same (R191). -/
theorem Cluster.vec_beginMove (tile : Nat) :
    ((c.beginMove n o tile dm).vec n).map VecJob.outline = some (o, c.lcc, dm, []) := by
  rw [Cluster.beginMove, Cluster.vec, Cluster.vecOut_vecs]
  exact c.vec_beginVec hn o dm _ _

end

/-- A vector op that starts with its table words sound does what its start brings about (R138, R416). -/
theorem Cluster.onVec_started {c : Cluster} {n opc : Nat} {o : MacroOp} (f : Cluster → MacroOp → Cluster)
    (hstart : c.starting (qVec n) opc = some o) (hnul : c.nullified (qVec n) (c.queue (qVec n)).started o c.lcc = false)
    (htab : c.tabSound ((c.startOp (qVec n) o).1.descKeys n o)) : c.onVec n opc f = f (c.startOp (qVec n) o).1 o :=
  (Cluster.onStart_started _ hstart hnul).trans (Cluster.withTab_sound _ (Cluster.tabSound_startOp _ o htab))

/-! The iterations of an op (R174), which most durations are made of (R194). -/

section
variable (c : Cluster) (n : Nat) {o : MacroOp}

theorem Cluster.vecIters_bcast (h : opOpc o = 0x31) : c.vecIters n o = (c.desc n o 3).iters 128 := by
  simp only [Cluster.vecIters, h]

theorem Cluster.vecIters_red (h : opOpc o = 0x32) : c.vecIters n o = (c.desc n o 0).iters 128 := by
  simp only [Cluster.vecIters, h]

theorem Cluster.vredLen_eq (h : opOpc o = 0x32) :
    c.vredLen n o = c.vX + c.vecIters n o + c.vLam + (if o.getLsbD 68 then 1 else 8) := by
  have haxis : vPar o 68 68 = (o.getLsbD 68).toNat := toNat_extract_bit o 68
  rw [Cluster.vredLen, c.vecIters_red n h, haxis]
  cases o.getLsbD 68 <;> rfl

end

end Sys2Proof.Machine
end

section
/-! The cycles of a vector op (R172, R182, R194): the iteration that each reads, and what becomes of the op. -/

namespace Sys2Proof.Machine

/-- The cycle, from its start, in which a vector op reads iteration it. -/
def Cluster.readCycle (c : Cluster) (n : Nat) (o : MacroOp) (it : Nat) : Nat :=
  if opOpc o = 0x30 then it / 16 * c.stripLen (c.frond n (fld o 191 187)) 16 + it % 16
  else if opOpc o = 0x35 ∧ o.getLsbD 23 = true then c.vX + c.vLam + 2 + 2 * it
  else if opOpc o = 0x34 ∨ opOpc o = 0x35 then c.vX + 1 + it
  else if opOpc o = 0x37 ∧ o.getLsbD 69 = true then 2 * it else it

theorem Cluster.vecReadAt_eq (c : Cluster) (n : Nat) (o : MacroOp) (it : Nat) : c.vecReadAt n o it = c.readCycle n o it := by
  have hadd : bitAt o 23 = o.getLsbD 23 := rfl
  have hordered : bitAt o 69 = o.getLsbD 69 := rfl
  unfold Cluster.vecReadAt Cluster.readCycle
  split
  · next h => simp [h, Cluster.vrunTimes]
  · next h => simp [h, Cluster.moveAt]
  · next h =>
    simp only [h, Cluster.moveAt, hadd]
    cases o.getLsbD 23 <;> simp [Nat.mul_comm]
  · next h30 h34 h35 =>
    have hrun : opOpc o ≠ 0x30 := h30
    have hmove : ¬ (opOpc o = 0x34 ∨ opOpc o = 0x35) := not_or.mpr ⟨h34, h35⟩
    have hscatter : ¬ (opOpc o = 0x35 ∧ o.getLsbD 23 = true) := fun h => h35 h.1
    rw [if_neg hrun, if_neg hscatter, if_neg hmove, vecStep, hordered]
    simp only [Bool.and_eq_true, decide_eq_true_eq]
    split_ifs <;> omega

/-- A strip of a program takes as many cycles as it has positions, at the least (R182). -/
theorem Cluster.le_stripLen (c : Cluster) (n j s : Nat) : s ≤ c.stripLen (c.frond n j) s := by
  have hslot (u : W32) : s ≤ c.uSlot (c.frond n j) s u := by
    unfold Cluster.uSlot
    split <;> omega
  rw [Cluster.stripLen, ← List.sum_eq_foldl]
  exact (hslot _).trans (List.single_le_sum (fun _ _ => Nat.zero_le _) _
    (List.mem_map_of_mem (List.mem_map_of_mem (List.mem_range.mpr (Nat.succ_pos _)))))

/-- No two iterations are read in one cycle. -/
theorem Cluster.readCycle_injective (c : Cluster) (n : Nat) (o : MacroOp) : Function.Injective (c.readCycle n o) := by
  intro i k h
  unfold Cluster.readCycle at h
  split_ifs at h
  · have hlen := c.le_stripLen n (fld o 191 187) 16
    generalize c.stripLen (c.frond n (fld o 191 187)) 16 = len at h hlen
    have hdiv (i : Nat) : (i / 16 * len + i % 16) / len = i / 16 ∧ (i / 16 * len + i % 16) % len = i % 16 := by
      have hlt : i % 16 < len := (Nat.mod_lt i (by decide)).trans_le hlen
      rw [Nat.mul_comm, Nat.mul_add_div (by omega), Nat.mul_add_mod, Nat.div_eq_of_lt hlt, Nat.mod_eq_of_lt hlt]
      exact ⟨rfl, rfl⟩
    obtain ⟨hi, hi'⟩ := hdiv i
    obtain ⟨hk, hk'⟩ := hdiv k
    rw [h] at hi hi'
    omega
  all_goals omega

section
variable {c : Cluster} {n : Nat} {j : VecJob}

theorem Cluster.vecIt_of_due {it : Nat} (hit : it < c.vecIters n j.op) (hlcc : c.lcc = j.t0 + c.readCycle n j.op it) :
    c.vecIt n j = some it := by
  have hdue (k : Nat) : (j.t0 + c.vecReadAt n j.op k == c.lcc) = true ↔ k = it := by
    rw [beq_iff_eq, hlcc, Cluster.vecReadAt_eq, Nat.add_left_cancel_iff, (c.readCycle_injective n j.op).eq_iff]
  have hsome : (c.vecIt n j).isSome := List.find?_isSome.mpr ⟨it, List.mem_range.mpr hit, (hdue it).mpr rfl⟩
  obtain ⟨k, hk⟩ := Option.isSome_iff_exists.mp hsome
  rw [hk, (hdue k).mp (List.find?_some (p := fun k => j.t0 + c.vecReadAt n j.op k == c.lcc) hk)]

theorem Cluster.vecIt_of_none_due (h : ∀ it < c.vecIters n j.op, c.lcc ≠ j.t0 + c.readCycle n j.op it) : c.vecIt n j = none := by
  refine List.find?_eq_none.mpr fun it hit => ?_
  rw [beq_iff_eq, Cluster.vecReadAt_eq]
  exact (h it (List.mem_range.mp hit)).symm

variable (hvec : c.vec n = some j)
include hvec

/-- The iteration that is due is read and taken; the op is over with its DURmin. -/
theorem Cluster.vecCycle_of_due {it : Nat} (hit : it < c.vecIters n j.op) (hlcc : c.lcc = j.t0 + c.readCycle n j.op it) :
    let x := c.readRuns n j.op (c.vecRuns n j.op it)
    let y := x.2.vecTake n j it x.1
    c.vecCycle n = y.1.setVec n (if c.lcc + 1 < j.t0 + j.dm then some y.2 else none) := by
  rw [Cluster.vecCycle, hvec]
  simp only [Cluster.vecIt_of_due hit hlcc]

theorem Cluster.vecCycle_of_none_due (h : ∀ it < c.vecIters n j.op, c.lcc ≠ j.t0 + c.readCycle n j.op it) :
    c.vecCycle n = c.setVec n (if c.lcc + 1 < j.t0 + j.dm then some j else none) := by
  rw [Cluster.vecCycle, hvec]
  simp only [Cluster.vecIt_of_none_due h]

end

end Sys2Proof.Machine
end

section
/-! What VBCAST, VGATH, VSCAT and VCVT write (R80, R186, R191, R192). -/

namespace Sys2Proof.Machine

section
variable (c : Cluster) (n : Nat) (j : VecJob) (it : Nat) (ins : List (List Nat))

theorem Cluster.vecTake_bcast (h : opOpc j.op = 0x31) : c.vecTake n j it ins = (c.bcastTake n j it ins, j) := by
  simp only [Cluster.vecTake, h]

theorem Cluster.vecTake_gath (h : opOpc j.op = 0x34) : c.vecTake n j it ins = (c.gathTake n j it, j) := by
  simp only [Cluster.vecTake, h]

theorem Cluster.vecTake_scat (h : opOpc j.op = 0x35) : c.vecTake n j it ins = (c.scatTake n j it, j) := by
  simp only [Cluster.vecTake, h]

/-- The codes that a VBCAST writes in iteration it, in its own cycle. -/
def Cluster.bcastWrite (codes : List Nat) : Cluster := c.writeRun n (j.t0 + c.vX + it + 1) (c.desc n j.op 3) 128 it codes

/-- The active positions of iteration it of a VBCAST's output. -/
def Cluster.bcastLanes : Nat := (c.desc n j.op 3).active 128 ((c.desc n j.op 3).index 128 it).1

/-- The elements of the run that a VBCAST has read. -/
def Cluster.bcastElems : List W32 := (ins.headD []).map (loadElem (c.desc n j.op 0).fmt)

theorem Cluster.bcastTake_immediate (h : fld j.op 71 70 = 0) :
    c.bcastTake n j it ins = c.bcastWrite n j it
      (List.replicate (c.bcastLanes n j it) ((j.op.extractLsb' 32 32).toNat % 2 ^ fmtBits (c.desc n j.op 3).fmt)) := by
  have himm : BitVec.ofNat 32 (vPar j.op 63 32) = j.op.extractLsb' 32 32 := by
    rw [vPar, fld_eq_extract, BitVec.ofNat_toNat, BitVec.setWidth_eq]
  simp only [Cluster.bcastTake, vPar] at himm ⊢
  simp only [h, himm, List.map_replicate, bcastCode, if_true]
  rfl

theorem Cluster.bcastTake_run (h : fld j.op 71 70 = 1) (hlen : c.bcastLanes n j it ≤ (c.bcastElems n j ins).length) :
    c.bcastTake n j it ins = c.bcastWrite n j it
      (((c.bcastElems n j ins).take (c.bcastLanes n j it)).map (storeElem (c.desc n j.op 3).fmt .rne)) := by
  have hlanes : lanesOf (c.bcastLanes n j it) (c.bcastElems n j ins) = (c.bcastElems n j ins).take (c.bcastLanes n j it) :=
    List.take_append_of_le_length hlen
  rw [← hlanes]
  simp only [Cluster.bcastTake, vPar, h]
  rfl

theorem Cluster.bcastTake_elem (h : fld j.op 71 70 = 2) :
    let k := ((c.desc n j.op 3).index 128 it).2.getD 0 0 % (c.desc n j.op 0).n0 % 128
    c.bcastTake n j it ins = c.bcastWrite n j it
      (List.replicate (c.bcastLanes n j it) (storeElem (c.desc n j.op 3).fmt .rne ((c.bcastElems n j ins).getD k 0))) := by
  simp only [Cluster.bcastTake, vPar, h, List.map_replicate]
  rfl

end

/-! The entries of a VGATH and a VSCAT. -/

/-- Does an entry of an index list name one of a tile's rows? -/
def NamesRow (rows : Nat) (e : W16) : Prop := e.getLsbD 15 = true ∧ (e.extractLsb' 0 15).toNat < rows

section
variable {rows : Nat} {e : W16}

theorem entryRow_of_names (h : NamesRow rows e) : entryRow rows e = some (e.extractLsb' 0 15).toNat := by
  have hboth : (bitAt e 15 && decide (fld e 14 0 < rows)) = true := by
    rw [Bool.and_eq_true, decide_eq_true_eq]
    exact h
  exact if_pos hboth

theorem entryRow_of_not_names (h : ¬ NamesRow rows e) : entryRow rows e = none := by
  refine if_neg (mt ?_ h)
  rw [Bool.and_eq_true, decide_eq_true_eq]
  exact id

end

section
variable {c : Cluster} {n : Nat} {j : VecJob} {it : Nat}

theorem Cluster.gathTake_of_names (h : NamesRow (c.tileRows n (fld j.op 71 67)) (j.ents.getD it (0, 0)).1) :
    c.gathTake n j it = c.post c.lcc 2 (.row n (fld j.op 66 62) (fld j.op 30 24 + it)
      (c.tileRow n (fld j.op 71 67) ((j.ents.getD it (0, 0)).1.extractLsb' 0 15).toNat)) := by
  simp only [Cluster.gathTake, vPar, entryRow_of_names h]

theorem Cluster.gathTake_of_not_names (h : ¬ NamesRow (c.tileRows n (fld j.op 71 67)) (j.ents.getD it (0, 0)).1) :
    c.gathTake n j it = c.post c.lcc 2 (.row n (fld j.op 66 62) (fld j.op 30 24 + it)
      (List.replicate (c.tileB n (fld j.op 66 62)) 0)) := by
  simp only [Cluster.gathTake, vPar, entryRow_of_not_names h]

theorem Cluster.scatTake_of_not_names (h : ¬ NamesRow (c.tileRows n (fld j.op 66 62)) (j.ents.getD it (0, 0)).1) :
    c.scatTake n j it = c := by
  simp only [Cluster.scatTake, vPar, entryRow_of_not_names h]

/-- The row that an entry names takes the source row, or in ADD mode the sum of both. -/
theorem Cluster.scatTake_of_names (h : NamesRow (c.tileRows n (fld j.op 66 62)) (j.ents.getD it (0, 0)).1) :
    let r := ((j.ents.getD it (0, 0)).1.extractLsb' 0 15).toNat
    let src := c.tileRow n (fld j.op 71 67) (fld j.op 37 31 + it)
    c.scatTake n j it = c.post c.lcc 2 (.row n (fld j.op 66 62) r
      (if j.op.getLsbD 23 then addRow (c.scatWeight n j.op it) (c.tileRow n (fld j.op 66 62) r) src else src)) := by
  simp only [Cluster.scatTake, vPar, entryRow_of_names h]
  rfl

end

/-! Converted elements. -/

theorem cvtOne_float {src dst : Nat} (hsrc : fmtIsInt src = false) (hdst : fmtIsInt dst = false) (r : Rnd) (x : W32) :
    cvtOne src dst r x = ((fmtFloat dst).map (fun f => f.enc r (f32 x))).getD 0 ∨ 9 < dst := by
  rw [cvtOne, if_neg (Bool.eq_false_iff.mp hsrc), narrow]
  cases hfmt : fmtFloat dst with
  | some f => exact .inl rfl
  | none =>
    refine .inr ?_
    by_contra hle
    have hle : dst ≤ 9 := not_lt.mp hle
    interval_cases dst <;> simp [fmtFloat, fmtIsInt] at hfmt hdst

theorem cvtOne_int {src dst : Nat} (hsrc : fmtIsInt src = true) (hdst : fmtIsInt dst = true) (r : Rnd) (x : W32) :
    cvtOne src dst r x
      = (max (-(2 ^ (fmtBits dst - 1))) (min (2 ^ (fmtBits dst - 1) - 1) x.toInt) % (2 ^ fmtBits dst : Int)).toNat := by
  rw [cvtOne, if_pos hsrc, if_pos hdst, narrowInt, toIntSat_ofInt]

end Sys2Proof.Machine

open Sys2Proof Sys2Proof.Machine

/-- Settles O34: the start of each op, its cycles, what VBCAST, VGATH and VSCAT write, the reductions, the ranking and the
conversions. -/
theorem vectorOps : Obligations.VectorOps := by
  refine ⟨fun n o s => ?start, fun c n j hvec => ?cycle, fun mx chunks tree => ?reduce, ranked_sorted, fun src dst r x => ?convert⟩
  case start =>
    intro c q d x lam its runs hnul htab
    have hlcc : d.lcc = c.lcc := c.startOp_lcc q o
    have hruns {i : Instr} {opc dm : Nat} (f : Cluster → MacroOp → Cluster) (hexec : exec i s = done s (c.onVec n.val opc f))
        (hjob : opOpc o = opc → ((f d o).vec n.val).map VecJob.outline = some (o, c.lcc, dm, [])) : runs i opc (f d o) dm :=
      fun hstart => ⟨hexec.trans (congrArg (done s) (Cluster.onVec_started f hstart hnul htab)), hjob (Cluster.starting_opc hstart)⟩
    have hbegin (dm : Nat) (tiles : List Nat) :
        ((d.beginVec n.val o dm tiles []).vec n.val).map VecJob.outline = some (o, c.lcc, dm, []) := by
      rw [d.vec_beginVec n.isLt, hlcc]
    have hmove (dm tile : Nat) : ((d.beginMove n.val o tile dm).vec n.val).map VecJob.outline = some (o, c.lcc, dm, []) := by
      rw [d.vec_beginMove n.isLt, hlcc]
    refine ⟨fun hfrond hstart => ⟨?_, hbegin _ _⟩, hruns (Cluster.doVbcast · n.val ·) rfl fun hopc => ?_,
      hruns (Cluster.doVred · n.val ·) rfl fun hopc => ?_, hruns (Cluster.doVtopk · n.val ·) rfl fun _ => hbegin _ _,
      hruns (Cluster.doVgath · n.val ·) rfl fun _ => hmove _ _, hruns (Cluster.doVscat · n.val ·) rfl fun _ => hmove _ _,
      hruns (Cluster.doVcvt · n.val ·) rfl fun _ => hbegin _ _, hruns (Cluster.doVstat · n.val ·) rfl fun _ => hbegin _ _⟩
    · exact congrArg (done s) ((Cluster.onVec_started _ hstart hnul htab).trans
        (Cluster.withTab_sound _ (Cluster.tabSound_startOp q o hfrond)))
    · rw [show its = (d.desc n.val o 3).iters 128 from d.vecIters_bcast n.val hopc]
      exact hbegin _ _
    · rw [← d.vredLen_eq n.val hopc]
      exact hbegin _ _
  case cycle =>
    intro o p readAt left
    refine ⟨fun it hit hlcc => Cluster.vecCycle_of_due hvec hit hlcc, fun h => Cluster.vecCycle_of_none_due hvec h,
      fun it ins hopc => ?bcast, fun it ins _ => ?move⟩
    case bcast =>
      intro out x act w32 mode wr xs
      have htake {codes : List Nat} (h : c.bcastTake n.val j it ins = c.bcastWrite n.val j it codes) :
          c.vecTake n.val j it ins = wr codes :=
        (c.vecTake_bcast n.val j it ins hopc).trans (congrArg (·, j) h)
      exact ⟨fun h => htake (c.bcastTake_immediate n.val j it ins h), fun h hlen => htake (c.bcastTake_run n.val j it ins h hlen),
        fun h => htake (c.bcastTake_elem n.val j it ins h)⟩
    case move =>
      intro st dt e idx named put
      refine ⟨fun hopc => ⟨fun h => ?_, fun h => ?_⟩, fun hopc => ⟨fun h => ?_, fun h hset => ?_, fun h hadd => ?_⟩⟩
      · rw [c.vecTake_gath n.val j it ins hopc, Cluster.gathTake_of_names h]
      · rw [c.vecTake_gath n.val j it ins hopc, Cluster.gathTake_of_not_names h]
      · rw [c.vecTake_scat n.val j it ins hopc, Cluster.scatTake_of_not_names h]
      · rw [c.vecTake_scat n.val j it ins hopc, Cluster.scatTake_of_names h, hset]
        rfl
      · rw [c.vecTake_scat n.val j it ins hopc, Cluster.scatTake_of_names h, hadd]
        rfl
  case reduce =>
    intro xs nan res at_ over_
    have hnumber {x : W32} : ¬ nan x ↔ (f32 x).isNan = false := Bool.not_eq_true _ ▸ Iff.rfl
    refine ⟨reduce_int_sum chunks tree, redExt_of_nan mx, fun hne hnums => ?_, redArg_of_nan mx, fun hlen hsome => ?_⟩
    · have hnums : ∀ x ∈ xs, (f32 x).isNan = false := fun x hx => hnumber.mp (hnums x hx)
      obtain ⟨hmem, hmax⟩ := redExt_of_numbers mx hne hnums
      exact ⟨hmem, fun x hx hover => (hmax x hx).not_gt (extKey_lt_of_moreExtreme (hnums x hx) (hnums _ hmem) hover)⟩
    · have hsome : ∃ x ∈ xs, (f32 x).isNan = false := hsome.imp fun x hx => ⟨hx.1, hnumber.mp hx.2⟩
      obtain ⟨hlt, hnum, hbest, hfirst⟩ := redArg_index mx hlen hsome
      exact ⟨hlt, hnumber.mpr hnum, fun k hk hknum => hbest k hk (hnumber.mp hknum), hfirst⟩
  case convert =>
    refine ⟨fun hsrc hdst => cvtOne_float hsrc hdst r x, fun hsrc hdst => ?_, fun hsrc hdst => ?_⟩
    all_goals subst hdst; exact cvtOne_int hsrc rfl r x

end

section
/-! The write of an HST whose context is torn down before its slot comes (R272, R284, log entry 84): it takes the slot and ends
its group, and writes nothing. -/

namespace Sys2Proof.Machine

theorem exec_boundaryAccess (p : BankId) (s : State) :
    exec (.boundaryAccess p) s = .next (s.setCl (boundaryAccessC s.cl p.val)) := rfl

/-- A bank whose arbiter has the slot serves the request that its round-robin picks (R284). -/
theorem boundaryAccessC_of_nextReq {c : Cluster} {p : Nat} {r : BReq} (hslot : c.slotOpen p = true)
    (hturn : c.arbiterTurn p = true) (hnext : c.nextReq p = some r) :
    boundaryAccessC c p = (c.arbiterServed p r.cls r.grp r.idx).serveReq r := by
  simp only [boundaryAccessC, hslot, hturn, hnext, Bool.and_self, if_true]

/-- The write of an HST of a context torn down by now leaves the slot to its group alone (R272). -/
theorem Cluster.serveReq_of_hstTorn {c : Cluster} {r : BReq} {bs : List Byte} (hwrite : r.wr = some bs)
    (htorn : c.hstTorn r = true) : c.serveReq r = c.groupServe r [] false := by
  simp only [Cluster.serveReq, hwrite, htorn, if_true]

/-- If every write that is picked were performed, that one would leave what a write leaves. -/
theorem groupServe_of_bankSlots (h : Obligations.BankSlots) {c d : Cluster} {p : BankId} {r : BReq} {bs : List Byte}
    (hslot : c.slotOpen p.val = true) (hturn : c.arbiterTurn p.val = true) (hnext : c.nextReq p.val = some r)
    (hd : d = c.arbiterServed p.val r.cls r.grp r.idx) (hwrite : r.wr = some bs) (htorn : d.hstTorn r = true) :
    d.groupServe r [] false = (d.spdWriteLine (r.line * 64 + r.off) bs).groupServe r [] false := by
  obtain ⟨-, -, harbiter, -⟩ := h p ⟨[], c⟩
  have hwritten := (harbiter r hslot hturn hnext).1 bs hwrite
  rw [exec_boundaryAccess, Host.Outcome.next.injEq] at hwritten
  have hcl : boundaryAccessC c p.val = _ := congrArg State.cl hwritten
  rw [boundaryAccessC_of_nextReq hslot hturn hnext, ← hd, Cluster.serveReq_of_hstTorn hwrite htorn] at hcl
  rw [hcl, hd]
  rfl

/-- Eight bytes that an HST of core 0 writes at address 0. -/
def hstBytes : List Byte := List.replicate 8 1

/-- The request for their line, in bank 0. -/
def hstRequest : BReq where
  cls := 4
  line := 0
  off := 0
  len := 8
  grp := 0
  idx := 0
  wr := some hstBytes

/-- That request waits, and context 0, whose HST it is, is torn down. -/
def hstOfTorn : Cluster :=
  { State.reset.cl.setCtx 0 { Ctx.reset with torn := true } with
    spd := { Spd.reset with
      nextGrp := 1
      reqs := [hstRequest]
      groups := [{ id := 0, ctx := 0, done := .hst 0, left := 1, data := [], bad := false }] } }

/-- The same after the arbiter of bank 0 was served. -/
def hstOfTornServed : Cluster := hstOfTorn.arbiterServed 0 hstRequest.cls hstRequest.grp hstRequest.idx

theorem hstOfTorn_picked :
    hstOfTorn.slotOpen 0 = true ∧ hstOfTorn.arbiterTurn 0 = true ∧ hstOfTorn.nextReq 0 = some hstRequest := by decide +kernel

theorem hstOfTornServed_torn : hstOfTornServed.hstTorn hstRequest = true := by decide +kernel

/-- Without the write byte 0 stays as it was, -/
theorem hstOfTornServed_byte : Memory.byte (hstOfTornServed.groupServe hstRequest [] false).mem 0 = 0 := by decide +kernel

/-- and with it the byte is the one written. -/
theorem hstOfTornServed_byte_written :
    let d := hstOfTornServed.spdWriteLine (hstRequest.line * 64 + hstRequest.off) hstBytes
    Memory.byte (d.groupServe hstRequest [] false).mem 0 = 1 := by decide +kernel

end Sys2Proof.Machine

open Sys2Proof Sys2Proof.Machine

/-- Refutes O47: the write that an arbiter picks is not always performed. That of an HST whose context is torn down by the time
of its slot writes nothing (R272, log entry 84), and the statement has no such condition. -/
theorem not_bankSlots : ¬ Obligations.BankSlots := by
  intro h
  obtain ⟨hslot, hturn, hnext⟩ := hstOfTorn_picked
  have hsame := groupServe_of_bankSlots h (p := 0) (d := hstOfTornServed) hslot hturn hnext rfl rfl hstOfTornServed_torn
  have hbyte := congrArg (fun d => Memory.byte d.mem 0) hsame
  simp only [hstOfTornServed_byte, hstOfTornServed_byte_written] at hbyte
  exact absurd hbyte (by decide)

end

section
/-! Writes and repairs of words that may hold an error (R290, R292, R432): what a read without error delivers, how a repair
stores its word, and the forced errors of the scratchpad and of data memory. -/

namespace Sys2Proof.Machine

/-! The sparse maps. -/

/-- Where a value other than zero was written it is read, in canonical form or not. -/
theorem Sparse.get_set_of_ne_zero {w : Nat} (m : Sparse w) (a : Nat) {x : BitVec w} (hx : x ≠ 0#w) :
    Sparse.get (Sparse.set m a x) a = x := by
  induction m with
  | nil => simp [Sparse.set, Sparse.get, hx]
  | cons p r ih =>
    rcases lt_trichotomy a p.1 with hlt | heq | hgt
    · simp [Sparse.set, Sparse.get, hlt, hx]
    · simp [Sparse.set, Sparse.get, heq, hx]
    · simp [Sparse.set, Sparse.get, hgt.not_gt, hgt.ne', hgt.ne, ih]

/-- A selection that rejects a key does not see what is written there. -/
theorem Sparse.filter_set_of_rejected {w : Nat} {f : Nat × BitVec w → Bool} {a : Nat} (hf : ∀ x, f (a, x) = false)
    (m : Sparse w) (x : BitVec w) : List.filter f (Sparse.set m a x) = List.filter f m := by
  induction m with
  | nil => by_cases hx : x = 0#w <;> simp [Sparse.set, hx, hf]
  | cons p r ih =>
    obtain ⟨k, v⟩ := p
    rcases lt_trichotomy a k with hlt | rfl | hgt
    · by_cases hx : x = 0#w <;> simp [Sparse.set, hlt, hx, hf]
    · by_cases hx : x = 0#w <;> simp [Sparse.set, hx, hf]
    · simp [Sparse.set, hgt.not_gt, hgt.ne', List.filter_cons, ih]

/-! A read that meets no error (R290). -/

variable {c : Cluster}

theorem Cluster.maskBytes_of_unfenced {a n : Nat} (h : ∀ i, i < n → c.fencedAt (a + i) = false) :
    c.maskBytes a n [] = Memory.bytes c.mem a n := by
  rw [Memory.bytes_eq]
  refine List.map_congr_left fun i hi => ?_
  simp [h i (List.mem_range.mp hi)]

/-! A repair of one word (R292, R293). -/

/-- The cluster after a word of a repair entry is written back. -/
def Cluster.repaired (c : Cluster) (a : Nat) (v : W64) : Cluster :=
  { c with
    mem := Memory.write c.mem a (leBytes 8 v.toNat)
    memErr := Sparse.set c.memErr a 0
    spd := { c.spd with mark := Sparse.set c.spd.mark a 1 } }

theorem Cluster.repairWords_one (c : Cluster) (p line i t : Nat) (v : W64) :
    c.repairWords ⟨p, line, [(i, v)], t⟩ = c.repaired (line * 64 + 8 * i) v := rfl

theorem Memory.word64_write (m : Memory) (a : Nat) (v : W64) : Memory.word64 (Memory.write m a (leBytes 8 v.toNat)) a = v := by
  have hread : Memory.bytes (Memory.write m a (leBytes 8 v.toNat)) a 8 = leBytes 8 v.toNat := by
    simpa using Memory.bytes_write m a (leBytes 8 v.toNat)
  rw [Memory.word64, hread, leNat_leBytes, show 256 ^ 8 = 2 ^ 64 by decide, Nat.mod_eq_of_lt v.isLt, BitVec.ofNat_toNat,
    BitVec.setWidth_eq]

/-- The word repaired reads as the value, without error and marked; every other word is as it was. -/
theorem Cluster.repaired_words (hc : c.canon) (a : Nat) (v : W64) :
    let d := c.repaired a v
    Memory.word64 d.mem a = v ∧ Sparse.get d.memErr a = 0 ∧ Sparse.get d.spd.mark a = 1
      ∧ ∀ b, b ≠ a → Sparse.get d.memErr b = Sparse.get c.memErr b ∧ Sparse.get d.spd.mark b = Sparse.get c.spd.mark b
        ∧ (b < a ∨ a + 8 ≤ b → Memory.byte d.mem b = Memory.byte c.mem b) :=
  ⟨Memory.word64_write c.mem a v, Sparse.get_set_self a 0 hc.memErr, Sparse.get_set_of_ne_zero _ a (by decide),
    fun _ hb => ⟨Sparse.get_set_ne _ hb, Sparse.get_set_ne _ hb, fun hout => Memory.byte_write_out _ (by simpa using hout)⟩⟩

/-! Forced errors (R432). -/

/-- The bits that the armed detectors of a bank or a core invert in the next word: one for the corrected error, two for the
uncorrectable one. -/
def forcedBits (ce ue : Bool) : W64 := if ue then 3 else if ce then 1 else 0

theorem Cluster.armedAt_congr {d : Cluster} (h : d.flt = c.flt) (src inst : Nat) : d.armedAt src inst = c.armedAt src inst := by
  rw [Cluster.armedAt, h, Cluster.armedAt]

theorem Cluster.armedAt_disarm_self (src inst : Nat) : (c.disarm src).armedAt src inst = false := by
  simp [Cluster.disarm, Cluster.armedAt]

theorem Cluster.armedAt_disarm_ne {src other : Nat} (inst : Nat) (h : other ≠ src) :
    (c.disarm src).armedAt other inst = c.armedAt other inst := by
  simp [Cluster.disarm, Cluster.armedAt, h]

/-- What a store does about its armed detectors, ce and ue, with put the store of wrong bits: the bits of the later
detector stand, and both are disarmed. -/
def Cluster.inject (c : Cluster) (put : Cluster → W64 → Cluster) (ce ue inst : Nat) : Cluster :=
  let d := if c.armedAt ce inst then (put c 1).disarm ce else c
  if d.armedAt ue inst then (put d 3).disarm ue else d

section
variable {put : Cluster → W64 → Cluster} (hput : ∀ d x, (put d x).flt = d.flt) {ce ue : Nat} (hne : ce ≠ ue) (inst : Nat)
include hput hne

theorem Cluster.inject_flt :
    let d := c.inject put ce ue inst
    (c.armedAt ce inst = true → d.armedAt ce inst = false) ∧ (c.armedAt ue inst = true → d.armedAt ue inst = false)
      ∧ (c.armedAt ce inst = false → c.armedAt ue inst = false → d.flt = c.flt) := by
  have harmed := fun d x => Cluster.armedAt_congr (hput d x)
  by_cases hce : c.armedAt ce inst = true <;> by_cases hue : c.armedAt ue inst = true
  all_goals
    simp [Cluster.inject, hce, hue, harmed, Cluster.armedAt_disarm_self, Cluster.armedAt_disarm_ne, hne, hne.symm]

/-- The bits stored for a word, read by obs. -/
theorem Cluster.inject_bits {obs : Cluster → W64} (hobs : ∀ d x, x ≠ 0 → obs (put d x) = x)
    (hdisarm : ∀ d src, obs (d.disarm src) = obs d) (hclean : obs c = 0) :
    obs (c.inject put ce ue inst) = forcedBits (c.armedAt ce inst) (c.armedAt ue inst) := by
  have harmed := fun d x => Cluster.armedAt_congr (hput d x)
  by_cases hce : c.armedAt ce inst = true <;> by_cases hue : c.armedAt ue inst = true
  all_goals
    simp [Cluster.inject, forcedBits, hce, hue, harmed, Cluster.armedAt_disarm_ne, hne.symm, hobs, hdisarm, hclean]

end

theorem Cluster.injectSpd_eq (c : Cluster) (a : Nat) :
    c.injectSpd a = c.inject (fun d x => d.setErr (a / 8 * 8) x) 0x20 0x21 (c.pbank (lbankOf a)) := rfl

/-- The cluster after the bytes of a line write are stored, with their check bits fresh (R280, R292). -/
def Cluster.lineStored (c : Cluster) (a : Nat) (bs : List Byte) : Cluster :=
  let hit := fun (w : Nat) => decide (a < w + 8) && decide (w < a + bs.length)
  { c with
    mem := Memory.write c.mem a bs
    memErr := c.memErr.filter (fun kv => !hit kv.1)
    spd := { c.spd with repairs := cancelRepairs hit c.spd.repairs } }

theorem Cluster.spdWriteLine_eq {a : Nat} {bs : List Byte} (hbs : bs ≠ []) (hfence : c.fencedAt a = false) :
    c.spdWriteLine a bs = (c.lineStored a bs).injectSpd a := by
  rw [Cluster.spdWriteLine, if_neg (by simp [hbs, hfence])]
  rfl

/-- No error is left in the lowest word that is written. -/
theorem Cluster.lineStored_memErr (c : Cluster) (a : Nat) {bs : List Byte} (hbs : bs ≠ []) :
    Sparse.get (c.lineStored a bs).memErr (a / 8 * 8) = 0 := by
  have hlen := List.length_pos_iff.mpr hbs
  exact Sparse.get_filter_out (fun k => !(decide (a < k + 8) && decide (k < a + bs.length))) c.memErr _ (by
    simp only [Bool.not_eq_false', Bool.and_eq_true, decide_eq_true_eq]
    omega)

theorem Cluster.injectSpd_mem (c : Cluster) (a : Nat) : (c.injectSpd a).mem = c.mem := by
  unfold Cluster.injectSpd
  dsimp only
  repeat' split
  all_goals rfl

/-- A line write with or without forced errors (R432). -/
theorem Cluster.spdWriteLine_forced {a : Nat} {bs : List Byte} (hbs : bs ≠ []) (hfence : c.fencedAt a = false) :
    let p := c.pbank (lbankOf a)
    let d := c.spdWriteLine a bs
    d.mem = Memory.write c.mem a bs
      ∧ Sparse.get d.memErr (a / 8 * 8) = forcedBits (c.armedAt 0x20 p) (c.armedAt 0x21 p)
      ∧ (c.armedAt 0x20 p = true → d.armedAt 0x20 p = false) ∧ (c.armedAt 0x21 p = true → d.armedAt 0x21 p = false)
      ∧ (c.armedAt 0x20 p = false → c.armedAt 0x21 p = false → d.flt = c.flt) := by
  intro p d
  have hd : d = (c.lineStored a bs).injectSpd a := Cluster.spdWriteLine_eq hbs hfence
  refine ⟨?_, ?_, ?_⟩
  · rw [hd, Cluster.injectSpd_mem]
    rfl
  · rw [hd, Cluster.injectSpd_eq]
    exact Cluster.inject_bits (put := fun d x => d.setErr (a / 8 * 8) x) (fun _ _ => rfl)
      (by decide : 0x20 ≠ 0x21) p
      (obs := fun d => Sparse.get d.memErr (a / 8 * 8)) (fun _ _ hx => Sparse.get_set_of_ne_zero _ _ hx) (fun _ _ => rfl)
      (c.lineStored_memErr a hbs)
  · rw [hd, Cluster.injectSpd_eq]
    exact Cluster.inject_flt (c := c.lineStored a bs) (put := fun d x => d.setErr (a / 8 * 8) x) (fun _ _ => rfl)
      (by decide : 0x20 ≠ 0x21) p

/-! The same of a core's data memory. -/

def Cluster.setDmemErr (c : Cluster) (w : Nat) (m : W64) : Cluster := { c with dmemErr := Sparse.set c.dmemErr w m }

theorem Cluster.injectDmem_eq (c : Cluster) (n w : Nat) :
    c.injectDmem n w = c.inject (fun d x => d.setDmemErr w x) 0x24 0x25 n := rfl

/-- The cluster after the bytes of a data-memory write are stored, with their check bits fresh (R277). -/
def Cluster.dmemStored (c : Cluster) (k : Nat) (bs : List Byte) : Cluster :=
  { c with
    dmem := Memory.write c.dmem k bs
    dmemErr := Sparse.clearRange c.dmemErr (k / 8 * 8) ((k + bs.length + 7) / 8 * 8) }

theorem Cluster.dmemPut_eq (c : Cluster) (n a : Nat) (bs : List Byte) :
    c.dmemPut n a bs = (c.dmemStored (n * 65536 + a) bs).injectDmem n ((n * 65536 + a) / 8 * 8) := rfl

theorem Cluster.dmemStored_dmemErr (c : Cluster) (k : Nat) {bs : List Byte} (hbs : bs ≠ []) :
    Sparse.get (c.dmemStored k bs).dmemErr (k / 8 * 8) = 0 := by
  have hlen := List.length_pos_iff.mpr hbs
  exact Sparse.get_filter_out (fun b => decide (b < k / 8 * 8) || decide ((k + bs.length + 7) / 8 * 8 ≤ b)) c.dmemErr _ (by
    simp only [Bool.or_eq_false_iff, decide_eq_false_iff_not]
    omega)

theorem Cluster.injectDmem_dmem (c : Cluster) (n w : Nat) : (c.injectDmem n w).dmem = c.dmem := by
  unfold Cluster.injectDmem
  dsimp only
  repeat' split
  all_goals rfl

/-- A data-memory write with or without forced errors (R432). -/
theorem Cluster.dmemPut_forced (c : Cluster) (n a : Nat) {bs : List Byte} (hbs : bs ≠ []) :
    let k := n * 65536 + a
    let d := c.dmemPut n a bs
    d.dmem = Memory.write c.dmem k bs
      ∧ Sparse.get d.dmemErr (k / 8 * 8) = forcedBits (c.armedAt 0x24 n) (c.armedAt 0x25 n)
      ∧ (c.armedAt 0x24 n = true → d.armedAt 0x24 n = false) ∧ (c.armedAt 0x25 n = true → d.armedAt 0x25 n = false)
      ∧ (c.armedAt 0x24 n = false → c.armedAt 0x25 n = false → d.flt = c.flt) := by
  intro k d
  have hd : d = (c.dmemStored k bs).injectDmem n (k / 8 * 8) := Cluster.dmemPut_eq c n a bs
  refine ⟨?_, ?_, ?_⟩
  · rw [hd, Cluster.injectDmem_dmem]
    rfl
  · rw [hd, Cluster.injectDmem_eq]
    exact Cluster.inject_bits (put := fun d x => d.setDmemErr (k / 8 * 8) x) (fun _ _ => rfl)
      (by decide : 0x24 ≠ 0x25) n
      (obs := fun d => Sparse.get d.dmemErr (k / 8 * 8)) (fun _ _ hx => Sparse.get_set_of_ne_zero _ _ hx) (fun _ _ => rfl)
      (c.dmemStored_dmemErr k hbs)
  · rw [hd, Cluster.injectDmem_eq]
    exact Cluster.inject_flt (c := c.dmemStored k bs) (put := fun d x => d.setDmemErr (k / 8 * 8) x) (fun _ _ => rfl)
      (by decide : 0x24 ≠ 0x25) n

end Sys2Proof.Machine

end

section
/-! The record and the counts of an error of a scratchpad word (R290, R293, R294, R427). -/

namespace Sys2Proof.Machine

/-! Fields of a word whose value is known. -/

theorem fld_ofNat {v : Nat} (hv : v < 2 ^ 64) (hi lo : Nat) : fld (BitVec.ofNat 64 v) hi lo = v / 2 ^ lo % 2 ^ (hi + 1 - lo) := by
  rw [fld, BitVec.toNat_ofNat, Nat.mod_eq_of_lt hv, Nat.shiftRight_eq_div_pow]

theorem getLsbD_ofNat_iff (v : Nat) {i : Nat} (hi : i < 64) : (BitVec.ofNat 64 v).getLsbD i = true ↔ v / 2 ^ i % 2 = 1 := by
  rw [BitVec.getLsbD_ofNat, decide_eq_true hi, Bool.true_and, Nat.testBit_eq_decide_div_mod_eq, decide_eq_true_eq]

/-- A field that was replaced. -/
theorem fld_setFld_self (x : W64) {hi lo v : Nat} (hl : lo ≤ hi) (hw : hi < 64) (hv : v < 2 ^ (hi + 1 - lo)) :
    fld (setFld x hi lo v) hi lo = v := by
  refine Nat.eq_of_testBit_eq fun i => ?_
  rw [testBit_fld]
  by_cases hi' : i < hi + 1 - lo
  · rw [getLsbD_setFld x hi lo v _ hl (by omega), if_pos (by omega), Nat.add_sub_cancel_left]
    simp [hi']
  · have : v < 2 ^ i := hv.trans_le (Nat.pow_le_pow_right (by decide) (by omega))
    simp [hi', Nat.testBit_lt_two_pow this]

variable {c : Cluster}

/-! The registers of a bank's error count. -/

/-- SPD_BANK of a physical bank (R427). -/
def bankReg (p : Nat) : Nat := 0x200B1000 + 4 * p

/-- The error count of a bank after one more error: it sticks at 0xFF. -/
def Cluster.bankCount (c : Cluster) (p : Nat) : Nat := min (fld (c.regAt (bankReg p)) 7 0 + 1) 0xFF

theorem Cluster.fld_stick_bank (hc : c.canon) (p : Nat) :
    fld ((c.stick (bankReg p) 7 0 1).regAt (bankReg p)) 7 0 = c.bankCount p := by
  simp only [Cluster.stick]
  rw [Cluster.regAt_setReg_self hc, satN_eq_min, fld_setFld_self _ (by decide) (by decide)]
  · rfl
  · omega

theorem Cluster.bankErr_eq (c : Cluster) (p : Nat) :
    let d := c.stick (bankReg p) 7 0 1
    c.bankErr p = if c.dictAt 0x2100 2 ≤ fld (d.regAt (bankReg p)) 7 0 then d.pendBank p else d := rfl

theorem Cluster.pendBank_reg (c : Cluster) (p : Nat) : (c.pendBank p).reg = c.reg := by
  unfold Cluster.pendBank
  split <;> rfl

theorem Cluster.bankErr_reg (c : Cluster) (p : Nat) : (c.bankErr p).reg = (c.stick (bankReg p) 7 0 1).reg := by
  rw [Cluster.bankErr_eq]
  split
  · exact Cluster.pendBank_reg _ p
  · rfl

theorem Cluster.fld_bankErr (hc : c.canon) (p : Nat) : fld ((c.bankErr p).regAt (bankReg p)) 7 0 = c.bankCount p := by
  rw [← Cluster.fld_stick_bank hc, Cluster.regAt, Cluster.bankErr_reg]
  rfl

theorem Cluster.regAt_bankErr_ne {p x : Nat} (h : x ≠ bankReg p) : (c.bankErr p).regAt x = c.regAt x := by
  rw [Cluster.regAt, Cluster.bankErr_reg]
  exact Cluster.regAt_setReg_ne _ h

theorem Cluster.pendBank_pendB {p : Nat} (hfence : c.flt.fenB.getLsbD p = false) (hp : p < 256) :
    (c.pendBank p).flt.pendB.getLsbD p = true := by
  rw [Cluster.pendBank, if_neg (by rw [hfence]; decide)]
  rw [BitVec.getLsbD_or, BitVec.getLsbD_ofNat, Nat.testBit_two_pow_self, decide_eq_true hp, Bool.and_self, Bool.or_true]

/-- At the threshold the bank becomes pending, and below it nothing does (R427). -/
theorem Cluster.bankErr_pendB (hc : c.canon) {p : Nat} (hp : p < 256) (hfence : c.flt.fenB.getLsbD p = false) :
    (c.dictAt 0x2100 2 ≤ c.bankCount p → (c.bankErr p).flt.pendB.getLsbD p = true)
      ∧ (c.bankCount p < c.dictAt 0x2100 2 → (c.bankErr p).flt.pendB = c.flt.pendB) := by
  rw [Cluster.bankErr_eq, Cluster.fld_stick_bank hc]
  refine ⟨fun h => ?_, fun h => ?_⟩
  · rw [if_pos h]
    exact Cluster.pendBank_pendB hfence hp
  · rw [if_neg (by omega), Cluster.stick_flt]

/-! SPD_ERRLOG (R294). -/

theorem Cluster.logSpd_of_valid (h : (c.regAt 0x200B0010).getLsbD 63 = true) (kind agent ctx w : Nat) (ue : Bool) :
    c.logSpd kind agent ctx w ue = c := if_pos h

/-- SYND: its lowest bit tells a corrected error from an uncorrectable one (log entry 4). -/
def Cluster.syndrome (c : Cluster) (ue : Bool) : Nat := (Config.freeSyndrome c.freeCtr).toNat / 2 * 2 + (if ue then 0 else 1)

/-- The lowest-numbered handle that covers a line, 0 where none does. -/
def Cluster.firstHandle (c : Cluster) (line : Nat) : Nat := ((c.handlesAt line).head?.map (fun p => p.1)).getD 0

/-- The first word of SPD_ERRLOG: VALID, KIND, agent, bank, bank line, word, SYND, and the handle where one covers the line. -/
def Cluster.errLog (c : Cluster) (kind agent w : Nat) (ue : Bool) : Nat :=
  2 ^ 63 + kind * 2 ^ 60 + agent * 2 ^ 58 + c.pbank (lbankOf w) * 2 ^ 50 + qlineOf w * 2 ^ 36 + w / 8 % 8 * 2 ^ 33
    + c.syndrome ue * 2 ^ 25 + (c.handlesAt (w / 64)).head?.isSome.toNat * 2 ^ 24 + c.firstHandle (w / 64) * 2 ^ 12

theorem Cluster.syndrome_lt (c : Cluster) (ue : Bool) : c.syndrome ue < 256 := by
  have := (Config.freeSyndrome c.freeCtr).isLt
  unfold Cluster.syndrome
  split <;> omega

theorem Cluster.handlesAt_lt {line : Nat} : ∀ p ∈ c.handlesAt line, p.1 < 4096 := by
  intro p hp
  obtain ⟨kv, hkv, rfl⟩ := List.mem_map.mp hp
  have hrange := (List.mem_filter.mp hkv).2
  simp only [Bool.and_eq_true, decide_eq_true_eq] at hrange
  obtain ⟨⟨⟨⟨-, hhigh⟩, -⟩, -⟩, -⟩ := hrange
  simp only [rHnd] at hhigh ⊢
  omega

theorem Cluster.firstHandle_lt (c : Cluster) (line : Nat) : c.firstHandle line < 4096 := by
  unfold Cluster.firstHandle
  cases h : (c.handlesAt line).head? with
  | none => decide
  | some p => exact Cluster.handlesAt_lt p (List.mem_of_head? h)

theorem Cluster.pbank_lt (c : Cluster) (l : Nat) : c.pbank l < 256 := Nat.mod_lt _ (by decide)

theorem qlineOf_lt {w : Nat} (h : w < 0x0C000000) : qlineOf w < 2 ^ 14 := by
  unfold qlineOf
  omega

/-- The cluster with the two words of an error's record. -/
def Cluster.errLogged (c : Cluster) (record time : W64) : Cluster :=
  { (c.setReg 0x200B0010 record).setReg 0x200B0018 time with freeCtr := c.freeCtr + 1 }

theorem Cluster.regAt_errLogged_record (hc : c.canon) (record time : W64) :
    (c.errLogged record time).regAt 0x200B0010 = record :=
  (Cluster.regAt_setReg_ne time (by decide)).trans (Cluster.regAt_setReg_self hc _ record)

theorem Cluster.regAt_errLogged_time (hc : c.canon) (record time : W64) : (c.errLogged record time).regAt 0x200B0018 = time :=
  Cluster.regAt_setReg_self (Cluster.setReg_canon _ _ _ hc) _ time

section
variable {kind agent ctx w : Nat} {ue : Bool} (hempty : (c.regAt 0x200B0010).getLsbD 63 = false)

include hempty in
theorem Cluster.logSpd_of_empty (hk : kind < 8) (ha : agent < 4) (hw : w < 0x0C000000) :
    c.logSpd kind agent ctx w ue =
      c.errLogged (BitVec.ofNat 64 (c.errLog kind agent w ue)) (place ctx 32 ||| place (c.lcc % 2 ^ 32) 0) := by
  have hbank := c.pbank_lt (lbankOf w)
  have hline := qlineOf_lt hw
  have hsynd := c.syndrome_lt ue
  have hhandle := c.firstHandle_lt (w / 64)
  have hsome := (c.handlesAt (w / 64)).head?.isSome.toNat_lt
  have hnumber : (match (c.handlesAt (w / 64)).head? with
      | some p => place p.1 12
      | none => 0) = BitVec.ofNat 64 (c.firstHandle (w / 64) * 2 ^ 12) := by
    unfold Cluster.firstHandle
    cases (c.handlesAt (w / 64)).head? with
    | none => rfl
    | some p => exact congrArg (BitVec.ofNat 64) (Nat.shiftLeft_eq p.1 12)
  have hlog : placeB true 63 ||| place kind 60 ||| place agent 58 ||| place (c.pbank (lbankOf w)) 50 ||| place (qlineOf w) 36
      ||| place (w / 8 % 8) 33 ||| place (c.syndrome ue) 25 ||| placeB (c.handlesAt (w / 64)).head?.isSome 24 |||
      (match (c.handlesAt (w / 64)).head? with
       | some p => place p.1 12
       | none => 0) = BitVec.ofNat 64 (c.errLog kind agent w ue) := by
    rw [hnumber]
    simp only [placeB_eq, Bool.toNat_true, BitVec.or_assoc]
    rw [place_or_ofNat _ (by omega), place_or_ofNat _ (by omega), place_or_ofNat _ (by omega), place_or_ofNat _ (by omega),
      place_or_ofNat _ (by omega), place_or_ofNat _ (by omega), place_or_ofNat _ (by omega), place_or_ofNat _ (by omega)]
    simp only [Cluster.errLog, one_mul, add_assoc]
  rw [Cluster.logSpd, if_neg (by rw [bitAt, show rSpd + 0x10 = 0x200B0010 from rfl, hempty]; decide), ← hlog]
  rfl

/-- The fields of the first word (R294). -/
theorem Cluster.errLog_fields (hk : kind < 8) (ha : agent < 4) (hw : w < 0x0C000000) :
    let e := BitVec.ofNat 64 (c.errLog kind agent w ue)
    e.getLsbD 63 = true ∧ fld e 62 60 = kind ∧ fld e 59 58 = agent ∧ fld e 57 50 = c.pbank (lbankOf w)
      ∧ fld e 49 36 = qlineOf w ∧ fld e 35 33 = w / 8 % 8 ∧ (e.getLsbD 24 = true ↔ c.handlesAt (w / 64) ≠ []) := by
  have hbank := c.pbank_lt (lbankOf w)
  have hline := qlineOf_lt hw
  have hsynd := c.syndrome_lt ue
  have hhandle := c.firstHandle_lt (w / 64)
  have hsome := (c.handlesAt (w / 64)).head?.isSome.toNat_lt
  have hcovered : (c.handlesAt (w / 64)).head?.isSome.toNat = 1 ↔ c.handlesAt (w / 64) ≠ [] := by
    cases c.handlesAt (w / 64) <;> simp
  have hlt : c.errLog kind agent w ue < 2 ^ 64 := by
    unfold Cluster.errLog
    omega
  have hbit63 : (63 : Nat) < 64 := by decide
  have hbit24 : (24 : Nat) < 64 := by decide
  simp only [← hcovered, getLsbD_ofNat_iff _ hbit63, getLsbD_ofNat_iff _ hbit24, fld_ofNat hlt]
  unfold Cluster.errLog
  refine ⟨?_, ?_, ?_, ?_, ?_, ?_, ?_⟩
  all_goals omega

include hempty in
theorem Cluster.regAt_logSpd_record (hc : c.canon) (hk : kind < 8) (ha : agent < 4) (hw : w < 0x0C000000) :
    (c.logSpd kind agent ctx w ue).regAt 0x200B0010 = BitVec.ofNat 64 (c.errLog kind agent w ue) := by
  rw [Cluster.logSpd_of_empty hempty hk ha hw, Cluster.regAt_errLogged_record hc]

include hempty in
theorem Cluster.fld_logSpd_time (hc : c.canon) (hk : kind < 8) (ha : agent < 4) (hw : w < 0x0C000000) :
    fld ((c.logSpd kind agent ctx w ue).regAt 0x200B0018) 31 0 = c.lcc % 2 ^ 32 := by
  have hlcc : c.lcc % 2 ^ 32 < 2 ^ 32 := Nat.mod_lt _ (by decide)
  have hlow : place (c.lcc % 2 ^ 32) 0 = BitVec.ofNat 64 (c.lcc % 2 ^ 32) := rfl
  rw [Cluster.logSpd_of_empty hempty hk ha hw, Cluster.regAt_errLogged_time hc, hlow, place_or_ofNat _ hlcc, fld,
    BitVec.toNat_ofNat, Nat.shiftRight_zero]
  omega

end

theorem Cluster.regAt_logSpd_ne {x : Nat} (hrecord : x ≠ 0x200B0010) (htime : x ≠ 0x200B0018) (kind agent ctx w : Nat)
    (ue : Bool) :
    (c.logSpd kind agent ctx w ue).regAt x = c.regAt x := by
  unfold Cluster.logSpd
  dsimp only
  split
  · rfl
  · exact (Cluster.regAt_setReg_ne _ htime).trans (Cluster.regAt_setReg_ne _ hrecord)

end Sys2Proof.Machine

end

section
/-! The read of a scratchpad word with a stored error (R290, R291, R292, R293, R413). -/

namespace Sys2Proof.Machine

variable {c : Cluster}

/-! An error in its four parts: its record and counts, the teardown of the contexts that map its line, the entry in the repair
queue, and the fault. -/

/-- A word repaired before the sander reached it (R293). -/
def Cluster.isSticky (c : Cluster) (w : Nat) : Bool := Sparse.get c.spd.mark w != 0

theorem Cluster.isSticky_iff (w : Nat) : c.isSticky w = true ↔ Sparse.get c.spd.mark w ≠ 0 := by simp [Cluster.isSticky]

/-- KIND of an error (R294). -/
def Cluster.errKind (c : Cluster) (ue : Bool) (w : Nat) : Nat := if c.isSticky w then 3 else if ue then 1 else 0

theorem Cluster.errKind_lt (c : Cluster) (ue : Bool) (w : Nat) : c.errKind ue w < 8 := by
  unfold Cluster.errKind
  split
  · decide
  · split <;> decide

/-- SPD_UECNT and SPD_CECNT. -/
def errCounter (ue : Bool) : Nat := if ue then 0x200B0028 else 0x200B0020

/-- The record and the counter of an error, before the bank's own count. -/
def Cluster.errCounted (c : Cluster) (ue : Bool) (w agent ctx : Nat) : Cluster :=
  (c.logSpd (c.errKind ue w) agent ctx w ue).bump (errCounter ue) 0x200B0038 ue.toNat 1

/-- The record and the counts of an error: a sticky and an uncorrectable one count for the bank (R293). -/
def Cluster.errNoted (c : Cluster) (ue : Bool) (w agent ctx : Nat) : Cluster :=
  let d := c.errCounted ue w agent ctx
  if ue || c.isSticky w then d.bankErr (c.pbank (lbankOf w)) else d

/-- An uncorrectable error tears down the contexts that map a line (R291). -/
def Cluster.errTorn (c : Cluster) (ue : Bool) (line : Nat) : Cluster := if ue then c.each (c.mappers line) Cluster.teardown else c

/-- What is to be stored in place of the word: zero for an uncorrectable one (R291). -/
def Cluster.errWord (c : Cluster) (ue : Bool) (w : Nat) : W64 := if ue then 0 else Memory.word64 c.mem w

/-- The fault of an error. -/
def Cluster.errFault (c : Cluster) (ue : Bool) (w : Nat) : FaultIn :=
  if ue then { src := 0x21, cls := 2, inst := c.pbank (lbankOf w), scope := 3, ctx := 0 }
  else { src := 0x20, cls := 1, inst := c.pbank (lbankOf w), scope := 0, ctx := 0, noEsc := c.inRepair w }

def Cluster.errServed (c : Cluster) (ue : Bool) (w agent ctx : Nat) : Cluster :=
  (((c.errNoted ue w agent ctx).errTorn ue (w / 64)).addRepair w (c.errWord ue w)).record (c.errFault ue w)

/-! What they leave alone. -/

/-- The cluster without what the record and the counts change, -/
def Cluster.noteFrame (c : Cluster) : Cluster := { c with reg := [], freeCtr := 0, flt := { c.flt with pendB := 0 } }

/-- and without what a teardown changes as well. -/
def Cluster.errFrame (c : Cluster) : Cluster := { c.noteFrame with ctxs := Vector.replicate 64 Ctx.reset, run := none }

theorem Cluster.eq_of_noteFrame {d : Cluster} (h : d.noteFrame = c.noteFrame) :
    d = { c with reg := d.reg, freeCtr := d.freeCtr, flt := { c.flt with pendB := d.flt.pendB } } :=
  calc d = { d.noteFrame with reg := d.reg, freeCtr := d.freeCtr, flt := { d.noteFrame.flt with pendB := d.flt.pendB } } := rfl
    _ = { c with reg := d.reg, freeCtr := d.freeCtr, flt := { c.flt with pendB := d.flt.pendB } } := by
      rw [h]
      rfl

theorem Cluster.noteFrame_logSpd (kind agent ctx w : Nat) (ue : Bool) :
    (c.logSpd kind agent ctx w ue).noteFrame = c.noteFrame := by
  unfold Cluster.logSpd
  dsimp only
  split <;> rfl

theorem Cluster.noteFrame_bump (a e b n : Nat) : (c.bump a e b n).noteFrame = c.noteFrame := by
  rw [Cluster.bump_form]
  rfl

theorem Cluster.noteFrame_bankErr (p : Nat) : (c.bankErr p).noteFrame = c.noteFrame := by
  rw [Cluster.bankErr_eq]
  unfold Cluster.pendBank
  repeat' split
  all_goals rfl

theorem Cluster.errFrame_teardown (k : Nat) : (c.teardown k).errFrame = c.errFrame := by
  unfold Cluster.teardown
  dsimp only
  split
  · unfold Cluster.keepTorn
    split <;> rfl
  · rw [Cluster.account_form]
    rfl

section
variable (c) (ue : Bool) (w agent ctx : Nat)

theorem Cluster.noteFrame_errCounted : (c.errCounted ue w agent ctx).noteFrame = c.noteFrame :=
  (Cluster.noteFrame_bump _ _ _ _).trans (Cluster.noteFrame_logSpd _ _ _ _ _)

theorem Cluster.noteFrame_errNoted : (c.errNoted ue w agent ctx).noteFrame = c.noteFrame := by
  unfold Cluster.errNoted
  dsimp only
  split
  · exact (Cluster.noteFrame_bankErr _).trans (c.noteFrame_errCounted ue w agent ctx)
  · exact c.noteFrame_errCounted ue w agent ctx

theorem Cluster.errNoted_form :
    let d := c.errNoted ue w agent ctx
    d = { c with reg := d.reg, freeCtr := d.freeCtr, flt := { c.flt with pendB := d.flt.pendB } } :=
  Cluster.eq_of_noteFrame (c.noteFrame_errNoted ue w agent ctx)

theorem Cluster.errFrame_errTorn : (c.errTorn ue w).errFrame = c.errFrame := by
  unfold Cluster.errTorn
  split
  · exact Cluster.each_keeps Cluster.errFrame (fun _ k => Cluster.errFrame_teardown k) _ c
  · rfl

/-- The cluster after the record, the counts and the teardown, before the word is queued and the fault recorded. -/
def Cluster.errReacted : Cluster := (c.errNoted ue w agent ctx).errTorn ue (w / 64)

theorem Cluster.errFrame_errReacted : (c.errReacted ue w agent ctx).errFrame = c.errFrame :=
  (Cluster.errFrame_errTorn _ _ _).trans
    (congrArg (fun d => { d with ctxs := Vector.replicate 64 Ctx.reset, run := none }) (c.noteFrame_errNoted ue w agent ctx))

end

/-! The repair queue (R292). -/

/-- The repair queues with a word entered. -/
def Cluster.repairsWith (c : Cluster) (w : Nat) (v : W64) : List Repair :=
  let rs := c.spd.repairs
  let p := c.pbank (lbankOf w)
  if rs.any (fun r => r.line == w / 64) then
    rs.map (fun r =>
      if r.line = w / 64 then { r with words := r.words.filter (fun q => q.1 != w / 8 % 8) ++ [(w / 8 % 8, v)] } else r)
  else if (rs.filter (fun r => r.bank == p)).length < 4 then rs ++ [⟨p, w / 64, [(w / 8 % 8, v)], c.clk.free⟩]
  else rs

theorem Cluster.addRepair_form (c : Cluster) (w : Nat) (v : W64) :
    c.addRepair w v = { c with spd := { c.spd with repairs := c.repairsWith w v } } := by
  unfold Cluster.addRepair Cluster.repairsWith
  dsimp only
  repeat' split
  all_goals rfl

/-- A word of a line that has no entry yet takes a new one, where the bank has fewer than four. -/
theorem Cluster.repairsWith_new {w : Nat} (v : W64) (hline : c.spd.repairs.any (fun r => r.line == w / 64) = false)
    (hroom : (c.spd.repairs.filter (fun r => r.bank == c.pbank (lbankOf w))).length < 4) :
    c.repairsWith w v = c.spd.repairs ++ [⟨c.pbank (lbankOf w), w / 64, [(w / 8 % 8, v)], c.clk.free⟩] := by
  unfold Cluster.repairsWith
  dsimp only
  rw [if_neg (by rw [hline]; decide), if_pos hroom]

/-- The queue and the collector's inbox are all that the last two parts change. -/
theorem Cluster.errServed_form (c : Cluster) (ue : Bool) (w agent ctx : Nat) :
    let e := c.errReacted ue w agent ctx
    c.errServed ue w agent ctx = { e with
      spd := { e.spd with repairs := e.repairsWith w (c.errWord ue w) }
      flt := { e.flt with inbox := e.flt.inbox ++ [{ c.errFault ue w with tb := e.tb.value }] } } := by
  intro e
  have hunfold : c.errServed ue w agent ctx = (e.addRepair w (c.errWord ue w)).record (c.errFault ue w) := rfl
  rw [hunfold, Cluster.addRepair_form]
  rfl

/-! The model's two kinds of error in these parts. -/

theorem Cluster.errNoted_mem (c : Cluster) (ue : Bool) (w agent ctx : Nat) : (c.errNoted ue w agent ctx).mem = c.mem := by
  rw [c.errNoted_form ue w agent ctx]

theorem Cluster.spdCe_eq (c : Cluster) (w agent ctx : Nat) : c.spdCe w agent ctx = c.errServed false w agent ctx := by
  have hunfold : c.spdCe w agent ctx = ((c.errNoted false w agent ctx).addRepair w
      (Memory.word64 (c.errNoted false w agent ctx).mem w)).record (c.errFault false w) := by
    rfl
  rw [hunfold, Cluster.errNoted_mem]
  rfl

theorem Cluster.residentOf_errServed (c : Cluster) (ue : Bool) (w agent ctx line : Nat) :
    (c.errServed ue w agent ctx).residentOf line = c.residentOf line := by
  have himgs : (c.errServed ue w agent ctx).imgs = c.imgs := by
    rw [Cluster.errServed_form]
    have hframe := congrArg Cluster.imgs (c.errFrame_errReacted ue w agent ctx)
    exact hframe
  rw [Cluster.residentOf, himgs, Cluster.residentOf]

theorem Cluster.spdUe_eq {w : Nat} (hres : c.residentOf (w / 64) = none) (agent ctx : Nat) :
    c.spdUe w agent ctx = c.errServed true w agent ctx := by
  have hnone := (c.residentOf_errServed true w agent ctx (w / 64)).trans hres
  unfold Cluster.spdUe
  dsimp only
  split
  · next slot hsome => exact absurd (hnone.symm.trans hsome) (by simp)
  · rfl

end Sys2Proof.Machine

end

section
/-! What the read of such a word leaves in the registers, in the contexts, and everywhere else. -/

namespace Sys2Proof.Machine

variable {c : Cluster}

/-! The contexts that map a line (R287, R291). -/

theorem Cluster.handlesAt_setReg {x : Nat} (hx : x < 0x200B8000) (v : W64) (line : Nat) :
    (c.setReg x v).handlesAt line = c.handlesAt line := by
  have hrejected : decide (rHnd 0 ≤ x) = false := decide_eq_false (by simp only [rHnd]; omega)
  unfold Cluster.handlesAt
  rw [Cluster.setReg_reg, Sparse.filter_set_of_rejected fun y => by simp only [hrejected, Bool.false_and]]

theorem Cluster.handlesAt_congr {d : Cluster} (h : d.reg = c.reg) (line : Nat) : d.handlesAt line = c.handlesAt line := by
  rw [Cluster.handlesAt, h, Cluster.handlesAt]

theorem Cluster.handlesAt_bump {a e : Nat} (ha : a < 0x200B8000) (he : e < 0x200B8000) (b n line : Nat) :
    (c.bump a e b n).handlesAt line = c.handlesAt line := by
  unfold Cluster.bump
  dsimp only
  split
  · exact (Cluster.handlesAt_setReg he _ line).trans (Cluster.handlesAt_setReg ha _ line)
  · exact Cluster.handlesAt_setReg ha _ line

theorem Cluster.handlesAt_logSpd (kind agent ctx w : Nat) (ue : Bool) (line : Nat) :
    (c.logSpd kind agent ctx w ue).handlesAt line = c.handlesAt line := by
  unfold Cluster.logSpd
  dsimp only
  split
  · rfl
  · exact (Cluster.handlesAt_setReg (by decide) _ line).trans (Cluster.handlesAt_setReg (by decide) _ line)

theorem Cluster.handlesAt_bankErr {p : Nat} (hp : p < 256) (line : Nat) : (c.bankErr p).handlesAt line = c.handlesAt line :=
  (Cluster.handlesAt_congr (Cluster.bankErr_reg c p) line).trans
    (Cluster.handlesAt_setReg (by simp only [bankReg]; omega) _ line)

theorem Cluster.mappers_errNoted (c : Cluster) (ue : Bool) (w agent ctx line : Nat) :
    (c.errNoted ue w agent ctx).mappers line = c.mappers line := by
  have hcounted : (c.errCounted ue w agent ctx).handlesAt line = c.handlesAt line :=
    (Cluster.handlesAt_bump (by cases ue <;> decide) (by decide) _ _ line).trans (Cluster.handlesAt_logSpd _ _ _ _ _ line)
  have hnoted : (c.errNoted ue w agent ctx).handlesAt line = c.handlesAt line := by
    unfold Cluster.errNoted
    dsimp only
    split
    · exact (Cluster.handlesAt_bankErr (c.pbank_lt _) line).trans hcounted
    · exact hcounted
  rw [Cluster.mappers, hnoted, Cluster.mappers]

theorem Cluster.mappers_lt {line k : Nat} (h : k ∈ c.mappers line) : k < 64 := by
  rw [Cluster.mappers, List.mem_eraseDups] at h
  obtain ⟨p, -, rfl⟩ := List.mem_map.mp h
  exact Nat.mod_lt _ (by decide)

/-! Their teardown (R386). -/

theorem Cluster.ctx_account (k i n j : Nat) : (c.account k i n).ctx j = c.ctx j := by
  rw [Cluster.ctx, Cluster.account_ctxs, Cluster.ctx]

theorem Cluster.ctx_keepTorn (k j : Nat) : (c.keepTorn k).ctx j = c.ctx j := by
  unfold Cluster.keepTorn
  split <;> rfl

theorem Cluster.torn_teardown_self {k : Nat} (hk : k < 64) : ((c.teardown k).ctx k).torn = true := by
  unfold Cluster.teardown
  dsimp only
  split
  · next htorn => rw [Cluster.ctx_keepTorn, htorn]
  · rw [Cluster.ctx_setCtx_self _ _ _ hk]

theorem Cluster.torn_teardown_of_torn {j : Nat} (k : Nat) (h : (c.ctx j).torn = true) : ((c.teardown k).ctx j).torn = true := by
  unfold Cluster.teardown
  dsimp only
  split
  · rw [Cluster.ctx_keepTorn, h]
  · next hne =>
    have hjk : j ≠ k := fun e => hne (e ▸ h)
    rw [Cluster.ctx_setCtx_ne _ _ _ _ hjk, Cluster.ctx_account, h]

theorem Cluster.torn_each_teardown {l : List Nat} {k : Nat} (hk : k < 64) (h : k ∈ l) :
    ((c.each l Cluster.teardown).ctx k).torn = true := by
  induction l generalizing c with
  | nil => exact absurd h List.not_mem_nil
  | cons j rest ih =>
    rw [Cluster.each_cons]
    rcases List.mem_cons.mp h with rfl | hrest
    · exact foldl_keep (fun d => (d.ctx k).torn = true) Cluster.teardown rest (Cluster.torn_teardown_self hk)
        (fun _ i hd => Cluster.torn_teardown_of_torn i hd)
    · exact ih hrest

section
variable (c) (ue : Bool) (w agent ctx : Nat)

/-- An uncorrectable error tears down every context that maps the line of its word (R291). -/
theorem Cluster.torn_errServed : ∀ k ∈ c.mappers (w / 64), ((c.errServed true w agent ctx).ctx k).torn = true := by
  intro k hk
  have hreacted : (c.errReacted true w agent ctx)
      = (c.errNoted true w agent ctx).each (c.mappers (w / 64)) Cluster.teardown := by
    rw [← c.mappers_errNoted true w agent ctx]
    rfl
  rw [Cluster.errServed_form, hreacted]
  exact Cluster.torn_each_teardown (Cluster.mappers_lt hk) hk

/-! The registers. -/

/-- A teardown counts in its context's accounting, which stands below the registers of the scratchpad. -/
theorem Cluster.regAt_errReacted {x : Nat} (hx : 0x200B0000 ≤ x) :
    (c.errReacted ue w agent ctx).regAt x = (c.errNoted ue w agent ctx).regAt x := by
  unfold Cluster.errReacted Cluster.errTorn
  split
  · refine Cluster.each_keeps_of_mem (fun d => d.regAt x) (fun k hk d => ?_) _
    have := Cluster.mappers_lt hk
    exact Cluster.regAt_teardown_ne (by omega) (by omega)
  · rfl

theorem Cluster.regAt_errServed {x : Nat} (hx : 0x200B0000 ≤ x) :
    (c.errServed ue w agent ctx).regAt x = (c.errNoted ue w agent ctx).regAt x := by
  rw [← c.regAt_errReacted ue w agent ctx hx, Cluster.errServed_form]
  rfl

variable {c} in
theorem Cluster.regAt_errCounted_ne {x : Nat} (hcount : x ≠ errCounter ue) (hwrap : x ≠ 0x200B0038)
    (hrecord : x ≠ 0x200B0010) (htime : x ≠ 0x200B0018) : (c.errCounted ue w agent ctx).regAt x = c.regAt x :=
  (Cluster.regAt_bump_ne _ _ hcount hwrap).trans (Cluster.regAt_logSpd_ne hrecord htime _ _ _ _ _)

theorem Cluster.regAt_errCounted_counter (hc : c.canon) :
    (c.errCounted ue w agent ctx).regAt (errCounter ue)
      = BitVec.ofNat 64 (((c.regAt (errCounter ue)).toNat % 2 ^ 48 + 1) % 2 ^ 48) := by
  rw [Cluster.errCounted, Cluster.regAt_bump_self (Cluster.logSpd_canon _ _ _ _ _ _ hc) _ _ (by cases ue <;> decide),
    Cluster.regAt_logSpd_ne (by cases ue <;> decide) (by cases ue <;> decide)]

theorem Cluster.regAt_errCounted_log {x : Nat} (hx : x = 0x200B0010 ∨ x = 0x200B0018) :
    (c.errCounted ue w agent ctx).regAt x = (c.logSpd (c.errKind ue w) agent ctx w ue).regAt x := by
  refine Cluster.regAt_bump_ne _ _ ?_ ?_
  all_goals rcases hx with rfl | rfl <;> cases ue <;> decide

theorem Cluster.regAt_errNoted_ne {x : Nat} (h : x ≠ bankReg (c.pbank (lbankOf w))) :
    (c.errNoted ue w agent ctx).regAt x = (c.errCounted ue w agent ctx).regAt x := by
  unfold Cluster.errNoted
  dsimp only
  split
  · exact Cluster.regAt_bankErr_ne h
  · rfl

/-- The registers below those of the banks. -/
theorem Cluster.regAt_errServed_low {x : Nat} (hx : 0x200B0000 ≤ x) (hlow : x < 0x200B1000) :
    (c.errServed ue w agent ctx).regAt x = (c.errCounted ue w agent ctx).regAt x :=
  (c.regAt_errServed ue w agent ctx hx).trans (c.regAt_errNoted_ne ue w agent ctx (by simp only [bankReg]; omega))

theorem Cluster.regAt_errServed_counters (hc : c.canon) :
    let plus := fun (a : Nat) => BitVec.ofNat 64 (((c.regAt a).toNat % 2 ^ 48 + 1) % 2 ^ 48)
    let d := c.errServed ue w agent ctx
    d.regAt 0x200B0020 = (if ue then c.regAt 0x200B0020 else plus 0x200B0020)
      ∧ d.regAt 0x200B0028 = (if ue then plus 0x200B0028 else c.regAt 0x200B0028) := by
  intro plus d
  have hlow : ∀ x ∈ [0x200B0020, 0x200B0028], d.regAt x = (c.errCounted ue w agent ctx).regAt x := by
    intro x hx
    simp only [List.mem_cons, List.not_mem_nil, or_false] at hx
    exact c.regAt_errServed_low ue w agent ctx (by omega) (by omega)
  have hself := c.regAt_errCounted_counter ue w agent ctx hc
  rw [hlow _ (by simp), hlow _ (by simp)]
  cases ue with
  | false => exact ⟨hself, Cluster.regAt_errCounted_ne _ _ _ _ (by decide) (by decide) (by decide) (by decide)⟩
  | true => exact ⟨Cluster.regAt_errCounted_ne _ _ _ _ (by decide) (by decide) (by decide) (by decide), hself⟩

theorem Cluster.regAt_errServed_log {x : Nat} (hx : x = 0x200B0010 ∨ x = 0x200B0018) :
    (c.errServed ue w agent ctx).regAt x = (c.logSpd (c.errKind ue w) agent ctx w ue).regAt x :=
  (c.regAt_errServed_low ue w agent ctx (by omega) (by omega)).trans (c.regAt_errCounted_log ue w agent ctx hx)

/-! The bank's count and its fence (R293, R427). -/

theorem Cluster.errNoted_of_counts (h : (ue || c.isSticky w) = true) :
    c.errNoted ue w agent ctx = (c.errCounted ue w agent ctx).bankErr (c.pbank (lbankOf w)) := if_pos h

theorem Cluster.errNoted_of_not_counts (h : (ue || c.isSticky w) = false) :
    c.errNoted ue w agent ctx = c.errCounted ue w agent ctx := if_neg (by rw [h]; decide)

theorem Cluster.regAt_errCounted_bank (p : Nat) : (c.errCounted ue w agent ctx).regAt (bankReg p) = c.regAt (bankReg p) := by
  have hcounter : errCounter ue < 0x200B1000 := by cases ue <;> decide
  refine Cluster.regAt_errCounted_ne _ _ _ _ ?_ ?_ ?_ ?_
  all_goals
    simp only [bankReg]
    omega

theorem Cluster.errCounted_flt : (c.errCounted ue w agent ctx).flt = c.flt := by
  rw [Cluster.errCounted, Cluster.bump_flt]
  unfold Cluster.logSpd
  dsimp only
  split <;> rfl

theorem Cluster.teardown_flt (k : Nat) : (c.teardown k).flt = c.flt := by
  unfold Cluster.teardown
  dsimp only
  split
  · unfold Cluster.keepTorn
    split <;> rfl
  · rw [Cluster.setCtx_flt, Cluster.account_flt]

theorem Cluster.errReacted_flt : (c.errReacted ue w agent ctx).flt = (c.errNoted ue w agent ctx).flt := by
  unfold Cluster.errReacted Cluster.errTorn
  split
  · exact Cluster.each_keeps Cluster.flt Cluster.teardown_flt _ _
  · rfl

theorem Cluster.errServed_pendB : (c.errServed ue w agent ctx).flt.pendB = (c.errNoted ue w agent ctx).flt.pendB := by
  rw [← c.errReacted_flt ue w agent ctx, Cluster.errServed_form]

/-- A sticky or uncorrectable error counts for its bank, and at the threshold makes it pending. -/
theorem Cluster.errServed_bank (hc : c.canon) (hfence : c.fencedAt w = false) (h : (ue || c.isSticky w) = true) :
    let p := c.pbank (lbankOf w)
    let d := c.errServed ue w agent ctx
    fld (d.regAt (bankReg p)) 7 0 = c.bankCount p
      ∧ (c.dictAt 0x2100 2 ≤ c.bankCount p → d.flt.pendB.getLsbD p = true)
      ∧ (c.bankCount p < c.dictAt 0x2100 2 → d.flt.pendB = c.flt.pendB) := by
  intro p d
  have hcanon : (c.errCounted ue w agent ctx).canon := Cluster.bump_canon _ _ _ _ _ (Cluster.logSpd_canon _ _ _ _ _ _ hc)
  have hcount : (c.errCounted ue w agent ctx).bankCount p = c.bankCount p := by
    rw [Cluster.bankCount, c.regAt_errCounted_bank, Cluster.bankCount]
  have hdict : (c.errCounted ue w agent ctx).dictAt 0x2100 2 = c.dictAt 0x2100 2 :=
    congrArg (fun d => d.dictAt 0x2100 2) (c.noteFrame_errCounted ue w agent ctx)
  have hflt := c.errCounted_flt ue w agent ctx
  have hpending := Cluster.bankErr_pendB hcanon (p := p) (c.pbank_lt _) (by rw [hflt]; exact hfence)
  rw [hcount, hdict, ← c.errNoted_of_counts ue w agent ctx h, ← c.errServed_pendB, hflt] at hpending
  refine ⟨?_, hpending⟩
  rw [c.regAt_errServed ue w agent ctx (by simp only [bankReg]; omega), c.errNoted_of_counts ue w agent ctx h,
    Cluster.fld_bankErr hcanon, hcount]

/-- Any other error leaves the bank's count alone. -/
theorem Cluster.errServed_bank_of_not_counts (h : (ue || c.isSticky w) = false) :
    let p := c.pbank (lbankOf w)
    let d := c.errServed ue w agent ctx
    d.regAt (bankReg p) = c.regAt (bankReg p) ∧ d.flt.pendB = c.flt.pendB := by
  intro p d
  refine ⟨?_, ?_⟩
  · rw [c.regAt_errServed ue w agent ctx (by simp only [bankReg]; omega), c.errNoted_of_not_counts ue w agent ctx h,
      c.regAt_errCounted_bank]
  · rw [c.errServed_pendB, c.errNoted_of_not_counts ue w agent ctx h, c.errCounted_flt]

/-! The log (R294). -/

theorem Cluster.errServed_log_of_valid (h : (c.regAt 0x200B0010).getLsbD 63 = true) :
    let d := c.errServed ue w agent ctx
    d.regAt 0x200B0010 = c.regAt 0x200B0010 ∧ d.regAt 0x200B0018 = c.regAt 0x200B0018 := by
  intro d
  rw [c.regAt_errServed_log ue w agent ctx (.inl rfl), c.regAt_errServed_log ue w agent ctx (.inr rfl), Cluster.logSpd_of_valid h]
  exact ⟨rfl, rfl⟩

theorem Cluster.errServed_log_of_empty (hc : c.canon) (ha : agent < 4) (hw : w < 0x0C000000)
    (h : (c.regAt 0x200B0010).getLsbD 63 = false) :
    let d := c.errServed ue w agent ctx
    let e := d.regAt 0x200B0010
    e.getLsbD 63 = true ∧ fld e 62 60 = c.errKind ue w ∧ fld e 59 58 = agent ∧ fld e 57 50 = c.pbank (lbankOf w)
      ∧ fld e 49 36 = qlineOf w ∧ fld e 35 33 = w / 8 % 8 ∧ (e.getLsbD 24 = true ↔ c.handlesAt (w / 64) ≠ [])
      ∧ fld (d.regAt 0x200B0018) 31 0 = c.lcc % 2 ^ 32 := by
  intro d e
  have hkind := c.errKind_lt ue w
  have he : e = BitVec.ofNat 64 (c.errLog (c.errKind ue w) agent w ue) :=
    (c.regAt_errServed_log ue w agent ctx (.inl rfl)).trans (Cluster.regAt_logSpd_record h hc hkind ha hw)
  have htime := Cluster.fld_logSpd_time (ctx := ctx) (ue := ue) h hc hkind ha hw
  rw [← c.regAt_errServed_log ue w agent ctx (.inr rfl)] at htime
  obtain ⟨hvalid, hfkind, hfagent, hfbank, hfline, hfword, hhandle⟩ := Cluster.errLog_fields (c := c) (ue := ue) hkind ha hw
  rw [he]
  exact ⟨hvalid, hfkind, hfagent, hfbank, hfline, hfword, hhandle, htime⟩

/-! Everything else. -/

theorem Cluster.errReacted_keeps :
    let e := c.errReacted ue w agent ctx
    e.mem = c.mem ∧ e.memErr = c.memErr ∧ e.spd = c.spd ∧ e.tim = c.tim ∧ e.clk = c.clk ∧ e.tb = c.tb :=
  have h := c.errFrame_errReacted ue w agent ctx
  ⟨(congrArg Cluster.mem h :), (congrArg Cluster.memErr h :), (congrArg Cluster.spd h :), (congrArg Cluster.tim h :),
    (congrArg Cluster.clk h :), (congrArg Cluster.tb h :)⟩

/-- Nothing is written by the read itself (R292). -/
theorem Cluster.errServed_keeps :
    let d := c.errServed ue w agent ctx
    d.mem = c.mem ∧ d.memErr = c.memErr ∧ d.spd.mark = c.spd.mark ∧ d.lcc = c.lcc := by
  obtain ⟨hmem, herr, hspd, htim, -, -⟩ := c.errReacted_keeps ue w agent ctx
  have hmark : (c.errReacted ue w agent ctx).spd.mark = c.spd.mark := congrArg Spd.mark hspd
  have hlcc : (c.errReacted ue w agent ctx).lcc = c.lcc := congrArg Timing.lcc htim
  rw [Cluster.errServed_form]
  exact ⟨hmem, herr, hmark, hlcc⟩

/-- The fault goes to the collector with the time at which it is detected (R413). -/
theorem Cluster.errServed_inbox :
    (c.errServed ue w agent ctx).flt.inbox = c.flt.inbox ++ [{ c.errFault ue w with tb := c.tb.value }] := by
  obtain ⟨-, -, -, -, -, htb⟩ := c.errReacted_keeps ue w agent ctx
  have hinbox : (c.errNoted ue w agent ctx).flt.inbox = c.flt.inbox := by rw [c.errNoted_form ue w agent ctx]
  rw [← hinbox, ← c.errReacted_flt ue w agent ctx, ← htb, Cluster.errServed_form]

theorem Cluster.pbank_errReacted (l : Nat) : (c.errReacted ue w agent ctx).pbank l = c.pbank l := by
  have hcounter : 0x200B0000 < errCounter ue := by cases ue <;> decide
  have hrot : (c.errReacted ue w agent ctx).regAt 0x200B0000 = c.regAt 0x200B0000 := by
    rw [c.regAt_errReacted ue w agent ctx (by decide), c.regAt_errNoted_ne ue w agent ctx (by simp only [bankReg]; omega),
      Cluster.regAt_errCounted_ne ue w agent ctx (by omega) (by decide) (by decide) (by decide)]
  have hrotation : (c.errReacted ue w agent ctx).rot = c.rot := congrArg (fun v => fld v 15 8) hrot
  rw [Cluster.pbank, hrotation, Cluster.pbank]

/-- The corrected word, or zero, waits in the queue of its bank (R292). -/
theorem Cluster.errServed_repairs (hline : c.spd.repairs.any (fun r => r.line == w / 64) = false)
    (hroom : (c.spd.repairs.filter (fun r => r.bank == c.pbank (lbankOf w))).length < 4) :
    (c.errServed ue w agent ctx).spd.repairs
      = c.spd.repairs ++ [⟨c.pbank (lbankOf w), w / 64, [(w / 8 % 8, c.errWord ue w)], c.clk.free⟩] := by
  obtain ⟨-, -, hspd, -, hclk, -⟩ := c.errReacted_keeps ue w agent ctx
  rw [← hspd, ← c.pbank_errReacted ue w agent ctx] at hroom
  rw [← hspd] at hline
  have hnew := Cluster.repairsWith_new (c.errWord ue w) hline hroom
  rw [hspd, hclk, c.pbank_errReacted ue w agent ctx] at hnew
  rw [← hnew, Cluster.errServed_form]

omit ue in
/-- A corrected error changes nothing else at all. -/
theorem Cluster.errServed_corrected :
    let d := c.errServed false w agent ctx
    d = { c with reg := d.reg, freeCtr := d.freeCtr, spd := { c.spd with repairs := d.spd.repairs },
                 flt := { c.flt with inbox := d.flt.inbox, pendB := d.flt.pendB } } := by
  have hreacted : c.errReacted false w agent ctx = c.errNoted false w agent ctx := rfl
  rw [Cluster.errServed_form, hreacted, c.errNoted_form false w agent ctx]

end

/-! The bytes delivered, and the error in its parts (R290, R291). -/

section
variable {w : Nat} {m : W64} (hbad : c.badWords w 8 = [(w, m)])
include hbad

theorem Cluster.fencedAt_of_badWord : c.fencedAt w = false := by
  have hmem : (w, m) ∈ c.badWords w 8 := by rw [hbad]; exact List.mem_singleton_self _
  have hkept := (List.mem_filter.mp hmem).2
  simp only [Bool.and_eq_true, Bool.not_eq_true'] at hkept
  exact hkept.2

theorem Cluster.ueWords_of_badWord : c.ueWords w 8 = if 2 ≤ popcount 64 m.toNat then [w] else [] := by
  rw [Cluster.ueWords, hbad]
  split <;> simp [*]

/-- The word is delivered as it stands corrected, or as zero. -/
theorem Cluster.spdBytes_of_badWord (hw : w % 8 = 0) :
    c.spdBytes w 8 = if 2 ≤ popcount 64 m.toNat then List.replicate 8 0 else Memory.bytes c.mem w 8 := by
  have hfence : ∀ i, i < 8 → c.fencedAt (w + i) = false := fun i hi => by
    have hline : (w + i) / 64 = w / 64 := by omega
    rw [← c.fencedAt_of_badWord hbad, Cluster.fencedAt, lbankOf, hline]
    rfl
  rw [Cluster.spdBytes, c.ueWords_of_badWord hbad]
  split
  · rw [Cluster.maskBytes, List.eq_replicate_iff]
    refine ⟨by simp, fun b hb => ?_⟩
    obtain ⟨i, hi, rfl⟩ := List.mem_map.mp hb
    have hword : (w + i) / 8 * 8 = w := by have := List.mem_range.mp hi; omega
    simp [hword]
  · exact Cluster.maskBytes_of_unfenced hfence

theorem Cluster.spdScan_of_badWord (hres : c.residentOf (w / 64) = none) (agent ctx : Nat) :
    c.spdScan agent ctx w 8 = c.errServed (decide (2 ≤ popcount 64 m.toNat)) w agent ctx := by
  have hscan : c.spdScan agent ctx w 8 = if (c.ueWords w 8).contains w then c.spdUe w agent ctx else c.spdCe w agent ctx := by
    rw [Cluster.spdScan, hbad]
    rfl
  rw [hscan, c.ueWords_of_badWord hbad]
  by_cases hue : 2 ≤ popcount 64 m.toNat
  · rw [if_pos hue, if_pos (by simp), decide_eq_true hue, Cluster.spdUe_eq hres]
  · rw [if_neg hue, if_neg (by simp), decide_eq_false hue, Cluster.spdCe_eq]

/-- The reader is told of an uncorrectable word, and of no other. -/
theorem Cluster.told_of_badWord (agent ctx : Nat) : (c.spdRead agent ctx w 8).2.2 = true ↔ 2 ≤ popcount 64 m.toNat := by
  have htold : (c.spdRead agent ctx w 8).2.2 = !(c.ueWords w 8).isEmpty := rfl
  rw [htold, c.ueWords_of_badWord hbad]
  split <;> simp [*]

end

/-! An error's parts, by what is known of the word. -/

section
variable (c) (ue : Prop) [Decidable ue] (w agent ctx : Nat)

theorem Cluster.counts_iff : (decide ue || c.isSticky w) = true ↔ Sparse.get c.spd.mark w ≠ 0 ∨ ue := by
  rw [Bool.or_eq_true, decide_eq_true_eq, Cluster.isSticky_iff, or_comm]

theorem Cluster.errKind_eq : c.errKind (decide ue) w = if Sparse.get c.spd.mark w ≠ 0 then 3 else if ue then 1 else 0 := by
  simp only [Cluster.errKind, Cluster.isSticky_iff, decide_eq_true_eq]

theorem Cluster.errWord_eq : c.errWord (decide ue) w = if ue then 0 else Memory.word64 c.mem w := by
  simp only [Cluster.errWord, decide_eq_true_eq]

theorem Cluster.errFault_eq (tb : W64) :
    ({ c.errFault (decide ue) w with tb := tb } : FaultIn) =
      if ue then ⟨0x21, 2, c.pbank (lbankOf w), 3, 0, false, false, false, tb⟩
      else ⟨0x20, 1, c.pbank (lbankOf w), 0, 0, false, c.inRepair w, false, tb⟩ := by
  by_cases h : ue <;> simp [Cluster.errFault, h]

end

end Sys2Proof.Machine

open Sys2Proof Sys2Proof.Machine

/-- Settles O59: an error in its parts (record and counts, teardown, repair queue, fault), a read without one, a repair, and the
forced errors of either memory. -/
theorem scratchErrors : Obligations.ScratchErrors := by
  refine ⟨?read, ?sound, ?repair, ?line, ?dmem⟩
  case read =>
    intro c w agent ctx m hc haligned hw ha hctx hbad hres p ue sticky r d plus log e bank count word
    have hd : d = c.errServed (decide ue) w agent ctx := Cluster.spdScan_of_badWord hbad hres agent ctx
    have hfence := Cluster.fencedAt_of_badWord hbad
    obtain ⟨hmem, herr, hmark, hlcc⟩ := c.errServed_keeps (decide ue) w agent ctx
    have hcounters := c.regAt_errServed_counters (decide ue) w agent ctx hc
    simp only [decide_eq_true_eq] at hcounters
    have hinbox := c.errServed_inbox (decide ue) w agent ctx
    rw [Cluster.errFault_eq] at hinbox
    rw [← hd] at hmem herr hmark hlcc hcounters hinbox
    refine ⟨Cluster.spdBytes_of_badWord hbad haligned, Cluster.told_of_badWord hbad agent ctx, hmem, herr, hmark, hlcc,
      hcounters.1, hcounters.2, fun hvalid => ?_, fun hempty => ?_, hinbox, fun hline hroom => ?_, fun hcounts => ?_,
      fun hsticky hue => ?_, fun hue => ?_, fun hue => ?_⟩
    · have hlog := c.errServed_log_of_valid (decide ue) w agent ctx hvalid
      rwa [← hd] at hlog
    · have hlog := c.errServed_log_of_empty (decide ue) w agent ctx hc ha hw hempty
      rwa [← hd, Cluster.errKind_eq] at hlog
    · have hrepairs := c.errServed_repairs (decide ue) w agent ctx hline hroom
      rwa [← hd, Cluster.errWord_eq] at hrepairs
    · have hbank := c.errServed_bank (decide ue) w agent ctx hc hfence ((c.counts_iff ue w).mpr hcounts)
      rwa [← hd] at hbank
    · have hnot : (decide ue || c.isSticky w) = false :=
        Bool.eq_false_iff.mpr fun h => ((c.counts_iff ue w).mp h).elim hsticky hue
      have hbank := c.errServed_bank_of_not_counts (decide ue) w agent ctx hnot
      rwa [← hd] at hbank
    · rw [hd, decide_eq_true hue]
      exact c.torn_errServed w agent ctx
    · intro repairs faults
      have hrest := c.errServed_corrected w agent ctx
      rwa [← decide_eq_false hue, ← hd] at hrest
  case sound =>
    intro c a n agent ctx hsound hfence
    rw [Cluster.spdRead_sound agent ctx hsound, Cluster.maskBytes_of_unfenced hfence]
  case repair =>
    intro c p line i t v hc hi a d
    have hd : d = c.repaired a v := by rw [show a = line * 64 + 8 * i by omega, ← c.repairWords_one p line i t v]
    rw [hd]
    exact Cluster.repaired_words hc a v
  case line =>
    intro c a bs hc hbs hfence
    exact Cluster.spdWriteLine_forced hbs hfence
  case dmem =>
    intro c n a bs hc hbs
    exact c.dmemPut_forced n.val a hbs

end

section
/-! A transfer enters the table of its channel, and the DMARR that looks for it (R244, R246, R307, R308). -/

namespace Sys2Proof.Machine

theorem findIdxN_eq_findIdx? {α : Type} (p : α → Bool) (l : List α) : findIdxN p l = l.findIdx? p := by
  induction l with
  | nil => rfl
  | cons x xs ih => rw [findIdxN, ih, List.findIdx?_cons]

theorem vat_none_eq_some_iff {α : Type} {n : Nat} (v : Vector (Option α) n) (j : Nat) (x : α) :
    vat v j none = some x ↔ v.toList[j]? = some (some x) := by
  rw [vat, ← Vector.getElem?_toList]
  cases v.toList[j]? <;> simp

/-- A table with fewer than sixteen transfers has a free slot, and the first one is taken (R308). -/
theorem Chan.slotFor_free {cn : Chan} (h : cn.outstanding < 16) : cn.slotFor < 16 ∧ vat cn.tab cn.slotFor none = none := by
  have hlen : cn.tab.toList.length = 16 := Vector.length_toList
  obtain ⟨x, hx, hfree⟩ : ∃ x ∈ cn.tab.toList, x.isNone = true := by
    by_contra hnone
    have hall : cn.tab.toList.filter (fun x => x.isSome) = cn.tab.toList :=
      List.filter_eq_self.mpr fun x hx => Option.isSome_iff_ne_none.mpr fun h => hnone ⟨x, hx, by rw [h]; rfl⟩
    rw [Chan.outstanding, hall] at h
    omega
  obtain ⟨i, hi⟩ : ∃ i, cn.tab.toList.findIdx? (fun x => x.isNone) = some i :=
    Option.isSome_iff_exists.mp (List.findIdx?_isSome.trans (List.any_eq_true.mpr ⟨x, hx, hfree⟩))
  obtain ⟨hlt, hnone, -⟩ := List.findIdx?_eq_some_iff_getElem.mp hi
  have hslot : cn.slotFor = i := by rw [Chan.slotFor, findIdxN_eq_findIdx?, hi]; rfl
  rw [hslot]
  refine ⟨by omega, ?_⟩
  rw [vat, ← Vector.getElem?_toList, List.getElem?_eq_getElem hlt]
  exact Option.isNone_iff_eq_none.mp hnone

/-! What the start of an op leaves of a channel and of its queue. -/

section
variable (c : Cluster) (q : Nat) (o : MacroOp)

@[simp] theorem Cluster.startOp_chan (k : Nat) : (c.startOp q o).1.chan k = c.chan k := by rw [Cluster.startOp_form]; rfl
@[simp] theorem Cluster.startOp_tk : (c.startOp q o).1.tk = c.tk := by rw [Cluster.startOp_form]; rfl
@[simp] theorem Cluster.startOp_dictAt (i sub : Nat) : (c.startOp q o).1.dictAt i sub = c.dictAt i sub := by
  rw [Cluster.startOp_form]; rfl
@[simp] theorem Cluster.startOp_nextOrd : (c.startOp q o).1.nextOrd = c.nextOrd := by rw [Cluster.startOp_form]

theorem Cluster.startOp_started (hq : q < 52) : ((c.startOp q o).1.queue q).started = (c.queue q).started + 1 := by
  rw [Cluster.startOp_form]
  exact congrArg EngQ.started (vat_vset_self _ _ _ _ hq)

end

section
variable {c : Cluster} {ch : Nat} {o : MacroOp}

theorem Cluster.enterXfer_of_full (h : 16 ≤ (c.chan ch).outstanding) : c.enterXfer ch o = c.xferLog 0xE ch o 0 := if_pos h

/-- The transfer of an op that has just started: none of its blocks is asked for or sent (R307). -/
def Cluster.newXfer (c : Cluster) (ch : Nat) (o : MacroOp) : Xfer :=
  { op := o, blocks := (fld o 109 90 + 4) / 4, slot := (c.chan ch).slotFor, sent := 0, asked := 0, got := 0, parked := false,
    at_ := c.tk, lim := c.dictAt 0x2783 1, order := c.nextOrd, dec := [], sentTo := [] }

theorem Cluster.enterXfer_of_room (h : (c.chan ch).outstanding < 16) :
    c.enterXfer ch o = { c.setChan ch { c.chan ch with
        tab := vset (c.chan ch).tab (c.chan ch).slotFor (some (c.newXfer ch o))
        begun := ((c.queue (qChan ch)).started - 1, c.nextOrd) :: (c.chan ch).begun } with nextOrd := c.nextOrd + 1 } :=
  if_neg (Nat.not_le.mpr h)

theorem Cluster.startXfer_of_plain {opc : Nat} (hstart : c.starting (qChan ch) opc = some o)
    (hplain : c.nullified (qChan ch) (c.queue (qChan ch)).started o c.lcc = false) :
    c.startXfer ch opc = (c.startOp (qChan ch) o).1.enterXfer ch o := by
  rw [Cluster.startXfer_eq_onStart, Cluster.onStart_starting _ hstart, if_neg (by simp [hplain])]

/-- A DMARR holds while it checks a transfer that is not complete, unless its context's hold has timed out (R46, R246). -/
theorem Cluster.arrWaits_iff (i t : Nat) : c.arrWaits ch i o t = true ↔
    c.nullified (48 + ch) i o t = false ∧ opCtx o ∉ c.tim.waive ∧ ∃ p ∈ arrChecks o, c.xferComplete (opCtx o) ch i p = false := by
  simp [Cluster.arrWaits, and_assoc]

theorem dmarrC_of_starting (h : c.starting (qChan ch) 0x42 = some o) :
    dmarrC c ch = if c.arrWaits ch (c.queue (qChan ch)).started o c.lcc then c else (c.startOp (qChan ch) o).1 := by
  rw [dmarrC, h]

end

end Sys2Proof.Machine

open Sys2Proof Sys2Proof.Machine

/-- Settles O35: a transfer is entered behind the start of its op, and a DMARR starts once it need not wait. -/
theorem transferStart : Obligations.TransferStart := by
  intro ch o s c q d cn out
  have hq : q < 52 := by have := ch.isLt; omega
  refine ⟨?xfer, ?arr⟩
  case xfer =>
    intro p hp hstart hplain
    have henter : c.startXfer ch.val p.2 = d.enterXfer ch.val o := Cluster.startXfer_of_plain hstart hplain
    have hexec : exec p.1 s = done s (d.enterXfer ch.val o) := by
      rw [← henter]
      obtain rfl | rfl : p = (.dmget ch, 0x40) ∨ p = (.dmput ch, 0x41) := by simpa using hp
      · rfl
      · rfl
    have hcn : d.chan ch.val = cn := c.startOp_chan q o ch.val
    refine ⟨fun hfull => ?_, fun hroom => ?_⟩
    · rw [hexec, Cluster.enterXfer_of_full (hcn ▸ hfull)]
      rfl
    · obtain ⟨hslot, hfree⟩ := Chan.slotFor_free hroom
      refine ⟨cn.slotFor, hslot, hfree, ?_⟩
      have hstarted : (d.queue (qChan ch.val)).started - 1 = (c.queue q).started := by
        rw [show (d.queue (qChan ch.val)).started = (c.queue q).started + 1 from c.startOp_started q o hq]
        rfl
      rw [hexec, Cluster.enterXfer_of_room (hcn ▸ hroom), hstarted]
      simp only [d, cn, Cluster.newXfer, Cluster.startOp_chan, Cluster.startOp_tk, Cluster.startOp_dictAt, Cluster.startOp_nextOrd]
      rfl
  case arr =>
    intro hstart i waits
    have hexec : exec (.dmarr ch) s = done s (if c.arrWaits ch.val i o c.lcc then c else d) :=
      congrArg (done s) (dmarrC_of_starting hstart)
    have hwaits : c.arrWaits ch.val i o c.lcc = true ↔ waits := Cluster.arrWaits_iff i c.lcc
    exact ⟨fun h => by rw [hexec, if_pos (hwaits.mpr h)]; rfl, fun h => by rw [hexec, if_neg (mt hwaits.mp h)]; rfl⟩

end

section
/-! The translation of a block address through a remote window (R305, R310, R321). -/

namespace Sys2Proof.Machine

section
variable {c : Cluster}

theorem Cluster.window_of_unchanged {w : Nat} (h : ∀ p ∈ c.winOld, p.1 ≠ w) :
    c.window w = (c.regAt (0x200A1000 + 16 * w), c.regAt (0x200A1008 + 16 * w)) := by
  have hnone : c.winOld.find? (fun p => p.1 == w) = none := by simpa [List.find?_eq_none] using h
  rw [Cluster.window, hnone]
  rfl

/-- A window that is committed in this cycle is met as it was (R310). -/
theorem Cluster.window_of_committed {w : Nat} {old : W64 × W64} {rest : List (Nat × W64 × W64)}
    (h : c.winOld = (w, old) :: rest) : c.window w = old := by
  simp [Cluster.window, h]

end

theorem div_mod_eq_extract (ga : BitVec 48) (lo len : Nat) : ga.toNat / 2 ^ lo % 2 ^ len = (ga.extractLsb' lo len).toNat := by
  rw [BitVec.extractLsb'_toNat, Nat.shiftRight_eq_div_pow]

theorem lt_cdiv_iff (a b : Nat) : a < cdiv b 64 ↔ a * 64 < b := by
  rw [cdiv]
  omega

/-- A target base lies in cluster or die-memory space where its bit 47 is clear (R305). -/
theorem two_le_targetSpace_iff (w : W64) : 2 ≤ fld w 47 0 / 2 ^ 46 ↔ w.getLsbD 47 = true := by
  rw [fld, Nat.shiftRight_zero, ← BitVec.testBit_toNat, Nat.testBit_eq_decide_div_mod_eq, decide_eq_true_eq]
  omega

theorem target_eq (w : W64) (ofs : BitVec 40) :
    (fld w 47 0 + ofs.toNat) % 2 ^ 48 = (w.extractLsb' 0 48 + ofs.zeroExtend 48).toNat := by
  rw [BitVec.toNat_add, fld_eq_extract, BitVec.toNat_setWidth, Nat.mod_eq_of_lt (a := ofs.toNat) (by omega)]

section
variable {ga : BitVec 48} (c : Cluster)

theorem Cluster.translate_of_local (h : ga.extractLsb' 46 2 ≠ 2) (n : Nat) (put : Bool) :
    c.translate ga.toNat n put = (ga.toNat, none) := by
  have hspace : ga.toNat / 2 ^ 46 % 2 ^ 2 ≠ 2 := by
    rw [div_mod_eq_extract]
    exact fun heq => h (BitVec.eq_of_toNat_eq heq)
  exact if_pos (by simpa using hspace)

/-- The checks of an address in remote-window space, in their order (R305, R321). -/
theorem Cluster.translate_of_window (h : ga.extractLsb' 46 2 = 2) (n : Nat) (put : Bool) :
    let e := c.window (ga.extractLsb' 40 6).toNat
    let ofs := ga.extractLsb' 0 40
    c.translate ga.toNat n put =
      if e.1.getLsbD 63 = false then (0, some 0)
      else if (e.2.extractLsb' 0 34).toNat * 64 < ofs.toNat + 64 * n then (0, some 1)
      else if e.1.getLsbD (if put then 61 else 62) = false then (0, some 2)
      else if e.1.getLsbD 47 = true then (0, some 3)
      else ((e.1.extractLsb' 0 48 + ofs.zeroExtend 48).toNat, none) := by
  intro e ofs
  have hspace : ga.toNat / 2 ^ 46 % 4 = 2 := (div_mod_eq_extract ga 46 2).trans (congrArg BitVec.toNat h)
  have hwin : ga.toNat / 2 ^ 40 % 64 = (ga.extractLsb' 40 6).toNat := div_mod_eq_extract ga 40 6
  have hofs : ga.toNat % 2 ^ 40 = ofs.toNat := by simp [ofs]
  simp only [Cluster.translate, hspace, hwin, hofs, bne_self_eq_false, Bool.false_eq_true, if_false, bitAt, Bool.not_eq_true',
    lt_cdiv_iff, two_le_targetSpace_iff, target_eq]
  rfl

end

end Sys2Proof.Machine

open Sys2Proof Sys2Proof.Machine

/-- Settles O36: the entry that is met, an address of another space, and the checks in their order. -/
theorem windowTranslation : Obligations.WindowTranslation := by
  intro c ga lines put _ _ win e w size ofs beyond
  refine ⟨Cluster.window_of_unchanged, fun old rest => Cluster.window_of_committed,
    fun hlocal => c.translate_of_local hlocal lines put, fun hspace => ?_⟩
  have htranslate : c.translate ga.toNat lines put =
      if w.getLsbD 63 = false then (0, some 0)
      else if size * 64 < ofs.toNat + 64 * lines then (0, some 1)
      else if w.getLsbD (if put then 61 else 62) = false then (0, some 2)
      else if w.getLsbD 47 = true then (0, some 3)
      else ((w.extractLsb' 0 48 + ofs.zeroExtend 48).toNat, none) := c.translate_of_window hspace lines put
  refine ⟨fun hinvalid => ?_, fun hvalid hbeyond => ?_, fun hvalid hwithin => ?_⟩
  · rw [htranslate, if_pos hinvalid]
  · rw [htranslate, if_neg (by simp [hvalid]), if_pos hbeyond]
  · intro grant
    rw [htranslate, if_neg (by simp [hvalid]), if_neg hwithin]
    exact ⟨fun hdenied => by rw [if_pos hdenied],
      fun hgranted hspace3 => by rw [if_neg (by simpa using hgranted), if_pos hspace3],
      fun hgranted hgood => by rw [if_neg (by simpa using hgranted), if_neg (Bool.eq_false_iff.mp hgood)]⟩

end

section
/-! The order in which the blocks of a channel go out (R307, R309). -/

namespace Sys2Proof.Machine

theorem insSorted_eq_orderedInsert {α : Type} (key : α → Nat) (x : α) (l : List α) :
    insSorted key x l = l.orderedInsert (fun a b => key a < key b) x := by
  induction l with
  | nil => rfl
  | cons y ys ih => rw [insSorted, ih, List.orderedInsert]

theorem mem_insSorted {α : Type} {key : α → Nat} {x y : α} {l : List α} : y ∈ insSorted key x l ↔ y = x ∨ y ∈ l := by
  rw [insSorted_eq_orderedInsert, List.mem_orderedInsert]

theorem pairwise_insSorted {α : Type} {key : α → Nat} (x : α) {l : List α} (h : l.Pairwise (fun a b => key a ≤ key b)) :
    (insSorted key x l).Pairwise (fun a b => key a ≤ key b) := by
  induction l with
  | nil => exact List.pairwise_singleton _ x
  | cons y ys ih =>
    obtain ⟨hhead, htail⟩ := List.pairwise_cons.mp h
    rw [insSorted]
    split
    · next hlt =>
      refine List.pairwise_cons.mpr ⟨fun z hz => ?_, h⟩
      obtain rfl | hz := List.mem_cons.mp hz
      · exact hlt.le
      · exact hlt.le.trans (hhead z hz)
    · next hge =>
      refine List.pairwise_cons.mpr ⟨fun z hz => ?_, ih htail⟩
      obtain rfl | hz := mem_insSorted.mp hz
      · exact Nat.le_of_not_lt hge
      · exact hhead z hz

theorem sortOn_spec {α : Type} (key : α → Nat) (l : List α) :
    (sortOn key l).Pairwise (fun a b => key a ≤ key b) ∧ ∀ y, y ∈ sortOn key l ↔ y ∈ l := by
  induction l using List.reverseRecOn with
  | nil => exact ⟨List.Pairwise.nil, fun y => Iff.rfl⟩
  | append_singleton l x ih =>
    obtain ⟨hsorted, hmem⟩ := ih
    have hstep : sortOn key (l ++ [x]) = insSorted key x (sortOn key l) := by simp [sortOn]
    rw [hstep]
    exact ⟨pairwise_insSorted x hsorted, fun y => by rw [mem_insSorted, hmem, List.mem_append, List.mem_singleton, or_comm]⟩

/-- The first of a list in the order of a key has the smallest one. -/
theorem sortOn_head {α : Type} {key : α → Nat} {l : List α} {x : α} (h : (sortOn key l).head? = some x) :
    x ∈ l ∧ ∀ y ∈ l, key x ≤ key y := by
  obtain ⟨hsorted, hmem⟩ := sortOn_spec key l
  obtain ⟨rest, hrest⟩ := List.head?_eq_some_iff.mp h
  rw [hrest] at hsorted
  simp only [hrest, List.mem_cons] at hmem
  refine ⟨(hmem x).mp (Or.inl rfl), fun y hy => ?_⟩
  obtain rfl | hy := (hmem y).mpr hy
  · exact le_rfl
  · exact (List.pairwise_cons.mp hsorted).1 y hy

/-- The next block is of the oldest transfer with blocks not sent that is not parked (R307, R309). -/
theorem Chan.nextSend_oldest {cn : Chan} {slot : Nat} {x : Xfer} (h : cn.nextSend = some (slot, x)) :
    (vat cn.tab slot none = some x ∧ x.parked = false ∧ x.sent < x.blocks)
      ∧ ∀ j y, vat cn.tab j none = some y → y.parked = false → y.sent < y.blocks → x.order ≤ y.order := by
  obtain ⟨hmem, hmin⟩ := sortOn_head h
  simp only [List.mem_filterMap, Prod.exists, List.mem_zipIdx_iff_getElem?] at hmem hmin
  constructor
  · obtain ⟨entry, j, hentry, hsend⟩ := hmem
    cases entry with
    | none => exact absurd hsend (by simp)
    | some y =>
      obtain ⟨⟨hfree, hleft⟩, rfl, rfl⟩ : (y.parked = false ∧ y.sent < y.blocks) ∧ j = slot ∧ y = x := by simpa using hsend
      exact ⟨(vat_none_eq_some_iff _ _ _).mpr hentry, hfree, hleft⟩
  · intro j y hy hfree hleft
    exact hmin (j, y) ⟨some y, j, (vat_none_eq_some_iff _ _ _).mp hy, by simp [hfree, hleft]⟩

/-! What becomes of a block: sent, waiting, or parked with the later ones (R305 to R309). -/

section
variable {c : Cluster} {ch slot : Nat} {x : Xfer}

@[simp] theorem Cluster.dropReads_chan (c : Cluster) (ch ord k : Nat) : (c.dropReads ch ord).chan k = c.chan k := rfl

theorem Cluster.parkBlock_of_occupied {kind : Nat} (h : (c.chan ch).park.isSome = true) :
    c.parkBlock ch slot x kind = (c.dropReads ch x.order).xferFail ch slot 0xC x.sent false := if_pos h

/-- A block to be sent, and the later ones of its transfer, wait for a translation; what was read ahead is dropped (R309,
log entry 90). -/
theorem Cluster.parkBlock_of_free {kind : Nat} (h : (c.chan ch).park = none) :
    c.parkBlock ch slot x kind =
      ((((c.dropReads ch x.order).setChan ch { c.chan ch with
            park := some slot
            tab := vset (c.chan ch).tab slot (some { x with parked := true, asked := x.sent, at_ := c.tk - x.at_ }) }).setReg
          (0x200A0040 + 0x10 * ch)
          (placeB true 63 ||| place kind 61 ||| place (blockAddr x.op x.sent / 2 ^ 40 % 64) 55 ||| place (opCtx x.op) 49
            ||| placeB (opOpc x.op == 0x41) 48 ||| place (blockAddr x.op x.sent) 0)).setReg (0x200A0040 + 0x10 * ch + 8)
        (place (x.blocks - x.sent) 32 ||| place (opStamp x.op) 0)).raise0 0x19 ch :=
  if_neg (by simp [h])

theorem Cluster.turnsRound_iff {target : Nat} : c.turnsRound target = true ↔ target / 2 ^ 40 = c.straps.toNat := beq_iff_eq

theorem Cluster.sendGet_of_bad {target kind : Nat}
    (h : c.translate (blockAddr x.op x.sent) (xferLines x.op x.sent) false = (target, some kind)) :
    c.sendGet ch slot x = c.parkBlock ch slot x kind := by rw [Cluster.sendGet, h]

/-- A DMGET block with a good translation goes out where the port has room or turns the request round (R306, R315). -/
theorem Cluster.sendGet_of_good {target : Nat}
    (h : c.translate (blockAddr x.op x.sent) (xferLines x.op x.sent) false = (target, none)) :
    c.sendGet ch slot x =
      if target / 2 ^ 40 = c.straps.toNat ∨ c.portRoom = true then c.sendBlock ch slot x.next x.sent target [] else c := by
  simp only [Cluster.sendGet, h, Bool.or_eq_true, Cluster.turnsRound_iff]

theorem Cluster.readPut_of_all (h : x.blocks ≤ x.asked) : c.readPut ch slot x = c := if_pos h

theorem Cluster.readPut_of_sound (h : x.asked < x.blocks) (hsound : c.tabSound [rHnd (fld x.op 143 132)]) :
    c.readPut ch slot x =
      (c.setChan ch { c.chan ch with tab := vset (c.chan ch).tab slot (some { x with asked := x.asked + 1 }) }).addGroup 0 0
        (.putBlock ch x.order x.asked) ((List.range (xferLines x.op x.asked)).map fun j =>
          lineReq j (hndBase (c.regAt (rHnd (fld x.op 143 132))) + fld x.op 131 110 + 4 * x.asked + j) none) := by
  rw [Cluster.readPut, if_neg (Nat.not_le.mpr h), Cluster.withTab_sound _ hsound]

theorem dmvBlockSendC_of_next (hlive : c.live = true) (h : (c.chan ch).nextSend = some (slot, x)) :
    dmvBlockSendC c ch = if opOpc x.op = 0x40 then c.sendGet ch slot x else c.readPut ch slot x := by
  rw [dmvBlockSendC, if_pos hlive, h]

/-! The block of a DMPUT whose lines have been read. -/

theorem Chan.mem_tab_iff (cn : Chan) (y : Xfer) : y ∈ cn.tab.toList.filterMap id ↔ ∃ j < 16, vat cn.tab j none = some y := by
  have hlen : cn.tab.toList.length = 16 := Vector.length_toList
  have hmem : y ∈ cn.tab.toList.filterMap id ↔ some y ∈ cn.tab.toList := by simp [List.mem_filterMap]
  rw [hmem, List.mem_iff_getElem?]
  simp only [vat_none_eq_some_iff]
  refine exists_congr fun j => ⟨fun h => ⟨?_, h⟩, And.right⟩
  exact hlen ▸ (List.getElem?_eq_some_iff.mp h).1

/-- A block's order names its transfer where no other one of the table has that order. -/
theorem Cluster.putXfer_of_unique (hslot : slot < 16) (hx : vat (c.chan ch).tab slot none = some x)
    (hunique : ∀ j < 16, ∀ y, vat (c.chan ch).tab j none = some y → y.order = x.order → j = slot) :
    c.putXfer ch x.order = some x := by
  have hmem : x ∈ (c.chan ch).tab.toList.filterMap id := ((c.chan ch).mem_tab_iff x).mpr ⟨slot, hslot, hx⟩
  obtain ⟨y, hy⟩ : ∃ y, c.putXfer ch x.order = some y :=
    Option.isSome_iff_exists.mp (List.find?_isSome.mpr ⟨x, hmem, beq_iff_eq.mpr rfl⟩)
  obtain ⟨j, hj, hvat⟩ := ((c.chan ch).mem_tab_iff y).mp (List.mem_of_find?_eq_some hy)
  have horder : y.order = x.order := by simpa using List.find?_some (show List.find? (fun z => z.order == x.order) _ = some y from hy)
  obtain rfl := hunique j hj y hvat horder
  exact hy.trans (hvat.symm.trans hx)

section
variable (hput : c.putXfer ch x.order = some x)
include hput

theorem Cluster.putDone_of_bad {k target kind : Nat} (payload : List Byte)
    (h : c.translate (blockAddr x.op k) (xferLines x.op k) true = (target, some kind)) :
    c.putDone ch x.order k payload = c.parkBlock ch x.slot x kind := by
  simp only [Cluster.putDone, hput, h]

theorem Cluster.putDone_of_good {k target : Nat} (payload : List Byte)
    (h : c.translate (blockAddr x.op k) (xferLines x.op k) true = (target, none)) :
    c.putDone ch x.order k payload = c.sendBlock ch x.slot x.next k target payload := by
  simp only [Cluster.putDone, hput, h]

/-- The first block to be sent waits while the port has no room for it (R315). -/
theorem Cluster.flushPuts_of_full {k target : Nat} {g : BGroup}
    (h : c.translate (blockAddr x.op k) (xferLines x.op k) true = (target, none)) (hfull : c.portRoom = false)
    (hout : target / 2 ^ 40 ≠ c.straps.toNat) (hhead : c.putHead ch = some g) (hdone : g.done = .putBlock ch x.order k)
    (n : Nat) : c.flushPuts ch n = c := by
  have hturn : c.turnsRound target = false := Bool.eq_false_iff.mpr (mt Cluster.turnsRound_iff.mp hout)
  have hwaits : c.putWaits ch x.order k = true := by simp [Cluster.putWaits, hput, h, hfull, hturn]
  cases n with
  | zero => rfl
  | succ n => simp [Cluster.flushPuts, hhead, hdone, hwaits]

end

/-! A transfer that fails (R308). -/

theorem dmTimeoutC_of_late (hlive : c.live = true) (hx : vat (c.chan ch).tab slot none = some x) (hfree : x.parked = false)
    (hlate : x.at_ + x.lim ≤ c.tk) : dmTimeoutC c ch slot = c.xferFail ch slot 0xD x.firstOpen false := by
  simp [dmTimeoutC, hx, hlive, hfree, hlate]

/-- A transfer that fails leaves the table; its blocks in flight are kept aside (R308, log entry 44). -/
theorem Cluster.xferFail_of_entry (hx : vat (c.chan ch).tab slot none = some x) (stat k : Nat) (gone : Bool) :
    let y := { x with parked := false, dec := if gone then x.dec.filter (· != k) else x.dec }
    let d := (c.setChan ch { c.chan ch with
        tab := vset (c.chan ch).tab slot none
        left := if y.dec = [] then (c.chan ch).left else (c.chan ch).left ++ [y] }).dropReads ch x.order
    c.xferFail ch slot stat k gone
      = (if (c.chan ch).park = some slot then d.parkClear ch else d).xferLog stat ch x.op k := by
  simp only [Cluster.xferFail, hx, List.isEmpty_iff]

end

end Sys2Proof.Machine

open Sys2Proof Sys2Proof.Machine

/-- Settles O37: the block that goes out, what becomes of it, and a transfer that fails. -/
theorem transferBlocks : Obligations.TransferBlocks := by
  intro ch s c cn ga lines put send park
  have hfree : ∀ slot x kind, cn.park = none → c.parkBlock ch.val slot x kind = park slot x kind :=
    fun slot x kind h => Cluster.parkBlock_of_free h
  have hsend : ∀ ty slot x k target payload, (if opOpc x.op = 0x40 then 1 else 2) = ty →
      c.sendBlock ch.val slot x k target payload = send ty slot x k target payload := by
    rintro ty slot x k target payload rfl
    rfl
  refine ⟨?next, ?block, ?done, ?timeout, ?fail⟩
  case next =>
    intro slot x hnext
    obtain ⟨⟨hx, hgoes, hleft⟩, hmin⟩ := Chan.nextSend_oldest hnext
    exact ⟨hx, hgoes, hleft, fun j _ => hmin j⟩
  case block =>
    intro slot x hlive hnext next base
    have hexec : exec (.dmvBlockSend ch) s
        = done s (if opOpc x.op = 0x40 then c.sendGet ch.val slot x else c.readPut ch.val slot x) :=
      congrArg (done s) (dmvBlockSendC_of_next hlive hnext)
    refine ⟨fun hget target kind htr => ?get, fun hput hall => ?read, fun hput hmore hsound => ?ask⟩
    case get =>
      rw [if_pos hget] at hexec
      refine ⟨fun hkind hroom => ?_, fun hkind hfull hout => ?_, fun k hkind hpark => ?_, fun k hkind hpark => ?_⟩
      · subst hkind
        rw [hexec, Cluster.sendGet_of_good htr, if_pos hroom.symm, hsend 1 slot x.next x.sent target [] (if_pos hget)]
        rfl
      · subst hkind
        rw [hexec, Cluster.sendGet_of_good htr, if_neg (not_or.mpr ⟨hout, Bool.eq_false_iff.mp hfull⟩)]
        rfl
      · subst hkind
        rw [hexec, Cluster.sendGet_of_bad htr, hfree slot x k hpark]
        rfl
      · subst hkind
        rw [hexec, Cluster.sendGet_of_bad htr, Cluster.parkBlock_of_occupied hpark]
        rfl
    case read =>
      rw [hexec, if_neg hput, Cluster.readPut_of_all hall]
      rfl
    case ask =>
      rw [hexec, if_neg hput, Cluster.readPut_of_sound hmore hsound]
      rfl
  case done =>
    intro slot x target payload hx hslot hopc hunique
    have hput := Cluster.putXfer_of_unique slot.isLt hx hunique
    refine ⟨fun kind htr hpark => ?_, fun htr => ⟨?_, fun hfull hout n g hhead hdone => ?_⟩⟩
    · rw [Cluster.putDone_of_bad hput payload htr, hslot]
      exact hfree slot.val x kind hpark
    · have hty : (if opOpc x.op = 0x40 then 1 else 2) = 2 := by rw [hopc]; rfl
      calc c.putDone ch.val x.order x.sent payload
          = c.sendBlock ch.val x.slot x.next x.sent target payload := Cluster.putDone_of_good hput payload htr
        _ = c.sendBlock ch.val slot.val x.next x.sent target payload := by rw [hslot]
        _ = send 2 slot.val x.next x.sent target payload := hsend 2 slot.val x.next x.sent target payload hty
    · exact Cluster.flushPuts_of_full hput htr hfull hout hhead hdone n
  case timeout =>
    intro slot x hlive hx hfree hlate
    exact congrArg (done s) (dmTimeoutC_of_late hlive hx hfree hlate)
  case fail =>
    intro slot x stat k gone hx y d d' w e
    exact Cluster.xferFail_of_entry hx stat k gone

end

section
/-! The park of a channel: its abort, and the window commit that may end it (R309, R310, R323, R324). -/

namespace Sys2Proof.Machine

/-! What the check of a written value changes: the clamp records alone (R466, R467). -/

section
variable (c : Cluster) (i s : Nat)

@[simp] theorem Cluster.clampRec_winOld (kind flsb written stored : Nat) :
    (c.clampRec i s kind flsb written stored).winOld = c.winOld := by simp only [Cluster.clampRec, Cluster.setDict_winOld]
@[simp] theorem Cluster.clampRec_reg (kind flsb written stored : Nat) :
    (c.clampRec i s kind flsb written stored).reg = c.reg := by simp only [Cluster.clampRec, Cluster.setDict_reg]

theorem Cluster.clampFields_keeps (v old : Nat) (fs : List DField) :
    (c.clampFields i s v old fs).1.winOld = c.winOld ∧ (c.clampFields i s v old fs).1.reg = c.reg := by
  induction fs generalizing c with
  | nil => exact ⟨rfl, rfl⟩
  | cons f fs ih =>
    simp only [Cluster.clampFields]
    split <;> simp [ih]

theorem Cluster.clampEntry_keeps (v : Nat) : (c.clampEntry i s v).1.winOld = c.winOld ∧ (c.clampEntry i s v).1.reg = c.reg := by
  unfold Cluster.clampEntry
  split
  · exact Cluster.clampFields_keeps ..
  · exact ⟨rfl, rfl⟩

theorem Cluster.window_clampEntry (v w : Nat) : (c.clampEntry i s v).1.window w = c.window w := by
  obtain ⟨hwin, hreg⟩ := c.clampEntry_keeps i s v
  rw [Cluster.window, Cluster.window, hwin, Cluster.regAt, Cluster.regAt, hreg]
  rfl

end

/-- A value with a field that takes any value acts (R466). -/
theorem Cluster.clampFields_acts (c : Cluster) (i s v old : Nat) {f : DField} {fs : List DField} (hf : f ∈ fs) (hany : f.rng = .any) :
    (c.clampFields i s v old fs).2.2 = true := by
  induction fs generalizing c with
  | nil => exact absurd hf List.not_mem_nil
  | cons g fs ih =>
    rw [Cluster.clampFields, Bool.or_eq_true]
    obtain rfl | hf := List.mem_cons.mp hf
    · right
      rw [hany]
      rfl
    · exact Or.inl (ih _ hf)

theorem dictEntry_window {w : Nat} (hw : w < 64) : dictEntry 0x2780 (w + 1) = some ⟨8, .rw, winFields⟩ := by
  have hsub : w + 1 ≤ 0x40 := hw
  simp [dictEntry, entryAt, entLinks, hsub]

theorem Cluster.clampEntry_window_acts (c : Cluster) {w : Nat} (hw : w < 64) (v : Nat) : (c.clampEntry 0x2780 (w + 1) v).2.2 = true := by
  rw [Cluster.clampEntry, dictEntry_window hw]
  exact c.clampFields_acts _ _ _ _ (f := ⟨47, 6, .any⟩) (by simp [winFields]) rfl

theorem windowCommitC_of_silent {c : Cluster} (h : c.answers = false) (w : Nat) (v : W64) : windowCommitC c w v = c :=
  if_pos (by simp [h])

theorem windowCommitC_of_answers {c : Cluster} (h : c.answers = true) {w : Nat} (hw : w < 64) (v : W64) :
    let p := c.clampEntry 0x2780 (w + 1) v.toNat
    windowCommitC c w v = p.1.commitWindow w (BitVec.ofNat 64 p.2.1) := by
  intro p
  rw [windowCommitC, Cluster.written, if_neg (by simp [h])]
  exact if_pos (c.clampEntry_window_acts hw v.toNat)

theorem Cluster.windowsIn_of_commit {c : Cluster} (h : c.winOld ≠ []) :
    c.windowsIn = (((({ c with winOld := [] } : Cluster).retryPark 0).retryPark 1).retryPark 2).retryPark 3 := by
  rw [Cluster.windowsIn, if_neg (by simpa using h)]
  rfl

@[simp] theorem Cluster.setChan_setChan (c : Cluster) (k : Nat) (x y : Chan) : (c.setChan k x).setChan k y = c.setChan k y := by
  simp only [Cluster.setChan, vset]
  congr 1
  ext i hi
  simp only [Vector.getElem_setIfInBounds]
  split <;> rfl

/-- A park ends with its transfer's record in the table changed: the record of the channel's fault is no longer valid (R309). -/
theorem Cluster.parkClear_setChan (c : Cluster) {ch : Nat} (hch : ch < 4) (x : Chan) :
    (c.setChan ch x).parkClear ch = (c.setChan ch { x with park := none }).setReg (0x200A0040 + 16 * ch)
      (c.regAt (0x200A0040 + 16 * ch) &&& 0x7FFFFFFFFFFFFFFF) := by
  rw [Cluster.parkClear, Cluster.chan_setChan_self _ _ _ hch, Cluster.setChan_setChan]
  rfl

section
variable {c : Cluster} {ch slot : Nat} {x : Xfer}

theorem Cluster.retryPark_of_good {target : Nat} (hpark : (c.chan ch).park = some slot)
    (hx : vat (c.chan ch).tab slot none = some x)
    (h : c.translate (blockAddr x.op x.sent) (xferLines x.op x.sent) (opOpc x.op == 0x41) = (target, none)) :
    c.retryPark ch = (c.setChan ch { c.chan ch with
      tab := vset (c.chan ch).tab slot (some { x with parked := false, at_ := c.tk - x.at_ }) }).parkClear ch := by
  simp [Cluster.retryPark, hpark, hx, h]

theorem Cluster.abortPark_of_empty (h : (c.chan ch).park = none) : c.abortPark ch = c := by rw [Cluster.abortPark, h]

theorem Cluster.abortPark_of_parked (hpark : (c.chan ch).park = some slot) (hx : vat (c.chan ch).tab slot none = some x) :
    c.abortPark ch = c.xferFail ch slot 0xC x.sent false := by simp only [Cluster.abortPark, hpark, hx]

theorem parkAbortC_of_empty (h : (c.chan ch).park = none) : parkAbortC c ch = c := by
  rw [parkAbortC, Cluster.abortPark_of_empty h, ite_self]

/-- The value 1 of an abort entry is in its range: no clamp is recorded (R324, R466). -/
theorem Cluster.clampEntry_abort (c : Cluster) (hch : ch < 4) : c.clampEntry 0x2782 (ch + 1) 1 = (c, 1, true) := by
  have hsub : ch + 1 ≤ 4 := hch
  have hentry : dictEntry 0x2782 (ch + 1) = some ⟨1, .wo, [⟨7, 0, .bool⟩]⟩ := by simp [dictEntry, entryAt, entLinks, ent1, hsub]
  rw [Cluster.clampEntry, hentry]
  rfl

theorem Cluster.applyWrite_abort (c : Cluster) (g : Grants) (hch : ch < 4) :
    c.applyWrite g 0x2782 (ch + 1) [1] = if c.answers then parkAbortC c ch else c := by
  have hwrite : c.applyWrite g 0x2782 (ch + 1) [1] = c.boolCmd 0x2782 (ch + 1) 1 (fun c => parkAbortC c ch) := by
    simp [Cluster.applyWrite, Cluster.applyOwn, Cluster.applyUnits, Cluster.applySched, Cluster.applyLinks, leNat]
  rw [hwrite, Cluster.boolCmd, Cluster.written, c.clampEntry_abort hch]
  cases c.answers <;> rfl

end

end Sys2Proof.Machine

open Sys2Proof Sys2Proof.Machine

/-- Settles O38: an empty park, by the command and by the entry, and an occupied one. -/
theorem parkAbort : Obligations.ParkAbort := by
  intro ch s c cn
  refine ⟨fun hempty => ⟨congrArg (done s) (parkAbortC_of_empty hempty), fun g => ?_⟩, fun slot x hanswers hpark hx => ?_⟩
  · rw [Cluster.applyWrite_abort c g ch.isLt, parkAbortC_of_empty hempty, ite_self]
  · exact congrArg (done s) ((if_pos hanswers).trans (Cluster.abortPark_of_parked hpark hx))

/-- Settles O39: the commit, the end of its cycle, and a park that is translated again. -/
theorem windowCommit : Obligations.WindowCommit := by
  intro w v s c a p d
  refine ⟨fun hsilent => ?silent, fun hanswers => ?commit, Cluster.windowsIn_of_commit, fun ch slot x t hpark hx htr => ?retry⟩
  case silent => exact congrArg (done s) (windowCommitC_of_silent hsilent w.val v)
  case commit =>
    refine congrArg (done s) ((windowCommitC_of_answers hanswers w.isLt v).trans ?_)
    rw [Cluster.commitWindow, Cluster.window_clampEntry, (c.clampEntry_keeps _ _ _).1]
    rfl
  case retry =>
    rw [Cluster.retryPark_of_good hpark hx htr, Cluster.parkClear_setChan c ch.isLt]

end

section
/-! Flits arrive on a lane (R312, R314 to R317). -/

namespace Sys2Proof.Machine

section
variable {c : Cluster} {ty l : Nat} {f : Flit} {deliver : Cluster → Cluster}

theorem onNet_iff : onNet ty l = true ↔ ty = 0 ∨ (ty ∈ [1, 2, 6, 8, 9] ↔ l < 2) := by
  unfold onNet
  split <;> simp_all [Nat.lt_iff_add_one_le]

theorem Cluster.laneShut_iff : c.laneShut l = true ↔ 2 ≤ l ∧ 64 ≤ c.landing := by simp [Cluster.laneShut]

/-- A lane that is down or without credit takes no flit, and in F none arrives (R316, R317, R424). -/
theorem Cluster.flitIn_of_closed (h : c.live = false ∨ (c.lane l).up = false ∨ c.laneShut l = true) :
    c.flitIn ty l f deliver = c := if_pos (by simpa [or_assoc] using h)

section
variable (hlive : c.live = true) (hup : (c.lane l).up = true) (hopen : c.laneShut l = false)
include hlive hup hopen

/-- A good flit of another type, or on a lane of the other network, does not arrive (log entry 85). -/
theorem Cluster.flitIn_of_misfit (hgood : flitGood f = true) (hfit : ¬ (fType f = ty ∧ onNet ty l = true)) :
    c.flitIn ty l f deliver = c := by
  have hopen' : ¬ (!c.live || !(c.lane l).up || c.laneShut l) = true := by simp [hlive, hup, hopen]
  rw [Cluster.flitIn, if_neg hopen', if_pos]
  simpa [hgood, or_iff_not_imp_left] using hfit

/-- What an arriving flit does, up to the acknowledgement that the lane then owes (R315). -/
theorem Cluster.flitIn_of_arriving (h : flitGood f = false ∨ (fType f = ty ∧ onNet ty l = true)) :
    c.flitIn ty l f deliver = (if (c.accept l f).2 then deliver (c.accept l f).1 else (c.accept l f).1).flushAck l := by
  have hopen' : ¬ (!c.live || !(c.lane l).up || c.laneShut l) = true := by simp [hlive, hup, hopen]
  rw [Cluster.flitIn, if_neg hopen', if_neg]
  obtain hbad | ⟨hty, hnet⟩ := h
  · simp [hbad]
  · simp [hty, hnet]

end

theorem not_flitGood (f : Flit) : (!flitGood f) = (f.crc != crc32c (hdrBytes f.hdr ++ f.payload) || decide (10 ≤ fType f)) := by
  rw [flitGood, Bool.not_and, ← decide_not]
  simp only [Nat.not_lt, bne]

/-- A flit that fails its CRC, or that an injection makes fail, is counted, reported and answered with a NAK (R314, R315, R432). -/
theorem Cluster.accept_of_bad (h : flitGood f = false ∨ c.armedAt 0x29 l = true) :
    let d := if c.armedAt 0x29 l then c.disarm 0x29 else c
    c.accept l f = (((d.bump (0x2009C010 + 0x20 * l) 0x2009C090 (4 + l) 1).raise0 0x29 l).nak l, false) := by
  refine if_pos ?_
  rw [Bool.or_assoc, ← not_flitGood]
  simpa [or_comm] using h

section
variable (hgood : flitGood f = true) (hcalm : c.armedAt 0x29 l = false)
include hgood hcalm

theorem Cluster.accept_of_good :
    c.accept l f = if fType f = 0 then (c.takeAck l f, false) else ((c.sequence l f).1.takeAck l f, (c.sequence l f).2) := by
  refine (if_neg ?_).trans rfl
  rw [Bool.or_assoc, ← not_flitGood]
  simp [hgood, hcalm]

/-- A LINK gives its acknowledgement and does no more (R312, R315). -/
theorem Cluster.accept_link (hty : fType f = 0) : c.accept l f = (c.takeAck l f, false) := by
  rw [Cluster.accept_of_good hgood hcalm, if_pos hty]

theorem Cluster.accept_expected (hty : fType f ≠ 0) (hseq : fLseq f = (c.lane l).rx) :
    c.accept l f = ((c.setLane l { c.lane l with rx := ((c.lane l).rx + 1) % 4096, nakOpen := false, owe := some false }).takeAck l f,
      true) := by
  rw [Cluster.accept_of_good hgood hcalm, if_neg hty, Cluster.sequence, if_pos hseq]

theorem Cluster.accept_repeated (hty : fType f ≠ 0) (hseq : fLseq f ≠ (c.lane l).rx)
    (hold : ((c.lane l).rx + 4096 - fLseq f) % 4096 ≤ 2048) :
    c.accept l f = ((c.setLane l { c.lane l with owe := some (c.lane l).owesNak }).takeAck l f, false) := by
  rw [Cluster.accept_of_good hgood hcalm, if_neg hty, Cluster.sequence, if_neg hseq, if_pos hold]

theorem Cluster.accept_gap (hty : fType f ≠ 0) (hseq : fLseq f ≠ (c.lane l).rx)
    (hnew : 2048 < ((c.lane l).rx + 4096 - fLseq f) % 4096) : c.accept l f = ((c.nak l).takeAck l f, false) := by
  rw [Cluster.accept_of_good hgood hcalm, if_neg hty, Cluster.sequence, if_neg hseq, if_neg (Nat.not_le.mpr hnew)]

end

end

theorem Cluster.straps_takeAck (c : Cluster) (l : Nat) (f : Flit) : (c.takeAck l f).straps = c.straps :=
  congrArg Prod.fst (c.takeAck_ident l f)

/-- A command that lets a flit of one type arrive on a lane, with its delivery; what a delivery looks at, the cluster number, is as
the command found it (R26, R312). -/
def BringsFlit (i : Instr) (ty : Nat) (l : LaneId) (f : Flit) (s : State) (deliver : Cluster → Cluster) : Prop :=
  ∃ g : Cluster → Cluster, exec i s = done s (s.cl.flitIn ty l.val f g) ∧ ∀ d, d.straps = s.cl.straps → g d = deliver d

section
variable {i : Instr} {ty : Nat} {l : LaneId} {f : Flit} {s : State}

theorem BringsFlit.of_exec {deliver : Cluster → Cluster} (h : exec i s = done s (s.cl.flitIn ty l.val f deliver)) :
    BringsFlit i ty l f s deliver := ⟨deliver, h, fun _ _ => rfl⟩

/-- A flit that names this cluster is told from another one's (log entry 91). -/
theorem BringsFlit.of_own {own foreign : Cluster → Cluster}
    (h : exec i s = done s (s.cl.flitIn ty l.val f fun d => if d.ownFlit f then own d else foreign d)) :
    BringsFlit i ty l f s fun d => if decide (fGaddr f / 2 ^ 40 = s.cl.straps.toNat) then own d else foreign d := by
  refine ⟨_, h, fun d hd => ?_⟩
  have hown : d.ownFlit f = decide (fGaddr f / 2 ^ 40 = s.cl.straps.toNat) := by rw [Cluster.ownFlit, hd]; rfl
  simp only [hown]

end

end Sys2Proof.Machine

open Sys2Proof Sys2Proof.Machine

/-- Settles O48: a lane that takes no flit, a bad one, a LINK, and a good flit in its turn, repeated or behind a gap. -/
theorem flits : Obligations.Flits := by
  intro l f s c foreign mine answer rows armed shut ln
  have hrows : ∀ r ∈ rows, BringsFlit r.1 r.2.1 l f s r.2.2 := by
    simp only [rows, List.forall_mem_cons, List.not_mem_nil, false_implies, implies_true, and_true]
    exact ⟨.of_exec rfl, .of_exec rfl, .of_exec rfl, .of_exec rfl, .of_exec rfl, .of_exec rfl, .of_own rfl, .of_exec rfl,
      .of_own rfl, .of_own rfl⟩
  refine ⟨fun hlive hdue => ?resend, fun r hr => ?row⟩
  case resend =>
    have hexec : exec (.resendTimeout l) s = done s (if c.live && c.resendDue l.val then c.resendAll l.val else c) := rfl
    rw [hexec, hlive, hdue]
    rfl
  case row =>
    obtain ⟨deliver, hexec, hdeliver⟩ := hrows r hr
    intro gives fits
    have hfits : fits ↔ fType f = r.2.1 ∧ onNet r.2.1 l.val = true := and_congr_right fun _ => onNet_iff.symm
    refine ⟨fun hclosed => ?closed, fun hlive hup hshut => ?_⟩
    case closed =>
      rw [hexec, Cluster.flitIn_of_closed (by simpa only [Cluster.laneShut_iff] using hclosed)]
      rfl
    have hopen : c.laneShut l.val = false := Bool.eq_false_iff.mpr (mt Cluster.laneShut_iff.mp hshut)
    refine ⟨fun hgood hmisfit => ?misfit, fun hbad => ?bad, fun hgood hfit hcalm => ?_⟩
    case misfit =>
      rw [hexec, Cluster.flitIn_of_misfit hlive hup hopen hgood (mt hfits.mpr hmisfit)]
      rfl
    case bad =>
      intro d
      have harrives : flitGood f = false ∨ (fType f = r.2.1 ∧ onNet r.2.1 l.val = true) := hbad.imp_right fun h => hfits.mp h.2
      simp only [gives]
      rw [hexec, Cluster.flitIn_of_arriving hlive hup hopen harrives, Cluster.accept_of_bad (hbad.imp_right And.left)]
      rfl
    have harrives : c.flitIn r.2.1 l.val f deliver
        = (if (c.accept l.val f).2 then deliver (c.accept l.val f).1 else (c.accept l.val f).1).flushAck l.val :=
      Cluster.flitIn_of_arriving hlive hup hopen (Or.inr (hfits.mp hfit))
    have hrefused : ∀ d, c.accept l.val f = (d, false) → gives d := fun d h => by
      simp only [gives]
      rw [hexec, harrives, h]
      rfl
    have haccepted : ∀ d, d.straps = c.straps → c.accept l.val f = (d, true) → gives (r.2.2 d) := fun d hd h => by
      simp only [gives]
      rw [hexec, harrives, h, ← hdeliver d hd]
      rfl
    refine ⟨fun hlink => ?link, fun hty hseq => ?expected, fun hty hseq => ⟨fun hold => ?repeated, fun hnew => ?gap⟩⟩
    case link => exact hrefused _ (Cluster.accept_link hgood hcalm (hfit.1.trans hlink))
    case expected =>
      exact haccepted _ (Cluster.straps_takeAck _ _ _) (Cluster.accept_expected hgood hcalm (hfit.1.trans_ne hty) hseq)
    case repeated => exact hrefused _ (Cluster.accept_repeated hgood hcalm (hfit.1.trans_ne hty) hseq hold)
    case gap => exact hrefused _ (Cluster.accept_gap hgood hcalm (hfit.1.trans_ne hty) hseq hnew)

end

section
/-! The exact sum of an FP32 element of a sorus entry, and what it is released as (R73, R346). -/

namespace Sys2Proof.Machine

/-! Rounding reads the value of a magnitude, however it is written. -/

theorem Rnd.Rounds.unique {r : Rnd} {x : ℚ} {h k : Nat} (hh : r.Rounds x h) (hk : r.Rounds x k) : h = k := by
  by_cases hup : r.up x
  · exact (hh.1 hup).trans (hk.1 hup).symm
  · exact (hh.2 hup).trans (hk.2 hup).symm

theorem log2_mul_two_pow {m : Nat} (hm : m ≠ 0) (k : Nat) : Nat.log2 (m * 2 ^ k) = Nat.log2 m + k := by
  simp only [Nat.log2_eq_log_two]
  induction k with
  | zero => rw [pow_zero, mul_one, add_zero]
  | succ k ih => rw [pow_succ, ← mul_assoc, Nat.log_mul_base one_lt_two (by positivity), ih, add_assoc]

theorem roundMag_mul_pow (p : Nat) (qmin : Int) {m : Nat} (hm : m ≠ 0) (k : Nat) (e : Int) :
    roundMag (p + 1) qmin .rne (m * 2 ^ k) e false = roundMag (p + 1) qmin .rne m (e + k) false := by
  have hint : ∀ d : Int, Rnd.rne.int (m * 2 ^ k) d = Rnd.rne.int m (d + k) := fun d => by
    have hscaled := Rnd.int_rounds (r := .rne) (by simp) (m * 2 ^ k) d
    rw [dyadic_mul_pow] at hscaled
    exact hscaled.unique (Rnd.int_rounds (by simp) m (d + k))
  have hlog : e + Nat.log2 (m * 2 ^ k) - (p : Int) = e + k + Nat.log2 m - (p : Int) := by
    rw [log2_mul_two_pow hm]; push_cast; ring
  rw [roundMag_eq p qmin .rne (by positivity), roundMag_eq p qmin .rne hm, hlog, hint, sub_add_eq_add_sub]

theorem FloatFmt.enc_mul_pow (f : FloatFmt) (neg : Bool) {m : Nat} (hm : m ≠ 0) (k : Nat) (e : Int) :
    f.enc .rne (.fin neg (m * 2 ^ k) e) = f.enc .rne (.fin neg m (e + k)) := by
  simp only [FloatFmt.enc, roundMag_mul_pow f.mb f.qmin hm]

theorem dyadic_pos_iff {m : Nat} (e : Int) : 0 < dyadic m e ↔ m ≠ 0 := by
  rw [dyadic, mul_pos_iff_of_pos_right (by positivity), Nat.cast_pos, Nat.pos_iff_ne_zero]

/-- Equal values that are not zero have one sign and one magnitude. -/
theorem signed_eq_iff {a b : Bool} {m n : Nat} {e g : Int} (hm : m ≠ 0) :
    signed a m e = signed b n g ↔ a = b ∧ dyadic m e = dyadic n g := by
  have hpos := (dyadic_pos_iff e).mpr hm
  have hnonneg := dyadic_nonneg n g
  cases a <;> cases b <;> simp [signed] <;> linarith

/-- Equal values that are not zero are written alike. -/
theorem FloatFmt.enc_congr (f : FloatFmt) {a b : Bool} {m n : Nat} {e g : Int} (hm : m ≠ 0)
    (h : signed a m e = signed b n g) : f.enc .rne (.fin a m e) = f.enc .rne (.fin b n g) := by
  obtain ⟨rfl, hmag⟩ := (signed_eq_iff hm).mp h
  have hn : n ≠ 0 := (dyadic_pos_iff g).mp (hmag ▸ (dyadic_pos_iff e).mpr hm)
  clear h
  wlog hle : e ≤ g generalizing m n e g
  · exact (this hn hmag.symm hm (le_of_not_ge hle)).symm
  have hscaled : m = n * 2 ^ (g - e).toNat := by
    have h2 : (2 : ℚ) ^ e ≠ 0 := by positivity
    rw [← dyadic_align n hle] at hmag
    exact_mod_cast mul_right_cancel₀ h2 hmag
  rw [hscaled, f.enc_mul_pow a hn, Int.toNat_of_nonneg (sub_nonneg.mpr hle), add_sub_cancel]

/-! What an element has received. -/

/-- An element's flags and sum stand for the exact sum v of its contributions, of which there is one at least. -/
def SorAcc.Holds (a : SorAcc) (v : FV) : Prop :=
  a.any = true ∧ match v with
  | .nan => (a.nan || a.pinf && a.ninf) = true
  | .inf neg => a.nan = false ∧ a.pinf = !neg ∧ a.ninf = neg
  | .fin neg m e => a.nan = false ∧ a.pinf = false ∧ a.ninf = false ∧ signed neg m e = a.sum * (2 : ℚ) ^ (-149 : Int)
      ∧ a.negz = (neg && decide (m = 0))

/-- What is released is the exact sum, rounded once. -/
theorem SorAcc.Holds.outF {a : SorAcc} {v : FV} (h : a.Holds v) : a.outF = toF32 v := by
  obtain ⟨hany, h⟩ := h
  cases v with
  | nan => rw [SorAcc.outF, if_pos h]; rfl
  | inf neg =>
    obtain ⟨hnan, hpinf, hninf⟩ := h
    cases neg <;> simp [SorAcc.outF, hnan, hpinf, hninf] <;> rfl
  | fin neg m e =>
    obtain ⟨hnan, hpinf, hninf, hval, hnegz⟩ := h
    simp only [SorAcc.outF, hnan, hpinf, hninf, hany, hnegz, Bool.and_self, Bool.or_self, Bool.false_eq_true, if_false, Bool.true_and]
    by_cases hm : m = 0
    · have hsum : a.sum = 0 := by
        have : (a.sum : ℚ) * (2 : ℚ) ^ (-149 : Int) = 0 := by rw [← hval]; simp [signed, dyadic, hm]
        simpa using this
      rw [if_pos hsum, toF32, hm, FloatFmt.enc_zero]
      cases neg <;> rfl
    · have hsum : a.sum ≠ 0 := by
        intro hz
        rw [hz, Int.cast_zero, zero_mul] at hval
        have := (dyadic_pos_iff e).mpr hm
        cases neg <;> simp [signed] at hval <;> linarith
      rw [if_neg hsum, toF32, toF32]
      exact congrArg _ (FloatFmt.enc_congr _ hm (hval.trans (signed_natAbs _ _).symm)).symm

theorem signedMul_zero (a : Bool) (k : Nat) : signedMul a 0 k = 0 := by simp [signedMul]

/-- A sum is -0 only where both of its parts are. -/
theorem FV.add_negz {a b c : Bool} {m n k : Nat} {e g l : Int} (h : FV.add (.fin a m e) (.fin b n g) = .fin c k l) :
    (c && decide (k = 0)) = ((a && decide (m = 0)) && (b && decide (n = 0))) := by
  rw [FV.add_eq] at h
  split at h
  · obtain ⟨rfl, rfl, rfl⟩ := FV.fin.inj h
    simp only [decide_true, Bool.and_true, Bool.and_assoc, Bool.and_left_comm (decide (m = 0))]
  · rename_i hz
    obtain ⟨rfl, rfl, rfl⟩ := FV.fin.inj h
    have hparts : ¬ (m = 0 ∧ n = 0) := by
      rintro ⟨rfl, rfl⟩
      exact hz (by rw [signedMul_zero, signedMul_zero, add_zero])
    rw [decide_eq_false (Int.natAbs_ne_zero.mpr hz), Bool.and_false]
    by_cases hm : m = 0 <;> by_cases hn : n = 0 <;> simp_all

/-- A finite FP32 word is a multiple of 2^-149, and one word is -0. -/
theorem f32_fin {x : W32} {neg : Bool} {m : Nat} {e : Int} (h : f32 x = .fin neg m e) :
    -149 ≤ e ∧ (x == 0x80000000) = (neg && decide (m = 0)) := by
  obtain ⟨-, hval⟩ | ⟨-, hinf⟩ := f32_of_not_nan (x := x) (by rw [h]; rfl)
  case inr => rw [h] at hinf; cases hinf
  obtain ⟨rfl, rfl, rfl⟩ := FV.fin.inj (h.symm.trans hval)
  have hqmin : fmtF32.qmin = -149 := rfl
  have hzero : fmtF32.sig (f32Code x) = 0 ↔ f32Code x = 0 := by
    unfold FloatFmt.sig
    have := Nat.two_pow_pos fmtF32.mb
    split <;> omega
  refine ⟨by omega, ?_⟩
  rw [Bool.eq_iff_iff]
  simp only [beq_iff_eq, Bool.and_eq_true, decide_eq_true_eq, hzero, ← BitVec.toNat_inj, toNat_eq_sgn_add x]
  have := f32Code_lt x
  cases bitAt x 31 <;> simp [FloatFmt.sgn, fmtF32]; omega

/-! Each kind of contribution. -/

section
variable (a : SorAcc) {x : W32}

theorem SorAcc.addF_nan (h : f32 x = .nan) :
    a.addF x = { a with any := true, negz := a.negz && x == 0x80000000, nan := true } := by
  rw [SorAcc.addF, h]

theorem SorAcc.addF_inf {neg : Bool} (h : f32 x = .inf neg) : a.addF x = { a with
    any := true, negz := a.negz && x == 0x80000000, pinf := a.pinf || !neg, ninf := a.ninf || neg } := by
  rw [SorAcc.addF, h]
  cases neg <;> simp

theorem SorAcc.addF_fin {neg : Bool} {m : Nat} {e : Int} (h : f32 x = .fin neg m e) : a.addF x = { a with
    any := true, negz := a.negz && (neg && decide (m = 0)), sum := a.sum + signedMul neg m (e + 149).toNat } := by
  rw [← (f32_fin h).2, SorAcc.addF, h]
  rfl

end

theorem signedMul_value {x : W32} {neg : Bool} {m : Nat} {e : Int} (h : f32 x = .fin neg m e) :
    signed neg m e = (signedMul neg m (e + 149).toNat : ℚ) * (2 : ℚ) ^ (-149 : Int) := by
  have halign := signed_align neg m (f32_fin h).1
  rwa [sub_neg_eq_add] at halign

/-- The first contribution is the sum. -/
theorem SorAcc.holds_first (x : W32) : (SorAcc.empty.addF x).Holds (f32 x) := by
  cases hx : f32 x with
  | nan => rw [SorAcc.addF_nan _ hx]; exact ⟨rfl, rfl⟩
  | inf neg => rw [SorAcc.addF_inf _ hx]; exact ⟨rfl, rfl, rfl, rfl⟩
  | fin neg m e =>
    rw [SorAcc.addF_fin _ hx]
    refine ⟨rfl, rfl, rfl, rfl, ?_, rfl⟩
    rw [signedMul_value hx, SorAcc.empty, zero_add]

/-- One more contribution is added exactly. -/
theorem SorAcc.Holds.addF {a : SorAcc} {v : FV} (h : a.Holds v) (x : W32) : (a.addF x).Holds (v.add (f32 x)) := by
  obtain ⟨-, h⟩ := h
  cases hx : f32 x with
  | nan =>
    rw [SorAcc.addF_nan _ hx]
    cases v <;> exact ⟨rfl, rfl⟩
  | inf pos =>
    rw [SorAcc.addF_inf _ hx]
    cases v with
    | nan =>
      refine ⟨rfl, ?_⟩
      rcases (Bool.or_eq_true_iff).mp h with hnan | hinfs
      · exact Bool.or_eq_true_iff.mpr (.inl hnan)
      · obtain ⟨hpinf, hninf⟩ := Bool.and_eq_true_iff.mp hinfs
        simp [FV.add, hpinf, hninf]
    | inf neg =>
      obtain ⟨hnan, hpinf, hninf⟩ := h
      refine ⟨rfl, ?_⟩
      cases neg <;> cases pos <;> simp [FV.add, hnan, hpinf, hninf]
    | fin neg m e =>
      obtain ⟨hnan, hpinf, hninf, -⟩ := h
      exact ⟨rfl, hnan, by rw [hpinf, Bool.false_or], by rw [hninf, Bool.false_or]⟩
  | fin neg' n g =>
    rw [SorAcc.addF_fin _ hx]
    cases v with
    | nan => exact ⟨rfl, h⟩
    | inf neg => exact ⟨rfl, h⟩
    | fin neg m e =>
      obtain ⟨hnan, hpinf, hninf, hval, hnegz⟩ := h
      obtain ⟨c, k, l, hadd, hsum⟩ := FV.add_fin neg neg' m n e g
      rw [hadd]
      refine ⟨rfl, hnan, hpinf, hninf, ?_, ?_⟩
      · rw [hsum, hval, signedMul_value hx, Int.cast_add, add_mul]
      · rw [FV.add_negz hadd, hnegz]

/-- What an element releases is the exact sum of what it received, rounded once (R346). -/
theorem SorAcc.outF_foldl (xs : List W32) : (xs.foldl SorAcc.addF SorAcc.empty).outF = toF32 (FV.sum (xs.map f32)) := by
  have hfold : ∀ (ys : List W32) (a : SorAcc) (v : FV), a.Holds v → (ys.foldl SorAcc.addF a).Holds ((ys.map f32).foldl FV.add v) := by
    intro ys
    induction ys with
    | nil => exact fun _ _ h => h
    | cons y ys ih => exact fun a v h => ih _ _ (h.addF y)
  cases xs with
  | nil => rfl
  | cons x xs => exact (hfold xs _ _ (SorAcc.holds_first x)).outF

/-- What two lots of contributions leave together. -/
def SorAcc.plus (a b : SorAcc) : SorAcc :=
  ⟨a.sum + b.sum, a.nan || b.nan, a.pinf || b.pinf, a.ninf || b.ninf, a.negz && b.negz, a.any || b.any⟩

theorem SorAcc.addF_eq_plus (a : SorAcc) (x : W32) : a.addF x = a.plus (SorAcc.empty.addF x) := by
  cases hx : f32 x with
  | nan => simp [SorAcc.addF_nan _ hx, SorAcc.plus, SorAcc.empty]
  | inf neg => simp [SorAcc.addF_inf _ hx, SorAcc.plus, SorAcc.empty]
  | fin neg m e => simp [SorAcc.addF_fin _ hx, SorAcc.plus, SorAcc.empty]

theorem SorAcc.plus_right_comm (a b d : SorAcc) : (a.plus b).plus d = (a.plus d).plus b := by
  simp only [SorAcc.plus, add_right_comm a.sum, Bool.or_right_comm a.nan, Bool.or_right_comm a.pinf, Bool.or_right_comm a.ninf,
    Bool.and_right_comm a.negz, Bool.or_right_comm a.any]

theorem SorAcc.addF_right_comm (a : SorAcc) (x y : W32) : (a.addF x).addF y = (a.addF y).addF x := by
  rw [(a.addF x).addF_eq_plus, (a.addF y).addF_eq_plus, a.addF_eq_plus, a.addF_eq_plus, SorAcc.plus_right_comm]

/-- The order in which contributions come does not show in what is released (R346). -/
theorem SorAcc.foldl_addF_perm {xs ys : List W32} (h : ys.Perm xs) (a : SorAcc) :
    ys.foldl SorAcc.addF a = xs.foldl SorAcc.addF a :=
  h.foldl_eq' (fun x _ y _ b => b.addF_right_comm x y) a

end Sys2Proof.Machine
end

section
/-! Rings: where a record fits, and how PROD and CONS move (R335, R340, R341). -/

namespace Sys2Proof.Machine

section
variable (c : Cluster) (r n pad : Nat)

theorem Cluster.consume_form : c.consume r n = { c with consOld := (c.consume r n).consOld, cons := (c.consume r n).cons } := rfl

theorem Cluster.padSkip_form : c.padSkip r = { c with
    pads := (c.padSkip r).pads, consOld := (c.padSkip r).consOld, cons := (c.padSkip r).cons } := by
  unfold Cluster.padSkip
  dsimp only
  split <;> rfl

theorem Cluster.consOf_consume (hc : c.canon) : (c.consume r n).consOf r = c.consOf r + BitVec.ofNat 32 n := by
  obtain ⟨-, -, -, -, -, -, -, -, -, -, -, -, hcons, -⟩ := hc
  exact Sparse.get_set_self r _ hcons

/-- The room that a ring has left, by CONS as the cycle found it (R341). -/
def Cluster.ringRoom : Nat := ringSize (c.ringD r) - (c.prodOf r - c.consStart r).toNat

/-- The slots from PROD to the end of a ring (R340). -/
def Cluster.ringTail : Nat := ringSize (c.ringD r) - (c.prodOf r).toNat % ringSize (c.ringD r)

section
variable {c r n}

theorem Cluster.ringFit_of_tail (h : n ≤ c.ringTail r ∧ n ≤ c.ringRoom r) : c.ringFit r n = some 0 :=
  if_pos (Bool.and_eq_true_iff.mpr (h.imp decide_eq_true decide_eq_true))

theorem Cluster.ringFit_of_not_tail (h : ¬ (n ≤ c.ringTail r ∧ n ≤ c.ringRoom r)) : c.ringFit r n =
    if decide (c.ringTail r < n) && decide (c.ringTail r + n ≤ c.ringRoom r) then some (c.ringTail r) else none :=
  if_neg fun hfits => h ((Bool.and_eq_true_iff.mp hfits).imp of_decide_eq_true of_decide_eq_true)

theorem Cluster.ringFit_of_pad (hpad : c.ringTail r < n ∧ c.ringTail r + n ≤ c.ringRoom r) : c.ringFit r n = some (c.ringTail r) :=
  (Cluster.ringFit_of_not_tail fun h => absurd h.1 (not_le.mpr hpad.1)).trans
    (if_pos (Bool.and_eq_true_iff.mpr (hpad.imp decide_eq_true decide_eq_true)))

theorem Cluster.ringFit_of_neither (htail : ¬ (n ≤ c.ringTail r ∧ n ≤ c.ringRoom r))
    (hpad : ¬ (c.ringTail r < n ∧ c.ringTail r + n ≤ c.ringRoom r)) : c.ringFit r n = none :=
  (Cluster.ringFit_of_not_tail htail).trans
    (if_neg fun h => hpad ((Bool.and_eq_true_iff.mp h).imp of_decide_eq_true of_decide_eq_true))

end

/-- A record is placed: PROD alone of the ring's words is written, and what CONS then reaches is skipped (R340, R341). -/
theorem Cluster.produce_form : c.produce r n pad = { c with
    prod := Sparse.set c.prod r (c.prodOf r + BitVec.ofNat 32 (pad + n)), reg := (c.produce r n pad).reg
    pads := (c.produce r n pad).pads, consOld := (c.produce r n pad).consOld, cons := (c.produce r n pad).cons } := by
  unfold Cluster.produce
  dsimp only
  split
  · rw [Cluster.padSkip_form]
  · rw [Cluster.padSkip_form, Cluster.bump_form]; rfl

theorem Cluster.prodOf_produce_self (hc : c.canon) :
    (c.produce r n pad).prodOf r = c.prodOf r + BitVec.ofNat 32 (pad + n) := by
  obtain ⟨-, -, -, -, -, -, -, -, -, -, -, hprod, -⟩ := hc
  rw [Cluster.produce_form]
  exact Sparse.get_set_self r _ hprod

theorem Cluster.prodOf_produce_ne {q : Nat} (h : q ≠ r) : (c.produce r n pad).prodOf q = c.prodOf q := by
  rw [Cluster.produce_form]
  exact Sparse.get_set_ne _ h

end

end Sys2Proof.Machine
end

section
/-! The commands of the message unit, each in the state in which it acts (R332, R335, R336, R345, R347). -/

namespace Sys2Proof.Machine

variable {c : Cluster}

/-! A spore goes to its ring. -/

section
variable {r i : Nat} {rest : List Nat} {sp : InSpore} (hwait : c.waiting false r = i :: rest) (hsp : vat c.store i none = some sp)
  (htab : c.tabSound (c.ringKeys r))
include hwait hsp htab

theorem sporePlacementC_of_stuck (h : c.placing r = true ∨ c.ringFit r (sLen sp.hdr) = none) : sporePlacementC c r = c := by
  rcases h with hplacing | hfit
  · rw [sporePlacementC, hplacing, Bool.or_true, if_pos rfl]
  · simp only [sporePlacementC, hwait, List.head?_cons, hsp, Cluster.withTab_sound _ htab, hfit, ite_self]

theorem sporePlacementC_of_fit (hlive : c.live = true) (hplacing : c.placing r = false) {pad : Nat}
    (hfit : c.ringFit r (sLen sp.hdr) = some pad) : sporePlacementC c r =
      ({ c with store := vset c.store i (some { sp with grp := some c.spd.nextGrp }) } : Cluster).addGroup 1 0
        (.placeSpore i r (sLen sp.hdr) pad) (c.placeReqs r (sLen sp.hdr) pad sp.data) := by
  simp only [sporePlacementC, hlive, hplacing, Bool.not_true, Bool.or_self, Bool.false_eq_true, if_false, hwait, List.head?_cons, hsp,
    Cluster.withTab_sound _ htab, hfit]

end

theorem Cluster.placeSporeDone_of_held {id i : Nat} {sp : InSpore} (hsp : vat c.store i none = some sp) (hgrp : sp.grp = some id)
    (r n pad : Nat) : c.placeSporeDone id i r n pad =
      ({ (c.produce r n pad).sporeGone i with
        acks := ((c.produce r n pad).sporeGone i).acks ++ [(⟨sp.lane, sp.req, 7, 0⟩ : Ack)] } : Cluster).recvCheck r := by
  simp only [Cluster.placeSporeDone, hsp, hgrp, ne_eq, not_true_eq_false, if_false]

/-! A contribution is added to its entry. -/

theorem sorusAddC_of_busy {e : Nat} (h : c.sorRes.any (fun x => x.e == e) = true ∨ c.adding e = true) : sorusAddC c e = c := by
  rw [sorusAddC, if_pos]
  rcases h with h | h <;> simp only [h, Bool.or_true, Bool.true_or]

theorem sorusAddC_of_free {e i : Nat} {rest : List Nat} {sp : InSpore} (hlive : c.live = true)
    (hwait : c.waiting true e = i :: rest) (hsp : vat c.store i none = some sp)
    (hresult : c.sorRes.any (fun x => x.e == e) = false) (hadding : c.adding e = false) (htab : c.tabSound (c.sorusKeys e)) :
    sorusAddC c e = ({ c with store := vset c.store i (some { sp with grp := some c.spd.nextGrp }) } : Cluster).addGroup 1 0
      (.sorusRead i) ((c.sorLines e (sElemOff sp.hdr) (sNelc sp.hdr)).map (fun k => lineReq k (c.areaLine e k / 64) none)) := by
  simp only [sorusAddC, hlive, hresult, hadding, Bool.not_true, Bool.or_self, Bool.false_eq_true, if_false, hwait, List.head?_cons, hsp,
    Cluster.withTab_sound _ htab]

section
variable {id i : Nat} {sp : InSpore} (hsp : vat c.store i none = some sp) (hgrp : sp.grp = some id)
include hsp hgrp

theorem Cluster.sorusWriteDone_of_int (hint : c.sorusInt (sDring sp.hdr % 512) = true) :
    c.sorusWriteDone id i = ((c.sporeGone i).sorCount (sDring sp.hdr % 512)).reply sp.lane sp.req 7 0 0 [] := by
  simp only [Cluster.sorusWriteDone, hsp, hgrp, ne_eq, not_true_eq_false, if_false, hint, if_true]

theorem Cluster.sorusWriteDone_of_float (hint : c.sorusInt (sDring sp.hdr % 512) = false) :
    c.sorusWriteDone id i = (((c.each (List.range (sNelc sp.hdr)) (fun c k =>
        c.putSor (sDring sp.hdr % 512) (sElemOff sp.hdr + k)
          ((c.sorElem (sDring sp.hdr % 512) (sElemOff sp.hdr + k)).addF (sorX sp.data k)))).sporeGone i).sorCount
        (sDring sp.hdr % 512)).reply sp.lane sp.req 7 0 0 [] := by
  simp only [Cluster.sorusWriteDone, hsp, hgrp, ne_eq, not_true_eq_false, if_false, hint, Bool.false_eq_true]

end

/-! A result goes to its ring. -/

section
variable {e : Nat} {res : SorRes} (hres : c.resultOf e = some res) (hlive : c.live = true)
include hres hlive

theorem sorusResultTimeoutC_of_late (hdue : res.due ≤ c.tk) : sorusResultTimeoutC c e =
    ((c.sorRearm e).bump 0x20090230 0x20090240 6 1).raise 0x1C 0 (c.sorusOwner e) := by
  simp only [sorusResultTimeoutC, hres, hlive, decide_eq_true hdue, Bool.and_self, if_true, rMsg]

section
variable (htab : c.tabSound (c.sorusKeys e ++ c.ringKeys (c.sorusRing e))) (hvalid : ringValid (c.ringD (c.sorusRing e)) = true)
  (hplacing : c.placing (c.sorusRing e) = false)
include htab hvalid hplacing

theorem sorusResultPlaceC_of_full (hfit : c.ringFit (c.sorusRing e) (cdiv res.rec_.length 64) = none) :
    sorusResultPlaceC c e = c := by
  simp only [sorusResultPlaceC, hres, hlive, Bool.not_true, Bool.false_eq_true, if_false, Cluster.withTab_sound _ htab, hvalid, hplacing,
    Bool.not_false, Bool.and_self, if_true, hfit]

theorem sorusResultPlaceC_of_fit {pad : Nat} (hfit : c.ringFit (c.sorusRing e) (cdiv res.rec_.length 64) = some pad) :
    sorusResultPlaceC c e = ({ c with
      sorRes := c.sorRes.map (fun (x : SorRes) => if x.e = e then { x with grp := some c.spd.nextGrp } else x) } : Cluster).addGroup
        1 0 (.placeSorus e (c.sorusRing e) (cdiv res.rec_.length 64) pad)
        (c.placeReqs (c.sorusRing e) (cdiv res.rec_.length 64) pad res.rec_) := by
  simp only [sorusResultPlaceC, hres, hlive, Bool.not_true, Bool.false_eq_true, if_false, Cluster.withTab_sound _ htab, hvalid, hplacing,
    Bool.not_false, Bool.and_self, if_true, hfit]

end
end

theorem Cluster.placeSorusDone_of_held {id e : Nat} (h : ∃ x ∈ c.sorRes, x.e = e ∧ x.grp = some id) (r n pad : Nat) :
    c.placeSorusDone id e r n pad = ((c.produce r n pad).sorRearm e).recvCheck r := by
  rw [Cluster.placeSorusDone, if_pos]
  simpa using h

/-! Timers. -/

theorem ringTimeoutC_of_late {i : Nat} {sp : InSpore} (hlive : c.live = true) (hsp : vat c.store i none = some sp)
    (hdone : sp.done = true) (hgrp : sp.grp = none) (hdue : sp.due ≤ c.tk) : ringTimeoutC c i = c.refuse i 0 := by
  simp only [ringTimeoutC, hsp, hlive, hdone, hgrp, Option.isNone_none, decide_eq_true hdue, Bool.and_self, if_true]

theorem replyTimeoutC_of_late {n slot : Nat} {sp : SendSlot} (hlive : c.live = true)
    (hsp : vat (c.core n).send slot none = some sp) (hdue : sp.due ≤ c.tk) :
    replyTimeoutC c n slot = c.sporeOutcome n slot (some 3) := by
  simp only [replyTimeoutC, hsp, hlive, decide_eq_true hdue, Bool.and_self, if_true]

end Sys2Proof.Machine

open Sys2Proof Sys2Proof.Machine

/-- Settles O49: where a record fits, the exact sum, and each command of the message unit when it acts. -/
theorem messageUnit : Obligations.MessageUnit := by
  unfold Obligations.MessageUnit
  refine ⟨fun c r n pad hc => ?ring, fun xs ys => ⟨SorAcc.outF_foldl xs, fun h => by rw [SorAcc.foldl_addF_perm h]⟩, ?_⟩
  case ring =>
    exact ⟨fun htail hroom => Cluster.ringFit_of_tail ⟨htail, hroom⟩, fun hpad hroom => Cluster.ringFit_of_pad ⟨hpad, hroom⟩,
      Cluster.ringFit_of_neither, c.prodOf_produce_self r.val n pad hc, fun q hq => c.prodOf_produce_ne r.val n pad hq⟩
  intro s c grp hold hlive
  refine ⟨fun r i rest sp hwait hsp htab => ?spore, fun id i r n pad sp hsp hgrp => Cluster.placeSporeDone_of_held hsp hgrp r n pad,
    fun e i rest sp hwait hsp => ?sorus, fun id i sp hsp hgrp hint => Cluster.sorusWriteDone_of_int hsp hgrp hint,
    fun id i sp hsp hgrp hint => Cluster.sorusWriteDone_of_float hsp hgrp hint, fun e res hres => ?result,
    fun id e r n pad h => Cluster.placeSorusDone_of_held h r n pad,
    fun h sp hsp hdone hgrp hdue => congrArg (done s) (ringTimeoutC_of_late hlive hsp hdone hgrp hdue),
    fun n k sp hsp hdue => congrArg (done s) (replyTimeoutC_of_late hlive hsp hdue)⟩
  case spore =>
    exact ⟨fun h => congrArg (done s) (sporePlacementC_of_stuck hwait hsp htab h),
      fun pad hplacing hfit => congrArg (done s) (sporePlacementC_of_fit hwait hsp htab hlive hplacing hfit)⟩
  case sorus =>
    exact ⟨fun h => congrArg (done s) (sorusAddC_of_busy h), fun hresult hadding htab =>
      congrArg (done s) (sorusAddC_of_free hlive hwait hsp hresult hadding htab)⟩
  case result =>
    exact ⟨fun htab hvalid hplacing hfit => congrArg (done s) (sorusResultPlaceC_of_full hres hlive htab hvalid hplacing hfit),
      fun pad htab hvalid hplacing hfit => congrArg (done s) (sorusResultPlaceC_of_fit hres hlive htab hvalid hplacing hfit),
      fun hdue => congrArg (done s) (sorusResultTimeoutC_of_late hres hlive hdue)⟩

end

section
/-! A header as the message unit sends it (R326), and the WAIT field of CORE_STATE, the debug view of a core (chapter 10). -/

namespace Sys2Proof.Machine

/-! A field is written: what that field reads, and every field apart from it. -/

section
variable {w : Nat} (x : BitVec w) {hi lo v start len : Nat} (hl : lo ≤ hi)
include hl

theorem extract_setFld_self (hw : hi < w) (hlen : hi + 1 = lo + len) : (setFld x hi lo v).extractLsb' lo len = BitVec.ofNat len v := by
  refine BitVec.eq_of_getLsbD_eq fun i hi => ?_
  rw [BitVec.getLsbD_extractLsb', getLsbD_setFld x _ lo v _ hl (by omega), if_pos (by omega), BitVec.getLsbD_ofNat,
    Nat.add_sub_cancel_left]

theorem extract_setFld_apart (hw : start + len ≤ w) (h : start + len ≤ lo ∨ hi < start) :
    (setFld x hi lo v).extractLsb' start len = x.extractLsb' start len := by
  refine BitVec.eq_of_getLsbD_eq fun i hi => ?_
  rw [BitVec.getLsbD_extractLsb', getLsbD_setFld x _ lo v _ hl (by omega), if_neg (by omega), BitVec.getLsbD_extractLsb']

end

/-- Each field of a header that is sent: the message unit's own, the cleared ones, and those left as they were (R326). -/
theorem sendHdr_fields (h : BitVec 128) (seq cl n ctx : Nat) :
    let h' := sendHdr h seq cl n ctx
    h'.extractLsb' 112 16 = BitVec.ofNat 16 seq ∧ h'.extractLsb' 106 6 = BitVec.ofNat 6 cl
      ∧ h'.extractLsb' 103 3 = BitVec.ofNat 3 n ∧ h'.extractLsb' 15 6 = BitVec.ofNat 6 ctx
      ∧ h'.extractLsb' 64 21 = 0 ∧ h'.extractLsb' 0 12 = 0
      ∧ h'.extractLsb' 85 18 = h.extractLsb' 85 18 ∧ h'.extractLsb' 21 43 = h.extractLsb' 21 43
      ∧ h'.extractLsb' 12 3 = h.extractLsb' 12 3 := by
  refine ⟨?_, ?_, ?_, ?_, ?_, ?_, ?_, ?_, ?_⟩
  all_goals simp (disch := omega) only [sendHdr, extract_setFld_self, extract_setFld_apart, BitVec.ofNat_eq_ofNat]

theorem sCtx_sendHdr (h : BitVec 128) (seq cl n ctx : Nat) : sCtx (sendHdr h seq cl n ctx) = ctx % 64 := by
  obtain ⟨-, -, -, hctx, -⟩ := sendHdr_fields h seq cl n ctx
  rw [sCtx, fld_eq_extract, hctx, BitVec.toNat_ofNat]

/-- The code that CORE_STATE.WAIT shows: a stopped core, the scalar core's own stall, or its walker's. -/
def Cluster.waitCode (c : Cluster) (n : Nat) : Nat :=
  let x := c.core n
  let s := stallCode (vat c.waiters n none).isSome x.stall
  if x.stopped then 11 else if x.mode = 2 && x.codeRun && s != 0 then s else x.wwait

theorem Cluster.coreState_wait (c : Cluster) (n : Nat) (hcur : (c.core n).cur < 64) (hpc : (c.core n).pc < 2 ^ 16) :
    ((c.coreState n).extractLsb' 59 4).toNat = c.waitCode n % 16 := by
  have hstate : c.coreState n = placeB (c.core n).active 63 ||| place (c.waitCode n) 59 ||| place (c.core n).cur 53
    ||| place ((c.core n).widx % 4096) 36 ||| place (if (c.core n).mode = 2 then satN 0xFFFF (c.core n).credit else 0) 16
    ||| BitVec.ofNat 64 (if (c.core n).mode = 2 then (c.core n).pc else 0) := rfl
  have hcredit : (if (c.core n).mode = 2 then satN 0xFFFF (c.core n).credit else 0) < 2 ^ 16 := by
    rw [satN_eq_min]; split <;> omega
  have hpc : (if (c.core n).mode = 2 then (c.core n).pc else 0) < 2 ^ 16 := by split <;> omega
  generalize (if (c.core n).mode = 2 then satN 0xFFFF (c.core n).credit else 0) = credit at hstate hcredit
  generalize (if (c.core n).mode = 2 then (c.core n).pc else 0) = pc at hstate hpc
  have hactive : (placeB (c.core n).active 63).extractLsb' 59 4 = 0 := by cases (c.core n).active <;> decide
  rw [hstate]
  simp only [BitVec.or_assoc]
  rw [place_or_ofNat _ hpc, place_or_ofNat _ (by omega), place_or_ofNat _ (by omega), place_or_ofNat _ (by omega),
    BitVec.extractLsb'_or, hactive, BitVec.ofNat_eq_ofNat, BitVec.zero_or, BitVec.extractLsb'_toNat, BitVec.toNat_ofNat,
    Nat.shiftRight_eq_div_pow]
  omega

end Sys2Proof.Machine
end

section
/-! Reads of data memory that meet a stored error (R277, R278), and a spore that a core sends (R326 to R330). -/

namespace Sys2Proof.Machine

section
variable {c : Cluster} {n a len : Nat}

theorem Cluster.dmemRead_of_corrected {k : Nat} {m : W64} (h : errWords c.dmemErr n a len = [(k, m)])
    (hm : popcount 64 m.toNat < 2) :
    c.dmemRead n a len = (Memory.bytes c.dmem (n * 65536 + a) len, c.raise0 0x24 n, false) := by
  have hue : anyUe [(k, m)] = false := by simpa [anyUe] using hm
  rw [Cluster.dmemRead, h, hue]
  rfl

theorem Cluster.dmemRead_of_uncorrectable (h : ∃ kv ∈ errWords c.dmemErr n a len, 2 ≤ popcount 64 kv.2.toNat) :
    (c.dmemRead n a len).2 = (c, true) := by
  have hue : anyUe (errWords c.dmemErr n a len) = true := by simpa [anyUe] using h
  simp only [Cluster.dmemRead, hue, if_true]

/-- Fewer bytes meet no error that more of them do not. -/
theorem errWords_eq_nil_of_le {err : Sparse 64} {len' : Nat} (hle : len' ≤ len) (h : errWords err n a len = []) :
    errWords err n a len' = [] := by
  rw [errWords, List.filter_eq_nil_iff] at h ⊢
  intro kv hkv hnear
  obtain ⟨hlow, hhigh⟩ := Bool.and_eq_true_iff.mp hnear
  have := of_decide_eq_true hhigh
  exact h kv hkv (Bool.and_eq_true_iff.mpr ⟨hlow, decide_eq_true (by omega)⟩)

end

theorem vat_eq_none_iff {α : Type} {n : Nat} (v : Vector (Option α) n) {k : Nat} (hk : k < n) :
    vat v k none = none ↔ v.toList[k]'(by simpa using hk) = none := by simp [vat, hk]

/-- The lowest free place of a vector. -/
theorem findIdxN_isNone_eq_some {α : Type} {n : Nat} {v : Vector (Option α) n} {k : Nat} (hk : k < n) (hfree : vat v k none = none)
    (hlow : ∀ j < k, vat v j none ≠ none) : findIdxN (fun x => x.isNone) v.toList = some k := by
  rw [findIdxN_eq_findIdx?, List.findIdx?_eq_some_iff_getElem]
  refine ⟨by simpa using hk, Option.isNone_iff_eq_none.mpr ((vat_eq_none_iff v hk).mp hfree), fun j hj hnone => ?_⟩
  exact hlow j hj ((vat_eq_none_iff v (hj.trans hk)).mpr (Option.isNone_iff_eq_none.mp hnone))

theorem findIdxN_isNone_eq_none {α : Type} {n : Nat} {v : Vector (Option α) n} (hfull : ∀ k < n, vat v k none ≠ none) :
    findIdxN (fun x => x.isNone) v.toList = none := by
  rw [findIdxN_eq_findIdx?, List.findIdx?_eq_none_iff]
  intro x hx
  obtain ⟨k, hk, rfl⟩ := List.getElem_of_mem hx
  have hlt : k < n := by simpa using hk
  exact Option.isNone_eq_false_iff.mpr (Option.isSome_iff_ne_none.mpr (mt (vat_eq_none_iff v hlt).mpr (hfull k hlt)))

/-! SPSEND, by what its header's words hold and where its bytes lie. -/

section
variable {c : Cluster} {n : Nat} {x : Core} {w : Nat} (posted : Bool)

theorem Cluster.spsend_of_outside (h : 65536 < (x.s (sRa w)).toNat + 16) :
    c.spsend n x w posted = (c.setCore n (x.setS (sRs w) 8).adv).raise 0x1B n x.cur := if_pos h

theorem badHdr_of_outside {a : Nat} {h : BitVec 128} (hout : 65536 < a + 16) : badHdr a h = true := by
  have hlen : 65536 < a + 64 * sLen h := by unfold sLen; omega
  simp [badHdr, hlen]

/-- The header that SPSEND takes from data memory (R326). -/
def Cluster.headerAt (c : Cluster) (n a : Nat) : BitVec 128 := BitVec.ofNat 128 (leNat (Memory.bytes c.dmem (n * 65536 + a) 16))

theorem inside_of_good {a : Nat} {h : BitVec 128} (hgood : badHdr a h = false) : ¬ 65536 < a + 16 := fun hout => by
  rw [badHdr_of_outside hout] at hgood
  cases hgood

section
variable (hin : (x.s (sRa w)).toNat + 16 ≤ 65536)
include hin

theorem Cluster.spsend_of_uncorrectable
    (h : ∃ kv ∈ errWords c.dmemErr n (x.s (sRa w)).toNat 16, 2 ≤ popcount 64 kv.2.toNat) :
    c.spsend n x w posted = c.coreStop n 1 0x25 := by
  simp only [Cluster.spsend, if_neg (not_lt.mpr hin), Cluster.dmemRead_of_uncorrectable h, if_true]

theorem Cluster.spsend_of_refused {bs : List Byte} {d : Cluster} (hread : c.dmemRead n (x.s (sRa w)).toNat 16 = (bs, d, false))
    (hbad : badHdr (x.s (sRa w)).toNat (BitVec.ofNat 128 (leNat bs)) = true) :
    c.spsend n x w posted = (d.setCore n (x.setS (sRs w) 8).adv).raise 0x1B n x.cur := by
  simp only [Cluster.spsend, if_neg (not_lt.mpr hin), hread, Bool.false_eq_true, if_false, hbad, if_true]

end

section
variable (hgood : badHdr (x.s (sRa w)).toNat (c.headerAt n (x.s (sRa w)).toNat) = false)
include hgood

theorem Cluster.spsend_of_full (hsound : errWords c.dmemErr n (x.s (sRa w)).toNat 16 = [])
    (hfull : ∀ k < 8, vat x.send k none ≠ none) : c.spsend n x w posted = c.setCore n { x with stall := .slotWait 4 } := by
  have hhdr := hgood
  rw [Cluster.headerAt] at hhdr
  simp only [Cluster.spsend, if_neg (inside_of_good hgood), Cluster.dmemRead_sound hsound, Bool.false_eq_true, if_false, hhdr,
    findIdxN_isNone_eq_none hfull]

/-- A good header, whose spore holds no stored error, goes out in the lowest free slot. -/
theorem Cluster.spsend_of_free
    (hsound : errWords c.dmemErr n (x.s (sRa w)).toNat (64 * sLen (c.headerAt n (x.s (sRa w)).toNat)) = [])
    {k : Nat} (hk : k < 8) (hfree : vat x.send k none = none) (hlow : ∀ j < k, vat x.send j none ≠ none) :
    let h' := sendHdr (c.headerAt n (x.s (sRa w)).toNat) x.sendSeq c.straps.toNat n x.cur
    c.spsend n x w posted = c.handSpore n (sRs w) k h' (hdrBytes h' ++ (Memory.bytes c.dmem (n * 65536 + (x.s (sRa w)).toNat)
      (64 * sLen (c.headerAt n (x.s (sRa w)).toNat))).drop 16) posted := by
  have hhead : errWords c.dmemErr n (x.s (sRa w)).toNat 16 = [] :=
    errWords_eq_nil_of_le (by unfold sLen; omega) hsound
  rw [Cluster.headerAt] at hsound hgood
  simp only [Cluster.spsend, if_neg (inside_of_good hgood), Cluster.dmemRead_sound hhead, Cluster.dmemRead_sound hsound,
    Bool.false_eq_true, if_false, hgood, findIdxN_isNone_eq_some hk hfree hlow, Cluster.headerAt]

end
end

/-- A spore is handed over: WAIT stalls on its slot, POSTED goes on, and the message counters and the accounting count it
(R329, R391). -/
theorem Cluster.handSpore_eq (c : Cluster) (n rs k : Nat) (h : BitVec 128) (data : List Byte) (posted : Bool) :
    let x := c.core n
    let y := { x with send := vset x.send k (some ⟨h, data, posted, c.tk + c.dictAt 0x2700 2⟩), sendSeq := (x.sendSeq + 1) % 65536 }
    c.handSpore n rs k h data posted = (((c.setCore n (if posted then (y.setS rs 0).adv else { y with stall := .spWait k rs })).bump
      (rMsg + 0x200) (rMsg + 0x240) 0 1).account (sCtx h) 9 1).launchSpore n k h data := rfl

theorem exec_spsend {n : CoreId} {s : State} (posted : Bool) (h : s.cl.serves n (isSvc 0x25 0 (if posted then 1 else 0))) :
    exec (if posted then .spsendPosted n else .spsendWait n) s
      = done s (s.cl.spsend n.val (s.cl.core n.val) (s.cl.word n.val) posted) := by
  cases posted <;> exact congrArg (done s) (Cluster.service_serves h)

theorem exec_spsend_of_mem {n : CoreId} {s : State} {p : Instr × Nat}
    (hp : p ∈ [(Instr.spsendWait n, 0), (Instr.spsendPosted n, 1)]) (h : s.cl.serves n (isSvc 0x25 0 p.2)) :
    ∃ posted, exec p.1 s = done s (s.cl.spsend n.val (s.cl.core n.val) (s.cl.word n.val) posted) := by
  simp only [List.mem_cons, List.not_mem_nil, or_false] at hp
  rcases hp with rfl | rfl
  · exact ⟨false, exec_spsend false h⟩
  · exact ⟨true, exec_spsend true h⟩

/-! The send fence (R329). -/

/-- Is a posted spore of a core without its outcome? -/
def Core.owesPosted (x : Core) : Bool :=
  x.send.toList.any (fun e => match e with
    | some e => e.posted
    | none => false)

theorem Cluster.spFenceCheck_of_fence {c : Cluster} {n rs : Nat} (h : (c.core n).stall = .spFence rs) :
    c.spFenceCheck n = if (c.core n).owesPosted then c
      else c.setCore n { ((c.core n).setS rs (if (c.core n).refused then 2 else 0)).adv with refused := false } := by
  simp only [Cluster.spFenceCheck, h] <;> rfl

theorem exec_spsendFence {n : CoreId} {s : State} (h : s.cl.serves n (isSvc 0x25 0 2)) :
    let x := s.cl.core n.val
    let w := s.cl.word n.val
    exec (.spsendFence n) s = done s (if x.owesPosted then s.cl.setCore n.val { x with stall := .spFence (sRs w) }
      else s.cl.setCore n.val { (x.setS (sRs w) (if x.refused then 2 else 0)).adv with refused := false }) := by
  intro x w
  have hcore : (s.cl.setCore n.val { x with stall := .spFence (sRs w) }).core n.val = { x with stall := .spFence (sRs w) } :=
    Cluster.core_setCore _ _ _ n.isLt
  refine congrArg (done s) ((Cluster.service_serves h).trans ?_)
  rw [Cluster.spFenceCheck_of_fence (by rw [hcore]), hcore, Cluster.setCore_setCore]
  rfl

/-- A core that waits for a free slot shows the WAIT code of the cause (R329). -/
theorem Cluster.waitCode_of_slotWait {c : Cluster} {n : CoreId} (hready : c.scalarReady n.val = true) {code : Nat} (hcode : code ≠ 0) :
    (c.setCore n.val { c.core n.val with stall := .slotWait code }).waitCode n.val = code := by
  simp only [Cluster.scalarReady, Bool.and_eq_true, Bool.not_eq_true', beq_iff_eq, Option.isNone_iff_eq_none] at hready
  obtain ⟨⟨⟨⟨⟨-, hmode⟩, hrun⟩, hstopped⟩, -⟩, hwaiter⟩ := hready
  simp [Cluster.waitCode, Cluster.core_setCore _ _ _ n.isLt, hmode, hrun, hstopped, hwaiter, stallCode, hcode]

end Sys2Proof.Machine

open Sys2Proof Sys2Proof.Machine

/-- Settles O13: the spore that leaves, and each field of its header. -/
theorem sporeHeader : Obligations.SporeHeader := by
  intro n s posted k c x w a h hk hfree hlow hserves hgood hsound
  refine ⟨sendHdr h x.sendSeq c.straps.toNat n.val x.cur, ?_, ?_⟩
  · rw [exec_spsend posted hserves, Cluster.spsend_of_free posted hgood hsound hk hfree hlow, Cluster.handSpore_eq, sCtx_sendHdr]
    rfl
  · obtain ⟨hseq, hscl, hscore, hctx, hreserved, hlast, hrest⟩ := sendHdr_fields h x.sendSeq c.straps.toNat n.val x.cur
    exact ⟨hseq, hscl.trans (BitVec.ofNat_toNat ..), hscore, hctx, hreserved, hlast, hrest⟩

/-- Settles O14: what the header's words hold decides a send, and what is owed decides a fence. -/
theorem sporeFence : Obligations.SporeFence := by
  intro n s c x w a h posted waits
  refine ⟨fun p hp hserves => ?send, fun hserves => ⟨fun hclear => ?clear, fun howing => ?owing⟩⟩
  case clear =>
    have hclear : x.owesPosted = false := hclear
    exact (exec_spsendFence hserves).trans (congrArg (done s) (if_neg (Bool.eq_false_iff.mp hclear)))
  case owing => exact (exec_spsendFence hserves).trans (congrArg (done s) (if_pos howing))
  obtain ⟨mode, hexec⟩ := exec_spsend_of_mem hp hserves
  refine ⟨fun hread hbad => ?refused, fun k m herr hm hin hbad => ?corrected, fun hue hin => ?uncorrectable,
    fun hsound hgood hfull => ⟨?full, fun hcur hpc => ?code⟩⟩
  case refused =>
    refine hexec.trans (congrArg (done s) ?_)
    rcases le_or_gt (a + 16) 65536 with hin | hout
    · exact Cluster.spsend_of_refused mode hin (Cluster.dmemRead_sound (hread.resolve_right (not_lt.mpr hin))) hbad
    · exact Cluster.spsend_of_outside mode hout
  case corrected =>
    exact hexec.trans (congrArg (done s) (Cluster.spsend_of_refused mode hin (Cluster.dmemRead_of_corrected herr hm) hbad))
  case uncorrectable => exact hexec.trans (congrArg (done s) (Cluster.spsend_of_uncorrectable mode hin hue))
  case full => exact hexec.trans (congrArg (done s) (Cluster.spsend_of_full mode hgood hsound hfull))
  case code =>
    obtain ⟨⟨-, hready, -⟩, -, -⟩ := hserves
    have hcore : (c.setCore n.val waits).core n.val = waits := Cluster.core_setCore _ _ _ n.isLt
    rw [Cluster.coreState_wait _ _ (by rw [hcore]; exact hcur) (by rw [hcore]; exact hpc),
      Cluster.waitCode_of_slotWait hready (by decide)]

end

section
/-! SPRECV: whose ring it is, what the head record's slots bring to data memory, and how the receive ends (R340 to R343). -/

namespace Sys2Proof.Machine

/-- A ring is valid, and of this core and its current context (R338, R343). -/
def Cluster.ownsRing (c : Cluster) (n r : Nat) : Prop :=
  ringValid (c.ringD r) = true ∧ ringCore (c.ringD r) = n ∧ ringCtx (c.ringD r) = (c.core n).cur

/-- The ring that a receive names (R343). -/
def Cluster.recvRing (c : Cluster) (n : Nat) : Nat := fld ((c.core n).s (sRa (c.word n))) 12 0

theorem Cluster.ringOcc_eq_zero_iff (c : Cluster) (r : Nat) : c.ringOcc r = 0 ↔ c.prodOf r = c.consOf r := by
  rw [Cluster.ringOcc, ← sub_eq_zero (a := c.prodOf r), ← BitVec.toNat_inj]
  rfl

theorem Cluster.ofNat_ringOcc (c : Cluster) (r : Nat) : BitVec.ofNat 64 (c.ringOcc r) = (c.prodOf r - c.consOf r).zeroExtend 64 :=
  BitVec.ofNat_toNat ..

section
variable {c : Cluster} {n : CoreId} {mode : Nat} {f : Cluster → Core → Nat → Nat → Cluster}
  (hserves : c.serves n (isSvc 0x25 1 mode)) (htab : c.tabSound (c.ringKeys (c.recvRing n.val)))
include hserves htab

theorem Cluster.sprecv_eq : c.sprecv n.val mode f =
    if ringValid (c.ringD (c.recvRing n.val)) && ringCore (c.ringD (c.recvRing n.val)) == n.val
        && ringCtx (c.ringD (c.recvRing n.val)) == (c.core n.val).cur
    then f c (c.core n.val) (c.word n.val) (c.recvRing n.val)
    else (c.setCore n.val (((c.core n.val).setS (sRd (c.word n.val)) 0).setS (sRs (c.word n.val)) 6).adv).raise 0x1B n.val
      (c.core n.val).cur :=
  (Cluster.service_serves hserves).trans (Cluster.withTab_sound _ htab)

theorem Cluster.sprecv_of_own (hown : c.ownsRing n.val (c.recvRing n.val)) :
    c.sprecv n.val mode f = f c (c.core n.val) (c.word n.val) (c.recvRing n.val) := by
  obtain ⟨hvalid, hcore, hctx⟩ := hown
  rw [Cluster.sprecv_eq hserves htab, if_pos (by simp [hvalid, hcore, hctx])]

theorem Cluster.sprecv_of_foreign (hown : ¬ c.ownsRing n.val (c.recvRing n.val)) : c.sprecv n.val mode f =
    (c.setCore n.val (((c.core n.val).setS (sRd (c.word n.val)) 0).setS (sRs (c.word n.val)) 6).adv).raise 0x1B n.val
      (c.core n.val).cur := by
  rw [Cluster.sprecv_eq hserves htab, if_neg fun h => hown (by simpa [Cluster.ownsRing, and_assoc] using h)]

end

/-! Slots go to data memory. -/

/-- Slot k of a record's bytes. -/
def slotBytes (bs : List Byte) (k : Nat) : List Byte := (bs.drop (64 * k)).take 64

/-- A memory with k slots of bytes written from an address upward, slot by slot. -/
def Memory.putSlots (m : Memory) (a : Nat) (bs : List Byte) (k : Nat) : Memory :=
  (List.range k).foldl (fun m j => Memory.write m (a + 64 * j) (slotBytes bs j)) m

theorem Memory.putSlots_succ (m : Memory) (a : Nat) (bs : List Byte) (k : Nat) :
    m.putSlots a bs (k + 1) = Memory.write (m.putSlots a bs k) (a + 64 * k) (slotBytes bs k) := by
  rw [Memory.putSlots, List.range_succ, List.foldl_append]
  rfl

theorem slotBytes_length {bs : List Byte} {k : Nat} (h : 64 * (k + 1) ≤ bs.length) : (slotBytes bs k).length = 64 := by
  rw [slotBytes, List.length_take, List.length_drop]
  omega

theorem slotBytes_get (bs : List Byte) (k : Nat) {i : Nat} (hi : i < 64) : (slotBytes bs k)[i]? = bs[64 * k + i]? := by
  rw [slotBytes, List.getElem?_take_of_lt hi, List.getElem?_drop]

theorem Memory.byte_putSlots_out (m : Memory) (a : Nat) (bs : List Byte) {b : Nat} :
    ∀ k, 64 * k ≤ bs.length → b < a ∨ a + 64 * k ≤ b → Memory.byte (m.putSlots a bs k) b = Memory.byte m b := by
  intro k
  induction k with
  | zero => exact fun _ _ => rfl
  | succ k ih =>
    intro hlen hb
    rw [Memory.putSlots_succ, Memory.byte_write_out _ (by rw [slotBytes_length hlen]; omega), ih (by omega) (by omega)]

theorem Memory.byte_putSlots_in (m : Memory) (a : Nat) (bs : List Byte) {j : Nat} :
    ∀ k, 64 * k ≤ bs.length → j < 64 * k → Memory.byte (m.putSlots a bs k) (a + j) = (bs[j]?).getD 0 := by
  intro k
  induction k with
  | zero => exact fun _ hj => absurd hj (Nat.not_lt_zero j)
  | succ k ih =>
    intro hlen hj
    have hslot := slotBytes_length hlen
    rw [Memory.putSlots_succ]
    rcases lt_or_ge j (64 * k) with hbefore | hin
    · rw [Memory.byte_write_out _ (by omega), ih (by omega) hbefore]
    · obtain ⟨i, rfl⟩ := Nat.exists_eq_add_of_le hin
      have hi : i < 64 := by omega
      rw [← add_assoc, Memory.byte_write_in _ _ _ (by omega), List.getD_eq_getElem?_getD, slotBytes_get bs k hi]

section
variable {c : Cluster} {n : CoreId} (hcalm : c.dmemCalm n) (dst : Nat) (bs : List Byte)
include hcalm

theorem Cluster.each_dmemPut (k : Nat) : ∃ e, c.each (List.range k) (fun c j => c.dmemPut n.val (dst + 64 * j) (slotBytes bs j))
    = { c with dmem := Memory.putSlots c.dmem (n.val * 65536 + dst) bs k, dmemErr := e } := by
  induction k with
  | zero => exact ⟨c.dmemErr, rfl⟩
  | succ k ih =>
    obtain ⟨e, ih⟩ := ih
    rw [Cluster.each] at ih ⊢
    rw [List.range_succ, List.foldl_append, ih, List.foldl_cons, List.foldl_nil, Cluster.dmemPut_calm _ _ _ _ (by exact hcalm),
      Memory.putSlots_succ, ← add_assoc]
    exact ⟨_, rfl⟩

end

/-! The receive ends. -/

/-- A core has taken a record of len slots from a ring: CONS moves on, past a pad too, and the core answers and goes on
(R341, R343). -/
def Cluster.taken (c : Cluster) (n r rd rs len : Nat) (m : Memory) (e : Sparse 64) : Cluster :=
  ((({ c with dmem := m, dmemErr := e } : Cluster).consume r len).padSkip r).setCore n
    (((c.core n).setS rd (BitVec.ofNat 64 len)).setS rs 0).adv

section
variable {c : Cluster} {n : CoreId} {r rd rb rs len : Nat}

theorem Cluster.core_padSkip_consume (c : Cluster) (r k n : Nat) : ((c.consume r k).padSkip r).core n = c.core n := by
  rw [Cluster.padSkip_form, Cluster.consume_form]
  rfl

theorem Cluster.recvDone_discard : c.recvDone n.val r rd rb rs len [] = c.taken n.val r rd rs len c.dmem c.dmemErr := by
  rw [Cluster.recvDone, Cluster.core_padSkip_consume]
  rfl

theorem Cluster.recvDone_copy (hcalm : c.dmemCalm n) {bs : List Byte} {k : Nat} (hlen : bs.length = 64 * k) :
    ∃ e, c.recvDone n.val r rd rb rs len bs
      = c.taken n.val r rd rs len (Memory.putSlots c.dmem (n.val * 65536 + ((c.core n.val).s rb).toNat) bs k) e := by
  obtain ⟨e, hput⟩ := Cluster.each_dmemPut hcalm ((c.core n.val).s rb).toNat bs k
  refine ⟨e, ?_⟩
  simp only [slotBytes] at hput
  rw [Cluster.recvDone, hlen, Nat.mul_div_cancel_left k (by decide), hput, Cluster.core_padSkip_consume]
  rfl

end

/-! What the slots that have been read do. -/

section
variable {c : Cluster} {id n r rd rb rs : Nat} {copy : Bool} (hstall : (c.core n).stall = .recvRead r rd rb rs copy id) (bs : List Byte)
include hstall

theorem Cluster.recvHeadDone_eq :
    let x := c.core n
    let len := recSlots (BitVec.ofNat 128 (leNat (bs.take 16)))
    let p := (c.consOf r).toNat % ringSize (c.ringD r)
    c.recvHeadDone id n bs =
      if !copy then c.recvDone n r rd rb rs len []
      else if 65536 < (x.s rb).toNat + 64 * len then (c.setCore n ((x.setS rd 0).setS rs 7).adv).raise 0x1B n x.cur
      else if len = 1 then c.recvDone n r rd rb rs len bs
      else (c.setCore n { x with stall := .recvRead r rd rb rs copy c.spd.nextGrp }).addGroup 1 0 (.recvBody n bs)
        ((List.range (len - 1)).map (fun j => lineReq j (c.ringSlot r (p + 1 + j) / 64) none)) := by
  simp only [Cluster.recvHeadDone, hstall, ne_eq, not_true_eq_false, if_false]

theorem Cluster.recvBodyDone_eq : c.recvBodyDone id n bs = c.recvDone n r rd rb rs (bs.length / 64) bs := by
  simp only [Cluster.recvBodyDone, hstall, if_true]

end

theorem recvTimeoutC_of_late {c : Cluster} {n ring rd rb rs dl : Nat} (hstall : (c.core n).stall = .recv ring rd rb rs dl)
    (hrun : c.coresRun = true) (hdue : dl ≤ c.tk) : recvTimeoutC c n = c.setCore n ((c.core n).emptyRecv rd rs) := by
  simp only [recvTimeoutC, hstall, hrun, decide_eq_true hdue, Bool.and_self, if_true]

end Sys2Proof.Machine

open Sys2Proof Sys2Proof.Machine

/-- Settles O15: the start of each receive, what the slots that have been read do, and the time-out. -/
theorem ringReceive : Obligations.RingReceive := by
  intro n s c x
  refine ⟨?start, ?read, fun hc r k => c.consOf_consume r k hc,
    fun ring rd rb rs dl hstall hrun hdue => congrArg (done s) (recvTimeoutC_of_late hstall hrun hdue)⟩
  case start =>
    intro w r d mine p empty form htab
    refine ⟨fun q hq hform hforeign => ?foreign,
      fun hmine => ⟨fun hform => ?occ, fun hempty => ?empty, fun hrecord q hq hform => ?head⟩⟩
    case foreign =>
      simp only [List.mem_cons, List.not_mem_nil, or_false] at hq
      rcases hq with rfl | rfl | rfl | rfl <;> exact congrArg (done s) (Cluster.sprecv_of_foreign hform htab hforeign)
    case occ =>
      rw [← c.ofNat_ringOcc r]
      exact congrArg (done s) (Cluster.sprecv_of_own hform htab hmine)
    case empty =>
      have hocc : c.ringOcc r = 0 := (c.ringOcc_eq_zero_iff r).mpr hempty
      exact ⟨fun hform => congrArg (done s) ((Cluster.sprecv_of_own hform htab hmine).trans (if_pos hocc)),
        fun hform => congrArg (done s) ((Cluster.sprecv_of_own hform htab hmine).trans (if_pos hocc)),
        fun hform => congrArg (done s) ((Cluster.sprecv_of_own hform htab hmine).trans (if_pos hocc))⟩
    case head =>
      have hocc : c.ringOcc r ≠ 0 := mt (c.ringOcc_eq_zero_iff r).mp hrecord
      simp only [List.mem_cons, List.not_mem_nil, or_false] at hq
      rcases hq with rfl | rfl | rfl <;>
        exact congrArg (done s) ((Cluster.sprecv_of_own hform htab hmine).trans (if_neg hocc))
  case read =>
    intro r rd rb rs id copy bs hstall h len p dst taken
    have hhead := Cluster.recvHeadDone_eq hstall bs
    refine ⟨fun hcopy => ?discard, fun hcopy hlong => ?long, fun hcopy hfits hlen => ?more,
      fun all k hbytes hcalm hfits hall => ?copied⟩
    case discard =>
      rw [hhead, hcopy]
      exact Cluster.recvDone_discard
    case long =>
      rw [hhead, hcopy]
      exact if_pos hlong
    case more =>
      rw [hhead, hcopy]
      exact (if_neg (not_lt.mpr hfits)).trans (if_neg hlen)
    case copied =>
      have hdone : all = c.recvDone n.val r rd rb rs k bs := by
        rcases hall with ⟨rfl, hcopy, hlen, rfl⟩ | rfl
        · have hlen : recSlots h = 1 := hlen
          have hroom : ¬ 65536 < dst + 64 * recSlots h := by rw [hlen]; omega
          rw [hhead, hcopy]
          exact (if_neg hroom).trans ((if_pos hlen).trans (by rw [hlen]))
        · rw [Cluster.recvBodyDone_eq hstall, hbytes, Nat.mul_div_cancel_left k (by decide)]
      obtain ⟨e, hcopied⟩ := Cluster.recvDone_copy (r := r) (rd := rd) (rb := rb) (rs := rs) (len := k) hcalm hbytes
      exact ⟨_, e, hdone.trans hcopied, fun j hj => Memory.byte_putSlots_in _ _ bs k hbytes.ge hj,
        fun b hb => Memory.byte_putSlots_out _ _ bs k hbytes.ge hb⟩

end

section
/-! That no command stops the block: a step runs the command in front, and every command of the table answers a next
state, so a run of any length ends in one. -/

namespace Sys2Proof.Machine

/-- A step with a command waiting takes it off the queue and answers a next state with the rest. -/
theorem step_cons (i : Instr) (rest : List Instr) (c : Cluster) : ∃ d, step ⟨i :: rest, c⟩ = .next ⟨rest, d⟩ := by
  obtain ⟨d, hexec, -⟩ := exec_keeps_canon_ident i ⟨rest, c⟩
  exact ⟨d, hexec⟩

/-- Every step answers a next state. -/
theorem step_next (s : State) : ∃ t, step s = .next t := by
  obtain ⟨queue, c⟩ := s
  cases queue with
  | nil => exact ⟨_, rfl⟩
  | cons i rest =>
    obtain ⟨d, hstep⟩ := step_cons i rest c
    exact ⟨_, hstep⟩

/-- A run goes on with the state that its first step answers. -/
theorem run_of_step {s t : State} (h : step s = .next t) (k : Nat) : core.run (k + 1) s = core.run k t := by
  have unfolds {M : Host.Core} {x y : M.State} (hx : M.step x = .next y) : M.run (k + 1) x = M.run k y := by
    simp only [Host.Core.run, hx]
  exact unfolds (M := core) (x := s) h

/-- A run as long as the queue empties it. -/
theorem run_empties_queue (queue : List Instr) (c : Cluster) :
    ∃ d, core.run queue.length ⟨queue, c⟩ = .next (⟨[], d⟩ : State) := by
  induction queue generalizing c with
  | nil => exact ⟨c, rfl⟩
  | cons i rest ih =>
    obtain ⟨d, hstep⟩ := step_cons i rest c
    obtain ⟨e, hrun⟩ := ih d
    exact ⟨e, (run_of_step hstep _).trans hrun⟩

end Sys2Proof.Machine

namespace Sys2Proof

/-- Every run is safe. -/
theorem safe_of_all_steps (k : Nat) (s : Machine.State) : Safe k s := by
  induction k generalizing s with
  | zero => exact ⟨s, rfl⟩
  | succ k ih =>
    obtain ⟨t, hstep⟩ := Machine.step_next s
    obtain ⟨u, hrun⟩ := ih t
    exact ⟨u, (Machine.run_of_step hstep k).trans hrun⟩

end Sys2Proof

open Sys2Proof Sys2Proof.Machine

/-- Settles O55, by induction on the number of steps and on the queue. -/
theorem noCommandStops : Obligations.NoCommandStops := by
  unfold Obligations.NoCommandStops
  exact ⟨safe_of_all_steps, fun s => run_empties_queue s.pending s.cl⟩

end

section
/-! The decision for F and its source under every unit that works in a passing cycle (R424): a frame law for each
operation, since none of them but the collector decides F. -/

namespace Sys2Proof.Machine

/-- Whether F is in force, and FATALSRC. -/
def Cluster.fatality (c : Cluster) : Bool × Nat := (c.flt.fatal, c.flt.fatalSrc)

@[simp] theorem fatality_mk {xpowered xstage xstraps xstepping xclk xtb xtim xqueues xarrs xrefs xmovs xvecs xfeeds xposts xuses xcores xctxs xrun xfreeAt xsusp xreqs xrerun xlinings ximgs xintake xspd xmem xmemErr ximem ximemErr xdmem xdmemErr xsbuf xacc xside xchans xlanes xfifos xturned xwinOld xfabOut xwaiters xsyncOps xacks xxlat xsyncIn xrdesc xprod xcons xconsOld xpads xsdesc0 xsdesc1 xscount xsround xsacc xsorRes xresets xstore xnextOrd xmoss xflt xreg xdict xtabErr xvgath xfreeCtr} :
    Cluster.fatality ⟨xpowered, xstage, xstraps, xstepping, xclk, xtb, xtim, xqueues, xarrs, xrefs, xmovs, xvecs, xfeeds, xposts, xuses, xcores, xctxs, xrun, xfreeAt, xsusp, xreqs, xrerun, xlinings, ximgs, xintake, xspd, xmem, xmemErr, ximem, ximemErr, xdmem, xdmemErr, xsbuf, xacc, xside, xchans, xlanes, xfifos, xturned, xwinOld, xfabOut, xwaiters, xsyncOps, xacks, xxlat, xsyncIn, xrdesc, xprod, xcons, xconsOld, xpads, xsdesc0, xsdesc1, xscount, xsround, xsacc, xsorRes, xresets, xstore, xnextOrd, xmoss, xflt, xreg, xdict, xtabErr, xvgath, xfreeCtr⟩ = (xflt.fatal, xflt.fatalSrc) := rfl
@[simp] theorem fatality_eta (c : Cluster) : (c.flt.fatal, c.flt.fatalSrc) = c.fatality := rfl
@[simp] theorem fatality_ite {p : Prop} [Decidable p] (a b : Cluster) :
    (if p then a else b).fatality = if p then a.fatality else b.fatality := apply_ite Cluster.fatality p a b

@[simp] theorem foldl_fatality {α : Type} (f : Cluster → α → Cluster) (l : List α) (c : Cluster)
    (hf : ∀ d a, (f d a).fatality = d.fatality) : (l.foldl f c).fatality = c.fatality :=
  foldl_keep (fun d => d.fatality = c.fatality) f l rfl (fun d a h => (hf d a).trans h)
@[simp] theorem Cluster.each_fatality {α : Type} (c : Cluster) (l : List α) (f : Cluster → α → Cluster)
    (hf : ∀ d x, (f d x).fatality = d.fatality) : (c.each l f).fatality = c.fatality := foldl_fatality f l c hf
@[simp] theorem foldl_fst_fatality {α β : Type} (f : Cluster × β → α → Cluster × β) (l : List α) (p : Cluster × β)
    (hf : ∀ d a, (f d a).1.fatality = d.1.fatality) : (l.foldl f p).1.fatality = p.1.fatality :=
  foldl_keep (fun d => d.1.fatality = p.1.fatality) f l rfl (fun d a h => (hf d a).trans h)
@[simp] theorem foldl_snd_fatality {α β : Type} (f : β × Cluster → α → β × Cluster) (l : List α) (p : β × Cluster)
    (hf : ∀ d a, (f d a).2.fatality = d.2.fatality) : (l.foldl f p).2.fatality = p.2.fatality :=
  foldl_keep (fun d => d.2.fatality = p.2.fatality) f l rfl (fun d a h => (hf d a).trans h)
@[simp] theorem foldl_mid_fatality {α β γ : Type} (f : β × Cluster × γ → α → β × Cluster × γ) (l : List α) (p : β × Cluster × γ)
    (hf : ∀ d a, (f d a).2.1.fatality = d.2.1.fatality) : (l.foldl f p).2.1.fatality = p.2.1.fatality :=
  foldl_keep (fun d => d.2.1.fatality = p.2.1.fatality) f l rfl (fun d a h => (hf d a).trans h)

section
variable (c : Cluster)

@[simp] theorem Cluster.setCtx_fatality (k : Nat) (x : Ctx) : (c.setCtx k x).fatality = c.fatality := by simp [Cluster.setCtx]
@[simp] theorem Cluster.setCore_fatality (n : Nat) (x : Core) : (c.setCore n x).fatality = c.fatality := by simp [Cluster.setCore]
@[simp] theorem Cluster.setArr_fatality (a : Nat) (x : ArrSt) : (c.setArr a x).fatality = c.fatality := by simp [Cluster.setArr]
@[simp] theorem Cluster.setChan_fatality (k : Nat) (x : Chan) : (c.setChan k x).fatality = c.fatality := by simp [Cluster.setChan]
@[simp] theorem Cluster.setLane_fatality (i : Nat) (x : Lane) : (c.setLane i x).fatality = c.fatality := by simp [Cluster.setLane]
@[simp] theorem Cluster.setReg_fatality (a : Nat) (v : W64) : (c.setReg a v).fatality = c.fatality := by simp [Cluster.setReg]
@[simp] theorem Cluster.setDict_fatality (i sub v : Nat) : (c.setDict i sub v).fatality = c.fatality := by simp [Cluster.setDict]
@[simp] theorem Cluster.setBit_fatality (a n : Nat) : (c.setBit a n).fatality = c.fatality := by simp [Cluster.setBit]
@[simp] theorem Cluster.bump_fatality (a evt bit n : Nat) : (c.bump a evt bit n).fatality = c.fatality := by simp [Cluster.bump]
@[simp] theorem Cluster.stick_fatality (a hi lo n : Nat) : (c.stick a hi lo n).fatality = c.fatality := by simp [Cluster.stick]
@[simp] theorem Cluster.freeBs_fatality (n : Nat) : (c.freeBs n).2.fatality = c.fatality := by simp [Cluster.freeBs]
@[simp] theorem Cluster.account_fatality (ctx k n : Nat) : (c.account ctx k n).fatality = c.fatality := by simp [Cluster.account]
@[simp] theorem Cluster.setTileEmpty_fatality (n t v : Nat) : (c.setTileEmpty n t v).fatality = c.fatality :=
  by simp [Cluster.setTileEmpty]
@[simp] theorem Cluster.tileWrite_fatality (n t r off : Nat) (bs : List Byte) :
    (c.tileWrite n t r off bs).fatality = c.fatality := by simp [Cluster.tileWrite]
@[simp] theorem Cluster.tileStream_fatality (n t k : Nat) (bs : List Byte) :
    (c.tileStream n t k bs).fatality = c.fatality := by simp [Cluster.tileStream]
@[simp] theorem Cluster.tileRelease_fatality (n t : Nat) : (c.tileRelease n t).fatality = c.fatality := by simp [Cluster.tileRelease]
@[simp] theorem Cluster.event_fatality (code : Nat) (data : List Byte) : (c.event code data).fatality = c.fatality :=
  by simp [Cluster.event]
@[simp] theorem Cluster.pendBank_fatality (p : Nat) : (c.pendBank p).fatality = c.fatality := by simp [Cluster.pendBank]
@[simp] theorem Cluster.pendArr_fatality (a : Nat) : (c.pendArr a).fatality = c.fatality := by simp [Cluster.pendArr]
@[simp] theorem Cluster.pendCore_fatality (n : Nat) : (c.pendCore n).fatality = c.fatality := by simp [Cluster.pendCore]
@[simp] theorem Cluster.pendUnit_fatality (dom inst : Nat) : (c.pendUnit dom inst).fatality = c.fatality := by
  unfold Cluster.pendUnit
  (repeat' split) <;> simp [*]
@[simp] theorem Cluster.setHealth_fatality (h : Nat) : (c.setHealth h).fatality = c.fatality := by simp [Cluster.setHealth]
@[simp] theorem Cluster.latchFirst_fatality (f : FaultIn) (cls : Nat) (esc : Bool) :
    (c.latchFirst f cls esc).fatality = c.fatality := by simp [Cluster.latchFirst]
@[simp] theorem Cluster.record_fatality (f : FaultIn) : (c.record f).fatality = c.fatality := by simp [Cluster.record]
@[simp] theorem Cluster.keepTorn_fatality (k : Nat) : (c.keepTorn k).fatality = c.fatality := by
  unfold Cluster.keepTorn
  (repeat' split) <;> simp [*]
@[simp] theorem Cluster.teardown_fatality (k : Nat) : (c.teardown k).fatality = c.fatality := by simp [Cluster.teardown]
@[simp] theorem Cluster.raise_fatality (src inst ctx : Nat) : (c.raise src inst ctx).fatality = c.fatality := by
  unfold Cluster.raise
  (repeat' split) <;> simp [*]
@[simp] theorem Cluster.raise0_fatality (src inst : Nat) : (c.raise0 src inst).fatality = c.fatality := by
  unfold Cluster.raise0
  (repeat' split) <;> simp [*]
@[simp] theorem Cluster.disarm_fatality (src : Nat) : (c.disarm src).fatality = c.fatality := by simp [Cluster.disarm]
@[simp] theorem Cluster.tabFix_fatality (keys : List Nat) : (c.tabFix keys).1.fatality = c.fatality := by simp [Cluster.tabFix]
@[simp] theorem Cluster.emit_fatality (l : Nat) (f : Flit) : (c.emit l f).fatality = c.fatality := by simp [Cluster.emit]
@[simp] theorem Cluster.pumpLane_fatality (l : Nat) : (c.pumpLane l).fatality = c.fatality := by
  unfold Cluster.pumpLane
  dsimp only
  (repeat' split) <;> simp [*]
@[simp] theorem Cluster.sendFlit_fatality (h : BitVec 128) (payload : List Byte) :
    (c.sendFlit h payload).fatality = c.fatality := by simp [Cluster.sendFlit]
@[simp] theorem Cluster.xferLog_fatality (stat ch : Nat) (op : MacroOp) (k : Nat) :
    (c.xferLog stat ch op k).fatality = c.fatality := by simp [Cluster.xferLog]
@[simp] theorem Cluster.parkClear_fatality (ch : Nat) : (c.parkClear ch).fatality = c.fatality := by simp [Cluster.parkClear]
@[simp] theorem Cluster.dropReads_fatality (ch ord : Nat) : (c.dropReads ch ord).fatality = c.fatality := by simp [Cluster.dropReads]
@[simp] theorem Cluster.xferFail_fatality (ch slot stat k : Nat) (gone : Bool) :
    (c.xferFail ch slot stat k gone).fatality = c.fatality := by
  unfold Cluster.xferFail
  dsimp only
  (repeat' split) <;> simp [*]
@[simp] theorem Cluster.blockDone_fatality (ch ord k : Nat) : (c.blockDone ch ord k).fatality = c.fatality := by
  unfold Cluster.blockDone
  dsimp only
  (repeat' split) <;> simp [*]
@[simp] theorem Cluster.addGroup_fatality (cls ctx : Nat) (done_ : BDone) (rs : List BReq) :
    (c.addGroup cls ctx done_ rs).fatality = c.fatality := by simp [Cluster.addGroup]
@[simp] theorem Cluster.landData_fatality (h : BitVec 128) (payload : List Byte) :
    (c.landData h payload).fatality = c.fatality := by
  unfold Cluster.landData
  dsimp only
  (repeat' split) <;> simp [*]
@[simp] theorem Cluster.rdData_fatality (h : BitVec 128) (payload : List Byte) :
    (c.rdData h payload).fatality = c.fatality := by simp [Cluster.rdData]
@[simp] theorem Cluster.ackBlock_fatality (h : BitVec 128) : (c.ackBlock h).fatality = c.fatality := by
  unfold Cluster.ackBlock
  dsimp only
  (repeat' split) <;> simp [*]
@[simp] theorem Cluster.errBlock_fatality (h : BitVec 128) (stat : Nat) : (c.errBlock h stat).fatality = c.fatality := by
  unfold Cluster.errBlock
  (repeat' split) <;> simp [*]
@[simp] theorem Cluster.spFenceCheck_fatality (n : Nat) : (c.spFenceCheck n).fatality = c.fatality := by
  unfold Cluster.spFenceCheck
  dsimp only
  (repeat' split) <;> simp [*]
@[simp] theorem Cluster.sigFenceCheck_fatality (n : Nat) : (c.sigFenceCheck n).fatality = c.fatality := by
  unfold Cluster.sigFenceCheck
  dsimp only
  (repeat' split) <;> simp [*]
@[simp] theorem Cluster.logRefused_fatality (n : Nat) (h : BitVec 128) (reason : Nat) :
    (c.logRefused n h reason).fatality = c.fatality := by simp [Cluster.logRefused]
@[simp] theorem Cluster.sporeOutcome_fatality (n slot : Nat) (refused : Option Nat) :
    (c.sporeOutcome n slot refused).fatality = c.fatality := by
  unfold Cluster.sporeOutcome
  dsimp only
  (repeat' split) <;> simp [*]
@[simp] theorem Cluster.logSignal_fatality (n : Nat) (g : SigSlot) (stat : Nat) :
    (c.logSignal n g stat).fatality = c.fatality := by simp [Cluster.logSignal]
@[simp] theorem Cluster.signalOutcome_fatality (n slot : Nat) (failed : Option Nat) :
    (c.signalOutcome n slot failed).fatality = c.fatality := by
  unfold Cluster.signalOutcome
  dsimp only
  (repeat' split) <;> simp [*]
@[simp] theorem Cluster.lateReply_fatality : c.lateReply.fatality = c.fatality := by simp [Cluster.lateReply]
@[simp] theorem Cluster.signalErr_fatality (n k stat : Nat) : (c.signalErr n k stat).fatality = c.fatality := by
  unfold Cluster.signalErr
  dsimp only
  (repeat' split) <;> simp [*]
@[simp] theorem Cluster.takeErr_fatality (h : BitVec 128) (stat : Nat) : (c.takeErr h stat).fatality = c.fatality := by
  unfold Cluster.takeErr
  (repeat' split) <;> simp [*]
@[simp] theorem Cluster.takeReply_fatality (h : BitVec 128) (payload : List Byte) :
    (c.takeReply h payload).fatality = c.fatality := by
  unfold Cluster.takeReply
  (repeat' split) <;> simp [*]
@[simp] theorem Cluster.reply_fatality (lane : Nat) (req : BitVec 128) (ty stat lmask : Nat) (payload : List Byte) :
    (c.reply lane req ty stat lmask payload).fatality = c.fatality := by simp [Cluster.reply]
@[simp] theorem Cluster.refuse_fatality (i reason : Nat) : (c.refuse i reason).fatality = c.fatality := by
  unfold Cluster.refuse
  (repeat' split) <;> simp [*]
@[simp] theorem Cluster.setErr_fatality (w : Nat) (m : W64) : (c.setErr w m).fatality = c.fatality := by simp [Cluster.setErr]
@[simp] theorem Cluster.injectSpd_fatality (a : Nat) : (c.injectSpd a).fatality = c.fatality := by simp [Cluster.injectSpd]
@[simp] theorem Cluster.spdWriteLine_fatality (a : Nat) (bs : List Byte) : (c.spdWriteLine a bs).fatality = c.fatality :=
  by simp [Cluster.spdWriteLine]
@[simp] theorem Cluster.clearArea_fatality (e : Nat) : (c.clearArea e).fatality = c.fatality := by simp [Cluster.clearArea]
@[simp] theorem Cluster.msgReset_fatality (sorus : Bool) (k : Nat) : (c.msgReset sorus k).fatality = c.fatality :=
  by simp [Cluster.msgReset]
@[simp] theorem Cluster.doRearm_fatality (k : Nat) : (c.doRearm k).fatality = c.fatality := by simp [Cluster.doRearm]
@[simp] theorem Cluster.doSnapshot_fatality (k : Nat) : (c.doSnapshot k).fatality = c.fatality := by simp [Cluster.doSnapshot]
@[simp] theorem Cluster.ctxEnd_fatality (k : Nat) : (c.ctxEnd k).fatality = c.fatality := by simp [Cluster.ctxEnd]
@[simp] theorem Cluster.stopCores_fatality : c.stopCores.fatality = c.fatality := by simp [Cluster.stopCores]
@[simp] theorem Cluster.dropOps_fatality : c.dropOps.fatality = c.fatality := by simp [Cluster.dropOps]
@[simp] theorem Cluster.lateResets_fatality (ctxs : List Nat) : (c.lateResets ctxs).fatality = c.fatality :=
  by simp [Cluster.lateResets]
@[simp] theorem Cluster.rerunEnd_fatality (r : Run) : (c.rerunEnd r).fatality = c.fatality := by
  unfold Cluster.rerunEnd
  (repeat' split) <;> simp [*]
@[simp] theorem Cluster.liningEnd_fatality : c.liningEnd.fatality = c.fatality := by
  unfold Cluster.liningEnd
  (repeat' split) <;> simp [*]
@[simp] theorem Cluster.noRerun_fatality : c.noRerun.fatality = c.fatality := by
  unfold Cluster.noRerun
  (repeat' split) <;> simp [*]
@[simp] theorem Cluster.containLining_fatality : c.containLining.fatality = c.fatality := by
  unfold Cluster.containLining
  (repeat' split) <;> simp [*]
@[simp] theorem Cluster.freeCtx_fatality (k : Nat) : (c.freeCtx k).fatality = c.fatality := by simp [Cluster.freeCtx]
@[simp] theorem Cluster.doRetire_fatality (slot : Nat) : (c.doRetire slot).fatality = c.fatality := by
  unfold Cluster.doRetire
  dsimp only
  split
  · rfl
  · rw [Cluster.setReg_fatality, Cluster.setReg_fatality, Cluster.each_fatality _ _ _ (fun d k => d.freeCtx_fatality k)]
    rfl
@[simp] theorem Cluster.retireNow_fatality (slot : Nat) : (c.retireNow slot).fatality = c.fatality := by simp [Cluster.retireNow]
@[simp] theorem Cluster.tabRead_fatality (keys : List Nat) : (c.tabRead keys).1.fatality = c.fatality := by
  unfold Cluster.tabRead
  dsimp only
  (repeat' split) <;> simp [*]
@[simp] theorem Cluster.damage_fatality (slot : Nat) : (c.damage slot).fatality = c.fatality := by simp [Cluster.damage]
@[simp] theorem Cluster.addRepair_fatality (w : Nat) (v : W64) : (c.addRepair w v).fatality = c.fatality :=
  by simp [Cluster.addRepair]
@[simp] theorem Cluster.logSpd_fatality (kind agent ctx w : Nat) (ue : Bool) :
    (c.logSpd kind agent ctx w ue).fatality = c.fatality := by simp [Cluster.logSpd]
@[simp] theorem Cluster.bankErr_fatality (p : Nat) : (c.bankErr p).fatality = c.fatality := by simp [Cluster.bankErr]
@[simp] theorem Cluster.spdCe_fatality (w agent ctx : Nat) : (c.spdCe w agent ctx).fatality = c.fatality := by simp [Cluster.spdCe]
@[simp] theorem Cluster.spdUe_fatality (w agent ctx : Nat) : (c.spdUe w agent ctx).fatality = c.fatality := by
  unfold Cluster.spdUe
  dsimp only
  (repeat' split) <;> simp [*]
@[simp] theorem Cluster.spdScan_fatality (agent ctx a n : Nat) : (c.spdScan agent ctx a n).fatality = c.fatality :=
  by simp [Cluster.spdScan]
@[simp] theorem Cluster.spdRead_fatality (agent ctx a n : Nat) : (c.spdRead agent ctx a n).2.1.fatality = c.fatality :=
  by simp [Cluster.spdRead]
@[simp] theorem Cluster.spdWrite_fatality (a : Nat) (bs : List Byte) : (c.spdWrite a bs).fatality = c.fatality :=
  by simp [Cluster.spdWrite]
@[simp] theorem Cluster.detectTear_fatality (ctxs : List Nat) : (c.detectTear ctxs).fatality = c.fatality :=
  by simp [Cluster.detectTear]
@[simp] theorem Cluster.detectNote_fatality (fresh keep : List Nat) (line : Nat) (ue : Bool) :
    (c.detectNote fresh keep line ue).fatality = c.fatality := by
  unfold Cluster.detectNote
  (repeat' split) <;> simp [*]
@[simp] theorem Cluster.spdDetect_fatality (r : Option Run) (w ctx : Nat) (ue : Bool) :
    (c.spdDetect r w ctx ue).fatality = c.fatality := by simp [Cluster.spdDetect]
@[simp] theorem Cluster.staticRead_fatality (ctx a n : Nat) : (c.staticRead ctx a n).2.1.fatality = c.fatality := by
  unfold Cluster.staticRead
  (repeat' split) <;> simp [*]
@[simp] theorem Cluster.addUses_fatality (us : List (Nat × Nat)) : (c.addUses us).fatality = c.fatality := by simp [Cluster.addUses]
@[simp] theorem Cluster.countConflicts_fatality : c.countConflicts.fatality = c.fatality := by simp [Cluster.countConflicts]
@[simp] theorem Cluster.portPart_fatality (ctx a n : Nat) (p : List Byte × Cluster × Bool) (line : Nat) :
    (Cluster.portPart ctx a n p line).2.1.fatality = p.2.1.fatality := by
  unfold Cluster.portPart
  (repeat' split) <;> simp [*]
@[simp] theorem Cluster.portRead_fatality (ctx a n : Nat) : (c.portRead ctx a n).2.1.fatality = c.fatality :=
  by simp [Cluster.portRead]
@[simp] theorem Cluster.portWrite_fatality (q a lo hi : Nat) (bs : List Byte) :
    (c.portWrite q a lo hi bs).fatality = c.fatality := by simp [Cluster.portWrite]
@[simp] theorem Cluster.haltEvent_fatality (begins : Bool) (t : Nat) : (c.haltEvent begins t).fatality = c.fatality :=
  by simp [Cluster.haltEvent]
@[simp] theorem Cluster.openHold_fatality (t : Nat) : (c.openHold t).fatality = c.fatality := by simp [Cluster.openHold]
@[simp] theorem Cluster.post_fatality (t rank : Nat) (w : Post) : (c.post t rank w).fatality = c.fatality := by simp [Cluster.post]
@[simp] theorem Cluster.withTab_fatality (keys : List Nat) (f : Cluster → Cluster) (k_f : ∀ d, (f d).fatality = d.fatality) :
    (c.withTab keys f).fatality = c.fatality := by
  unfold Cluster.withTab
  simp [*]
@[simp] theorem Cluster.setFifo_fatality (j : Nat) (f : Fifo) : (c.setFifo j f).fatality = c.fatality := by simp [Cluster.setFifo]
@[simp] theorem Cluster.passFifo_fatality (e j : Nat) : (c.passFifo e j).fatality = c.fatality := by simp [Cluster.passFifo]
@[simp] theorem Cluster.passCrossings_fatality (l : Nat) : (c.passCrossings l).fatality = c.fatality :=
  by simp [Cluster.passCrossings]
@[simp] theorem Cluster.nextStage_fatality : c.nextStage.fatality = c.fatality := by simp [Cluster.nextStage]
@[simp] theorem Cluster.haltOver_fatality (t : Nat) : (c.haltOver t).fatality = c.fatality := by simp [Cluster.haltOver]
@[simp] theorem Cluster.landStat_fatality (a slot : Nat) (recs : List (BitVec 96)) :
    (c.landStat a slot recs).fatality = c.fatality := by simp [Cluster.landStat]
@[simp] theorem Cluster.readLines_fatality (ctx : Nat) (ls : List Nat) : (c.readLines ctx ls).2.fatality = c.fatality :=
  by simp [Cluster.readLines]
@[simp] theorem Cluster.feederRead_fatality (n : Nat) (o : MacroOp) (t0 : Nat) (list : Option (List W16)) (k : Nat × Nat) :
    (c.feederRead n o t0 list k).fatality = c.fatality := by
  unfold Cluster.feederRead
  dsimp only
  (repeat' split) <;> simp [*]
@[simp] theorem Cluster.setFeed_fatality (n : Nat) (x : Feeder) : (c.setFeed n x).fatality = c.fatality := by simp [Cluster.setFeed]
@[simp] theorem Cluster.freeSlots_fatality (n : Nat) : (c.freeSlots n).fatality = c.fatality := by simp [Cluster.freeSlots]
@[simp] theorem Cluster.landLine_fatality (n kind : Nat) (l : FLine) : (c.landLine n kind l).fatality = c.fatality :=
  by simp [Cluster.landLine]
@[simp] theorem Cluster.issueLines_fatality (a : Nat) (o : MacroOp) (t0 : Nat) (list : Option (List W16)) (ks : List (Nat × Nat)) :
    (c.issueLines a o t0 list ks).fatality = c.fatality := by simp [Cluster.issueLines]
@[simp] theorem Cluster.freeCodes_fatality (cnt w : Nat) : (c.freeCodes cnt w).2.fatality = c.fatality := by simp [Cluster.freeCodes]
@[simp] theorem Cluster.actScales_fatality (n : Nat) (o : MacroOp) (list : Option (List W16)) (k : Nat) :
    (c.actScales n o list k).2.fatality = c.fatality := by
  unfold Cluster.actScales
  (repeat' split) <;> simp [*]
@[simp] theorem Cluster.sliceCodes_fatality (a : Nat) (o : MacroOp) (list : Option (List W16)) (t : Nat) :
    (c.sliceCodes a o list t).2.fatality = c.fatality := by
  unfold Cluster.sliceCodes
  (repeat' split) <;> simp [*]
@[simp] theorem Cluster.readSlice_fatality (a : Nat) (o : MacroOp) (list : Option (List W16)) (set : Option Bool) (s : Nat) :
    (c.readSlice a o list set s).2.fatality = c.fatality := by
  unfold Cluster.readSlice
  dsimp only
  (repeat' split) <;> simp [*]
@[simp] theorem Cluster.serveRd_fatality (lane : Nat) (f : Flit) : (c.serveRd lane f).fatality = c.fatality := by
  unfold Cluster.serveRd
  generalize List.replicate 256 (0 : Byte) = zeros
  dsimp only
  (repeat' split) <;> simp [*]
@[simp] theorem Cluster.serveWr_fatality (lane : Nat) (f : Flit) : (c.serveWr lane f).fatality = c.fatality :=
  by simp [Cluster.serveWr]
@[simp] theorem Cluster.sendReq_fatality (ty txn lmask target : Nat) (payload : List Byte) :
    (c.sendReq ty txn lmask target payload).fatality = c.fatality := by simp [Cluster.sendReq]
@[simp] theorem Cluster.endSlots_fatality : c.endSlots.fatality = c.fatality := by simp [Cluster.endSlots]
@[simp] theorem Cluster.syncTake_fatality (i : Nat) : (c.syncTake i).fatality = c.fatality := by
  unfold Cluster.syncTake
  (repeat' split) <;> simp [*]
@[simp] theorem Cluster.syncIssue_fatality : c.syncIssue.fatality = c.fatality := by simp [Cluster.syncIssue]
@[simp] theorem Cluster.sendAcks_fatality : c.sendAcks.fatality = c.fatality := by simp [Cluster.sendAcks]
@[simp] theorem Cluster.putCells_fatality (a : Nat) (set1 : Bool) (vs : List (Nat × Nat × W32)) :
    (c.putCells a set1 vs).fatality = c.fatality := by simp [Cluster.putCells]
@[simp] theorem Cluster.preGroup_fatality (a : Nat) (set1 int orient : Bool) (i : Nat) (held : List (List W32)) (lanes : List W32) :
    (c.preGroup a set1 int orient i held lanes).fatality = c.fatality := by simp [Cluster.preGroup]
@[simp] theorem Cluster.statPass_fatality (a : Nat) (j : DrainJob) (i : Nat) (st : W64) (lanes : List W32) :
    (c.statPass a j i st lanes).fatality = c.fatality := by simp [Cluster.statPass]
@[simp] theorem Cluster.postPiece_fatality (a : Nat) (j : DrainJob) (t : Nat) (p : Nat × List Byte) :
    (c.postPiece a j t p).fatality = c.fatality := by simp [Cluster.postPiece]
@[simp] theorem Cluster.postGroup_fatality (a : Nat) (j : DrainJob) (i t : Nat) (g : Skim) :
    (c.postGroup a j i t g).fatality = c.fatality := by
  unfold Cluster.postGroup
  dsimp only
  (repeat' split) <;> simp [*]
@[simp] theorem Cluster.skimEnter_fatality (a : Nat) (j : DrainJob) (i k t : Nat) (g : Skim) :
    (c.skimEnter a j i k t g).fatality = c.fatality := by simp [Cluster.skimEnter]
@[simp] theorem Cluster.skimPass_fatality (a : Nat) (j : DrainJob) (i k : Nat) (g : Skim) :
    (c.skimPass a j i k g).fatality = c.fatality := by simp [Cluster.skimPass]
@[simp] theorem Cluster.witnessFault_fatality (a : Nat) (j : DrainJob) (r : Nat) :
    (c.witnessFault a j r).fatality = c.fatality := by simp [Cluster.witnessFault]
@[simp] theorem Cluster.witnessRows_fatality (a : Nat) (j : DrainJob) (rows : List (Nat × List W32)) :
    (c.witnessRows a j rows).1.fatality = c.fatality := by
  unfold Cluster.witnessRows
  dsimp only
  (repeat' split) <;> simp [*]
@[simp] theorem Cluster.drainGroup_fatality (a : Nat) (j : DrainJob) (i : Nat) :
    (c.drainGroup a j i).1.fatality = c.fatality := by
  unfold Cluster.drainGroup
  (repeat' split) <;> simp [*]
@[simp] theorem Cluster.drainCycle_fatality (a : Nat) : (c.drainCycle a).fatality = c.fatality := by
  unfold Cluster.drainCycle
  (repeat' split) <;> simp [*]
@[simp] theorem Cluster.preCycle_fatality (a : Nat) (p : PreJob) : (c.preCycle a p).fatality = c.fatality :=
  by simp [Cluster.preCycle]
@[simp] theorem Cluster.cfgBusy_fatality (n : Nat) (o : MacroOp) (refs : List TileRef) :
    (c.cfgBusy n o refs).fatality = c.fatality := by simp [Cluster.cfgBusy]
@[simp] theorem Cluster.tileGeometry_fatality (n t rowsm1 rb : Nat) :
    (c.tileGeometry n t rowsm1 rb).fatality = c.fatality := by simp [Cluster.tileGeometry]
@[simp] theorem Cluster.doTcfg_fatality (n : Nat) (o : MacroOp) : (c.doTcfg n o).fatality = c.fatality := by simp [Cluster.doTcfg]
@[simp] theorem Cluster.emptyRows_fatality (n t r0 cnt : Nat) : (c.emptyRows n t r0 cnt).fatality = c.fatality :=
  by simp [Cluster.emptyRows]
@[simp] theorem Cluster.doConfig_fatality (n : Nat) (o : MacroOp) : (c.doConfig n o).fatality = c.fatality := by
  unfold Cluster.doConfig
  (repeat' split) <;> simp [*]
@[simp] theorem Cluster.sbufWrite_fatality (n off : Nat) (bs : List Byte) :
    (c.sbufWrite n off bs).fatality = c.fatality := by simp [Cluster.sbufWrite]
@[simp] theorem Cluster.stopLoad_fatality (m : Mov) : (c.stopLoad m).fatality = c.fatality := by simp [Cluster.stopLoad]
@[simp] theorem Cluster.loadRow_fatality (m : Mov) (i : Nat) : (c.loadRow m i).fatality = c.fatality := by simp [Cluster.loadRow]
@[simp] theorem Cluster.postChunks_fatality (m : Mov) (bs : List Byte) : (c.postChunks m bs).fatality = c.fatality :=
  by simp [Cluster.postChunks]
@[simp] theorem Cluster.transRow_fatality (m : Mov) (i : Nat) : (c.transRow m i).fatality = c.fatality := by simp [Cluster.transRow]
@[simp] theorem Cluster.movRead_fatality (m : Mov) : (c.movRead m).fatality = c.fatality := by
  unfold Cluster.movRead
  (repeat' split) <;> simp [*]
@[simp] theorem Cluster.parkBlock_fatality (ch slot : Nat) (x : Xfer) (kind : Nat) :
    (c.parkBlock ch slot x kind).fatality = c.fatality := by
  unfold Cluster.parkBlock
  dsimp only
  (repeat' split) <;> simp [*]
@[simp] theorem Cluster.sendBlock_fatality (ch slot : Nat) (x : Xfer) (k target : Nat) (payload : List Byte) :
    (c.sendBlock ch slot x k target payload).fatality = c.fatality := by simp [Cluster.sendBlock]
@[simp] theorem Cluster.putDone_fatality (ch ord k : Nat) (payload : List Byte) :
    (c.putDone ch ord k payload).fatality = c.fatality := by
  unfold Cluster.putDone
  dsimp only
  (repeat' split) <;> simp [*]
@[simp] theorem Cluster.flushPuts_fatality (ch m : Nat) : (c.flushPuts ch m).fatality = c.fatality := by
  induction m generalizing c with
  | zero => rfl
  | succ n ih =>
    unfold Cluster.flushPuts
    dsimp only
    (repeat' split) <;> simp [ih]
@[simp] theorem Cluster.flushAll_fatality : c.flushAll.fatality = c.fatality := by simp [Cluster.flushAll]
@[simp] theorem Cluster.drainTurned_fatality : c.drainTurned.fatality = c.fatality := by
  unfold Cluster.drainTurned
  (repeat' split) <;> simp [*]
@[simp] theorem Cluster.retryPark_fatality (ch : Nat) : (c.retryPark ch).fatality = c.fatality := by
  unfold Cluster.retryPark
  (repeat' split) <;> simp [*]
@[simp] theorem Cluster.windowsIn_fatality : c.windowsIn.fatality = c.fatality := by simp [Cluster.windowsIn]
@[simp] theorem Cluster.unhalt_fatality : c.unhalt.fatality = c.fatality := by simp [Cluster.unhalt]
@[simp] theorem Cluster.sample_fatality (g : Grants) : (c.sample g).fatality = c.fatality := by simp [Cluster.sample]
@[simp] theorem Cluster.skipPeriods_fatality (r : Run) (tb0 : Nat) : (c.skipPeriods r tb0).fatality = c.fatality :=
  by simp [Cluster.skipPeriods]
@[simp] theorem Cluster.atLcc0_fatality (r : Run) : (c.atLcc0 r).fatality = c.fatality := by simp [Cluster.atLcc0]
@[simp] theorem Cluster.beginCheck_fatality : c.beginCheck.fatality = c.fatality := by
  unfold Cluster.beginCheck
  (repeat' split) <;> simp [*]
@[simp] theorem Cluster.holdAtStart_fatality : c.holdAtStart.fatality = c.fatality := by simp [Cluster.holdAtStart]
@[simp] theorem Cluster.enterSegs_fatality : c.enterSegs.fatality = c.fatality := by
  unfold Cluster.enterSegs
  (repeat' split) <;> simp [*]
@[simp] theorem Cluster.resumeGo_fatality : c.resumeGo.fatality = c.fatality := by simp [Cluster.resumeGo]
@[simp] theorem Cluster.landSeg_fatality (n : Nat) (r : SegRec) : (c.landSeg n r).fatality = c.fatality := by simp [Cluster.landSeg]
@[simp] theorem Cluster.landChoice_fatality (log : Option (W64 × W64)) (cores : List Nat) (r : SegRec) :
    (c.landChoice log cores r).fatality = c.fatality := by
  unfold Cluster.landChoice
  (repeat' split) <;> simp [*]
@[simp] theorem Cluster.descRead_fatality (n ctx : Nat) (d : Desc) (b len : Nat) :
    (c.descRead n ctx d b len).2.fatality = c.fatality := by
  unfold Cluster.descRead
  (repeat' split) <;> simp [*]
@[simp] theorem Cluster.readRun_fatality (n ctx : Nat) (d : Desc) (e it : Nat) :
    (c.readRun n ctx d e it).2.fatality = c.fatality := by simp [Cluster.readRun]
@[simp] theorem Cluster.descPost_fatality (n t : Nat) (d : Desc) (b lo hi : Nat) (bs : List Byte) :
    (c.descPost n t d b lo hi bs).fatality = c.fatality := by simp [Cluster.descPost]
@[simp] theorem Cluster.writeRun_fatality (n t : Nat) (d : Desc) (e it : Nat) (codes : List Nat) :
    (c.writeRun n t d e it codes).fatality = c.fatality := by
  unfold Cluster.writeRun
  (repeat' split) <;> simp [*]
@[simp] theorem Cluster.regionWrite_fatality (n t : Nat) (d : Desc) (k : Nat) (bs : List Byte) :
    (c.regionWrite n t d k bs).fatality = c.fatality := by simp [Cluster.regionWrite]
@[simp] theorem Cluster.vrunTake_fatality (n : Nat) (j : VecJob) (it : Nat) (ins : List (List Nat)) :
    (c.vrunTake n j it ins).1.fatality = c.fatality := by simp [Cluster.vrunTake]
@[simp] theorem Cluster.setVec_fatality (n : Nat) (j : Option VecJob) : (c.setVec n j).fatality = c.fatality :=
  by simp [Cluster.setVec]
@[simp] theorem Cluster.readRuns_fatality (n : Nat) (o : MacroOp) (rs : List (Nat × Nat × Nat)) :
    (c.readRuns n o rs).2.fatality = c.fatality := by simp [Cluster.readRuns]
@[simp] theorem Cluster.bcastTake_fatality (n : Nat) (j : VecJob) (it : Nat) (ins : List (List Nat)) :
    (c.bcastTake n j it ins).fatality = c.fatality := by simp [Cluster.bcastTake]
@[simp] theorem Cluster.postRuns_fatality (n fin : Nat) (out : Desc) (had : Nat) (codes : List Nat) :
    (c.postRuns n fin out had codes).fatality = c.fatality := by simp [Cluster.postRuns]
@[simp] theorem Cluster.redTake_fatality (n : Nat) (j : VecJob) (ins : List (List Nat)) :
    (c.redTake n j ins).1.fatality = c.fatality := by simp [Cluster.redTake]
@[simp] theorem Cluster.listRow_fatality (len : Nat) (idx : List Nat) : (c.listRow len idx).2.fatality = c.fatality :=
  by simp [Cluster.listRow]
@[simp] theorem Cluster.putList_fatality (n : Nat) (o : MacroOp) (t i len : Nat) (idx : List Nat) :
    (c.putList n o t i len idx).fatality = c.fatality := by simp [Cluster.putList]
@[simp] theorem Cluster.route_fatality (n : Nat) (o : MacroOp) (rows : List (List W32)) (t : Nat) :
    (c.route n o rows t).fatality = c.fatality := by simp [Cluster.route]
@[simp] theorem Cluster.select_fatality (n : Nat) (o : MacroOp) (rows : List (List W32)) (t : Nat) :
    (c.select n o rows t).fatality = c.fatality := by simp [Cluster.select]
@[simp] theorem Cluster.topkTake_fatality (n : Nat) (j : VecJob) (it : Nat) (ins : List (List Nat)) :
    (c.topkTake n j it ins).1.fatality = c.fatality := by simp [Cluster.topkTake]
@[simp] theorem Cluster.gathTake_fatality (n : Nat) (j : VecJob) (it : Nat) :
    (c.gathTake n j it).fatality = c.fatality := by simp [Cluster.gathTake]
@[simp] theorem Cluster.scatTake_fatality (n : Nat) (j : VecJob) (it : Nat) :
    (c.scatTake n j it).fatality = c.fatality := by
  unfold Cluster.scatTake
  dsimp only
  (repeat' split) <;> simp [*]
@[simp] theorem Cluster.cvtTake_fatality (n : Nat) (j : VecJob) (it : Nat) (ins : List (List Nat)) :
    (c.cvtTake n j it ins).fatality = c.fatality := by simp [Cluster.cvtTake]
@[simp] theorem Cluster.accumTake_fatality (n : Nat) (j : VecJob) (it : Nat) (ins : List (List Nat)) :
    (c.accumTake n j it ins).1.fatality = c.fatality := by simp [Cluster.accumTake]
@[simp] theorem Cluster.mergeTake_fatality (n : Nat) (j : VecJob) : (c.mergeTake n j).fatality = c.fatality :=
  by simp [Cluster.mergeTake]
@[simp] theorem Cluster.vecTake_fatality (n : Nat) (j : VecJob) (it : Nat) (ins : List (List Nat)) :
    (c.vecTake n j it ins).1.fatality = c.fatality := by
  unfold Cluster.vecTake
  (repeat' split) <;> simp [*]
@[simp] theorem Cluster.vecCycle_fatality (n : Nat) : (c.vecCycle n).fatality = c.fatality := by
  unfold Cluster.vecCycle
  (repeat' split) <;> simp [*]
@[simp] theorem Cluster.accumulate_fatality (a : Nat) (o : MacroOp) (set1 zero sub : Bool) (ws : List (List (Nat × FV))) (xs : Array FV) :
    (c.accumulate a o set1 zero sub ws xs).fatality = c.fatality := by simp [Cluster.accumulate]
@[simp] theorem Cluster.fillAcc_fatality (a : Nat) (f : Fill) : (c.fillAcc a f).fatality = c.fatality := by simp [Cluster.fillAcc]
@[simp] theorem Cluster.freeBits_fatality (k : Nat) : (c.freeBits k).2.fatality = c.fatality := by simp [Cluster.freeBits]
@[simp] theorem Cluster.lineBits_fatality (n : Nat) (f : Fill) (kind i pos k : Nat) :
    (c.lineBits n f kind i pos k).2.fatality = c.fatality := by
  unfold Cluster.lineBits
  (repeat' split) <;> simp [*]
@[simp] theorem Cluster.streamBits_fatality (n : Nat) (f : Fill) (kind p pos k : Nat) :
    (c.streamBits n f kind p pos k).2.fatality = c.fatality := by
  unfold Cluster.streamBits
  dsimp only
  (repeat' split) <;> simp [*]
@[simp] theorem Cluster.scaleBytes_fatality (n : Nat) (f : Fill) (p b : Nat) :
    (c.scaleBytes n f p b).2.fatality = c.fatality := by
  unfold Cluster.scaleBytes
  (repeat' split) <;> simp [*]
@[simp] theorem Cluster.enterWeights_fatality (a : Nat) (f : Fill) (i : Nat) :
    (c.enterWeights a f i).2.2.fatality = c.fatality := by
  unfold Cluster.enterWeights
  dsimp only
  (repeat' split) <;> simp [*]
@[simp] theorem Cluster.enterSlice_fatality (a : Nat) (f : Fill) (i : Nat) :
    (c.enterSlice a f i).2.fatality = c.fatality := by
  unfold Cluster.enterSlice
  (repeat' split) <;> simp [*]
@[simp] theorem Cluster.enterOperand_fatality (a : Nat) (f : Fill) (i : Nat) :
    (c.enterOperand a f i).2.fatality = c.fatality := by
  unfold Cluster.enterOperand
  dsimp only
  (repeat' split) <;> simp [*]
@[simp] theorem Cluster.fillSlice_fatality (a : Nat) (f : Fill) : (c.fillSlice a f).2.fatality = c.fatality := by
  unfold Cluster.fillSlice
  dsimp only
  (repeat' split) <;> simp [*]
@[simp] theorem Cluster.fillCycle_fatality (a : Nat) (f : Fill) : (c.fillCycle a f).fatality = c.fatality := by
  unfold Cluster.fillCycle
  (repeat' split) <;> simp [*]
@[simp] theorem Cluster.feedCycle_fatality (a : Nat) : (c.feedCycle a).fatality = c.fatality := by simp [Cluster.feedCycle]
@[simp] theorem Cluster.arrayCycle_fatality (a : Nat) : (c.arrayCycle a).fatality = c.fatality := by simp [Cluster.arrayCycle]
@[simp] theorem Cluster.fillIssue_fatality (a : Nat) : (c.fillIssue a).fatality = c.fatality := by simp [Cluster.fillIssue]
@[simp] theorem Cluster.putFrame_fatality (bs : List Byte) : (c.putFrame bs).fatality = c.fatality := by simp [Cluster.putFrame]
@[simp] theorem Cluster.sendResp_fatality (bs resp : List Byte) : (c.sendResp bs resp).fatality = c.fatality :=
  by simp [Cluster.sendResp]
@[simp] theorem Cluster.respond_fatality (bs : List Byte) (st : Nat) (payload : List Byte) :
    (c.respond bs st payload).fatality = c.fatality := by simp [Cluster.respond]
@[simp] theorem Cluster.refuseDebug_fatality : c.refuseDebug.fatality = c.fatality := by
  unfold Cluster.refuseDebug
  (repeat' split) <;> simp [*]
@[simp] theorem Cluster.sendEvent_fatality (e : Event) : (c.sendEvent e).fatality = c.fatality := by simp [Cluster.sendEvent]
@[simp] theorem Cluster.landStream_fatality (n t r off lo hi : Nat) (bs : List Byte) :
    (c.landStream n t r off lo hi bs).fatality = c.fatality := by simp [Cluster.landStream]
@[simp] theorem Cluster.landRow_fatality (n t r : Nat) (bs : List Byte) : (c.landRow n t r bs).fatality = c.fatality :=
  by simp [Cluster.landRow]
@[simp] theorem Cluster.deliver_fatality (w : Post) : (c.deliver w).fatality = c.fatality := by
  unfold Cluster.deliver
  (repeat' split) <;> simp [*]
@[simp] theorem Cluster.deliverAll_fatality (skim : Bool) : (c.deliverAll skim).fatality = c.fatality := by simp [Cluster.deliverAll]
@[simp] theorem Cluster.unitReads_fatality : c.unitReads.fatality = c.fatality := by simp [Cluster.unitReads]
@[simp] theorem Cluster.staticCycle_fatality : c.staticCycle.fatality = c.fatality := by simp [Cluster.staticCycle]
@[simp] theorem Cluster.enterUses_fatality : c.enterUses.fatality = c.fatality := by simp [Cluster.enterUses]
@[simp] theorem Cluster.passTk_fatality : c.passTk.fatality = c.fatality := by simp [Cluster.passTk]
@[simp] theorem Cluster.countStretch_fatality : c.countStretch.fatality = c.fatality := by simp [Cluster.countStretch]
@[simp] theorem Cluster.countHeld_fatality : c.countHeld.fatality = c.fatality := by
  unfold Cluster.countHeld
  dsimp only
  (repeat' split) <;> simp [*]
@[simp] theorem Cluster.haltTurn_fatality (was is_ : Bool) (t : Nat) : (c.haltTurn was is_ t).fatality = c.fatality :=
  by simp [Cluster.haltTurn]
@[simp] theorem Cluster.ageHold_fatality : c.ageHold.fatality = c.fatality := by
  unfold Cluster.ageHold
  (repeat' split) <;> simp [*]
@[simp] theorem Cluster.countFull_fatality : c.countFull.fatality = c.fatality := by simp [Cluster.countFull]
@[simp] theorem Cluster.endTorn_fatality : c.endTorn.fatality = c.fatality :=
  Cluster.each_fatality _ _ _ fun d n => by dsimp only; (repeat' split) <;> simp
@[simp] theorem Cluster.passHalt_fatality : c.passHalt.fatality = c.fatality := by simp [Cluster.passHalt]
@[simp] theorem Cluster.passSave_fatality : c.passSave.fatality = c.fatality := by
  unfold Cluster.passSave
  (repeat' split) <;> simp [*]
@[simp] theorem Cluster.passStatic_fatality : c.passStatic.fatality = c.fatality := by simp [Cluster.passStatic]
@[simp] theorem Cluster.portCycle_fatality : c.portCycle.fatality = c.fatality := by simp [Cluster.portCycle]

end

end Sys2Proof.Machine
end

section
/-! F is left only by a power cycle (R424, R425): the units stop there, and what goes on keeps the decision and its
source. -/

namespace Sys2Proof.Machine

variable {c d : Cluster}

theorem Cluster.fatal_of_fatality (h : d.fatality = c.fatality) (hF : c.flt.fatal = true) : d.flt.fatal = true :=
  (congrArg Prod.fst h).trans hF

section
variable (hF : c.flt.fatal = true)
include hF

/-! No unit's guard opens in F (R424). -/
theorem Cluster.live_of_fatal : c.live = false := by simp [Cluster.live, hF]
theorem Cluster.ready_of_fatal : c.ready = false := by simp [Cluster.ready, Cluster.live_of_fatal hF]
theorem Cluster.answers_of_fatal : c.answers = false := by simp [Cluster.answers, Cluster.live_of_fatal hF]
theorem Cluster.runs_of_fatal : c.runs = false := by simp [Cluster.runs, Cluster.ready_of_fatal hF]
theorem Cluster.coresRun_of_fatal : c.coresRun = false := by simp [Cluster.coresRun, Cluster.ready_of_fatal hF]
theorem Cluster.slotOpen_of_fatal (p : Nat) : c.slotOpen p = false := by simp [Cluster.slotOpen, Cluster.live_of_fatal hF]
theorem Cluster.lockstepArmed_of_fatal (n : Nat) : c.lockstepArmed n = false := by
  simp [Cluster.lockstepArmed, Cluster.coresRun_of_fatal hF]
theorem Cluster.starting_of_fatal (q opc : Nat) : c.starting q opc = none := by
  simp [Cluster.starting, Cluster.runs_of_fatal hF]
theorem Cluster.ctlHead_of_fatal (opc : Nat) : c.ctlHead opc = none := by simp [Cluster.ctlHead, Cluster.runs_of_fatal hF]

/-! So neither a core, a walker, an engine, a lane nor a write of the dictionary acts. -/
theorem Cluster.scal_of_fatal (n : Nat) (form : Nat → Bool) (f : Cluster → Core → Nat → Cluster) : c.scal n form f = c := by
  simp [Cluster.scal, Cluster.lockstepArmed_of_fatal hF, Cluster.scalarReady, Cluster.coresRun_of_fatal hF]
theorem Cluster.walkStep_of_fatal (n kind : Nat) (waits : List Nat) (f : Cluster → Nat → Cluster) :
    c.walkStep n kind waits f = c := by
  simp [Cluster.walkStep, Cluster.lockstepArmed_of_fatal hF, Cluster.coresRun_of_fatal hF]
theorem Cluster.onStart_of_fatal (q opc : Nat) (f : Cluster → MacroOp → Cluster) : c.onStart q opc f = c := by
  simp [Cluster.onStart, Cluster.starting_of_fatal hF]
theorem Cluster.flitIn_of_fatal (ty lane : Nat) (f : Flit) (deliver : Cluster → Cluster) : c.flitIn ty lane f deliver = c := by
  simp [Cluster.flitIn, Cluster.live_of_fatal hF]
theorem Cluster.written_of_fatal (i s v : Nat) (f : Cluster → Nat → Cluster) : c.written i s v f = c := by
  simp [Cluster.written, Cluster.answers_of_fatal hF]
theorem Cluster.writtenM_of_fatal (g : Grants) (i s v : Nat) (f : Cluster → Nat → Cluster) : c.writtenM g i s v f = c := by
  simp [Cluster.writtenM, Cluster.answers_of_fatal hF]
theorem Cluster.writtenD_of_fatal (g : Grants) (i s v : Nat) (f : Cluster → Nat → Cluster) : c.writtenD g i s v f = c := by
  simp [Cluster.writtenD, Cluster.answers_of_fatal hF]

/-! The collector decides F once (R424). -/
theorem Cluster.health_fatality (cls src : Nat) : (c.health cls src).fatality = c.fatality := by
  unfold Cluster.health
  split
  · simp [Cluster.fatalEntry, hF]
  · (repeat' split) <;> simp

theorem Cluster.takeFault_fatality (f : FaultIn) : (c.takeFault f).fatality = c.fatality := by
  unfold Cluster.takeFault
  dsimp only
  split
  · simp
  · rw [Cluster.health_fatality (Cluster.fatal_of_fatality (c := c) (by (repeat' split) <;> simp) hF)]
    (repeat' split) <;> simp

theorem Cluster.collect_fatality : c.collect.fatality = c.fatality :=
  foldl_keep (fun d : Cluster => d.fatality = c.fatality) Cluster.takeFault _ rfl
    fun _ f h => (Cluster.takeFault_fatality (Cluster.fatal_of_fatality h hF) f).trans h

/-! The moss agent refuses every write and every debug access (R461). -/
theorem Cluster.status_write_of_fatal (g : Grants) (i s : Nat) (payload : List Byte) : c.status g true i s payload ≠ 0 := by
  unfold Cluster.status
  split <;> simp [hF]

theorem Cluster.status_debug_of_fatal (g : Grants) {i s : Nat} (payload : List Byte) (h : isDbgData i s = true) :
    c.status g false i s payload ≠ 0 := by
  obtain ⟨rfl, -⟩ : i = 0x3000 ∧ s = 2 := by simpa [isDbgData] using h
  unfold Cluster.status
  split <;> simp [hF, readInF]

theorem Cluster.serveRead_fatality (bs : List Byte) : (c.serveRead bs).fatality = c.fatality := by
  have hserved : c.served.flt.fatal = true := Cluster.fatal_of_fatality (by simp [Cluster.served]) hF
  unfold Cluster.serveRead
  dsimp only
  split
  · simp [Cluster.served]
  · next hst =>
    split
    · next hdbg => exact absurd (not_not.mp hst) (Cluster.status_debug_of_fatal hserved _ _ hdbg)
    · split <;> simp [Cluster.served]

theorem Cluster.serveWrite_fatality (bs : List Byte) : (c.serveWrite bs).fatality = c.fatality := by
  have hserved : c.served.flt.fatal = true := Cluster.fatal_of_fatality (by simp [Cluster.served]) hF
  unfold Cluster.serveWrite
  split
  · simp [Cluster.served]
  · dsimp only
    rw [if_pos (Cluster.status_write_of_fatal hserved _ _ _ _), if_pos (Cluster.status_write_of_fatal hserved _ _ _ _)]
    simp [Cluster.served]

theorem Cluster.serveNext_fatality : c.serveNext.fatality = c.fatality := by
  unfold Cluster.serveNext
  dsimp only
  split
  · rfl
  · next bs rest _ =>
    have htaken : ({ c with moss := { c.moss with queue := rest } } : Cluster).flt.fatal = true := hF
    split
    · rfl
    · split
      · exact Cluster.serveRead_fatality htaken bs
      · exact Cluster.serveWrite_fatality htaken bs

theorem Cluster.mossCycle_fatality : c.mossCycle.fatality = c.fatality := by
  unfold Cluster.mossCycle
  rw [if_pos hF]
  split
  · rfl
  · rw [Cluster.serveNext_fatality (Cluster.fatal_of_fatality c.refuseDebug_fatality hF), Cluster.refuseDebug_fatality]

/-! A cycle of the clocks (R30, R434). -/
theorem Cluster.passCkm_fatality : c.passCkm.fatality = c.fatality := by
  have hcollect := Cluster.collect_fatality hF
  have hmoss := Cluster.mossCycle_fatality
    (c := { c.collect with clk := { c.collect.clk with thOff := sextN 32 (c.collect.dictAt 0x2000 5) } })
    (Cluster.fatal_of_fatality hcollect hF)
  exact hmoss.trans hcollect

theorem Cluster.passClocks_fatality : c.passClocks.fatality = c.fatality := by
  unfold Cluster.passClocks
  dsimp only
  split
  · rw [Cluster.passCkm_fatality (Cluster.fatal_of_fatality (c := c) (by split <;> simp) hF)]
    split <;> simp
  · split <;> simp

theorem Cluster.stallStops_of_fatal : c.stallStops = c := by
  have hnone : (fun (d : Cluster) n => if d.lockstepArmed n then d.lockstepStop n else d) c = fun _ => c := by
    funext n
    simp [Cluster.lockstepArmed_of_fatal hF]
  unfold Cluster.stallStops
  split
  · exact foldl_keep (· = c) _ _ rfl fun d n h => by rw [h]; exact congrFun hnone n
  · rfl

theorem Cluster.endIdle_of_fatal : c.endIdle = c := by
  unfold Cluster.endIdle
  split <;> simp [Cluster.runs_of_fatal hF]

theorem Cluster.newCycle_fatality : c.newCycle.fatality = c.fatality := by
  have hbegun : c.resumeGo.beginCheck.fatality = c.fatality := by simp
  rw [Cluster.newCycle, Cluster.endIdle_of_fatal (Cluster.fatal_of_fatality hbegun hF), hbegun]

theorem Cluster.passCycle_fatality : c.passCycle.fatality = c.fatality := by
  have hstatic : c.endSlots.countStretch.countFull.passSave.passStatic.passHalt.fatality = c.fatality := by simp
  have hclocks := (Cluster.passClocks_fatality (Cluster.fatal_of_fatality hstatic hF)).trans hstatic
  have hports := (Cluster.endTorn_fatality _).trans ((Cluster.portCycle_fatality _).trans hclocks)
  have hfatal := Cluster.fatal_of_fatality hports hF
  rw [Cluster.passCycle, Cluster.stallStops_of_fatal hfatal, Cluster.newCycle_fatality hfatal, hports]

theorem Cluster.tick_fatality : c.tick.fatality = c.fatality := by
  unfold Cluster.tick
  (repeat' split)
  · rfl
  · exact Cluster.passCycle_fatality hF
  · exact Cluster.passCkm_fatality (c := { c with clk := { c.clk with ckm := c.clk.ckm + 1 } }) hF

end


/-- In F a command other than power-good and its loss keeps the decision and its source. -/
theorem exec_of_fatal (i : Instr) (s : State) (hF : s.cl.flt.fatal = true) (hgood : i ≠ .powerGood) (hloss : i ≠ .powerLoss) :
    ∃ d, exec i s = done s d ∧ d.fatality = s.cl.fatality := by
  cases i
  case powerGood => exact absurd rfl hgood
  case powerLoss => exact absurd rfl hloss
  case readFrame bs g | writeFrame bs g =>
    have hsample := Cluster.fatal_of_fatality (s.cl.sample_fatality g) hF
    refine ⟨_, rfl, ?_⟩
    simp only [readFrameC, writeFrameC, Cluster.takeRequest, Cluster.takeFrame]
    (repeat' split) <;> simp [Cluster.serveRead_fatality hsample, Cluster.serveWrite_fatality hsample]
  case clockMonitorWindow | pllLossOfLock | railFault | thermalTrip | collectorParityError | frameForward | evack | eventSend |
    eventResend | debugGrantWithdraw =>
    refine ⟨_, rfl, ?_⟩
    simp only [
      clockMonitorWindowC, pllLossOfLockC, railFaultC, thermalTripC, collectorParityErrorC, frameForwardC, evackC,
      eventSendC, eventResendC, debugGrantWithdrawC, Cluster.takeFrame, Cluster.sendEvent]
    (repeat' split) <;> simp
  case stageComplete find =>
    refine ⟨_, rfl, ?_⟩
    simp only [stageCompleteC, hF, if_true]
    (repeat' split) <;> simp
  case dictWrite | dispatchSubmit | dispatchCancel | teardownRequest | rearm | snapshot | ringReset | sorusReset | parkAbort |
    windowCommit | budgetWrite | throttleFloorWrite | scrubIntervalWrite | bankFenceMaskWrite | coreFenceMaskWrite |
    badColumnMapWrite | acknowledge | clearFirst | forceFault | forceDisarm | haltRequest | haltRelease | dbgdataRead |
    dbgdataWrite | retire | stepHalted =>
    exact ⟨_, rfl, by simp [
      dictWriteC, dispatchSubmitC, dispatchCancelC, teardownRequestC, rearmC, snapshotC, ringResetC, sorusResetC,
      parkAbortC, windowCommitC, budgetWriteC, throttleFloorWriteC, scrubIntervalWriteC, bankFenceMaskWriteC,
      coreFenceMaskWriteC, badColumnMapWriteC, acknowledgeC, clearFirstC, forceFaultC, forceDisarmC, haltRequestC,
      haltReleaseC, dbgdataReadC, dbgdataWriteC, retireC, stepHaltedC, Cluster.written_of_fatal hF,
      Cluster.writtenM_of_fatal hF, Cluster.writtenD_of_fatal hF, Cluster.answers_of_fatal hF]⟩
  case add | sub | andR | orR | xorR | shl | shr | shra | mul | mulhu | mulhs | minS | maxS | minU | maxU | addi | andi | ori |
    xori | shli | shri | shrai | movk | cmp | cmpi | plog | br | jal | jr | ld64 | ld32u | st64 | st32 | hld | hst | rrd |
    rwr | wstep | wstat | wdrain | sywaitFull | sywaitTake | sywaitGe | sywaitEmpty | sywaitPoll | sysigSet | sysigAdd |
    sysigOr | sysigClear | sysigFence | spsendWait | spsendPosted | spsendFence | sprecvPoll | sprecvWait | sprecvDiscard |
    sprecvOcc | tbrd | lccrd | tbwait | lccwait | setctx | halt | nop =>
    exact ⟨_, rfl, by simp [
      addC, subC, andRC, orRC, xorRC, shlC, shrC, shraC, mulC, mulhuC, mulhsC, minSC, maxSC, minUC, maxUC, addiC, andiC,
      oriC, xoriC, shliC, shriC, shraiC, movkC, cmpC, cmpiC, plogC, brC, jalC, jrC, ld64C, ld32uC, st64C, st32C, hldC, hstC,
      rrdC, rwrC, wstepC, wstatC, wdrainC, sywaitFullC, sywaitTakeC, sywaitGeC, sywaitEmptyC, sywaitPollC, sysigSetC,
      sysigAddC, sysigOrC, sysigClearC, sysigFenceC, spsendWaitC, spsendPostedC, spsendFenceC, sprecvPollC, sprecvWaitC,
      sprecvDiscardC, sprecvOccC, tbrdC, lccrdC, tbwaitC, lccwaitC, setctxC, haltC, nopC, Cluster.aluRR, Cluster.alu,
      Cluster.shiftRR, Cluster.aluImm, Cluster.shiftImm, Cluster.compare, Cluster.load, Cluster.store_, Cluster.service,
      Cluster.sprecv, Cluster.scal_of_fatal hF]⟩
  case issue | walkerQfullResume | loop | endl | waitk | waitkRelease | sel | selResume | jmp | syncRec | endWalk =>
    exact ⟨_, rfl, by simp [
      issueC, walkerQfullResumeC, loopC, endlC, waitkC, waitkReleaseC, selC, selResumeC, jmpC, syncRecC, endWalkC,
      Cluster.walkStep_of_fatal hF]⟩
  case mma | mmas | mmag | mmac | mdrain | mpre | mnul | tcfg | tld | tst | tmov | trel | tzero | vrun | vbcast | vred |
    vtopk | vgath | vscat | vcvt | vstat | dmget | dmput | dmarr =>
    exact ⟨_, rfl, by simp [
      mmaC, mmasC, mmagC, mmacC, mdrainC, mpreC, mnulC, tcfgC, tldC, tstC, tmovC, trelC, tzeroC, vrunC, vbcastC, vredC,
      vtopkC, vgathC, vscatC, vcvtC, vstatC, dmgetC, dmputC, dmarrC, mmaOp, Cluster.onVec, Cluster.startXfer,
      Cluster.onStart_of_fatal hF, Cluster.starting_of_fatal hF]⟩
  case segbr | ppmark | screed =>
    exact ⟨_, rfl, by simp [
      segbrC, ppmarkC, screedC, Cluster.ctlHead_of_fatal hF]⟩
  case linkFlit | rdReq | wrReq | rdData | wrAck | errReply | sporeFlit | spReply | syncFlit | sorusFlit =>
    exact ⟨_, rfl, by simp [
      linkFlitC, rdReqC, wrReqC, rdDataC, wrAckC, errReplyC, sporeFlitC, spReplyC, syncFlitC, sorusFlitC,
      Cluster.flitIn_of_fatal hF]⟩
  case pllLock | pllLockTimeout | droopCalibrationDone | calibrationTimeout | crossingAlign | crossingAlignTimeout |
    tbLoadTimeout | alignmentPulse | alignmentPulseMissing | droopRequest | stretchDecay | stretchTimeout |
    throttleRequest | throttlePeriod | telemetryUpdate | aliveToggle | holdBegin | holdEnd | crossingRecentre | opEnd |
    drain | launch | dispatch | tbwaitRelease | lccwaitRelease | scrubRequest | scrub | boundaryAccess | dmvBlockSend |
    resendTimeout | sporePlacement | sorusAdd | syncApply | quietExpiry | openIntake | commit | abandon |
    acceptanceVerdict | acceptTimeout | admission | readAheadOfStart | fintbRecord =>
    exact ⟨_, rfl, by simp [
      pllLockC, pllLockTimeoutC, droopCalibrationDoneC, calibrationTimeoutC, crossingAlignC, crossingAlignTimeoutC,
      tbLoadTimeoutC, alignmentPulseC, alignmentPulseMissingC, droopRequestC, stretchDecayC, stretchTimeoutC,
      throttleRequestC, throttlePeriodC, telemetryUpdateC, aliveToggleC, holdBeginC, holdEndC, crossingRecentreC, opEndC,
      drainC, launchC, dispatchC, tbwaitReleaseC, lccwaitReleaseC, scrubRequestC, scrubC, boundaryAccessC, dmvBlockSendC,
      resendTimeoutC, sporePlacementC, sorusAddC, syncApplyC, quietExpiryC, openIntakeC, commitC, abandonC,
      acceptanceVerdictC, acceptTimeoutC, admissionC, readAheadC, fintbRecordC, Cluster.decayDue, Cluster.holdDue,
      Cluster.holdClear, Cluster.endDue, Cluster.drainDue, Cluster.launchDue, Cluster.dispatchDue, Cluster.aheadDue,
      Cluster.finDue, Cluster.scrubReqDue, Cluster.awaitsVerdict, Cluster.release, Cluster.live_of_fatal hF,
      Cluster.ready_of_fatal hF, Cluster.runs_of_fatal hF, Cluster.coresRun_of_fatal hF, Cluster.slotOpen_of_fatal hF]⟩
  case stopRequest | fenceThresholdWrite | holdTimeout | dmTimeout | waitTimeout | signalSend | signalResend | signalTimeout |
    ringTimeout | replyTimeout | sorusResultPlace | sorusResultTimeout | repairWrite | saveComplete | retirement |
    recvTimeout =>
    refine ⟨_, rfl, ?_⟩
    simp only [
      stopRequestC, fenceThresholdWriteC, holdTimeoutC, dmTimeoutC, waitTimeoutC, signalSendC, signalResendC,
      signalTimeoutC, ringTimeoutC, replyTimeoutC, sorusResultPlaceC, sorusResultTimeoutC, repairWriteC, saveCompleteC,
      retirementC, recvTimeoutC]
    (repeat' split) <;> simp_all [
      Cluster.mayRetire, Cluster.saveDone, Cluster.live_of_fatal hF, Cluster.ready_of_fatal hF, Cluster.answers_of_fatal hF,
      Cluster.coresRun_of_fatal hF, Cluster.slotOpen_of_fatal hF, Cluster.written_of_fatal hF]

/-- In F a step keeps the decision and its source, unless it is power-good or its loss. -/
theorem step_of_fatal {s t : State} (hF : s.cl.flt.fatal = true) (hgood : s.pending.head? ≠ some .powerGood)
    (hloss : s.pending.head? ≠ some .powerLoss) (h : step s = .next t) : t.cl.fatality = s.cl.fatality := by
  obtain ⟨queue, c⟩ := s
  cases queue with
  | nil =>
    obtain rfl := done_next (s := ⟨[], c⟩) (d := c.tick) h
    exact Cluster.tick_fatality hF
  | cons i rest =>
    obtain ⟨d, hexec, hkept⟩ := exec_of_fatal i ⟨rest, c⟩ hF (fun hi => hgood (congrArg some hi)) (fun hi => hloss (congrArg some hi))
    obtain rfl := done_next (hexec.symm.trans h)
    exact hkept

/-- The loss of power-good followed by power-good leaves the cluster at power-good (R443). -/
theorem run_powerCycle (rest : List Instr) {c : Cluster} (h : c.powered = true) :
    core.run 2 ⟨.powerLoss :: .powerGood :: rest, c⟩ = .next (⟨rest, Cluster.atPowerGood c.straps c.stepping⟩ : State) := by
  have hloss : powerLossC c = { Cluster.atPowerGood c.straps c.stepping with powered := false } := if_pos h
  have hfirst : step ⟨.powerLoss :: .powerGood :: rest, c⟩ = .next ⟨.powerGood :: rest, powerLossC c⟩ := rfl
  rw [hloss] at hfirst
  exact (run_of_step hfirst 1).trans (run_of_step rfl 0)

end Sys2Proof.Machine

open Sys2Proof Sys2Proof.Machine

/-- Settles O57: in F every command and the passing cycle keep the decision, and power-good starts from nothing. -/
theorem fatalLasts : Obligations.FatalLasts := by
  unfold Obligations.FatalLasts
  refine ⟨fun s t hF hgood hloss hstep => ?_, fun rest c hpowered => ⟨?_, run_powerCycle rest hpowered⟩⟩
  · have hkept := step_of_fatal hF hgood hloss hstep
    exact ⟨(congrArg Prod.fst hkept).trans hF, congrArg Prod.snd hkept⟩
  · have hgood : powerGoodC c = c := if_pos hpowered
    exact congrArg (done ⟨rest, c⟩) hgood

end

section
/-! SYSIG and SYWAIT: where the core's signal or wait goes, by its target and the translation of its VID (R352 to R364). -/

namespace Sys2Proof.Machine

/-- A field read as a word of its own length. -/
theorem ofNat_fld {w hi lo len : Nat} (x : BitVec w) (h : hi + 1 = lo + len) : BitVec.ofNat len (fld x hi lo) = x.extractLsb' lo len := by
  obtain rfl : len = hi + 1 - lo := by omega
  rw [fld_eq_extract, BitVec.ofNat_toNat, BitVec.setWidth_eq]

theorem testBit_top_of_lt {n : Nat} (h : n < 2 ^ 31) : n.testBit 31 = false := Nat.testBit_lt_two_pow h

theorem testBit_top_of_le {n : Nat} (h : 2 ^ 31 ≤ n) (hn : n < 2 ^ 32) : n.testBit 31 = true := by
  have hdiv : n / 2 ^ 31 = 1 := by omega
  rw [Nat.testBit_eq_decide_div_mod_eq, hdiv]
  rfl

/-- The signal that a core puts into a slot (R361). -/
def newSignal (target kind : Nat) (operand : W32) (ctx ord : Nat) : SigSlot :=
  { dcl := target / 2 ^ 24 % 64, dctx := target / 2 ^ 16 % 64, vid := target % 2 ^ 16, kind := kind, operand := operand,
    ctx := ctx, sent := false, due := 0, busy := none, seq := ord }

section
variable {c : Cluster} {n target kind ctx : Nat} {operand : W32}

theorem Cluster.takeSigSlot_of_free {k : Nat} (hk : k < 8) (hfree : vat (c.core n).sig k none = none)
    (hlow : ∀ j < k, vat (c.core n).sig j none ≠ none) :
    c.takeSigSlot n target kind operand ctx = some { c.setCore n { c.core n with
      sig := vset (c.core n).sig k (some (newSignal target kind operand ctx c.nextOrd)) } with nextOrd := c.nextOrd + 1 } := by
  rw [Cluster.takeSigSlot, findIdxN_isNone_eq_some hk hfree hlow]
  rfl

theorem Cluster.takeSigSlot_of_full (hfull : ∀ k < 8, vat (c.core n).sig k none ≠ none) :
    c.takeSigSlot n target kind operand ctx = none := by
  rw [Cluster.takeSigSlot, findIdxN_isNone_eq_none hfull]

end

/-! SYSIG, by its form and what it finds. -/

/-- The target and the operand that a SYSIG word names (R354, R355). -/
def Core.sigTarget (x : Core) (w : Nat) : Nat := (x.s (sRa w)).toNat % 2 ^ 32
def Core.sigOperand (x : Core) (w : Nat) : W32 := (x.s (sRb w)).extractLsb' 0 32

theorem Core.sigTarget_lt (x : Core) (w : Nat) : x.sigTarget w < 2 ^ 32 := Nat.mod_lt _ (by decide)

section
variable {c : Cluster} {n : CoreId} {w kind : Nat}

theorem Cluster.sysig_cross_of_free (hcross : 2 ^ 31 ≤ (c.core n.val).sigTarget w) {k : Nat} (hk : k < 8)
    (hfree : vat (c.core n.val).sig k none = none) (hlow : ∀ j < k, vat (c.core n.val).sig j none ≠ none) :
    let x := c.core n.val
    let g := newSignal (x.sigTarget w) kind (x.sigOperand w) x.cur c.nextOrd
    c.sysig n.val x w kind = { c.setCore n.val (({ x with sig := vset x.sig k (some g) } : Core).setS (sRs w) 0).adv with
      nextOrd := c.nextOrd + 1 } := by
  intro x g
  have hbit : (fld (x.s (sRa w)) 31 0).testBit 31 = true := testBit_top_of_le hcross (x.sigTarget_lt w)
  let d : Cluster := { c.setCore n.val { x with sig := vset x.sig k (some g) } with nextOrd := c.nextOrd + 1 }
  have hslot : c.takeSigSlot n.val (fld (x.s (sRa w)) 31 0) kind (BitVec.ofNat 32 (fld (x.s (sRb w)) 31 0)) x.cur = some d := by
    rw [ofNat_fld _ (by decide)]
    exact Cluster.takeSigSlot_of_free hk hfree hlow
  have hcore : d.core n.val = { x with sig := vset x.sig k (some g) } := Cluster.core_setCore _ _ _ n.isLt
  simp only [Cluster.sysig, hbit, if_true, hslot, hcore]
  exact congrArg (fun e : Cluster => { e with nextOrd := c.nextOrd + 1 }) (Cluster.setCore_setCore _ _ _ _)

theorem Cluster.sysig_cross_of_full (hcross : 2 ^ 31 ≤ (c.core n.val).sigTarget w) (hfull : ∀ k < 8, vat (c.core n.val).sig k none ≠ none) :
    c.sysig n.val (c.core n.val) w kind = c.setCore n.val { c.core n.val with stall := .slotWait 3 } := by
  have hbit : (fld ((c.core n.val).s (sRa w)) 31 0).testBit 31 = true := testBit_top_of_le hcross (Core.sigTarget_lt _ w)
  simp only [Cluster.sysig, hbit, if_true, Cluster.takeSigSlot_of_full hfull]

theorem Cluster.sysig_own (hown : (c.core n.val).sigTarget w < 2 ^ 31)
    (htab : c.tabSound (c.vidKeys (c.core n.val).cur ((c.core n.val).sigTarget w % 2 ^ 16))) :
    let x := c.core n.val
    c.sysig n.val x w kind = match c.translateVid x.cur (x.sigTarget w % 2 ^ 16) with
      | none => (c.setCore n.val (x.setS (sRs w) 9).adv).raise 0x1E n.val x.cur
      | some e => (c.setCore n.val (x.setS (sRs w) 0).adv).syncPost (e.extractLsb' 0 17).toNat x.cur (1 + n.val)
          (.signal kind (x.sigOperand w) x.cur c.straps.toNat n.val) none := by
  intro x
  have hbit : (fld (x.s (sRa w)) 31 0).testBit 31 = false := testBit_top_of_lt hown
  have hvid : c.vid x.cur (fld (x.s (sRa w)) 31 0 % 65536) = (c, c.translateVid x.cur (x.sigTarget w % 2 ^ 16)) :=
    Cluster.vid_sound htab
  simp only [Cluster.sysig, hbit, Bool.false_eq_true, if_false, hvid, ofNat_fld _ (show 31 + 1 = 0 + 32 from rfl)]
  cases c.translateVid x.cur (x.sigTarget w % 2 ^ 16) <;> rfl

theorem Cluster.sysig_own_of_untranslated (hown : (c.core n.val).sigTarget w < 2 ^ 31)
    (htab : c.tabSound (c.vidKeys (c.core n.val).cur ((c.core n.val).sigTarget w % 2 ^ 16)))
    (hnone : c.translateVid (c.core n.val).cur ((c.core n.val).sigTarget w % 2 ^ 16) = none) :
    let x := c.core n.val
    c.sysig n.val x w kind = (c.setCore n.val (x.setS (sRs w) 9).adv).raise 0x1E n.val x.cur := by
  exact (Cluster.sysig_own hown htab).trans (by rw [hnone])

theorem Cluster.sysig_own_of_translated {e : W32} (hown : (c.core n.val).sigTarget w < 2 ^ 31)
    (htab : c.tabSound (c.vidKeys (c.core n.val).cur ((c.core n.val).sigTarget w % 2 ^ 16)))
    (hsome : c.translateVid (c.core n.val).cur ((c.core n.val).sigTarget w % 2 ^ 16) = some e) :
    let x := c.core n.val
    c.sysig n.val x w kind = (c.setCore n.val (x.setS (sRs w) 0).adv).syncPost (e.extractLsb' 0 17).toNat x.cur (1 + n.val)
      (.signal kind (x.sigOperand w) x.cur c.straps.toNat n.val) none := by
  exact (Cluster.sysig_own hown htab).trans (by rw [hsome])

end

theorem exec_sysig_of_mem {n : CoreId} {s : State} {p : Instr × Nat}
    (hp : p ∈ [(Instr.sysigSet n, 0), (Instr.sysigAdd n, 1), (Instr.sysigOr n, 2), (Instr.sysigClear n, 3)])
    (h : s.cl.serves n (isSvc 0x24 1 p.2)) :
    exec p.1 s = done s (s.cl.sysig n.val (s.cl.core n.val) (s.cl.word n.val) p.2) := by
  simp only [List.mem_cons, List.not_mem_nil, or_false] at hp
  rcases hp with rfl | rfl | rfl | rfl <;> exact congrArg (done s) (Cluster.service_serves h)

/-! The signal fence (R364). -/

/-- Is a signal of a core in flight? -/
def Core.owesSignal (x : Core) : Bool := x.sig.toList.any (fun g => g.isSome)

theorem Core.owesSignal_iff (x : Core) : x.owesSignal = true ↔ ∃ k < 8, vat x.sig k none ≠ none := by
  simp only [Core.owesSignal, List.any_eq_true, List.mem_iff_getElem, Option.isSome_iff_ne_none]
  constructor
  · rintro ⟨g, ⟨k, hk, rfl⟩, hsome⟩
    have hk : k < 8 := by simpa using hk
    exact ⟨k, hk, mt (vat_eq_none_iff _ hk).mp hsome⟩
  · rintro ⟨k, hk, hsome⟩
    exact ⟨_, ⟨k, by simpa using hk, rfl⟩, mt (vat_eq_none_iff _ hk).mpr hsome⟩

theorem Cluster.sigFenceCheck_of_fence {c : Cluster} {n rs : Nat} (h : (c.core n).stall = .sigFence rs) :
    c.sigFenceCheck n = if (c.core n).owesSignal then c
      else c.setCore n { ((c.core n).setS rs (if (c.core n).sigFail then 11 else 0)).adv with sigFail := false } := by
  simp only [Cluster.sigFenceCheck, h]
  rfl

theorem exec_sysigFence {n : CoreId} {s : State} (h : s.cl.serves n (isSvc 0x24 1 4)) :
    let x := s.cl.core n.val
    let w := s.cl.word n.val
    exec (.sysigFence n) s = done s (if x.owesSignal then s.cl.setCore n.val { x with stall := .sigFence (sRs w) }
      else s.cl.setCore n.val { (x.setS (sRs w) (if x.sigFail then 11 else 0)).adv with sigFail := false }) := by
  intro x w
  have hcore : (s.cl.setCore n.val { x with stall := .sigFence (sRs w) }).core n.val = { x with stall := .sigFence (sRs w) } :=
    Cluster.core_setCore _ _ _ n.isLt
  refine congrArg (done s) ((Cluster.service_serves h).trans ?_)
  rw [Cluster.sigFenceCheck_of_fence (by rw [hcore]), hcore, Cluster.setCore_setCore]
  rfl

end Sys2Proof.Machine

open Sys2Proof Sys2Proof.Machine

/-- Settles O11: the form and the translation of the target decide a signal, and what is in flight decides a fence. -/
theorem syncSignals : Obligations.SyncSignals := by
  unfold Obligations.SyncSignals
  intro n s c x w target operand
  refine ⟨fun p hp hserves => ⟨fun hown htab => ⟨fun hnone => ?untranslated, fun e hsome => ?own⟩,
    fun hcross => ⟨fun k hk hfree hlow => ?slot, fun hfull => ⟨?full, fun hcur hpc => ?code⟩⟩⟩,
    fun hserves => ⟨fun hclear => ?clear, fun k hk howing => ?owing⟩⟩
  case untranslated =>
    exact (exec_sysig_of_mem hp hserves).trans (congrArg (done s) (Cluster.sysig_own_of_untranslated hown htab hnone))
  case own =>
    exact (exec_sysig_of_mem hp hserves).trans (congrArg (done s) (Cluster.sysig_own_of_translated hown htab hsome))
  case slot =>
    exact (exec_sysig_of_mem hp hserves).trans (congrArg (done s) (Cluster.sysig_cross_of_free hcross hk hfree hlow))
  case full => exact (exec_sysig_of_mem hp hserves).trans (congrArg (done s) (Cluster.sysig_cross_of_full hcross hfull))
  case code =>
    obtain ⟨⟨-, hready, -⟩, -, -⟩ := hserves
    have hcore : (c.setCore n.val { x with stall := .slotWait 3 }).core n.val = { x with stall := .slotWait 3 } :=
      Cluster.core_setCore _ _ _ n.isLt
    rw [Cluster.coreState_wait _ _ (by rw [hcore]; exact hcur) (by rw [hcore]; exact hpc),
      Cluster.waitCode_of_slotWait hready (by decide)]
  case clear =>
    have hclear : ¬ x.owesSignal = true := by
      rw [Core.owesSignal_iff]
      rintro ⟨k, hk, hsome⟩
      exact hsome (hclear k hk)
    exact (exec_sysigFence hserves).trans (congrArg (done s) (if_neg hclear))
  case owing =>
    exact (exec_sysigFence hserves).trans (congrArg (done s) (if_pos ((Core.owesSignal_iff _).mpr ⟨k, hk, howing⟩)))

end

section
/-! SYWAIT at the core, and what an operation makes of its word and of the word's waiters when it has been read
(R351 to R359). -/

namespace Sys2Proof.Machine

/-! SYWAIT, by its word and the translation of its VID. -/

section
variable {n : CoreId} {s : State}

/-- The VID, operand and timeout that a SYWAIT word names (R356, R358, R359). -/
def Core.waitVid (x : Core) (w : Nat) : Nat := (x.s (sRa w)).toNat % 2 ^ 16
def Core.waitOperand (x : Core) (w : Nat) : W32 := (x.s (sRa w)).extractLsb' 32 32
def Core.waitTimeout (x : Core) (w : Nat) : Nat := (x.s (sRb w)).toNat % 2 ^ 32

/-- The waiter that a SYWAIT of a kind leaves on the word of a store entry (R356). -/
def Cluster.newWaiter (c : Cluster) (n kind : Nat) (e : W32) : Waiter :=
  let x := c.core n
  let w := c.word n
  { live := false, id := c.nextOrd, word := (e.extractLsb' 0 17).toNat, vid := x.waitVid w, kind := kind,
    operand := x.waitOperand w, ctx := x.cur, engine := false, deadline := 0, rd := sRd w, rs := sRs w }

/-- The wait as the synchronisation unit gets it (R352, R356). -/
def Cluster.askWait (c : Cluster) (n kind : Nat) (e : W32) : Cluster :=
  let wt := c.newWaiter n kind e
  ({ c with waiters := vset c.waiters n (some wt) } : Cluster).syncPost wt.word wt.ctx (1 + n)
    (.wait n ((c.core n).waitTimeout (c.word n))) none

theorem Cluster.sywait_eq {c : Cluster} {n : Nat} {poll : Bool}
    (hpoll : ((c.core n).waitTimeout (c.word n) == 0) = poll)
    (htab : c.tabSound (c.vidKeys (c.core n).cur ((c.core n).waitVid (c.word n)))) :
    c.sywait n (c.core n) (c.word n) poll = match c.translateVid (c.core n).cur ((c.core n).waitVid (c.word n)) with
      | none => (c.setCore n ((c.core n).setS (sRs (c.word n)) 9).adv).raise 0x1E n (c.core n).cur
      | some e => c.askWait n (sMode (c.word n)) e := by
  have hvid : c.vid (c.core n).cur (fld ((c.core n).s (sRa (c.word n))) 15 0)
      = (c, c.translateVid (c.core n).cur ((c.core n).waitVid (c.word n))) := Cluster.vid_sound htab
  have hform : ((fld ((c.core n).s (sRb (c.word n))) 31 0 == 0) != poll) = false := by
    rw [bne_eq_false_iff_eq]
    exact hpoll
  simp only [Cluster.sywait, hform, Bool.false_eq_true, if_false, hvid, ofNat_fld _ (show 63 + 1 = 32 + 32 from rfl)]
  cases c.translateVid (c.core n).cur ((c.core n).waitVid (c.word n)) <;> rfl

/-- A SYWAIT whose instruction answers with `sywait`, by the translation of its VID. -/
theorem exec_sywait {i : Instr} {poll : Bool} (hpoll : ((s.cl.core n.val).waitTimeout (s.cl.word n.val) == 0) = poll)
    (htab : s.cl.tabSound (s.cl.vidKeys (s.cl.core n.val).cur ((s.cl.core n.val).waitVid (s.cl.word n.val))))
    (hexec : exec i s = done s (s.cl.sywait n.val (s.cl.core n.val) (s.cl.word n.val) poll)) :
    let x := s.cl.core n.val
    let w := s.cl.word n.val
    (s.cl.translateVid x.cur (x.waitVid w) = none →
      exec i s = done s ((s.cl.setCore n.val (x.setS (sRs w) 9).adv).raise 0x1E n.val x.cur))
    ∧ (∀ e, s.cl.translateVid x.cur (x.waitVid w) = some e → exec i s = done s (s.cl.askWait n.val (sMode w) e)) := by
  rw [Cluster.sywait_eq hpoll htab] at hexec
  exact ⟨fun hnone => hexec.trans (by rw [hnone]), fun e hsome => hexec.trans (by rw [hsome])⟩

theorem isSvc_iff {m sub mode w : Nat} : isSvc m sub mode w = true ↔ isSub m sub w = true ∧ sMode w = mode := by
  simp [isSvc, isSub]

theorem Cluster.serves.form_word {c : Cluster} {form : Nat → Bool} (h : c.serves n form) : form (c.word n.val) = true := by
  obtain ⟨⟨-, -, -, hform, -⟩, -, -⟩ := h
  exact hform

theorem Cluster.serves.congr_form {c : Cluster} {form form' : Nat → Bool} (h : c.serves n form) (h' : form' (c.word n.val) = true) :
    c.serves n form' := by
  obtain ⟨⟨harmed, hready, hcode, -, himem⟩, hbound, htorn⟩ := h
  exact ⟨⟨harmed, hready, hcode, h', himem⟩, hbound, htorn⟩

theorem exec_sywait_of_mem {p : Instr × Nat}
    (hp : p ∈ [(Instr.sywaitFull n, 0), (Instr.sywaitTake n, 1), (Instr.sywaitGe n, 2), (Instr.sywaitEmpty n, 3)])
    (h : s.cl.serves n (isSvc 0x24 0 p.2)) :
    exec p.1 s = done s (s.cl.sywait n.val (s.cl.core n.val) (s.cl.word n.val) false) := by
  simp only [List.mem_cons, List.not_mem_nil, or_false] at hp
  rcases hp with rfl | rfl | rfl | rfl <;> exact congrArg (done s) (Cluster.service_serves h)

theorem exec_sywaitPoll {kind : Fin 4} (h : s.cl.serves n (isSvc 0x24 0 kind.val)) :
    exec (.sywaitPoll n) s = done s (s.cl.sywait n.val (s.cl.core n.val) (s.cl.word n.val) true) := by
  obtain ⟨hsub, hmode⟩ := isSvc_iff.mp h.form_word
  have hpoll : (isSub 0x24 0 (s.cl.word n.val) && decide (sMode (s.cl.word n.val) < 4)) = true := by
    rw [hsub, hmode]
    simp
  exact congrArg (done s) (Cluster.service_serves (h.congr_form hpoll))

end

/-! The waiters of a word (R357). -/

/-- No registered waiter of word w would be released with the word at x. -/
def Cluster.releasesNone (c : Cluster) (w : Nat) (x : W64) : Prop :=
  ∀ m < 8, ∀ wt, vat c.waiters m none = some wt → wt.live = true → wt.word = w → waitHolds wt.kind wt.operand x = false

theorem Cluster.releasesNone_of_absent {c : Cluster} {w : Nat}
    (h : ∀ m < 8, ∀ wt, vat c.waiters m none = some wt → wt.live = true → wt.word ≠ w) (x : W64) : c.releasesNone w x :=
  fun m hm wt hwt hlive hword => absurd hword (h m hm wt hwt hlive)

theorem Cluster.tryWaiter_idle {c : Cluster} {w : Nat} {x : W64} {m : Nat}
    (h : ∀ wt, vat c.waiters m none = some wt → wt.live = true → wt.word = w → waitHolds wt.kind wt.operand x = false) :
    Cluster.tryWaiter w (c, x) m = (c, x) := by
  rw [Cluster.tryWaiter]
  cases hwt : vat c.waiters m none with
  | none => rfl
  | some wt =>
    refine if_neg ?_
    simp only [Bool.and_eq_true, decide_eq_true_eq]
    rintro ⟨⟨hlive, hword⟩, hholds⟩
    exact absurd hholds (Bool.eq_false_iff.mp (h wt hwt hlive hword))

theorem foldl_eq_self {α β : Type} {f : β → α → β} {p : β} {l : List α} (h : ∀ b ∈ l, f p b = p) : l.foldl f p = p := by
  induction l with
  | nil => rfl
  | cons b l ih =>
    rw [List.foldl_cons, h b (List.mem_cons_self ..)]
    exact ih fun d hd => h d (List.mem_cons_of_mem _ hd)

/-- A fold that only one of its elements moves. -/
theorem foldl_eq_of_single {α β : Type} {f : β → α → β} {p q : β} {a : α} {l : List α} (hnodup : l.Nodup) (hmem : a ∈ l)
    (hstep : f p a = q) (hbefore : ∀ b ∈ l, b ≠ a → f p b = p) (hafter : ∀ b ∈ l, b ≠ a → f q b = q) : l.foldl f p = q := by
  obtain ⟨l₁, l₂, rfl⟩ := List.append_of_mem hmem
  obtain ⟨-, hnodup, hapart⟩ := List.nodup_append.mp hnodup
  obtain ⟨hnotin, -⟩ := List.nodup_cons.mp hnodup
  rw [List.foldl_append, foldl_eq_self (fun b hb => hbefore b (by simp [hb]) (hapart b hb a (by simp))), List.foldl_cons, hstep]
  exact foldl_eq_self fun b hb => hafter b (by simp [hb]) (ne_of_mem_of_not_mem hb hnotin)

theorem Cluster.tryWaiters_of_releasesNone {c : Cluster} {w : Nat} {x : W64} (h : c.releasesNone w x) :
    (List.range 8).foldl (Cluster.tryWaiter w) (c, x) = (c, x) :=
  foldl_eq_self fun m hm => Cluster.tryWaiter_idle (h m (List.mem_range.mp hm))

/-- A scalar core's wait ends with a value and a status: it goes on (R358). -/
def Cluster.endsWait (c : Cluster) (n : Nat) (wt : Waiter) (val : W32) (status : W64) : Cluster :=
  ({ c with waiters := vset c.waiters n none } : Cluster).setCore n
    (((c.core n).setS wt.rd (val.zeroExtend 64)).setS wt.rs status).adv

@[simp] theorem Cluster.endsWait_waiters (c : Cluster) (n : Nat) (wt : Waiter) (val : W32) (status : W64) :
    (c.endsWait n wt val status).waiters = vset c.waiters n none := rfl

theorem Cluster.endWait_of_scalar {c : Cluster} {n : Nat} {wt : Waiter} (hscalar : wt.engine = false) (val : W32) (status : Nat) :
    ({ c with waiters := vset c.waiters n none } : Cluster).endWait n wt.engine wt.rd wt.rs val status
      = c.endsWait n wt val (BitVec.ofNat 64 status) := by
  rw [hscalar]
  rfl

theorem syValue_eq (x : W64) : syValue x = x.extractLsb' 0 32 := ofNat_fld _ (by decide)

theorem Cluster.tryWaiter_of_holds {c : Cluster} {w n : Nat} {x : W64} {wt : Waiter} (hwt : vat c.waiters n none = some wt)
    (hlive : wt.live = true) (hword : wt.word = w) (hscalar : wt.engine = false) (hholds : waitHolds wt.kind wt.operand x = true) :
    Cluster.tryWaiter w (c, x) n = (c.endsWait n wt (syValue x) 0, waitEffect wt.kind x) := by
  simp only [Cluster.tryWaiter, hwt, hlive, hword, hholds, Bool.true_and, decide_true, if_true]
  exact congrArg (·, waitEffect wt.kind x) (Cluster.endWait_of_scalar hscalar _ 0)

/-- The one waiter of a word whose condition holds is released, and no other. -/
theorem Cluster.tryWaiters_of_single {c : Cluster} {w n : Nat} {x : W64} {wt : Waiter} (hn : n < 8)
    (hwt : vat c.waiters n none = some wt) (hlive : wt.live = true) (hword : wt.word = w) (hscalar : wt.engine = false)
    (hholds : waitHolds wt.kind wt.operand x = true)
    (hothers : ∀ m < 8, m ≠ n → ∀ wt', vat c.waiters m none = some wt' → wt'.live = true → wt'.word ≠ w) :
    (List.range 8).foldl (Cluster.tryWaiter w) (c, x) = (c.endsWait n wt (syValue x) 0, waitEffect wt.kind x) := by
  have hidle {d : Cluster} {m : Nat} (y : W64) (hm : m ∈ List.range 8) (hmn : m ≠ n)
      (hd : vat d.waiters m none = vat c.waiters m none) : Cluster.tryWaiter w (d, y) m = (d, y) := by
    refine Cluster.tryWaiter_idle fun wt' hwt' hlive' hword' => absurd hword' ?_
    exact hothers m (List.mem_range.mp hm) hmn wt' (hd ▸ hwt') hlive'
  exact foldl_eq_of_single List.nodup_range (List.mem_range.mpr hn) (Cluster.tryWaiter_of_holds hwt hlive hword hscalar hholds)
    (fun m hm hmn => hidle x hm hmn rfl) (fun m hm hmn => hidle _ hm hmn (vat_vset_ne _ _ _ _ _ hmn))

/-- Once a wait has left its place to another waiter or none, only that one can still be released. -/
theorem Cluster.releasesNone_of_vset {c d : Cluster} {w n : Nat} {x : W64} {wt : Option Waiter} (hn : n < 8)
    (hd : d.waiters = vset c.waiters n wt) (habsent : ∀ m < 8, ∀ wt, vat c.waiters m none = some wt → wt.live = true → wt.word ≠ w)
    (hself : ∀ y, wt = some y → waitHolds y.kind y.operand x = false) : d.releasesNone w x := by
  intro m hm y hy hlive hword
  rw [hd] at hy
  by_cases hmn : m = n
  · subst hmn
    exact hself y ((vat_vset_self _ _ _ _ hn).symm.trans hy)
  · rw [vat_vset_ne _ _ _ _ _ hmn] at hy
    exact absurd hword (habsent m hm y hy hlive)

/-- The condition of each kind (R356). -/
theorem waitHolds_eq {kind : Nat} (hkind : kind < 4) (operand : W32) (x : W64) : waitHolds kind operand x =
    if kind = 3 then !x.getLsbD 63
    else if kind = 2 then x.getLsbD 63 && decide (0 ≤ (x.extractLsb' 0 32 - operand).toInt) else x.getLsbD 63 := by
  rw [← syValue_eq]
  match kind, hkind with
  | 0, _ => rfl
  | 1, _ => rfl
  | 2, _ => rfl
  | 3, _ => rfl

/-! The word of an operation, read without error and written back (R352). -/

/-- The write of a word by an operation of the unit (R289, R352). -/
def Cluster.writesBack (c : Cluster) (o : SyncOp) (new : W64) : Cluster :=
  c.addGroup 2 0 (.syncWrite o.id) [partReq 0 (syncAddr o.word) 8 (some (leBytes 8 new.toNat))]

theorem Cluster.syncReadDone_eq {c d e : Cluster} {o : SyncOp} {x y new : W64}
    (hfind : c.syncOps.find? (fun p => p.id == o.id) = some o) (happly : c.syncApply o x = (d, y))
    (hfold : (List.range 8).foldl (Cluster.tryWaiter o.word) (d, y) = (e, new)) :
    c.syncReadDone o.id x false = e.writesBack o new := by
  simp only [Cluster.syncReadDone, hfind, Bool.false_eq_true, if_false, happly, hfold]
  rfl

/-- A wait is evaluated on its word for the first time: by its condition and its timeout (R356, R358, R359). -/
theorem Cluster.syncApply_of_wait {c : Cluster} {n timeout : Nat} {o : SyncOp} {wt : Waiter} (x : W64) (hwhat : o.what = .wait n timeout)
    (hwt : vat c.waiters n none = some wt) (hlive : wt.live = false) (hid : wt.id = o.id) :
    c.syncApply o x = c.evalWait n timeout wt x := by
  simp only [Cluster.syncApply, hwhat, hwt, hlive, hid, Bool.not_false, beq_self_eq_true, Bool.and_self, if_true]

/-- The unit after it has counted a wait, or a signal (R289). -/
def Cluster.waitCounted (c : Cluster) : Cluster := c.bump (rSyn + 0x508) (rSyn + 0x518) 1 1
def Cluster.signalCounted (c : Cluster) : Cluster := c.bump (rSyn + 0x500) (rSyn + 0x518) 0 1

@[simp] theorem Cluster.waitCounted_waiters (c : Cluster) : c.waitCounted.waiters = c.waiters := Cluster.bump_waiters ..
@[simp] theorem Cluster.waitCounted_core (c : Cluster) (n : Nat) : c.waitCounted.core n = c.core n := by
  rw [Cluster.core, Cluster.waitCounted, Cluster.bump_cores]
  rfl
@[simp] theorem Cluster.signalCounted_waiters (c : Cluster) : c.signalCounted.waiters = c.waiters := Cluster.bump_waiters ..
@[simp] theorem Cluster.signalCounted_core (c : Cluster) (n : Nat) : c.signalCounted.core n = c.core n := by
  rw [Cluster.core, Cluster.signalCounted, Cluster.bump_cores]
  rfl

theorem Cluster.waitCounted_endsWait (c : Cluster) (n : Nat) (wt : Waiter) (val : W32) (status : W64) :
    c.waitCounted.endsWait n wt val status = ({ c.waitCounted with waiters := vset c.waiters n none } : Cluster).setCore n
      (((c.core n).setS wt.rd (val.zeroExtend 64)).setS wt.rs status).adv := by
  rw [Cluster.endsWait, Cluster.waitCounted_waiters, Cluster.waitCounted_core]

theorem Cluster.signalCounted_endsWait (c : Cluster) (n : Nat) (wt : Waiter) (val : W32) (status : W64) :
    c.signalCounted.endsWait n wt val status = ({ c.signalCounted with waiters := vset c.waiters n none } : Cluster).setCore n
      (((c.core n).setS wt.rd (val.zeroExtend 64)).setS wt.rs status).adv := by
  rw [Cluster.endsWait, Cluster.signalCounted_waiters, Cluster.signalCounted_core]

section
variable {c : Cluster} {n timeout : Nat} {wt : Waiter} {x : W64} (hscalar : wt.engine = false)
include hscalar

theorem Cluster.evalWait_of_holds (h : waitHolds wt.kind wt.operand x = true) :
    c.evalWait n timeout wt x = (c.waitCounted.endsWait n wt (syValue x) 0, waitEffect wt.kind x) :=
  (if_pos h).trans (congrArg (·, waitEffect wt.kind x) (Cluster.endWait_of_scalar hscalar _ 0))

theorem Cluster.evalWait_of_poll (h : waitHolds wt.kind wt.operand x = false) :
    c.evalWait n 0 wt x = (c.waitCounted.endsWait n wt (syValue x) 10, x) :=
  (if_neg (Bool.eq_false_iff.mp h)).trans ((if_pos rfl).trans (congrArg (·, x) (Cluster.endWait_of_scalar hscalar _ 10)))

omit hscalar in
theorem Cluster.evalWait_of_registered (h : waitHolds wt.kind wt.operand x = false) (htimeout : timeout ≠ 0) :
    c.evalWait n timeout wt x = ({ c.waitCounted with
      waiters := vset c.waitCounted.waiters n (some { wt with live := true, deadline := c.tk + timeout }) }, x) := by
  have htk : c.waitCounted.tk = c.tk := by simp [Cluster.tk, Cluster.waitCounted]
  refine (if_neg (Bool.eq_false_iff.mp h)).trans ((if_neg htimeout).trans ?_)
  rw [← htk]
  rfl

end

/-! The fields of a word that a signal leaves (R351, R355). -/

theorem mkSync_eq (full : Bool) (sctx scl score tblo : Nat) (v : W32) : mkSync full sctx scl score tblo v =
    BitVec.ofNat 64 (full.toNat * 2 ^ 63 + (sctx % 64 * 2 ^ 57 + (scl % 64 * 2 ^ 51 + (score % 8 * 2 ^ 48
      + (tblo % 65536 * 2 ^ 32 + v.toNat))))) := by
  have hv : place v.toNat 0 = BitVec.ofNat 64 v.toNat := rfl
  have hlt := v.isLt
  rw [mkSync, placeB_eq, hv]
  simp only [BitVec.or_assoc]
  rw [place_or_ofNat _ hlt, place_or_ofNat _ (by omega), place_or_ofNat _ (by omega), place_or_ofNat _ (by omega),
    place_or_ofNat _ (by omega)]

/-- The fields of a sync word: VALUE, SCTX, SCL, SCORE and TBLO (R351). -/
structure SyncFields (x : W64) (v : W32) (sctx scl score tblo : Nat) : Prop where
  value : x.extractLsb' 0 32 = v
  sctx : x.extractLsb' 57 6 = BitVec.ofNat 6 sctx
  scl : x.extractLsb' 51 6 = BitVec.ofNat 6 scl
  score : x.extractLsb' 48 3 = BitVec.ofNat 3 score
  tblo : x.extractLsb' 32 16 = BitVec.ofNat 16 tblo

theorem syncFields_mkSync (full : Bool) (sctx scl score tblo : Nat) (v : W32) :
    SyncFields (mkSync full sctx scl score tblo v) v sctx scl score tblo := by
  have hlt := v.isLt
  rw [mkSync_eq]
  constructor <;> apply BitVec.eq_of_toNat_eq <;>
    rw [BitVec.extractLsb'_toNat, BitVec.toNat_ofNat, Nat.shiftRight_eq_div_pow] <;> cases full <;>
    simp only [BitVec.toNat_ofNat, Bool.toNat_true, Bool.toNat_false] <;> omega

@[simp] theorem syFull_mkSync (full : Bool) (sctx scl score tblo : Nat) (v : W32) :
    syFull (mkSync full sctx scl score tblo v) = full := by
  have hlt := v.isLt
  rw [mkSync_eq, syFull, bitAt, BitVec.getLsbD_ofNat, Nat.testBit_eq_decide_div_mod_eq]
  cases full <;> simp <;> omega

@[simp] theorem syValue_mkSync (full : Bool) (sctx scl score tblo : Nat) (v : W32) :
    syValue (mkSync full sctx scl score tblo v) = v := (syValue_eq _).trans (syncFields_mkSync ..).value

/-- TAKE leaves every field but FULL. -/
theorem SyncFields.waitEffect {x : W64} {v : W32} {sctx scl score tblo : Nat} (h : SyncFields x v sctx scl score tblo) (kind : Nat) :
    SyncFields (waitEffect kind x) v sctx scl score tblo := by
  rw [Machine.waitEffect]
  split
  · obtain ⟨hvalue, hsctx, hscl, hscore, htblo⟩ := h
    constructor <;> simp (disch := omega) only [extract_setFld_apart] <;> assumption
  · exact h

theorem syFull_waitEffect (kind : Nat) (x : W64) : syFull (waitEffect kind x) = (decide (kind ≠ 1) && syFull x) := by
  by_cases h : kind = 1
  · rw [waitEffect, if_pos h, syFull, bitAt, getLsbD_setFld _ _ _ _ _ (le_refl _) (by decide)]
    simp [h]
  · simp [waitEffect, h]

/-- The word that a signal of a kind leaves (R355). -/
def Cluster.signalWord (c : Cluster) (kind : Nat) (operand : W32) (sctx scl score : Nat) (x : W64) : W64 :=
  mkSync (signalled kind operand x).1 sctx scl score c.tbNow (signalled kind operand x).2

theorem Cluster.syncApply_of_signal {c : Cluster} {o : SyncOp} {kind sctx scl score : Nat} {operand : W32} (x : W64)
    (hwhat : o.what = .signal kind operand sctx scl score) :
    c.syncApply o x = (c.signalCounted, c.signalWord kind operand sctx scl score x) := by
  simp only [Cluster.syncApply, hwhat]
  rfl

/-- VALUE and FULL after a signal, by its kind. -/
theorem signalled_eq (kind : Fin 4) (operand : W32) (x : W64) : signalled kind.val operand x =
    (decide (kind ≠ 3), if kind = 0 then operand else if kind = 1 then x.extractLsb' 0 32 + operand
      else if kind = 2 then x.extractLsb' 0 32 ||| operand else x.extractLsb' 0 32) := by
  rw [← syValue_eq]
  match kind with
  | 0 => rfl
  | 1 => rfl
  | 2 => rfl
  | 3 => rfl

end Sys2Proof.Machine

open Sys2Proof Sys2Proof.Machine

/-- Settles O10: the translation of the VID decides where a wait goes, and its condition and timeout what becomes of it. -/
theorem syncWaits : Obligations.SyncWaits := by
  unfold Obligations.SyncWaits
  refine ⟨fun n s => ?ask, fun c n o wt timeout v => ?evaluate⟩
  case ask =>
    intro c x w vid operand timeout asks htab
    refine ⟨fun htimeout p hp hserves => ?wait, fun htimeout kind hserves => ?poll⟩
    case wait =>
      have hpoll : (x.waitTimeout w == 0) = false := beq_false_of_ne htimeout
      obtain ⟨-, hmode⟩ := isSvc_iff.mp hserves.form_word
      rw [← hmode]
      exact exec_sywait hpoll htab (exec_sywait_of_mem hp hserves)
    case poll =>
      have hpoll : (x.waitTimeout w == 0) = true := beq_iff_eq.mpr htimeout
      obtain ⟨-, hmode⟩ := isSvc_iff.mp hserves.form_word
      rw [← hmode]
      exact exec_sywait hpoll htab (exec_sywaitPoll hserves)
  case evaluate =>
    intro x val full holds counted back answered hfind hwhat hwt hlive hid hword hscalar hkind habsent
    have happly := c.syncApply_of_wait v hwhat hwt hlive hid
    have hholds : waitHolds wt.kind wt.operand v = holds := waitHolds_eq hkind _ v
    refine ⟨fun h => ?released, fun h htimeout => ?polled, fun h htimeout => ?registered⟩
    case released =>
      rw [Cluster.evalWait_of_holds hscalar (hholds.trans h), Cluster.waitCounted_endsWait, syValue_eq] at happly
      refine Cluster.syncReadDone_eq hfind happly (Cluster.tryWaiters_of_releasesNone ?_)
      exact Cluster.releasesNone_of_vset n.isLt rfl habsent (fun y hy => nomatch hy)
    case polled =>
      rw [htimeout, Cluster.evalWait_of_poll hscalar (hholds.trans h), Cluster.waitCounted_endsWait, syValue_eq] at happly
      refine Cluster.syncReadDone_eq hfind happly (Cluster.tryWaiters_of_releasesNone ?_)
      exact Cluster.releasesNone_of_vset n.isLt rfl habsent (fun y hy => nomatch hy)
    case registered =>
      rw [Cluster.evalWait_of_registered (hholds.trans h) htimeout, Cluster.waitCounted_waiters] at happly
      refine Cluster.syncReadDone_eq hfind happly (Cluster.tryWaiters_of_releasesNone ?_)
      refine Cluster.releasesNone_of_vset n.isLt rfl habsent (fun y hy => ?_)
      cases hy
      exact hholds.trans h

/-- Settles O12: the word that the signal leaves, and the one waiter that it releases. -/
theorem signalEffect : Obligations.SignalEffect := by
  unfold Obligations.SignalEffect
  intro c o sctx scl score kind operand v hfind hwhat old val counted back fields
  have happly := c.syncApply_of_signal v hwhat
  have hsignalled : signalled kind.val operand v = (decide (kind ≠ 3), val) := signalled_eq kind operand v
  rw [Cluster.signalWord, hsignalled] at happly
  have hword : SyncFields (mkSync (decide (kind ≠ 3)) sctx scl score c.tbNow val) val sctx scl score c.tbNow :=
    syncFields_mkSync ..
  have hfields {new : W64} (h : SyncFields new val sctx scl score c.tbNow) : fields new :=
    ⟨h.value, h.sctx, h.scl, h.score, h.tblo⟩
  refine ⟨fun habsent => ⟨_, ?alone, hfields hword, ?full⟩,
    fun n hn wt hwt hlive hwtword hscalar hkind hset hothers => ⟨_, ?released, hfields (hword.waitEffect wt.kind), ?taken⟩, ?written⟩
  case alone =>
    refine Cluster.syncReadDone_eq hfind happly (Cluster.tryWaiters_of_releasesNone (Cluster.releasesNone_of_absent ?_ _))
    rw [Cluster.signalCounted_waiters]
    exact habsent
  case full =>
    change syFull _ = true ↔ _
    simp
  case released =>
    have hholds : waitHolds wt.kind wt.operand (mkSync (decide (kind ≠ 3)) sctx scl score c.tbNow val) = true := by
      rw [waitHolds_eq (by omega), if_neg (by omega), if_neg (by omega)]
      change syFull _ = true
      simpa using hset
    have hfold := Cluster.tryWaiters_of_single (c := c.signalCounted) hn ((c.signalCounted_waiters).symm ▸ hwt) hlive hwtword hscalar hholds
      ((c.signalCounted_waiters).symm ▸ hothers)
    rw [Cluster.signalCounted_endsWait, syValue_mkSync] at hfold
    exact Cluster.syncReadDone_eq hfind happly hfold
  case taken =>
    change syFull _ = true ↔ _
    simp [syFull_waitEffect, hset]
  case written => simp only [Cluster.syncWriteDone, hfind] <;> rfl

end

section
/-! The synchronisation unit's own events: the head of the inbound queue, waits past their deadline, and the signals of a
core's slots (R354, R358, R361 to R364). -/

namespace Sys2Proof.Machine

section
variable {c : Cluster} {lane : Nat} {f : Flit}

theorem syncApplyC_of_head {at_ : Nat} {rest : List (Nat × Nat × Flit)} (hlive : c.live = true)
    (hhead : c.syncIn = (lane, at_, f) :: rest) : syncApplyC c = ({ c with syncIn := rest } : Cluster).applyFlit lane f := by
  simp only [syncApplyC, hlive, if_true, hhead]

/-- The context and the VID that a SYNC flit names (R362). -/
def syncCtx (f : Flit) : Nat := fGaddr f / 2 ^ 34 % 64
def syncVid (f : Flit) : Nat := fTxn f % 65536

/-- The signal that a SYNC flit carries, with a signalling context (R362). -/
def syncSignal (f : Flit) (sctx : Nat) : SyncWhat :=
  .signal (fGaddr f / 2 ^ 32 % 4) (BitVec.ofNat 32 (fGaddr f)) sctx (fSrccl f) (fTxn f / 2 ^ 17)

/-- A SYNC flit by the translation of its VID (R363). -/
theorem Cluster.applyFlit_eq (htab : c.tabSound (c.vidKeys (syncCtx f) (syncVid f))) :
    c.applyFlit lane f = match c.translateVid (syncCtx f) (syncVid f) with
      | none => c.reply lane f.hdr 5 1 (fLmask f) []
      | some e => if e.getLsbD 30 then (c.signaller lane f).2.syncPost (e.extractLsb' 0 17).toNat (syncCtx f) (16 + lane)
          (syncSignal f (c.signaller lane f).1) (some (lane, f.hdr)) else c.reply lane f.hdr 5 2 (fLmask f) [] := by
  have hvid : c.vid (fGaddr f / 2 ^ 34 % 64) (fTxn f % 65536) = (c, c.translateVid (syncCtx f) (syncVid f)) := Cluster.vid_sound htab
  simp only [Cluster.applyFlit, hvid]
  cases c.translateVid (syncCtx f) (syncVid f) with
  | none => rfl
  | some e =>
    have hxsig : xXsig e = e.getLsbD 30 := rfl
    cases h : e.getLsbD 30 <;> simp only [hxsig, h, Bool.not_true, Bool.not_false, Bool.false_eq_true, if_true, if_false] <;> rfl

/-- A flit of another cluster does not carry SCTX: it takes a free value (log entry 3). -/
theorem Cluster.signaller_of_lane (h : lane < 4) :
    c.signaller lane f = ((Config.freeByte c.freeCtr).toNat, { c with freeCtr := c.freeCtr + 1 }) := by
  have hlane : ¬ lane = selfLane := by unfold selfLane; omega
  simp only [Cluster.signaller, hlane, if_false]
  rfl

/-- This cluster's own signal has its context in its slot. -/
theorem Cluster.signaller_of_slot {g : SigSlot} (h : vat (c.core (fTxn f / 2 ^ 17 % 8)).sig (fLmask f % 8) none = some g) :
    c.signaller selfLane f = (g.ctx, c) := by
  simp only [Cluster.signaller, if_true, h]

end

/-! A wait past its deadline (R358). -/

theorem waitTimeoutC_of_due {c : Cluster} {n : Nat} {wt : Waiter} (hwt : vat c.waiters n none = some wt) (hlive : wt.live = true)
    (hready : c.ready = true) (hdue : wt.deadline ≤ c.tk) (htorn : c.tornSeen wt.ctx = false) :
    waitTimeoutC c n = ({ c with waiters := vset c.waiters n (some { wt with live := false, id := c.nextOrd }) } : Cluster).syncPost
      wt.word wt.ctx (1 + n) (.expire n) none := by
  simp only [waitTimeoutC, hwt, hready, hlive, hdue, htorn, decide_true, Bool.not_false, Bool.and_self, if_true]

theorem Cluster.syncApply_of_expire {c : Cluster} {n : Nat} {o : SyncOp} {wt : Waiter} (x : W64) (hwhat : o.what = .expire n)
    (hwt : vat c.waiters n none = some wt) (hlive : wt.live = false) (hid : wt.id = o.id) :
    c.syncApply o x = (c.expireWait n wt x, x) := by
  simp only [Cluster.syncApply, hwhat, hwt, hlive, hid, Bool.not_false, beq_self_eq_true, Bool.and_self, if_true]

/-! The signals of a core's slots (R361, R364). -/

/-- The signal in a slot of a core becomes another. -/
def Cluster.putSignal (c : Cluster) (n k : Nat) (g : SigSlot) : Cluster :=
  c.setCore n { c.core n with sig := vset (c.core n).sig k (some g) }

/-- Has the port room for a signal's flit, or is it turned round inside (R306, R361)? -/
def Cluster.signalRoom (c : Cluster) (g : SigSlot) : Prop := c.portRoom = true ∨ g.dcl = c.straps.toNat

section
variable {c : Cluster} {n k : Nat} {g : SigSlot} (hslot : vat (c.core n).sig k none = some g)
include hslot

theorem signalSendC_of_first (hlive : c.live = true) (hsent : g.sent = false) (hearlier : (c.core n).earlier g = false)
    (hroom : c.signalRoom g) :
    signalSendC c n k = (c.putSignal n k { g with sent := true, due := c.tk + c.dictAt 0x2700 2 }).launchSignal n k g := by
  have hroom : (c.portRoom || g.dcl == c.straps.toNat) = true := by simpa [Cluster.signalRoom] using hroom
  simp only [signalSendC, hslot, hlive, hsent, hearlier, hroom, Bool.not_false, Bool.and_self, if_true]
  rfl

theorem Cluster.signalErr_of_busy : c.signalErr n k 5 = c.putSignal n k { g with busy := some (c.tk + 64) } := by
  simp only [Cluster.signalErr, if_true, hslot]
  rfl

theorem signalResendC_of_due (hlive : c.live = true) {t : Nat} (hbusy : g.busy = some t) (hdue : t ≤ c.tk) (hroom : c.signalRoom g) :
    signalResendC c n k = (c.putSignal n k { g with busy := none }).launchSignal n k g := by
  have hroom : (c.portRoom || g.dcl == c.straps.toNat) = true := by simpa [Cluster.signalRoom] using hroom
  simp only [signalResendC, hslot, hbusy, hlive, hdue, hroom, decide_true, Bool.and_self, if_true]
  rfl

theorem signalTimeoutC_of_due (hlive : c.live = true) (hsent : g.sent = true) (hdue : g.due ≤ c.tk) :
    signalTimeoutC c n k = c.signalOutcome n k (some 0xD) := by
  simp only [signalTimeoutC, hslot, hlive, hsent, hdue, decide_true, Bool.and_self, if_true]

end

theorem Cluster.signalErr_of_failed (c : Cluster) (n k : Nat) {stat : Nat} (h : stat ≠ 5) :
    c.signalErr n k stat = c.signalOutcome n k (some stat) := if_neg h

end Sys2Proof.Machine

open Sys2Proof Sys2Proof.Machine

/-- Settles O50: each event of the unit, by the state of the flit, the wait or the signal that it concerns. -/
theorem syncUnit : Obligations.SyncUnit := by
  unfold Obligations.SyncUnit
  intro s c
  refine ⟨fun lane at_ f rest hlive hhead => ?apply, fun n w hw hwlive hready hdue htorn => ?timeout, fun n o x w hwhat hw hwlive hid => ?expire,
    fun n k g hlive hslot => ?slot⟩
  case apply =>
    intro ga ctx vid d gives signal htab
    have happly : syncApplyC c = d.applyFlit lane f := syncApplyC_of_head hlive hhead
    rw [Cluster.applyFlit_eq (c := d) htab] at happly
    refine ⟨fun hnone => ?untranslated, fun e hsome => ⟨fun hxsig => ?denied, fun hxsig hlane => ?foreign, fun g hxsig hlane hslot => ?own⟩⟩
    all_goals refine congrArg (done s) (happly.trans ?_)
    case untranslated => rw [show d.translateVid (syncCtx f) (syncVid f) = none from hnone]
    all_goals rw [show d.translateVid (syncCtx f) (syncVid f) = some e from hsome]
    case denied => exact if_neg (Bool.eq_false_iff.mp hxsig)
    case foreign =>
      refine (if_pos hxsig).trans ?_
      rw [Cluster.signaller_of_lane hlane]
      rfl
    case own =>
      subst hlane
      refine (if_pos hxsig).trans ?_
      rw [show d.signaller 4 f = (g.ctx, d) from Cluster.signaller_of_slot hslot]
      rfl
  case timeout => exact congrArg (done s) (waitTimeoutC_of_due hw hwlive hready hdue htorn)
  case expire => exact Cluster.syncApply_of_expire x hwhat hw hwlive hid
  case slot =>
    intro put room
    exact ⟨fun hsent hearlier hroom => congrArg (done s) (signalSendC_of_first hslot hlive hsent hearlier hroom),
      Cluster.signalErr_of_busy hslot, fun stat => Cluster.signalErr_of_failed c n.val k.val,
      fun t hbusy hdue hroom => congrArg (done s) (signalResendC_of_due hslot hlive hbusy hdue hroom),
      fun hsent hdue => congrArg (done s) (signalTimeoutC_of_due hslot hlive hsent hdue)⟩

end

section
/-! Start-up, the timebase, the stretcher, the throttle and telemetry: each event of the clock and power block where it acts
(R438 to R450). -/

namespace Sys2Proof.Machine

theorem Cluster.live_iff (c : Cluster) : c.live = true ↔ c.powered = true ∧ c.flt.fatal = false := by simp [Cluster.live]

/-! Power (R443). -/

theorem powerGoodC_of_unpowered {c : Cluster} (h : c.powered = false) : powerGoodC c = Cluster.atPowerGood c.straps c.stepping :=
  if_neg (Bool.eq_false_iff.mp h)

theorem powerGoodC_of_powered {c : Cluster} (h : c.powered = true) : powerGoodC c = c := if_pos h

theorem powerLossC_of_powered {c : Cluster} (h : c.powered = true) :
    powerLossC c = { Cluster.atPowerGood c.straps c.stepping with powered := false } := if_pos h

/-! The steps of stage 1 (R449). -/

section
variable {c : Cluster} (hlive : c.live = true) (hstage : c.stage = 1)
include hlive hstage

theorem pllLockC_of_unlocked (h : c.clk.locked = false) : pllLockC c =
    { c with clk := { c.clk with locked := true, free := 0, decAt := 0, lockAt := c.clk.ckm, phaseT := 0 } } :=
  if_pos (by simp [hlive, hstage, h])

theorem droopCalibrationDoneC_of_locked (cal : W64) (hlocked : c.clk.locked = true) (hsen : c.clk.sen = false) :
    droopCalibrationDoneC c cal = { c.setReg 0x20010040 cal with clk := { c.clk with sen := true, calAt := c.clk.ckm } } :=
  if_pos (by simp [hlive, hstage, hlocked, hsen])

/-- A crossing FIFO aligns: its half of the lane, the lane with the other half, and 8 credits (R318). -/
theorem crossingAlignC_of_calibrated (j : Nat) (hsen : c.clk.sen = true) (hdead : (c.lane (j / 2)).dead = false) :
    let l := c.lane (j / 2)
    let o := l.alignO || decide (j % 2 = 0)
    let i := l.alignI || decide (j % 2 = 1)
    crossingAlignC c j = (c.setLane (j / 2) { l with alignO := o, alignI := i, up := o && i }).setFifo j ⟨8, 8, 0, 0⟩ := by
  intro l o i
  refine (if_pos (by simp [hlive, hstage, hsen, hdead])).trans ?_
  rcases Nat.mod_two_eq_zero_or_one j with hj | hj
  · simp [o, i, l, hj, Cluster.alignFifo]
  · simp [o, i, l, hj, Cluster.alignFifo]

end

/-- The 16 entries of a crossing FIFO: those filled, those free with the writer, and those on their way back (R318). -/
def Fifo.total (f : Fifo) : Nat := f.fill + f.cred + f.got + f.back

theorem Fifo.total_write (f : Fifo) (go : Bool) : (f.write go).total = f.total := by
  simp only [Fifo.write, Fifo.total]
  split
  case isTrue h =>
    have hcred : 0 < f.cred + f.back := of_decide_eq_true (Bool.and_eq_true_iff.mp h).2
    dsimp only
    omega
  case isFalse =>
    dsimp only
    omega

theorem Fifo.total_read (f : Fifo) (go : Bool) : (f.read go).total = f.total := by
  simp only [Fifo.read, Fifo.total]
  split
  case isTrue h =>
    have hfill : 0 < f.fill := of_decide_eq_true (Bool.and_eq_true_iff.mp h).2
    dsimp only
    omega
  case isFalse => rfl

/-! The completion of a stage (R448). -/

theorem stageCompleteC_of_stage0 {c : Cluster} (f : Findings) (hpower : c.powered = true) (hstage : c.stage = 0) :
    stageCompleteC c f = c.nextStage := by simp [stageCompleteC, hpower, hstage]

section
variable {c : Cluster} (f : Findings) (hlive : c.live = true)
include hlive

theorem stageCompleteC_of_stage1 (hstage : c.stage = 1) (hlanes : c.lanesDone = true) (hruns : c.tb.runs = true) :
    stageCompleteC c f = c.nextStage := by
  obtain ⟨hpower, hfatal⟩ := c.live_iff.mp hlive
  simp [stageCompleteC, hpower, hfatal, hstage, hlanes, hruns]

theorem stageCompleteC_of_stage2 (hstage : c.stage = 2) (htb : c.tb.tbok = true) (hfree : c.throttled = false) :
    stageCompleteC c f = (c.selfTest f).nextStage := by
  obtain ⟨hpower, hfatal⟩ := c.live_iff.mp hlive
  simp [stageCompleteC, hpower, hfatal, hstage, htb, hfree]

theorem stageCompleteC_of_operating (hstage : 3 ≤ c.stage) : stageCompleteC c f = c := by
  obtain ⟨hpower, hfatal⟩ := c.live_iff.mp hlive
  have h0 : c.stage ≠ 0 := by omega
  have h1 : c.stage ≠ 1 := by omega
  have h2 : c.stage ≠ 2 := by omega
  simp [stageCompleteC, hpower, hfatal, h0, h1, h2]

end

/-! The alignment pulse (R442). -/

section
variable {c : Cluster} (hlive : c.live = true)
include hlive

theorem alignmentPulseC_of_first (v : W64) (hlanes : c.lanesDone = true) (h : c.tb.tbok = false) : alignmentPulseC c v =
    { c with tb := { c.tb with value := v, runs := true, ok := true, tbok := true, debt := 0, dev := 0, dbgTk := 0 }
             flt := { c.flt with quietAt := c.flt.quietAt - c.tk + v.toNat } } := by
  simp [alignmentPulseC, hlive, hlanes, h]

/-- TB as a later pulse with difference d leaves it, before OK and FAR are decided. -/
def Tb.slewed (t : Tb) (d : Int) : Tb :=
  { t with debt := d, slewN := if d = 0 then 0 else t.slewN, dev := max (-127) (min 127 d) }

omit hlive in
theorem one_lt_natAbs_iff (d : Int) : 1 < d.natAbs ↔ 1 < d ∨ d < -1 := by omega

theorem alignmentPulseC_of_near (v : W64) (hlanes : c.lanesDone = true) (h : c.tb.tbok = true)
    (hnear : ¬ 1 < ((c.tb.value - v).toInt).natAbs) :
    alignmentPulseC c v = { c with tb := { c.tb.slewed (c.tb.value - v).toInt with ok := true } } := by
  refine (if_neg (by simp [hlive, hlanes])).trans ((if_neg (by simp [h])).trans ((if_neg (by simpa using hnear)).trans ?_))
  simp only [hnear, decide_false, Bool.not_false]
  rfl

theorem alignmentPulseC_of_far (v : W64) (hlanes : c.lanesDone = true) (h : c.tb.tbok = true)
    (hfar : 1 < ((c.tb.value - v).toInt).natAbs) :
    alignmentPulseC c v = ({ c with tb := { c.tb.slewed (c.tb.value - v).toInt with
      ok := false, far := min 0xFFFF (c.tb.far + 1) } } : Cluster).raise0 0x08 0 := by
  refine (if_neg (by simp [hlive, hlanes])).trans ((if_neg (by simp [h])).trans ((if_pos (by simpa using hfar)).trans ?_))
  simp only [hfar, decide_true, Bool.not_true, if_true, satN_eq_min, Nat.min_comm 0xFFFF]
  rfl

theorem alignmentPulseMissingC_of_counting (hruns : c.tb.runs = true) : alignmentPulseMissingC c =
    ({ c with tb := { c.tb with ok := false, miss := min 0xFFFF (c.tb.miss + 1) } } : Cluster).raise0 0x08 0 := by
  refine (if_pos (by simp [hlive, hruns])).trans ?_
  rw [satN_eq_min, Nat.min_comm]

/-! The stretcher, the throttle and ALIVE (R426, R438, R445). -/

/-- The stretcher with a request of level r held, its decay and its monitor as R leaves them (R438, log entry 103). -/
def Clk.requested (k : Clk) (r : Nat) : Clk :=
  { k with reqR := r, decAt := if k.decD ≤ k.reqR then k.free else k.decAt, fullAt := if k.reqR = 8 then k.fullAt else k.ckm }

theorem droopRequestC_of_fall {r : Nat} (hlocked : c.clk.locked = true) (hsen : c.clk.sen = true) (hr : r ≤ c.clk.reqR) :
    droopRequestC c r = { c with clk := c.clk.requested r } := by
  exact (if_pos (by simp [hlive, hlocked, hsen])).trans (if_neg (not_lt.mpr hr))

theorem droopRequestC_of_rise {r : Nat} (hlocked : c.clk.locked = true) (hsen : c.clk.sen = true) (hr : c.clk.reqR < r) :
    droopRequestC c r = ({ c with clk := { c.clk.requested r with
      decD := max c.clk.decD r, decAt := c.clk.free, riseAt := c.clk.free } } : Cluster).bump (rClk + 0x28) (rClk + 0x30) 2 1 := by
  exact (if_pos (by simp [hlive, hlocked, hsen])).trans (if_pos hr)

theorem stretchDecayC_of_due (hlocked : c.clk.locked = true) (hsen : c.clk.sen = true) (hd : c.clk.reqR < c.clk.decD)
    (hat : c.clk.decAt + 32 ≤ c.clk.free) :
    stretchDecayC c = { c with clk := { c.clk with decD := c.clk.decD - 1, decAt := c.clk.free } } :=
  if_pos (by simp [Cluster.decayDue, hlive, hlocked, hsen, hd, hat])

theorem throttleRequestC_of_live (r : Nat) : throttleRequestC c r = { c with tim := { c.tim with req := r } } := if_pos hlive

theorem throttlePeriodC_of_locked (h : c.clk.locked = true) :
    throttlePeriodC c = { c with tim := { c.tim with duty := c.tim.dutyNext } } := if_pos (by simp [hlive, h])

theorem aliveToggleC_of_due (h : c.flt.aliveAt + 50000 ≤ c.clk.ckm) : aliveToggleC c =
    { c with flt := { c.flt with alive := !c.flt.alive, aliveAt := c.flt.aliveAt + 50000 } } := if_pos (by simp [hlive, h])

/-! Telemetry (R447). -/

theorem telemetryUpdateC_of_rail (w : W64) (h : 1 ≤ c.stage) : telemetryUpdateC c (.rail w) = c.setReg (rPwr + 0x200) w := by
  simp [telemetryUpdateC, hlive, h]

omit hlive in
theorem sextN_eq_toInt (x : BitVec 16) : sextN 16 x.toNat = x.toInt := by
  have hlt := x.isLt
  rw [sextN, BitVec.toInt_eq_toNat_cond]
  split <;> split <;> omega

omit hlive in
/-- The word of a temperature: SEEN, the highest one and the present one. -/
theorem temperatureWord (top v : BitVec 16) : place v.toNat 0 ||| place top.toNat 16 ||| placeB true 32 = (1#32 ++ top ++ v : W64) := by
  have hv := v.isLt
  have htop := top.isLt
  have hlow : place v.toNat 0 = BitVec.ofNat 64 v.toNat := rfl
  rw [BitVec.or_comm, placeB_eq, hlow, BitVec.or_comm (BitVec.ofNat 64 v.toNat), place_or_ofNat _ hv, place_or_ofNat _ (by omega)]
  apply BitVec.eq_of_toNat_eq
  rw [BitVec.toNat_append, BitVec.toNat_append, ← Nat.shiftLeft_add_eq_or_of_lt hv, ← Nat.shiftLeft_add_eq_or_of_lt htop,
    Nat.shiftLeft_eq, Nat.shiftLeft_eq, BitVec.toNat_ofNat]
  simp only [Bool.toNat_true, BitVec.toNat_ofNat]
  omega

/-- The highest temperature seen with v (R447). -/
def topSeen (old : W64) (v : BitVec 16) : BitVec 16 :=
  if old.getLsbD 32 = true ∧ v.sle (old.extractLsb' 16 16) = true then old.extractLsb' 16 16 else v

theorem telemetryUpdateC_of_temp (i : Fin 9) (v : BitVec 16) (h : 1 ≤ c.stage) :
    let a := rPwr + 0x100 + 4 * i.val
    telemetryUpdateC c (.temp i v) = c.setReg a (1#32 ++ topSeen (c.regAt a) v ++ v) := by
  intro a
  have hmx : (if bitAt (c.regAt a) 32 && decide (sextN 16 v.toNat ≤ sextN 16 (fld (c.regAt a) 31 16)) then fld (c.regAt a) 31 16
      else v.toNat) = (topSeen (c.regAt a) v).toNat := by
    rw [fld_eq_extract, sextN_eq_toInt, sextN_eq_toInt, topSeen, BitVec.sle, bitAt]
    simp only [Bool.and_eq_true, decide_eq_true_eq]
    split <;> rfl
  rw [← temperatureWord, ← hmx]
  simp [telemetryUpdateC, hlive, h, a]

end

end Sys2Proof.Machine

open Sys2Proof Sys2Proof.Machine

/-- Settles O44: each event of start-up and each pulse, where its guard holds. -/
theorem startUp : Obligations.StartUp := by
  unfold Obligations.StartUp
  intro s c gives
  have step {i : Instr} {d e : Cluster} (hexec : exec i s = done s d) (hd : d = e) : exec i s = gives e := hexec.trans (congrArg (done s) hd)
  refine ⟨fun h => step rfl (powerGoodC_of_unpowered h), fun h => ⟨step rfl (powerGoodC_of_powered h), step rfl (powerLossC_of_powered h)⟩,
    fun hlive hstage => ⟨fun h => step rfl (pllLockC_of_unlocked hlive hstage h),
      fun cal hlocked hsen => step rfl (droopCalibrationDoneC_of_locked hlive hstage cal hlocked hsen),
      fun j hsen hdead => step rfl (crossingAlignC_of_calibrated hlive hstage j.val hsen hdead)⟩,
    fun f go h => ⟨(f.total_write go).trans h, (f.total_read go).trans h⟩,
    fun f hpower hstage => step rfl (stageCompleteC_of_stage0 f hpower hstage),
    fun f hlive => ⟨fun hstage hlanes hruns => step rfl (stageCompleteC_of_stage1 f hlive hstage hlanes hruns),
      fun hstage htb hfree => step rfl (stageCompleteC_of_stage2 f hlive hstage htb hfree),
      fun hstage => step rfl (stageCompleteC_of_operating f hlive hstage)⟩,
    fun hlive hlanes v => ⟨fun h => step rfl (alignmentPulseC_of_first hlive v hlanes h), fun h => ?later⟩,
    fun hlive hruns => step rfl (alignmentPulseMissingC_of_counting hlive hruns)⟩
  case later =>
    intro d far t
    exact ⟨fun hnear => step rfl (alignmentPulseC_of_near hlive v hlanes h (mt (one_lt_natAbs_iff d).mp hnear)),
      fun hfar => step rfl (alignmentPulseC_of_far hlive v hlanes h ((one_lt_natAbs_iff d).mpr hfar))⟩

/-- Settles O45: each event of the stretcher, the throttle, telemetry and ALIVE, where its guard holds. -/
theorem clockAndPower : Obligations.ClockAndPower := by
  unfold Obligations.ClockAndPower
  intro s c k gives hlive
  have step {i : Instr} {d e : Cluster} (hexec : exec i s = done s d) (hd : d = e) : exec i s = gives e := hexec.trans (congrArg (done s) hd)
  exact ⟨fun l hlocked hsen => ⟨fun hl => step rfl (droopRequestC_of_fall hlive hlocked hsen hl),
      fun hl => step rfl (droopRequestC_of_rise hlive hlocked hsen hl)⟩,
    fun hlocked hsen hd hat => step rfl (stretchDecayC_of_due hlive hlocked hsen hd hat),
    fun r => step rfl (throttleRequestC_of_live hlive r.val),
    fun hlocked => step rfl (throttlePeriodC_of_locked hlive hlocked),
    fun hstage => ⟨fun w => step rfl (telemetryUpdateC_of_rail hlive w hstage),
      fun i v => step rfl (telemetryUpdateC_of_temp hlive i v hstage)⟩,
    fun h => step rfl (aliveToggleC_of_due hlive h)⟩

end

section
/-! Requests of the runtime (R377 to R392), teardown of a context (R386), and the quiet period (R423). -/

namespace Sys2Proof.Machine

/-- The top two bits of a word are cleared. -/
theorem setFld_top_two (w : W64) : setFld w 63 62 0 = 0#2 ++ w.extractLsb' 0 62 := by
  refine BitVec.eq_of_getLsbD_eq fun i hi => ?_
  rw [getLsbD_setFld _ _ _ _ _ (by decide) hi, BitVec.getLsbD_append, BitVec.getLsbD_extractLsb']
  by_cases h : i < 62
  · simp [h, show ¬ 62 ≤ i by omega]
  · simp [h, show 62 ≤ i ∧ i ≤ 63 by omega]

/-! DISPATCH_SUBMIT (R377). -/

section
variable {c : Cluster} (hans : c.answers = true)
include hans

theorem dispatchSubmitC_of_unknown (h : c.imgOf (c.dictAt 0x2303 1) = none) : dispatchSubmitC c = c.dispLog 1 (c.dictAt 0x2303 1) := by
  simp [dispatchSubmitC, hans, h]

/-- The request that is queued (R377). -/
def Cluster.stagedReq (c : Cluster) : Req :=
  ⟨c.nextOrd, c.dictAt 0x2303 1, BitVec.ofNat 64 (c.dictAt 0x2303 2), (c.dictAt 0x2303 3).testBit 0, c.dictAt 0x2303 3 / 2 % 4,
    c.dictAt 0x2303 4⟩

section
variable (himg : c.imgOf (c.dictAt 0x2303 1) ≠ none)
include himg

theorem dispatchSubmitC_of_known : dispatchSubmitC c =
    if c.fits (c.dictAt 0x2303 1) then if 16 ≤ c.reqs.length then c.dispLog 3 (c.dictAt 0x2303 1)
      else { c with reqs := c.reqs ++ [c.stagedReq], nextOrd := c.nextOrd + 1 }
    else c.dispLog 2 (c.dictAt 0x2303 1) := by
  have himg : ¬ (c.imgOf (c.dictAt 0x2303 1)).isNone = true := by simpa using himg
  refine (if_neg (by simp [hans])).trans ((if_neg himg).trans ?_)
  cases c.fits (c.dictAt 0x2303 1) <;> rfl

theorem dispatchSubmitC_of_budget (h : c.fits (c.dictAt 0x2303 1) = false) : dispatchSubmitC c = c.dispLog 2 (c.dictAt 0x2303 1) :=
  (dispatchSubmitC_of_known hans himg).trans (if_neg (Bool.eq_false_iff.mp h))

theorem dispatchSubmitC_of_full (hfits : c.fits (c.dictAt 0x2303 1) = true) (h : 16 ≤ c.reqs.length) :
    dispatchSubmitC c = c.dispLog 3 (c.dictAt 0x2303 1) :=
  (dispatchSubmitC_of_known hans himg).trans ((if_pos hfits).trans (if_pos h))

theorem dispatchSubmitC_of_room (hfits : c.fits (c.dictAt 0x2303 1) = true) (h : c.reqs.length < 16) :
    dispatchSubmitC c = { c with reqs := c.reqs ++ [c.stagedReq], nextOrd := c.nextOrd + 1 } :=
  (dispatchSubmitC_of_known hans himg).trans ((if_pos hfits).trans (if_neg (not_le.mpr h)))

end

/-! Stop, teardown, re-arm, snapshot, CLEAR_FIRST. -/

theorem stopRequestC_of_run {r : Run} (h : c.run = some r) : stopRequestC c = { c with run := some { r with stop := true } } := by
  simp only [stopRequestC, h, hans, if_true]

theorem rearmC_of_unbound {k : Nat} (h : (c.ctx k).state ≤ 1) : rearmC c k = c.doRearm k :=
  (if_neg (by simp [hans])).trans (if_pos h)

theorem rearmC_of_bound {k : Nat} (h : 1 < (c.ctx k).state) : rearmC c k = c.setCtx k { c.ctx k with rearm := true } :=
  (if_neg (by simp [hans])).trans (if_neg (not_le.mpr h))

theorem snapshotC_of_unbound {k : Nat} (h : (c.ctx k).state ≤ 1) : snapshotC c k = c.doSnapshot k :=
  (if_neg (by simp [hans])).trans (if_pos h)

theorem snapshotC_of_bound {k : Nat} (h : 1 < (c.ctx k).state) : snapshotC c k = c.setCtx k { c.ctx k with snap := true } :=
  (if_neg (by simp [hans])).trans (if_neg (not_le.mpr h))

theorem clearFirstC_eq : clearFirstC c = c.setReg 0x20060010 (0#2 ++ (c.regAt 0x20060010).extractLsb' 0 62) :=
  (if_pos hans).trans (congrArg (c.setReg 0x20060010) (setFld_top_two _))

end

theorem stopRequestC_of_none {c : Cluster} (h : c.run = none) : stopRequestC c = c := by simp only [stopRequestC, h]

/-! The quiet period (R423). -/

theorem quietExpiryC_of_due {c : Cluster} (hlive : c.live = true) (hstate : c.flt.hstate = 2) (hquiet : c.flt.quietAt ≤ c.tk) :
    let d := c.each ((List.range 128).filter (c.pendingOf 2)) Cluster.ackOne
    let e := { d with flt := { d.flt with recov := min 0xFFFF (d.flt.recov + 1) } }
    quietExpiryC c = e.setHealth (if e.anyC then 1 else 0) := by
  refine (if_pos (by simp [hlive, hstate, hquiet])).trans ?_
  simp only [satN_eq_min, Nat.min_comm 0xFFFF]

/-! Teardown (R386). -/

/-- Has a lining begun? -/
def Cluster.begun (c : Cluster) : Bool := match c.run with
  | some r => r.begun
  | none => false

theorem Cluster.begun_iff (c : Cluster) : c.begun = true ↔ ∃ r, c.run = some r ∧ r.begun = true := by
  unfold Cluster.begun
  cases c.run <;> simp

/-- A context as its teardown leaves it (R386). -/
def Cluster.tornCtx (c : Cluster) (k : Nat) : Ctx :=
  { c.ctx k with torn := true, tornAt := if (c.ctx k).state == 2 && c.begun then c.lcc + 2 else 0,
                 tornEff := c.clk.free + (if (c.ctx k).state == 2 then 2 else 0) }

theorem Cluster.teardown_of_torn {c : Cluster} {k : Nat} (h : (c.ctx k).torn = true) : c.teardown k = c.keepTorn k := if_pos h

theorem Cluster.teardown_of_live {c : Cluster} {k : Nat} (h : (c.ctx k).torn = false) :
    c.teardown k = (c.account k 15 1).setCtx k (c.tornCtx k) := by
  refine (if_neg (Bool.eq_false_iff.mp h)).trans ?_
  simp only [Cluster.lcc, Cluster.account_run, Cluster.account_tim, Cluster.account_clk]
  rfl

theorem Cluster.ctx_teardown_self {c : Cluster} {k : Nat} (hk : k < 64) (h : (c.ctx k).torn = false) :
    (c.teardown k).ctx k = c.tornCtx k := by
  rw [Cluster.teardown_of_live h, Cluster.ctx_setCtx_self _ _ _ hk]

theorem Cluster.ctx_teardown_ne {c : Cluster} {k j : Nat} (hj : j ≠ k) (h : (c.ctx k).torn = false) :
    (c.teardown k).ctx j = c.ctx j := by
  rw [Cluster.teardown_of_live h, Cluster.ctx_setCtx_ne _ _ _ _ hj, Cluster.ctx_account]

theorem Cluster.mem_teardown {c : Cluster} {k : Nat} (h : (c.ctx k).torn = false) : (c.teardown k).mem = c.mem := by
  rw [Cluster.teardown_of_live h, Cluster.setCtx_mem, Cluster.account_mem]

theorem Cluster.tornAt_of_begun {c : Cluster} {k : Nat} (hbound : (c.ctx k).state = 2) (hbegun : c.begun = true) :
    (c.tornCtx k).tornAt = c.tim.lcc + 2 := if_pos (by simp [hbound, hbegun])

theorem Cluster.tornAt_of_not_begun {c : Cluster} {k : Nat} (h : ¬ ((c.ctx k).state = 2 ∧ c.begun = true)) :
    (c.tornCtx k).tornAt = 0 := if_neg (by simpa using h)

end Sys2Proof.Machine

open Sys2Proof Sys2Proof.Machine

/-- Settles O53: each request by what it finds, and the end of the quiet period. -/
theorem runtimeRequests : Obligations.RuntimeRequests := by
  unfold Obligations.RuntimeRequests
  refine ⟨fun s k => ?requests, fun c k => ?teardown⟩
  case requests =>
    intro c x gives lid flags
    have step {i : Instr} {d e : Cluster} (hexec : exec i s = done s d) (hd : d = e) : exec i s = gives e := hexec.trans (congrArg (done s) hd)
    refine ⟨fun hans => ⟨fun h => step rfl (dispatchSubmitC_of_unknown hans h),
        fun himg h => step rfl (dispatchSubmitC_of_budget hans himg h),
        fun himg hfits h => step rfl (dispatchSubmitC_of_full hans himg hfits h),
        fun himg hfits h => step rfl (dispatchSubmitC_of_room hans himg hfits h),
        fun r hr => step rfl (stopRequestC_of_run hans hr),
        fun h => step rfl (stopRequestC_of_none h),
        step rfl (if_pos hans),
        fun h => ⟨step rfl (rearmC_of_unbound hans h), step rfl (snapshotC_of_unbound hans h)⟩,
        fun h => ⟨step rfl (rearmC_of_bound hans h), step rfl (snapshotC_of_bound hans h)⟩,
        step rfl (clearFirstC_eq hans)⟩,
      fun hpower => step rfl (if_pos hpower),
      fun hlive hstate hquiet => step rfl (quietExpiryC_of_due hlive hstate hquiet)⟩
  case teardown =>
    intro x begun
    refine ⟨Cluster.teardown_of_torn, fun h => ?_⟩
    have hself := Cluster.ctx_teardown_self k.isLt h
    refine ⟨by rw [hself]; rfl, fun hbound hbegun => ?_, fun hnot => ?_, fun j hj => Cluster.ctx_teardown_ne (Fin.val_ne_of_ne hj) h,
      Cluster.mem_teardown h⟩
    · rw [hself]
      exact Cluster.tornAt_of_begun hbound (c.begun_iff.mpr hbegun)
    · rw [hself]
      exact Cluster.tornAt_of_not_begun (fun hboth => hnot ⟨hboth.1, c.begun_iff.mp hboth.2⟩)

end

section
/-! Writes of the object dictionary that act on a unit: where the agent answers, under the level of the entry, with the value
as it is clamped (R61, R463 to R467, R475). -/

namespace Sys2Proof.Machine

section
variable {c : Cluster} {g : Grants} {i s v : Nat} {f : Cluster → Nat → Cluster}

/-- A value that has passed its checks, handed to its unit where some field acts (R466). -/
def Cluster.acted (c : Cluster) (i s v : Nat) (f : Cluster → Nat → Cluster) : Cluster :=
  if (c.clampEntry i s v).2.2 then f (c.clampEntry i s v).1 (c.clampEntry i s v).2.1 else (c.clampEntry i s v).1

theorem Cluster.written_of_answers (h : c.answers = true) : c.written i s v f = c.acted i s v f := if_neg (by simp [h])
theorem Cluster.written_of_silent (h : c.answers = false) : c.written i s v f = c := if_pos (by simp [h])
theorem Cluster.writtenM_of_silent (h : c.answers = false) : c.writtenM g i s v f = c := if_neg (by simp [h])
theorem Cluster.writtenD_of_silent (h : c.answers = false) : c.writtenD g i s v f = c := if_neg (by simp [h])

@[simp] theorem Cluster.sample_answers (c : Cluster) (g : Grants) : (c.sample g).answers = c.answers := by
  unfold Cluster.sample
  split <;> rfl

theorem Cluster.sample_eq (c : Cluster) (g : Grants) : c.sample g =
    { c with moss := { c.moss with maint := g.maint, debug := g.debug }
             tim := if g.debug then c.tim else { c.tim with haltReq := false } } := by
  unfold Cluster.sample
  split <;> rfl

theorem Cluster.writtenM_of_grant (h : c.answers = true) (hg : g.maint = true) :
    c.writtenM g i s v f = (c.sample g).acted i s v f :=
  (if_pos h).trans ((if_pos hg).trans (Cluster.written_of_answers (by rw [Cluster.sample_answers, h])))

theorem Cluster.writtenM_of_refused (h : c.answers = true) (hg : g.maint = false) : c.writtenM g i s v f = c.sample g :=
  (if_pos h).trans (if_neg (Bool.eq_false_iff.mp hg))

theorem Cluster.writtenD_of_grant (h : c.answers = true) (hg : g.debug = true) :
    c.writtenD g i s v f = (c.sample g).acted i s v f :=
  (if_pos h).trans ((if_pos hg).trans (Cluster.written_of_answers (by rw [Cluster.sample_answers, h])))

theorem Cluster.writtenD_of_refused (h : c.answers = true) (hg : g.debug = false) : c.writtenD g i s v f = c.sample g :=
  (if_pos h).trans (if_neg (Bool.eq_false_iff.mp hg))

end

/-! STEP (R475). -/

section
variable {c : Cluster} {g : Grants}

omit c g in
/-- A step with a lining running, and one without (log entry 105). -/
theorem Cluster.stepFor_eq : Cluster.stepFor = fun c n =>
    if c.tim.running then { c with tim := { c.tim with stepEnd := some (c.tim.lcc + n) } }
    else ({ c with tim := { c.tim with stepEnd := some n, haltKept := false } } : Cluster).event 5 (leBytes 4 0 ++ leBytes 4 0) := by
  funext c n
  rfl

theorem stepHaltedC_of_silent (n : W32) (h : c.answers = false) : stepHaltedC c n g = c := by
  rw [stepHaltedC, Cluster.writtenD_of_silent h, h]
  exact ite_self _

theorem stepHaltedC_of_granted (n : W32) (h : c.answers = true) (hhalted : c.halted = true) (hg : g.debug = true) :
    stepHaltedC c n g = (c.sample g).acted 0x3001 2 n.toNat Cluster.stepFor :=
  (if_pos hhalted).trans (Cluster.writtenD_of_grant h hg)

theorem stepHaltedC_of_refused (n : W32) (h : c.answers = true) (href : c.halted = false ∨ g.debug = false) :
    stepHaltedC c n g = c.sample g := by
  by_cases hhalted : c.halted = true
  · exact (if_pos hhalted).trans (Cluster.writtenD_of_refused h (href.resolve_left (by simp [hhalted])))
  · exact (if_neg hhalted).trans (if_pos h)

end

/-! PWR_BUDGET (R61). -/

theorem dictEntry_budget : dictEntry 0x2000 0x20 = some ⟨2, .rw, [⟨15, 0, .clamp 240 1000⟩]⟩ := rfl

theorem Cluster.clampEntry_budget_of_fits {v : Nat} (c : Cluster) (hlow : 240 ≤ v) (hhigh : v ≤ 1000) :
    c.clampEntry 0x2000 0x20 v = (c, v, true) := by
  have hx : v % 65536 = v := Nat.mod_eq_of_lt (by omega)
  simp [Cluster.clampEntry, dictEntry_budget, Cluster.clampFields, checkField, hx, not_lt.mpr hlow, not_lt.mpr hhigh]

/-- A budget outside 240 to 1,000 is stored as the end of the range that it misses, with one clamp record. -/
theorem Cluster.clampEntry_budget_of_outside {v : Nat} (c : Cluster) (hv : v < 2 ^ 16) (h : v < 240 ∨ 1000 < v) :
    ∃ kind, c.clampEntry 0x2000 0x20 v =
      (c.clampRec 0x2000 0x20 kind 0 v (if v < 240 then 240 else 1000), if v < 240 then 240 else 1000, true) := by
  have hx : v % 65536 = v := Nat.mod_eq_of_lt hv
  by_cases hlow : v < 240
  · exact ⟨0, by simp [Cluster.clampEntry, dictEntry_budget, Cluster.clampFields, checkField, hx, hlow]⟩
  · have hhigh : 1000 < v := by omega
    exact ⟨1, by simp [Cluster.clampEntry, dictEntry_budget, Cluster.clampFields, checkField, hx, hlow, hhigh]⟩

theorem Cluster.regAt_clampRec (c : Cluster) (i s kind flsb written stored b : Nat) :
    (c.clampRec i s kind flsb written stored).regAt b = c.regAt b := by
  rw [Cluster.regAt, Cluster.clampRec_reg, Cluster.regAt]

end Sys2Proof.Machine

open Sys2Proof Sys2Proof.Machine

/-- Settles O40: the agent's state and the level's grant decide whether a write reaches its unit, and the budget's range what
is stored. -/
theorem dictionaryCommands : Obligations.DictionaryCommands := by
  unfold Obligations.DictionaryCommands
  refine ⟨fun s lid r e v16 v v8 v32 n vt k v64 a src g => ?commands, fun s v => ?budget⟩
  case commands =>
    intro c open_ maint debug step act sampled
    have hsample : c.sample g = sampled := c.sample_eq g
    have hopen : ∀ p ∈ open_, exec p.1 s = done s (c.written p.2.1 p.2.2.1 p.2.2.2.1 p.2.2.2.2) := by
      simp only [open_, List.forall_mem_cons]
      exact ⟨rfl, rfl, rfl, rfl, rfl, rfl, rfl, rfl, rfl, rfl, List.forall_mem_nil _⟩
    have hmaint : ∀ p ∈ maint, exec p.1 s = done s (c.writtenM g p.2.1 p.2.2.1 p.2.2.2.1 p.2.2.2.2) := by
      simp only [maint, List.forall_mem_cons]
      exact ⟨rfl, rfl, rfl, rfl, rfl, List.forall_mem_nil _⟩
    have hdebug : ∀ p ∈ debug, exec p.1 s = done s (c.writtenD g p.2.1 p.2.2.1 p.2.2.2.1 p.2.2.2.2) := by
      simp only [debug, List.forall_mem_cons]
      exact ⟨rfl, rfl, List.forall_mem_nil _⟩
    refine ⟨fun hans p hp => ?silent, fun hans => congrArg (done s) (stepHaltedC_of_silent n hans),
      fun hans hhalted hg => ?step,
      fun hans href => congrArg (done s) ((stepHaltedC_of_refused n hans href).trans hsample),
      fun hans p hp => (hopen p hp).trans (congrArg (done s) (Cluster.written_of_answers hans)),
      fun hans hg p hp => (hmaint p hp).trans (congrArg (done s) ((Cluster.writtenM_of_grant hans hg).trans (by rw [hsample, Cluster.acted]))),
      fun hans hg p hp => (hmaint p hp).trans (congrArg (done s) ((Cluster.writtenM_of_refused hans hg).trans hsample)),
      fun hans hg p hp => (hdebug p hp).trans (congrArg (done s) ((Cluster.writtenD_of_grant hans hg).trans (by rw [hsample, Cluster.acted]))),
      fun hans hg p hp => (hdebug p hp).trans (congrArg (done s) ((Cluster.writtenD_of_refused hans hg).trans hsample))⟩
    case step =>
      have hstep := stepHaltedC_of_granted n hans hhalted hg
      rw [hsample, Cluster.stepFor_eq] at hstep
      exact congrArg (done s) hstep
    rw [List.mem_append, List.mem_append] at hp
    obtain (hp | hp) | hp := hp
    · exact (hopen p hp).trans (congrArg (done s) (Cluster.written_of_silent hans))
    · exact (hmaint p hp).trans (congrArg (done s) (Cluster.writtenM_of_silent hans))
    · exact (hdebug p hp).trans (congrArg (done s) (Cluster.writtenD_of_silent hans))
  case budget =>
    intro c fits hans hcanon
    have hexec : exec (.budgetWrite v) s = done s (c.acted 0x2000 0x20 v.toNat (fun c v => c.setReg 0x20020000 (BitVec.ofNat 64 v))) :=
      congrArg (done s) (Cluster.written_of_answers hans)
    have hv : v.toNat < 2 ^ 16 := v.isLt
    by_cases hfits : fits
    · obtain ⟨hlow, hhigh⟩ := hfits
      rw [Cluster.acted, c.clampEntry_budget_of_fits hlow hhigh] at hexec
      refine ⟨_, hexec, ?_, ?_, fun b hb => Cluster.regAt_setReg_ne _ hb⟩
      · exact (Cluster.regAt_setReg_self hcanon _ _).trans (by rw [if_neg (by omega), if_neg (by omega)])
      · exact (if_pos ⟨hlow, hhigh⟩).symm
    · have hout : v.toNat < 240 ∨ 1000 < v.toNat := by simp only [fits] at hfits; omega
      obtain ⟨kind, hclamp⟩ := c.clampEntry_budget_of_outside hv hout
      rw [Cluster.acted, hclamp] at hexec
      refine ⟨_, hexec, ?_, ?_, fun b hb => ?_⟩
      · refine (Cluster.regAt_setReg_self (Cluster.clampRec_canon _ _ _ _ _ _ _ hcanon) _ _).trans ?_
        by_cases hlow : v.toNat < 240
        · rw [if_pos hlow, if_pos hlow]
        · rw [if_neg hlow, if_neg hlow, if_pos (hout.resolve_left hlow)]
      · exact (if_neg hfits).symm
      · exact (Cluster.regAt_setReg_ne _ hb).trans (Cluster.regAt_clampRec ..)

end

section
/-! The fault collector: the order of its cycle, F, a source's record, FLT_FIRST, HSTATE, and escalation (R412 to R424); the
cluster-level sources and the deadlines of start-up (R415, R449). -/

namespace Sys2Proof.Machine

/-! The cluster-level sources (R415, R449). -/

section
variable {c : Cluster}

theorem Cluster.raise0_eq {src inst : Nat} {i : SrcInfo} (h : srcInfo src = some i) : c.raise0 src inst =
    { c with flt := { c.flt with inbox := c.flt.inbox ++ [⟨src, i.cls, inst, i.scope, 0, false, false, false, c.tb.value⟩] } } := by
  rw [Cluster.raise0, h]
  rfl

theorem pllLockTimeoutC_of_due (hlive : c.live = true) (hstage : c.stage ≤ 1) (hlock : c.clk.locked = false) (hckm : 10000 ≤ c.clk.ckm) :
    pllLockTimeoutC c = c.raise0 0x03 0 := if_pos (by simp [hlive, hstage, hlock, hckm])

theorem calibrationTimeoutC_of_due (hlive : c.live = true) (hstage : c.stage = 1) (hlock : c.clk.locked = true)
    (hsen : c.clk.sen = false) (hckm : c.clk.lockAt + 6000 ≤ c.clk.ckm) : calibrationTimeoutC c = c.raise0 0x02 0 :=
  if_pos (by simp [hlive, hstage, hlock, hsen, hckm])

theorem crossingAlignTimeoutC_of_due {l : Nat} (hlive : c.live = true) (hstage : c.stage = 1) (hsen : c.clk.sen = true)
    (hup : (c.lane l).up = false) (hdead : (c.lane l).dead = false) (hckm : c.clk.calAt + 2000 ≤ c.clk.ckm) :
    let d := (c.setLane l { c.lane l with dead := true }).raise0 0x2A l
    crossingAlignTimeoutC c l = if (d.lane (if l % 2 = 0 then l + 1 else l - 1)).dead then d.raise0 0x06 0 else d :=
  if_pos (by simp [hlive, hstage, hsen, hup, hdead, hckm])

theorem tbLoadTimeoutC_of_due (hlive : c.live = true) (hstage : c.stage = 1) (hlanes : c.lanesDone = true) (hruns : c.tb.runs = false)
    (hckm : 20000 ≤ c.clk.ckm) :
    tbLoadTimeoutC c = ({ c with tb := { c.tb with runs := true, value := 0 } } : Cluster).raise0 0x08 0 :=
  if_pos (by simp [hlive, hstage, hlanes, hruns, hckm])

/-- When the monitor may report the stretcher (log entry 103). -/
theorem Cluster.stretchFailed_iff (c : Cluster) : c.stretchFailed = true ↔
    (0 < c.clk.reqR ∧ c.clk.free = c.clk.riseAt + 2) ∨ (c.clk.reqR = 8 ∧ c.clk.fullAt + 1000 ≤ c.clk.ckm) := by
  simp [Cluster.stretchFailed]

theorem stretchTimeoutC_of_late (hlive : c.live = true) (hlock : c.clk.locked = true) (hsen : c.clk.sen = true)
    (h : c.stretchFailed = true) : stretchTimeoutC c = c.raise0 0x02 0 := if_pos (by simp [hlive, hlock, hsen, h])

theorem stretchTimeoutC_of_applied (h : ¬ c.stretchFailed = true) : stretchTimeoutC c = c := if_neg (by simp [h])

theorem clockMonitorWindowC_of_outside {n : Nat} (hpower : c.powered = true) (hlock : c.clk.locked = true) (h : n < 1600 ∨ 3700 < n) :
    clockMonitorWindowC c n = c.raise0 0x01 0 := if_pos (by simpa [hpower, hlock] using h)

theorem clockMonitorWindowC_of_inside {n : Nat} (hlow : 1600 ≤ n) (hhigh : n ≤ 3700) : clockMonitorWindowC c n = c :=
  if_neg (by simp [hlow, hhigh])

theorem pllLossOfLockC_of_locked (hpower : c.powered = true) (hlock : c.clk.locked = true) : pllLossOfLockC c = c.raise0 0x03 0 :=
  if_pos (by simp [hpower, hlock])

end

/-! The order of the collector's cycle (R413). -/

/-- Where a fault stands in the collector's cycle: ascending source, and within one ascending INST. -/
def FaultIn.key (f : FaultIn) : Nat := 4096 * f.src + f.inst

theorem Cluster.collect_eq (c : Cluster) :
    c.collect = ({ c with flt := { c.flt with inbox := [] } } : Cluster).each (sortOn FaultIn.key c.flt.inbox) Cluster.takeFault := rfl

theorem Cluster.collect_of_empty {c : Cluster} (h : c.flt.inbox = []) : c.collect = c := by
  rw [Cluster.collect_eq, h]
  exact congrArg (fun l => ({ c with flt := { c.flt with inbox := l } } : Cluster)) h.symm

theorem FaultIn.key_lt {f g : FaultIn} (hf : f.inst < 4096) (h : f.src < g.src ∨ (f.src = g.src ∧ f.inst < g.inst)) : f.key < g.key := by
  unfold FaultIn.key
  omega

theorem sortOn_pair {f g : FaultIn} {l : List FaultIn} (h : f.key < g.key) (hl : l = [f, g] ∨ l = [g, f]) :
    sortOn FaultIn.key l = [f, g] := by
  have hfg : ¬ g.key < f.key := by omega
  obtain rfl | rfl := hl
  · exact if_neg hfg
  · exact if_pos h

/-! What HSTATE and the events of a fault leave unchanged. -/

theorem Cluster.setHealth_form (c : Cluster) (h : Nat) :
    c.setHealth h = { c with flt := { c.flt with hstate := h }, moss := (c.setHealth h).moss } := by
  unfold Cluster.setHealth
  split
  case isTrue heq =>
    subst heq
    rfl
  case isFalse => exact Cluster.event_form _ _ _

theorem Cluster.latchFirst_form (c : Cluster) (f : FaultIn) (cls : Nat) (esc : Bool) :
    c.latchFirst f cls esc = { c with reg := (c.latchFirst f cls esc).reg, moss := (c.latchFirst f cls esc).moss } := by
  unfold Cluster.latchFirst
  dsimp only
  split
  · rfl
  · rw [Cluster.event_form]
    rfl

/-- HSTATE after a fault of class C or U (R422). -/
def healthAfter (cls h : Nat) : Nat := if cls = 2 then max 2 h else if h = 0 then 1 else h

theorem Cluster.health_form {c : Cluster} {cls : Nat} (src : Nat) (hcls : cls ≠ 3) : c.health cls src =
    { c with flt := { c.flt with hstate := healthAfter cls c.flt.hstate, quietAt := if cls = 2 then c.tk + c.quiet else c.flt.quietAt }
             moss := (c.health cls src).moss } := by
  have hsame {d : Cluster} {h : Nat} (hd : d.flt.hstate = h) : d = { d with flt := { d.flt with hstate := h } } := by
    subst hd
    rfl
  unfold Cluster.health
  rw [if_neg hcls]
  by_cases hU : cls = 2
  · simp only [hU, if_true, healthAfter]
    split
    case isTrue h => 
      rw [Cluster.setHealth_form, Nat.max_eq_left (by omega)]
    case isFalse h => exact hsame (by dsimp only; omega)
  · simp only [hU, if_false, healthAfter]
    split
    case isTrue h => rw [Cluster.setHealth_form]
    case isFalse h => rfl

theorem Cluster.regAt_health {c : Cluster} {cls : Nat} (src : Nat) (hcls : cls ≠ 3) (b : Nat) :
    (c.health cls src).regAt b = c.regAt b := by
  rw [Cluster.health_form src hcls]
  rfl

theorem Cluster.latchFirst_flt (c : Cluster) (f : FaultIn) (cls : Nat) (esc : Bool) : (c.latchFirst f cls esc).flt = c.flt := by
  rw [Cluster.latchFirst_form]

theorem Cluster.fatalEntry_of_live {c : Cluster} (src : Nat) (h : c.flt.fatal = false) :
    let d := c.fatalEntry src
    d.flt.fatal = true ∧ d.flt.fatalSrc = src ∧ d.flt.hstate = 3 ∧ d.run = none ∧ d.susp = [] ∧ d.intake.state = 0
      ∧ d.mem = c.mem ∧ d.queues = c.queues := by
  intro d
  have hd : d = _ := (if_neg (Bool.eq_false_iff.mp h)).trans (Cluster.setHealth_form _ 3)
  rw [hd]
  exact ⟨rfl, rfl, rfl, rfl, rfl, rfl, rfl, rfl⟩

/-! How the collector takes a fault (R417 to R422). -/

/-- Does a fault escalate: a second pending one of its class at one unit of an escalation domain that is not condemned
(R420)? -/
def Cluster.escalates (c : Cluster) (f : FaultIn) : Bool :=
  let r := c.regAt (rSrc f.src)
  let dom := escDomain f.src
  dom != 0 && bitAt r 63 && fld r 62 61 == f.cls && fld r 59 48 == f.inst && f.cls != 3 && !f.noEsc && !c.condemned dom f.inst

/-- A source's record after a fault that does not escalate (R417). -/
def Cluster.recordAfter (c : Cluster) (f : FaultIn) : W64 :=
  let r := c.regAt (rSrc f.src)
  let r1 := countFault r f.tb.toNat
  if !bitAt r 63 && f.cls != 3 then pendFault r1 f.cls f.inst else r1

section
variable {c : Cluster} {f : FaultIn}

theorem Cluster.takeFault_of_torn (hscope : f.scope = 1) (htorn : f.torn = true) :
    c.takeFault f = c.setReg (rSrc f.src) (countFault (c.regAt (rSrc f.src)) f.tb.toNat) := if_pos (by simp [hscope, htorn])

section
variable (hseen : f.scope ≠ 1 ∨ f.torn = false)
include hseen

theorem Cluster.takeFault_of_seen : c.takeFault f =
    let a := rSrc f.src
    let dom := escDomain f.src
    let cls := if c.escalates f then (if dom = 4 && f.cls = 2 then 3 else 2) else f.cls
    let d := c.setReg a (if c.escalates f then setFld (setFld (countFault (c.regAt a) f.tb.toNat) 62 61 2) 60 60 1
      else c.recordAfter f)
    ((if c.escalates f then d.pendUnit dom f.inst else d).latchFirst f cls (c.escalates f)).health cls f.src :=
  if_neg (by simpa [imp_iff_not_or] using hseen)

theorem Cluster.takeFault_of_plain (hesc : c.escalates f = false) :
    c.takeFault f = ((c.setReg (rSrc f.src) (c.recordAfter f)).latchFirst f f.cls false).health f.cls f.src := by
  rw [Cluster.takeFault_of_seen hseen, hesc]
  rfl

/-- A second pending C fault of a bank makes it pending for fencing, as a U fault (R420). -/
theorem Cluster.takeFault_of_bank (hsrc : f.src = 0x20) (hesc : c.escalates f = true) :
    c.takeFault f = (((c.setReg (rSrc f.src) (setFld (setFld (countFault (c.regAt (rSrc f.src)) f.tb.toNat) 62 61 2) 60 60 1)).pendBank
      f.inst).latchFirst f 2 true).health 2 f.src := by
  have hdom : escDomain f.src = 1 := by rw [hsrc]; rfl
  rw [Cluster.takeFault_of_seen hseen, hesc, hdom]
  rfl

end

theorem escDomain_of_fatal {src : Nat} (hlow : 1 ≤ src) (hhigh : src ≤ 7) : escDomain src = 0 := by
  simp [escDomain, srcInfo, hlow, hhigh]

theorem Cluster.escalates_bank (hsrc : f.src = 0x20) (hcls : f.cls = 1) (hnoEsc : f.noEsc = false)
    (hpend : (c.regAt (rSrc f.src)).getLsbD 63 = true) (hclass : (c.regAt (rSrc f.src)).extractLsb' 61 2 = 1)
    (hinst : ((c.regAt (rSrc f.src)).extractLsb' 48 12).toNat = f.inst) (hfence : c.flt.fenB.getLsbD f.inst = false)
    (hfree : c.flt.pendB.getLsbD f.inst = false) : c.escalates f = true := by
  have hdom : escDomain f.src = 1 := by rw [hsrc]; rfl
  have hclass : fld (c.regAt (rSrc f.src)) 62 61 = 1 := by
    rw [fld_eq_extract, hclass]
    rfl
  have hinst : fld (c.regAt (rSrc f.src)) 59 48 = f.inst := by rw [fld_eq_extract, hinst]
  have hclear : c.condemned 1 f.inst = false := by simp only [Cluster.condemned, hfence, hfree, Bool.or_self]
  have hpend : bitAt (c.regAt (rSrc f.src)) 63 = true := hpend
  simp [Cluster.escalates, hdom, hclass, hinst, hclear, hpend, hcls, hnoEsc]

theorem Cluster.escalates_of_no_domain (h : escDomain f.src = 0) : c.escalates f = false := by
  simp [Cluster.escalates, h]

end

/-! A source's record, field by field (R417). -/

/-- The parts of a word: its high 16 bits, the 16 below, and its low half. -/
theorem append_extracts (x : W64) : x.extractLsb' 48 16 ++ x.extractLsb' 32 16 ++ x.extractLsb' 0 32 = x := by
  refine BitVec.eq_of_getLsbD_eq fun i hi => ?_
  simp only [BitVec.getLsbD_append, BitVec.getLsbD_extractLsb']
  by_cases h1 : i < 32
  · simp [h1]
  · by_cases h2 : i - 32 < 16
    · simp [h1, h2, show 32 + (i - 32) = i by omega]
    · simp [h1, h2, show 48 + (i - 32 - 16) = i by omega, show i - 32 - 16 < 16 by omega]

/-- COUNT and LASTTB after one more fault; the bits above are kept. -/
theorem countFault_count (r tb : W64) :
    (countFault r tb.toNat).extractLsb' 32 16 = BitVec.ofNat 16 (min (r.toNat / 2 ^ 32 % 2 ^ 16 + 1) 0xFFFF) := by
  rw [countFault, extract_setFld_apart _ (by decide) (by decide) (by decide), extract_setFld_self _ (by decide) (by decide) (by decide),
    satN_eq_min, fld, Nat.shiftRight_eq_div_pow]

theorem countFault_tb (r tb : W64) : (countFault r tb.toNat).extractLsb' 0 32 = tb.truncate 32 := by
  rw [countFault, extract_setFld_self _ (by decide) (by decide) (by decide), BitVec.ofNat_toNat, BitVec.truncate_eq_setWidth]

theorem countFault_top (r tb : W64) {start len : Nat} (hlow : 48 ≤ start) (hhigh : start + len ≤ 64) :
    (countFault r tb.toNat).extractLsb' start len = r.extractLsb' start len := by
  rw [countFault, extract_setFld_apart _ (by decide) hhigh (by omega), extract_setFld_apart _ (by decide) hhigh (by omega)]

theorem countFault_eq (r tb : W64) : countFault r tb.toNat =
    r.extractLsb' 48 16 ++ BitVec.ofNat 16 (min (r.toNat / 2 ^ 32 % 2 ^ 16 + 1) 0xFFFF) ++ tb.truncate 32 := by
  rw [← append_extracts (countFault r tb.toNat), countFault_top r tb (by decide) (by decide), countFault_count, countFault_tb]

/-- PEND, class and INST of a record that becomes pending. -/
theorem pendFault_top (r : W64) (cls inst : Nat) :
    (pendFault r cls inst).extractLsb' 48 16 = 1#1 ++ BitVec.ofNat 2 cls ++ 0#1 ++ BitVec.ofNat 12 inst := by
  refine BitVec.eq_of_getLsbD_eq fun i hi => ?_
  simp only [pendFault, BitVec.getLsbD_extractLsb', BitVec.getLsbD_append, BitVec.getLsbD_ofNat]
  rw [getLsbD_setFld _ _ _ _ _ (by decide) (by omega), getLsbD_setFld _ _ _ _ _ (by decide) (by omega),
    getLsbD_setFld _ _ _ _ _ (by decide) (by omega), getLsbD_setFld _ _ _ _ _ (by decide) (by omega)]
  by_cases h1 : i < 12
  · simp [h1, show i < 16 by omega, show 48 + i ≤ 59 by omega]
  · obtain rfl | rfl | rfl | rfl : i = 12 ∨ i = 13 ∨ i = 14 ∨ i = 15 := by omega
    all_goals simp

theorem pendFault_low (r : W64) (cls inst : Nat) {start len : Nat} (h : start + len ≤ 48) :
    (pendFault r cls inst).extractLsb' start len = r.extractLsb' start len := by
  simp (disch := omega) only [pendFault, extract_setFld_apart]

theorem Cluster.recordAfter_eq {c : Cluster} {f : FaultIn} (hcls : f.cls ≠ 3) :
    let r := c.regAt (rSrc f.src)
    c.recordAfter f = (if r.getLsbD 63 then r.extractLsb' 48 16 else 1#1 ++ BitVec.ofNat 2 f.cls ++ 0#1 ++ BitVec.ofNat 12 f.inst)
      ++ BitVec.ofNat 16 (min (r.toNat / 2 ^ 32 % 2 ^ 16 + 1) 0xFFFF) ++ f.tb.truncate 32 := by
  intro r
  unfold Cluster.recordAfter
  change (if !r.getLsbD 63 && f.cls != 3 then pendFault (countFault r f.tb.toNat) f.cls f.inst else countFault r f.tb.toNat) = _
  cases hpend : r.getLsbD 63 with
  | true => exact countFault_eq r f.tb
  | false =>
    rw [if_pos (by simp [hcls]), ← append_extracts (pendFault _ _ _), pendFault_top, pendFault_low _ _ _ (by decide),
      pendFault_low _ _ _ (by decide), countFault_count, countFault_tb]
    rfl

/-! FLT_FIRST (R418). -/

/-- FLT_FIRST of a fault. -/
def firstWord (f : FaultIn) (cls : Nat) (esc : Bool) : W64 :=
  placeB true 63 ||| place cls 60 ||| placeB esc 59 ||| placeB f.forced 58 ||| place f.src 50
    ||| place (if cls = 3 then 5 else f.scope) 47 ||| place (if f.scope = 1 then f.ctx else 0) 41 ||| place f.inst 29

theorem firstWord_eq {f : FaultIn} {cls : Nat} {esc : Bool} (hinst : f.inst < 4096) (hscope : f.scope < 8) (hctx : f.ctx < 64)
    (hsrc : f.src < 128) (hcls : cls < 4) : firstWord f cls esc = BitVec.ofNat 64 (true.toNat * 2 ^ 63 + (cls * 2 ^ 60
      + (esc.toNat * 2 ^ 59 + (f.forced.toNat * 2 ^ 58 + (f.src * 2 ^ 50 + ((if cls = 3 then 5 else f.scope) * 2 ^ 47
      + ((if f.scope = 1 then f.ctx else 0) * 2 ^ 41 + f.inst * 2 ^ 29))))))) := by
  have hlast : place f.inst 29 = BitVec.ofNat 64 (f.inst * 2 ^ 29) := by rw [place, Nat.shiftLeft_eq]
  have hscope' : (if cls = 3 then 5 else f.scope) < 8 := by split <;> omega
  have hctx' : (if f.scope = 1 then f.ctx else 0) < 64 := by split <;> omega
  have hesc := esc.toNat_lt
  have hforced := f.forced.toNat_lt
  rw [firstWord, placeB_eq, placeB_eq, placeB_eq, hlast]
  generalize (if cls = 3 then 5 else f.scope) = scope at hscope' ⊢
  generalize (if f.scope = 1 then f.ctx else 0) = ctx at hctx' ⊢
  simp only [BitVec.or_assoc]
  rw [place_or_ofNat _ (by omega), place_or_ofNat _ (by omega), place_or_ofNat _ (by omega), place_or_ofNat _ (by omega),
    place_or_ofNat _ (by omega), place_or_ofNat _ (by omega), place_or_ofNat _ (by omega)]

/-- VALID and the class of FLT_FIRST. -/
theorem firstWord_class {f : FaultIn} {cls : Nat} {esc : Bool} (hinst : f.inst < 4096) (hscope : f.scope < 8) (hctx : f.ctx < 64)
    (hsrc : f.src < 128) (hcls : cls < 4) :
    (firstWord f cls esc).getLsbD 63 = true ∧ (firstWord f cls esc).extractLsb' 60 2 = BitVec.ofNat 2 cls := by
  have hscope' : (if cls = 3 then 5 else f.scope) < 8 := by split <;> omega
  have hctx' : (if f.scope = 1 then f.ctx else 0) < 64 := by split <;> omega
  have hesc := esc.toNat_lt
  have hforced := f.forced.toNat_lt
  rw [firstWord_eq hinst hscope hctx hsrc hcls]
  generalize (if cls = 3 then 5 else f.scope) = scope at hscope' ⊢
  generalize (if f.scope = 1 then f.ctx else 0) = ctx at hctx' ⊢
  constructor
  · rw [BitVec.getLsbD_ofNat, Nat.testBit_eq_decide_div_mod_eq]
    simp only [Bool.toNat_true, Bool.and_eq_true, decide_eq_true_eq]
    omega
  · apply BitVec.eq_of_toNat_eq
    rw [BitVec.extractLsb'_toNat, BitVec.toNat_ofNat, BitVec.toNat_ofNat, Nat.shiftRight_eq_div_pow, Bool.toNat_true]
    omega

section
variable {c : Cluster} (f : FaultIn) (cls : Nat) (esc : Bool)

theorem Cluster.regAt_latchFirst_ne {b : Nat} (hfirst : b ≠ rFlt + 0x10) (hat : b ≠ rFlt + 0x18) :
    (c.latchFirst f cls esc).regAt b = c.regAt b := by
  unfold Cluster.latchFirst
  dsimp only
  split
  · exact Cluster.regAt_setReg_ne _ hfirst
  · rw [Cluster.event_form]
    exact (Cluster.regAt_setReg_ne _ hat).trans (Cluster.regAt_setReg_ne _ hfirst)

theorem Cluster.latchFirst_of_valid (h : (c.regAt (rFlt + 0x10)).getLsbD 63 = true) :
    c.latchFirst f cls esc = c.setReg (rFlt + 0x10) (c.regAt (rFlt + 0x10) ||| 2 ^ 62) := by
  have hovf : placeB true 62 = 2 ^ 62 := BitVec.eq_of_toNat_eq (by rw [BitVec.toNat_pow]; rfl)
  rw [← hovf]
  exact if_pos h

theorem Cluster.latchFirst_reg_of_empty (h : (c.regAt (rFlt + 0x10)).getLsbD 63 = false) : (c.latchFirst f cls esc).reg =
    ((c.setReg (rFlt + 0x10) (firstWord f cls esc)).setReg (rFlt + 0x18) f.tb).reg := by
  have hempty : ¬ bitAt (c.regAt (rFlt + 0x10)) 63 = true := by rw [bitAt, h]; decide
  simp only [Cluster.latchFirst, if_neg hempty]
  rw [Cluster.event_form]
  rfl

end

end Sys2Proof.Machine

open Sys2Proof Sys2Proof.Machine

/-- Settles O46: the sources at their deadlines, the order of a cycle, F, and a record that counts, becomes pending or
escalates. -/
theorem faultsRecorded : Obligations.FaultsRecorded := by
  unfold Obligations.FaultsRecorded
  refine ⟨fun s => ?sources, fun c src inst i => Cluster.raise0_eq, fun c f g hf hg => ?order, fun c f hlow hhigh hcls hscope hlive => ?fatal,
    fun c f hc hsrc hcls hinst hscope hctx => ?recorded⟩
  case sources =>
    intro c k gives
    have step {i : Instr} {d e : Cluster} (hexec : exec i s = done s d) (hd : d = e) : exec i s = gives e := hexec.trans (congrArg (done s) hd)
    exact ⟨fun hlive hstage hlock hckm => step rfl (pllLockTimeoutC_of_due hlive hstage hlock hckm),
      fun hlive hstage hlock hsen hckm => step rfl (calibrationTimeoutC_of_due hlive hstage hlock hsen hckm),
      fun l hlive hstage hsen hup hdead hckm => step rfl (crossingAlignTimeoutC_of_due hlive hstage hsen hup hdead hckm),
      fun hlive hstage hlanes hruns hckm => step rfl (tbLoadTimeoutC_of_due hlive hstage hlanes hruns hckm),
      fun hlive hlock hsen => ⟨fun hlate => step rfl (stretchTimeoutC_of_late hlive hlock hsen (c.stretchFailed_iff.mpr hlate)),
        fun hlate => step rfl (stretchTimeoutC_of_applied (mt c.stretchFailed_iff.mp hlate))⟩,
      fun n hpower hlock => ⟨fun hn => step rfl (clockMonitorWindowC_of_outside hpower hlock hn),
        fun hlow hhigh => step rfl (clockMonitorWindowC_of_inside hlow hhigh)⟩,
      fun hpower hlock => step rfl (pllLossOfLockC_of_locked hpower hlock),
      fun hpower => ⟨step rfl (if_pos hpower), step rfl (if_pos hpower), step rfl (if_pos hpower)⟩⟩
  case order =>
    intro d
    refine ⟨Cluster.collect_of_empty, fun h => ?_, fun hlt h => ?_⟩
    · rw [Cluster.collect_eq, h]
      rfl
    · rw [Cluster.collect_eq, sortOn_pair (FaultIn.key_lt hf hlt) h]
      rfl
  case fatal =>
    intro d
    have hplain : d = _ := Cluster.takeFault_of_plain (Or.inl (by omega)) (Cluster.escalates_of_no_domain (escDomain_of_fatal hlow hhigh))
    rw [hcls] at hplain
    have hflt := (c.setReg (rSrc f.src) (c.recordAfter f)).latchFirst_flt f 3 false
    have hform := (c.setReg (rSrc f.src) (c.recordAfter f)).latchFirst_form f 3 false
    obtain ⟨hfatal, hsrc, hstate, hrun, hsusp, hintake, hmem, hqueues⟩ :=
      Cluster.fatalEntry_of_live (c := (c.setReg (rSrc f.src) (c.recordAfter f)).latchFirst f 3 false) f.src (by rw [hflt]; exact hlive)
    have hd : d = ((c.setReg (rSrc f.src) (c.recordAfter f)).latchFirst f 3 false).fatalEntry f.src := hplain.trans (if_pos rfl)
    rw [hd]
    refine ⟨hfatal, hsrc, hstate, hrun, hsusp, hintake, ?_, ?_, ?_⟩
    · rw [Cluster.live, hfatal, Bool.not_true, Bool.and_false]
    · rw [hmem, hform]
      rfl
    · rw [hqueues, hform]
      rfl
  case recorded =>
    intro a r cnt tb d
    have hfirst : a ≠ rFlt + 0x10 := by simp only [a, rFlt]; omega
    have hat : a ≠ rFlt + 0x18 := by simp only [a, rFlt]; omega
    have hF : f.cls ≠ 3 := by omega
    refine ⟨fun hone htorn => ?torn, fun hseen hdom => ?plain, fun h20 hC hnoEsc hone hpend hclass hinst' hfence hfree => ?bank⟩
    case torn => exact (Cluster.takeFault_of_torn hone htorn).trans (congrArg (c.setReg a) (countFault_eq r f.tb))
    case plain =>
      let e := c.setReg a (c.recordAfter f)
      have hd : d = (e.latchFirst f f.cls false).health f.cls f.src :=
        Cluster.takeFault_of_plain hseen (Cluster.escalates_of_no_domain hdom)
      have hreg (b : Nat) : d.regAt b = (e.latchFirst f f.cls false).regAt b := by rw [hd, Cluster.regAt_health f.src hF]
      have heat {b : Nat} (hb : b ≠ a) : e.regAt b = c.regAt b := Cluster.regAt_setReg_ne _ hb
      refine ⟨?record, fun hvalid => ?ovf, fun hempty => ?first, ?health⟩
      case record =>
        rw [hreg, Cluster.regAt_latchFirst_ne _ _ _ hfirst hat]
        exact (Cluster.regAt_setReg_self hc _ _).trans (Cluster.recordAfter_eq hF)
      case ovf =>
        have hsame := heat hfirst.symm
        have hcanon : e.canon := Cluster.setReg_canon _ _ _ hc
        rw [hreg, Cluster.latchFirst_of_valid _ _ _ (hsame ▸ hvalid)]
        exact (Cluster.regAt_setReg_self hcanon _ _).trans (congrArg (· ||| 2 ^ 62) hsame)
      case first =>
        have hfresh := Cluster.latchFirst_reg_of_empty (c := e) f f.cls false ((heat hfirst.symm) ▸ hempty)
        have hcanon : e.canon := Cluster.setReg_canon _ _ _ hc
        have hword : d.regAt 0x20060010 = firstWord f f.cls false := by
          rw [hreg, Cluster.regAt, hfresh]
          exact (Cluster.regAt_setReg_ne _ (by decide)).trans (Cluster.regAt_setReg_self hcanon _ _)
        have htb : d.regAt 0x20060018 = f.tb := by
          rw [hreg, Cluster.regAt, hfresh]
          exact Cluster.regAt_setReg_self (Cluster.setReg_canon _ _ _ hcanon) _ _
        obtain ⟨hvalid, hcls'⟩ := firstWord_class (esc := false) hinst hscope hctx hsrc (show f.cls < 4 by omega)
        rw [hword]
        exact ⟨hvalid, hcls', htb⟩
      case health =>
        rw [hd, Cluster.health_form f.src hF, Cluster.latchFirst_flt]
        rfl
    case bank =>
      have hesc := Cluster.escalates_bank h20 hC hnoEsc hpend hclass hinst' hfence hfree
      let w := setFld (setFld (countFault r f.tb.toNat) 62 61 2) 60 60 1
      let e := (c.setReg a w).pendBank f.inst
      have hd : d = (e.latchFirst f 2 true).health 2 f.src := Cluster.takeFault_of_bank (Or.inl hone) h20 hesc
      have hw : d.regAt a = w := by
        rw [hd, Cluster.regAt_health f.src (by decide), Cluster.regAt_latchFirst_ne _ _ _ hfirst hat, Cluster.regAt, Cluster.pendBank_reg]
        exact Cluster.regAt_setReg_self hc _ _
      refine ⟨?_, ?_, ?_⟩
      · rw [hd, Cluster.health_form f.src (by decide), Cluster.latchFirst_flt]
        exact congrArg (fun x : Cluster => x.flt.pendB) (if_neg (Bool.eq_false_iff.mp hfence))
      · rw [hw]
        simp (disch := omega) only [w, extract_setFld_apart, extract_setFld_self]
        rfl
      · rw [hw, getLsbD_setFld _ _ _ _ _ (by decide) (by decide)]
        rfl

end

section
/-! The moss ring agent: frames that go on, are discarded, wait or are served, by what they hold (R457 to R473), and its
events (R468). -/

namespace Sys2Proof.Machine

theorem Cluster.node_eq_of_ident {c d : Cluster} (h : d.ident = c.ident) : d.node = c.node := by
  have hstraps : d.straps = c.straps := congrArg Prod.fst h
  rw [Cluster.node, Cluster.node, hstraps]

theorem frameForwardC_of_other {c : Cluster} {bs : List Byte} (hpower : c.powered = true) (hne : bs ≠ []) (hdst : fmDst bs ≠ c.node)
    (hsrc : 2 ≤ bs.length → fmSrc bs ≠ c.node) : frameForwardC c bs = c.putFrame (fmTrim bs) :=
  if_neg (by simpa [hpower, hne, hdst] using hsrc)

/-! A frame for the agent (R457, R461). -/

section
variable {c : Cluster} {bs : List Byte} {ty : Nat} {f : Cluster → Cluster} (hpower : c.powered = true) (hdst : fmDst bs = c.node)
  (hsrc : fmSrc bs ≠ c.node)
include hpower hdst hsrc

theorem Cluster.takeFrame_of_bad (hbad : fmBad bs = true) : c.takeFrame bs ty f = c.bump (rMgt + 0x10) (rMgt + 0x20) 1 1 :=
  (if_neg (by simp [hpower, Cluster.forMe, hdst, hsrc])).trans (if_pos hbad)

theorem Cluster.takeFrame_of_sound (hsound : fmBad bs = false) (hstage : 1 ≤ c.stage) (hty : fmType bs = ty) :
    c.takeFrame bs ty f = f c :=
  (if_neg (by simp [hpower, Cluster.forMe, hdst, hsrc])).trans ((if_neg (by simp [hsound])).trans (if_pos (by simp [hstage, hty])))

end

/-! A request that waits, and one that is served at once (R458). -/

@[simp] theorem Cluster.sample_mossBusy (c : Cluster) (g : Grants) : (c.sample g).mossBusy = c.mossBusy := by
  rw [Cluster.sample_eq]
  rfl

@[simp] theorem Cluster.sample_queue (c : Cluster) (g : Grants) : (c.sample g).moss.queue = c.moss.queue := by
  rw [Cluster.sample_eq]

/-- Is the agent at no request? -/
def Cluster.mossIdle (c : Cluster) : Prop := c.mossBusy = false ∧ c.moss.queue = []

theorem Cluster.mossIdle_iff (c : Cluster) : (!c.mossBusy && c.moss.queue.isEmpty) = true ↔ c.mossIdle := by
  simp [Cluster.mossIdle]

section
variable {c : Cluster} {bs : List Byte} {ty : Nat} {g : Grants} {serve : Cluster → Cluster} (hpower : c.powered = true)
  (hdst : fmDst bs = c.node) (hsrc : fmSrc bs ≠ c.node) (hsound : fmBad bs = false) (hstage : 1 ≤ c.stage) (hty : fmType bs = ty)
include hpower hdst hsrc hsound hstage hty

theorem Cluster.takeRequest_of_idle (h : c.mossIdle) : c.takeRequest bs ty g serve = serve (c.sample g) :=
  (Cluster.takeFrame_of_sound hpower hdst hsrc hsound hstage hty).trans
    (if_pos (by rw [Cluster.sample_mossBusy, Cluster.sample_queue]; exact c.mossIdle_iff.mpr h))

theorem Cluster.takeRequest_of_busy (h : ¬ c.mossIdle) : c.takeRequest bs ty g serve =
    let d := c.sample g
    if d.moss.queue.length < 4 then { d with moss := { d.moss with queue := d.moss.queue ++ [bs] } }
    else d.bump (rMgt + 0x10) (rMgt + 0x20) 1 1 :=
  (Cluster.takeFrame_of_sound hpower hdst hsrc hsound hstage hty).trans
    (if_neg (by rw [Cluster.sample_mossBusy, Cluster.sample_queue]; exact mt c.mossIdle_iff.mp h))

end

/-! A READ and a WRITE that are served (R458, R459, R463). -/

theorem Cluster.grants_served_sample (c : Cluster) (g : Grants) : (c.sample g).served.grants = g := by
  rw [Cluster.grants, Cluster.served, Cluster.bump_moss, Cluster.sample_eq]

theorem Cluster.node_served_sample (c : Cluster) (g : Grants) : (c.sample g).served.node = c.node :=
  Cluster.node_eq_of_ident (by rw [Cluster.served, Cluster.bump_ident, Cluster.sample_ident])

/-- The RESP to a request, with the node of the agent that has taken it. -/
def respTo (node : Nat) (bs : List Byte) (st : Nat) (payload : List Byte) : List Byte :=
  mkFrame 0 node 3 (fmSeq bs) (fmIndex bs) (fmSub bs) st payload

theorem Cluster.respond_eq {c d : Cluster} (bs : List Byte) (st : Nat) (payload : List Byte) (h : d.node = c.node) :
    d.respond bs st payload = d.sendResp bs (respTo c.node bs st payload) := by
  rw [Cluster.respond, Cluster.respFrame, h, respTo]

section
variable {c : Cluster} {bs : List Byte} {g : Grants}

/-- The status of a READ that is served with the grants of its cycle. -/
def Cluster.readStatus (c : Cluster) (bs : List Byte) (g : Grants) : Nat :=
  (c.sample g).served.status g false (fmIndex bs) (fmSub bs) (fmPayload bs)

/-- The status of a WRITE that is served with the grants of its cycle. -/
def Cluster.writeStatus (c : Cluster) (bs : List Byte) (g : Grants) : Nat :=
  (c.sample g).served.status g true (fmIndex bs) (fmSub bs) (fmPayload bs)

theorem Cluster.serveRead_of_refused (h : c.readStatus bs g ≠ 0) :
    (c.sample g).serveRead bs = (c.sample g).served.sendResp bs (respTo c.node bs (c.readStatus bs g) []) := by
  rw [← Cluster.respond_eq bs _ [] (c.node_served_sample g)]
  simp only [Cluster.serveRead, Cluster.grants_served_sample]
  exact if_pos h

theorem Cluster.serveRead_of_entry {e : DEnt} (h : c.readStatus bs g = 0) (hdbg : isDbgData (fmIndex bs) (fmSub bs) = false)
    (he : dictEntry (fmIndex bs) (fmSub bs) = some e) : (c.sample g).serveRead bs = (c.sample g).served.sendResp bs
      (respTo c.node bs 0 ((c.sample g).served.entryBytes (fmIndex bs) (fmSub bs) e)) := by
  rw [← Cluster.respond_eq bs _ _ (c.node_served_sample g)]
  simp only [Cluster.serveRead, Cluster.grants_served_sample]
  refine (if_neg (not_not.mpr h)).trans ((if_neg (Bool.eq_false_iff.mp hdbg)).trans ?_)
  rw [he]

/-- A debug READ at DBGADDR: its bytes, and the cluster after it. -/
def Cluster.readDebug (c : Cluster) (bs : List Byte) (g : Grants) : Option (List Byte) × Cluster :=
  (c.sample g).served.dbgRead (leNat (fmPayload bs)) (.debug bs)

section
variable (h : c.readStatus bs g = 0) (hdbg : isDbgData (fmIndex bs) (fmSub bs) = true)
include h hdbg

theorem Cluster.serveRead_of_debug : (c.sample g).serveRead bs = match (c.readDebug bs g).1 with
    | some data => (c.readDebug bs g).2.respond bs 0 data
    | none => (c.readDebug bs g).2 := by
  simp only [Cluster.serveRead, Cluster.grants_served_sample]
  exact (if_neg (not_not.mpr h)).trans (if_pos hdbg)

theorem Cluster.serveRead_of_debug_data {data : List Byte} (hdata : (c.readDebug bs g).1 = some data) :
    (c.sample g).serveRead bs = (c.readDebug bs g).2.sendResp bs (respTo c.node bs 0 data) := by
  have hnode : (c.readDebug bs g).2.node = c.node :=
    (Cluster.node_eq_of_ident (Cluster.dbgRead_ident ..)).trans (c.node_served_sample g)
  rw [Cluster.serveRead_of_debug h hdbg, hdata, ← Cluster.respond_eq bs 0 data hnode]

theorem Cluster.serveRead_of_debug_lines (hnone : (c.readDebug bs g).1 = none) : (c.sample g).serveRead bs = (c.readDebug bs g).2 := by
  rw [Cluster.serveRead_of_debug h hdbg, hnone]

end

theorem Cluster.sample_keptResp (c : Cluster) (bs : List Byte) (g : Grants) : (c.sample g).keptResp bs = c.keptResp bs := by
  rw [Cluster.sample_eq]
  rfl

theorem Cluster.serveWrite_of_kept {resp : List Byte} (h : c.keptResp bs = some resp) :
    (c.sample g).serveWrite bs = (c.sample g).served.sendResp bs resp := by
  simp only [Cluster.serveWrite, Cluster.sample_keptResp, h]

/-- The agent keeps the RESP of a WRITE (R459). -/
def Cluster.keeps (c : Cluster) (bs resp : List Byte) : Cluster :=
  { c with moss := { c.moss with last := some (BitVec.ofNat 8 (fmSeq bs), fmIndex bs, fmSub bs, resp) } }

theorem Cluster.serveWrite_of_refused (hkept : c.keptResp bs = none) (h : c.writeStatus bs g ≠ 0) :
    let r := respTo c.node bs (c.writeStatus bs g) []
    (c.sample g).serveWrite bs = ((c.sample g).served.sendResp bs r).keeps bs r := by
  intro r
  have hr : (c.sample g).served.respFrame bs (c.writeStatus bs g) [] = r := by rw [Cluster.respFrame, c.node_served_sample g]; rfl
  have hst : (c.sample g).served.status g true (fmIndex bs) (fmSub bs) (fmPayload bs) = c.writeStatus bs g := rfl
  simp only [Cluster.serveWrite, Cluster.sample_keptResp, hkept, Cluster.grants_served_sample, hst, h, ne_eq, not_false_eq_true, if_true, hr]
  rfl

theorem Cluster.serveWrite_of_applied (hkept : c.keptResp bs = none) (h : c.writeStatus bs g = 0) :
    let d := (c.sample g).served
    let r := respTo c.node bs 0 (d.storedBytes (fmIndex bs) (fmSub bs) (fmPayload bs))
    (c.sample g).serveWrite bs = ((d.applyWrite g (fmIndex bs) (fmSub bs) (fmPayload bs)).sendResp bs r).keeps bs r := by
  intro d r
  have hr : d.respFrame bs 0 (d.storedBytes (fmIndex bs) (fmSub bs) (fmPayload bs)) = r := by
    rw [Cluster.respFrame, c.node_served_sample g]
    rfl
  have hst : (c.sample g).served.status g true (fmIndex bs) (fmSub bs) (fmPayload bs) = 0 := h
  simp only [Cluster.serveWrite, Cluster.sample_keptResp, hkept, Cluster.grants_served_sample, hst, ne_eq, not_true_eq_false, if_false]
  rw [hr]
  rfl

end

/-! The agent's part of a CK_M cycle (R458, R461), and its events (R468). -/

section
variable {c : Cluster} (hpower : c.powered = true)
include hpower

theorem Cluster.mossCycle_of_live {next : List Byte} {rest : List (List Byte)} (hlive : c.flt.fatal = false)
    (hqueue : c.moss.queue = next :: rest) :
    let d := { c with moss := { c.moss with queue := rest } }
    c.mossCycle = if c.mossBusy then c else if fmType next = 1 then d.serveRead next else d.serveWrite next := by
  refine (if_neg (by simp [hpower])).trans ((if_neg (by simp [hlive])).trans ?_)
  simp only [Cluster.serveNext, hqueue]

theorem Cluster.mossCycle_of_fatal {next : List Byte} (hfatal : c.flt.fatal = true) (hreq : c.debugReq = some next)
    (hqueue : c.moss.queue = []) : c.mossCycle = c.refuseDebug := by
  refine (if_neg (by simp [hpower])).trans ((if_pos hfatal).trans ?_)
  have hempty : c.refuseDebug.moss.queue = [] := by
    simp only [Cluster.refuseDebug, hreq]
    exact hqueue
  simp only [Cluster.serveNext, hempty]

end

/-- A debug read under way that F has stopped is answered ACCESS, and is under way no more (log entry 106). -/
theorem Cluster.refuseDebug_of_waiting {c : Cluster} {next : List Byte} (hreq : c.debugReq = some next) :
    c.refuseDebug.moss.out = c.moss.out ++ [respTo c.node next 2 []] ∧ c.refuseDebug.debugReq = none := by
  simp only [Cluster.refuseDebug, hreq]
  refine ⟨rfl, ?_⟩
  simp only [Cluster.debugReq, Cluster.respond, Cluster.sendResp, List.findSome?_eq_none_iff, List.mem_filter]
  rintro b ⟨-, hkeep⟩
  split <;> simp_all

theorem evackC_of_event {c : Cluster} {bs : List Byte} {e : Event} {rest : List Event} (hpower : c.powered = true)
    (hdst : fmDst bs = c.node) (hsrc : fmSrc bs ≠ c.node) (hsound : fmBad bs = false) (hstage : 1 ≤ c.stage) (hty : fmType bs = 5)
    (hevents : c.moss.events = e :: rest) :
    evackC c bs = if fmLen bs = 2 ∧ leNat (fmPayload bs) = e.seq then { c with moss := { c.moss with events := rest, evSent := none } }
      else c := by
  refine (Cluster.takeFrame_of_sound hpower hdst hsrc hsound hstage hty).trans ?_
  simp only [hevents, Bool.and_eq_true, decide_eq_true_eq]

section
variable {c : Cluster} {e : Event} {rest : List Event} (hpower : c.powered = true) (hevents : c.moss.events = e :: rest)
include hpower hevents

theorem eventSendC_of_unsent (h : c.moss.evSent = none) : eventSendC c = c.sendEvent e := by
  simp only [eventSendC, hevents, h, hpower, if_true]

theorem eventResendC_of_due {t : Nat} (h : c.moss.evSent = some t) (hdue : t + 1000 ≤ c.clk.ckm) : eventResendC c = c.sendEvent e := by
  simp only [eventResendC, hevents, h, hpower, hdue, decide_true, Bool.and_self, if_true]

end

/-! Writes that only store, and debug data (R466, R473). -/

section
variable {c : Cluster} {g : Grants} (hans : c.answers = true)
include hans

theorem dictWriteC_of_stored {i s : Nat} {bs : List Byte} (hst : (c.sample g).status g true i s bs = 0)
    (hown : ((c.sample g).applyOwn g i s bs).isNone = true) : dictWriteC c i s bs g = (c.sample g).storeEntry i s (leNat bs) :=
  (if_neg (by simp [hans])).trans (if_pos (by simp [hst, hown]))

theorem dbgdataReadC_of_passed {n : Nat} (hst : (c.sample g).status g false 0x3000 2 (leBytes 2 n) = 0) :
    dbgdataReadC c n g = ((c.sample g).dbgRead n .quiet).2 := (if_neg (by simp [hans])).trans (if_pos hst)

theorem dbgdataWriteC_of_passed {bs : List Byte} (hst : (c.sample g).status g true 0x3000 2 bs = 0) :
    dbgdataWriteC c bs g = (c.sample g).dbgWrite g.maint bs := (if_neg (by simp [hans])).trans (if_pos hst)

end

/-- The bytes of debug data of a request, by its type (R458). -/
theorem dbgBytes_eq (bs : List Byte) : dbgBytes bs =
    if fmIndex bs = 0x3000 ∧ fmSub bs = 2 then (if fmType bs = 1 then leNat (fmPayload bs) else fmLen bs) else 0 := by
  simp only [dbgBytes, isDbgData, Bool.and_eq_true, beq_iff_eq]

end Sys2Proof.Machine

open Sys2Proof Sys2Proof.Machine

/-- Settles O51: where a frame goes, and how a request is served, by its checks. -/
theorem mossAgent : Obligations.MossAgent := by
  unfold Obligations.MossAgent
  intro bs g s c gives i sub on answer dbgLen sent kept idle
  have step {i : Instr} {d e : Cluster} (hexec : exec i s = done s d) (hd : d = e) : exec i s = gives e := hexec.trans (congrArg (done s) hd)
  have hsent (d : Cluster) (r : List Byte) : d.sendResp bs r = sent d r := by
    rw [Cluster.sendResp, dbgBytes_eq]
    rfl
  refine ⟨fun hpower hne hdst hsrc => step rfl (frameForwardC_of_other hpower hne hdst hsrc),
    fun hpower hdst hsrc => ⟨fun hbad => ?bad, fun hsound hstage => ⟨?waits, fun hty hidle => ?read, fun hty hidle => ?write,
      fun e rest hty hevents => ?evack⟩⟩,
    fun next rest hpower hlive hqueue => ?cycle, fun next hpower hfatal hreq hqueue => ?fatal, fun e rest hpower hevents => ?events,
    fun hans => ⟨fun ix sb hst hown => step rfl (dictWriteC_of_stored hans hst hown),
      fun n hst => step rfl (dbgdataReadC_of_passed hans hst), fun hst => step rfl (dbgdataWriteC_of_passed hans hst)⟩⟩
  case bad =>
    have hcounts {i : Instr} {ty : Nat} {f : Cluster → Cluster} (hexec : exec i s = done s (c.takeFrame bs ty f)) :
        exec i s = gives (c.bump 0x20040010 0x20040020 1 1) := step hexec (Cluster.takeFrame_of_bad hpower hdst hsrc hbad)
    simp only [List.forall_mem_cons]
    have hrequest {i : Instr} {ty : Nat} {serve : Cluster → Cluster} (hexec : exec i s = done s (c.takeRequest bs ty g serve)) :
        exec i s = gives (c.bump 0x20040010 0x20040020 1 1) := hcounts hexec
    exact ⟨hrequest rfl, hrequest rfl, hcounts rfl, List.forall_mem_nil _⟩
  case waits =>
    have hwaits {i : Instr} {ty : Nat} {serve : Cluster → Cluster} (hexec : exec i s = done s (c.takeRequest bs ty g serve))
        (hbusy : ¬ idle) (hty : fmType bs = ty) :
        (c.moss.queue.length < 4 → exec i s = gives { c.sample g with moss := { (c.sample g).moss with
          queue := (c.sample g).moss.queue ++ [bs] } })
        ∧ (4 ≤ c.moss.queue.length → exec i s = gives ((c.sample g).bump 0x20040010 0x20040020 1 1)) := by
      rw [Cluster.takeRequest_of_busy hpower hdst hsrc hsound hstage hty hbusy] at hexec
      rw [← Cluster.sample_queue c g]
      exact ⟨fun h => step hexec (if_pos h), fun h => step hexec (if_neg (not_lt.mpr h))⟩
    simp only [List.forall_mem_cons]
    exact ⟨hwaits rfl, hwaits rfl, List.forall_mem_nil _⟩
  case read =>
    intro d st dbg
    have hread : exec (.readFrame bs g) s = done s ((c.sample g).serveRead bs) :=
      congrArg (done s) (Cluster.takeRequest_of_idle hpower hdst hsrc hsound hstage hty hidle)
    exact ⟨fun h => step hread ((Cluster.serveRead_of_refused h).trans (hsent _ _)),
      fun e h hdbg he => step hread ((Cluster.serveRead_of_entry h hdbg he).trans (hsent _ _)),
      fun data h hdbg hdata => step hread ((Cluster.serveRead_of_debug_data h hdbg hdata).trans (hsent _ _)),
      fun h hdbg hnone => step hread (Cluster.serveRead_of_debug_lines h hdbg hnone)⟩
  case write =>
    have hwrite : exec (.writeFrame bs g) s = done s ((c.sample g).serveWrite bs) :=
      congrArg (done s) (Cluster.takeRequest_of_idle hpower hdst hsrc hsound hstage hty hidle)
    have hkeeps (d : Cluster) (r : List Byte) : (d.sendResp bs r).keeps bs r = kept d r := by
      rw [hsent]
      rfl
    exact ⟨fun resp h => step hwrite ((Cluster.serveWrite_of_kept h).trans (hsent _ _)),
      fun hkept => ⟨fun h => step hwrite ((Cluster.serveWrite_of_refused hkept h).trans (hkeeps _ _)),
        fun h => step hwrite ((Cluster.serveWrite_of_applied hkept h).trans (hkeeps _ _))⟩⟩
  case evack =>
    refine (congrArg (done s) (evackC_of_event hpower hdst hsrc hsound hstage hty hevents)).trans ?_
    split <;> rfl
  case cycle =>
    intro d
    have hcycle := Cluster.mossCycle_of_live hpower hlive hqueue
    exact ⟨fun h => hcycle.trans (if_pos h), fun h => hcycle.trans (if_neg (Bool.eq_false_iff.mp h))⟩
  case fatal =>
    rw [Cluster.mossCycle_of_fatal hpower hfatal hreq hqueue]
    exact Cluster.refuseDebug_of_waiting hreq
  case events =>
    intro sent
    exact ⟨fun h => step rfl (eventSendC_of_unsent hpower hevents h),
      fun t h hdue => step rfl (eventResendC_of_due hpower hevents h hdue)⟩

end

section
/-! The intake unit's events by its state (R395 to R407), and the checks of an image in the order of their steps (R402). -/

namespace Sys2Proof.Machine

/-! The events of intake. -/

section
variable {c : Cluster} (hready : c.ready = true)
include hready

theorem openIntakeC_of_idle (hstate : c.intake.state = 0) : openIntakeC c =
    if c.stagingOk (c.dictAt 0x2380 1) (c.dictAt 0x2380 2) then { c with intake := { c.intake with
      state := 1, step := 0, base := c.dictAt 0x2380 1, lines := c.dictAt 0x2380 2, fail := none, plan := none } }
    else c.reject (rej rcStaging 0 0) := if_neg (by simp [hready, hstate])

theorem abandonC_of_open (hstate : c.intake.state = 1) : abandonC c = c.reject (rej rcAbandoned 0 0) :=
  if_pos (by simp [hready, hstate])

/-- CHECK begins, with its timer (R401). -/
def Cluster.checkBegun (c : Cluster) : Cluster :=
  { c with intake := { c.intake with state := 2, step := 1, since := c.tk, limit := c.dictAt 0x2382 1 } }

theorem commitC_of_open (hstate : c.intake.state = 1) : commitC c =
    if c.freeSlot.isNone then c.reject (rej rcNoSlot 0 0) else c.checkBegun.readStage 0 0 (min 4 c.intake.lines) :=
  if_neg (by simp [hready, hstate])

/-- LOAD begins (R401). -/
def Cluster.loadBegun (c : Cluster) : Cluster := { c with intake := { c.intake with state := 3, step := 0 } }

section
variable (hstate : c.intake.state = 2)
include hstate

theorem acceptTimeoutC_of_due (hdue : c.intake.since + c.intake.limit ≤ c.tk) : acceptTimeoutC c = c.reject (rej rcAccTo 2 0) :=
  if_pos (by simp [hready, hstate, hdue])

section
variable (hstep : c.intake.step = 2)
include hstep

theorem Cluster.awaitsVerdict_of_check : c.awaitsVerdict = true := by simp [Cluster.awaitsVerdict, hready, hstate, hstep]

theorem acceptanceVerdictC_of_refusal : acceptanceVerdictC c false = c.reject (rej rcAccept 2 0) := by
  simp only [acceptanceVerdictC, Cluster.awaitsVerdict_of_check hready hstate hstep, Bool.not_true, Bool.not_false, Bool.false_eq_true,
    if_false, if_true]

theorem acceptanceVerdictC_of_found {r : Rej} (hfail : c.intake.fail = some r) : acceptanceVerdictC c true = c.reject r := by
  simp only [acceptanceVerdictC, Cluster.awaitsVerdict_of_check hready hstate hstep, Bool.not_true, Bool.false_eq_true, if_false, hfail]

theorem acceptanceVerdictC_of_clean (hfail : c.intake.fail = none) :
    acceptanceVerdictC c true = c.loadBegun.readStage 2 0 c.imgLines := by
  simp only [acceptanceVerdictC, Cluster.awaitsVerdict_of_check hready hstate hstep, Bool.not_true, Bool.false_eq_true, if_false]
  split
  · next hsome => exact nomatch hfail.symm.trans hsome
  · rfl

end
end

theorem admissionC_of_load {p : Plan} {slot : Nat} (hstate : c.intake.state = 3) (hgrp : c.intake.grp = none)
    (hplan : c.intake.plan = some p) (hslot : c.freeSlot = some slot) :
    admissionC c = if c.budget < p.img.peak then c.reject (rej rcToken 15 p.img.peakWin) else c.takeIn p slot := by
  refine (if_pos (by simp [hready, hstate, hgrp])).trans ?_
  simp only [hplan, hslot]

theorem retirementC_of_marked {slot : Nat} {im : Img} (himg : vat c.imgs slot none = some im) (hretire : im.retire = true)
    (hrun : c.runSlot ≠ some slot) (hcheck : c.intake.state ≠ 2) (hload : c.intake.state ≠ 3) : retirementC c slot = c.doRetire slot := by
  have hmay : c.mayRetire slot im = true := by simp [Cluster.mayRetire, hready, hretire, hrun, hcheck, hload]
  simp only [retirementC, himg, hmay, if_true]

end

theorem retireC_of_admitted {c : Cluster} {slot : Nat} {im : Img} (hans : c.answers = true) (himg : vat c.imgs slot none = some im) :
    retireC c slot = { c with imgs := vset c.imgs slot (some { im with retire := true }) } := by
  simp only [retireC, hans, if_true, himg]

/-! The lines that the unit asked for have been read (R402). -/

section
variable {c : Cluster} {id : Nat} (hgrp : c.intake.grp = some id)
include hgrp

/-- The unit with no read under way. -/
def Cluster.stageRead (c : Cluster) : Cluster := { c with intake := { c.intake with grp := none } }

theorem Cluster.stageDone_head : c.stageDone id 0 =
    let d := c.stageRead
    if d.headOk c.intake.base c.intake.lines then d.readStage 1 4 (d.imgLines - 4) else d.reject (rej rcLayout 1 0) :=
  if_neg (not_not.mpr hgrp)

theorem Cluster.stageDone_image : c.stageDone id 1 = match c.stageRead.step1 c.intake.base c.intake.lines with
    | some r => c.stageRead.reject r
    | none => c.stageRead.beginCheckImg := if_neg (not_not.mpr hgrp)

theorem Cluster.stageDone_load : c.stageDone id 2 = c.stageRead := if_neg (not_not.mpr hgrp)

end

/-! The first check that fails decides (R402). -/

theorem firstRej_eq (fs : List (Unit → Option Rej)) : firstRej fs = (fs.map (fun f => f ())).findSome? id := by
  induction fs with
  | nil => rfl
  | cons f fs ih =>
    rw [firstRej, List.map_cons, List.findSome?_cons, ← ih, id]
    cases f () <;> rfl

/-- Steps 10 to 15 on an image's programs: the first finding. -/
theorem Cluster.programs_fst (v : Cluster) (b budget : Nat) (im : Img) :
    let ls := v.linCases b
    let cs := ls.filterMap (fun p => p.2.2)
    (v.programs b budget im).1 =
      ([v.step10 b, v.step11 b ls, v.step12 cs, v.step13 b cs].findSome? id).or (v.steps14to15 b budget im cs).1 := by
  intro ls cs
  simp only [Cluster.programs, firstRej_eq, List.map_cons, List.map_nil]
  rw [List.findSome?_cons (as := [v.step11 b ls, v.step12 cs, v.step13 b cs]), id]
  cases v.step10 b with
  | some r => rfl
  | none =>
    dsimp only
    cases List.findSome? id [v.step11 b ls, v.step12 cs, v.step13 b cs] <;> rfl

theorem Cluster.checks_fst_eq_or (c : Cluster) (b lines budget : Nat) :
    let p := c.planFor b (c.readImg b lines)
    (c.checks b lines budget).1 = (c.steps3to9 b lines).or ((c.under b p).programs b budget p.img).1 := by
  intro p
  simp only [Cluster.checks]
  cases c.steps3to9 b lines with
  | some r => simp only [Option.some_or]
  | none => simp only [Option.none_or, p]

theorem Cluster.steps3to9_eq (c : Cluster) (b lines : Nat) : c.steps3to9 b lines =
    [c.step3 b, c.step4 b, c.step5 b, c.step6 b, c.step7 b, c.step8 b lines, c.step9 b].findSome? id := by
  rw [Cluster.steps3to9, firstRej_eq]
  rfl

theorem Cluster.checks_fst (c : Cluster) (b lines budget : Nat) :
    let p := c.planFor b (c.readImg b lines)
    let v := c.under b p
    let ls := v.linCases b
    let cs := ls.filterMap (fun p => p.2.2)
    (c.checks b lines budget).1 =
      ([c.step3 b, c.step4 b, c.step5 b, c.step6 b, c.step7 b, c.step8 b lines, c.step9 b, v.step10 b, v.step11 b ls,
        v.step12 cs, v.step13 b cs].findSome? id).or (v.steps14to15 b budget p.img cs).1 := by
  intro p v ls cs
  have hsplit := List.findSome?_append (f := id) (xs := [c.step3 b, c.step4 b, c.step5 b, c.step6 b, c.step7 b, c.step8 b lines, c.step9 b])
    (ys := [v.step10 b, v.step11 b ls, v.step12 cs, v.step13 b cs])
  simp only [List.cons_append, List.nil_append] at hsplit
  rw [hsplit, Option.or_assoc, ← Cluster.steps3to9_eq, ← v.programs_fst b budget p.img]
  exact c.checks_fst_eq_or b lines budget

/-! What each step compares. -/

theorem must_decides {ok : Bool} {P : Prop} (h : ok = true ↔ P) (r : Rej) : (P → must ok r = none) ∧ (¬ P → must ok r = some r) :=
  ⟨fun hP => if_pos (h.mpr hP), fun hP => if_neg (mt h.mp hP)⟩

theorem mustAll_eq_none {α : Type} {l : List α} {ok : α → Bool} {code step : Nat} :
    mustAll l ok code step = none ↔ ∀ x ∈ l, ok x = true := by
  rw [mustAll, Option.map_eq_none_iff, findIdxN_eq_findIdx?, List.findIdx?_eq_none_iff]
  simp only [Bool.not_eq_false']

section
variable (c : Cluster) (b : Nat)

theorem Cluster.step3_decides : ((∀ i ∈ c.images, i.c1 = decide (c.hFlags b % 2 = 1)) → c.step3 b = none)
    ∧ (¬ (∀ i ∈ c.images, i.c1 = decide (c.hFlags b % 2 = 1)) → c.step3 b = some (rej 0x06 3 0)) := by
  refine must_decides ?_ _
  simp [beq_eq_decide]

theorem Cluster.step4_eq_none : c.step4 b = none ↔ ∀ n < 8, c.modeOk b n = true :=
  mustAll_eq_none.trans (by simp only [List.mem_range])

theorem Cluster.rot_lt : c.rot < 256 := Nat.mod_lt _ (by decide)

theorem Cluster.planRot_isSome : (c.planRot b).isSome = true ↔
    ∃ rot < 256, rotFits c.nextFenB (c.hHoles b) rot = true ∧ (c.images ≠ [] → rot = c.rot) := by
  unfold Cluster.planRot
  split
  case isTrue hempty =>
    have hnil : c.images = [] := by simpa using hempty
    simp [List.find?_isSome, hnil]
  case isFalse hsome =>
    have hne : c.images ≠ [] := by simpa using hsome
    split
    case isTrue hfits => exact ⟨fun _ => ⟨c.rot, c.rot_lt, hfits, fun _ => rfl⟩, fun _ => rfl⟩
    case isFalse hfits =>
      refine ⟨fun h => (nomatch h), fun ⟨rot, hlt, hrot, hsame⟩ => ?_⟩
      exact absurd (hsame hne ▸ hrot) hfits

theorem Cluster.step6_eq_none : c.step6 b = none ↔
    ∀ a < 32, (c.hWidth b a = 0 → c.hWit b a = false) ∧ c.arrFits b a = true ∧ c.arrSame b a = true := by
  rw [Cluster.step6, List.findSome?_eq_none_iff]
  refine forall_congr' fun a => ?_
  rw [List.mem_range]
  refine imp_congr_right fun _ => ?_
  cases c.hWit b a <;> cases c.arrFits b a <;> cases c.arrSame b a <;> simp

theorem Cluster.step7_eq_none : c.step7 b = none ↔ ∀ i < 16, c.latOk b i = true :=
  mustAll_eq_none.trans (by simp only [List.mem_range])

end

end Sys2Proof.Machine
end

section
/-! What an admission puts in force (R406), and what a retirement frees (R407). -/

namespace Sys2Proof.Machine

/-- What one round of a fold establishes and every round keeps holds after it. -/
theorem Cluster.each_establishes {α : Type} {P : Cluster → Prop} {f : Cluster → α → Cluster} {l : List α} {x : α} (hx : x ∈ l)
    (hself : ∀ d, P (f d x)) (hkeep : ∀ d y, P d → P (f d y)) (c : Cluster) : P (c.each l f) := by
  obtain ⟨l₁, l₂, rfl⟩ := List.append_of_mem hx
  rw [Cluster.each, List.foldl_append, List.foldl_cons]
  exact foldl_keep P f l₂ (hself _) hkeep

/-! The contexts, the images and the fences under what an admission loads. -/

/-- The contexts, the admitted images and the fences in force. -/
def Cluster.admitView (c : Cluster) : Vector Ctx 64 × Vector (Option Img) 8 × BitVec 32 × BitVec 256 × BitVec 8 :=
  (c.ctxs, c.imgs, c.flt.fenA, c.flt.fenB, c.flt.fenC)

section
variable (c : Cluster)

@[simp] theorem Cluster.setReg_admitView (a : Nat) (v : W64) : (c.setReg a v).admitView = c.admitView := rfl
@[simp] theorem Cluster.setCore_admitView (n : Nat) (x : Core) : (c.setCore n x).admitView = c.admitView := rfl
@[simp] theorem Cluster.setPatch_admitView (a map : Nat) : (c.setPatch a map).admitView = c.admitView := rfl

theorem Cluster.bump_admitView (a evt bit n : Nat) : (c.bump a evt bit n).admitView = c.admitView := by
  rw [Cluster.bump_form]
  rfl

theorem Cluster.verdict_admitView (w : W64) : (c.verdict w).admitView = c.admitView := by
  rw [Cluster.verdict, Cluster.event_form]
  rfl

theorem Cluster.injectTab_admitView (src bits : Nat) (keys : List Nat) : (c.injectTab src bits keys).admitView = c.admitView := by
  cases keys with
  | nil => rfl
  | cons k rest =>
    rw [Cluster.injectTab]
    split <;> rfl

theorem Cluster.loadTables_admitView (b slot : Nat) : (c.loadTables b slot).admitView = c.admitView := by
  rw [Cluster.loadTables, Cluster.injectTab_admitView, Cluster.injectTab_admitView]
  rfl

theorem Cluster.loadCore_admitView (n : Nat) (imem : Bool) (first : Nat) (bs : List Byte) :
    (c.loadCore n imem first bs).admitView = c.admitView := by
  rw [Cluster.loadCore]
  split <;> rfl

theorem Cluster.loadMems_admitView (b : Nat) : (c.loadMems b).admitView = c.admitView :=
  Cluster.each_keeps Cluster.admitView (fun d _ => d.loadCore_admitView _ _ _ _) _ c

theorem Cluster.clearArea_admitView (e : Nat) : (c.clearArea e).admitView = c.admitView := by
  rw [Cluster.clearArea]
  dsimp only
  split <;> rfl

/-- One floor register (R51). -/
def Cluster.loadFloor (lat : List Nat) (c : Cluster) (i : Nat) : Cluster :=
  c.setReg (rClu + 0x1400 + 4 * i) (place (hwMin c.stepping i) 16 ||| place (floorOf c.stepping (lat.getD i 0) i) 0)

/-- The mode of one core (R254). -/
def Cluster.loadMode (c : Cluster) (n : Nat) : Cluster :=
  c.setCore n { c.core n with mode := c.modeOf n, present := !c.flt.fenC.getLsbD n }

theorem Cluster.loadFloors_eq (lat : List Nat) : c.loadFloors lat = c.each (List.range 12) (Cluster.loadFloor lat) := rfl
theorem Cluster.loadModes_eq : c.loadModes = c.each (List.range 8) Cluster.loadMode := rfl

theorem Cluster.loadFloors_admitView (lat : List Nat) : (c.loadFloors lat).admitView = c.admitView := by
  rw [Cluster.loadFloors_eq]
  exact Cluster.each_keeps Cluster.admitView (fun d _ => d.setReg_admitView _ _) _ c

theorem Cluster.loadManifests_admitView (im : Img) : (c.loadManifests im).admitView = c.admitView := by
  refine (Cluster.each_keeps Cluster.admitView (fun d a => ?_) _ _).trans rfl
  dsimp only
  split <;> rfl

theorem Cluster.loadModes_admitView : c.loadModes.admitView = c.admitView := by
  rw [Cluster.loadModes_eq]
  exact Cluster.each_keeps Cluster.admitView (fun d _ => d.setCore_admitView _ _) _ c

theorem Cluster.loadC1_admitView : c.loadC1.admitView = c.admitView := rfl

/-- The fences of a plan with those in force; what was to be fenced and now is, is pending no longer (R427). -/
def Cluster.fenceBy (c : Cluster) (p : Plan) : Cluster :=
  { c with flt := { c.flt with
    fenA := c.flt.fenA ||| p.fenA, fenC := c.flt.fenC ||| p.fenC, fenB := c.flt.fenB ||| p.fenB,
    pendA := c.flt.pendA &&& ~~~p.fenA, pendC := c.flt.pendC &&& ~~~p.fenC, pendB := c.flt.pendB &&& ~~~p.fenB } }

theorem Cluster.fenceBy_admitView (p : Plan) : (c.fenceBy p).admitView =
    (c.ctxs, c.imgs, c.flt.fenA ||| p.fenA, c.flt.fenB ||| p.fenB, c.flt.fenC ||| p.fenC) := rfl

/-- A plan's fences and its patch maps. -/
def Cluster.patched (c : Cluster) (p : Plan) : Cluster :=
  (c.fenceBy p).each (List.range 32) (fun d a => d.setPatch a (p.maps.getD a 0))

theorem Cluster.loadShape_eq (p : Plan) :
    c.loadShape p = (c.patched p).setReg rSpd (setFld ((c.patched p).regAt rSpd) 15 8 p.rot) := rfl

/-- The fences of a plan come into force with those there are (R427). -/
theorem Cluster.loadShape_admitView (p : Plan) : (c.loadShape p).admitView =
    (c.ctxs, c.imgs, c.flt.fenA ||| p.fenA, c.flt.fenB ||| p.fenB, c.flt.fenC ||| p.fenC) := by
  rw [Cluster.loadShape_eq, Cluster.setReg_admitView, Cluster.patched, ← Cluster.fenceBy_admitView]
  exact Cluster.each_keeps Cluster.admitView (fun d a => d.setPatch_admitView a _) _ _

/-- An image stands in a slot. -/
def Cluster.seat (c : Cluster) (slot : Nat) (im : Img) : Cluster := { c with imgs := vset c.imgs slot (some im) }

theorem Cluster.seat_admitView (slot : Nat) (im : Img) : (c.seat slot im).admitView =
    (c.ctxs, vset c.imgs slot (some im), c.flt.fenA, c.flt.fenB, c.flt.fenC) := rfl

/-- The tables, memories and cleared areas of an image, with the image in its slot. -/
def Cluster.seated (c : Cluster) (slot : Nat) (p : Plan) : Cluster :=
  (((c.loadTables p.img.base slot).loadMems p.img.base).seat slot p.img).each p.img.sorus Cluster.clearArea

theorem Cluster.putImage_eq (slot : Nat) (p : Plan) : c.putImage slot p =
    (((((c.seated slot p).loadShape p).loadFloors p.img.latman).loadManifests p.img).loadModes).loadC1 := rfl

theorem Cluster.seated_admitView (slot : Nat) (p : Plan) : (c.seated slot p).admitView =
    (c.ctxs, vset c.imgs slot (some p.img), c.flt.fenA, c.flt.fenB, c.flt.fenC) := by
  have hload : ((c.loadTables p.img.base slot).loadMems p.img.base).admitView = c.admitView :=
    (Cluster.loadMems_admitView _ _).trans (Cluster.loadTables_admitView _ _ _)
  generalize hd : (c.loadTables p.img.base slot).loadMems p.img.base = d at hload
  simp only [Cluster.admitView, Prod.mk.injEq] at hload
  obtain ⟨hctx, himg, hA, hB, hC⟩ := hload
  have hclear : ((d.seat slot p.img).each p.img.sorus Cluster.clearArea).admitView = (d.seat slot p.img).admitView :=
    Cluster.each_keeps Cluster.admitView Cluster.clearArea_admitView _ _
  rw [Cluster.seated, hd, hclear, Cluster.seat_admitView, hctx, himg, hA, hB, hC]

/-- The contexts, images and fences after an image has been put into a slot. -/
theorem Cluster.putImage_admitView (slot : Nat) (p : Plan) : (c.putImage slot p).admitView =
    (c.ctxs, vset c.imgs slot (some p.img), c.flt.fenA ||| p.fenA, c.flt.fenB ||| p.fenB, c.flt.fenC ||| p.fenC) := by
  have hseat := c.seated_admitView slot p
  rw [Cluster.putImage_eq, Cluster.loadC1_admitView, Cluster.loadModes_admitView, Cluster.loadManifests_admitView,
    Cluster.loadFloors_admitView, Cluster.loadShape_admitView]
  generalize c.seated slot p = d at hseat ⊢
  simp only [Cluster.admitView, Prod.mk.injEq] at hseat
  obtain ⟨hctx, himg, hA, hB, hC⟩ := hseat
  rw [hctx, himg, hA, hB, hC]

end

/-! The admission instant, in its parts (R406). -/

/-- The contexts that the plan's fences tear down, and the image in force. -/
def Cluster.imagePut (c : Cluster) (p : Plan) (slot : Nat) : Cluster := (c.each (c.victims p) Cluster.teardown).putImage slot p

/-- The image's contexts with it. -/
def Cluster.admitted (c : Cluster) (p : Plan) (slot : Nat) : Cluster := (c.imagePut p slot).admitCores.each p.img.ctxs Cluster.admitCtx

/-- The change of the shape, INT_IMG and the count of admissions noted, and the unit in IDLE. -/
def Cluster.admissionNoted (c : Cluster) (p : Plan) (slot : Nat) : Cluster :=
  let d := c.admitted p slot
  let d := if d.shapeView = c.shapeView then d else { d with flt := { d.flt with shapeSeq := satN 0xFFFF (d.flt.shapeSeq + 1) } }
  let d := (d.imgRecord slot p.img).bump (rInt + 0x200) (rInt + 0x210) 0 1
  { d with intake := { d.intake with state := 0, step := 0, fail := none, plan := none, lastCode := 0, lastSlot := slot } }

theorem Cluster.takeIn_eq (c : Cluster) (p : Plan) (slot : Nat) :
    c.takeIn p slot = (c.admissionNoted p slot).verdict (placeB true 63 ||| placeB true 62 ||| place slot 32) := rfl

theorem Cluster.admissionNoted_admitView (c : Cluster) (p : Plan) (slot : Nat) :
    (c.admissionNoted p slot).admitView = (c.admitted p slot).admitView := by
  refine (Cluster.bump_admitView _ _ _ _ _).trans ?_
  dsimp only
  split <;> rfl

theorem Cluster.takeIn_admitView (c : Cluster) (p : Plan) (slot : Nat) :
    (c.takeIn p slot).admitView = (c.admitted p slot).admitView := by
  rw [Cluster.takeIn_eq, Cluster.verdict_admitView, Cluster.admissionNoted_admitView]

/-! The contexts of an admission (R372). -/

theorem Cluster.ctx_eq_of_ctxs {c d : Cluster} (h : c.ctxs = d.ctxs) (k : Nat) : c.ctx k = d.ctx k := by
  rw [Cluster.ctx, h, Cluster.ctx]

/-- A context as an admission leaves it. -/
def Ctx.fresh (x : Ctx) : Prop := x.state = 1 ∧ x.torn = false ∧ x.linseq = 0

section
variable (c : Cluster) (p : Plan) (slot : Nat)

theorem Cluster.fresh_admitCtx_self {k : Nat} (hk : k < 64) : ((c.admitCtx k).ctx k).fresh := by
  rw [Cluster.admitCtx, Cluster.ctx_setCtx_self _ _ _ hk]
  exact ⟨rfl, rfl, rfl⟩

theorem Cluster.ctx_admitCtx_ne {k j : Nat} (h : k ≠ j) : (c.admitCtx j).ctx k = c.ctx k := by
  rw [Cluster.admitCtx, Cluster.ctx_setCtx_ne _ _ _ _ h]
  rfl

theorem Cluster.fresh_admitted {k : Nat} (hk : k < 64) (h : k ∈ p.img.ctxs) : ((c.admitted p slot).ctx k).fresh := by
  refine Cluster.each_establishes (P := fun d => (d.ctx k).fresh) h (fun d => d.fresh_admitCtx_self hk) (fun d j hd => ?_) _
  by_cases hj : k = j
  · subst hj
    exact d.fresh_admitCtx_self hk
  · rw [d.ctx_admitCtx_ne hj]
    exact hd

theorem Cluster.ctx_each_teardown {k : Nat} {l : List Nat} (h : k ∉ l) : (c.each l Cluster.teardown).ctx k = c.ctx k := by
  refine Cluster.each_keeps_of_mem (fun d => d.ctx k) (fun j hj d => ?_) c
  have hkj : k ≠ j := fun e => h (e ▸ hj)
  cases htorn : (d.ctx j).torn with
  | true => rw [Cluster.teardown_of_torn htorn, Cluster.ctx_keepTorn]
  | false => exact Cluster.ctx_teardown_ne hkj htorn

theorem Cluster.admitCores_admitView : c.admitCores.admitView = c.admitView := rfl

/-- The contexts, images and fences under the image's contexts. -/
theorem Cluster.imageCores_admitView : (c.imagePut p slot).admitCores.admitView =
    ((c.each (c.victims p) Cluster.teardown).ctxs, vset (c.each (c.victims p) Cluster.teardown).imgs slot (some p.img),
      c.flt.fenA ||| p.fenA, c.flt.fenB ||| p.fenB, c.flt.fenC ||| p.fenC) := by
  have hflt : (c.each (c.victims p) Cluster.teardown).flt = c.flt :=
    Cluster.each_keeps (fun d => d.flt) (fun d k => d.teardown_flt k) _ c
  rw [Cluster.admitCores_admitView, Cluster.imagePut, Cluster.putImage_admitView, hflt]

theorem Cluster.ctx_admitted_of_apart {k : Nat} (hctx : k ∉ p.img.ctxs) (hvictim : k ∉ c.victims p) :
    (c.admitted p slot).ctx k = c.ctx k := by
  have hput := c.imageCores_admitView p slot
  rw [Cluster.admitted]
  generalize (c.imagePut p slot).admitCores = d at hput ⊢
  simp only [Cluster.admitView, Prod.mk.injEq] at hput
  calc (d.each p.img.ctxs Cluster.admitCtx).ctx k
      = d.ctx k := Cluster.each_keeps_of_mem (fun x => x.ctx k) (fun j hj x => x.ctx_admitCtx_ne fun e => hctx (e ▸ hj)) d
    _ = (c.each (c.victims p) Cluster.teardown).ctx k := Cluster.ctx_eq_of_ctxs hput.1 k
    _ = c.ctx k := c.ctx_each_teardown hvictim

/-! The images and the fences of an admission. -/

theorem Cluster.admitCtx_imgs (k : Nat) : (c.admitCtx k).imgs = c.imgs := rfl
theorem Cluster.admitCtx_flt (k : Nat) : (c.admitCtx k).flt = c.flt := rfl

/-- The image in the slot, and the fences in force: those before the admission and the plan's. -/
theorem Cluster.admitted_imgs_fences : (c.admitted p slot).imgs = vset (c.each (c.victims p) Cluster.teardown).imgs slot (some p.img)
    ∧ (c.admitted p slot).flt.fenA = c.flt.fenA ||| p.fenA
    ∧ (c.admitted p slot).flt.fenB = c.flt.fenB ||| p.fenB ∧ (c.admitted p slot).flt.fenC = c.flt.fenC ||| p.fenC := by
  have hput := c.imageCores_admitView p slot
  rw [Cluster.admitted]
  generalize (c.imagePut p slot).admitCores = d at hput ⊢
  simp only [Cluster.admitView, Prod.mk.injEq] at hput
  have hflt : (d.each p.img.ctxs Cluster.admitCtx).flt = d.flt := Cluster.each_keeps (fun d => d.flt) Cluster.admitCtx_flt _ _
  have himgs : (d.each p.img.ctxs Cluster.admitCtx).imgs = d.imgs := Cluster.each_keeps (fun d => d.imgs) Cluster.admitCtx_imgs _ _
  rw [hflt, himgs]
  exact hput.2

end

/-! The floors (R51). -/

/-- A floor register: the hardware minimum and the latency that an image declares. -/
def floorWord (stepping : Byte) (lat : List Nat) (i : Nat) : W64 :=
  place (hwMin stepping i) 16 ||| place (floorOf stepping (lat.getD i 0) i) 0

theorem floorWord_eq {stepping : Byte} {lat : List Nat} {i : Nat} (h : floorOf stepping (lat.getD i 0) i < 2 ^ 16) :
    floorWord stepping lat i = BitVec.ofNat 64 (hwMin stepping i * 2 ^ 16 + floorOf stepping (lat.getD i 0) i) :=
  place_or_ofNat _ h

theorem Cluster.regAt_loadFloors {c : Cluster} (hc : c.canon) (lat : List Nat) {i : Nat} (hi : i < 12) :
    (c.loadFloors lat).regAt (rClu + 0x1400 + 4 * i) = floorWord c.stepping lat i := by
  have h := Cluster.each_observe (fun d => (d.regAt (rClu + 0x1400 + 4 * i), d.stepping)) (fun v => (floorWord v.2 lat i, v.2))
    (f := Cluster.loadFloor lat) i (fun d j hd => Cluster.setReg_canon _ _ _ hd)
    (fun d hd => Prod.ext (Cluster.regAt_setReg_self hd _ _) rfl)
    (fun d j hij => Prod.ext (Cluster.regAt_setReg_ne _ (by omega)) rfl) (List.nodup_range (n := 12)) hc
  rw [if_pos (List.mem_range.mpr hi)] at h
  exact congrArg Prod.fst h

/-! What an admission does behind the floors leaves the registers below it. -/

section
variable (c : Cluster) {x : Nat}

theorem Cluster.regAt_loadManifests (im : Img) (hlow : x < 0x20001500) : (c.loadManifests im).regAt x = c.regAt x := by
  have hpatch (a : Nat) : x ≠ rPatch a ∧ x ≠ rPatch a + 8 := by
    simp only [rPatch, rMxe, rCore]
    omega
  have hmanifest : x ≠ rClu + 0x1500 ∧ x ≠ rClu + 0x1508 := by
    simp only [rClu]
    omega
  refine (Cluster.each_keeps (fun d => d.regAt x) (fun d a => ?_) _ _).trans
    ((Cluster.regAt_setReg_ne _ hmanifest.2).trans (Cluster.regAt_setReg_ne _ hmanifest.1))
  dsimp only
  split
  · exact (Cluster.regAt_setReg_ne _ (hpatch a).2).trans (Cluster.regAt_setReg_ne _ (hpatch a).1)
  · exact Cluster.regAt_setReg_ne _ (hpatch a).1

theorem Cluster.regAt_loadModes : c.loadModes.regAt x = c.regAt x := by
  rw [Cluster.loadModes_eq]
  exact Cluster.each_keeps (fun d => d.regAt x) (fun d n => d.regAt_setCore x n _) _ c

theorem Cluster.regAt_loadC1 (hlow : x < 0x20001500) : c.loadC1.regAt x = c.regAt x :=
  Cluster.regAt_setReg_ne _ (by simp only [rSpd]; omega)

theorem Cluster.regAt_admitCores (hlow : x < 0x20001500) : c.admitCores.regAt x = c.regAt x :=
  (Cluster.regAt_setReg_ne _ (by simp only [rCtx]; omega)).trans (Cluster.regAt_setReg_ne _ (by simp only [rCtx]; omega))

theorem Cluster.regAt_admitCtx (k : Nat) (hlow : x < 0x20001500) : (c.admitCtx k).regAt x = c.regAt x :=
  Sparse.get_clearRange_out _ _ _ _ (Or.inl (by simp only [rCtx]; omega))

theorem Cluster.regAt_imgRecord (slot : Nat) (im : Img) (hlow : x < 0x20001500) : (c.imgRecord slot im).regAt x = c.regAt x :=
  (Cluster.regAt_setReg_ne _ (by simp only [rInt]; omega)).trans (Cluster.regAt_setReg_ne _ (by simp only [rInt]; omega))

theorem Cluster.regAt_admissionNoted (p : Plan) (slot : Nat) (hlow : x < 0x20001500) :
    (c.admissionNoted p slot).regAt x = (c.admitted p slot).regAt x := by
  refine (Cluster.regAt_bump_ne _ _ (by simp only [rInt]; omega) (by simp only [rInt]; omega)).trans
    ((Cluster.regAt_imgRecord _ _ _ hlow).trans ?_)
  split <;> rfl

theorem Cluster.regAt_verdict_ne (w : W64) (hresult : x ≠ rInt + 0x10) (hat : x ≠ rInt + 0x18) : (c.verdict w).regAt x = c.regAt x := by
  rw [Cluster.verdict, Cluster.event_form]
  exact (Cluster.regAt_setReg_ne _ hat).trans (Cluster.regAt_setReg_ne _ hresult)

theorem Cluster.regAt_verdict_result {c : Cluster} (hc : c.canon) (w : W64) : (c.verdict w).regAt (rInt + 0x10) = w := by
  rw [Cluster.verdict, Cluster.event_form]
  exact (Cluster.regAt_setReg_ne _ (by decide)).trans (Cluster.regAt_setReg_self hc _ _)

end

theorem Cluster.stepping_eq_of_ident {c d : Cluster} (h : c.ident = d.ident) : c.stepping = d.stepping := congrArg Prod.snd h

theorem Cluster.seat_canon {c : Cluster} (hc : c.canon) (slot : Nat) (im : Img) : (c.seat slot im).canon := hc
theorem Cluster.seat_ident (c : Cluster) (slot : Nat) (im : Img) : (c.seat slot im).ident = c.ident := rfl

theorem Cluster.seated_canon {c : Cluster} (hc : c.canon) (slot : Nat) (p : Plan) : (c.seated slot p).canon := by
  have hload := Cluster.loadMems_canon _ p.img.base (Cluster.loadTables_canon c p.img.base slot hc)
  rw [Cluster.seated]
  exact Cluster.each_canon _ _ (Cluster.seat_canon hload _ _) Cluster.clearArea_canon

theorem Cluster.seated_ident (c : Cluster) (slot : Nat) (p : Plan) : (c.seated slot p).ident = c.ident := by
  rw [Cluster.seated, Cluster.each_ident _ _ _ Cluster.clearArea_ident, Cluster.seat_ident, Cluster.loadMems_ident,
    Cluster.loadTables_ident]

theorem Cluster.regAt_putImage_floor {c : Cluster} (hc : c.canon) (slot : Nat) (p : Plan) {i : Nat} (hi : i < 12) :
    (c.putImage slot p).regAt (rClu + 0x1400 + 4 * i) = floorWord c.stepping p.img.latman i := by
  have hlow : rClu + 0x1400 + 4 * i < 0x20001500 := by
    simp only [rClu]
    omega
  have hcanon : ((c.seated slot p).loadShape p).canon := Cluster.loadShape_canon _ _ (Cluster.seated_canon hc slot p)
  have hident : ((c.seated slot p).loadShape p).ident = c.ident := (Cluster.loadShape_ident _ _).trans (c.seated_ident slot p)
  rw [Cluster.putImage_eq, Cluster.regAt_loadC1 _ hlow, Cluster.regAt_loadModes, Cluster.regAt_loadManifests _ _ hlow,
    Cluster.regAt_loadFloors hcanon _ hi, Cluster.stepping_eq_of_ident hident]

/-- The floors that an admission puts in force (R51). -/
theorem Cluster.regAt_takeIn_floor {c : Cluster} (hc : c.canon) (p : Plan) (slot : Nat) {i : Nat} (hi : i < 12) :
    (c.takeIn p slot).regAt (rClu + 0x1400 + 4 * i) = floorWord c.stepping p.img.latman i := by
  have hlow : rClu + 0x1400 + 4 * i < 0x20001500 := by
    simp only [rClu]
    omega
  have hcanon : (c.each (c.victims p) Cluster.teardown).canon := Cluster.each_canon _ _ hc (fun d k hd => Cluster.teardown_canon d k hd)
  have hident : (c.each (c.victims p) Cluster.teardown).ident = c.ident := Cluster.each_ident _ _ _ Cluster.teardown_ident
  have hctxs : (c.admitted p slot).regAt (rClu + 0x1400 + 4 * i) = (c.imagePut p slot).admitCores.regAt (rClu + 0x1400 + 4 * i) :=
    Cluster.each_keeps (fun d => d.regAt (rClu + 0x1400 + 4 * i)) (fun d k => d.regAt_admitCtx k hlow) _ _
  rw [Cluster.takeIn_eq, Cluster.regAt_verdict_ne _ _ (by simp only [rClu, rInt]; omega) (by simp only [rClu, rInt]; omega),
    Cluster.regAt_admissionNoted _ _ _ hlow, hctxs, Cluster.regAt_admitCores _ hlow, Cluster.imagePut,
    Cluster.regAt_putImage_floor hcanon _ _ hi, Cluster.stepping_eq_of_ident hident]

end Sys2Proof.Machine
end

section
/-! The instant of an admission, and what a retirement frees (R406, R407). -/

namespace Sys2Proof.Machine

/-! INT_RESULT and the unit's state after an admission. -/

section
variable (c : Cluster) (p : Plan) (slot : Nat)

theorem Cluster.imagePut_canon (hc : c.canon) : (c.imagePut p slot).canon := by
  rw [Cluster.imagePut]
  exact Cluster.putImage_canon _ _ _ (Cluster.each_canon _ _ hc Cluster.teardown_canon)

theorem Cluster.admitted_canon (hc : c.canon) : (c.admitted p slot).canon := by
  rw [Cluster.admitted]
  exact Cluster.each_canon _ _ (Cluster.admitCores_canon _ (c.imagePut_canon p slot hc)) Cluster.admitCtx_canon

theorem Cluster.canon_of_intake (u : Intake) (hc : c.canon) : ({ c with intake := u } : Cluster).canon := hc
theorem Cluster.canon_of_flt (f : Flt) (hc : c.canon) : ({ c with flt := f } : Cluster).canon := hc

theorem Cluster.admissionNoted_canon (hc : c.canon) : (c.admissionNoted p slot).canon := by
  have hadm := c.admitted_canon p slot hc
  rw [Cluster.admissionNoted]
  generalize c.admitted p slot = d at hadm ⊢
  refine Cluster.canon_of_intake _ _ (Cluster.bump_canon _ _ _ _ _ (Cluster.imgRecord_canon _ _ _ ?_))
  split
  · exact hadm
  · exact Cluster.canon_of_flt _ _ hadm

theorem Cluster.takeIn_state : (c.takeIn p slot).intake.state = 0 := by
  rw [Cluster.takeIn_eq, Cluster.verdict, Cluster.event_form]
  rfl

theorem Cluster.regAt_takeIn_result (hc : c.canon) :
    (c.takeIn p slot).regAt 0x20050010 = placeB true 63 ||| placeB true 62 ||| place slot 32 := by
  rw [Cluster.takeIn_eq]
  exact Cluster.regAt_verdict_result (c.admissionNoted_canon p slot hc) _

/-- The image in its slot, and the fences of the admission. -/
theorem Cluster.takeIn_imgs_fences (hslot : slot < 8) : vat (c.takeIn p slot).imgs slot none = some p.img
    ∧ (c.takeIn p slot).flt.fenA = c.flt.fenA ||| p.fenA
    ∧ (c.takeIn p slot).flt.fenB = c.flt.fenB ||| p.fenB ∧ (c.takeIn p slot).flt.fenC = c.flt.fenC ||| p.fenC := by
  have hview := c.takeIn_admitView p slot
  have hadm := c.admitted_imgs_fences p slot
  generalize c.takeIn p slot = d at hview ⊢
  simp only [Cluster.admitView, Prod.mk.injEq] at hview
  obtain ⟨-, himg, hA, hB, hC⟩ := hview
  rw [himg, hA, hB, hC, hadm.1]
  exact ⟨vat_vset_self _ _ _ _ hslot, hadm.2⟩

theorem Cluster.ctx_takeIn (k : Nat) : (c.takeIn p slot).ctx k = (c.admitted p slot).ctx k :=
  Cluster.ctx_eq_of_ctxs (congrArg Prod.fst (c.takeIn_admitView p slot)) k

theorem Cluster.fresh_takeIn {k : Nat} (hlt : k < 64) (hk : k ∈ p.img.ctxs) : ((c.takeIn p slot).ctx k).fresh := by
  rw [Cluster.ctx_takeIn]
  exact c.fresh_admitted p slot hlt hk

theorem Cluster.ctx_takeIn_of_apart {k : Nat} (hk : k ∉ p.img.ctxs) (hvictim : k ∉ c.victims p) : (c.takeIn p slot).ctx k = c.ctx k := by
  rw [Cluster.ctx_takeIn]
  exact c.ctx_admitted_of_apart p slot hk hvictim

end

theorem admittedWord_eq {slot : Nat} (h : slot < 8) :
    placeB true 63 ||| placeB true 62 ||| place slot 32 = BitVec.ofNat 64 (2 ^ 63 + 2 ^ 62 + slot * 2 ^ 32) := by
  have hslot : place slot 32 = BitVec.ofNat 64 (slot * 2 ^ 32) := by
    rw [place, Nat.shiftLeft_eq]
  rw [placeB_eq, placeB_eq, BitVec.or_assoc, hslot, place_or_ofNat _ (by omega), place_or_ofNat _ (by simp only [Bool.toNat_true]; omega)]
  congr 1
  simp only [Bool.toNat_true]
  omega

/-- A declared floor that fits its field stands in it behind the hardware minimum. -/
theorem floorWord_ofNat_or (stepping : Byte) (lat : List Nat) (i : Nat) :
    floorWord stepping lat i = BitVec.ofNat 64 (hwMin stepping i * 2 ^ 16 + floorOf stepping (lat.getD i 0) i)
      ∨ 2 ^ 16 ≤ floorOf stepping (lat.getD i 0) i :=
  (Nat.lt_or_ge (floorOf stepping (lat.getD i 0) i) (2 ^ 16)).imp_left floorWord_eq

/-! A context that its image's retirement frees (R387, R392, R407). -/

/-- The images, requests, suspended linings and declared linings. -/
def Cluster.linView (c : Cluster) : Vector (Option Img) 8 × List Req × List Susp × List LinEnt :=
  (c.imgs, c.reqs, c.susp, c.linings)

/-- The cluster with a context's counters and mask in its snapshot (R392). -/
def Cluster.snapTaken (c : Cluster) (k : Nat) : Cluster :=
  let a := rCtx + 0x4000 + 0x100 * k
  let d := c.each (List.range 16) (fun d i => d.setDict (0x2680 + k) (i + 1) (d.regAt (a + 8 * i)).toNat)
  let d := d.setDict (0x2680 + k) 0x11 (d.regAt (a + 0x80)).toNat
  let d := d.setDict (0x2680 + k) 0x12 (if (c.ctx k).sampled then (c.ctx k).client.toNat else d.dictAt (0x2310 + k) 1)
  d.setDict (0x2680 + k) 0x13 d.tbNow

section
variable (c : Cluster) (k : Nat)

/-- A snapshot writes the dictionary alone before it clears the counters. -/
theorem Cluster.snapTaken_keeps {β : Type} (obs : Cluster → β) (hobs : ∀ d i sub v, obs (Cluster.setDict d i sub v) = obs d) :
    obs (c.snapTaken k) = obs c := by
  rw [Cluster.snapTaken, hobs, hobs, hobs]
  exact Cluster.each_keeps obs (fun d i => hobs d _ _ _) _ c

theorem Cluster.doSnapshot_eq : c.doSnapshot k =
    ({ c.snapTaken k with reg := Sparse.clearRange (c.snapTaken k).reg (rCtx + 0x4000 + 0x100 * k) (rCtx + 0x4000 + 0x100 * k + 0x88) } : Cluster).setCtx k
      { c.ctx k with snap := false } := rfl

theorem Cluster.doSnapshot_linView : (c.doSnapshot k).linView = c.linView := by
  have hsnap := c.snapTaken_keeps k Cluster.linView (fun _ _ _ _ => rfl)
  rw [Cluster.doSnapshot_eq]
  generalize c.snapTaken k = d at hsnap ⊢
  exact hsnap

theorem Cluster.regAt_doSnapshot {x : Nat} (hx : c.regAt x = 0) : (c.doSnapshot k).regAt x = 0 := by
  have hsnap : (c.snapTaken k).regAt x = 0 := (c.snapTaken_keeps k (fun d => d.regAt x) (fun _ _ _ _ => rfl)).trans hx
  rw [Cluster.doSnapshot_eq]
  generalize c.snapTaken k = d at hsnap ⊢
  by_cases h : rCtx + 0x4000 + 0x100 * k ≤ x ∧ x < rCtx + 0x4000 + 0x100 * k + 0x88
  · exact Sparse.get_filter_out (fun a => decide (a < rCtx + 0x4000 + 0x100 * k) || decide (rCtx + 0x4000 + 0x100 * k + 0x88 ≤ a)) d.reg x
      (by simp [h.1, h.2])
  · exact (Sparse.get_clearRange_out _ _ _ _ (by omega)).trans hsnap

theorem Cluster.state_doSnapshot {j : Nat} (hlt : j < 64) : ((c.doSnapshot k).ctx j).state = (c.ctx j).state := by
  have hsnap := c.snapTaken_keeps k (fun d => (d.ctx j).state) (fun _ _ _ _ => rfl)
  rw [Cluster.doSnapshot_eq]
  generalize c.snapTaken k = d at hsnap ⊢
  by_cases hj : j = k
  · subst hj
    rw [Cluster.ctx_setCtx_self _ _ _ hlt]
  · rw [Cluster.ctx_setCtx_ne _ _ _ _ hj]
    exact hsnap

theorem Cluster.doRearm_linView : (c.doRearm k).linView = c.linView := rfl
theorem Cluster.regAt_doRearm (x : Nat) : (c.doRearm k).regAt x = c.regAt x := rfl

theorem Cluster.state_doRearm {j : Nat} (hlt : j < 64) : ((c.doRearm k).ctx j).state = (c.ctx j).state := by
  rw [Cluster.doRearm]
  by_cases hj : j = k
  · subst hj
    rw [Cluster.ctx_setCtx_self _ _ _ hlt]
  · rw [Cluster.ctx_setCtx_ne _ _ _ _ hj]

/-- The context's state is FREE. -/
def Cluster.freed (c : Cluster) (k : Nat) : Cluster := c.setCtx k { c.ctx k with state := 0, pmiss := false }

/-- A waiting re-arm acts. -/
def Cluster.rearmDue (c : Cluster) (k : Nat) : Cluster := if (c.ctx k).rearm then c.doRearm k else c

theorem Cluster.freeCtx_eq : c.freeCtx k =
    if (((c.freed k).rearmDue k).ctx k).snap then ((c.freed k).rearmDue k).doSnapshot k else (c.freed k).rearmDue k := rfl

theorem Cluster.rearmDue_linView : (c.rearmDue k).linView = c.linView := by
  rw [Cluster.rearmDue]
  split
  · exact c.doRearm_linView k
  · rfl

theorem Cluster.regAt_rearmDue (x : Nat) : (c.rearmDue k).regAt x = c.regAt x := by
  rw [Cluster.rearmDue]
  split
  · exact c.regAt_doRearm k x
  · rfl

theorem Cluster.state_rearmDue {j : Nat} (hlt : j < 64) : ((c.rearmDue k).ctx j).state = (c.ctx j).state := by
  rw [Cluster.rearmDue]
  split
  · exact c.state_doRearm k hlt
  · rfl

theorem Cluster.freeCtx_linView : (c.freeCtx k).linView = c.linView := by
  have hrearm : ((c.freed k).rearmDue k).linView = c.linView := (c.freed k).rearmDue_linView k
  rw [Cluster.freeCtx_eq]
  split
  · rw [Cluster.doSnapshot_linView, hrearm]
  · exact hrearm

theorem Cluster.regAt_freeCtx {x : Nat} (hx : c.regAt x = 0) : (c.freeCtx k).regAt x = 0 := by
  have hrearm : ((c.freed k).rearmDue k).regAt x = 0 := ((c.freed k).regAt_rearmDue k x).trans hx
  rw [Cluster.freeCtx_eq]
  split
  · exact Cluster.regAt_doSnapshot _ k hrearm
  · exact hrearm

theorem Cluster.state_freeCtx_eq {j : Nat} (hlt : j < 64) : ((c.freeCtx k).ctx j).state = ((c.freed k).ctx j).state := by
  have hrearm := (c.freed k).state_rearmDue k hlt
  rw [Cluster.freeCtx_eq]
  split
  · rw [Cluster.state_doSnapshot _ k hlt, hrearm]
  · exact hrearm

theorem Cluster.state_freeCtx_self (hlt : k < 64) : ((c.freeCtx k).ctx k).state = 0 := by
  rw [Cluster.state_freeCtx_eq c k hlt, Cluster.freed, Cluster.ctx_setCtx_self _ _ _ hlt]

theorem Cluster.state_freeCtx_ne {j : Nat} (hlt : j < 64) (h : j ≠ k) : ((c.freeCtx k).ctx j).state = (c.ctx j).state := by
  rw [Cluster.state_freeCtx_eq c k hlt, Cluster.freed, Cluster.ctx_setCtx_ne _ _ _ _ h]

end

/-! The retirement (R407). -/

/-- INT_IMG of a slot is no longer valid, and SPD_MODE.DETONLY follows the images left (R298, R409). -/
def Cluster.imgCleared (c : Cluster) (slot : Nat) : Cluster :=
  let d := c.setReg (rInt + 0x100 + 0x10 * slot) (c.regAt (rInt + 0x100 + 0x10 * slot) &&& 0x7FFFFFFFFFFFFFFF)
  d.setReg rSpd (setFld (d.regAt rSpd) 0 0 (if d.imgs.toList.any (fun i => match i with
    | some i => i.c1
    | none => false) then 1 else 0))

/-- The registers that an image's handles, baselines, contexts and other tables take. -/
def Img.tableRegs (im : Img) : List Nat :=
  im.handles.map rHnd ++ im.bases.map (fun i => rSyn + 0x8000 + 8 * i) ++ im.ctxs.map (fun k => rSyn + 8 * k) ++ im.regs

/-- The linings that the image in a slot declares. -/
def Cluster.slotLids (c : Cluster) (slot : Nat) : List Nat := (c.linings.filter (fun l => l.slot == slot)).map (fun l => l.lid)

theorem Cluster.contains_slotLids {c : Cluster} {slot lid : Nat} :
    (c.slotLids slot).contains lid = true ↔ ∃ l ∈ c.linings, l.slot = slot ∧ l.lid = lid := by
  simp [Cluster.slotLids, and_assoc]

/-- A retirement takes the image's entries out, frees its contexts, and clears INT_IMG. -/
theorem Cluster.doRetire_form {c : Cluster} (hc : c.canon) {slot : Nat} {im : Img} (himg : vat c.imgs slot none = some im) :
    ∃ d : Cluster, d.canon ∧ d.linView = (vset c.imgs slot none, c.reqs.filter (fun q => !(c.slotLids slot).contains q.lid),
        c.susp.filter (fun q => !(c.slotLids slot).contains q.lid), c.linings.filter (fun l => l.slot != slot))
      ∧ (∀ h ∈ im.handles, d.regAt (rHnd h) = 0)
      ∧ c.doRetire slot = (d.each im.ctxs Cluster.freeCtx).imgCleared slot := by
  rw [Cluster.doRetire, himg]
  refine ⟨_, ?_, ?_, ?_, rfl⟩
  · exact Cluster.canon_filter hc _ _ _ _ _ _ _ _ _ _ _ _ _ _ _ _ _ _ _ _
  · rfl
  · intro h hmem
    refine Sparse.get_filter_out (fun a => !im.tableRegs.contains a) c.reg (rHnd h) ?_
    simp only [Img.tableRegs, Bool.not_eq_false', List.contains_iff_mem, List.mem_append, List.mem_map]
    exact Or.inl (Or.inl (Or.inl ⟨h, hmem, rfl⟩))

section
variable {c : Cluster} {slot : Nat}

theorem Cluster.imgCleared_linView : (c.imgCleared slot).linView = c.linView := rfl
theorem Cluster.ctx_imgCleared (k : Nat) : (c.imgCleared slot).ctx k = c.ctx k := rfl

theorem Cluster.regAt_imgCleared_handle (hslot : slot < 8) (h : Nat) : (c.imgCleared slot).regAt (rHnd h) = c.regAt (rHnd h) :=
  (Cluster.regAt_setReg_ne _ (by simp only [rHnd, rSpd]; omega)).trans (Cluster.regAt_setReg_ne _ (by simp only [rHnd, rInt]; omega))

theorem Cluster.valid_imgCleared (hc : c.canon) (hslot : slot < 8) :
    ((c.imgCleared slot).regAt (rInt + 0x100 + 0x10 * slot)).getLsbD 63 = false := by
  have hreg : (c.imgCleared slot).regAt (rInt + 0x100 + 0x10 * slot) = c.regAt (rInt + 0x100 + 0x10 * slot) &&& 0x7FFFFFFFFFFFFFFF :=
    (Cluster.regAt_setReg_ne _ (by simp only [rInt, rSpd]; omega)).trans (Cluster.regAt_setReg_self hc _ _)
  rw [hreg, BitVec.getLsbD_and]
  exact Bool.and_false _

end

/-- What a retirement frees. -/
theorem Cluster.doRetire_frees {c : Cluster} (hc : c.canon) {slot : Nat} (hslot : slot < 8) {im : Img} (himg : vat c.imgs slot none = some im) :
    (c.doRetire slot).linView = (vset c.imgs slot none, c.reqs.filter (fun q => !(c.slotLids slot).contains q.lid),
        c.susp.filter (fun q => !(c.slotLids slot).contains q.lid), c.linings.filter (fun l => l.slot != slot))
    ∧ (∀ k < 64, k ∈ im.ctxs → ((c.doRetire slot).ctx k).state = 0)
    ∧ (∀ h ∈ im.handles, (c.doRetire slot).regAt (rHnd h) = 0)
    ∧ ((c.doRetire slot).regAt (rInt + 0x100 + 0x10 * slot)).getLsbD 63 = false := by
  obtain ⟨d, hd, hview, hhandles, heq⟩ := Cluster.doRetire_form hc himg
  rw [heq]
  refine ⟨?_, fun k hk hmem => ?_, fun h hmem => ?_, ?_⟩
  · rw [Cluster.imgCleared_linView, ← hview]
    exact Cluster.each_keeps Cluster.linView Cluster.freeCtx_linView _ d
  · rw [Cluster.ctx_imgCleared]
    refine Cluster.each_establishes (P := fun e => (e.ctx k).state = 0) hmem (fun e => e.state_freeCtx_self k hk) (fun e j he => ?_) d
    by_cases hj : k = j
    · subst hj
      exact e.state_freeCtx_self k hk
    · exact (e.state_freeCtx_ne j hk hj).trans he
  · rw [Cluster.regAt_imgCleared_handle hslot]
    exact foldl_keep (fun e => e.regAt (rHnd h) = 0) Cluster.freeCtx im.ctxs (hhandles h hmem) (fun e k he => e.regAt_freeCtx k he)
  · exact Cluster.valid_imgCleared (Cluster.each_canon _ _ hd Cluster.freeCtx_canon) hslot

end Sys2Proof.Machine
open Sys2Proof Sys2Proof.Machine

/-- Settles O52: the events of intake by its state (R395 to R407), the checks in the order of their steps with what steps
3 to 7 compare (R402), and what the admission instant puts in force (R406) and a retirement frees (R407). -/
theorem imageIntake : Obligations.ImageIntake := by
  unfold Obligations.ImageIntake
  refine ⟨fun s => ?_, fun c b lines budget => ?_, fun c p slot hc => ?_, fun c slot im hc himg => ?_⟩
  · intro c u base lines gives no stage
    have step {i d e} (hexec : exec i s = done s d) (hd : d = e) : exec i s = gives e := hexec.trans (congrArg (done s) hd)
    refine ⟨fun hready hstate => ⟨fun hok => ?_, fun hok => ?_⟩, fun hready hstate => ⟨?_, fun hslot => ?_, fun hslot => ?_⟩,
      fun id hgrp => ⟨fun hok => ?_, fun hok => ?_, fun r hrej => ?_, fun hclean => ?_, ?_⟩,
      fun hready hstate hstep => ⟨?_, fun r hfail => ?_, fun hfail => ?_, fun hdue => ?_⟩,
      fun p slot hready hstate hgrp hplan hslot => ⟨fun hlt => ?_, fun hle => ?_⟩,
      fun k im himg => ⟨fun hans => ?_, fun hready hretire hrun hcheck hload => ?_⟩⟩
    · exact step rfl ((openIntakeC_of_idle hready hstate).trans (if_pos hok))
    · exact step rfl ((openIntakeC_of_idle hready hstate).trans (if_neg (ne_true_of_eq_false hok)))
    · exact step rfl (abandonC_of_open hready hstate)
    · exact step rfl ((commitC_of_open hready hstate).trans (if_pos (by simp [hslot])))
    · exact step rfl ((commitC_of_open hready hstate).trans (if_neg (by simpa [Option.isSome_iff_ne_none] using hslot)))
    · exact (Cluster.stageDone_head hgrp).trans (if_pos hok)
    · exact (Cluster.stageDone_head hgrp).trans (if_neg (ne_true_of_eq_false hok))
    · rw [Cluster.stageDone_image hgrp]
      split
      · next r' hr' => exact congrArg _ (Option.some.inj (hr'.symm.trans hrej))
      · next hnone => exact nomatch hnone.symm.trans hrej
    · rw [Cluster.stageDone_image hgrp]
      split
      · next r' hr' => exact nomatch hr'.symm.trans hclean
      · rfl
    · exact Cluster.stageDone_load hgrp
    · exact step rfl (acceptanceVerdictC_of_refusal hready hstate hstep)
    · exact step rfl (acceptanceVerdictC_of_found hready hstate hstep hfail)
    · exact step rfl (acceptanceVerdictC_of_clean hready hstate hstep hfail)
    · exact step rfl (acceptTimeoutC_of_due hready hstate hdue)
    · exact step rfl ((admissionC_of_load hready hstate hgrp hplan hslot).trans (if_pos hlt))
    · exact step rfl ((admissionC_of_load hready hstate hgrp hplan hslot).trans (if_neg (Nat.not_lt.mpr hle)))
    · exact step rfl (retireC_of_admitted hans himg)
    · exact step rfl (retirementC_of_marked hready himg hretire hrun hcheck hload)
  · exact ⟨c.checks_fst b lines budget, c.step3_decides b, (c.step4_eq_none b).symm, must_decides (c.planRot_isSome b) _,
      (c.step6_eq_none b).symm, (c.step7_eq_none b).symm⟩
  · have hforce := c.takeIn_imgs_fences p slot.val slot.isLt
    have hfresh (k : CtxId) (hk : k.val ∈ p.img.ctxs) := c.fresh_takeIn p slot.val k.isLt hk
    have hkept (k : CtxId) (hk : k.val ∉ p.img.ctxs) (hvictim : k.val ∉ c.victims p) := c.ctx_takeIn_of_apart p slot.val hk hvictim
    have hfloor (i : Nat) (hi : i < 12) := Cluster.regAt_takeIn_floor hc p slot.val hi
    have hresult := (c.regAt_takeIn_result p slot.val hc).trans (admittedWord_eq slot.isLt)
    have hstate := c.takeIn_state p slot.val
    generalize c.takeIn p slot.val = d at hforce hfresh hkept hfloor hresult hstate ⊢
    obtain ⟨himg, hA, hB, hC⟩ := hforce
    exact ⟨himg, hfresh, hkept, hA, hB, hC,
      fun i hi => (floorWord_ofNat_or c.stepping p.img.latman i).imp_left (hfloor i hi).trans, hresult, hstate⟩
  · obtain ⟨hview, hctxs, hhandles, hvalid⟩ := Cluster.doRetire_frees hc slot.isLt himg
    generalize c.doRetire slot.val = d at hview hctxs hhandles hvalid ⊢
    simp only [Cluster.linView, Prod.mk.injEq] at hview
    obtain ⟨himgs, hreqs, hsusp, hlin⟩ := hview
    intro e gone
    refine ⟨?_, fun k hk => hctxs k.val k.isLt hk, fun q => ?_, fun q => ?_, fun l => ?_, fun h hlt hmem => hhandles h hmem, hvalid⟩
    · exact himgs ▸ vat_vset_self _ _ _ _ slot.isLt
    · rw [show e.reqs = _ from hreqs, List.mem_filter, Bool.not_eq_true', ← Bool.not_eq_true, Cluster.contains_slotLids]
    · rw [show e.susp = _ from hsusp, List.mem_filter, Bool.not_eq_true', ← Bool.not_eq_true, Cluster.contains_slotLids]
    · rw [show e.linings = _ from hlin, List.mem_filter, bne_iff_ne]

end

section
/-! What a pre-emption point, a save, a dispatch and the end of a lining decide (R376 to R390). -/

namespace Sys2Proof.Machine

/-! The prediction of R389, and the variant rule of R390. -/

section
variable {c : Cluster} {tp k : Nat}

theorem Cluster.predictCtx_of_late (htorn : (c.ctx k).torn = false) (hdl : (c.ctx k).dlrel ≠ 0)
    (hfin : tp ≤ vat (c.ctx k).fin (c.ctx k).var 0)
    (hlate : (c.ctx k).dl < predict c.tbNow tp c.tim.held (c.regAt (rClk + 0x10)).toNat (vat (c.ctx k).fin (c.ctx k).var 0)
      (c.ctx k).allow (c.ctx k).hchg) : c.predictCtx tp k = c.setCtx k { c.ctx k with pmiss := true } :=
  (if_neg (by simp [htorn, hdl, hfin])).trans (if_pos hlate)

theorem Cluster.predictCtx_of_kept (h : (c.ctx k).torn = true ∨ (c.ctx k).dlrel = 0 ∨ vat (c.ctx k).fin (c.ctx k).var 0 < tp ∨
    ¬ (c.ctx k).dl < predict c.tbNow tp c.tim.held (c.regAt (rClk + 0x10)).toNat (vat (c.ctx k).fin (c.ctx k).var 0)
      (c.ctx k).allow (c.ctx k).hchg) : c.predictCtx tp k = c := by
  rw [Cluster.predictCtx]
  split
  · rfl
  · next hmonitored =>
    simp only [Bool.or_eq_true, decide_eq_true_eq, not_or] at hmonitored
    obtain ⟨⟨htorn, hdl⟩, hfin⟩ := hmonitored
    exact if_neg (((h.resolve_left htorn).resolve_left hdl).resolve_left hfin)

end

section
variable {x : Ctx} {n : Nat}

theorem variantRule_of_pinned (hpin : x.pin ≠ 0) : variantRule x n = (x.level, x.rest, 0, 0) := if_pos hpin

section
variable (hpin : x.pin = 0)
include hpin

theorem variantRule_of_miss (hmiss : x.pmiss = true ∨ x.dl < x.fintb.toNat) :
    variantRule x n = if x.level < x.nvar - 1 then (x.level + 1, 0, 1, 0) else (x.level, 0, 0, 0) :=
  (if_neg (not_not.mpr hpin)).trans (if_pos (by simpa using hmiss))

section
variable (hmiss : ¬ (x.pmiss = true ∨ x.dl < x.fintb.toNat))
include hmiss

theorem variantRule_of_no_miss : variantRule x n = if x.fintb.toNat + x.allow ≤ x.dl then
      if n ≠ 0 ∧ n ≤ x.rest + 1 then (if 0 < x.level then (x.level - 1, 0, 0, 1) else (x.level, 0, 0, 0))
      else (x.level, satN 0xFFFF (x.rest + 1), 0, 0)
    else (x.level, 0, 0, 0) := by
  refine (if_neg (not_not.mpr hpin)).trans ((if_neg (by simpa using hmiss)).trans ?_)
  simp

theorem variantRule_of_unmet (hmet : ¬ x.fintb.toNat + x.allow ≤ x.dl) : variantRule x n = (x.level, 0, 0, 0) :=
  (variantRule_of_no_miss hpin hmiss).trans (if_neg hmet)

section
variable (hmet : x.fintb.toNat + x.allow ≤ x.dl)
include hmet

theorem variantRule_of_rest (h : n = 0 ∨ x.rest + 1 < n) : variantRule x n = (x.level, min 0xFFFF (x.rest + 1), 0, 0) := by
  rw [variantRule_of_no_miss hpin hmiss, if_pos hmet, if_neg (by omega), satN_eq_min, Nat.min_comm]

theorem variantRule_of_restore (hn : n ≠ 0) (h : n ≤ x.rest + 1) :
    variantRule x n = if 0 < x.level then (x.level - 1, 0, 0, 1) else (x.level, 0, 0, 0) := by
  rw [variantRule_of_no_miss hpin hmiss, if_pos hmet, if_pos ⟨hn, h⟩]

end
end
end
end

/-! The pre-emption (R382). -/

theorem Cluster.preempts_iff (c : Cluster) (r : Run) : c.preempts r = true ↔ r.rerun = false ∧ c.susp.length < 4 ∧ (r.stop = true
    ∨ (∃ q ∈ c.reqs, r.prio < q.prio ∧ c.reqEligible q = true) ∨ (∃ p ∈ c.susp, r.prio < p.prio ∧ c.suspEligible p = true)) := by
  simp [Cluster.preempts, and_assoc, or_assoc]

theorem vat_map {α β : Type} {n : Nat} (v : Vector α n) (f : α → β) {i : Nat} (h : i < n) (d : α) (e : β) :
    vat (v.map f) i e = f (vat v i d) := by
  simp [vat, h]

theorem Cluster.queue_dropOps (c : Cluster) {q : Nat} (h : q < 52) : c.dropOps.queue q = (c.queue q).idle :=
  vat_map _ _ h _ _

/-- A pre-emption discards what has not started, and the save of the point begins. -/
theorem Cluster.preempt_of_run {c : Cluster} {r : Run} (o : MacroOp) (hrun : c.run = some r) : c.preempt o =
    { c.dropOps.stopCores with
      run := some { r with saving := some (opStamp o, fld o 191 182), started := c.queues.toList.map (fun q => q.started), saveRan := 0,
                           choices := c.posts.filter (fun p => p.what.isChoice) }
      tim := { c.tim with running := false, hold := none, next := none } } := by
  simp only [Cluster.preempt, hrun]
  rfl

theorem Cluster.ents_preempt {c : Cluster} {r : Run} (o : MacroOp) (hrun : c.run = some r) {q : Nat} (h : q < 52) :
    ((c.preempt o).queue q).ents = [] := by
  rw [Cluster.preempt_of_run o hrun]
  exact congrArg EngQ.ents (c.queue_dropOps h)

/-! The header of a save area (R383), field by field. -/

section
variable {a b : List Byte} {off len : Nat}

theorem leAt_append_skip (h : a.length ≤ off) : leAt (a ++ b) off len = leAt b (off - a.length) len := by
  rw [leAt, List.drop_append, List.drop_eq_nil_of_le h, List.nil_append, leAt]

theorem leAt_append_here (h : off + len ≤ a.length) : leAt (a ++ b) off len = leAt a off len := by
  rw [leAt, List.drop_append_of_le_length (by omega), List.take_append_of_le_length (by rw [List.length_drop]; omega), leAt]

end

/-- A number that fits its bytes is read back from them. -/
theorem leAt_leBytes {n v : Nat} (h : v < 256 ^ n) (b : List Byte) : leAt (leBytes n v ++ b) 0 n = v := by
  rw [leAt_append_here (by rw [leBytes_length, Nat.zero_add]), leAt, List.drop_zero, List.take_of_length_le (by rw [leBytes_length]),
    leNat_leBytes, Nat.mod_eq_of_lt h]

/-- A field behind another one. -/
theorem leAt_leBytes_skip {n v off len : Nat} (h : n ≤ off) (b : List Byte) : leAt (leBytes n v ++ b) off len = leAt b (off - n) len := by
  rw [leAt_append_skip (by rwa [leBytes_length]), leBytes_length]

/-- Entry q of a table of words. -/
theorem leAt_words {l : List Nat} (hl : ∀ v ∈ l, v < 2 ^ 32) {q : Nat} (hq : q < l.length) (b : List Byte) :
    leAt (l.flatMap (leBytes 4) ++ b) (4 * q) 4 = l.getD q 0 := by
  induction l generalizing q with
  | nil => exact absurd hq (Nat.not_lt_zero q)
  | cons v l ih =>
    rw [List.flatMap_cons, List.append_assoc]
    cases q with
    | zero => exact leAt_leBytes (hl v List.mem_cons_self) _
    | succ q =>
      rw [leAt_leBytes_skip (by omega), List.getD_cons_succ, show 4 * (q + 1) - 4 = 4 * q by omega]
      exact ih (fun w hw => hl w (List.mem_cons_of_mem v hw)) (Nat.lt_of_succ_lt_succ hq)

theorem length_words (l : List Nat) : (l.flatMap (leBytes 4)).length = 4 * l.length := by
  induction l with
  | nil => rfl
  | cons v l ih =>
    rw [List.flatMap_cons, List.length_append, leBytes_length, ih, List.length_cons]
    omega

/-- The fields of the header in order, and the rest of its line. -/
theorem Cluster.saveHead_eq (c : Cluster) (r : Run) (tp live : Nat) (hstarted : r.started.length = 52) :
    c.saveHead r tp live = leBytes 2 r.lid ++ (leBytes 2 live ++ (leBytes 4 tp ++ (leBytes 8 c.tim.held ++
      (leBytes 8 (c.regAt (rClk + 0x10)).toNat ++ (leBytes 8 r.tb0.toNat ++ (leBytes 8 r.tbref ++ (leBytes 1 r.prio ++
        (List.replicate 7 0 ++ (r.started.flatMap (leBytes 4) ++ List.replicate 256 0))))))))) := by
  simp only [Cluster.saveHead, List.length_append, leBytes_length, List.length_replicate, length_words, hstarted, List.append_assoc]

theorem Cluster.saveHead_length (c : Cluster) (r : Run) (tp live : Nat) (hstarted : r.started.length = 52) :
    (c.saveHead r tp live).length = 512 := by
  simp only [Cluster.saveHead_eq _ _ _ _ hstarted, List.length_append, leBytes_length, List.length_replicate, length_words, hstarted]

section
variable {c : Cluster} {r : Run} {tp live : Nat} (hstarted : r.started.length = 52)
include hstarted

theorem Cluster.saveHead_fields (hlid : r.lid < 2 ^ 16) (hlive : live < 2 ^ 16) (htp : tp < 2 ^ 32) (hheld : c.tim.held < 2 ^ 64)
    (href : r.tbref < 2 ^ 64) (hprio : r.prio < 2 ^ 8) :
    let h := c.saveHead r tp live
    leAt h 0 2 = r.lid ∧ leAt h 2 2 = live ∧ leAt h 4 4 = tp ∧ leAt h 8 8 = c.tim.held
    ∧ leAt h 0x10 8 = (c.regAt (rClk + 0x10)).toNat ∧ leAt h 0x18 8 = r.tb0.toNat ∧ leAt h 0x20 8 = r.tbref ∧ leAt h 0x28 1 = r.prio := by
  intro h
  simp only [h, Cluster.saveHead_eq _ _ _ _ hstarted]
  refine ⟨leAt_leBytes hlid _, ?_, ?_, ?_, ?_, ?_, ?_, ?_⟩ <;> repeat rw [leAt_leBytes_skip (by omega)]
  · exact leAt_leBytes hlive _
  · exact leAt_leBytes htp _
  · exact leAt_leBytes hheld _
  · exact leAt_leBytes (c.regAt (rClk + 0x10)).isLt _
  · exact leAt_leBytes r.tb0.isLt _
  · exact leAt_leBytes href _
  · exact leAt_leBytes hprio _

theorem Cluster.saveHead_started (hfit : ∀ v ∈ r.started, v < 2 ^ 32) {q : Nat} (hq : q < 52) :
    leAt (c.saveHead r tp live) (0x30 + 4 * q) 4 = r.started.getD q 0 := by
  rw [Cluster.saveHead_eq _ _ _ _ hstarted]
  repeat rw [leAt_leBytes_skip (by omega)]
  rw [leAt_append_skip (by rw [List.length_replicate]; omega), List.length_replicate]
  refine Eq.trans ?_ (leAt_words hfit (hstarted ▸ hq) (List.replicate 256 0))
  congr 1
  omega

end

/-! The save (R382, R383). -/

/-- Context k is SUSP. -/
def Cluster.setSusp (c : Cluster) (k : Nat) : Cluster := c.setCtx k { c.ctx k with state := 3 }

theorem Cluster.ctx_each_setSusp (ks : List Nat) {c : Cluster} {k : Nat} (hk : k < 64) :
    (c.each ks Cluster.setSusp).ctx k = if k ∈ ks then { c.ctx k with state := 3 } else c.ctx k := by
  induction ks generalizing c with
  | nil => rfl
  | cons j ks ih =>
    rw [Cluster.each_cons, ih, Cluster.setSusp]
    by_cases hj : k = j
    · subst hj
      rw [Cluster.ctx_setCtx_self _ _ _ hk, if_pos List.mem_cons_self, ite_self]
    · rw [Cluster.ctx_setCtx_ne _ _ _ _ hj]
      simp only [List.mem_cons, hj, false_or]

/-- What a lining waits with. -/
def Run.suspended (r : Run) (tp idx : Nat) (begun : List (List (Nat × Nat))) : Susp where
  lid := r.lid
  prio := r.prio
  tp := tp
  live := idx
  ctxs := r.ctxs
  run := { r with stop := false }
  begun := begun

theorem Cluster.suspend_eq (c : Cluster) (r : Run) (tp idx : Nat) : c.suspend r tp idx =
    { c.each r.ctxs Cluster.setSusp with
      run := none
      freeAt := (c.each r.ctxs Cluster.setSusp).clk.free
      susp := (c.each r.ctxs Cluster.setSusp).susp ++ [r.suspended tp idx (c.chans.toList.map (fun cn => cn.begun))] } := rfl

/-- A lining that is suspended: no lining runs, its contexts are SUSP, and it waits behind those suspended before it. -/
theorem Cluster.suspend_spec (c : Cluster) (r : Run) (tp idx : Nat) :
    let t := c.suspend r tp idx
    t.run = none ∧ t.freeAt = c.clk.free ∧ t.mem = c.mem
    ∧ (∃ p : Susp, t.susp = c.susp ++ [p] ∧ p.lid = r.lid ∧ p.prio = r.prio ∧ p.tp = tp ∧ p.live = idx ∧ p.ctxs = r.ctxs)
    ∧ ∀ k : CtxId, (t.ctx k.val) = if k.val ∈ r.ctxs then { c.ctx k.val with state := 3 } else c.ctx k.val := by
  have hkeep {β : Type} (obs : Cluster → β) (h : ∀ d k, obs (Cluster.setSusp d k) = obs d) := Cluster.each_keeps obs h r.ctxs c
  have hfree := hkeep (fun d => d.clk.free) (fun _ _ => rfl)
  have hmem := hkeep (fun d => d.mem) (fun _ _ => rfl)
  have hsusp := hkeep (fun d => d.susp) (fun _ _ => rfl)
  have hctx (k : CtxId) := Cluster.ctx_each_setSusp r.ctxs (c := c) k.isLt
  rw [Cluster.suspend_eq]
  generalize c.each r.ctxs Cluster.setSusp = d at hfree hmem hsusp hctx ⊢
  exact ⟨rfl, hfree, hmem, ⟨_, congrArg (· ++ _) hsusp, rfl, rfl, rfl, rfl, rfl⟩, hctx⟩

theorem Cluster.doSave_of_live {c d : Cluster} {r : Run} {l : LinEnt} {tp idx : Nat} {live : List Byte}
    (hlive : c.liveEntry l idx = (some live, d)) (htab : d.tabSound [rHnd (lnSaveHnd l.desc)]) :
    c.doSave r l tp idx = if (d.writeSave l.desc live r tp idx).takeAll.run.isSome
      then (d.writeSave l.desc live r tp idx).takeAll.suspend r tp idx else (d.writeSave l.desc live r tp idx).takeAll := by
  rw [Cluster.doSave, hlive]
  exact Cluster.withHandle_sound _ htab

/-! What may be dispatched, and what is dispatched first (R379). -/

section
variable (c : Cluster)

theorem Cluster.reqEligible_iff (q : Req) : c.reqEligible q = true ↔ (q.now = true ∨ q.tbat.toNat ≤ c.tbNow + 1250)
    ∧ (∀ k ∈ c.lidCtxs q.lid, (c.ctx k).state ≠ 3) ∧ c.retiring q.lid = false := by
  simp [Cluster.reqEligible, and_assoc]

theorem Cluster.suspEligible_iff (p : Susp) : c.suspEligible p = true ↔
    (∀ k ∈ p.ctxs, (c.ctx k).state ≠ 2) ∧ c.fits p.lid = true ∧ c.retiring p.lid = false := by
  simp only [Cluster.suspEligible, Bool.and_eq_true, Bool.not_eq_true', List.any_eq_false, beq_iff_eq, and_comm]

end

/-- The priority of a choice. -/
def Pick.prio : Pick → Nat
  | .again _ p _ _ => p
  | .resume p => p.prio
  | .fresh q => q.prio

/-- The order in which choices of one priority come: suspended linings first, requests by their TBAT (R379). -/
def Pick.before : Pick → Pick → Prop
  | .fresh q, .fresh q' => q.tbat.toNat ≤ q'.tbat.toNat
  | .fresh _, .resume _ => False
  | _, _ => True

/-- The order in which the unit picks (R379). -/
def Pick.first (a b : Pick) : Prop := b.prio < a.prio ∨ (b.prio = a.prio ∧ a.before b)

section
variable {c : Cluster} {n : Nat}

theorem Cluster.resume_mem_picksAt {p : Susp} : .resume p ∈ c.picksAt n ↔ p ∈ c.susp ∧ p.prio = n ∧ c.suspEligible p = true := by
  simp [Cluster.picksAt]

theorem Cluster.fresh_mem_picksAt {q : Req} : .fresh q ∈ c.picksAt n ↔ q ∈ c.reqs ∧ q.prio = n ∧ c.reqEligible q = true := by
  simp [Cluster.picksAt, sortOn_spec]

theorem Cluster.prio_of_mem_picksAt {x : Pick} (h : x ∈ c.picksAt n) : x.prio = n := by
  cases x with
  | again => simp [Cluster.picksAt] at h
  | resume p => exact (Cluster.resume_mem_picksAt.mp h).2.1
  | fresh q => exact (Cluster.fresh_mem_picksAt.mp h).2.1

theorem Cluster.picksAt_pairwise (c : Cluster) (n : Nat) : (c.picksAt n).Pairwise Pick.before := by
  refine List.pairwise_append.mpr ⟨?_, ?_, ?_⟩
  · exact List.pairwise_map.mpr (List.pairwise_of_forall fun _ _ => trivial)
  · exact List.pairwise_map.mpr (sortOn_spec _ _).1
  · intro a ha b _
    obtain ⟨p, -, rfl⟩ := List.mem_map.mp ha
    cases b <;> trivial

/-- The choices of the four priorities, highest first. -/
def Cluster.picks (c : Cluster) : List Pick := c.picksAt 3 ++ c.picksAt 2 ++ c.picksAt 1 ++ c.picksAt 0

theorem Cluster.pick_of_no_rerun (h : c.rerun = none) : c.pick = c.picks.head? := by
  rw [Cluster.pick, h]
  rfl

theorem Cluster.mem_picks {x : Pick} : x ∈ c.picks ↔ ∃ n < 4, x ∈ c.picksAt n := by
  simp only [Cluster.picks, List.mem_append]
  constructor
  · rintro (((h | h) | h) | h)
    exacts [⟨3, by decide, h⟩, ⟨2, by decide, h⟩, ⟨1, by decide, h⟩, ⟨0, by decide, h⟩]
  · rintro ⟨n, hn, h⟩
    match n, hn with
    | 0, _ => exact Or.inr h
    | 1, _ => exact Or.inl (Or.inr h)
    | 2, _ => exact Or.inl (Or.inl (Or.inr h))
    | 3, _ => exact Or.inl (Or.inl (Or.inl h))

theorem Cluster.picks_pairwise (c : Cluster) : c.picks.Pairwise Pick.first := by
  have hlevel (n : Nat) : (c.picksAt n).Pairwise Pick.first :=
    (c.picksAt_pairwise n).imp_of_mem fun ha hb hab =>
      Or.inr ⟨(Cluster.prio_of_mem_picksAt hb).trans (Cluster.prio_of_mem_picksAt ha).symm, hab⟩
  have hhigher {n m : Nat} (hnm : m < n) {a b : Pick} (ha : a ∈ c.picksAt n) (hb : b ∈ c.picksAt m) : a.first b :=
    Or.inl (by rw [Cluster.prio_of_mem_picksAt ha, Cluster.prio_of_mem_picksAt hb]; exact hnm)
  simp only [Cluster.picks, List.pairwise_append, List.mem_append]
  refine ⟨⟨⟨hlevel 3, hlevel 2, fun a ha b hb => hhigher (by decide) ha hb⟩, hlevel 1, fun a ha b hb => ?_⟩, hlevel 0, fun a ha b hb => ?_⟩
  · obtain ha | ha := ha <;> exact hhigher (by decide) ha hb
  · obtain (ha | ha) | ha := ha <;> exact hhigher (by decide) ha hb

/-- The unit's choice comes before every other one. -/
theorem Cluster.pick_first (hrerun : c.rerun = none) {x : Pick} (hpick : c.pick = some x) :
    x ∈ c.picks ∧ ∀ y ∈ c.picks, y = x ∨ x.first y := by
  rw [Cluster.pick_of_no_rerun hrerun] at hpick
  obtain ⟨rest, hrest⟩ := List.head?_eq_some_iff.mp hpick
  have hsorted := c.picks_pairwise
  rw [hrest] at hsorted ⊢
  exact ⟨List.mem_cons_self, fun y hy => (List.mem_cons.mp hy).imp_right ((List.pairwise_cons.mp hsorted).1 y)⟩

/-- The first of all choices is the first of its priority. -/
theorem Cluster.head_picksAt_of_head_picks {x : Pick} (h : c.picks.head? = some x) : ∃ n, (c.picksAt n).head? = some x := by
  simp only [Cluster.picks, List.head?_append, Option.or_eq_some_iff] at h
  obtain ((h | ⟨-, h⟩) | ⟨-, h⟩) | ⟨-, h⟩ := h
  exacts [⟨3, h⟩, ⟨2, h⟩, ⟨1, h⟩, ⟨0, h⟩]

/-- A suspended lining that is first of its priority is the oldest of it that is eligible. -/
theorem Cluster.oldest_of_head_picksAt {p : Susp} (h : (c.picksAt n).head? = some (.resume p)) :
    ∃ pre post, c.susp = pre ++ p :: post ∧ ∀ p' ∈ pre, ¬ (p'.prio = n ∧ c.suspEligible p' = true) := by
  have hhead : (c.susp.filter (fun p => p.prio == n && c.suspEligible p)).head? = some p := by
    rw [Cluster.picksAt, List.head?_append, List.head?_map, List.head?_map] at h
    cases hsusp : (c.susp.filter (fun p => p.prio == n && c.suspEligible p)).head? with
    | some p' => simpa [hsusp] using h
    | none => simp [hsusp] at h
  obtain ⟨rest, hrest⟩ := List.head?_eq_some_iff.mp hhead
  obtain ⟨pre, post, hsplit, hpre, -, -⟩ := List.filter_eq_cons_iff.mp hrest
  exact ⟨pre, post, hsplit, fun p' hp' => by simpa using hpre p' hp'⟩

end

section
variable {c : Cluster} (hrerun : c.rerun = none) (hreqs : ∀ q ∈ c.reqs, q.prio < 4) (hsusps : ∀ p ∈ c.susp, p.prio < 4)

include hreqs in
theorem Cluster.fresh_mem_picks {q : Req} : .fresh q ∈ c.picks ↔ q ∈ c.reqs ∧ c.reqEligible q = true := by
  simp only [Cluster.mem_picks, Cluster.fresh_mem_picksAt]
  exact ⟨fun ⟨_, _, hmem, _, hel⟩ => ⟨hmem, hel⟩, fun ⟨hmem, hel⟩ => ⟨q.prio, hreqs q hmem, hmem, rfl, hel⟩⟩

include hsusps in
theorem Cluster.resume_mem_picks {p : Susp} : .resume p ∈ c.picks ↔ p ∈ c.susp ∧ c.suspEligible p = true := by
  simp only [Cluster.mem_picks, Cluster.resume_mem_picksAt]
  exact ⟨fun ⟨_, _, hmem, _, hel⟩ => ⟨hmem, hel⟩, fun ⟨hmem, hel⟩ => ⟨p.prio, hsusps p hmem, hmem, rfl, hel⟩⟩

theorem Cluster.again_notMem_picks {a b : Nat} {t : W64} {e : Bool} : Pick.again a b t e ∉ c.picks := by
  simp [Cluster.picks, Cluster.picksAt]

include hrerun hreqs hsusps

theorem Cluster.pick_eq_none : c.pick = none ↔ (∀ q, ¬ (q ∈ c.reqs ∧ c.reqEligible q = true)) ∧
    ∀ p, ¬ (p ∈ c.susp ∧ c.suspEligible p = true) := by
  rw [Cluster.pick_of_no_rerun hrerun, List.head?_eq_none_iff, List.eq_nil_iff_forall_not_mem]
  refine ⟨fun h => ⟨fun q hq => h _ ((Cluster.fresh_mem_picks hreqs).mpr hq), fun p hp => h _ ((Cluster.resume_mem_picks hsusps).mpr hp)⟩,
    fun ⟨hfresh, hresume⟩ x hx => ?_⟩
  cases x with
  | again => exact Cluster.again_notMem_picks hx
  | resume p => exact hresume p ((Cluster.resume_mem_picks hsusps).mp hx)
  | fresh q => exact hfresh q ((Cluster.fresh_mem_picks hreqs).mp hx)

theorem Cluster.pick_fresh {q : Req} (hpick : c.pick = some (.fresh q)) : (q ∈ c.reqs ∧ c.reqEligible q = true)
    ∧ (∀ p, p ∈ c.susp ∧ c.suspEligible p = true → p.prio < q.prio)
    ∧ ∀ q', q' ∈ c.reqs ∧ c.reqEligible q' = true → q'.prio < q.prio ∨ (q'.prio = q.prio ∧ q.tbat.toNat ≤ q'.tbat.toNat) := by
  obtain ⟨hmem, hfirst⟩ := Cluster.pick_first hrerun hpick
  refine ⟨(Cluster.fresh_mem_picks hreqs).mp hmem, fun p hp => ?_, fun q' hq' => ?_⟩
  · obtain heq | hlt | ⟨-, hbefore⟩ := hfirst _ ((Cluster.resume_mem_picks hsusps).mpr hp)
    · exact nomatch heq
    · exact hlt
    · exact hbefore.elim
  · obtain heq | hbefore := hfirst _ ((Cluster.fresh_mem_picks hreqs).mpr hq')
    · exact Or.inr (Pick.fresh.inj heq ▸ ⟨rfl, Nat.le_refl _⟩)
    · exact hbefore

theorem Cluster.pick_resume {p : Susp} (hpick : c.pick = some (.resume p)) : (p ∈ c.susp ∧ c.suspEligible p = true)
    ∧ (∀ q, q ∈ c.reqs ∧ c.reqEligible q = true → q.prio ≤ p.prio) ∧ (∀ p', p' ∈ c.susp ∧ c.suspEligible p' = true → p'.prio ≤ p.prio)
    ∧ ∃ pre post, c.susp = pre ++ p :: post ∧ ∀ p' ∈ pre, ¬ ((p' ∈ c.susp ∧ c.suspEligible p' = true) ∧ p'.prio = p.prio) := by
  obtain ⟨hmem, hfirst⟩ := Cluster.pick_first hrerun hpick
  have hprio (y : Pick) (hy : y ∈ c.picks) : y.prio ≤ p.prio := by
    obtain rfl | hlt | ⟨heq, -⟩ := hfirst y hy
    exacts [Nat.le_refl _, hlt.le, heq.le]
  obtain ⟨n, hhead⟩ := Cluster.head_picksAt_of_head_picks ((Cluster.pick_of_no_rerun hrerun).symm.trans hpick)
  have hn : p.prio = n := Cluster.prio_of_mem_picksAt (List.mem_of_head? hhead)
  obtain ⟨pre, post, hsplit, hpre⟩ := Cluster.oldest_of_head_picksAt hhead
  exact ⟨(Cluster.resume_mem_picks hsusps).mp hmem, fun q hq => hprio _ ((Cluster.fresh_mem_picks hreqs).mpr hq),
    fun p' hp' => hprio _ ((Cluster.resume_mem_picks hsusps).mpr hp'),
    pre, post, hsplit, fun p' hp' h => hpre p' hp' ⟨h.2.trans hn, h.1.2⟩⟩

end

/-! The dispatch (R377, R380). -/

section
variable {c d : Cluster} {q : Req} {l : LinEnt} {bs : List Byte} {im : Img}

theorem Cluster.advanceReq_form (c : Cluster) (q : Req) : c.advanceReq q = { c with reqs := (c.advanceReq q).reqs } := by
  rw [Cluster.advanceReq]
  split <;> rfl

theorem Cluster.advanceReq_linings (c : Cluster) (q : Req) : (c.advanceReq q).linings = c.linings := by
  rw [Cluster.advanceReq_form]

theorem Cluster.advanceReq_tabErr (c : Cluster) (q : Req) : (c.advanceReq q).tabErr = c.tabErr := by
  rw [Cluster.advanceReq_form]

/-- The run that a request's dispatch begins. -/
def Req.freshRun (q : Req) (l : LinEnt) (ctl : List MacroOp) (free : Nat) : Run :=
  { newRun l ctl free false q.prio q.now q.tbat with reqId := q.id, period := q.period }

theorem Cluster.dispatchReq_of_readable (hfits : c.fits q.lid = true) (htab : c.tabSound ((List.range 72).map (fun j => kLining q.lid + j)))
    (hlin : c.lining q.lid = some l) (hread : (c.advanceReq q).residentRead l.slot (lnClOff l.desc) (32 * lnClN l.desc) = (some bs, d))
    (himg : vat d.imgs l.slot none = some im) :
    c.dispatchReq q = d.beginRun im l (q.freshRun l (ctlOps bs (lnClN l.desc)) d.clk.free) := by
  have htab' : (c.advanceReq q).tabSound ((List.range 72).map (fun j => kLining q.lid + j)) := by
    rw [Cluster.tabSound, Cluster.advanceReq_tabErr]
    exact htab
  have hlin' : (c.advanceReq q).lining q.lid = some l := by
    rw [Cluster.lining, Cluster.advanceReq_linings]
    exact hlin
  refine (if_neg (by simp [hfits])).trans ?_
  simp only [Cluster.dispatchLid, Cluster.tabRead_sound htab', hlin', hread, himg, Bool.not_true, Bool.false_eq_true, if_false]
  rfl

end

/-! The contexts that a dispatch binds (R380). -/

section
variable (c : Cluster) (desc : List Byte) (again : Bool) (tbat : W64) (i k : Nat)

theorem Cluster.ctx_bindCtx_self (hk : k < 64) :
    ((c.bindCtx desc again tbat i k).ctx k).state = 2 ∧ ((c.bindCtx desc again tbat i k).ctx k).torn = (c.ctx k).torn := by
  rw [Cluster.bindCtx]
  dsimp only
  rw [Cluster.ctx_account, Cluster.ctx_setCtx_self _ _ _ hk]
  cases again <;> exact ⟨rfl, rfl⟩

theorem Cluster.ctx_bindCtx_ne {j : Nat} (h : j ≠ k) : (c.bindCtx desc again tbat i k).ctx j = c.ctx j := by
  rw [Cluster.bindCtx]
  dsimp only
  rw [Cluster.ctx_account, Cluster.ctx_setCtx_ne _ _ _ _ h]

theorem Cluster.torn_bindCtx {j : Nat} (hj : j < 64) : ((c.bindCtx desc again tbat i k).ctx j).torn = (c.ctx j).torn := by
  by_cases h : j = k
  · subst h
    exact (c.ctx_bindCtx_self desc again tbat i j hj).2
  · rw [c.ctx_bindCtx_ne desc again tbat i k h]

theorem Cluster.bindCtx_cores : (c.bindCtx desc again tbat i k).cores = c.cores := by
  simp [Cluster.bindCtx]

end

/-- The contexts of a lining bound, in the order of its list. -/
def Cluster.ctxsBound (c : Cluster) (l : LinEnt) (r : Run) : Cluster :=
  c.each (lnCtxs l.desc).zipIdx (fun c p => c.bindCtx l.desc r.rerun r.tbat p.2 p.1)

theorem Cluster.torn_ctxsBound (c : Cluster) (l : LinEnt) (r : Run) {k : Nat} (hk : k < 64) :
    ((c.ctxsBound l r).ctx k).torn = (c.ctx k).torn := by
  rw [Cluster.ctxsBound]
  exact Cluster.each_keeps (fun d => (d.ctx k).torn) (fun d p => d.torn_bindCtx _ _ _ _ _ hk) _ c

theorem Cluster.state_ctxsBound (c : Cluster) {l : LinEnt} (r : Run) {k : Nat} (hk : k < 64) (hmem : k ∈ lnCtxs l.desc) :
    ((c.ctxsBound l r).ctx k).state = 2 := by
  obtain ⟨i, hi⟩ := List.mem_iff_getElem?.mp hmem
  replace hi : (k, i) ∈ (lnCtxs l.desc).zipIdx := List.mem_zipIdx_iff_getElem?.mpr hi
  have hself (d : Cluster) := (d.ctx_bindCtx_self l.desc r.rerun r.tbat i k hk).1
  have hkeep (d : Cluster) (p : Nat × Nat) (hd : (d.ctx k).state = 2) : ((d.bindCtx l.desc r.rerun r.tbat p.2 p.1).ctx k).state = 2 := by
    by_cases h : k = p.1
    · rw [h] at hk ⊢
      exact (d.ctx_bindCtx_self _ _ _ _ p.1 hk).1
    · rw [d.ctx_bindCtx_ne _ _ _ _ _ h]
      exact hd
  exact Cluster.each_establishes hi hself hkeep c

theorem Cluster.ctxsBound_cores (c : Cluster) (l : LinEnt) (r : Run) : (c.ctxsBound l r).cores = c.cores :=
  Cluster.each_keeps (fun d => d.cores) (fun d _ => d.bindCtx_cores _ _ _ _ _) _ c

/-! The cores that a dispatch starts, where none waits for its memories (R273, R278). -/

/-- No control core waits for its memories. -/
def Cluster.coresLoaded (c : Cluster) : Prop := ∀ n : CoreId, (c.core n.val).reloadI = false ∧ (c.core n.val).reloadD = false

theorem Cluster.reload_of_loaded {c : Cluster} (h : c.coresLoaded) (n : CoreId) : c.reload n.val = c := by
  obtain ⟨hi, hd⟩ := h n
  exact if_pos (by simp [hi, hd])

/-- A core starts, or nothing changes. -/
theorem Cluster.startCore_of_loaded {c : Cluster} (h : c.coresLoaded) (im : Img) (desc : List Byte) (again : Bool) (cur : Nat) (n : CoreId) :
    c.startCore im desc again cur n.val = c ∨ ∃ s walk code, c.startCore im desc again cur n.val =
      c.setCore n.val ((c.core n.val).begin s walk code cur again) := by
  rw [Cluster.startCore]
  split
  · exact Or.inl rfl
  · rw [Cluster.reload_of_loaded h n]
    dsimp only
    split
    · exact Or.inl rfl
    · next s hs =>
      split
      · exact Or.inl rfl
      · exact Or.inr ⟨s, _, _, rfl⟩

/-- What a dispatch settles before its cores start: contexts, time and run. -/
def Cluster.runView (c : Cluster) : Vector Ctx 64 × Timing × Option Run := (c.ctxs, c.tim, c.run)

theorem Cluster.coresLoaded_setCore_begin {c : Cluster} (h : c.coresLoaded) (n : CoreId) (s : CoreSec) (walk code cur : Nat) (again : Bool) :
    (c.setCore n.val ((c.core n.val).begin s walk code cur again)).coresLoaded := by
  intro m
  by_cases hm : m.val = n.val
  · rw [hm, Cluster.core_setCore_self _ _ _ n.isLt]
    exact h n
  · rw [Cluster.core_setCore_ne _ _ _ _ hm]
    exact h m

theorem Cluster.startCores_of_loaded {c : Cluster} (h : c.coresLoaded) (im : Img) (desc : List Byte) (again : Bool) (cur : Nat) :
    (c.each (List.range 8) (fun c n => c.startCore im desc again cur n)).runView = c.runView := by
  have hkept : (c.each (List.range 8) (fun c n => c.startCore im desc again cur n)).coresLoaded
      ∧ (c.each (List.range 8) (fun c n => c.startCore im desc again cur n)).runView = c.runView := by
    refine List.foldlRecOn (motive := fun (d : Cluster) => d.coresLoaded ∧ d.runView = c.runView) _ _ ⟨h, rfl⟩ fun d ⟨hd, hview⟩ n hn => ?_
    obtain hsame | ⟨s, walk, code, hstart⟩ := Cluster.startCore_of_loaded hd im desc again cur ⟨n, List.mem_range.mp hn⟩
    · rw [hsame]
      exact ⟨hd, hview⟩
    · rw [hstart]
      exact ⟨Cluster.coresLoaded_setCore_begin hd ⟨n, List.mem_range.mp hn⟩ _ _ _ _ _, hview⟩
  exact hkept.2

/-- A run before its LCC 0. -/
def Cluster.atStart (c : Cluster) (r : Run) : Cluster :=
  let clear : Chan → Chan := fun cn => { cn with begun := [] }
  { c with
    run := some r
    chans := c.chans.map clear
    tim := { c.tim with lcc := 0, running := false, hold := none, next := none, held := 0, waive := [] } }

section
variable (c : Cluster)

theorem Cluster.atStart_cores (r : Run) : (c.atStart r).cores = c.cores := rfl
theorem Cluster.atStart_ctxs (r : Run) : (c.atStart r).ctxs = c.ctxs := rfl
theorem Cluster.atStart_run (r : Run) : (c.atStart r).run = some r := rfl
theorem Cluster.atStart_tim (r : Run) : (c.atStart r).tim.lcc = 0 ∧ (c.atStart r).tim.running = false ∧ (c.atStart r).tim.held = 0 :=
  ⟨rfl, rfl, rfl⟩

theorem Cluster.runRegs_cores (again : Bool) (prio : Nat) (now : Bool) (lid : Nat) : (c.runRegs again prio now lid).cores = c.cores := rfl
theorem Cluster.runRegs_ctxs (again : Bool) (prio : Nat) (now : Bool) (lid : Nat) : (c.runRegs again prio now lid).ctxs = c.ctxs := rfl
theorem Cluster.openQueues_cores (desc : List Byte) : (c.openQueues desc).cores = c.cores := by rw [Cluster.openQueues]
theorem Cluster.openQueues_ctxs (desc : List Byte) : (c.openQueues desc).ctxs = c.ctxs := by rw [Cluster.openQueues]

/-- A lining with its contexts bound, its queues open and its run begun, before its cores start. -/
def Cluster.runBegun (l : LinEnt) (r : Run) : Cluster :=
  (((c.ctxsBound l r).openQueues l.desc).runRegs r.rerun r.prio r.now l.lid).atStart r

theorem Cluster.beginRun_eq (im : Img) (l : LinEnt) (r : Run) : c.beginRun im l r =
    (c.runBegun l r).each (List.range 8) (fun d n => d.startCore im l.desc r.rerun ((lnCtxs l.desc).foldl min 63) n) := rfl

theorem Cluster.runBegun_cores (l : LinEnt) (r : Run) : (c.runBegun l r).cores = c.cores := by
  rw [Cluster.runBegun, Cluster.atStart_cores, Cluster.runRegs_cores, Cluster.openQueues_cores, Cluster.ctxsBound_cores]

theorem Cluster.runBegun_ctxs (l : LinEnt) (r : Run) : (c.runBegun l r).ctxs = (c.ctxsBound l r).ctxs := by
  rw [Cluster.runBegun, Cluster.atStart_ctxs, Cluster.runRegs_ctxs, Cluster.openQueues_ctxs]

end

theorem Cluster.coresLoaded_of_cores {c d : Cluster} (h : c.coresLoaded) (hcores : d.cores = c.cores) : d.coresLoaded := by
  intro n
  rw [Cluster.core, hcores]
  exact h n

theorem Cluster.beginRun_runView {c : Cluster} (h : c.coresLoaded) (im : Img) (l : LinEnt) (r : Run) :
    (c.beginRun im l r).runView = (c.runBegun l r).runView := by
  rw [Cluster.beginRun_eq]
  exact Cluster.startCores_of_loaded (Cluster.coresLoaded_of_cores h (c.runBegun_cores l r)) _ _ _ _

/-- A run begins: its contexts are bound, and time stands at LCC 0. -/
theorem Cluster.beginRun_spec {c : Cluster} (h : c.coresLoaded) (im : Img) (l : LinEnt) (r : Run) :
    let t := c.beginRun im l r
    (∀ k : CtxId, k.val ∈ lnCtxs l.desc → (t.ctx k.val).state = 2 ∧ (t.ctx k.val).torn = (c.ctx k.val).torn)
    ∧ t.tim.lcc = 0 ∧ t.tim.running = false ∧ t.tim.held = 0 ∧ t.run = some r := by
  intro t
  have hview : t.runView = (c.runBegun l r).runView := Cluster.beginRun_runView h im l r
  simp only [Cluster.runView, Prod.mk.injEq] at hview
  obtain ⟨hctxs, htim, hrun⟩ := hview
  rw [htim]
  obtain ⟨hlcc, hrunning, hheld⟩ := Cluster.atStart_tim (((c.ctxsBound l r).openQueues l.desc).runRegs r.rerun r.prio r.now l.lid) r
  refine ⟨fun k hk => ?_, hlcc, hrunning, hheld, hrun.trans (Cluster.atStart_run _ r)⟩
  rw [Cluster.ctx_eq_of_ctxs (hctxs.trans (c.runBegun_ctxs l r)) k.val]
  exact ⟨c.state_ctxsBound r k.isLt hk, c.torn_ctxsBound l r k.isLt⟩

end Sys2Proof.Machine

open Sys2Proof Sys2Proof.Machine

/-- Settles O42: the prediction (R389), the pre-emption (R382), the header and the instant of a save (R383), eligibility and
the pick (R379), the dispatch of a request (R380), and the variant rule (R390). -/
theorem liningChoices : Obligations.LiningChoices := by
  unfold Obligations.LiningChoices
  refine ⟨fun c tp k => ?_, fun c r o => ?_, fun c r tp live hlid hlive htp hheld href hprio hlen hfit => ?_,
    fun c d r l tp idx live hlive htab => ?_, fun c => ?_, fun c d q l bs im hfits htab hlin hread himg hloaded => ?_, fun x n => ?_⟩
  · exact ⟨Cluster.predictCtx_of_late, Cluster.predictCtx_of_kept⟩
  · refine ⟨c.preempts_iff r, fun hrun => ⟨_, congrArg Cluster.run (Cluster.preempt_of_run o hrun), rfl, rfl, rfl, rfl, rfl, ?_⟩⟩
    refine ⟨?_, ?_, fun q => Cluster.ents_preempt o hrun q.isLt, ?_, ?_⟩ <;> rw [Cluster.preempt_of_run o hrun] <;> rfl
  · intro h
    obtain ⟨h0, h2, h4, h8, h10, h18, h20, h28⟩ := Cluster.saveHead_fields (c := c) hlen hlid hlive htp hheld href hprio
    exact ⟨c.saveHead_length r tp live hlen, h0, h2, h4, h8, h10, h18, h20, h28, fun q hq => Cluster.saveHead_started hlen hfit hq⟩
  · have hsave : c.doSave r l tp idx = _ := Cluster.doSave_of_live hlive htab
    intro cores sync e
    refine ⟨fun hnone => hsave.trans (if_neg (by rw [show (d.writeSave l.desc live r tp idx).takeAll.run = none from hnone]; simp)),
      fun hsome => ?_⟩
    have hsuspend : c.doSave r l tp idx = e.suspend r tp idx := hsave.trans (if_pos (Option.isSome_iff_ne_none.mpr hsome))
    rw [hsuspend]
    exact e.suspend_spec r tp idx
  · refine ⟨c.reqEligible_iff, c.suspEligible_iff, fun a b d e hrerun => ?_, fun hrerun hreqs hsusps => ?_⟩
    · rw [Cluster.pick, hrerun]
    · exact ⟨Cluster.pick_eq_none hrerun hreqs hsusps, fun q => Cluster.pick_fresh hrerun hreqs hsusps,
        fun p => Cluster.pick_resume hrerun hreqs hsusps⟩
  · intro t
    have ht : t = d.beginRun im l (q.freshRun l (ctlOps bs (lnClN l.desc)) d.clk.free) :=
      Cluster.dispatchReq_of_readable hfits htab hlin hread himg
    obtain ⟨hctx, hlcc, hrunning, hheld, hrun⟩ :=
      Cluster.beginRun_spec hloaded im l (q.freshRun l (ctlOps bs (lnClN l.desc)) d.clk.free)
    rw [ht]
    exact ⟨hctx, hlcc, hrunning, hheld, _, hrun, rfl, rfl, rfl, rfl, rfl, rfl, rfl, rfl, rfl⟩
  · refine ⟨fun hpin => variantRule_of_pinned hpin, fun hpin hmiss hlevel => ?_, fun hpin hmiss hlevel => ?_,
      fun hpin hmiss hmet => variantRule_of_unmet hpin hmiss hmet, fun hpin hmiss hmet hrest => variantRule_of_rest hpin hmiss hmet hrest,
      fun hpin hmiss hmet hn hrest hlevel => ?_, fun hpin hmiss hmet hn hrest hlevel => ?_⟩
    · exact (variantRule_of_miss hpin hmiss).trans (if_pos (by omega))
    · exact (variantRule_of_miss hpin hmiss).trans (if_neg (by omega))
    · exact (variantRule_of_restore hpin hmiss hmet hn hrest).trans (if_pos hlevel)
    · exact (variantRule_of_restore hpin hmiss hmet hn hrest).trans ((if_neg (by omega)).trans (by rw [hlevel]))

end

section
/-! Scalar instructions that write one register from the core's own registers (R268), each in the cycle in which it runs. -/

namespace Sys2Proof.Machine

/-! Words and their immediates. -/

theorem sextN_toNat {k : Nat} (hk : 0 < k) (x : BitVec k) : sextN k x.toNat = x.toInt := by
  obtain ⟨m, rfl⟩ := Nat.exists_eq_add_one.mpr hk
  rw [sextN, BitVec.toInt_eq_toNat_cond, Nat.add_sub_cancel, pow_succ', pow_succ']
  split <;> split <;> (push_cast; omega)

/-- The low bits of a number as a signed field. -/
theorem sextN_mod {k : Nat} (hk : 0 < k) (v : Nat) : sextN k (v % 2 ^ k) = (BitVec.ofNat k v).toInt := by
  rw [← sextN_toNat hk, BitVec.toNat_ofNat]

/-- A field of a word as a signed number. -/
theorem sextN_fld {w hi lo len : Nat} (x : BitVec w) (hlen : 0 < len) (h : hi + 1 = lo + len) :
    sextN len (fld x hi lo) = (x.extractLsb' lo len).toInt := by
  obtain rfl : len = hi + 1 - lo := by omega
  rw [fld_eq_extract, sextN_toNat hlen]

theorem ofInt_sextN {k : Nat} (hk : 0 < k) (v : Nat) : BitVec.ofInt 64 (sextN k (v % 2 ^ k)) = (BitVec.ofNat k v).signExtend 64 := by
  rw [sextN_mod hk]
  rfl

theorem sImm_eq (w : Nat) : sImm w = (BitVec.ofNat 16 w).signExtend 64 := ofInt_sextN (by decide) w

/-! What the operations are on numbers. -/

section
variable (a b : W64)

theorem sub_eq_add_not : a - b = a + ~~~b + 1 := by rw [BitVec.sub_eq_add_neg, BitVec.neg_eq_not_add, BitVec.add_assoc]; rfl

theorem mul_eq_ofNat : a * b = BitVec.ofNat 64 (a.toNat * b.toNat) := BitVec.eq_of_toNat_eq (by simp)

/-- The upper half of the product of two numbers. -/
theorem mulhu_eq_extract :
    BitVec.ofNat 64 (a.toNat * b.toNat / 2 ^ 64) = (a.zeroExtend 128 * b.zeroExtend 128).extractLsb' 64 64 := by
  have hlt : a.toNat * b.toNat < 2 ^ 128 := by have := Nat.mul_lt_mul'' a.isLt b.isLt; omega
  apply BitVec.eq_of_toNat_eq
  rw [BitVec.extractLsb'_toNat, BitVec.toNat_mul, Nat.shiftRight_eq_div_pow, BitVec.toNat_ofNat,
    BitVec.toNat_setWidth_of_le (by decide), BitVec.toNat_setWidth_of_le (by decide), Nat.mod_eq_of_lt hlt]

theorem mulhs_eq_extract :
    BitVec.ofInt 64 (a.toInt * b.toInt / 2 ^ 64) = (a.signExtend 128 * b.signExtend 128).extractLsb' 64 64 := by
  have hmul : a.signExtend 128 * b.signExtend 128 = BitVec.ofInt 128 (a.toInt * b.toInt) := by
    rw [BitVec.ofInt_mul]; rfl
  apply BitVec.eq_of_toNat_eq
  rw [hmul, BitVec.extractLsb'_toNat, Nat.shiftRight_eq_div_pow, BitVec.toNat_ofInt, BitVec.toNat_ofInt]
  omega

theorem min_eq_ite_slt : (if a.toInt ≤ b.toInt then a else b) = if b.slt a then b else a := by
  simp only [BitVec.slt_iff_toInt_lt, ← not_le, ite_not]

theorem max_eq_ite_slt : (if a.toInt ≤ b.toInt then b else a) = if a.slt b then b else a := by
  simp only [BitVec.slt_iff_toInt_lt]
  rcases lt_trichotomy a.toInt b.toInt with h | h | h
  · rw [if_pos h.le, if_pos h]
  · rw [if_pos h.le, BitVec.eq_of_toInt_eq h, ite_self]
  · rw [if_neg h.not_ge, if_neg h.asymm]

theorem min_eq_ite_ult : (if a.toNat ≤ b.toNat then a else b) = if b.ult a then b else a := by
  simp only [BitVec.ult_iff_toNat_lt, ← not_le, ite_not]

theorem max_eq_ite_ult : (if a.toNat ≤ b.toNat then b else a) = if a.ult b then b else a := by
  simp only [BitVec.ult_iff_toNat_lt]
  rcases lt_trichotomy a.toNat b.toNat with h | h | h
  · rw [if_pos h.le, if_pos h]
  · rw [if_pos h.le, BitVec.eq_of_toNat_eq h, ite_self]
  · rw [if_neg h.not_ge, if_neg h.asymm]

variable (k : Nat)

theorem shiftLeft_eq_ofNat : a <<< k = BitVec.ofNat 64 (a.toNat * 2 ^ k) :=
  BitVec.eq_of_toNat_eq (by rw [BitVec.toNat_shiftLeft, BitVec.toNat_ofNat, Nat.shiftLeft_eq])

theorem shiftRight_eq_ofNat : a >>> k = BitVec.ofNat 64 (a.toNat / 2 ^ k) :=
  BitVec.eq_of_toNat_eq (by
    rw [BitVec.toNat_ushiftRight, BitVec.toNat_ofNat, Nat.shiftRight_eq_div_pow,
      Nat.mod_eq_of_lt ((Nat.div_le_self _ _).trans_lt a.isLt)])

theorem sshiftRight_eq_ofInt : a.sshiftRight k = BitVec.ofInt 64 (a.toInt / 2 ^ k) := by
  rw [BitVec.sshiftRight, Int.shiftRight_eq_div_pow]
  norm_cast

end

/-! The instructions. -/

section
variable {c : Cluster} {n : CoreId} {form : Nat → Bool}

theorem Cluster.alu_fetches {f : Core → Nat → W64} {v : W64} (h : c.fetches n form) (hv : f (c.core n.val) (c.word n.val) = v) :
    c.alu n.val form f = c.setCore n.val ((c.core n.val).setS (sRd (c.word n.val)) v).adv :=
  hv ▸ Cluster.scal_fetches h

theorem Cluster.aluRR_fetches {fn : Nat} {f : W64 → W64 → W64} {v : W64} (h : c.fetches n (isFn 0 fn))
    (hv : f ((c.core n.val).s (sRa (c.word n.val))) ((c.core n.val).s (sRb (c.word n.val))) = v) :
    c.aluRR n.val fn f = c.setCore n.val ((c.core n.val).setS (sRd (c.word n.val)) v).adv := Cluster.alu_fetches h hv

theorem Cluster.aluImm_fetches {maj : Nat} {f : W64 → W64 → W64} (h : c.fetches n (isMaj maj)) :
    c.aluImm n.val maj f = c.setCore n.val ((c.core n.val).setS (sRd (c.word n.val))
      (f ((c.core n.val).s (sRa (c.word n.val))) ((BitVec.ofNat 16 (c.word n.val)).signExtend 64))).adv :=
  Cluster.alu_fetches h (by rw [sImm_eq])

theorem Cluster.shiftImm_fetches {kind : Nat} {f : W64 → Nat → W64} {v : W64}
    (h : c.fetches n (fun w => isMaj 5 w && w / 64 % 4 == kind))
    (hv : f ((c.core n.val).s (sRa (c.word n.val))) (c.word n.val % 64) = v) :
    c.shiftImm n.val kind f = c.setCore n.val ((c.core n.val).setS (sRd (c.word n.val)) v).adv := Cluster.alu_fetches h hv

section
variable {fn : Nat} {f : W64 → Nat → W64} (h : c.fetches n (isFn 0 fn))
include h

theorem Cluster.shiftRR_of_lt {v : W64} (hk : ((c.core n.val).s (sRb (c.word n.val))).toNat < 64)
    (hv : f ((c.core n.val).s (sRa (c.word n.val))) ((c.core n.val).s (sRb (c.word n.val))).toNat = v) :
    c.shiftRR n.val fn f = c.setCore n.val ((c.core n.val).setS (sRd (c.word n.val)) v).adv :=
  (Cluster.scal_fetches h).trans ((if_pos hk).trans (by rw [hv]))

/-- A shift by 64 or more writes a free value, and only the counter of free values shows it. -/
theorem Cluster.shiftRR_of_le (hk : 64 ≤ ((c.core n.val).s (sRb (c.word n.val))).toNat) :
    ∃ v m, c.shiftRR n.val fn f
      = ({ c with freeCtr := m } : Cluster).setCore n.val ((c.core n.val).setS (sRd (c.word n.val)) v).adv :=
  ⟨c.freeD.1, _, (Cluster.scal_fetches h).trans (if_neg (not_lt.mpr hk))⟩

end

/-- The bits of a register after MOVK. -/
theorem getLsbD_movk (x : W64) (w k : Nat) {i : Nat} (hi : i < 64) :
    (setFld x (16 * (k % 4) + 15) (16 * (k % 4)) (w % 2 ^ 16)).getLsbD i
      = if i / 16 = k % 4 then w.testBit (i % 16) else x.getLsbD i := by
  rw [getLsbD_setFld x _ _ _ _ (by omega) hi]
  by_cases h : i / 16 = k % 4
  · rw [if_pos (by omega), if_pos h, Nat.testBit_mod_two_pow, show i - 16 * (k % 4) = i % 16 by omega]
    simp [Nat.mod_lt]
  · rw [if_neg (by omega), if_neg h]

end

end Sys2Proof.Machine

open Sys2Proof Sys2Proof.Machine

/-- Settles O2: each operation's value, for a shift by the amount. -/
theorem aluRegister : Obligations.AluRegister := by
  unfold Obligations.AluRegister
  intro n s c x a b ans
  refine ⟨fun h => ?add, fun h => ?sub, fun h => ?and, fun h => ?or, fun h => ?xor, fun h => ?mul, fun h => ?mulhu,
    fun h => ?mulhs, fun h => ?min, fun h => ?max, fun h => ?minu, fun h => ?maxu, fun h hk => ?shl, fun h hk => ?shr,
    fun h hk => ?shra, fun hk => ⟨fun h => ?shlFree, fun h => ?shrFree, fun h => ?shraFree⟩⟩
  case add | and | or | xor => exact congrArg (done s) (Cluster.aluRR_fetches h rfl)
  case sub => exact congrArg (done s) (Cluster.aluRR_fetches h (sub_eq_add_not a b))
  case mul => exact congrArg (done s) (Cluster.aluRR_fetches h (mul_eq_ofNat a b))
  case mulhu => exact congrArg (done s) (Cluster.aluRR_fetches h (mulhu_eq_extract a b))
  case mulhs => exact congrArg (done s) (Cluster.aluRR_fetches h (mulhs_eq_extract a b))
  case min => exact congrArg (done s) (Cluster.aluRR_fetches h (min_eq_ite_slt a b))
  case max => exact congrArg (done s) (Cluster.aluRR_fetches h (max_eq_ite_slt a b))
  case minu => exact congrArg (done s) (Cluster.aluRR_fetches h (min_eq_ite_ult a b))
  case maxu => exact congrArg (done s) (Cluster.aluRR_fetches h (max_eq_ite_ult a b))
  case shl => exact congrArg (done s) (Cluster.shiftRR_of_lt h hk (shiftLeft_eq_ofNat a _))
  case shr => exact congrArg (done s) (Cluster.shiftRR_of_lt h hk (shiftRight_eq_ofNat a _))
  case shra => exact congrArg (done s) (Cluster.shiftRR_of_lt h hk (sshiftRight_eq_ofInt a _))
  case shlFree | shrFree | shraFree =>
    obtain ⟨v, m, hfree⟩ := Cluster.shiftRR_of_le h hk
    exact ⟨v, m, congrArg (done s) hfree⟩

/-- Settles O3: the immediate of each form, and the bits that MOVK replaces. -/
theorem aluImmediate : Obligations.AluImmediate := by
  unfold Obligations.AluImmediate
  intro n s c x w a imm ans sh
  refine ⟨fun h => ?addi, fun h => ?andi, fun h => ?ori, fun h => ?xori, fun h => ?shli, fun h => ?shri, fun h => ?shrai,
    fun h => ?movk⟩
  case addi | andi | ori | xori => exact congrArg (done s) (Cluster.aluImm_fetches h)
  case shli => exact congrArg (done s) (Cluster.shiftImm_fetches h (shiftLeft_eq_ofNat a _))
  case shri => exact congrArg (done s) (Cluster.shiftImm_fetches h (shiftRight_eq_ofNat a _))
  case shrai => exact congrArg (done s) (Cluster.shiftImm_fetches h (sshiftRight_eq_ofInt a _))
  case movk => exact ⟨_, congrArg (done s) (Cluster.alu_fetches h rfl), fun i hi => getLsbD_movk _ w (sRa w) hi⟩

end

section
/-! Compares, predicate logic, branches, and the instructions of time, credit and context (R268). -/

namespace Sys2Proof.Machine

section
variable {c : Cluster} {n : CoreId} {form form' : Nat → Bool}

theorem Cluster.fetches.form_word (h : c.fetches n form) : form (c.word n.val) = true := by
  obtain ⟨-, -, -, hform, -⟩ := h
  exact hform

theorem Cluster.fetches.congr_form (h : c.fetches n form) (h' : form' (c.word n.val) = true) : c.fetches n form' := by
  obtain ⟨harmed, hready, hcode, -, himem⟩ := h
  exact ⟨harmed, hready, hcode, h', himem⟩

end

/-! Predicates. -/

theorem condHolds_eq {k : Nat} (hk : k < 6) (a b : W64) : condHolds k a b =
    if k = 0 then decide (a = b) else if k = 1 then decide (a ≠ b) else if k = 2 then a.slt b
      else if k = 3 then a.sle b else if k = 4 then a.ult b else a.ule b := by
  match k, hk with
  | 0, _ => rfl
  | 1, _ => exact (decide_not (p := a = b)).symm
  | 2, _ => rfl
  | 3, _ => rfl
  | 4, _ => rfl
  | 5, _ => rfl

section
variable {c : Cluster} {n : CoreId}

/-- A compare writes its predicate, under a COND of the table. -/
theorem Cluster.compare_fetches {maj : Nat} {b : Core → Nat → W64} {y : W64} (h : c.fetches n (isMaj maj))
    (hcond : c.word n.val / 2 ^ 9 % 16 < 6) (hy : b (c.core n.val) (c.word n.val) = y) :
    let x := c.core n.val
    let w := c.word n.val
    c.compare n.val maj b = c.setCore n.val (x.setP (w / 2 ^ 23 % 8) (condHolds (w / 2 ^ 9 % 16) (x.s (w / 2 ^ 18 % 32)) y)).adv := by
  subst hy
  exact Cluster.scal_fetches (h.congr_form (by rw [h.form_word, decide_eq_true hcond]; rfl))

/-- PLOG writes the operation that its FN names, one of four. -/
theorem plogC_fetches {fn : Nat} {b : Bool} (h : c.fetches n (isMaj 10)) (hfn : sFn (c.word n.val) = fn) (hlt : fn < 4)
    (hb : plogOf fn ((c.core n.val).p (sRa (c.word n.val) % 8)) ((c.core n.val).p (sRb (c.word n.val) % 8)) = b) :
    plogC c n.val = c.setCore n.val ((c.core n.val).setP (sRd (c.word n.val) % 8) b).adv := by
  subst hfn
  refine (Cluster.scal_fetches (h.congr_form (by rw [h.form_word, decide_eq_true hlt]; rfl))).trans ?_
  rw [Nat.mod_eq_of_lt hlt, hb]

/-! Jumps. -/

theorem brTarget_eq (x : Core) (w : Nat) :
    brTarget x w = ((((x.pc : Nat) : Int) + 4 * (BitVec.ofNat 22 w).toInt) % 65536).toNat := by
  rw [brTarget, sextN_mod (by decide)]

theorem Core.jump_brTarget (x y : Core) (w : Nat) : y.jump (brTarget x w) =
    { y with pc := ((((x.pc : Nat) : Int) + 4 * (BitVec.ofNat 22 w).toInt) % 65536).toNat, stall := .none } := by
  have hlt : brTarget x w % 65536 = brTarget x w := by
    rw [brTarget]
    omega
  rw [Core.jump, hlt, brTarget_eq]

/-! Waits for time and for the walk. -/

theorem Cluster.wdrainCheck_of_wdrain {c : Cluster} {n : Nat} (h : (c.core n).stall = .wdrain) :
    c.wdrainCheck n = if (c.core n).credit = 0 ∨ (c.core n).wwait = 10 then c.setCore n (c.core n).adv else c := by
  simp only [Cluster.wdrainCheck, h, Bool.or_eq_true, decide_eq_true_eq]

theorem Cluster.wdrainCheck_of_other {c : Cluster} {n : Nat} (h : (c.core n).stall ≠ .wdrain) : c.wdrainCheck n = c := by
  rw [Cluster.wdrainCheck]
  split
  · exact absurd ‹_› h
  · rfl

theorem Cluster.wdrainCheck_setCore (c : Cluster) (n : CoreId) (y : Core) : (c.setCore n.val y).wdrainCheck n.val =
    c.setCore n.val (if y.stall = .wdrain ∧ (y.credit = 0 ∨ y.wwait = 10) then y.adv else y) := by
  have hcore : (c.setCore n.val y).core n.val = y := Cluster.core_setCore _ _ _ n.isLt
  by_cases hstall : y.stall = .wdrain
  · rw [Cluster.wdrainCheck_of_wdrain (by rw [hcore, hstall]), hcore, Cluster.setCore_setCore]
    simp only [hstall, true_and]
    split <;> rfl
  · rw [Cluster.wdrainCheck_of_other (by rw [hcore]; exact hstall), if_neg fun h => hstall h.1]

theorem Cluster.release_of_holds {cond : Stall → Bool} (hrun : c.coresRun = true) (hcode : (c.core n.val).codeRun = true)
    (hstopped : (c.core n.val).stopped = false) (hcond : cond (c.core n.val).stall = true) :
    c.release n.val cond = c.setCore n.val (c.core n.val).adv := by
  simp only [Cluster.release, hrun, hcode, hstopped, hcond, Bool.not_false, Bool.and_self, if_true]

end

end Sys2Proof.Machine

open Sys2Proof Sys2Proof.Machine

/-- Settles O4: the predicate that each instruction writes, and the address to which each goes. -/
theorem compares : Obligations.Compares := by
  unfold Obligations.Compares
  intro n s c x w ans pd a cond
  refine ⟨fun hcond => ⟨fun h => ?cmp, fun h => ?cmpi⟩, fun h => ?plog, ?jumps⟩
  case cmp =>
    refine congrArg (done s) ((Cluster.compare_fetches h hcond rfl).trans ?_)
    rw [condHolds_eq hcond]
  case cmpi =>
    refine congrArg (done s) ((Cluster.compare_fetches h hcond (ofInt_sextN (k := 5) (by decide) _)).trans ?_)
    rw [condHolds_eq hcond]
  case plog =>
    intro p q
    refine ⟨fun hfn => ?_, fun hfn => ?_, fun hfn => ?_, fun hfn => ?_⟩ <;>
      exact congrArg (done s) (plogC_fetches h hfn (by decide) rfl)
  case jumps =>
    intro goto target
    refine ⟨fun h => ⟨fun htaken => ?taken, fun huntaken => ?untaken⟩, fun h => ?jal, fun h => ?jr⟩
    case taken =>
      refine congrArg (done s) ((Cluster.scal_fetches h).trans ((if_pos htaken).trans ?_))
      rw [Core.jump_brTarget]
    case untaken => exact congrArg (done s) ((Cluster.scal_fetches h).trans (if_neg huntaken))
    case jal =>
      refine congrArg (done s) ((Cluster.scal_fetches h).trans ?_)
      rw [Core.jump_brTarget]
    case jr => exact congrArg (done s) (Cluster.scal_fetches h)

/-- Settles O7: what each instruction leaves of its core, and the waits by what they wait for. -/
theorem coreControl : Obligations.CoreControl := by
  unfold Obligations.CoreControl
  intro n s c x w gives
  refine ⟨fun h => ?tbrd, fun h => ?lccrd, fun h => ?wstat, fun h => ?wstep, fun h => ?setctx, fun h => ?halt, fun h => ?nop, ?waits⟩
  case tbrd | lccrd | wstat | wstep | setctx | halt | nop => exact congrArg (done s) (Cluster.scal_fetches h)
  case waits =>
    intro v runs
    refine ⟨fun h => ?tbwait, fun h => ?lccwait, fun h => ?wdrain, fun u hruns hstall hreached => ?tbRelease,
      fun u hruns hstall hreached => ?lccRelease⟩
    case tbwait | lccwait =>
      exact (congrArg (done s) (Cluster.scal_fetches h)).trans (apply_ite (done s) _ _ _)
    case wdrain =>
      refine (congrArg (done s) ((Cluster.scal_fetches h).trans (Cluster.wdrainCheck_setCore c n _))).trans ?_
      simp only [true_and]
      exact apply_ite (fun y => done s (c.setCore n.val y)) _ _ _
    case tbRelease =>
      obtain ⟨hrun, hcode, hstopped⟩ := hruns
      exact congrArg (done s) (Cluster.release_of_holds hrun hcode hstopped (by rw [hstall]; exact decide_eq_true hreached))
    case lccRelease =>
      obtain ⟨hrun, hcode, hstopped⟩ := hruns
      exact congrArg (done s) (Cluster.release_of_holds hrun hcode hstopped (by rw [hstall]; exact decide_eq_true hreached))

end

section
/-! Loads and stores of data memory (R268, R277). -/

namespace Sys2Proof.Machine

theorem memAddr_eq (x : Core) (w : Nat) : memAddr x w = (x.s (sRa w) + (BitVec.ofNat 16 w).signExtend 64).toNat := by
  rw [memAddr, sImm_eq]

section
variable {c : Cluster} {n : CoreId} {maj len a : Nat} (h : c.fetches n (isMaj maj))
  (ha : memAddr (c.core n.val) (c.word n.val) = a) (halign : a % len = 0) (hin : a + len ≤ 65536)
include h ha halign hin

theorem Cluster.load_inside {bs : List Byte} {d : Cluster} {bad : Bool} (hread : c.dmemRead n.val a len = (bs, d, bad)) :
    c.load n.val maj len = if bad then d.coreStop n.val 1 0x25
      else d.setCore n.val ((c.core n.val).setS (sRd (c.word n.val)) (BitVec.ofNat 64 (leNat bs))).adv := by
  have hguard : (decide (a % len = 0) && decide (a + len ≤ 65536)) = true := by rw [decide_eq_true halign, decide_eq_true hin]; rfl
  refine (Cluster.scal_fetches h).trans ?_
  simp only [ha, hguard, if_true, hread]

theorem Cluster.load_of_sound (herr : errWords c.dmemErr n.val a len = []) :
    c.load n.val maj len = c.setCore n.val ((c.core n.val).setS (sRd (c.word n.val))
      (BitVec.ofNat 64 (leNat (Memory.bytes c.dmem (n.val * 65536 + a) len)))).adv :=
  (Cluster.load_inside h ha halign hin (Cluster.dmemRead_sound herr)).trans (if_neg Bool.false_ne_true)

theorem Cluster.load_of_uncorrectable (hue : ∃ kv ∈ errWords c.dmemErr n.val a len, 2 ≤ popcount 64 kv.2.toNat) :
    c.load n.val maj len = c.coreStop n.val 1 0x25 :=
  (Cluster.load_inside h ha halign hin (bs := (c.dmemRead n.val a len).1) (d := c) (bad := true)
    (Prod.ext rfl (Cluster.dmemRead_of_uncorrectable hue))).trans (if_pos rfl)

/-- A store reads the word that it writes in part. -/
theorem Cluster.store_inside {d : Cluster} {bad : Bool}
    (hread : (if len = 8 then ([], c, false) else c.dmemRead n.val (a / 8 * 8) 8).2 = (d, bad)) :
    c.store_ n.val maj len = if bad then d.coreStop n.val 1 0x25
      else (d.setCore n.val (c.core n.val).adv).dmemPut n.val a (leBytes len ((c.core n.val).s (sRd (c.word n.val))).toNat) := by
  refine (Cluster.scal_fetches h).trans ?_
  simp only [ha, if_neg (not_lt.mpr hin), if_pos halign, hread]

theorem Cluster.store_of_sound (herr : len ≠ 8 → errWords c.dmemErr n.val (a / 8 * 8) 8 = []) :
    c.store_ n.val maj len
      = (c.setCore n.val (c.core n.val).adv).dmemPut n.val a (leBytes len ((c.core n.val).s (sRd (c.word n.val))).toNat) := by
  refine (Cluster.store_inside h ha halign hin (d := c) (bad := false) ?_).trans (if_neg Bool.false_ne_true)
  split
  · rfl
  · rw [Cluster.dmemRead_sound (herr ‹_›)]

theorem Cluster.store_of_uncorrectable (hlen : len ≠ 8)
    (hue : ∃ kv ∈ errWords c.dmemErr n.val (a / 8 * 8) 8, 2 ≤ popcount 64 kv.2.toNat) :
    c.store_ n.val maj len = c.coreStop n.val 1 0x25 :=
  (Cluster.store_inside h ha halign hin (by rw [if_neg hlen, Cluster.dmemRead_of_uncorrectable hue])).trans (if_pos rfl)

end

/-- The bytes of a number in memory, and zeros above them. -/
theorem extract_bytes (m : Memory) (a len : Nat) {k : Nat} (hk : k < 8) :
    (BitVec.ofNat 64 (leNat (Memory.bytes m a len))).extractLsb' (8 * k) 8 = if k < len then Memory.byte m (a + k) else 0 := by
  rw [extract_leNat _ _ hk, Memory.bytes_get]

/-- The word of an aligned access ends where the words of the bytes behind the access begin. -/
theorem word_end {n a len : Nat} (hlen : len = 8 ∨ len = 4) (halign : a % len = 0) :
    (n * 65536 + a + len + 7) / 8 * 8 = (n * 65536 + a) / 8 * 8 + 8 := by
  rcases hlen with rfl | rfl <;> omega

/-- The low bytes of a register go to a naturally aligned address, and the errors of their word with them. -/
theorem Cluster.dmemPut_aligned {c : Cluster} {n : CoreId} {a len : Nat} (v : W64) (hcalm : c.dmemCalm n)
    (hlen : len = 8 ∨ len = 4) (halign : a % len = 0) :
    ∃ m e, c.dmemPut n.val a (leBytes len v.toNat) = { c with dmem := m, dmemErr := e }
      ∧ (∀ k < len, Memory.byte m (n.val * 65536 + a + k) = v.extractLsb' (8 * k) 8)
      ∧ (∀ b, b < n.val * 65536 + a ∨ n.val * 65536 + a + len ≤ b → Memory.byte m b = Memory.byte c.dmem b)
      ∧ (∀ b, b < (n.val * 65536 + a) / 8 * 8 ∨ (n.val * 65536 + a) / 8 * 8 + 8 ≤ b → Sparse.get e b = Sparse.get c.dmemErr b) := by
  have hbytes : (leBytes len v.toNat).length = len := leBytes_length ..
  refine ⟨_, _, Cluster.dmemPut_calm c n a _ hcalm, fun k hk => ?_, fun b hb => ?_, fun b hb => ?_⟩
  · rw [Memory.byte_write_in _ _ _ (by rwa [hbytes]), leBytes_extract v len k hk]
  · exact Memory.byte_write_out _ (by rwa [hbytes])
  · exact Sparse.get_clearRange_out _ _ _ _ (by rwa [hbytes, word_end hlen halign])

end Sys2Proof.Machine

open Sys2Proof Sys2Proof.Machine

/-- Settles O5: the bytes read, as a number. -/
theorem loads : Obligations.Loads := by
  unfold Obligations.Loads
  intro n s len i c x w a hi halign hin herr
  have ha : memAddr x w = a := memAddr_eq x w
  rcases hi with ⟨rfl, rfl, h⟩ | ⟨rfl, rfl, h⟩ <;>
    exact ⟨_, congrArg (done s) (Cluster.load_of_sound h ha halign hin herr), fun k hk => extract_bytes _ _ _ hk⟩

/-- Settles O6: the bytes of rd, and the frame of their write. -/
theorem stores : Obligations.Stores := by
  unfold Obligations.Stores
  intro n s len i c x w a hi halign hin herr hcalm
  have ha : memAddr x w = a := memAddr_eq x w
  have hlen : len = 8 ∨ len = 4 := hi.imp And.left And.left
  have hexec : exec i s = done s ((c.setCore n.val x.adv).dmemPut n.val a (leBytes len (x.s (sRd w)).toNat)) := by
    rcases hi with ⟨rfl, rfl, h⟩ | ⟨rfl, rfl, h⟩
    · exact congrArg (done s) (Cluster.store_of_sound h ha halign hin (fun hne => absurd rfl hne))
    · exact congrArg (done s) (Cluster.store_of_sound h ha halign hin (fun _ => herr rfl))
  obtain ⟨m, e, hput, hbytes, hframe, herrs⟩ :=
    Cluster.dmemPut_aligned (c := c.setCore n.val x.adv) (x.s (sRd w)) hcalm hlen halign
  exact ⟨m, e, hexec.trans (congrArg (done s) hput), hbytes, hframe, herrs⟩

end

section
/-! The stops of a control core (R278, R432). -/

namespace Sys2Proof.Machine

/-! What an instruction and a walk entry do where they do not act. -/

section
variable {c : Cluster} {n : Nat} {form : Nat → Bool} {f : Cluster → Core → Nat → Cluster}

theorem Cluster.scal_of_armed (h : c.lockstepArmed n = true) : c.scal n form f = (c.disarm 0x26).coreStop n 0 0x26 := if_pos h

theorem Cluster.scal_of_outside (harmed : c.lockstepArmed n = false) (hready : c.scalarReady n = true)
    (hcode : (c.core n).inCode = false) : c.scal n form f = c.coreStop n 2 0x27 := by
  simp only [Cluster.scal, harmed, hready, hcode, Bool.not_true, Bool.not_false, Bool.false_eq_true, if_false, if_true]

/-- An instruction reads its own word first. -/
theorem Cluster.scal_of_ready (harmed : c.lockstepArmed n = false) (hready : c.scalarReady n = true)
    (hcode : (c.core n).inCode = true) (hform : form (c.word n) = true) :
    c.scal n form f = c.withImem n [((c.core n).pc, 4)] (fun c => f c (c.core n) (c.word n)) := by
  simp only [Cluster.scal, harmed, hready, hcode, hform, Bool.not_true, Bool.false_eq_true, if_false, if_true]

variable {kind : Nat} {waits : List Nat} {g : Cluster → Nat → Cluster}

theorem Cluster.walkStep_of_armed (h : c.lockstepArmed n = true) :
    c.walkStep n kind waits g = (c.disarm 0x26).coreStop n 0 0x26 := if_pos h

/-- A walk entry reads its own words first. -/
theorem Cluster.walkStep_of_ready (harmed : c.lockstepArmed n = false) (hrun : c.coresRun = true)
    (hwalk : (c.core n).walkRun = true) (hstopped : (c.core n).stopped = false) (hwait : (c.core n).wwait ∈ waits)
    (hkind : c.walkEntry n / 2 ^ 28 = kind) :
    c.walkStep n kind waits g = c.withImem n ((c.core n).walkParts (c.walkEntry n)) (fun c => g c (c.walkEntry n)) := by
  simp only [Cluster.walkStep, harmed, hrun, hwalk, hstopped, hkind, List.contains_iff_mem.mpr hwait, Bool.false_eq_true, if_false,
    Bool.not_false, Bool.and_self, beq_self_eq_true, if_true]

/-! Words of instruction memory in error. -/

variable {parts : List (Nat × Nat)} {act : Cluster → Cluster}

theorem Cluster.withImem_of_uncorrectable
    (h : ∃ p ∈ parts, ∃ kv ∈ errWords c.imemErr n p.1 p.2, 2 ≤ popcount 64 kv.2.toNat) :
    c.withImem n parts act = (c.coreStop n 1 0x25).setCore n
      { (c.coreStop n 1 0x25).core n with reloadD := (c.core n).reloadD } := by
  obtain ⟨p, hp, kv, hkv, hbits⟩ := h
  have hue : anyUe (parts.flatMap fun p => errWords c.imemErr n p.1 p.2) = true :=
    List.any_eq_true.mpr ⟨kv, List.mem_flatMap.mpr ⟨p, hp, hkv⟩, decide_eq_true hbits⟩
  simp only [Cluster.withImem, hue, if_true]

theorem Cluster.withImem_of_corrected {a len k : Nat} {m : W64} (h : errWords c.imemErr n a len = [(k, m)])
    (hm : popcount 64 m.toNat < 2) : c.withImem n [(a, len)] act = act (c.raise0 0x24 n) := by
  have hue : anyUe [(k, m)] = false := by simpa [anyUe] using hm
  simp only [Cluster.withImem, List.flatMap_cons, List.flatMap_nil, List.append_nil, h, hue, Bool.false_eq_true, if_false,
    Cluster.each, List.foldl_cons, List.foldl_nil]

end

/-! The instructions and the walk entries of a core. -/

section
variable {n : CoreId} {s : State} {i : Instr}

/-- A scalar instruction is one of the scalar core, whatever it does. -/
theorem exec_of_mem_scalarInstrs : ∀ i ∈ scalarInstrs n, ∃ d, exec i s = done s d ∧ ∃ form f, d = s.cl.scal n.val form f := by
  simp only [scalarInstrs, serviceForms, List.map_cons, List.map_nil, List.cons_append, List.nil_append, List.forall_mem_cons,
    List.not_mem_nil, false_implies, implies_true, and_true]
  and_intros
  all_goals
    refine ⟨_, rfl, ?_⟩
    simp only [addC, subC, andRC, orRC, xorRC, shlC, shrC, shraC, mulC, mulhuC, mulhsC, minSC, maxSC, minUC, maxUC, addiC, andiC,
      oriC, xoriC, shliC, shriC, shraiC, movkC, cmpC, cmpiC, plogC, brC, jalC, jrC, ld64C, ld32uC, st64C, st32C, hldC, hstC,
      rrdC, rwrC, wstepC, wstatC, wdrainC, sywaitFullC, sywaitTakeC, sywaitGeC, sywaitEmptyC, sywaitPollC, sysigSetC,
      sysigAddC, sysigOrC, sysigClearC, sysigFenceC, spsendWaitC, spsendPostedC, spsendFenceC, sprecvPollC, sprecvWaitC,
      sprecvDiscardC, sprecvOccC, tbrdC, lccrdC, tbwaitC, lccwaitC, setctxC, haltC, nopC, Cluster.aluRR, Cluster.alu,
      Cluster.shiftRR, Cluster.aluImm, Cluster.shiftImm, Cluster.compare, Cluster.load, Cluster.store_, Cluster.service,
      Cluster.sprecv]
    exact ⟨_, _, rfl⟩

/-- A walk entry, and the end of a walker's stall, is a step of the walk. -/
theorem exec_of_mem_walkInstrs :
    ∀ i ∈ walkInstrs n, ∃ d, exec i s = done s d ∧ ∃ kind waits f, d = s.cl.walkStep n.val kind waits f := by
  simp only [walkInstrs, List.forall_mem_cons, List.not_mem_nil, false_implies, implies_true, and_true]
  and_intros
  all_goals
    refine ⟨_, rfl, ?_⟩
    simp only [issueC, walkerQfullResumeC, loopC, endlC, waitkC, waitkReleaseC, selC, selResumeC, jmpC, syncRecC, endWalkC]
    exact ⟨_, _, _, rfl⟩

theorem exec_of_armed (harmed : s.cl.lockstepArmed n.val = true) (h : i ∈ scalarInstrs n ++ walkInstrs n) :
    exec i s = done s ((s.cl.disarm 0x26).coreStop n.val 0 0x26) := by
  rcases List.mem_append.mp h with hscalar | hwalk
  · obtain ⟨d, hexec, form, f, rfl⟩ := exec_of_mem_scalarInstrs (s := s) i hscalar
    rw [hexec, Cluster.scal_of_armed harmed]
  · obtain ⟨d, hexec, kind, waits, f, rfl⟩ := exec_of_mem_walkInstrs (s := s) i hwalk
    rw [hexec, Cluster.walkStep_of_armed harmed]

end

end Sys2Proof.Machine

open Sys2Proof Sys2Proof.Machine

/-- Settles O17: each stop, by what its core meets before it acts. -/
theorem coreStops : Obligations.CoreStops := by
  unfold Obligations.CoreStops
  intro n s c x a
  refine ⟨fun harmed i hi => exec_of_armed harmed hi, fun harmed hready hcode i hi => ?fetch, fun p hp h halign hin hue => ?load,
    fun h halign hin hue => ?store, fun harmed => ?imem⟩
  case fetch =>
    obtain ⟨d, hexec, form, f, rfl⟩ := exec_of_mem_scalarInstrs (s := s) i hi
    exact hexec.trans (congrArg (done s) (Cluster.scal_of_outside harmed hready hcode))
  case load =>
    simp only [List.mem_cons, List.not_mem_nil, or_false] at hp
    rcases hp with rfl | rfl <;> exact congrArg (done s) (Cluster.load_of_uncorrectable h rfl halign hin hue)
  case store => exact congrArg (done s) (Cluster.store_of_uncorrectable h rfl halign hin (by decide) hue)
  case imem =>
    intro stopped ue
    refine ⟨fun hready hcode hform => ⟨fun hue => ?word, fun k m hword hm => ?corrected⟩, fun hrun hwalk hstopped hwait hkind hue => ?entry⟩
    case word =>
      exact congrArg (done s) ((Cluster.scal_of_ready harmed hready hcode hform).trans
        (Cluster.withImem_of_uncorrectable ⟨_, List.mem_singleton_self _, hue⟩))
    case corrected =>
      exact congrArg (done s) ((Cluster.scal_of_ready harmed hready hcode hform).trans (Cluster.withImem_of_corrected hword hm))
    case entry =>
      exact congrArg (done s) ((Cluster.walkStep_of_ready harmed hrun hwalk hstopped (by rw [hwait]; exact List.mem_cons_self) hkind).trans
        (Cluster.withImem_of_uncorrectable hue))

end

section
/-! Services of a context that is not bound or torn down, and the accesses of HLD and HST through a handle: where they
are asked for, and what their service in a bank's slot does (R270 to R272, R284, R288, R300). -/

namespace Sys2Proof.Machine

/-! Instructions of the current context. -/

/-- An instruction of the current context: what it does where the context is not bound, where it is torn down, and else
(R271, R272). -/
def Cluster.inContext (c : Cluster) (n : Nat) (form : Nat → Bool) (unbound torn act : Cluster → Core → Nat → Cluster) : Cluster :=
  c.scal n form (fun c x w =>
    if !c.bound x.cur then unbound c x w else if c.tornSeen x.cur then torn c x w else act c x w)

section
variable {c : Cluster} {n : CoreId} {form : Nat → Bool} {unbound torn act : Cluster → Core → Nat → Cluster}

theorem Cluster.inContext_of_unbound (h : c.fetches n form) (hunbound : c.bound (c.core n.val).cur = false) :
    c.inContext n.val form unbound torn act = unbound c (c.core n.val) (c.word n.val) :=
  (Cluster.scal_fetches h).trans (if_pos (by rw [hunbound]; rfl))

theorem Cluster.inContext_of_torn (h : c.fetches n form) (hbound : c.bound (c.core n.val).cur = true)
    (htorn : c.tornSeen (c.core n.val).cur = true) :
    c.inContext n.val form unbound torn act = torn c (c.core n.val) (c.word n.val) :=
  (Cluster.scal_fetches h).trans ((if_neg (by rw [hbound]; exact Bool.false_ne_true)).trans (if_pos htorn))

theorem Cluster.inContext_of_live (h : c.serves n form) :
    c.inContext n.val form unbound torn act = act c (c.core n.val) (c.word n.val) := by
  obtain ⟨hfetches, hbound, hlive⟩ := h
  exact (Cluster.scal_fetches hfetches).trans ((if_neg (by rw [hbound]; exact Bool.false_ne_true)).trans
    (if_neg (by rw [hlive]; exact Bool.false_ne_true)))

end

/-- A service answers UNBOUND or TORN, HLD reads zero, and HST writes nothing. -/
theorem Cluster.service_eq (c : Cluster) (n : Nat) (form : Nat → Bool) (act : Cluster → Core → Nat → Cluster) :
    c.service n form act = c.inContext n form (fun c x w => (c.setCore n (x.setS (sRs w) 4).adv).raiseLining 0x15 n)
      (fun c x w => c.setCore n (x.setS (sRs w) 3).adv) act := rfl

theorem hldC_eq (c : Cluster) (n : Nat) :
    hldC c n = c.inContext n (isMaj 0x1C) (fun c x w => (c.setCore n (x.setS (sRd w) 0).adv).raiseLining 0x15 n)
      (fun c x w => c.setCore n (x.setS (sRd w) 0).adv) (fun c x w => c.withHandle (hldHandle x w) (fun c => c.doHld n w)) := rfl

theorem hstC_eq (c : Cluster) (n : Nat) :
    hstC c n = c.inContext n (isMaj 0x1D) (fun c x _ => (c.setCore n x.adv).raiseLining 0x15 n)
      (fun c x _ => c.setCore n x.adv) (fun c x w => c.withHandle (hldHandle x w) (fun c => c.doHst n w)) := rfl

/-- A service instruction goes through the checks of its context, whatever it does behind them. -/
theorem exec_of_mem_serviceForms {n : CoreId} {s : State} :
    ∀ p ∈ serviceForms n, ∃ d, exec p.1 s = done s d ∧ ∃ f, d = s.cl.service n.val p.2 f := by
  simp only [serviceForms, List.forall_mem_cons, List.not_mem_nil, false_implies, implies_true, and_true]
  and_intros
  all_goals
    refine ⟨_, rfl, ?_⟩
    simp only [sywaitFullC, sywaitTakeC, sywaitGeC, sywaitEmptyC, sywaitPollC, sysigSetC, sysigAddC, sysigOrC, sysigClearC,
      sysigFenceC, spsendWaitC, spsendPostedC, spsendFenceC, sprecvPollC, sprecvWaitC, sprecvDiscardC, sprecvOccC, Cluster.sprecv]
    exact ⟨_, rfl⟩

/-! HLD and HST of a bound, live context, through a handle that is read without error. -/

section
variable {c : Cluster} {n : CoreId} (htab : c.tabSound [rHnd (hldHandle (c.core n.val) (c.word n.val))])
include htab

theorem hldC_serves (h : c.serves n (isMaj 0x1C)) : hldC c n.val = c.doHld n.val (c.word n.val) :=
  (hldC_eq c n.val).trans ((Cluster.inContext_of_live h).trans (Cluster.withHandle_sound _ htab))

theorem hstC_serves (h : c.serves n (isMaj 0x1D)) : hstC c n.val = c.doHst n.val (c.word n.val) :=
  (hstC_eq c n.val).trans ((Cluster.inContext_of_live h).trans (Cluster.withHandle_sound _ htab))

end

/-! The service of a request that is the last of its group (R284). -/

theorem BGroup.bytes_serve {g : BGroup} {r : BReq} (hdata : g.data = []) (hread : r.wr = none) (bs : List Byte) (bad : Bool) :
    (g.serve r bs bad).bytes = bs := by
  simp [BGroup.bytes, BGroup.serve, hdata, hread, sortOn, insSorted]

/-- A group that is replaced under its own number is still the one that is removed. -/
theorem filter_map_replace {l : List BGroup} {g g' : BGroup} (hid : g'.id = g.id) :
    (l.map (fun h => if h.id = g'.id then g' else h)).filter (fun h => h.id != g'.id) = l.filter (fun h => h.id != g.id) := by
  induction l with
  | nil => rfl
  | cons h l ih =>
    rw [List.map_cons, List.filter_cons, List.filter_cons, ih, hid]
    by_cases heq : h.id = g.id
    · simp [heq, hid]
    · simp [heq]

/-- The cluster without a group of requests. -/
def Cluster.dropGroup (c : Cluster) (g : BGroup) : Cluster :=
  { c with spd := { c.spd with groups := c.spd.groups.filter (fun h => h.id != g.id) } }

section
variable {c : Cluster} {r : BReq} {g : BGroup} (hfind : c.spd.groups.find? (fun h => h.id == r.grp) = some g)
include hfind

theorem Cluster.doneOf_of_find : c.doneOf r.grp = g.done := by simp only [Cluster.doneOf, hfind]

theorem Cluster.reqCtx_of_find : c.reqCtx r = g.ctx := by simp only [Cluster.reqCtx, hfind]

theorem Cluster.hstTorn_of_find {n : Nat} (hdone : g.done = .hst n) : c.hstTorn r = c.tornSeen g.ctx := by
  simp only [Cluster.hstTorn, Cluster.doneOf_of_find hfind, hdone, Cluster.reqCtx_of_find hfind]

/-- A read of an HLD from words without stored error delivers them as they stand (R288, R300). -/
theorem Cluster.serveReq_of_hld {n rd : Nat} (hdone : g.done = .hld n rd) (hread : r.wr = none)
    (hsound : c.spdSound (r.line * 64 + r.off) r.len) :
    c.serveReq r = c.groupServe r (c.maskBytes (r.line * 64 + r.off) r.len []) false := by
  have hlost : c.areaLost r = c := by simp only [Cluster.areaLost, Cluster.doneOf_of_find hfind, hdone]
  simp only [Cluster.serveReq, hread, hlost, Cluster.spdRead_sound _ _ hsound]

variable (hleft : g.left = 1) {bs : List Byte} {bad : Bool}
include hleft

theorem Cluster.groupServe_of_last (hput : ∀ ch ord k, g.done ≠ .putBlock ch ord k) :
    c.groupServe r bs bad = (c.dropGroup g).groupDone (g.serve r bs bad) := by
  have hend : (g.serve r bs bad).left = 0 := by rw [BGroup.serve, hleft]
  simp only [Cluster.groupServe, hfind, hend, if_true, Cluster.groupEnd]
  split
  · exact absurd ‹_› (hput _ _ _)
  · rw [filter_map_replace (g := g) (g' := g.serve r bs bad) rfl]
    rfl

theorem Cluster.groupServe_of_hld {n rd : Nat} (hdone : g.done = .hld n rd) (hstall : (c.core n).stall = .port g.id)
    (hlive : c.tornSeen (c.core n).cur = false) (hdata : g.data = []) (hread : r.wr = none) :
    c.groupServe r bs bad = (c.dropGroup g).setCore n ((c.core n).setS rd (BitVec.ofNat 64 (leNat bs))).adv := by
  rw [Cluster.groupServe_of_last hfind hleft (by simp [hdone])]
  have hdone : (g.serve r bs bad).done = .hld n rd := hdone
  have hlive : (c.dropGroup g).tornSeen ((c.dropGroup g).core n).cur = false := hlive
  simp only [Cluster.groupDone, hdone, BGroup.bytes_serve hdata hread]
  refine (if_pos hstall).trans ?_
  rw [hlive]
  rfl

theorem Cluster.groupServe_of_hst {n : Nat} (hdone : g.done = .hst n) (hstall : (c.core n).stall = .port g.id) :
    c.groupServe r bs bad = (c.dropGroup g).setCore n (c.core n).adv := by
  rw [Cluster.groupServe_of_last hfind hleft (by simp [hdone])]
  have hdone : (g.serve r bs bad).done = .hst n := hdone
  simp only [Cluster.groupDone, hdone]
  exact if_pos hstall

end

/-- The bytes of a read, zero in a fenced bank. -/
theorem Cluster.extract_maskBytes (c : Cluster) (a : Nat) {k : Nat} (hk : k < 8) :
    (BitVec.ofNat 64 (leNat (c.maskBytes a 8 []))).extractLsb' (8 * k) 8
      = if c.fencedAt (a + k) then 0 else Memory.byte c.mem (a + k) := by
  rw [extract_leNat _ _ hk, Cluster.maskBytes, List.getElem?_map, List.getElem?_range hk]
  simp

theorem Cluster.spdWriteLine_fenced {c : Cluster} {a : Nat} (bs : List Byte) (h : c.fencedAt a = true) : c.spdWriteLine a bs = c :=
  if_pos (by rw [h, Bool.or_true])

end Sys2Proof.Machine

open Sys2Proof Sys2Proof.Machine

/-- Settles O9: the checks of the context come before what an instruction does. -/
theorem servicesRefused : Obligations.ServicesRefused := by
  unfold Obligations.ServicesRefused
  intro n s c x w
  refine ⟨fun p hp h => ?service, fun h => ?hld, fun h => ?hst⟩
  case service =>
    obtain ⟨d, hexec, f, rfl⟩ := exec_of_mem_serviceForms (s := s) p hp
    rw [hexec, Cluster.service_eq]
    exact ⟨fun hunbound => congrArg (done s) (Cluster.inContext_of_unbound h hunbound),
      fun hbound htorn => congrArg (done s) (Cluster.inContext_of_torn h hbound htorn)⟩
  case hld =>
    exact ⟨fun hunbound => congrArg (done s) ((hldC_eq c n.val).trans (Cluster.inContext_of_unbound h hunbound)),
      fun hbound htorn => congrArg (done s) ((hldC_eq c n.val).trans (Cluster.inContext_of_torn h hbound htorn))⟩
  case hst =>
    exact ⟨fun hunbound => congrArg (done s) ((hstC_eq c n.val).trans (Cluster.inContext_of_unbound h hunbound)),
      fun hbound htorn => congrArg (done s) ((hstC_eq c n.val).trans (Cluster.inContext_of_torn h hbound htorn))⟩

/-- Settles O8: what the handle grants decides what is asked for, and its service by the bank's slot what the core gets. -/
theorem handleAccess : Obligations.HandleAccess := by
  unfold Obligations.HandleAccess
  intro n s c x
  refine ⟨?ask, ?serve⟩
  case ask =>
    intro w e a asks htab
    refine ⟨fun h => ⟨fun hgrants => ?_, fun hrefused => ?_⟩, fun h => ⟨fun hgrants => ?_, fun hrefused => ?_⟩⟩
    · exact congrArg (done s) ((hldC_serves htab h).trans (if_pos hgrants))
    · exact congrArg (done s) ((hldC_serves htab h).trans (if_neg (Bool.eq_false_iff.mp hrefused)))
    · exact congrArg (done s) ((hstC_serves htab h).trans (if_pos hgrants))
    · exact congrArg (done s) ((hstC_serves htab h).trans (if_neg (Bool.eq_false_iff.mp hrefused)))
  case serve =>
    intro p r g hslot hturn hnext hfind hleft hdata hstall hlen a d rest
    have hexec : boundaryAccessC c p.val = d.serveReq r := boundaryAccessC_of_nextReq hslot hturn hnext
    have hfind : d.spd.groups.find? (fun h => h.id == r.grp) = some g := hfind
    refine ⟨fun rd hread hdone hsound hlive => ?read, fun bs hwrite hbytes hdone =>
      ⟨fun hdropped => ?dropped, fun hopen hlive hcalm => ?write⟩⟩
    case read =>
      have hsound : d.spdSound (r.line * 64 + r.off) r.len := by rw [hlen]; exact hsound
      refine ⟨_, congrArg (done s) (hexec.trans ((Cluster.serveReq_of_hld hfind hdone hread hsound).trans
        (Cluster.groupServe_of_hld hfind hleft hdone hstall hlive hdata hread))), fun k hk => ?_⟩
      rw [hlen]
      exact d.extract_maskBytes a hk
    case dropped =>
      refine congrArg (done s) (hexec.trans ?_)
      have hnone : d.serveReq r = d.groupServe r [] false := by
        by_cases htorn : d.tornSeen g.ctx = true
        · exact Cluster.serveReq_of_hstTorn hwrite ((Cluster.hstTorn_of_find hfind hdone).trans htorn)
        · have hfenced : d.fencedAt (r.line * 64 + r.off) = true := hdropped.resolve_right htorn
          simp only [Cluster.serveReq, hwrite, Cluster.spdWriteLine_fenced bs hfenced, ite_self]
      exact hnone.trans (Cluster.groupServe_of_hst hfind hleft hdone hstall)
    case write =>
      have hperformed : d.serveReq r = (d.spdWriteLine a bs).groupServe r [] false := by
        have htorn : d.hstTorn r = false := (Cluster.hstTorn_of_find hfind hdone).trans hlive
        simp only [Cluster.serveReq, hwrite, htorn, Bool.false_eq_true, if_false]
        rfl
      rw [Cluster.spdWriteLine_calm d a bs (by rintro rfl; cases hbytes) hopen hcalm] at hperformed
      refine ⟨_, _, _, congrArg (done s) (hexec.trans (hperformed.trans
          (Cluster.groupServe_of_hst (by exact hfind) hleft hdone (by exact hstall)))),
        fun k hk => ?_, fun b hb => Memory.byte_write_out bs (by rwa [hbytes])⟩
      rw [Memory.byte_write_in _ _ _ (by rwa [hbytes]), List.getD_eq_getElem?_getD]

end

section
/-! RRD and RWR: which registers a core reaches, and what a write of the two that it may write leaves (R39, R269). -/

namespace Sys2Proof.Machine

/-! Reads. -/

theorem rrdAllowed_iff (n : CoreId) (a : Nat) :
    let win := fun (b : Nat) => 0x20000000 + 0x10000 * b ≤ a ∧ a < 0x20000000 + 0x10000 * (b + 1)
    rrdAllowed n.val a = true ↔ a % 4 = 0 ∧ (win 0 ∨ win 1 ∨ win 2 ∨ win 3 ∨ win 10 ∨ win (16 + n.val)) := by
  intro win
  have hn := n.isLt
  simp only [rrdAllowed, win, Bool.and_eq_true, Bool.or_eq_true, decide_eq_true_eq, beq_iff_eq]
  omega

/-- No register that a core may read shows bytes of the scratchpad. -/
theorem Cluster.viewSpan_of_allowed {c : Cluster} {n : CoreId} {a : Nat} (h : rrdAllowed n.val a = true) : c.viewSpan a = none := by
  obtain ⟨-, hwin⟩ := (rrdAllowed_iff n a).mp h
  have hsyn : a / 8 * 8 ≠ rSyn + 0x218 ∧ a / 8 * 8 ≠ rSyn + 0x220 := by unfold rSyn; omega
  have hmsg : a / 8 * 8 ≠ rMsg + 0x18 ∧ a / 8 * 8 ≠ rMsg + 0x20 := by unfold rMsg; omega
  simp [Cluster.viewSpan, hsyn, hmsg]

section
variable {c : Cluster} {n : CoreId} {w a : Nat} (ha : ((c.core n.val).s (sRa w)).toNat = a)
include ha

theorem Cluster.doRrd_of_allowed (h : rrdAllowed n.val a = true) (htab : c.tabSound (c.viewKeys a)) :
    c.doRrd n.val (c.core n.val) w = c.setCore n.val ((c.core n.val).setS (sRd w) ((c.reg32 a).zeroExtend 64)).adv := by
  have hread : c.regRead a = (c.reg32 a, c) := by
    simp only [Cluster.regRead, Cluster.tabRead_sound htab, if_true, Cluster.viewRead, Cluster.viewSpan_of_allowed h]
  have hplace (v : W32) : place v.toNat 0 = v.zeroExtend 64 := BitVec.ofNat_toNat ..
  simp only [Cluster.doRrd, ha, h, if_true, hread, hplace]

theorem Cluster.doRrd_of_forbidden (h : ¬ rrdAllowed n.val a = true) :
    c.doRrd n.val (c.core n.val) w = (c.setCore n.val ((c.core n.val).setS (sRd w) 0).adv).raise 0x10 n.val (c.core n.val).cur := by
  simp only [Cluster.doRrd, ha, if_neg h, Cluster.unmapped, Cluster.core_setCore _ _ _ n.isLt]
  rfl

/-! Writes. -/

theorem Cluster.doRwr_of_allowed (h : rwrAllowed n.val a = true) :
    c.doRwr n.val (c.core n.val) w
      = (c.setCore n.val (c.core n.val).adv).regWrite a (BitVec.ofNat 32 ((c.core n.val).s (sRb w)).toNat) := by
  simp only [Cluster.doRwr, ha, h, if_true]

theorem Cluster.doRwr_of_forbidden (h : rwrAllowed n.val a = false) :
    c.doRwr n.val (c.core n.val) w = (c.setCore n.val (c.core n.val).adv).raise 0x10 n.val (c.core n.val).cur := by
  simp only [Cluster.doRwr, ha, h, Bool.false_eq_true, if_false, Cluster.unmapped, Cluster.core_setCore _ _ _ n.isLt]
  rfl

end

theorem rwrAllowed_iff (n : CoreId) (a : Nat) :
    rwrAllowed n.val a = true ↔ a = rCore n.val + 0x20 ∨ a = rCore n.val + 0x24 ∨ a = rCore n.val + 0x38 := by
  simp only [rwrAllowed, rCore, Bool.and_eq_true, Bool.or_eq_true, beq_iff_eq]
  omega

/-- CORE_QFULLCYC is a counter, and CORE_EVT an event register of one bit (R39). -/
theorem isCounter_qfullcyc : ∀ n : CoreId, isCounter (rCore n.val + 0x20) = true := by decide
theorem coreEvt_kind : ∀ n : CoreId, isCounter (rCore n.val + 0x38) = false ∧ recordAt (rCore n.val + 0x38) = none
    ∧ eventMask (rCore n.val + 0x38) = 1 ∧ (rCore n.val + 0x38) % 0x10000 ≠ 0x28 := by decide

/-- The bytes written, under their own mask. -/
theorem place_and_mask (v : W32) (k : Nat) : place v.toNat k &&& place (2 ^ 32 - 1) k = place v.toNat k := by
  rw [place, place, ← BitVec.ofNat_and, ← Nat.shiftLeft_and_distrib, Nat.and_two_pow_sub_one_eq_mod, Nat.mod_eq_of_lt v.isLt]

section
variable {c : Cluster}

/-- A counter clears as a whole (R39). -/
theorem Cluster.regPut_of_counter {a : Nat} {v m : W64} (h : isCounter a = true) :
    c.regPut a v m = if fld (v &&& m) 47 0 ≠ 0 then c.setReg a 0 else c := if_pos h

theorem Cluster.regPut_of_event {a : Nat} {v m : W64} (hcounter : isCounter a = false) (hrecord : recordAt a = none)
    (hmask : eventMask a ≠ 0) (hplain : a % 0x10000 ≠ 0x28) :
    c.regPut a v m = c.setReg a (c.regAt a &&& ~~~((v &&& m) &&& BitVec.ofNat 64 (eventMask a))) := by
  simp [Cluster.regPut, hcounter, hrecord, hmask, hplain]

variable (n : CoreId) (v : W32)

theorem Cluster.regWrite_qfullcyc_low :
    c.regWrite (rCore n.val + 0x20) v = if v.toNat = 0 then c else c.setReg (rCore n.val + 0x20) 0 := by
  have hlow : 32 * ((rCore n.val + 0x20) / 4 % 2) = 0 ∧ (rCore n.val + 0x20) / 8 * 8 = rCore n.val + 0x20 := by unfold rCore; omega
  obtain ⟨hshift, hword⟩ := hlow
  have hfield : fld (place v.toNat 0) 47 0 = v.toNat := by
    have hlt := v.isLt
    simp only [fld, place, Nat.shiftLeft_zero, Nat.shiftRight_zero, BitVec.toNat_ofNat]
    omega
  simp only [Cluster.regWrite, hshift, hword, Cluster.regPut_of_counter (isCounter_qfullcyc n), place_and_mask, hfield, ne_eq, ite_not]

theorem Cluster.regWrite_qfullcyc_high :
    c.regWrite (rCore n.val + 0x24) v = if v.toNat % 2 ^ 16 = 0 then c else c.setReg (rCore n.val + 0x20) 0 := by
  have hhigh : 32 * ((rCore n.val + 0x24) / 4 % 2) = 32 ∧ (rCore n.val + 0x24) / 8 * 8 = rCore n.val + 0x20 := by unfold rCore; omega
  obtain ⟨hshift, hword⟩ := hhigh
  have hfield : fld (place v.toNat 32) 47 0 = 0 ↔ v.toNat % 2 ^ 16 = 0 := by
    have hlt := v.isLt
    simp only [fld, place, Nat.shiftLeft_eq, Nat.shiftRight_zero, BitVec.toNat_ofNat]
    omega
  simp only [Cluster.regWrite, hshift, hword, Cluster.regPut_of_counter (isCounter_qfullcyc n), place_and_mask, hfield, ne_eq, ite_not]

theorem Cluster.regWrite_evt : c.regWrite (rCore n.val + 0x38) v = c.setReg (rCore n.val + 0x38)
    (if v.toNat % 2 = 0 then c.regAt (rCore n.val + 0x38) else c.regAt (rCore n.val + 0x38) &&& ~~~1) := by
  have hlow : 32 * ((rCore n.val + 0x38) / 4 % 2) = 0 ∧ (rCore n.val + 0x38) / 8 * 8 = rCore n.val + 0x38 := by unfold rCore; omega
  obtain ⟨hshift, hword⟩ := hlow
  obtain ⟨hcounter, hrecord, hmask, hplain⟩ := coreEvt_kind n
  have hbit : place v.toNat 0 &&& BitVec.ofNat 64 1 = if v.toNat % 2 = 0 then 0 else 1 := by
    apply BitVec.eq_of_toNat_eq
    rw [place, ← BitVec.ofNat_and, Nat.shiftLeft_zero, Nat.and_one_is_mod]
    rcases Nat.mod_two_eq_zero_or_one v.toNat with h | h <;> simp [h]
  simp only [Cluster.regWrite, hshift, hword]
  rw [Cluster.regPut_of_event hcounter hrecord (by rw [hmask]; decide) hplain, place_and_mask, hmask, hbit]
  split
  · rw [show ~~~(0 : W64) = BitVec.allOnes 64 from rfl, BitVec.and_allOnes]
  · rfl

end

end Sys2Proof.Machine

open Sys2Proof Sys2Proof.Machine

/-- Settles O16: the window of the address decides a read, and the address itself a write. -/
theorem registerAccess : Obligations.RegisterAccess := by
  unfold Obligations.RegisterAccess
  intro n s c x w a v win readable
  have hreadable : readable ↔ rrdAllowed n.val a = true := (rrdAllowed_iff n a).symm
  have hvalue : (BitVec.ofNat 32 (x.s (sRb w)).toNat).toNat = v := BitVec.toNat_ofNat ..
  refine ⟨fun h => ⟨fun hread htab => ?read, fun hread => ?unread⟩,
    fun h => ⟨fun ha => ?low, fun ha => ?evt, fun ha => ?high, fun hlow hhigh hevt => ?unwritten⟩⟩
  case read => exact congrArg (done s) ((Cluster.scal_fetches h).trans (Cluster.doRrd_of_allowed rfl (hreadable.mp hread) htab))
  case unread => exact congrArg (done s) ((Cluster.scal_fetches h).trans (Cluster.doRrd_of_forbidden rfl (mt hreadable.mpr hread)))
  case low =>
    refine congrArg (done s) ((Cluster.scal_fetches h).trans
      ((Cluster.doRwr_of_allowed ha ((rwrAllowed_iff n _).mpr (.inl rfl))).trans ?_))
    rw [Cluster.regWrite_qfullcyc_low, hvalue, ha]
  case evt =>
    refine congrArg (done s) ((Cluster.scal_fetches h).trans
      ((Cluster.doRwr_of_allowed ha ((rwrAllowed_iff n _).mpr (.inr (.inr rfl)))).trans ?_))
    rw [Cluster.regWrite_evt, hvalue, ha]
    rfl
  case high =>
    refine congrArg (done s) ((Cluster.scal_fetches h).trans
      ((Cluster.doRwr_of_allowed ha ((rwrAllowed_iff n _).mpr (.inr (.inl rfl)))).trans ?_))
    have hword : a - 4 = rCore n.val + 0x20 := by rw [ha]; rfl
    rw [Cluster.regWrite_qfullcyc_high, hvalue, ← hword]
  case unwritten =>
    have hforbidden : rwrAllowed n.val a = false := by
      rw [Bool.eq_false_iff, ne_eq, rwrAllowed_iff]
      tauto
    exact congrArg (done s) ((Cluster.scal_fetches h).trans (Cluster.doRwr_of_forbidden rfl hforbidden))

end

section
/-! The walk of a control core: its loops and jumps, the queue that an ISSUE writes, and the template that it patches
(R256 to R262, R267, R276). -/

namespace Sys2Proof.Machine

/-! Loops, jumps, and the end of a walk. -/

section
variable {c : Cluster} {n : CoreId} {kind wait : Nat}

theorem Cluster.walks.wwait_eq (h : c.walks n kind wait) : (c.core n.val).wwait = wait := by
  obtain ⟨-, -, -, -, hwait, -, -⟩ := h
  exact hwait

end

theorem Core.walkNext_of_idle {x : Core} (h : x.wwait = 0) : x.walkNext = { x with widx := x.widx + 1 } := by
  rw [Core.walkNext, ← h]

theorem Core.walkTo_of_idle {x : Core} (h : x.wwait = 0) (i : Nat) : x.walkTo i = { x with widx := i } := by
  rw [Core.walkTo, ← h]

section
variable {c : Cluster} {n : CoreId}

theorem loopC_walks (h : c.walks n 1 0) :
    let x := c.core n.val
    let e := c.walkEntry n.val
    loopC c n.val = c.setCore n.val { x with
      widx := x.widx + 1, loops := vset x.loops (e / 2 ^ 26 % 4) ⟨true, 0, e % 2 ^ 16 + 1, x.widx + 1⟩ } := by
  refine (Cluster.walkStep_walks h List.mem_cons_self).trans ?_
  simp only [Core.walkNext_of_idle h.wwait_eq]
  rfl

theorem endlC_walks (h : c.walks n 2 0) :
    let x := c.core n.val
    let k := c.walkEntry n.val / 2 ^ 26 % 4
    let l := vat x.loops k Loop.reset
    endlC c n.val = if l.idx + 1 < l.cnt then c.setCore n.val { x with widx := l.at_, loops := vset x.loops k { l with idx := l.idx + 1 } }
      else c.setCore n.val { x with widx := x.widx + 1, loops := vset x.loops k Loop.reset } := by
  refine (Cluster.walkStep_walks h List.mem_cons_self).trans ?_
  simp only [Core.walkNext_of_idle h.wwait_eq]

theorem jmpC_walks (h : c.walks n 5 0) :
    jmpC c n.val = c.setCore n.val { c.core n.val with widx := c.walkEntry n.val % 2 ^ 12 } :=
  (Cluster.walkStep_walks h List.mem_cons_self).trans (congrArg (c.setCore n.val) (Core.walkTo_of_idle h.wwait_eq _))

theorem endWalkC_walks (h : c.walks n 15 0) :
    let y : Core := { c.core n.val with walkRun := false, wwait := 10 }
    endWalkC c n.val = c.setCore n.val (if y.stall = .wdrain ∧ (y.credit = 0 ∨ y.wwait = 10) then y.adv else y) :=
  (Cluster.walkStep_walks h List.mem_cons_self).trans (Cluster.wdrainCheck_setCore c n _)

/-! ISSUE and the full queue. -/

theorem issueC_walks (h : c.walks n 0 0 ∨ c.walks n 0 9) :
    issueC c n.val = if 10 ≤ c.walkEntry n.val / 2 ^ 24 % 16 then c else c.issueOp n.val (c.walkEntry n.val) := by
  rcases h with h | h
  · exact Cluster.walkStep_walks h List.mem_cons_self
  · exact Cluster.walkStep_walks h (List.mem_cons_of_mem _ List.mem_cons_self)

/-- The template of entry e of core n, patched by its delta entry (R260, R262). -/
def Cluster.patchedOp (c : Cluster) (n e : Nat) : MacroOp :=
  (c.core n).patch (BitVec.ofNat 256 (c.imemAt n ((c.core n).tmpl + 32 * (e / 2 ^ 13 % 2 ^ 11)) 32)) (c.deltaEntry n (e / 2 ^ 5 % 2 ^ 8))

section
variable {e : Nat}

theorem Cluster.issueOp_of_uncredited (hmode : (c.core n.val).mode = 2) (hcredit : (c.core n.val).credit = 0) :
    c.issueOp n.val e = c.setCore n.val { c.core n.val with wwait := 9 } :=
  if_pos (by rw [hmode, hcredit]; rfl)

variable (hcredit : (c.core n.val).mode = 2 → (c.core n.val).credit ≠ 0)
include hcredit

/-- The walker has the credit that it needs. -/
theorem Cluster.not_uncredited : ¬ (decide ((c.core n.val).mode = 2) && decide ((c.core n.val).credit = 0)) = true := by
  simpa using hcredit

theorem Cluster.issueOp_of_full (hfull : (c.queue (qOfSel n.val (e / 2 ^ 24 % 16))).full c.clk.free = true) :
    c.issueOp n.val e = c.setCore n.val { c.core n.val with wwait := 1 } :=
  (if_neg (Cluster.not_uncredited hcredit)).trans (if_pos hfull)

/-- The op goes to the end of its queue, and a WDRAIN whose credit it uses up ends (R256, R267). -/
theorem Cluster.issueOp_of_room (hroom : (c.queue (qOfSel n.val (e / 2 ^ 24 % 16))).full c.clk.free = false) :
    let x := c.core n.val
    let q := qOfSel n.val (e / 2 ^ 24 % 16)
    let y := { x with widx := x.widx + 1, wwait := 0, credit := x.credit - 1 }
    c.issueOp n.val e = (c.setQueue q { c.queue q with
      ents := (c.queue q).ents ++ [⟨c.patchedOp n.val e, c.clk.free / 2 * 2 + 1 + c.floor 11⟩] }).setCore n.val
        (if x.stall = .wdrain ∧ x.credit ≤ 1 then y.adv else y) := by
  intro x q y
  have hdrained : y.stall = .wdrain ∧ (y.credit = 0 ∨ y.wwait = 10) ↔ x.stall = .wdrain ∧ x.credit ≤ 1 := by
    refine and_congr_right fun _ => ?_
    simp only [y]
    omega
  refine (if_neg (Cluster.not_uncredited hcredit)).trans ((if_neg (by rw [hroom]; exact Bool.false_ne_true)).trans ?_)
  refine (Cluster.wdrainCheck_setCore _ n y).trans ?_
  simp only [hdrained]
  rfl

end

theorem walkerQfullResumeC_of_room (h : c.walks n 0 1)
    (hroom : (c.queue (qOfSel n.val (c.walkEntry n.val / 2 ^ 24 % 16))).full c.clk.free = false) :
    walkerQfullResumeC c n.val = c.setCore n.val { c.core n.val with wwait := 0 } :=
  (Cluster.walkStep_walks h List.mem_cons_self).trans (if_neg (by rw [hroom]; exact Bool.false_ne_true))

end

/-! The patch of a template (R262). -/

/-- A field that takes a number modulo its size. -/
theorem getLsbD_setFld_emod {w hi lo len : Nat} (x : BitVec w) (i : Int) {b : Nat} (hlen : 0 < len) (hhi : hi + 1 = lo + len) (hb : b < w) :
    (setFld x hi lo (i % 2 ^ len).toNat).getLsbD b
      = if lo ≤ b ∧ b < lo + len then (BitVec.ofInt len i).getLsbD (b - lo) else x.getLsbD b := by
  have hvalue : (i % 2 ^ len).toNat = (BitVec.ofInt len i).toNat := by rw [BitVec.toNat_ofInt]; norm_cast
  rw [getLsbD_setFld x hi lo _ b (by omega) hb, hvalue]
  refine if_congr (by omega) rfl rfl

/-- A field counts as a signed number as it does as an unsigned one, modulo its size. -/
theorem ofInt_toInt_add {w : Nat} (x : BitVec w) (i : Int) : BitVec.ofInt w (x.toInt + i) = BitVec.ofInt w (x.toNat + i) := by
  rw [BitVec.ofInt_add, BitVec.ofInt_add, BitVec.ofInt_toInt, BitVec.ofInt_natCast, BitVec.ofNat_toNat, BitVec.setWidth_eq]

section
variable (x : Core) (t d : BitVec 256)

/-- The index of a loop while it is open. -/
theorem Core.loopIdx_eq (k : Fin 4) : ((x.loopIdx k.val : Nat) : Int) = if (x.loops[k]).opn then ((x.loops[k]).idx : Int) else 0 := by
  have hloop : vat x.loops k.val Loop.reset = x.loops[k] := by simp [vat]
  rw [Core.loopIdx, hloop]
  split <;> rfl

/-- What the open loops add to STAMP, and to the field. -/
theorem Core.sstep_eq : x.sstep d = (x.loopIdx 0 : Int) * (d.extractLsb' 128 32).toInt + x.loopIdx 1 * (d.extractLsb' 160 32).toInt
    + x.loopIdx 2 * (d.extractLsb' 192 32).toInt + x.loopIdx 3 * (d.extractLsb' 224 32).toInt := by
  have hstep (k : Nat) : sextN 32 (fld d (159 + 32 * k) (128 + 32 * k)) = (d.extractLsb' (128 + 32 * k) 32).toInt :=
    sextN_fld d (by decide) (by omega)
  simp only [Core.sstep, hstep]
  exact congrArg (· + _ + _ + _) (zero_add _)

theorem Core.fstep_eq : x.fstep d = (x.loopIdx 0 : Int) * (d.extractLsb' 0 24).toInt + x.loopIdx 1 * (d.extractLsb' 24 24).toInt
    + x.loopIdx 2 * (d.extractLsb' 48 24).toInt + x.loopIdx 3 * (d.extractLsb' 72 24).toInt := by
  have hstep (k : Nat) : sextN 24 (fld d (23 + 24 * k) (24 * k)) = (d.extractLsb' (24 * k) 24).toInt :=
    sextN_fld d (by decide) (by omega)
  simp only [Core.fstep, hstep]
  exact congrArg (· + _ + _ + _) (zero_add _)

/-- Every bit of a template with its STAMP moved on. -/
theorem getLsbD_stamp (i : Int) {b : Nat} (hb : b < 256) :
    (setFld t 223 192 (((fld t 223 192 : Nat) + i) % 2 ^ 32).toNat).getLsbD b
      = if 192 ≤ b ∧ b < 224 then (BitVec.ofInt 32 ((t.extractLsb' 192 32).toInt + i)).getLsbD (b - 192) else t.getLsbD b := by
  rw [ofInt_toInt_add, getLsbD_setFld_emod t _ (by decide) (by decide) hb]
  rfl

/-- Every bit of a patched template: the field wins over STAMP, where it reaches it. -/
theorem Core.getLsbD_patch {b : Nat} (hb : b < 256) :
    let flo := (d.extractLsb' 120 8).toNat
    let fw := (d.extractLsb' 114 6).toNat
    (x.patch t d).getLsbD b =
      if flo ≤ b ∧ b < flo + fw then (BitVec.ofInt fw (((t.extractLsb' flo fw).toNat : Int) + x.fstep d)).getLsbD (b - flo)
      else if 192 ≤ b ∧ b < 224 then (BitVec.ofInt 32 ((t.extractLsb' 192 32).toInt + x.sstep d)).getLsbD (b - 192)
      else t.getLsbD b := by
  intro flo fw
  rcases Nat.eq_zero_or_pos fw with hzero | hpos
  · have hpatch : x.patch t d = _ := if_pos hzero
    have houtside : ¬ (flo ≤ b ∧ b < flo + fw) := fun h => by
      rw [hzero, add_zero] at h
      exact absurd h.2 (not_lt.mpr h.1)
    rw [if_neg houtside, hpatch, getLsbD_stamp t _ hb]
  · have hpatch : x.patch t d = _ := if_neg hpos.ne'
    have hfield : fld t (flo + fw - 1) flo = (t.extractLsb' flo fw).toNat := by
      rw [fld_eq_extract, show flo + fw - 1 + 1 - flo = fw by omega]
    have hhi : flo + fw - 1 + 1 = flo + fw := by omega
    rw [hpatch, ← getLsbD_stamp t _ hb, ← hfield]
    exact getLsbD_setFld_emod _ _ hpos hhi hb

end

end Sys2Proof.Machine

open Sys2Proof Sys2Proof.Machine

/-- Settles O18: what each entry leaves of its core. -/
theorem walkFlow : Obligations.WalkFlow := by
  unfold Obligations.WalkFlow
  intro n s c x e k l gives
  refine ⟨fun h => congrArg (done s) (loopC_walks h), fun h => ⟨fun hmore => ?more, fun hlast => ?last⟩,
    fun h => congrArg (done s) (jmpC_walks h), fun h => ⟨fun hstall => ?ends, fun hstall => ?drains⟩⟩
  case more => exact congrArg (done s) ((endlC_walks h).trans (if_pos hmore))
  case last => exact congrArg (done s) ((endlC_walks h).trans (if_neg (not_lt.mpr hlast)))
  case ends => exact congrArg (done s) ((endWalkC_walks h).trans (congrArg (c.setCore n.val) (if_neg fun hdrain => hstall hdrain.1)))
  case drains => exact congrArg (done s) ((endWalkC_walks h).trans (congrArg (c.setCore n.val) (if_pos ⟨hstall, .inr rfl⟩)))

/-- Settles O19: QSEL, the credit and the room of the queue decide what an ISSUE does. -/
theorem issueEntry : Obligations.IssueEntry := by
  unfold Obligations.IssueEntry
  intro n s c x e sel q full op
  have hissue (h : c.walks n 0 0 ∨ c.walks n 0 9) (hsel : sel < 10) : issueC c n.val = c.issueOp n.val e :=
    (issueC_walks h).trans (if_neg (not_le.mpr hsel))
  refine ⟨fun h hreserved => congrArg (done s) ((issueC_walks h).trans (if_pos hreserved)),
    fun h hsel => ⟨fun hmode hcredit => ?uncredited, fun hcredit hfull => ?full, fun hcredit hroom => ?room⟩, fun h hroom => ?resume⟩
  case uncredited => exact congrArg (done s) ((hissue h hsel).trans (Cluster.issueOp_of_uncredited hmode hcredit))
  case full => exact congrArg (done s) ((hissue h hsel).trans (Cluster.issueOp_of_full hcredit (decide_eq_true hfull)))
  case room => exact congrArg (done s) ((hissue h hsel).trans (Cluster.issueOp_of_room hcredit (decide_eq_false hroom)))
  case resume => exact congrArg (done s) (walkerQfullResumeC_of_room h (decide_eq_false hroom))

/-- Settles O20: every bit of a patched template. Where the field reaches into STAMP, it is the field's. -/
theorem deltaPatch : Obligations.DeltaPatch := by
  unfold Obligations.DeltaPatch
  refine ⟨fun x t d => ?_, fun c n => rfl⟩
  intro i ss fs flo fw stamp field _ _ b hb
  have hi (k : Fin 4) : i k = x.loopIdx k.val := (x.loopIdx_eq k).symm
  have hstamp : x.sstep d = i 0 * ss 0 + i 1 * ss 1 + i 2 * ss 2 + i 3 * ss 3 := by
    simp only [hi]
    exact x.sstep_eq d
  have hfield : x.fstep d = i 0 * fs 0 + i 1 * fs 1 + i 2 * fs 2 + i 3 * fs 3 := by
    simp only [hi]
    exact x.fstep_eq d
  rw [Core.getLsbD_patch x t d hb, hstamp, hfield]

end

section
/-! What steers a walk: comparators and segment records (R264, R274, R275, R375). -/

namespace Sys2Proof.Machine

/-! Comparators. -/

/-- The source that a comparator word names, as a word: LCC, or tk since LCC 0; 0 before LCC 0 (R264). -/
def Cluster.compWord (c : Cluster) (w : W64) : W32 :=
  match c.run with
  | some r =>
    if r.begun then (if w.extractLsb' 62 2 = 0 then BitVec.ofNat 32 c.tim.lcc else (c.tb.value - r.tb0).truncate 32) else 0
  | none => 0

theorem Cluster.toNat_compWord (c : Cluster) (w : W64) : (c.compWord w).toNat = c.compSource (fld w 63 62) := by
  have hsrc : fld w 63 62 = 0 ↔ w.extractLsb' 62 2 = 0 := by
    rw [fld_eq_extract, ← BitVec.toNat_inj]
    rfl
  unfold Cluster.compWord Cluster.compSource
  cases c.run with
  | none => rfl
  | some r =>
    cases hbegun : r.begun with
    | false => simp [hbegun]
    | true =>
      simp only [hbegun, if_true, Bool.not_true, Bool.false_eq_true, if_false, hsrc]
      split
      · exact BitVec.toNat_ofNat ..
      · exact BitVec.toNat_setWidth ..

/-- Comparator k of core n: its word, and the delta entry that it names (R264). -/
def Cluster.comparator (c : Cluster) (n k : Nat) : W64 := c.regAt (rCore n + 0x100 + 8 * k)
def Cluster.compDelta (c : Cluster) (n k : Nat) : Nat := ((c.comparator n k).extractLsb' 54 8).toNat

theorem Cluster.compTrue_iff (c : Cluster) (n k : Nat) : c.compTrue n k = true ↔
    ((c.comparator n k).extractLsb' 0 32 + BitVec.ofInt 32 ((c.core n).sstep (c.deltaEntry n (c.compDelta n k)))).ule
      (c.compWord (c.comparator n k)) = true := by
  have hbase (x : W32) (i : Int) : (x + BitVec.ofInt 32 i).toNat = (((x.toNat : Int) + i) % 2 ^ 32).toNat := by
    rw [← BitVec.setWidth_eq x, ← BitVec.ofNat_toNat, ← BitVec.ofInt_natCast, ← BitVec.ofInt_add, BitVec.toNat_ofInt]
    simp
  rw [BitVec.ule_iff_toNat_le, hbase, Cluster.toNat_compWord]
  exact decide_eq_true_iff

section
variable {c : Cluster} {n : CoreId}

/-- Comparator k is read without error: its table word, and its delta entry. -/
def Cluster.compSound (c : Cluster) (n : CoreId) (k : Nat) : Prop :=
  c.tabSound [rCore n.val + 0x100 + 8 * k]
    ∧ c.imemSound n (if c.compDelta n.val k = 0 then [] else [((c.core n.val).delta + 32 * c.compDelta n.val k, 32)])

theorem Cluster.withComp_sound {k : Nat} (f : Cluster → Cluster) (h : c.compSound n k) : c.withComp n.val k f = f c := by
  obtain ⟨htab, himem⟩ := h
  exact (Cluster.withTab_sound _ htab).trans (Cluster.withImem_sound _ himem)

section
variable (hsound : c.compSound n (c.walkEntry n.val / 2 ^ 25 % 8))
include hsound

theorem waitkC_walks (h : c.walks n 3 0) : waitkC c n.val = if c.compTrue n.val (c.walkEntry n.val / 2 ^ 25 % 8)
    then c.setCore n.val { c.core n.val with widx := (c.core n.val).widx + 1 } else c.setCore n.val { c.core n.val with wwait := 7 } := by
  refine (Cluster.walkStep_walks h List.mem_cons_self).trans ((Cluster.withComp_sound _ hsound).trans ?_)
  rw [Core.walkNext_of_idle h.wwait_eq]

theorem waitkReleaseC_of_true (h : c.walks n 3 7) (htrue : c.compTrue n.val (c.walkEntry n.val / 2 ^ 25 % 8) = true) :
    waitkReleaseC c n.val = c.setCore n.val (c.core n.val).walkNext :=
  (Cluster.walkStep_walks h List.mem_cons_self).trans ((Cluster.withComp_sound _ hsound).trans (if_pos htrue))

end

/-! Segment records. -/

/-- The table index and the base that a SEL entry names (R274). -/
def selTab (e : Nat) : Nat := e / 2 ^ 16 % 2 ^ 12
def selBase (e : Nat) : Nat := e % 2 ^ 12

/-- A record is known for a SEL that has stalled: a readable one, or its own is known to be lost (R274, R275). -/
def Cluster.segKnown (c : Cluster) (n tab : Nat) : Prop := (c.segHead n).isSome = true ∨ tab ∈ (c.core n).segLost

theorem exec_sel_of_known {s : State} {p : Instr × Nat} (hp : p ∈ [(Instr.sel n, 0), (Instr.selResume n, 2)])
    (h : s.cl.walks n 4 p.2) (hknown : p.2 = 2 → s.cl.segKnown n.val (selTab (s.cl.walkEntry n.val))) :
    exec p.1 s = done s (s.cl.doSel n.val (s.cl.walkEntry n.val)) := by
  simp only [List.mem_cons, List.not_mem_nil, or_false] at hp
  rcases hp with rfl | rfl
  · exact congrArg (done s) (Cluster.walkStep_walks h List.mem_cons_self)
  · refine congrArg (done s) ((Cluster.walkStep_walks h List.mem_cons_self).trans (if_pos ?_))
    rw [Bool.or_eq_true, List.contains_iff_mem]
    exact hknown rfl

theorem exec_sel_of_unknown {s : State} {p : Instr × Nat} (hp : p ∈ [(Instr.sel n, 0), (Instr.selResume n, 2)])
    (h : s.cl.walks n 4 p.2) (hresume : p.2 = 2) (hunknown : ¬ s.cl.segKnown n.val (selTab (s.cl.walkEntry n.val))) :
    exec p.1 s = done s s.cl := by
  simp only [List.mem_cons, List.not_mem_nil, or_false] at hp
  rcases hp with rfl | rfl
  · exact absurd hresume (Nat.zero_ne_add_one 1)
  · refine congrArg (done s) ((Cluster.walkStep_walks h List.mem_cons_self).trans (if_neg ?_))
    rw [Bool.or_eq_true, List.contains_iff_mem]
    exact hunknown

end

section
variable {c d : Cluster} {n tab base e : Nat} {ent : List Byte} {r : SegRec} {rest : List SegRec}

theorem Cluster.doSel_of_entry (hent : c.segEntry (selTab e) = (some ent, d)) : c.doSel n e =
    if segVar ent then d.setCore n ((d.core n).walkTo (selBase e + (d.ctx (segCtx ent)).var)) else d.selBranch n (selTab e) (selBase e) := by
  have hent : c.segEntry (e / 2 ^ 16 % 4096) = (some ent, d) := hent
  simp only [Cluster.doSel, hent]
  rfl

/-- A record is readable from the cycle that executes its LCC value on (R274). -/
theorem Cluster.segHead_of_readable (hq : (c.core n).segq = r :: rest)
    (h : r.at_ < c.tim.lcc ∨ (r.at_ = c.tim.lcc ∧ c.heldNow = false)) : c.segHead n = some r := by
  have hread : (decide (r.at_ < c.lcc) || (r.at_ == c.lcc && !c.heldNow)) = true := by
    rw [Bool.or_eq_true, Bool.and_eq_true, decide_eq_true_iff, beq_iff_eq, Bool.not_eq_true']
    exact h
  simp only [Cluster.segHead, hq, hread, if_true]

theorem Cluster.segHead_of_unreadable
    (h : ∀ r rest, (c.core n).segq = r :: rest → c.tim.lcc < r.at_ ∨ (r.at_ = c.tim.lcc ∧ c.heldNow = true)) : c.segHead n = none := by
  rw [Cluster.segHead]
  split
  next r rest hq =>
    refine if_neg ?_
    rcases h r rest hq with hlate | ⟨hnow, hheld⟩
    · simp [Cluster.lcc, hlate.not_gt, hlate.ne']
    · simp [Cluster.lcc, hnow, hheld]
  next => rfl

theorem Cluster.selBranch_of_own (hhead : c.segHead n = some r) (htab : r.tab = tab) : c.selBranch n tab base =
    c.setCore n { (c.core n).walkTo (base + r.alt) with segq := (c.core n).segq.drop 1 } := by
  simp only [Cluster.selBranch, hhead, htab, if_true]

theorem Cluster.selBranch_of_other (hhead : c.segHead n = some r) (htab : r.tab ≠ tab) : c.selBranch n tab base =
    c.setCore n { (c.core n).walkTo base with segLost := (c.core n).segLost.erase tab } := by
  simp only [Cluster.selBranch, hhead, if_neg htab]

theorem Cluster.selBranch_of_lost (hhead : c.segHead n = none) (hlost : tab ∈ (c.core n).segLost) : c.selBranch n tab base =
    c.setCore n { (c.core n).walkTo base with segLost := (c.core n).segLost.erase tab } := by
  simp only [Cluster.selBranch, hhead, List.contains_iff_mem.mpr hlost, if_true]

theorem Cluster.selBranch_of_none (hhead : c.segHead n = none) (hlost : tab ∉ (c.core n).segLost) : c.selBranch n tab base =
    c.setCore n { c.core n with wwait := 2 } := by
  simp only [Cluster.selBranch, hhead, mt List.contains_iff_mem.mp hlost, Bool.false_eq_true, if_false]

end

end Sys2Proof.Machine

open Sys2Proof Sys2Proof.Machine

/-- Settles O21: the comparator decides a WAITK, and the region's kind and the head record a SEL. -/
theorem walkChoices : Obligations.WalkChoices := by
  unfold Obligations.WalkChoices
  intro n s c x e gives k cmp d sum src true_ didx sound tab base
  have htrue : c.compTrue n.val k = true ↔ true_ := by
    have hsum : x.sstep d = sum := x.sstep_eq d
    have hsrc : c.compWord cmp = src := rfl
    rw [Cluster.compTrue_iff]
    change (cmp.extractLsb' 0 32 + BitVec.ofInt 32 (x.sstep d)).ule (c.compWord cmp) = true ↔ _
    rw [hsum, hsrc]
  refine ⟨fun h hsound => ⟨fun hyes => ?passes, fun hno => ?stalls⟩, fun h hsound hyes => ?released, fun p hp h =>
    ⟨fun hresume hnone hlost => ?unknown, fun hknown ent d hent => ?known⟩⟩
  case passes => exact congrArg (done s) ((waitkC_walks hsound h).trans (if_pos (htrue.mpr hyes)))
  case stalls => exact congrArg (done s) ((waitkC_walks hsound h).trans (if_neg (mt htrue.mp hno)))
  case released => exact congrArg (done s) (waitkReleaseC_of_true hsound h (htrue.mpr hyes))
  case unknown =>
    refine exec_sel_of_unknown hp h hresume ?_
    rintro (hsome | hmem)
    · exact absurd hsome (by rw [hnone]; exact Bool.false_ne_true)
    · exact hlost hmem
  case known =>
    intro y goes
    have hsel := (exec_sel_of_known hp h hknown).trans (congrArg (done s) (Cluster.doSel_of_entry hent))
    have hbranch (hkind : segVar ent = false) : exec p.1 s = done s (d.selBranch n.val tab base) := by
      rw [hkind] at hsel
      exact hsel
    refine ⟨fun hkind => ?variant, fun hkind r rest hq hread => ⟨fun htab => ?own, fun htab => ?other⟩,
      fun hkind hunread => ⟨fun hlost => ?lost, fun hlost => ?none⟩⟩
    case variant =>
      rw [hkind] at hsel
      exact hsel
    case own =>
      refine (hbranch hkind).trans (congrArg (done s) ((Cluster.selBranch_of_own (Cluster.segHead_of_readable hq hread) htab).trans ?_))
      rw [hq]
      rfl
    case other =>
      exact (hbranch hkind).trans (congrArg (done s) (Cluster.selBranch_of_other (Cluster.segHead_of_readable hq hread) htab))
    case lost => exact (hbranch hkind).trans (congrArg (done s) (Cluster.selBranch_of_lost (Cluster.segHead_of_unreadable hunread) hlost))
    case none => exact (hbranch hkind).trans (congrArg (done s) (Cluster.selBranch_of_none (Cluster.segHead_of_unreadable hunread) hlost))

end

section
/-! Sync records: what a record asks for, and how a walker's wait ends (R266, R272, R352 to R361). -/

namespace Sys2Proof.Machine

/-! The record. -/

/-- The template of the SYNC entry of core n, which holds its record (R266). -/
def Cluster.syncRecord (c : Cluster) (n : Nat) : BitVec 256 :=
  BitVec.ofNat 256 (c.imemAt n ((c.core n).tmpl + 32 * (c.walkEntry n / 2 ^ 13 % 2 ^ 11)) 32)

/-- The fields of a record: its context, kind, target, operand and timeout (R266). -/
def recCtx (t : BitVec 256) : Nat := (t.extractLsb' 242 6).toNat
def recKind (t : BitVec 256) : Nat := (t.extractLsb' 239 3).toNat % 4
def recTarget (t : BitVec 256) : Nat := (t.extractLsb' 128 32).toNat
def recOperand (t : BitVec 256) : W32 := t.extractLsb' 192 32
def recTimeout (t : BitVec 256) : Nat := (t.extractLsb' 160 32).toNat

theorem recTarget_lt (t : BitVec 256) : recTarget t < 2 ^ 32 := (t.extractLsb' 128 32).isLt

section
variable {c : Cluster} {n : CoreId}

/-- A SYNC entry acts where its walker has no wait at the unit, also when it has found no signal slot before (R361). -/
theorem syncRecC_walks (h : c.walks n 6 0 ∨ c.walks n 6 3) (hfree : vat c.waiters n.val none = none) :
    syncRecC c n.val = c.doSyncRec n.val (c.walkEntry n.val) := by
  have hwaits : ¬ (vat c.waiters n.val none).isSome = true := by rw [hfree]; exact Bool.false_ne_true
  rcases h with h | h
  · exact (Cluster.walkStep_walks h List.mem_cons_self).trans (if_neg hwaits)
  · exact (Cluster.walkStep_walks h (List.mem_cons_of_mem _ List.mem_cons_self)).trans (if_neg hwaits)

end

section
variable {c : Cluster} {n : Nat}

theorem Cluster.doSyncRec_of_torn (htorn : c.tornSeen (recCtx (c.syncRecord n)) = true) :
    c.doSyncRec n (c.walkEntry n) = c.setCore n (c.core n).walkNext := if_pos htorn

variable (hlive : c.tornSeen (recCtx (c.syncRecord n)) = false)
include hlive

theorem Cluster.doSyncRec_of_signal (hsignal : (c.syncRecord n).getLsbD 238 = true) :
    let t := c.syncRecord n
    c.doSyncRec n (c.walkEntry n) = c.recSignal n (recCtx t) (recKind t) (recTarget t) (recOperand t) := by
  refine (if_neg (by exact Bool.eq_false_iff.mp hlive)).trans ((if_pos hsignal).trans ?_)
  rw [ofNat_fld _ (show 223 + 1 = 192 + 32 from rfl)]
  rfl

theorem Cluster.doSyncRec_of_wait (hwait : (c.syncRecord n).getLsbD 238 = false) :
    let t := c.syncRecord n
    c.doSyncRec n (c.walkEntry n) = c.recWait n (recCtx t) (recKind t) (recTarget t) (recOperand t) (recTimeout t) := by
  refine (if_neg (by exact Bool.eq_false_iff.mp hlive)).trans ((if_neg (by exact Bool.eq_false_iff.mp hwait)).trans ?_)
  rw [ofNat_fld _ (show 223 + 1 = 192 + 32 from rfl)]
  rfl

end

/-! Its signal. -/

section
variable {c : Cluster} {n : CoreId} {ctx kind target : Nat} {operand : W32}

theorem Cluster.recSignal_cross_of_free (hcross : target.testBit 31 = true) {k : Nat} (hk : k < 8)
    (hfree : vat (c.core n.val).sig k none = none) (hlow : ∀ j < k, vat (c.core n.val).sig j none ≠ none) :
    c.recSignal n.val ctx kind target operand = { c.setCore n.val { (c.core n.val).walkNext with
      sig := vset (c.core n.val).sig k (some (newSignal target kind operand ctx c.nextOrd)) } with nextOrd := c.nextOrd + 1 } := by
  let y : Core := { c.core n.val with sig := vset (c.core n.val).sig k (some (newSignal target kind operand ctx c.nextOrd)) }
  have hcore : ({ c.setCore n.val y with nextOrd := c.nextOrd + 1 } : Cluster).core n.val = y := Cluster.core_setCore _ _ _ n.isLt
  simp only [Cluster.recSignal, hcross, if_true, Cluster.takeSigSlot_of_free hk hfree hlow]
  rw [hcore]
  exact congrArg (fun e : Cluster => { e with nextOrd := c.nextOrd + 1 }) (Cluster.setCore_setCore ..)

theorem Cluster.recSignal_cross_of_full (hcross : target.testBit 31 = true) (hfull : ∀ k < 8, vat (c.core n.val).sig k none ≠ none) :
    c.recSignal n.val ctx kind target operand = c.setCore n.val { c.core n.val with wwait := 3 } := by
  simp only [Cluster.recSignal, hcross, if_true, Cluster.takeSigSlot_of_full hfull]

variable (htab : c.tabSound (c.vidKeys ctx (target % 2 ^ 16)))
include htab

section
variable (hown : target.testBit 31 = false)
include hown

theorem Cluster.recSignal_of_untranslated (hnone : c.translateVid ctx (target % 2 ^ 16) = none) :
    c.recSignal n.val ctx kind target operand = (c.setCore n.val (c.core n.val).walkNext).raise 0x1E n.val ctx := by
  have hvid : c.vid ctx (target % 65536) = (c, none) := hnone ▸ Cluster.vid_sound htab
  simp only [Cluster.recSignal, hown, Bool.false_eq_true, if_false, hvid]
  rfl

theorem Cluster.recSignal_of_translated {e : W32} (hsome : c.translateVid ctx (target % 2 ^ 16) = some e) :
    c.recSignal n.val ctx kind target operand = (c.setCore n.val (c.core n.val).walkNext).syncPost (xWord e) ctx (1 + n.val)
      (.signal kind operand ctx c.straps.toNat n.val) none := by
  have hvid : c.vid ctx (target % 65536) = (c, some e) := hsome ▸ Cluster.vid_sound htab
  simp only [Cluster.recSignal, hown, Bool.false_eq_true, if_false, hvid]

end

/-! Its wait. -/

/-- The waiter of a record that waits on the word of a store entry (R266, R356). -/
def Cluster.recWaiter (c : Cluster) (ctx kind target : Nat) (operand e : W32) : Waiter :=
  { live := false, id := c.nextOrd, word := xWord e, vid := target % 2 ^ 16, kind := kind, operand := operand, ctx := ctx,
    engine := true, deadline := 0, rd := 0, rs := 0 }

theorem Cluster.recWait_of_untranslated {timeout : Nat} (hnone : c.translateVid ctx (target % 2 ^ 16) = none) :
    c.recWait n.val ctx kind target operand timeout = (c.setCore n.val (c.core n.val).walkNext).raise 0x1E n.val ctx := by
  have hvid : c.vid ctx (target % 65536) = (c, none) := hnone ▸ Cluster.vid_sound htab
  simp only [Cluster.recWait, hvid]
  rfl

theorem Cluster.recWait_of_translated {timeout : Nat} {e : W32} (hsome : c.translateVid ctx (target % 2 ^ 16) = some e) :
    c.recWait n.val ctx kind target operand timeout = ({ c.setCore n.val { c.core n.val with wwait := 3 } with
      waiters := vset c.waiters n.val (some (c.recWaiter ctx kind target operand e)) } : Cluster).syncPost (xWord e) ctx (1 + n.val)
        (.wait n.val timeout) none := by
  have hvid : c.vid ctx (target % 65536) = (c, some e) := hsome ▸ Cluster.vid_sound htab
  simp only [Cluster.recWait, hvid]
  rfl

end

/-! The end of a walker's wait. -/

/-- The walker of core n goes on, and its wait is gone (R358). -/
def Cluster.walkGoesOn (c : Cluster) (n : Nat) : Cluster :=
  ({ c with waiters := vset c.waiters n none } : Cluster).setCore n (c.core n).walkNext

@[simp] theorem Cluster.walkGoesOn_waiters (c : Cluster) (n : Nat) : (c.walkGoesOn n).waiters = vset c.waiters n none := rfl

theorem Cluster.waitCounted_walkGoesOn (c : Cluster) (n : Nat) : c.waitCounted.walkGoesOn n =
    ({ c.waitCounted with waiters := vset c.waiters n none } : Cluster).setCore n (c.core n).walkNext := by
  rw [Cluster.walkGoesOn, Cluster.waitCounted_waiters, Cluster.waitCounted_core]

section
variable {c : Cluster} {n timeout : Nat} {wt : Waiter} {x : W64} (hengine : wt.engine = true)
include hengine

theorem Cluster.evalWait_walker_of_holds (h : waitHolds wt.kind wt.operand x = true) :
    c.evalWait n timeout wt x = (c.waitCounted.walkGoesOn n, waitEffect wt.kind x) :=
  (if_pos h).trans (by rw [hengine]; rfl)

theorem Cluster.evalWait_walker_of_poll (h : waitHolds wt.kind wt.operand x = false) :
    c.evalWait n 0 wt x = (c.waitCounted.walkGoesOn n, x) :=
  (if_neg (Bool.eq_false_iff.mp h)).trans ((if_pos rfl).trans (by rw [hengine]; rfl))

end

/-! A wait that has expired. -/

/-- The cores and the waits of the synchronisation unit. -/
def Cluster.coreWaits (c : Cluster) : Vector Core 8 × Vector (Option Waiter) 8 := (c.cores, c.waiters)

theorem Cluster.coreWaits_teardown (c : Cluster) (k : Nat) : (c.teardown k).coreWaits = c.coreWaits := by
  rw [Cluster.teardown]
  split
  · rw [Cluster.keepTorn]
    split <;> rfl
  · simp [Cluster.coreWaits]

theorem Cluster.coreWaits_raise (c : Cluster) (src inst ctx : Nat) : (c.raise src inst ctx).coreWaits = c.coreWaits := by
  rw [Cluster.raise]
  split
  · rfl
  · split
    · exact c.coreWaits_teardown ctx
    · rfl

theorem Cluster.coreWaits_expireWait (c : Cluster) (n : Nat) {wt : Waiter} (hengine : wt.engine = true) (x : W64) :
    (c.expireWait n wt x).coreWaits = (c.walkGoesOn n).coreWaits := by
  simp only [Cluster.expireWait, Cluster.coreWaits_raise, Cluster.endWait, hengine, if_true]
  split <;> simp [Cluster.coreWaits, Cluster.walkGoesOn, Cluster.core, Core.walkNext]

end Sys2Proof.Machine

open Sys2Proof Sys2Proof.Machine

/-- Settles O22: the form and the target of a record decide what it asks for, and its condition, timeout and deadline when the
walk goes on. -/
theorem syncRecords : Obligations.SyncRecords := by
  unfold Obligations.SyncRecords
  refine ⟨fun n s => ?ask, fun c n o wt timeout v => ?evaluate⟩
  case ask =>
    intro c x t ctx kind target operand timeout on vid word h hfree
    have hexec : exec (.syncRec n) s = done s (c.doSyncRec n.val (c.walkEntry n.val)) := congrArg (done s) (syncRecC_walks h hfree)
    refine ⟨fun htorn => ?torn, fun hlive hsignal hcross => ⟨fun k hk hempty hlow => ?slot, fun hfull => ?full⟩,
      fun hlive htab hown => ⟨fun hnone => ?untranslated, fun e hsome => ⟨fun hsignal => ?own, fun hwait => ?wait⟩⟩⟩
    case torn => exact hexec.trans (congrArg (done s) (Cluster.doSyncRec_of_torn htorn))
    case slot =>
      have hbit : target.testBit 31 = true := testBit_top_of_le hcross (recTarget_lt t)
      refine hexec.trans (congrArg (done s) ((Cluster.doSyncRec_of_signal hlive hsignal).trans
        ((Cluster.recSignal_cross_of_free hbit hk hempty hlow).trans ?_)))
      have hcore : on.core n.val = x.walkNext := Cluster.core_setCore _ _ _ n.isLt
      rw [hcore]
      exact congrArg (fun e : Cluster => { e with nextOrd := c.nextOrd + 1 }) (Cluster.setCore_setCore ..).symm
    case full =>
      have hbit : target.testBit 31 = true := testBit_top_of_le hcross (recTarget_lt t)
      exact hexec.trans (congrArg (done s) ((Cluster.doSyncRec_of_signal hlive hsignal).trans (Cluster.recSignal_cross_of_full hbit hfull)))
    case untranslated =>
      refine hexec.trans (congrArg (done s) ?_)
      cases hform : t.getLsbD 238 with
      | true =>
        exact (Cluster.doSyncRec_of_signal hlive hform).trans
          (Cluster.recSignal_of_untranslated htab (testBit_top_of_lt (hown hform)) hnone)
      | false => exact (Cluster.doSyncRec_of_wait hlive hform).trans (Cluster.recWait_of_untranslated htab hnone)
    case own =>
      exact hexec.trans (congrArg (done s) ((Cluster.doSyncRec_of_signal hlive hsignal).trans
        (Cluster.recSignal_of_translated htab (testBit_top_of_lt (hown hsignal)) hsome)))
    case wait =>
      exact hexec.trans (congrArg (done s) ((Cluster.doSyncRec_of_wait hlive hwait).trans (Cluster.recWait_of_translated htab hsome)))
  case evaluate =>
    intro x val full holds counted back goesOn hfind hwt hlive hid hword hengine hkind habsent
    have hholds : waitHolds wt.kind wt.operand v = holds := waitHolds_eq hkind _ v
    refine ⟨fun hwhat => ?wait, fun hwhat => ?expired⟩
    case wait =>
      have happly := c.syncApply_of_wait v hwhat hwt hlive hid
      refine ⟨fun h => ?released, fun h htimeout => ?polled, fun h htimeout => ?registered⟩
      case released =>
        rw [Cluster.evalWait_walker_of_holds hengine (hholds.trans h), Cluster.waitCounted_walkGoesOn] at happly
        refine Cluster.syncReadDone_eq hfind happly (Cluster.tryWaiters_of_releasesNone ?_)
        exact Cluster.releasesNone_of_vset n.isLt rfl habsent (fun y hy => nomatch hy)
      case polled =>
        rw [htimeout, Cluster.evalWait_walker_of_poll hengine (hholds.trans h), Cluster.waitCounted_walkGoesOn] at happly
        refine Cluster.syncReadDone_eq hfind happly (Cluster.tryWaiters_of_releasesNone ?_)
        exact Cluster.releasesNone_of_vset n.isLt rfl habsent (fun y hy => nomatch hy)
      case registered =>
        rw [Cluster.evalWait_of_registered (hholds.trans h) htimeout, Cluster.waitCounted_waiters] at happly
        refine Cluster.syncReadDone_eq hfind happly (Cluster.tryWaiters_of_releasesNone ?_)
        refine Cluster.releasesNone_of_vset n.isLt rfl habsent (fun y hy => ?_)
        cases hy
        exact hholds.trans h
    case expired =>
      intro d
      have hends := c.coreWaits_expireWait n.val hengine v
      have hwaiters : (c.expireWait n.val wt v).waiters = vset c.waiters n.val none := congrArg Prod.snd hends
      have hd : d = (c.expireWait n.val wt v).writesBack o v :=
        Cluster.syncReadDone_eq hfind (c.syncApply_of_expire v hwhat hwt hlive hid) (Cluster.tryWaiters_of_releasesNone
          (Cluster.releasesNone_of_vset n.isLt hwaiters habsent (fun y hy => nomatch hy)))
      have hcore : d.core n.val = x.walkNext := by
        rw [hd]
        have hcores : (c.expireWait n.val wt v).cores = (c.walkGoesOn n.val).cores := congrArg Prod.fst hends
        change vat (c.expireWait n.val wt v).cores n.val Core.reset = _
        rw [hcores]
        exact vat_vset_self _ _ _ _ n.isLt
      refine ⟨?_, congrArg Core.widx hcore, congrArg Core.wwait hcore⟩
      rw [hd]
      change vat (c.expireWait n.val wt v).waiters n.val none = none
      rw [hwaiters, vat_vset_self _ _ _ _ n.isLt]

end
